-- ==== Sys2Proof/Word.lean ====
section
/-!
DEFINITION. Word.lean: the machine's word types, the sparse table type and the register field type.
-/
namespace Sys2Proof

/-- One byte. -/
abbrev Byte := BitVec 8

/-- One 32-bit register word (R10, R11). -/
abbrev Word := BitVec 32

/-- A sparse table: pairs of key and value, keys strictly rising, no entry equal to the value an absent key has. -/
abbrev Tab (α : Type) := List (Nat × α)

/-- A field of a register: the register's BAR0 address, the field's lowest bit and its width in bits. -/
structure Field where
  reg : Nat
  lo : Nat
  width : Nat
  deriving DecidableEq, Repr

end Sys2Proof
end

