-- ==== Sys2Proof/Syntax.lean ====
section
/-!
DEFINITION. Syntax.lean: the commands of the block, one constructor per row of the spec's table of operations and events
(spec/opcode_table.json), with the row's operands: what the sender, a pin or the passing of time brings with it.
-/
namespace Sys2Proof

/-- A Mace processor: Curator 0 or 1 (A, B), or a Clove engine. -/
inductive Proc where
  | cur (c : Fin 2)
  | clove (e : Fin 16)
  deriving DecidableEq, Repr

/-- An edge of a PPS input: `phase` × 0.125 ns after the last tick, and whether it falls (R50, R74). -/
structure PpsEdge where
  phase : Fin 32
  fall : Bool
  deriving DecidableEq, Repr

/-- What a received training sequence carries beside its type: the partner's FOM, and its invalid characters by kind (R85, R93). -/
structure SequenceBody where
  fom : Byte
  errs : List (Fin 3)
  deriving DecidableEq, Repr

/-- How a management frame arrived: whether its FCS is right, and how many periods of the port's clock before the last tick its
start-of-frame delimiter passed (R65, R661). -/
structure FrameArrival where
  fcsOk : Bool
  back : Nat
  deriving DecidableEq, Repr

/-- The fields of a three-bus instruction beside its operation (R550): accumulator; X register and modifier; which of the two Y and C
registers and modifiers; the parallel Y move with its direction (true: store) and general register; CONJ, NEG, OCPLX, XCPLX. -/
structure DBits where
  acc : Fin 4
  ax : Fin 4
  mx : Fin 4
  ay : Fin 2
  my : Fin 2
  ac : Fin 2
  mc : Fin 2
  yen : Bool
  ydir : Bool
  g : Fin 32
  conj : Bool
  neg : Bool
  ocplx : Bool
  xcplx : Bool
  deriving DecidableEq, Repr

/-- One command to the block. -/
inductive Instr where
  /-- REGISTER_WRITE (R11): A write to a register that has no row of its own takes effect according to its access code. -/
  | registerWrite (m : Fin 21) (a : Nat) (v : Word)
  /-- RC_READ (R11): A read of a read-clear counter returns its value and clears it, keeping any increment of the same cycle. -/
  | rcRead (m : Fin 21) (a : Nat)
  /-- RWA_WRITE (R354): A write to an RWA register stages the value in the shadow image, rebuilds the image and returns the shadow to LOADED, or is refused. -/
  | rwaWrite (r : Nat) (v : Word)
  /-- TIME_NOW_READ (R49): A read of TIME.NOW_NS_LO returns device time and latches TIME.NOW_NS_HI and TIME.NOW_FRAC from the same tick. -/
  | timeNowRead
  /-- SI_NOW_READ (R69): A read of TIME.SI_NOW_LO returns the low word and latches the high word. -/
  | siNowRead
  /-- SI_EXPECT_READ (R69): A read of TIME.SI_EXPECT_LO returns the largest SI whose start time has passed and latches the high word. -/
  | siExpectRead
  /-- BLOCK_DEADLINE (R34): The deadline of a block passes, and each of its channel blocks that is still open closes with its missing samples flagged. -/
  | blockDeadline (b : Nat)
  /-- SLEW_END (R46): The slewed offset reaches zero and TIME.INCR returns to 4.0 ns at the next tick. -/
  | slewEnd
  /-- REACQUIRE (R58): A write of TIME.CTRL.REACQUIRE enters ACQUIRING, or restarts acquisition when already in ACQUIRING. -/
  | reacquire
  /-- NEXT_SEC_WRITE (R60): A write of TIME.NEXT_SEC_HI sets TIME.STATE.NEXT_VALID for the label of the next PPS edge. -/
  | nextSecWrite (v : Word)
  /-- PPS_EDGE (R50): A PPS edge on SRC0 or SRC1 is time-stamped, gives one offset sample, and may apply the acquisition step. -/
  | ppsEdge (n : Fin 2) (edge : PpsEdge)
  /-- VREF_OFFSET (R50): A write of TIME.VREF_OFFSET gives one SRC3 offset sample. -/
  | vrefOffset (v : Word)
  /-- CHAIN_OFFSET (R50): A write of TIME.CHAIN_OFFSET gives one SRC2 offset sample and updates the chain time disagreement check. -/
  | chainOffset (v : Word)
  /-- SOURCE_CLOCK_LOSS (R51): SRC0 or SRC1 misses three consecutive clock periods and is disqualified at once. -/
  | sourceClockLoss (n : Fin 2)
  /-- PPS_TIMEOUT (R51): No PPS edge arrives within 1.000 001 s of the previous one and the source is disqualified. -/
  | ppsTimeout (n : Fin 2)
  /-- VREF_TIMEOUT (R51): No SRC2 or SRC3 offset sample arrives within TIME.VREF_TIMEOUT and the source is disqualified. -/
  | vrefTimeout (n : Fin 2)
  /-- QUAL_GAIN (R53): A disqualified source present with no hit for TIME.QUAL_CLEAR seconds becomes qualified. -/
  | qualGain (n : Fin 4)
  /-- QUAL_WINDOW_END (R52): The hit window of TIME.QUAL.WINDOW ends and the hit count of the source starts afresh. -/
  | qualWindowEnd (n : Fin 4)
  /-- REVERT_WAIT (R55): A revertive candidate has stood qualified in a higher slot for TIME.REVERT_WAIT seconds and is made active. -/
  | revertWait
  /-- FREQUENCY_LOCK_HELD (R58): In ACQUIRING frequency lock has held for 2 s, and the step is armed for the next PPS edge or offset sample. -/
  | frequencyLockHeld
  /-- ACQ_TIMEOUT (R58): TIME.ACQ_TIMEOUT expires in ACQUIRING, moving to the next qualified candidate or to FREE_RUN. -/
  | acqTimeout
  /-- HOLD_LIMIT (R58): TIME.HOLD_SECONDS reaches TIME.HOLD_LIMIT and HOLDOVER becomes LOST. -/
  | holdLimit
  /-- PPS_OUT_RISE (R67): Device time plus TIME.PPS_OFFSET crosses a whole second and PPS_OUT rises unless squelched. -/
  | ppsOutRise
  /-- PPS_OUT_FALL (R67): The PPS_OUT pulse width of TIME.OUT.PPS_WIDTH microseconds ends and PPS_OUT falls. -/
  | ppsOutFall
  /-- QUIRE_PLL_LOSS (R81): A quire's transmit PLL loses lock and its eight lanes go to OFF with PLL_LOSS raised. -/
  | quirePllLoss (q : Fin 24)
  /-- QUIRE_PLL_LOCK (R81): The quire PLL has held lock for 1 ms and each enabled lane of the quire re-enters DETECT. -/
  | quirePllLock (q : Fin 24)
  /-- DETECT_PULSE (R102): Every 1 ms in DETECT the lane sends a receiver-detection pulse. -/
  | detectPulse (n : Fin 194)
  /-- DETECT_EXIT (R102): A receiver is detected and receive signal has been present for 100 µs, and the lane enters TRAIN at its start rate. -/
  | detectExit (n : Fin 194)
  /-- TSB_SWITCH (R102): In TRAIN the FOM has held at or above ADAPT_MIN for 1 ms and the lane switches from TSA to TSB. -/
  | tsbSwitch (n : Fin 194) (fom : Byte)
  /-- TRAIN_DONE (R102): TSB has been sent for 1 µs in TRAIN and the lane enters LOCK. -/
  | trainDone (n : Fin 194)
  /-- TRAIN_TIMEOUT (R103): TRAIN_TIMEOUT expires and the lane retrains at the next lower enabled rate, raising TRAIN_FAIL on wrap to the start rate. -/
  | trainTimeout (n : Fin 194)
  /-- LOCK_TIMEOUT (R102): LOCK_TIMEOUT expires and the lane returns to TRAIN at the same rate, raising LOCK_FAIL. -/
  | lockTimeout (n : Fin 194)
  /-- EXCH_TIMEOUT (R102): EXCH_TIMEOUT expires before both ACKs and the lane returns to TRAIN, raising EXCH_FAIL. -/
  | exchTimeout (n : Fin 192)
  /-- TRAINING_SEQUENCE (R93): A received training sequence records the partner's FOM and may complete LOCK or force a lane out of EXCHANGE or ACTIVE. -/
  | trainingSequence (n : Fin 194) (tsb : Bool) (body : SequenceBody)
  /-- CAPABILITY_SET (R94): A valid capability set is received, recorded in PCAP and used for negotiation and the exit from EXCHANGE. -/
  | capabilitySet (n : Fin 192) (flags : Byte) (body : List Byte) (crc : Word) (errs : List (Fin 3))
  /-- CHARACTER_RECEIVE (R85): A received character is decoded, counted if invalid or stray, and may drop symbol lock. -/
  | characterReceive (n : Fin 194) (g : BitVec 10) (mark : Fin 3)
  /-- SIGNAL_LOSS (R104): Loss of receive signal for 10 µs sends the lane to DETECT. -/
  | signalLoss (n : Fin 194)
  /-- BIT_LOCK_LOSS (R104): Loss of bit lock sends the lane to TRAIN. -/
  | bitLockLoss (n : Fin 194)
  /-- FRAME_RECEIVE (R86): An ACTIVE lane closes a frame at K29.7, marks it BAD if needed and passes it to its quire, or drops it when the receive buffer is full. -/
  | frameReceive (n : Fin 192)
  /-- RUNAWAY (R87): No K29.7 arrives within 4,096 characters after K27.7 and the frame is closed as BAD. -/
  | runaway (n : Fin 192)
  /-- ELASTIC (R91): The elastic buffer overflows or underflows and any open frame is closed as BAD. -/
  | elastic (n : Fin 192)
  /-- MARGIN (R108): The FOM has stayed below MARGIN for 1 ms in ACTIVE and MARGIN is raised. -/
  | margin (n : Fin 192) (fom : Byte)
  /-- ADAPT_STEP (R107): Each millisecond in ACTIVE adaptation moves each equaliser value by at most one step unless frozen. -/
  | adaptStep (n : Fin 192) (fom : Byte) (ctle : BitVec 4) (t1 : BitVec 5) (t2 : BitVec 5) (t3 : BitVec 5) (t4 : BitVec 5) (t5 : BitVec 5)
  /-- LANE_RETRAIN (R116): A write of LANE[n].CTRL.RETRAIN sends an ACTIVE lane to TRAIN. -/
  | laneRetrain (n : Fin 192)
  /-- LANE_TEST_SET (R110): A write of LOOP, PAT or PAT_CHK enters PATTERN when permitted, or is ignored with CTRL_REFUSED. -/
  | laneTestSet (n : Fin 192) (loop : BitVec 2) (pat : BitVec 3) (chk : Bool)
  /-- SIMPLEX_PHASE_END (R105): A timed phase of the fixed simplex sequence ends and the lane moves to the next phase or to ACTIVE. -/
  | simplexPhaseEnd (n : Fin 192)
  /-- EGRESS_FRAME_SENT (R20): A lane finishes sending an egress frame and takes the next frame of its stream. -/
  | egressFrameSent (n : Fin 192)
  /-- SAMPLES_FRAME (R135): A frame from a lane is checked in order, accepted into staging or discarded and counted, and may complete its channel block. -/
  | samplesFrame (q : Fin 24)
  /-- SKEW_EXPIRY (R141): A channel block's skew window expires and the block closes short with missing samples flagged. -/
  | skewExpiry (slot : Nat) (b : Nat)
  /-- CHANNEL_BLOCK_RELEASE (R144): A closed channel block is released in SI order to the corner-turn writer and the beam-role tiles. -/
  | channelBlockRelease (slot : Nat) (b : Nat)
  /-- STAGING_FREE (R144): Every reader has read a released channel block and its staging space is freed. -/
  | stagingFree (slot : Nat) (b : Nat)
  /-- MON_RESTART (R159): A write of INGEST.CTRL.MON_RESTART resolves a restart SI at the next pass boundary. -/
  | monRestart
  /-- MONITOR_RESTART (R159): At the restart SI each input's monitor loses its sums and history and its conditions are re-armed. -/
  | monitorRestart
  /-- DWELL_WINDOW_READY (R165): Every channel block of a dwell window has been written and the window is ready for the array. -/
  | dwellWindowReady (m : Nat) (old : Bool)
  /-- ARRAY_WINDOW_START (R192): The array starts a ready dwell window, retiring pending tiles and renaming spare positions. -/
  | arrayWindowStart
  /-- ROUND_READ_START (R193): Buffer u mod 2 has been released by every tile and the Archive reader starts round u. -/
  | roundReadStart
  /-- ORDER_ISSUE (R195): The sequencer cuts the plan and writes an order into a tile queue that has room. -/
  | orderIssue (t : Fin 400) (waited : Bool)
  /-- TILE_ROUND_START (R194): A tile starts its next round once its previous round's last operand has entered, waiting for missing group spans. -/
  | tileRoundStart (t : Fin 400) (waited : Nat)
  /-- ORDER_EXECUTE (R202): A tile takes the order at the head of its queue and begins it. -/
  | orderExecute (t : Fin 400) (parity : Bool) (stalled : Nat)
  /-- PASS_END (R203): A pass ends with its last operand, the cell registers move to the shadow, and the write-back is started. -/
  | passEnd (t : Fin 400)
  /-- SHADOW_DRAIN (R182): The shadow registers finish draining their 1,024 sums and a stalled tile resumes. -/
  | shadowDrain (t : Fin 400) (stalled : Nat)
  /-- WRITEBACK_RETIRE (R211): A write-back into a sum slot retires, releasing the next tag and issuing the slot's SPILL after LAST. -/
  | writebackRetire (t : Fin 400) (stalled : Nat)
  /-- SPILL (R247): A spill reads the accumulators of its block, adds or overwrites the slot sums and updates the mark word. -/
  | spill (w : Fin 4) (waited : Nat)
  /-- SPILL_ACK (R245): The HBM controller answers the last write of a spill and the spill is acknowledged and retires. -/
  | spillAck (w : Fin 4)
  /-- FENCE_RETIRE (R206): A FENCE order retires once every earlier order, lower-tag write-back and spill it awaits has retired. -/
  | fenceRetire (t : Fin 400)
  /-- DRAIN_RETIRE (R207): A DRAIN order retires once its integration's passes, write-backs and spills in its tile have retired. -/
  | drainRetire (t : Fin 400)
  /-- CHECK_PERIOD (R222): A check period ends and a CHECK is due for each tile, counted in CHECK_MISSED if no opportunity arose. -/
  | checkPeriod
  /-- CHECK_NOW (R229): A write of ARRAY.CTRL.CHECK_NOW asks every tile for a check at its next opportunity. -/
  | checkNow
  /-- CHECK (R222): A tile completes a pattern check and passes it or becomes retire-pending with cause CHECK. -/
  | check (t : Fin 400) (pass : Bool)
  /-- PARITY (R223): A Carrel parity error marks the affected sums CARREL_CORRUPT and a second one in a window marks the tile retire-pending. -/
  | parity (p : Fin 400) (off : Fin 0x40000)
  /-- RETIRE_REQ (R227): A write of ARRAY.RETIRE_REQ marks a physical tile retire-pending with cause HOST. -/
  | retireReq (j : Fin 13) (bits : Word)
  /-- INTEGRATION_BOUNDARY (R240): At an integration SI the integration in progress closes and a new one opens in the other bank. -/
  | integrationBoundary (x : Nat)
  /-- BANK_TABLES_REWRITTEN (R246): The accumulation paths finish rewriting a bank's valid counts and mark words for a new integration. -/
  | bankTablesRewritten (k : Fin 2)
  /-- DRAIN_START (R261): All DRAINs and spills of a bank have retired and the output stage takes a staging slot and begins the drain. -/
  | drainStart
  /-- FOLIO_DONE (R262): The drain writes the colophon, completing the folio in its staging slot and releasing the bank. -/
  | folioDone
  /-- FOLIO_EGRESS_DONE (R277): Every FOLIO frame of a folio has been sent or aborted and the egress route finishes with its slot. -/
  | folioEgressDone (k : Fin 8)
  /-- STAGE_RELEASE (R277): A write of ACCUM.STAGE[s].CTRL.RELEASE finishes the PCIe route for a staging slot. -/
  | stageRelease (k : Fin 8)
  /-- BEAM_READOUT (R306): A tile's beam sums for a channel block are complete and are read out, requantised and detected. -/
  | beamReadout (t : Fin 400)
  /-- LATE (R309): A VBEAM frame's sums are not read out by its deadline minus 3 µs and the frame is built flagged with LATE. -/
  | late (t : Fin 400) (slot : Nat) (b : Nat)
  /-- VBEAM_FRAME_START (R310): A ready VBEAM frame starts on the first lane of its stream that becomes free by that lane's limit. -/
  | vbeamFrameStart (n : Fin 192)
  /-- VDROP (R310): No lane of the stream can start a VBEAM frame by its limit and the frame is discarded. -/
  | vdrop
  /-- DBEAM_SEND (R313): All values of a DBEAM span are written and the frame is sent. -/
  | dbeamSend
  /-- CAND (R320): Every band sum of a candidate period is complete and the top events are sent as CAND frames. -/
  | cand
  /-- SWITCH_REQUEST (R301): A write of BEAM.SWITCH_CTRL.GO requests a weight switch at an SI, or is refused. -/
  | switchRequest (p : Fin 2)
  /-- WEIGHT_SWITCH (R302): At the switch pass boundary each loaded set makes page p active, splitting chains inside a block. -/
  | weightSwitch
  /-- WLOAD_SET (R300): A write of 1 to a bit of BEAM.WLOAD[p] declares page p loaded for a set. -/
  | wloadSet (p : Fin 2) (bits : Word)
  /-- PENDING_SWITCH (R303): At the first pass boundary after its WLOAD bit is set a pending set's switch takes effect. -/
  | pendingSwitch
  /-- SEARCH_RESTART (R322): A write of BEAM.CTRL.SEARCH_RESTART clears every search level at the next pass boundary. -/
  | searchRestart
  /-- LOAD (R353): The LOAD command copies an image from the Archive or a store slot into the shadow. -/
  | load
  /-- LOAD_COMPLETE (R352): The copy ends and the shadow becomes LOADED, or EMPTY on a load error. -/
  | loadComplete (ok : Bool)
  /-- VERIFY (R347): The VERIFY command starts the checks of the shadow image. -/
  | verify
  /-- VERIFY_COMPLETE (R349): Verification ends and the shadow becomes VERIFIED, or is rejected and emptied. -/
  | verifyComplete
  /-- STORE (R355): The STORE command writes the verified shadow image to a configuration store slot. -/
  | store
  /-- STORE_COMPLETE (R355): A store write and its read-back compare end with STORE_DONE or STORE_FAIL. -/
  | storeComplete (readBack : List Byte)
  /-- SET_BOOT (R612): The SET_BOOT command writes a new boot block naming the store slot. -/
  | setBoot
  /-- NO_BOOT (R612): The NO_BOOT command writes a new boot block naming no Catalogue slot. -/
  | noBoot
  /-- SCHEDULE (R356): The SCHEDULE command resolves the accession SI, computes any gap and schedules or refuses the accession. -/
  | schedule
  /-- CANCEL (R361): The CANCEL command returns a scheduled shadow to VERIFIED, or is refused in the cycle of x. -/
  | cancel
  /-- CLEAR (R371): The CLEAR command empties the shadow, except in SCHEDULED and GAP. -/
  | clear
  /-- ACCEDED (R362): At the accession SI the shadow is put into force, light at once or heavy into GAP. -/
  | acceded
  /-- REMAP (R366): When the retiring work is done or at t′(y) − R the remap loads roles, plan, Clove code, lanes, maps and regions. -/
  | remap
  /-- RESUMED (R366): At the resume SI the device resumes under the new Catalogue and the shadow becomes EMPTY. -/
  | resumed
  /-- HELLO_SEND (R377): A chain port sends HELLO every 1 µs in HELLO and every 1 ms in UP. -/
  | helloSend (p : Fin 2)
  /-- HELLO (R377): A valid HELLO is received; two identical ones bring the port UP, and its content drives address and role changes. -/
  | hello (p : Fin 2) (b : List Byte)
  /-- HELLO_TIMEOUT (R377): A chain port in HELLO has not received two identical HELLOs within 10 ms and returns to TRAIN. -/
  | helloTimeout (p : Fin 2)
  /-- CHAIN_LINK_LOSS (R387): A chain port leaves UP, making the device the tail or an orphan and voiding remote mailbox notices. -/
  | chainLinkLoss (p : Fin 2) (to' : Fin 3)
  /-- ENUM (R384): A received ENUM assigns, keeps or moves the member's address and is forwarded or answered with ENUM_END. -/
  | enum (b : List Byte)
  /-- ENUM_END (R385): The head receives ENUM_END, ending the sweep and recording its result. -/
  | enumEnd (b : List Byte)
  /-- ENUM_TIMEOUT (R385): CHAIN.CFG.ENUM_TIMEOUT expires before ENUM_END and the sweep ends with ENUM_FAIL. -/
  | enumTimeout
  /-- VERSION_SET (R391): A received VERSION_SET makes the member adopt the chain version. -/
  | versionSet (b : List Byte)
  /-- CHAIN_ENUM (R385): A write of CHAIN.CTRL.ENUM starts a KEEP sweep on the head. -/
  | chainEnum
  /-- CHAIN_FORCE (R385): A write of CHAIN.CTRL.FORCE starts a FORCE sweep on the head. -/
  | chainForce
  /-- CLEAR_ADDR (R413): A write of CHAIN.CTRL.CLEAR_ADDR clears a member's address and makes it UNADDRESSED. -/
  | clearAddr
  /-- CHAIN_ENUM_WAIT_TIMEOUT (R388): A member at start-up step 13 has received no sweep within 1 s and ends the step without an address. -/
  | chainEnumWaitTimeout
  /-- SYNC (R395): A SYNC message is received on CHAIN_UP and raises stamp source 0. -/
  | sync (pos : Fin 4) (b : List Byte)
  /-- SYNC_FU (R394): A SYNC_FU message carrying t1 is received and queued for firmware. -/
  | syncFu (b : List Byte)
  /-- DREQ (R395): A DREQ message is received on CHAIN_DN and raises stamp source 2. -/
  | dreq (pos : Fin 4) (b : List Byte)
  /-- DRESP (R394): A DRESP message carrying t4 is received and queued for firmware. -/
  | dresp (b : List Byte)
  /-- STAMP_SEND (R395): A SYNC or DREQ leaves its port and raises stamp source 1 or 3 with the delimiter position. -/
  | stampSend (pos : Fin 4)
  /-- TXQ_SEND (R413): A write of CHAIN.TXQ_CTRL.SEND sends the queued firmware message. -/
  | txqSend (p : Fin 2)
  /-- RXQ_POP (R413): A write of CHAIN.RXQ_CTRL.POP drops the oldest queued firmware message. -/
  | rxqPop
  /-- CHAIN_ACCEDE (R401): CHAIN.CMD with TYPE ACCEDE and GO makes the head act on and broadcast an accession, or refuses it. -/
  | chainAccede (modes : Byte)
  /-- CHAIN_SNAP (R401): CHAIN.CMD with TYPE SNAP and GO makes the head act on and broadcast a snapshot, or refuses it. -/
  | chainSnap (modes : Byte)
  /-- CHAIN_CANCEL (R401): CHAIN.CMD with TYPE CANCEL and GO makes the head act on and broadcast a cancellation, or refuses it. -/
  | chainCancel (modes : Byte)
  /-- CHAIN_REPEAT (R406): CHAIN.CMD with REPEAT resends the last command with its original SEQ. -/
  | chainRepeat
  /-- ACCEDE (R402): A received ACCEDE is checked and the shadow scheduled at x or refused, and a REPORT is sent. -/
  | accede (b : List Byte)
  /-- SNAP (R407): A received SNAP is checked and a snapshot is scheduled at its SI, and a REPORT is sent. -/
  | snap (b : List Byte)
  /-- CHAIN_CANCEL_RECEIVE (R408): A received CANCEL cancels a matching scheduled accession and a REPORT is sent. -/
  | chainCancelReceive (b : List Byte)
  /-- REPORT (R405): The head receives a REPORT and sets the sender's bit in ACK_MAP or NAK_MAP, ending collection with CMD_DONE when all are in. -/
  | report (b : List Byte)
  /-- CMD_TIMEOUT (R405): CHAIN.REPLY_TIMEOUT expires before every report is in and collection ends with CMD_TIMEOUT. -/
  | cmdTimeout
  /-- MBOX (R524): An MBOX message is written into a remote mailbox's receive buffer and presented as a notice, or answered as occupied. -/
  | mbox (p : Fin 2) (b : List Byte)
  /-- MBOX_ACK (R524): An MBOX_ACK message completes the outbound notice of a remote mailbox with its return code. -/
  | mboxAck (p : Fin 2) (b : List Byte)
  /-- MAP_APPLY (R419): A write of HBMC.CTRL.MAP_APPLY holds requests, copies the new masks and starts the initialising scrub, or is refused. -/
  | mapApply
  /-- INITIALISING_SCRUB_DONE (R441): The initialising scrub has zeroed the whole Archive and held requests are released. -/
  | initialisingScrubDone
  /-- HBM_REQUEST (R427): A request enters a pseudo-channel queue and is scheduled by rank, age and bank readiness under the hazard rule. -/
  | hbmRequest (cls : Fin 5) (src : Nat) (tag : Nat) (hint : Bool) (wr : Bool) (off : Nat) (data : List (Option Byte))
  /-- HBM_REQUEST_COMPLETE (R430): A read returns its data, possibly poisoned, or a write is issued and its response returned. -/
  | hbmRequestComplete (k : Nat) (fault : Fin 4)
  /-- HBM_AGE_PROMOTE (R428): A request has waited HBMC.AGE_LIMIT cycles and is promoted to the rank of the data class. -/
  | hbmAgePromote (k : Nat)
  /-- PAGE_TIMEOUT (R432): An open row has gone HBMC.PAGE_TIMEOUT cycles without access and is closed. -/
  | pageTimeout (pc : Fin 64) (bank : Fin 48)
  /-- REFRESH_DUE (R435): A bank's refresh falls due and is issued, or postponed up to the JESD238 limit. -/
  | refreshDue (pc : Fin 64) (bank : Fin 48) (put : Bool)
  /-- HBM_TEMPERATURE_READ (R434): Each millisecond the stack temperatures are read, switching double refresh and raising HOT95. -/
  | hbmTemperatureRead (t0 : Byte) (t1 : Byte)
  /-- SCRUB_PERIOD (R440): A patrol scrub pass starts at the interval of HBMC.SCRUB_PERIOD. -/
  | scrubPeriod
  /-- SCRUB_NOW (R440): A write of HBMC.CTRL.SCRUB_NOW starts a patrol pass at once at 4 GB/s. -/
  | scrubNow
  /-- SCRUB_DONE (R440): A patrol scrub pass completes and is counted. -/
  | scrubDone (fixed : List Nat) (bad : List Nat)
  /-- RATE_CHANGE (R445): A write of HBMC.RATE outside training holds requests and relocks the interface at the new rate. -/
  | rateChange (v : Word)
  /-- RATE_CHANGED (R445): The relock and any retraining end and held requests are released. -/
  | rateChanged
  /-- TRAINING_PHASE_DONE (R442): A training phase ends on a pseudo-channel and the next begins, or VERIFY passes or fails. -/
  | trainingPhaseDone (pc : Fin 64) (pass : Bool) (rfm : Bool) (moved : Byte)
  /-- MATRIX_TRANSACTION (R451): A master presents a transaction that the matrix decodes, splits, orders and arbitrates to its target. -/
  | matrixTransaction (m : Fin 20) (id : Fin 32) (qos : BitVec 4) (hint : Bool) (wr : Bool) (addr : BitVec 40) (data : List (Option Byte))
  /-- MATRIX_RESPONSE (R466): A target answers a transaction and the response returns to its master, or is discarded if late. -/
  | matrixResponse (k : Nat)
  /-- TIMEOUT (R471): A transaction unanswered for MATRIX.TIMEOUT cycles receives an error response. -/
  | timeout (k : Nat)
  /-- MATRIX_AGE_PROMOTE (R464): A request has waited MATRIX.AGE_LIMIT cycles at a port and is served before other high-class requests. -/
  | matrixAgePromote (k : Nat)
  /-- SAFFRON_WINDOW (R465): A 1,024-cycle budget window ends and each port's Saffron beat count starts afresh. -/
  | saffronWindow
  /-- REMAP_WRITE (R454): A write of MATRIX.CTRL.REMAP_A or REMAP_B changes what window 0 shows for later transactions. -/
  | remapWrite (v : Word)
  /-- CARREL_WINDOW_ACCESS (R456): An access to a Carrel window is carried out or refused according to the tile's role. -/
  | carrelWindowAccess (m : Fin 20) (id : Fin 32) (qos : BitVec 4) (j : Fin 400) (off : Fin 0x40000) (wr : Bool) (data : List (Option Byte))
  /-- ALIAS_WRITE (R457): A write to a beam-set alias is copied into every tile of the set, or refused. -/
  | aliasWrite (m : Fin 20) (id : Fin 32) (qos : BitVec 4) (k : Fin 32) (off : Fin 0x40000) (data : List (Option Byte))
  /-- REGISTER_BRIDGE_ACCESS (R459): The register bridge issues a transaction as 32-bit peripheral accesses, or answers with an error. -/
  | registerBridgeAccess (m : Fin 20) (id : Fin 32) (qos : BitVec 4) (off : Fin 0x1000000) (wr : Bool) (data : List (Option Byte))
  /-- DMA_ENABLE (R498): A write of DMA.CH[n].CTRL.ENABLE starts a channel with a valid ring, or disables it. -/
  | dmaEnable (n : Fin 32) (on : Bool)
  /-- DMA_STOP (R498): A write of DMA.CH[n].CTRL.STOP sends the channel to STOPPING. -/
  | dmaStop (n : Fin 32)
  /-- DMA_RESUME (R498): A write of DMA.CH[n].CTRL.RESUME moves a halted channel to FETCH. -/
  | dmaResume (n : Fin 32)
  /-- DOORBELL (R483): A write of DMA.CH[n].DOORBELL fetches the descriptor at HEAD again. -/
  | doorbell (n : Fin 32)
  /-- DMA_CFG_WRITE (R499): A write of a channel's CFG or RING registers takes effect in OFF or HALTED and is otherwise refused. -/
  | dmaCfgWrite (n : Fin 32) (which : Fin 3) (v : Word)
  /-- DESCRIPTOR_FETCH (R483): The fetched descriptor is taken and checked, or the channel enters WAIT. -/
  | descriptorFetch (n : Fin 32) (host : List Byte) (ok : Bool)
  /-- DMA_BURST (R477): The engine arbitrates a ready channel and issues a burst under its pacing and buffer room. -/
  | dmaBurst (cyc : Nat)
  /-- DMA_READ_RESPONSE (R486): Read data returns into the buffer and the write engine forms and issues writes. -/
  | dmaReadResponse (n : Fin 32) (host : List Byte) (ok : Bool)
  /-- DMA_WRITE_RESPONSE (R494): A write response arrives, completing a fence or allowing the writeback of the descriptor. -/
  | dmaWriteResponse (n : Fin 32)
  /-- FENCE_TIMEOUT (R494): Write responses do not all arrive within DMA.FENCE_TIMEOUT and the descriptor ends with code 9. -/
  | fenceTimeout (n : Fin 32)
  /-- DMA_ERR (R495): An error response ends the descriptor as errored and the channel halts or continues under ON_ERR. -/
  | dmaErr (n : Fin 32) (wr : Bool) (beat : Fin 8)
  /-- LEASE_RENEW (R510): A write of CORE.LEASE_RENEW renews the lease, or is refused and counted. -/
  | leaseRenew (m : Fin 32) (v : Word)
  /-- LEASE_CLAIM (R513): A write of CORE.LEASE_CLAIM by a qualified Curator takes a vacant lease, or is refused. -/
  | leaseClaim (m : Fin 32) (v : Word)
  /-- LEASE_EXPIRY (R511): CORE.LEASE_LEFT reaches zero or the lease word mismatches, and the lease passes or becomes VACANT. -/
  | leaseExpiry
  /-- YIELD (R512): A write of CORE.CTRL.YIELD by the active Curator passes the lease to a qualified peer, or is refused. -/
  | yield (m : Fin 32)
  /-- CURATOR_HOLD (R506): A write of CORE.CTRL.HOLD_A or HOLD_B puts that Curator into HELD, releasing the lease if it holds it. -/
  | curatorHold (c : Fin 2)
  /-- CURATOR_RELEASE (R506): A write of CORE.CTRL.RELEASE_A or RELEASE_B moves a held Curator to BOOT. -/
  | curatorRelease (c : Fin 2)
  /-- FAILOVER_DONE (R514): A write of CORE.CTRL.FAILOVER_DONE by the lease owner ends the failover interval. -/
  | failoverDone (m : Fin 32)
  /-- FAILOVER_SLOW (R514): A failover interval reaches 2 ms and FAILOVER_SLOW is raised. -/
  | failoverSlow
  /-- HEALTH_WRITE (R516): A write of CORE.HEALTH[c] by its Curator publishes the health word, resets its age and may move it to STANDBY. -/
  | healthWrite (m : Fin 32) (c : Fin 2) (v : Word)
  /-- HEALTH_BAD (R516): A health word's age exceeds CORE.HEALTH_MAXAGE and the standby's GOOD bit falls. -/
  | healthBad (c : Fin 2)
  /-- TCM_UE (R505): An uncorrectable TCM error sets TCM_UE and, with UE_YIELD, takes the lease away. -/
  | tcmUe (c : Fin 2)
  /-- CKPT_WRITE (R518): A write of CORE.CKPT by the active Curator names the latest checkpoint copy. -/
  | ckptWrite (m : Fin 32) (v : Word)
  /-- BOOT_ROM_SELFTEST (R507): A Curator's boot ROM self-test completes and the lease passes to it at a start, or it is held. -/
  | bootRomSelftest (c : Fin 2) (pass : Bool)
  /-- POST (R521): A write of POST_HI posts a notice in a mailbox direction, or is refused. -/
  | post (k : Fin 48) (d : Fin 2) (m : Fin 32) (v : Word)
  /-- LOCK_READ (R528): A read of MBOX[k].D[d].LOCK acquires a free lock or returns its owner. -/
  | lockRead (k : Fin 48) (d : Fin 2) (m : Fin 32)
  /-- LOCK_RELEASE (R528): A write of 0 to LOCK by its owner releases the lock. -/
  | lockRelease (k : Fin 48) (d : Fin 2) (m : Fin 32)
  /-- NOTICE_READ (R522): A read of NOTICE[3] marks a posted notice READ. -/
  | noticeRead (k : Fin 48) (d : Fin 2)
  /-- ACK (R523): A write of MBOX[k].D[d].ACK acknowledges the notice and frees the direction, or is refused. -/
  | ack (k : Fin 48) (d : Fin 2) (m : Fin 32) (v : Word)
  /-- MAILBOX_TIMEOUT (R525): The acknowledge timer expires, freeing the direction with code 0xFFFE. -/
  | mailboxTimeout (k : Fin 48) (d : Fin 2)
  /-- CROSS (R529): Both directions have held unacknowledged notices for MBOX.CROSS_WAIT cycles and both notices are marked CROSS. -/
  | cross (k : Fin 48)
  /-- ADD (R546): ADD writes the wrapped sum of two registers. -/
  | add (p : Proc) (rd : Fin 32) (rs1 : Fin 32) (rs2 : Fin 32)
  /-- SUB (R546): SUB writes the wrapped difference of two registers. -/
  | sub (p : Proc) (rd : Fin 32) (rs1 : Fin 32) (rs2 : Fin 32)
  /-- AND (R545): AND writes the bitwise AND of two registers. -/
  | and (p : Proc) (rd : Fin 32) (rs1 : Fin 32) (rs2 : Fin 32)
  /-- OR (R545): OR writes the bitwise OR of two registers. -/
  | or (p : Proc) (rd : Fin 32) (rs1 : Fin 32) (rs2 : Fin 32)
  /-- XOR (R545): XOR writes the bitwise exclusive-or of two registers. -/
  | xor (p : Proc) (rd : Fin 32) (rs1 : Fin 32) (rs2 : Fin 32)
  /-- SLL (R546): SLL shifts left by the amount in bits [4:0]. -/
  | sll (p : Proc) (rd : Fin 32) (rs1 : Fin 32) (rs2 : Fin 32)
  /-- SRL (R546): SRL shifts right logically by the amount in bits [4:0]. -/
  | srl (p : Proc) (rd : Fin 32) (rs1 : Fin 32) (rs2 : Fin 32)
  /-- SRA (R546): SRA shifts right arithmetically by the amount in bits [4:0]. -/
  | sra (p : Proc) (rd : Fin 32) (rs1 : Fin 32) (rs2 : Fin 32)
  /-- SLT (R545): SLT writes 1 when the first register is less than the second, signed. -/
  | slt (p : Proc) (rd : Fin 32) (rs1 : Fin 32) (rs2 : Fin 32)
  /-- SLTU (R545): SLTU writes 1 when the first register is less than the second, unsigned. -/
  | sltu (p : Proc) (rd : Fin 32) (rs1 : Fin 32) (rs2 : Fin 32)
  /-- MUL (R546): MUL writes the low 32 bits of the product. -/
  | mul (p : Proc) (rd : Fin 32) (rs1 : Fin 32) (rs2 : Fin 32)
  /-- MULH (R546): MULH writes the high 32 bits of the signed product. -/
  | mulh (p : Proc) (rd : Fin 32) (rs1 : Fin 32) (rs2 : Fin 32)
  /-- MULHU (R546): MULHU writes the high 32 bits of the unsigned product. -/
  | mulhu (p : Proc) (rd : Fin 32) (rs1 : Fin 32) (rs2 : Fin 32)
  /-- DIV (R546): DIV writes the signed quotient truncated toward zero, with the fixed results for zero and overflow. -/
  | div (p : Proc) (rd : Fin 32) (rs1 : Fin 32) (rs2 : Fin 32)
  /-- DIVU (R546): DIVU writes the unsigned quotient. -/
  | divu (p : Proc) (rd : Fin 32) (rs1 : Fin 32) (rs2 : Fin 32)
  /-- REM (R546): REM writes the signed remainder. -/
  | rem (p : Proc) (rd : Fin 32) (rs1 : Fin 32) (rs2 : Fin 32)
  /-- REMU (R546): REMU writes the unsigned remainder. -/
  | remu (p : Proc) (rd : Fin 32) (rs1 : Fin 32) (rs2 : Fin 32)
  /-- MIN (R545): MIN writes the smaller of two registers. -/
  | min (p : Proc) (rd : Fin 32) (rs1 : Fin 32) (rs2 : Fin 32)
  /-- MAX (R545): MAX writes the larger of two registers. -/
  | max (p : Proc) (rd : Fin 32) (rs1 : Fin 32) (rs2 : Fin 32)
  /-- ADDS (R546): ADDS writes the saturated sum. -/
  | adds (p : Proc) (rd : Fin 32) (rs1 : Fin 32) (rs2 : Fin 32)
  /-- SUBS (R546): SUBS writes the saturated difference. -/
  | subs (p : Proc) (rd : Fin 32) (rs1 : Fin 32) (rs2 : Fin 32)
  /-- ADDI (R545): ADDI adds a sign-extended immediate. -/
  | addi (p : Proc) (rd : Fin 32) (rs1 : Fin 32) (imm : BitVec 16)
  /-- ANDI (R545): ANDI ANDs with a sign-extended immediate. -/
  | andi (p : Proc) (rd : Fin 32) (rs1 : Fin 32) (imm : BitVec 16)
  /-- ORI (R545): ORI ORs with a sign-extended immediate. -/
  | ori (p : Proc) (rd : Fin 32) (rs1 : Fin 32) (imm : BitVec 16)
  /-- XORI (R545): XORI exclusive-ors with a zero-extended immediate. -/
  | xori (p : Proc) (rd : Fin 32) (rs1 : Fin 32) (imm : BitVec 16)
  /-- SLTI (R545): SLTI compares with an immediate, signed. -/
  | slti (p : Proc) (rd : Fin 32) (rs1 : Fin 32) (imm : BitVec 16)
  /-- SLTIU (R545): SLTIU compares with an immediate, unsigned. -/
  | sltiu (p : Proc) (rd : Fin 32) (rs1 : Fin 32) (imm : BitVec 16)
  /-- LUI (R545): LUI writes the immediate shifted left by 16. -/
  | lui (p : Proc) (rd : Fin 32) (imm : BitVec 16)
  /-- SLLI (R545): SLLI shifts left by an immediate amount. -/
  | slli (p : Proc) (rd : Fin 32) (rs1 : Fin 32) (sh : Fin 32)
  /-- SRLI (R545): SRLI shifts right logically by an immediate amount. -/
  | srli (p : Proc) (rd : Fin 32) (rs1 : Fin 32) (sh : Fin 32)
  /-- SRAI (R545): SRAI shifts right arithmetically by an immediate amount. -/
  | srai (p : Proc) (rd : Fin 32) (rs1 : Fin 32) (sh : Fin 32)
  /-- LB (R543): LB loads a sign-extended byte with M-format addressing. -/
  | lb (p : Proc) (g : Fin 32) (mode : Fin 4) (a : Fin 8) (imm : BitVec 16)
  /-- LBU (R543): LBU loads a zero-extended byte. -/
  | lbu (p : Proc) (g : Fin 32) (mode : Fin 4) (a : Fin 8) (imm : BitVec 16)
  /-- LH (R543): LH loads a sign-extended halfword. -/
  | lh (p : Proc) (g : Fin 32) (mode : Fin 4) (a : Fin 8) (imm : BitVec 16)
  /-- LHU (R543): LHU loads a zero-extended halfword. -/
  | lhu (p : Proc) (g : Fin 32) (mode : Fin 4) (a : Fin 8) (imm : BitVec 16)
  /-- LW (R543): LW loads a word, taking an ALIGN, MAP or LOAD_ERR fault where it applies. -/
  | lw (p : Proc) (g : Fin 32) (mode : Fin 4) (a : Fin 8) (imm : BitVec 16)
  /-- LD (R541): LD loads a 64-bit value into a register pair. -/
  | ld (p : Proc) (g : Fin 32) (mode : Fin 4) (a : Fin 8) (imm : BitVec 16)
  /-- SB (R543): SB stores a byte. -/
  | sb (p : Proc) (g : Fin 32) (mode : Fin 4) (a : Fin 8) (imm : BitVec 16)
  /-- SH (R543): SH stores a halfword. -/
  | sh (p : Proc) (g : Fin 32) (mode : Fin 4) (a : Fin 8) (imm : BitVec 16)
  /-- SW (R543): SW stores a word. -/
  | sw (p : Proc) (g : Fin 32) (mode : Fin 4) (a : Fin 8) (imm : BitVec 16)
  /-- SD (R541): SD stores a register pair. -/
  | sd (p : Proc) (g : Fin 32) (mode : Fin 4) (a : Fin 8) (imm : BitVec 16)
  /-- BEQ (R545): BEQ branches when two registers are equal. -/
  | beq (p : Proc) (rs1 : Fin 32) (rs2 : Fin 32) (disp : BitVec 16)
  /-- BNE (R545): BNE branches when two registers differ. -/
  | bne (p : Proc) (rs1 : Fin 32) (rs2 : Fin 32) (disp : BitVec 16)
  /-- BLT (R545): BLT branches on signed less than. -/
  | blt (p : Proc) (rs1 : Fin 32) (rs2 : Fin 32) (disp : BitVec 16)
  /-- BGE (R545): BGE branches on signed greater or equal. -/
  | bge (p : Proc) (rs1 : Fin 32) (rs2 : Fin 32) (disp : BitVec 16)
  /-- BLTU (R545): BLTU branches on unsigned less than. -/
  | bltu (p : Proc) (rs1 : Fin 32) (rs2 : Fin 32) (disp : BitVec 16)
  /-- BGEU (R545): BGEU branches on unsigned greater or equal. -/
  | bgeu (p : Proc) (rs1 : Fin 32) (rs2 : Fin 32) (disp : BitVec 16)
  /-- J (R545): J jumps by a signed displacement. -/
  | j (p : Proc) (disp : BitVec 26)
  /-- JAL (R545): JAL jumps and writes the return address to g31. -/
  | jal (p : Proc) (disp : BitVec 26)
  /-- JR (R545): JR jumps to the address in a register. -/
  | jr (p : Proc) (rs1 : Fin 32)
  /-- JALR (R545): JALR jumps to a register address and writes the return address. -/
  | jalr (p : Proc) (rd : Fin 32) (rs1 : Fin 32)
  /-- SETA (R545): SETA sets an address register from two registers. -/
  | seta (p : Proc) (i : Fin 8) (rs1 : Fin 32) (rs2 : Fin 32)
  /-- GETA (R545): GETA reads the low 32 bits of an address register. -/
  | geta (p : Proc) (rd : Fin 32) (i : Fin 8)
  /-- GETAH (R545): GETAH reads bits [39:32] of an address register. -/
  | getah (p : Proc) (rd : Fin 32) (i : Fin 8)
  /-- SETM (R545): SETM sets a modifier register. -/
  | setm (p : Proc) (i : Fin 8) (rs1 : Fin 32)
  /-- GETM (R545): GETM reads a modifier register. -/
  | getm (p : Proc) (rd : Fin 32) (i : Fin 8)
  /-- ADDA (R545): ADDA adds a sign-extended register to an address register. -/
  | adda (p : Proc) (i : Fin 8) (rs1 : Fin 32)
  /-- MAC (R547): MAC adds, subtracts or writes a real or complex product into an accumulator. -/
  | mac (p : Proc) (n : Fin 4) (rs1 : Fin 32) (rs2 : Fin 32) (conj : Bool) (neg : Bool) (cplx : Bool) (z : Bool)
  /-- POW (R547): POW adds the power of a register to the real part of an accumulator. -/
  | pow (p : Proc) (n : Fin 4) (rs1 : Fin 32) (cplx : Bool)
  /-- ACLR (R547): ACLR clears both parts of an accumulator. -/
  | aclr (p : Proc) (n : Fin 4)
  /-- APACK (R549): APACK writes the scaled, saturated parts of an accumulator into one register. -/
  | apack (p : Proc) (rd : Fin 32) (n : Fin 4)
  /-- AMOVRE (R549): AMOVRE writes the scaled, saturated real part. -/
  | amovre (p : Proc) (rd : Fin 32) (n : Fin 4)
  /-- AMOVIM (R549): AMOVIM writes the scaled, saturated imaginary part. -/
  | amovim (p : Proc) (rd : Fin 32) (n : Fin 4)
  /-- ALD (R547): ALD loads both parts of an accumulator from two registers. -/
  | ald (p : Proc) (n : Fin 4) (rs1 : Fin 32) (rs2 : Fin 32)
  /-- RDCSR (R558): RDCSR reads a control and status register. -/
  | rdcsr (p : Proc) (rd : Fin 32) (csr : BitVec 12)
  /-- WRCSR (R558): WRCSR writes a control and status register. -/
  | wrcsr (p : Proc) (rs1 : Fin 32) (csr : BitVec 12)
  /-- RDTIME (R555): RDTIME writes device time at the latest tick plus 2 ns into a pair. -/
  | rdtime (p : Proc) (rd : Fin 32)
  /-- RDSI (R556): RDSI writes TIME.SI_NOW into a pair. -/
  | rdsi (p : Proc) (rd : Fin 32)
  /-- WAITSI (R556): WAITSI stalls until TIME.SI_NOW reaches a target SI. -/
  | waitsi (p : Proc) (rs1 : Fin 32)
  /-- WAITSI_END (R556): TIME.SI_NOW reaches the WAITSI target and the processor resumes. -/
  | waitsiEnd (p : Proc)
  /-- WFE (R557): WFE stalls a Clove engine until a selected FLAGS bit is set. -/
  | wfe (p : Proc) (rs1 : Fin 32)
  /-- WFE_END (R557): A selected FLAGS bit becomes set and the WFE stall ends. -/
  | wfeEnd (e : Fin 16)
  /-- FENCE (R557): FENCE stalls until every earlier matrix transaction has received its response. -/
  | fence (p : Proc)
  /-- TRAP (R561): TRAP takes an exception with cause TRAP and its code. -/
  | trap (p : Proc) (code : BitVec 12)
  /-- STORE_ERR (R561): An error response to an earlier store is taken as STORE_ERR at the next instruction boundary. -/
  | storeErr (p : Proc)
  /-- ERET (R587): ERET returns from an exception or handler, completing the handler's source and chaining or exiting. -/
  | eret (p : Proc)
  /-- STOP (R569): STOP moves a Clove engine to HALTED. -/
  | stop (p : Proc)
  /-- BMOV (R566): BMOV starts a move between local memory and a matrix address and advances its address registers. -/
  | bmov (p : Proc) (rd : Fin 32) (aL : Fin 8) (aR : Fin 8) (inward : Bool) (sel : Fin 4)
  /-- BMOV_COMPLETE (R566): Every response of an outstanding move has arrived and a stalled BMOV may proceed. -/
  | bmovComplete (e : Fin 16) (k : Fin 4)
  /-- BWAIT (R566): BWAIT stalls until every outstanding move has completed. -/
  | bwait (p : Proc)
  /-- D_MAC (R551): The three-bus MAC multiplies X by C into an accumulator and post-modifies the buses. -/
  | dMac (p : Proc) (d : DBits)
  /-- D_MACZ (R551): The three-bus MACZ writes X times C into an accumulator. -/
  | dMacz (p : Proc) (d : DBits)
  /-- D_MACY (R551): MACY accumulates X times Y. -/
  | dMacy (p : Proc) (d : DBits)
  /-- D_MACYZ (R551): MACYZ writes X times Y into an accumulator. -/
  | dMacyz (p : Proc) (d : DBits)
  /-- FTAP (R552): FTAP accumulates X times C and moves the X element one place along the delay line. -/
  | ftap (p : Proc) (d : DBits)
  /-- FTAPZ (R552): FTAPZ writes X times C and moves the X element one place along the delay line. -/
  | ftapz (p : Proc) (d : DBits)
  /-- D_POW (R551): The three-bus POW adds the power of X to the real part. -/
  | dPow (p : Proc) (d : DBits)
  /-- D_POWZ (R551): POWZ writes the power of X into the real part. -/
  | dPowz (p : Proc) (d : DBits)
  /-- D_MOVE (R551): The three-bus MOVE post-modifies X and C without access and makes any Y move. -/
  | dMove (p : Proc) (d : DBits)
  /-- LOOP (R554): LOOP runs the following body COUNT times, nesting two deep. -/
  | loop (p : Proc) (imm : Bool) (count : BitVec 13) (rc : Fin 32) (len : BitVec 12)
  /-- CLOVE_RUN (R569): A write of CLOVE[e].CTRL.RUN starts an engine from OFF at its entry or resumes it from HALTED. -/
  | cloveRun (e : Fin 16)
  /-- CLOVE_HALT (R569): A write of CLOVE[e].CTRL.HALT moves a running engine to HALTED. -/
  | cloveHalt (e : Fin 16)
  /-- CLOVE_RESET (R569): A write of CLOVE[e].CTRL.RESET sends an engine to OFF after its moves complete. -/
  | cloveReset (e : Fin 16)
  /-- KICK (R575): A write of CLOVE[e].CTRL.KICK sets the engine's KICK flag. -/
  | kick (e : Fin 16)
  /-- CLOVE_OUTSIDE_ACCESS (R565): An outside access to a Clove memory waits for a free cycle and then completes or receives an error. -/
  | cloveOutsideAccess (m : Fin 20) (id : Fin 32) (qos : BitVec 4) (e : Fin 16) (loc : Fin 0x60000) (wr : Bool) (parity : Bool) (data : List (Option Byte))
  /-- SOURCE_RISE (R579): An interrupt source rises and becomes pending toward each of its targets, or is held by moderation. -/
  | sourceRise (k : Fin 656)
  /-- SOURCE_FALL (R579): A level source falls and a pending state returns to IDLE. -/
  | sourceFall (k : Fin 656)
  /-- FAST_ENTRY (R589): A fast source is delivered and its handler's first instruction executes from the fast bank. -/
  | fastEntry (c : Fin 2) (during : Bool)
  /-- NORMAL_ENTRY (R586): A normal source wins, its frame is stored and its vector is entered. -/
  | normalEntry (c : Fin 2)
  /-- NORMAL_EXIT (R586): The normal exit loads the frame back and resumes at its PC. -/
  | normalExit (c : Fin 2)
  /-- MODERATION_RELEASE (R592): A group's moderation timer expires and its held sources are released. -/
  | moderationRelease (g : Fin 12)
  /-- HOST_ACK (R595): A write of IRQ.HOST_ACK completes a vector's inputs and resends the message if one is still pending. -/
  | hostAck (v : Fin 256)
  /-- MSIX_UNMASK (R594): Unmasking a vector or the function sends any held pending message. -/
  | msixUnmask (v : Option (Fin 256))
  /-- PCIE_DSTATE_CHANGE (R649): The function changes D-state, signalling PME in D3 and sending pending vectors on return to D0. -/
  | pcieDstateChange (d : Fin 3) (bme : Bool) (mse : Bool) (msix : Bool) (fmask : Bool) (pmeEn : Bool)
  /-- SLEEP (R604): A write of POWER.CTRL.SLEEP enters SLEEP through its ordered actions, or is refused. -/
  | sleep
  /-- WAKE (R608): A wake event restores the device to HOLD through its ordered actions. -/
  | wake (written : Bool)
  /-- COLD (R609): A cold reset, from VDD_IO rising, POWER.CTRL.COLD or escalation, starts a cold start. -/
  | cold (vddIo : Bool)
  /-- WARM (R609): A write of POWER.CTRL.WARM starts a warm start. -/
  | warm
  /-- RST_N_PULSE (R685): A low pulse of at least 1 µs on RST_N begins a warm start at its rising edge. -/
  | rstNPulse
  /-- START (R614): A start runs its fifteen steps in order and ends in HOLD, DONE, with warnings or FAILED. -/
  | start (sel : Fin 4) (head : Bool)
  /-- START_STEP_DONE (R614): A start step that waits for hardware completes and the next step begins. -/
  | startStepDone (us : Nat) (ok : Bool) (bad : List (Nat × Bool))
  /-- RAIL_TIMEOUT (R621): A power-record level does not reach power-good within 10 ms and step 1 fails with code 0x01. -/
  | railTimeout
  /-- START_RETRY (R616): 100 ms after a failure of step 1 or 2 the power manager runs the start once more from step 1. -/
  | startRetry
  /-- REF_WAIT_TIMEOUT (R615): Steps 11 and 12 have waited REF_WAIT seconds and the start goes on with warning REF or STEP. -/
  | refWaitTimeout
  /-- HOST_WAIT_TIMEOUT (R658): HOST_WAIT expires with no passing host firmware and step 6 fails. -/
  | hostWaitTimeout
  /-- VDD_IO_LOSS (R677): VDD_IO falls below 1.45 V, releasing the THERMTRIP latch and powering the device down. -/
  | vddIoLoss
  /-- PCIE_RESET (R609): PERST_N, hot reset or link-down resets the endpoint and applies the mailbox reset rules to the host end. -/
  | pcieReset
  /-- TEST_RESET (R609): TRST_N resets the boundary-scan TAP. -/
  | testReset
  /-- SLOW_ROUND (R625): Every 1 ms the power manager samples rails and diodes, updates the model and throttle and trims VDD_CORE. -/
  | slowRound (diodes : List (BitVec 16)) (mv : List (BitVec 16)) (iout : List (Option Nat)) (est : List Nat) (avs : Option (BitVec 16))
  /-- FAST_ROUND (R625): Every 50 µs while called for, the diodes are sampled and the model and throttle updated. -/
  | fastRound (diodes : List (BitVec 16)) (ps : List Nat)
  /-- PM_ALERT (R625): PM_ALERT_N is asserted and the power manager reads STATUS_WORD from every entry. -/
  | pmAlert (bad : Fin 17)
  /-- THERMTRIP (R637): A diode comparator, model point or CATTRIP crosses its limit and THERMTRIP_N shuts the device down. -/
  | thermtrip (d : Fin 18)
  /-- GENERATOR_DELIVERY (R603): In SELFTEST the generator delivers a channel block of synthetic samples at its delivery time. -/
  | generatorDelivery (slot : Nat) (b : Nat)
  /-- SNAPSHOT_REQUEST (R653): A write of SNAP.CTRL.GO resolves and schedules a local snapshot, or refuses it. -/
  | snapshotRequest (next : Bool)
  /-- SNAPSHOT_LATCH (R17): A block's processing reaches the snapshot SI and it latches its part of the set. -/
  | snapshotLatch (b : Fin 21)
  /-- SNAP_DONE (R654): The latched set is complete and the image, RS registers and status switch in one cycle. -/
  | snapDone
  /-- PCIE_INBOUND_REQUEST (R645): An inbound memory request becomes a matrix transaction of master 20, with errors reported to the host. -/
  | pcieInboundRequest (bar2 : Bool) (off : BitVec 36) (wr : Bool) (relaxed : Bool) (tag : BitVec 10) (data : List (Option Byte))
  /-- CPL_TIMEOUT (R647): An outbound completion does not arrive within HOSTIF.CPL_TIMEOUT and the access receives an error. -/
  | cplTimeout (n : Fin 32)
  /-- FW_COMMIT (R658): A write of HOSTIF.FW_CTRL.COMMIT copies a firmware chunk into the shared SRAM and raises FW_READY. -/
  | fwCommit
  /-- FW_DONE (R658): A write of HOSTIF.FW_CTRL.DONE checks the delivered image and raises FW_DONE or FW_FAIL. -/
  | fwDone
  /-- FW_STORE (R660): A write of HOSTIF.FW_CTRL.STORE checks an image in the Archive and writes it to a firmware slot. -/
  | fwStore
  /-- FW_STORE_COMPLETE (R660): A firmware slot write and its read-back compare end with a result code. -/
  | fwStoreComplete (readBack : List Byte)
  /-- SET_FIRST (R660): A write of HOSTIF.FW_CTRL.SET_FIRST writes FW_FIRST to the boot block. -/
  | setFirst
  /-- BUMP_ROLLBACK (R660): A write of HOSTIF.FW_CTRL.BUMP_ROLLBACK blows rollback fuses up to the running image's version. -/
  | bumpRollback
  /-- MGMT_FRAME_RECEIVE (R662): The management port receives a frame into the next owned buffer, or drops it. -/
  | mgmtFrameReceive (f : List Byte) (arrival : FrameArrival)
  /-- TX_DOORBELL (R662): A write of MGMT.TX_DOORBELL makes the port send owned frames in ring order. -/
  | txDoorbell
  /-- MGMT_FRAME_SENT (R662): A management frame is sent, stamped if requested, and its buffer returned. -/
  | mgmtFrameSent
  /-- MGMT_RATE_ALTERNATE (R661): With automatic rate the port switches between 10GBASE-R and 1000BASE-X after 1 s without link. -/
  | mgmtRateAlternate
  /-- BYPASS_INSTRUCTION (R687): The TAP BYPASS instruction selects the one-bit bypass register. -/
  | bypassInstruction (tdi : List Bool)
  /-- IDCODE (R687): The TAP IDCODE instruction shifts out 0x1204_8A6F. -/
  | idcode (tdi : List Bool)
  /-- SAMPLE_PRELOAD (R687): The TAP SAMPLE/PRELOAD instruction samples and preloads the boundary register. -/
  | samplePreload (pins : List Bool) (tdi : List Bool)
  /-- EXTEST (R687): The TAP EXTEST instruction drives the balls from the boundary register. -/
  | extest (pins : List Bool) (tdi : List Bool)
  /-- CLAMP (R687): The TAP CLAMP instruction holds outputs from the boundary register with bypass selected. -/
  | clamp (tdi : List Bool)
  /-- HIGHZ (R687): The TAP HIGHZ instruction places outputs in high impedance. -/
  | highz (tdi : List Bool)
  /-- EXTEST_PULSE (R687): The IEEE 1149.6 EXTEST_PULSE instruction tests AC-coupled differential pins. -/
  | extestPulse (pins : List Bool) (tdi : List Bool)
  /-- EXTEST_TRAIN (R687): The IEEE 1149.6 EXTEST_TRAIN instruction tests AC-coupled differential pins with a pulse train. -/
  | extestTrain (pins : List Bool) (tdi : List Bool)
  /-- BOOT_READ (R687): The TAP BOOT_READ instruction shifts out BOOT.STATUS and the THERMTRIP cause. -/
  | bootRead (tdi : List Bool)
  /-- BIT_LOCK (R102): In LOCK the lane receiver acquires bit lock on the partner's stream and sets LANE[n].STATE.BIT_LOCK, after which symbol lock can be sought. -/
  | bitLock (n : Fin 194)
  /-- ILLEGAL_INSTRUCTION (R545): Executing an instruction word whose opcode, function code or field values the set does not list takes an ILLEGAL exception or fault. -/
  | illegalInstruction (p : Proc) (why : Fin 3) (addr : BitVec 40)
  /-- REMAP_END (R572): The remap of a heavy accession completes, and each reloaded Clove engine enters RUN before the resume SI. -/
  | remapEnd
  /-- FORWARDED_MESSAGE (R382): A chain message addressed to another device, such as ENUM_END or REPORT, arrives at a member and is forwarded up or down and counted in CHAIN.FORWARDED. -/
  | forwardedMessage (p : Fin 2) (b : List Byte)
  /-- PCIE_LINK_UP (R643): The PCIe link trains and comes up, setting HOSTIF.STATUS.LINK_UP and raising the LINK event. -/
  | pcieLinkUp (speed : Fin 3) (width : Fin 3)
  /-- MGMT_LINK (R661): The management Ethernet link comes up or goes down, updating MGMT.STATUS.LINK, ending or restarting automatic rate alternation, and raising LINK. -/
  | mgmtLink (up : Bool)
  deriving DecidableEq, Repr

end Sys2Proof
end

