-- ==== Sys2Proof/Decode.lean ====
section
/-!
DEFINITION. Decode.lean: the command that a table word spells. The spec's table of operations and events gives no row any
bits (its `fields` are empty throughout), so no word spells a command.
-/
namespace Sys2Proof

/-- The command a word of `nbits` bits spells: none, since no row of the table has bits. -/
def decodeTableWord (_nbits _w : Nat) : Option Instr := none

end Sys2Proof
end

