-- ==== Sys2Proof/Config.lean ====
section
/-!
DEFINITION. Config.lean: what an implementation fixes and the spec does not state. Each is a constant without a body, so no
proof can rest on its value; where a fresh value is wanted each time it is applied to the counter `State.fresh`.
-/
namespace Sys2Proof.Config

/-- A value the spec leaves open, a new one at each use. -/
opaque freeNat : Nat → Nat

/-- A signed value the spec leaves open, a new one at each use. -/
opaque freeInt : Nat → Int

/-- A 32-bit register value the spec leaves open, a new one at each use. -/
opaque freeWord : Nat → Word

/-- A byte of memory that the spec leaves undefined, by the era of its loss and its address. -/
opaque freeByte (n a : Nat) : Byte

/-- How many refreshes of a bank JESD238 lets the controller postpone (R435); the spec does not print the number. -/
opaque refreshPostponeMax : Nat

/-- The initial management threshold that the stacks' mode registers give (R436). -/
opaque rfmThreshold : Nat

/-- θ of model point `i` and rail `r`, °C per W, and τ of point `i`, seconds: fixed per stepping and trimmed at test (R627). -/
opaque theta (i r : Nat) : Rat
opaque tau (i : Nat) : Rat

/-- The model point nearest to diode `d` (R627); the spec does not print the places. -/
opaque nearestPoint (d : Nat) : Fin 64

/-- The fused core voltages of the part's bin at 25, 65 and 105 °C, mV, and the voltage beyond those temperatures (R623). -/
opaque fusedVolt (k : Fin 3) : Rat
opaque fusedBeyond (t : Rat) : Rat

/-- What a register in sixteenths of a degree shows of an exact temperature in °C; the spec does not state the rounding. -/
opaque sixteenths (t : Rat) : Int

/-- The content of the boot ROM, by offset (R452). -/
opaque bootRom (k : Nat) : Byte

/-- Fused values: the bin of the part (0x0F or 0x0C by ordering code), serial number and MAC address (R663, R688), the hash of the
public key of each slot and whether the slot is revoked (R657). -/
opaque fusedBin : Nat
opaque fusedSerial : Nat
opaque fusedMac : Nat
opaque keyHash (k : Fin 4) : Nat
opaque keyRevoked (k : Fin 4) : Bool

/-- The corrections of the chain's receive and transmit stamps, ps: calibrated per device at test (R396). -/
opaque chainRxCorr : Nat
opaque chainTxCorr : Nat

end Sys2Proof.Config
end

