-- ==== Sys2Proof/Machine/RegNames.lean ====
section
/-!
DEFINITION. Machine/RegNames.lean: the BAR0 byte address of every register of the spec (R11, R69, R114, R166, R228,
R285, R326, R370, R412, R447, R473, R501, R533, R536, R574, R598, R640, R650, R663 and the block map of chapter 17).
An array is a function of its indices.
-/
namespace Sys2Proof.Machine.R

/-- DEVICE.ID, RO (R663). -/
abbrev DEVICE_ID : Nat := 0x0
/-- DEVICE.STEP, RO (R663). -/
abbrev DEVICE_STEP : Nat := 0x4
/-- DEVICE.BIN, RO (R663). -/
abbrev DEVICE_BIN : Nat := 0x8
/-- DEVICE.SERIAL_LO, RO (R663). -/
abbrev DEVICE_SERIAL_LO : Nat := 0x10
/-- DEVICE.SERIAL_HI, RO (R663). -/
abbrev DEVICE_SERIAL_HI : Nat := 0x14
/-- DEVICE.SCRATCH, RW (R663). -/
abbrev DEVICE_SCRATCH : Nat := 0x20
/-- CAT.CTRL, RW (R370). -/
abbrev CAT_CTRL : Nat := 0x10000
/-- CAT.STATUS, RO (R370). -/
abbrev CAT_STATUS : Nat := 0x10004
/-- CAT.EVENT, W1C (R370). -/
abbrev CAT_EVENT : Nat := 0x10008
/-- CAT.EVENT_EN, RW (R370). -/
abbrev CAT_EVENT_EN : Nat := 0x1000C
/-- CAT.DETAIL_SECTION, RO (R370). -/
abbrev CAT_DETAIL_SECTION : Nat := 0x10010
/-- CAT.DETAIL_OFFSET, RO (R370). -/
abbrev CAT_DETAIL_OFFSET : Nat := 0x10014
/-- CAT.LOAD_LEN, RW (R370). -/
abbrev CAT_LOAD_LEN : Nat := 0x10018
/-- CAT.LOAD_ADDR_LO, RW (R370). -/
abbrev CAT_LOAD_ADDR_LO : Nat := 0x1001C
/-- CAT.LOAD_ADDR_HI, RW (R370). -/
abbrev CAT_LOAD_ADDR_HI : Nat := 0x10020
/-- CAT.ACC_SI_LO, RW (R370). -/
abbrev CAT_ACC_SI_LO : Nat := 0x10024
/-- CAT.ACC_SI_HI, RW (R370). -/
abbrev CAT_ACC_SI_HI : Nat := 0x10028
/-- CAT.EFFECT_SI_LO, RO (R370). -/
abbrev CAT_EFFECT_SI_LO : Nat := 0x1002C
/-- CAT.EFFECT_SI_HI, RO (R370). -/
abbrev CAT_EFFECT_SI_HI : Nat := 0x10030
/-- CAT.RESUME_SI_LO, RO (R370). -/
abbrev CAT_RESUME_SI_LO : Nat := 0x10034
/-- CAT.RESUME_SI_HI, RO (R370). -/
abbrev CAT_RESUME_SI_HI : Nat := 0x10038
/-- CAT.GAP, RO (R370). -/
abbrev CAT_GAP : Nat := 0x1003C
/-- CAT.KIND, RO (R370). -/
abbrev CAT_KIND : Nat := 0x10040
/-- CAT.BOOT, RO (R370). -/
abbrev CAT_BOOT : Nat := 0x10044
/-- CAT.ADDR, RO (R370). -/
abbrev CAT_ADDR : Nat := 0x10048
/-- CAT.LIVE_DIGEST[k], RO (R370). -/
abbrev CAT_LIVE_DIGEST (k : Nat) : Nat := 0x10060 + 0x4 * k
/-- CAT.SHADOW_DIGEST[k], RO (R370). -/
abbrev CAT_SHADOW_DIGEST (k : Nat) : Nat := 0x10080 + 0x4 * k
/-- CAT.ACCESSIONS, RC (R370). -/
abbrev CAT_ACCESSIONS : Nat := 0x100A0
/-- CAT.REJECTS, RC (R370). -/
abbrev CAT_REJECTS : Nat := 0x100A4
/-- CAT.REFUSALS, RC (R370). -/
abbrev CAT_REFUSALS : Nat := 0x100A8
/-- CAT.GAP_FRAMES, RC (R370). -/
abbrev CAT_GAP_FRAMES : Nat := 0x100AC
/-- CAT.GAP_IN[i], RC (R370). -/
abbrev CAT_GAP_IN (i : Nat) : Nat := 0x14000 + 0x4 * i
/-- TIME.STATE, RO (R69). -/
abbrev TIME_STATE : Nat := 0x20000
/-- TIME.CTRL, RW (R69). -/
abbrev TIME_CTRL : Nat := 0x20004
/-- TIME.EVENT, W1C (R69). -/
abbrev TIME_EVENT : Nat := 0x20008
/-- TIME.EVENT_EN, RW (R69). -/
abbrev TIME_EVENT_EN : Nat := 0x2000C
/-- TIME.NOW_NS_LO, RO (R69). -/
abbrev TIME_NOW_NS_LO : Nat := 0x20010
/-- TIME.NOW_NS_HI, RO (R69). -/
abbrev TIME_NOW_NS_HI : Nat := 0x20014
/-- TIME.NOW_FRAC, RO (R69). -/
abbrev TIME_NOW_FRAC : Nat := 0x20018
/-- TIME.INCR_FRAC, RO (R69). -/
abbrev TIME_INCR_FRAC : Nat := 0x20020
/-- TIME.INCR_INT, RO (R69). -/
abbrev TIME_INCR_INT : Nat := 0x20024
/-- TIME.NEXT_SEC_LO, RW (R69). -/
abbrev TIME_NEXT_SEC_LO : Nat := 0x20028
/-- TIME.NEXT_SEC_HI, RW (R69). -/
abbrev TIME_NEXT_SEC_HI : Nat := 0x2002C
/-- TIME.SLEW_RATE, RW (R69). -/
abbrev TIME_SLEW_RATE : Nat := 0x20030
/-- TIME.SLEW_LIMIT, RW (R69). -/
abbrev TIME_SLEW_LIMIT : Nat := 0x20034
/-- TIME.LOCK_NS, RW (R69). -/
abbrev TIME_LOCK_NS : Nat := 0x20038
/-- TIME.ACQ_TIMEOUT, RW (R69). -/
abbrev TIME_ACQ_TIMEOUT : Nat := 0x2003C
/-- TIME.HOLD_LIMIT, RW (R69). -/
abbrev TIME_HOLD_LIMIT : Nat := 0x20040
/-- TIME.REVERT_WAIT, RW (R69). -/
abbrev TIME_REVERT_WAIT : Nat := 0x20044
/-- TIME.PRIO, RW (R69). -/
abbrev TIME_PRIO : Nat := 0x20048
/-- TIME.SRC[n].CFG, RW (R69). -/
abbrev TIME_SRC_CFG (n : Nat) : Nat := 0x20050 + 0x4 * n
/-- TIME.SRC[n].STATUS, RO (R69). -/
abbrev TIME_SRC_STATUS (n : Nat) : Nat := 0x20060 + 0x4 * n
/-- TIME.SRC[n].OFFSET, RO (R69). -/
abbrev TIME_SRC_OFFSET (n : Nat) : Nat := 0x20070 + 0x4 * n
/-- TIME.QUAL, RW (R69). -/
abbrev TIME_QUAL : Nat := 0x20080
/-- TIME.QUAL_CLEAR, RW (R69). -/
abbrev TIME_QUAL_CLEAR : Nat := 0x20084
/-- TIME.VREF_OFFSET, WO (R69). -/
abbrev TIME_VREF_OFFSET : Nat := 0x20090
/-- TIME.CHAIN_OFFSET, WO (R69). -/
abbrev TIME_CHAIN_OFFSET : Nat := 0x20094
/-- TIME.VREF_TIMEOUT, RW (R69). -/
abbrev TIME_VREF_TIMEOUT : Nat := 0x20098
/-- TIME.PTP_RXCORR, RO (R69). -/
abbrev TIME_PTP_RXCORR : Nat := 0x200A0
/-- TIME.PTP_TXCORR, RO (R69). -/
abbrev TIME_PTP_TXCORR : Nat := 0x200A4
/-- TIME.OUT, RW (R69). -/
abbrev TIME_OUT : Nat := 0x200B0
/-- TIME.PPS_OFFSET, RW (R69). -/
abbrev TIME_PPS_OFFSET : Nat := 0x200B4
/-- TIME.SI0_NS_LO, RWA (R69). -/
abbrev TIME_SI0_NS_LO : Nat := 0x200C0
/-- TIME.SI0_NS_HI, RWA (R69). -/
abbrev TIME_SI0_NS_HI : Nat := 0x200C4
/-- TIME.SI0_FRAC, RWA (R69). -/
abbrev TIME_SI0_FRAC : Nat := 0x200C8
/-- TIME.SI_NUM_LO, RWA (R69). -/
abbrev TIME_SI_NUM_LO : Nat := 0x200D0
/-- TIME.SI_NUM_HI, RWA (R69). -/
abbrev TIME_SI_NUM_HI : Nat := 0x200D4
/-- TIME.SI_DEN_LO, RWA (R69). -/
abbrev TIME_SI_DEN_LO : Nat := 0x200D8
/-- TIME.SI_DEN_HI, RWA (R69). -/
abbrev TIME_SI_DEN_HI : Nat := 0x200DC
/-- TIME.SI_LATENCY, RWA (R69). -/
abbrev TIME_SI_LATENCY : Nat := 0x200E0
/-- TIME.SI_TOL, RWA (R69). -/
abbrev TIME_SI_TOL : Nat := 0x200E4
/-- TIME.SI_JUMP_COUNT, RWA (R69). -/
abbrev TIME_SI_JUMP_COUNT : Nat := 0x200E8
/-- TIME.SI_NOW_LO, RO (R69). -/
abbrev TIME_SI_NOW_LO : Nat := 0x200F0
/-- TIME.SI_NOW_HI, RO (R69). -/
abbrev TIME_SI_NOW_HI : Nat := 0x200F4
/-- TIME.SI_EXPECT_LO, RO (R69). -/
abbrev TIME_SI_EXPECT_LO : Nat := 0x200F8
/-- TIME.SI_EXPECT_HI, RO (R69). -/
abbrev TIME_SI_EXPECT_HI : Nat := 0x200FC
/-- TIME.SI_DEV, RO (R69). -/
abbrev TIME_SI_DEV : Nat := 0x20100
/-- TIME.SI_SUSPECT_COUNT, RC (R69). -/
abbrev TIME_SI_SUSPECT_COUNT : Nat := 0x20104
/-- TIME.SI_RANGE_COUNT, RC (R69). -/
abbrev TIME_SI_RANGE_COUNT : Nat := 0x20108
/-- TIME.QUALITY, RO (R69). -/
abbrev TIME_QUALITY : Nat := 0x2010C
/-- TIME.HOLD_SECONDS, RO (R69). -/
abbrev TIME_HOLD_SECONDS : Nat := 0x20110
/-- TIME.SNAP_NS_LO, RS (R69). -/
abbrev TIME_SNAP_NS_LO : Nat := 0x20120
/-- TIME.SNAP_NS_HI, RS (R69). -/
abbrev TIME_SNAP_NS_HI : Nat := 0x20124
/-- TIME.SNAP_FRAC, RS (R69). -/
abbrev TIME_SNAP_FRAC : Nat := 0x20128
/-- LANE[n].CFG, RWA (R114). -/
abbrev LANE_CFG (n : Nat) : Nat := 0x40000 + 0x400 * n
/-- LANE[n].CTRL, RW (R114). -/
abbrev LANE_CTRL (n : Nat) : Nat := 0x40004 + 0x400 * n
/-- LANE[n].STATE, RO (R114). -/
abbrev LANE_STATE (n : Nat) : Nat := 0x40008 + 0x400 * n
/-- LANE[n].EVENT, W1C (R114). -/
abbrev LANE_EVENT (n : Nat) : Nat := 0x4000C + 0x400 * n
/-- LANE[n].EVENT_EN, RW (R114). -/
abbrev LANE_EVENT_EN (n : Nat) : Nat := 0x40010 + 0x400 * n
/-- LANE[n].FOM, RO (R114). -/
abbrev LANE_FOM (n : Nat) : Nat := 0x40014 + 0x400 * n
/-- LANE[n].FOM_CFG, RWA (R114). -/
abbrev LANE_FOM_CFG (n : Nat) : Nat := 0x40018 + 0x400 * n
/-- LANE[n].ADAPT, RO (R114). -/
abbrev LANE_ADAPT (n : Nat) : Nat := 0x4001C + 0x400 * n
/-- LANE[n].TIMERS, RW (R114). -/
abbrev LANE_TIMERS (n : Nat) : Nat := 0x40020 + 0x400 * n
/-- LANE[n].IDENT, RWA (R114). -/
abbrev LANE_IDENT (n : Nat) : Nat := 0x40024 + 0x400 * n
/-- LANE[n].EXPECT, RWA (R114). -/
abbrev LANE_EXPECT (n : Nat) : Nat := 0x40028 + 0x400 * n
/-- LANE[n].PCAP[k], RO (R114). -/
abbrev LANE_PCAP (n : Nat) (k : Nat) : Nat := 0x40040 + 0x400 * n + 0x4 * k
/-- LANE[n].PCAP_FLAGS, RO (R114). -/
abbrev LANE_PCAP_FLAGS (n : Nat) : Nat := 0x40058 + 0x400 * n
/-- LANE[n].CODE_ERR, RC (R114). -/
abbrev LANE_CODE_ERR (n : Nat) : Nat := 0x40080 + 0x400 * n
/-- LANE[n].DISP_ERR, RC (R114). -/
abbrev LANE_DISP_ERR (n : Nat) : Nat := 0x40084 + 0x400 * n
/-- LANE[n].K_ERR, RC (R114). -/
abbrev LANE_K_ERR (n : Nat) : Nat := 0x40088 + 0x400 * n
/-- LANE[n].ERRPROP_COUNT, RC (R114). -/
abbrev LANE_ERRPROP_COUNT (n : Nat) : Nat := 0x4008C + 0x400 * n
/-- LANE[n].RUNAWAY, RC (R114). -/
abbrev LANE_RUNAWAY (n : Nat) : Nat := 0x40090 + 0x400 * n
/-- LANE[n].STRAY, RC (R114). -/
abbrev LANE_STRAY (n : Nat) : Nat := 0x40094 + 0x400 * n
/-- LANE[n].ELASTIC_COUNT, RC (R114). -/
abbrev LANE_ELASTIC_COUNT (n : Nat) : Nat := 0x40098 + 0x400 * n
/-- LANE[n].CC_DELETE, RC (R114). -/
abbrev LANE_CC_DELETE (n : Nat) : Nat := 0x4009C + 0x400 * n
/-- LANE[n].CC_INSERT, RC (R114). -/
abbrev LANE_CC_INSERT (n : Nat) : Nat := 0x400A0 + 0x400 * n
/-- LANE[n].RX_FRAMES, RC (R114). -/
abbrev LANE_RX_FRAMES (n : Nat) : Nat := 0x400A4 + 0x400 * n
/-- LANE[n].RX_DROP, RC (R114). -/
abbrev LANE_RX_DROP (n : Nat) : Nat := 0x400A8 + 0x400 * n
/-- LANE[n].TX_FRAMES, RC (R114). -/
abbrev LANE_TX_FRAMES (n : Nat) : Nat := 0x400AC + 0x400 * n
/-- LANE[n].TX_ABORT, RC (R114). -/
abbrev LANE_TX_ABORT (n : Nat) : Nat := 0x400B0 + 0x400 * n
/-- LANE[n].TRAIN_COUNT, RC (R114). -/
abbrev LANE_TRAIN_COUNT (n : Nat) : Nat := 0x400B4 + 0x400 * n
/-- LANE[n].PAT_ERR, RC (R114). -/
abbrev LANE_PAT_ERR (n : Nat) : Nat := 0x400B8 + 0x400 * n
/-- QUIRE[q].STATUS, RO (R114). -/
abbrev QUIRE_STATUS (q : Nat) : Nat := 0x40300 + 0x2000 * q
/-- QUIRE[q].PLL_LOSS_COUNT, RC (R114). -/
abbrev QUIRE_PLL_LOSS_COUNT (q : Nat) : Nat := 0x40304 + 0x2000 * q
/-- INGEST.CTRL, RW (R166). -/
abbrev INGEST_CTRL : Nat := 0x80000
/-- INGEST.STATUS, RO (R166). -/
abbrev INGEST_STATUS : Nat := 0x80004
/-- INGEST.EVENT, W1C (R166). -/
abbrev INGEST_EVENT : Nat := 0x80008
/-- INGEST.EVENT_EN, RW (R166). -/
abbrev INGEST_EVENT_EN : Nat := 0x8000C
/-- INGEST.SKEW, RWA (R166). -/
abbrev INGEST_SKEW : Nat := 0x80010
/-- INGEST.GEOM, RO (R166). -/
abbrev INGEST_GEOM : Nat := 0x80014
/-- INGEST.DWELL, RO (R166). -/
abbrev INGEST_DWELL : Nat := 0x80018
/-- INGEST.MON_CFG, RWA (R166). -/
abbrev INGEST_MON_CFG : Nat := 0x80020
/-- INGEST.MON_BAND, RWA (R166). -/
abbrev INGEST_MON_BAND : Nat := 0x80024
/-- INGEST.MON_HIGH, RWA (R166). -/
abbrev INGEST_MON_HIGH : Nat := 0x80028
/-- INGEST.MON_LOW, RWA (R166). -/
abbrev INGEST_MON_LOW : Nat := 0x8002C
/-- INGEST.EXC_CFG, RWA (R166). -/
abbrev INGEST_EXC_CFG : Nat := 0x80030
/-- INGEST.STAGE_USE, RO (R166). -/
abbrev INGEST_STAGE_USE : Nat := 0x80038
/-- INGEST.STAGE_PEAK, RC (R166). -/
abbrev INGEST_STAGE_PEAK : Nat := 0x8003C
/-- INGEST.LAST_ERR, RO (R166). -/
abbrev INGEST_LAST_ERR : Nat := 0x80040
/-- INGEST.FRAMES_OK, RC (R166). -/
abbrev INGEST_FRAMES_OK : Nat := 0x80080
/-- INGEST.ERR_LINE, RC (R166). -/
abbrev INGEST_ERR_LINE : Nat := 0x80084
/-- INGEST.ERR_LEN, RC (R166). -/
abbrev INGEST_ERR_LEN : Nat := 0x80088
/-- INGEST.ERR_CRC, RC (R166). -/
abbrev INGEST_ERR_CRC : Nat := 0x8008C
/-- INGEST.ERR_VER, RC (R166). -/
abbrev INGEST_ERR_VER : Nat := 0x80090
/-- INGEST.ERR_CPL, RC (R166). -/
abbrev INGEST_ERR_CPL : Nat := 0x80094
/-- INGEST.ERR_TYPE, RC (R166). -/
abbrev INGEST_ERR_TYPE : Nat := 0x80098
/-- INGEST.ERR_FLAGS, RC (R166). -/
abbrev INGEST_ERR_FLAGS : Nat := 0x8009C
/-- INGEST.ERR_ALIGN, RC (R166). -/
abbrev INGEST_ERR_ALIGN : Nat := 0x800A0
/-- INGEST.UNMAPPED, RC (R166). -/
abbrev INGEST_UNMAPPED : Nat := 0x800A4
/-- INGEST.UNCHAN, RC (R166). -/
abbrev INGEST_UNCHAN : Nat := 0x800A8
/-- INGEST.ERR_WIDTH, RC (R166). -/
abbrev INGEST_ERR_WIDTH : Nat := 0x800AC
/-- INGEST.LATE, RC (R166). -/
abbrev INGEST_LATE : Nat := 0x800B0
/-- INGEST.DUP, RC (R166). -/
abbrev INGEST_DUP : Nat := 0x800B4
/-- INGEST.STAGE_FULL, RC (R166). -/
abbrev INGEST_STAGE_FULL : Nat := 0x800B8
/-- INGEST.UPSTREAM_BAD, RC (R166). -/
abbrev INGEST_UPSTREAM_BAD : Nat := 0x800BC
/-- INGEST.SHORT, RC (R166). -/
abbrev INGEST_SHORT : Nat := 0x800C0
/-- INGEST.DEADLINE, RC (R166). -/
abbrev INGEST_DEADLINE : Nat := 0x800C4
/-- INGEST.HIGH_PEND[j], W1C (R166). -/
abbrev INGEST_HIGH_PEND (j : Nat) : Nat := 0x80200 + 0x4 * j
/-- INGEST.LOW_PEND[j], W1C (R166). -/
abbrev INGEST_LOW_PEND (j : Nat) : Nat := 0x80400 + 0x4 * j
/-- INGEST.INPUT_OFF[j], RWA (R166). -/
abbrev INGEST_INPUT_OFF (j : Nat) : Nat := 0x80600 + 0x4 * j
/-- INGEST.MAP[e].W0, RWA (R166). -/
abbrev INGEST_MAP_W0 (e : Nat) : Nat := 0x80800 + 0x8 * e
/-- INGEST.MAP[e].W1, RWA (R166). -/
abbrev INGEST_MAP_W1 (e : Nat) : Nat := 0x80804 + 0x8 * e
/-- INGEST.CHAN[r].W0, RWA (R166). -/
abbrev INGEST_CHAN_W0 (r : Nat) : Nat := 0x81000 + 0x8 * r
/-- INGEST.CHAN[r].W1, RWA (R166). -/
abbrev INGEST_CHAN_W1 (r : Nat) : Nat := 0x81004 + 0x8 * r
/-- INGEST.IN[i].LEVEL, RO (R166). -/
abbrev INGEST_IN_LEVEL (i : Nat) : Nat := 0x84000 + 0x4 * i
/-- INGEST.IN[i].EXCISED, RC (R166). -/
abbrev INGEST_IN_EXCISED (i : Nat) : Nat := 0x88000 + 0x4 * i
/-- INGEST.IN[i].MISSING, RC (R166). -/
abbrev INGEST_IN_MISSING (i : Nat) : Nat := 0x8C000 + 0x4 * i
/-- INGEST.IN[i].UPFLAG, RC (R166). -/
abbrev INGEST_IN_UPFLAG (i : Nat) : Nat := 0x90000 + 0x4 * i
/-- ARRAY.CTRL, RW (R228). -/
abbrev ARRAY_CTRL : Nat := 0xA0000
/-- ARRAY.STATUS, RO (R228). -/
abbrev ARRAY_STATUS : Nat := 0xA0004
/-- ARRAY.EVENT, W1C (R228). -/
abbrev ARRAY_EVENT : Nat := 0xA0008
/-- ARRAY.EVENT_EN, RW (R228). -/
abbrev ARRAY_EVENT_EN : Nat := 0xA000C
/-- ARRAY.GEOM, RO (R228). -/
abbrev ARRAY_GEOM : Nat := 0xA0010
/-- ARRAY.ROLES, RO (R228). -/
abbrev ARRAY_ROLES : Nat := 0xA0014
/-- ARRAY.CHECK_PERIOD, RWA (R228). -/
abbrev ARRAY_CHECK_PERIOD : Nat := 0xA0018
/-- ARRAY.WINDOW_LO, RO (R228). -/
abbrev ARRAY_WINDOW_LO : Nat := 0xA0020
/-- ARRAY.WINDOW_HI, RO (R228). -/
abbrev ARRAY_WINDOW_HI : Nat := 0xA0024
/-- ARRAY.POS, RO (R228). -/
abbrev ARRAY_POS : Nat := 0xA0028
/-- ARRAY.ABANDONED, RC (R228). -/
abbrev ARRAY_ABANDONED : Nat := 0xA0030
/-- ARRAY.SAT_COUNT, RC (R228). -/
abbrev ARRAY_SAT_COUNT : Nat := 0xA0034
/-- ARRAY.SLOT_STALLS, RC (R228). -/
abbrev ARRAY_SLOT_STALLS : Nat := 0xA0038
/-- ARRAY.SPILL_STALLS, RC (R228). -/
abbrev ARRAY_SPILL_STALLS : Nat := 0xA003C
/-- ARRAY.OPERAND_WAIT, RC (R228). -/
abbrev ARRAY_OPERAND_WAIT : Nat := 0xA0040
/-- ARRAY.CHECKS, RC (R228). -/
abbrev ARRAY_CHECKS : Nat := 0xA0044
/-- ARRAY.CHECK_MISSED, RC (R228). -/
abbrev ARRAY_CHECK_MISSED : Nat := 0xA0048
/-- ARRAY.ORDER_ERR, RC (R228). -/
abbrev ARRAY_ORDER_ERR : Nat := 0xA004C
/-- ARRAY.LAST_ERR, RO (R228). -/
abbrev ARRAY_LAST_ERR : Nat := 0xA0050
/-- ARRAY.RETIRE_PEND[j], RO (R228). -/
abbrev ARRAY_RETIRE_PEND (j : Nat) : Nat := 0xA0060 + 0x4 * j
/-- ARRAY.RETIRE_REQ[j], W1S (R228). -/
abbrev ARRAY_RETIRE_REQ (j : Nat) : Nat := 0xA00A0 + 0x4 * j
/-- ARRAY.MISSING[j], RO (R228). -/
abbrev ARRAY_MISSING (j : Nat) : Nat := 0xA0100 + 0x4 * j
/-- ARRAY.PMAP[p], RO (R228). -/
abbrev ARRAY_PMAP (p : Nat) : Nat := 0xA0200 + 0x4 * p
/-- ARRAY.TEV[g], W1C (R228). -/
abbrev ARRAY_TEV (g : Nat) : Nat := 0xA0900 + 0x4 * g
/-- ARRAY.TEV_EN, RW (R228). -/
abbrev ARRAY_TEV_EN : Nat := 0xA0A80
/-- ARRAY.TILE[p].ORDERS, RC (R228). -/
abbrev ARRAY_TILE_ORDERS (p : Nat) : Nat := 0xB0000 + 0x40 * p
/-- ARRAY.TILE[p].SLOT_STALL, RC (R228). -/
abbrev ARRAY_TILE_SLOT_STALL (p : Nat) : Nat := 0xB0004 + 0x40 * p
/-- ARRAY.TILE[p].SHADOW_STALL, RC (R228). -/
abbrev ARRAY_TILE_SHADOW_STALL (p : Nat) : Nat := 0xB0008 + 0x40 * p
/-- ARRAY.TILE[p].SAT, RC (R228). -/
abbrev ARRAY_TILE_SAT (p : Nat) : Nat := 0xB000C + 0x40 * p
/-- ARRAY.TILE[p].PARITY, RC (R228). -/
abbrev ARRAY_TILE_PARITY (p : Nat) : Nat := 0xB0010 + 0x40 * p
/-- ARRAY.TILE[p].QUEUE, RO (R228). -/
abbrev ARRAY_TILE_QUEUE (p : Nat) : Nat := 0xB0014 + 0x40 * p
/-- ARRAY.TILE[p].CHECK, RO (R228). -/
abbrev ARRAY_TILE_CHECK (p : Nat) : Nat := 0xB0018 + 0x40 * p
/-- ARRAY.TILE[p].PEEK[i], RO (R228). -/
abbrev ARRAY_TILE_PEEK (p : Nat) (i : Nat) : Nat := 0xB0020 + 0x40 * p + 0x4 * i
/-- ACCUM.CTRL, RW (R285). -/
abbrev ACCUM_CTRL : Nat := 0xC0000
/-- ACCUM.STATUS, RO (R285). -/
abbrev ACCUM_STATUS : Nat := 0xC0004
/-- ACCUM.EVENT, W1C (R285). -/
abbrev ACCUM_EVENT : Nat := 0xC0008
/-- ACCUM.EVENT_EN, RW (R285). -/
abbrev ACCUM_EVENT_EN : Nat := 0xC000C
/-- ACCUM.CFG, RWA (R285). -/
abbrev ACCUM_CFG : Nat := 0xC0010
/-- ACCUM.INT_WINDOWS, RWA (R285). -/
abbrev ACCUM_INT_WINDOWS : Nat := 0xC0014
/-- ACCUM.INT_PHASE, RWA (R285). -/
abbrev ACCUM_INT_PHASE : Nat := 0xC0018
/-- ACCUM.BLOCKS, RWA (R285). -/
abbrev ACCUM_BLOCKS : Nat := 0xC001C
/-- ACCUM.OUT_BLOCKS, RWA (R285). -/
abbrev ACCUM_OUT_BLOCKS : Nat := 0xC0020
/-- ACCUM.OUT_CHAN, RWA (R285). -/
abbrev ACCUM_OUT_CHAN : Nat := 0xC0024
/-- ACCUM.ROUTE, RWA (R285). -/
abbrev ACCUM_ROUTE : Nat := 0xC0028
/-- ACCUM.TENSOR_CFG, RWA (R285). -/
abbrev ACCUM_TENSOR_CFG : Nat := 0xC002C
/-- ACCUM.TENSOR_BASE_LO[k], RWA (R285). -/
abbrev ACCUM_TENSOR_BASE_LO (k : Nat) : Nat := 0xC0030 + 0x8 * k
/-- ACCUM.TENSOR_BASE_HI[k], RWA (R285). -/
abbrev ACCUM_TENSOR_BASE_HI (k : Nat) : Nat := 0xC0034 + 0x8 * k
/-- ACCUM.TOPK, RWA (R285). -/
abbrev ACCUM_TOPK : Nat := 0xC0040
/-- ACCUM.ACC_BASE_LO, RO (R285). -/
abbrev ACCUM_ACC_BASE_LO : Nat := 0xC0048
/-- ACCUM.ACC_BASE_HI, RO (R285). -/
abbrev ACCUM_ACC_BASE_HI : Nat := 0xC004C
/-- ACCUM.BANK_STRIDE_LO, RO (R285). -/
abbrev ACCUM_BANK_STRIDE_LO : Nat := 0xC0050
/-- ACCUM.BANK_STRIDE_HI, RO (R285). -/
abbrev ACCUM_BANK_STRIDE_HI : Nat := 0xC0054
/-- ACCUM.CH_STRIDE, RO (R285). -/
abbrev ACCUM_CH_STRIDE : Nat := 0xC0058
/-- ACCUM.SEQ_LO, RO (R285). -/
abbrev ACCUM_SEQ_LO : Nat := 0xC0060
/-- ACCUM.SEQ_HI, RO (R285). -/
abbrev ACCUM_SEQ_HI : Nat := 0xC0064
/-- ACCUM.LOST, RC (R285). -/
abbrev ACCUM_LOST : Nat := 0xC0068
/-- ACCUM.FOLIOS, RC (R285). -/
abbrev ACCUM_FOLIOS : Nat := 0xC006C
/-- ACCUM.SPILLS, RC (R285). -/
abbrev ACCUM_SPILLS : Nat := 0xC0070
/-- ACCUM.SAT_ACC, RC (R285). -/
abbrev ACCUM_SAT_ACC : Nat := 0xC0074
/-- ACCUM.MEMERR, RC (R285). -/
abbrev ACCUM_MEMERR : Nat := 0xC0078
/-- ACCUM.BANK_WAIT, RC (R285). -/
abbrev ACCUM_BANK_WAIT : Nat := 0xC007C
/-- ACCUM.TENSOR_ERR, RC (R285). -/
abbrev ACCUM_TENSOR_ERR : Nat := 0xC0080
/-- ACCUM.EGRESS_FRAMES, RC (R285). -/
abbrev ACCUM_EGRESS_FRAMES : Nat := 0xC0084
/-- ACCUM.STAGE[s].STATE, RO (R285). -/
abbrev ACCUM_STAGE_STATE (s : Nat) : Nat := 0xC0100 + 0x20 * s
/-- ACCUM.STAGE[s].CTRL, W1S (R285). -/
abbrev ACCUM_STAGE_CTRL (s : Nat) : Nat := 0xC0104 + 0x20 * s
/-- ACCUM.STAGE[s].ADDR_LO, RO (R285). -/
abbrev ACCUM_STAGE_ADDR_LO (s : Nat) : Nat := 0xC0108 + 0x20 * s
/-- ACCUM.STAGE[s].ADDR_HI, RO (R285). -/
abbrev ACCUM_STAGE_ADDR_HI (s : Nat) : Nat := 0xC010C + 0x20 * s
/-- ACCUM.STAGE[s].LEN_LO, RO (R285). -/
abbrev ACCUM_STAGE_LEN_LO (s : Nat) : Nat := 0xC0110 + 0x20 * s
/-- ACCUM.STAGE[s].LEN_HI, RO (R285). -/
abbrev ACCUM_STAGE_LEN_HI (s : Nat) : Nat := 0xC0114 + 0x20 * s
/-- ACCUM.STAGE[s].SI_LO, RO (R285). -/
abbrev ACCUM_STAGE_SI_LO (s : Nat) : Nat := 0xC0118 + 0x20 * s
/-- ACCUM.STAGE[s].SI_HI, RO (R285). -/
abbrev ACCUM_STAGE_SI_HI (s : Nat) : Nat := 0xC011C + 0x20 * s
/-- BEAM.CTRL, RW (R326). -/
abbrev BEAM_CTRL : Nat := 0xD0000
/-- BEAM.STATUS, RO (R326). -/
abbrev BEAM_STATUS : Nat := 0xD0004
/-- BEAM.EVENT, W1C (R326). -/
abbrev BEAM_EVENT : Nat := 0xD0008
/-- BEAM.EVENT_EN, RW (R326). -/
abbrev BEAM_EVENT_EN : Nat := 0xD000C
/-- BEAM.GEOM, RO (R326). -/
abbrev BEAM_GEOM : Nat := 0xD0010
/-- BEAM.VCFG, RWA (R326). -/
abbrev BEAM_VCFG : Nat := 0xD0014
/-- BEAM.DCFG, RWA (R326). -/
abbrev BEAM_DCFG : Nat := 0xD0018
/-- BEAM.ROUTE, RWA (R326). -/
abbrev BEAM_ROUTE : Nat := 0xD001C
/-- BEAM.SEARCH, RWA (R326). -/
abbrev BEAM_SEARCH : Nat := 0xD0020
/-- BEAM.SBAND, RWA (R326). -/
abbrev BEAM_SBAND : Nat := 0xD0024
/-- BEAM.CAND, RWA (R326). -/
abbrev BEAM_CAND : Nat := 0xD0028
/-- BEAM.SWITCH_SI_LO, RW (R326). -/
abbrev BEAM_SWITCH_SI_LO : Nat := 0xD0030
/-- BEAM.SWITCH_SI_HI, RW (R326). -/
abbrev BEAM_SWITCH_SI_HI : Nat := 0xD0034
/-- BEAM.SWITCH_CTRL, RW (R326). -/
abbrev BEAM_SWITCH_CTRL : Nat := 0xD0038
/-- BEAM.SWITCH_PEND, RO (R326). -/
abbrev BEAM_SWITCH_PEND : Nat := 0xD003C
/-- BEAM.DONE_SI_LO, RO (R326). -/
abbrev BEAM_DONE_SI_LO : Nat := 0xD0040
/-- BEAM.DONE_SI_HI, RO (R326). -/
abbrev BEAM_DONE_SI_HI : Nat := 0xD0044
/-- BEAM.ACTIVE_PAGE, RO (R326). -/
abbrev BEAM_ACTIVE_PAGE : Nat := 0xD0048
/-- BEAM.WLOAD[p], W1S (R326). -/
abbrev BEAM_WLOAD (p : Nat) : Nat := 0xD0050 + 0x4 * p
/-- BEAM.TH[j], RWA (R326). -/
abbrev BEAM_TH (j : Nat) : Nat := 0xD0060 + 0x4 * j
/-- BEAM.LVL_SEL, RW (R326). -/
abbrev BEAM_LVL_SEL : Nat := 0xD0090
/-- BEAM.LVL_LO, RO (R326). -/
abbrev BEAM_LVL_LO : Nat := 0xD0094
/-- BEAM.LVL_HI, RO (R326). -/
abbrev BEAM_LVL_HI : Nat := 0xD0098
/-- BEAM.VFRAMES, RC (R326). -/
abbrev BEAM_VFRAMES : Nat := 0xD0100
/-- BEAM.LATE, RC (R326). -/
abbrev BEAM_LATE : Nat := 0xD0104
/-- BEAM.VDROP, RC (R326). -/
abbrev BEAM_VDROP : Nat := 0xD0108
/-- BEAM.DFRAMES, RC (R326). -/
abbrev BEAM_DFRAMES : Nat := 0xD010C
/-- BEAM.CFRAMES, RC (R326). -/
abbrev BEAM_CFRAMES : Nat := 0xD0110
/-- BEAM.EVENTS, RC (R326). -/
abbrev BEAM_EVENTS : Nat := 0xD0114
/-- BEAM.SAT_COUNT, RC (R326). -/
abbrev BEAM_SAT_COUNT : Nat := 0xD0118
/-- BEAM.WCLAMP, RC (R326). -/
abbrev BEAM_WCLAMP : Nat := 0xD011C
/-- BEAM.WSTALL, RC (R326). -/
abbrev BEAM_WSTALL : Nat := 0xD0120
/-- BEAM.WERR, RC (R326). -/
abbrev BEAM_WERR : Nat := 0xD0124
/-- BEAM.STAGE_SHED, RC (R326). -/
abbrev BEAM_STAGE_SHED : Nat := 0xD0128
/-- BEAM.SEARCH_CUT, RC (R326). -/
abbrev BEAM_SEARCH_CUT : Nat := 0xD012C
/-- BEAM.SET[s].VOLT, RWA (R326). -/
abbrev BEAM_SET_VOLT (s : Nat) : Nat := 0xD0400 + 0x10 * s
/-- BEAM.SET[s].DET, RWA (R326). -/
abbrev BEAM_SET_DET (s : Nat) : Nat := 0xD0404 + 0x10 * s
/-- BEAM.SET[s].SRCH, RWA (R326). -/
abbrev BEAM_SET_SRCH (s : Nat) : Nat := 0xD0408 + 0x10 * s
/-- BEAM.SET[s].STATUS, RO (R326). -/
abbrev BEAM_SET_STATUS (s : Nat) : Nat := 0xD040C + 0x10 * s
/-- BEAM.FREQ[c], RWA (R326). -/
abbrev BEAM_FREQ (c : Nat) : Nat := 0xD0800 + 0x4 * c
/-- CHAIN.CTRL, RW (R412). -/
abbrev CHAIN_CTRL : Nat := 0xE0000
/-- CHAIN.STATUS, RO (R412). -/
abbrev CHAIN_STATUS : Nat := 0xE0004
/-- CHAIN.EVENT, W1C (R412). -/
abbrev CHAIN_EVENT : Nat := 0xE0008
/-- CHAIN.EVENT_EN, RW (R412). -/
abbrev CHAIN_EVENT_EN : Nat := 0xE000C
/-- CHAIN.CFG, RW (R412). -/
abbrev CHAIN_CFG : Nat := 0xE0010
/-- CHAIN.CHAIN_ID, RW (R412). -/
abbrev CHAIN_CHAIN_ID : Nat := 0xE0014
/-- CHAIN.ADDR, RO (R412). -/
abbrev CHAIN_ADDR : Nat := 0xE0018
/-- CHAIN.VERSION, RO (R412). -/
abbrev CHAIN_VERSION : Nat := 0xE001C
/-- CHAIN.COUNT, RO (R412). -/
abbrev CHAIN_COUNT : Nat := 0xE0020
/-- CHAIN.TIME_TOL, RO (R412). -/
abbrev CHAIN_TIME_TOL : Nat := 0xE0024
/-- CHAIN.REPLY_TIMEOUT, RW (R412). -/
abbrev CHAIN_REPLY_TIMEOUT : Nat := 0xE0028
/-- CHAIN.CMD, RW (R412). -/
abbrev CHAIN_CMD : Nat := 0xE0030
/-- CHAIN.CMD_SI_LO, RW (R412). -/
abbrev CHAIN_CMD_SI_LO : Nat := 0xE0034
/-- CHAIN.CMD_SI_HI, RW (R412). -/
abbrev CHAIN_CMD_SI_HI : Nat := 0xE0038
/-- CHAIN.CMD_RESUME_LO, RW (R412). -/
abbrev CHAIN_CMD_RESUME_LO : Nat := 0xE003C
/-- CHAIN.CMD_RESUME_HI, RW (R412). -/
abbrev CHAIN_CMD_RESUME_HI : Nat := 0xE0040
/-- CHAIN.CMD_SEQ, RO (R412). -/
abbrev CHAIN_CMD_SEQ : Nat := 0xE0044
/-- CHAIN.LAST_REFUSE, RO (R412). -/
abbrev CHAIN_LAST_REFUSE : Nat := 0xE0048
/-- CHAIN.RXCORR, RO (R412). -/
abbrev CHAIN_RXCORR : Nat := 0xE0050
/-- CHAIN.TXCORR, RO (R412). -/
abbrev CHAIN_TXCORR : Nat := 0xE0054
/-- CHAIN.CHAIN_DIGEST[k], RO (R412). -/
abbrev CHAIN_CHAIN_DIGEST (k : Nat) : Nat := 0xE0060 + 0x4 * k
/-- CHAIN.STAMP[n], RO (R412). -/
abbrev CHAIN_STAMP (n : Nat) : Nat := 0xE0080 + 0x4 * n
/-- CHAIN.MSG_ERR, RC (R412). -/
abbrev CHAIN_MSG_ERR : Nat := 0xE00A0
/-- CHAIN.FORWARDED, RC (R412). -/
abbrev CHAIN_FORWARDED : Nat := 0xE00A4
/-- CHAIN.LINK_LOSS_UP, RC (R412). -/
abbrev CHAIN_LINK_LOSS_UP : Nat := 0xE00A8
/-- CHAIN.LINK_LOSS_DN, RC (R412). -/
abbrev CHAIN_LINK_LOSS_DN : Nat := 0xE00AC
/-- CHAIN.STAMP_LATE, RC (R412). -/
abbrev CHAIN_STAMP_LATE : Nat := 0xE00B0
/-- CHAIN.TIME_DIS_COUNT, RC (R412). -/
abbrev CHAIN_TIME_DIS_COUNT : Nat := 0xE00B4
/-- CHAIN.ACK_MAP[j], RO (R412). -/
abbrev CHAIN_ACK_MAP (j : Nat) : Nat := 0xE0100 + 0x4 * j
/-- CHAIN.NAK_MAP[j], RO (R412). -/
abbrev CHAIN_NAK_MAP (j : Nat) : Nat := 0xE0180 + 0x4 * j
/-- CHAIN.RXQ[k], RO (R412). -/
abbrev CHAIN_RXQ (k : Nat) : Nat := 0xE0200 + 0x4 * k
/-- CHAIN.RXQ_CTRL, RW (R412). -/
abbrev CHAIN_RXQ_CTRL : Nat := 0xE0220
/-- CHAIN.TXQ[k], WO (R412). -/
abbrev CHAIN_TXQ (k : Nat) : Nat := 0xE0240 + 0x4 * k
/-- CHAIN.TXQ_CTRL, RW (R412). -/
abbrev CHAIN_TXQ_CTRL : Nat := 0xE0260
/-- HBMC.CTRL, RW (R447). -/
abbrev HBMC_CTRL : Nat := 0x100000
/-- HBMC.STATUS, RO (R447). -/
abbrev HBMC_STATUS : Nat := 0x100004
/-- HBMC.EVENT, W1C (R447). -/
abbrev HBMC_EVENT : Nat := 0x100008
/-- HBMC.EVENT_EN, RW (R447). -/
abbrev HBMC_EVENT_EN : Nat := 0x10000C
/-- HBMC.RATE, RW (R447). -/
abbrev HBMC_RATE : Nat := 0x100010
/-- HBMC.AGE_LIMIT, RW (R447). -/
abbrev HBMC_AGE_LIMIT : Nat := 0x100014
/-- HBMC.PAGE_TIMEOUT, RW (R447). -/
abbrev HBMC_PAGE_TIMEOUT : Nat := 0x100018
/-- HBMC.SCRUB_PERIOD, RW (R447). -/
abbrev HBMC_SCRUB_PERIOD : Nat := 0x10001C
/-- HBMC.TEMP, RO (R447). -/
abbrev HBMC_TEMP : Nat := 0x100020
/-- HBMC.TRAIN, RO (R447). -/
abbrev HBMC_TRAIN : Nat := 0x100024
/-- HBMC.CH_EVENT_EN, RW (R447). -/
abbrev HBMC_CH_EVENT_EN : Nat := 0x100028
/-- HBMC.LAYOUT_CT, RWA (R447). -/
abbrev HBMC_LAYOUT_CT : Nat := 0x100030
/-- HBMC.LAYOUT_ACC, RWA (R447). -/
abbrev HBMC_LAYOUT_ACC : Nat := 0x100034
/-- HBMC.LAYOUT_STAGE, RWA (R447). -/
abbrev HBMC_LAYOUT_STAGE : Nat := 0x100038
/-- HBMC.REGION[r].W0, RWA (R447). -/
abbrev HBMC_REGION_W0 (r : Nat) : Nat := 0x100040 + 0x8 * r
/-- HBMC.REGION[r].W1, RWA (R447). -/
abbrev HBMC_REGION_W1 (r : Nat) : Nat := 0x100044 + 0x8 * r
/-- HBMC.MAP[k], RO (R447). -/
abbrev HBMC_MAP (k : Nat) : Nat := 0x1000C0 + 0x4 * k
/-- HBMC.MAP_NEW[k], RW (R447). -/
abbrev HBMC_MAP_NEW (k : Nat) : Nat := 0x100100 + 0x4 * k
/-- HBMC.ERR_ADDR_LO, RO (R447). -/
abbrev HBMC_ERR_ADDR_LO : Nat := 0x100140
/-- HBMC.ERR_ADDR_HI, RO (R447). -/
abbrev HBMC_ERR_ADDR_HI : Nat := 0x100144
/-- HBMC.ERR_INFO, RO (R447). -/
abbrev HBMC_ERR_INFO : Nat := 0x100148
/-- HBMC.PC_FAIL_LO, RO (R447). -/
abbrev HBMC_PC_FAIL_LO : Nat := 0x100150
/-- HBMC.PC_FAIL_HI, RO (R447). -/
abbrev HBMC_PC_FAIL_HI : Nat := 0x100154
/-- HBMC.HAZARD_WAITS, RC (R447). -/
abbrev HBMC_HAZARD_WAITS : Nat := 0x100180
/-- HBMC.AGE_PROMOTED, RC (R447). -/
abbrev HBMC_AGE_PROMOTED : Nat := 0x100184
/-- HBMC.REF_POSTPONED, RC (R447). -/
abbrev HBMC_REF_POSTPONED : Nat := 0x100188
/-- HBMC.RFM_COUNT, RC (R447). -/
abbrev HBMC_RFM_COUNT : Nat := 0x10018C
/-- HBMC.RMW_COUNT, RC (R447). -/
abbrev HBMC_RMW_COUNT : Nat := 0x100190
/-- HBMC.SCRUB_PASSES, RC (R447). -/
abbrev HBMC_SCRUB_PASSES : Nat := 0x100194
/-- HBMC.SCRUB_FIXED, RC (R447). -/
abbrev HBMC_SCRUB_FIXED : Nat := 0x100198
/-- HBMC.CH[n].CE, RC (R447). -/
abbrev HBMC_CH_CE (n : Nat) : Nat := 0x100200 + 0x10 * n
/-- HBMC.CH[n].UE, RC (R447). -/
abbrev HBMC_CH_UE (n : Nat) : Nat := 0x100204 + 0x10 * n
/-- HBMC.CH[n].ODECC, RC (R447). -/
abbrev HBMC_CH_ODECC (n : Nat) : Nat := 0x100208 + 0x10 * n
/-- HBMC.CH[n].EVENT, W1C (R447). -/
abbrev HBMC_CH_EVENT (n : Nat) : Nat := 0x10020C + 0x10 * n
/-- MATRIX.CTRL, RW (R473). -/
abbrev MATRIX_CTRL : Nat := 0x120000
/-- MATRIX.STATUS, RO (R473). -/
abbrev MATRIX_STATUS : Nat := 0x120004
/-- MATRIX.EVENT, W1C (R473). -/
abbrev MATRIX_EVENT : Nat := 0x120008
/-- MATRIX.EVENT_EN, RW (R473). -/
abbrev MATRIX_EVENT_EN : Nat := 0x12000C
/-- MATRIX.SAFFRON_BUDGET, RW (R473). -/
abbrev MATRIX_SAFFRON_BUDGET : Nat := 0x120010
/-- MATRIX.AGE_LIMIT, RW (R473). -/
abbrev MATRIX_AGE_LIMIT : Nat := 0x120014
/-- MATRIX.TIMEOUT, RW (R473). -/
abbrev MATRIX_TIMEOUT : Nat := 0x120018
/-- MATRIX.ERR_ADDR_LO, RO (R473). -/
abbrev MATRIX_ERR_ADDR_LO : Nat := 0x120020
/-- MATRIX.ERR_ADDR_HI, RO (R473). -/
abbrev MATRIX_ERR_ADDR_HI : Nat := 0x120024
/-- MATRIX.ERR_INFO, RO (R473). -/
abbrev MATRIX_ERR_INFO : Nat := 0x120028
/-- MATRIX.DECODE_ERRS, RC (R473). -/
abbrev MATRIX_DECODE_ERRS : Nat := 0x120030
/-- MATRIX.TIMEOUTS, RC (R473). -/
abbrev MATRIX_TIMEOUTS : Nat := 0x120034
/-- MATRIX.LATE_RESP, RC (R473). -/
abbrev MATRIX_LATE_RESP : Nat := 0x120038
/-- MATRIX.HOLD_ORDER, RC (R473). -/
abbrev MATRIX_HOLD_ORDER : Nat := 0x12003C
/-- MATRIX.HOLD_CYCLE, RC (R473). -/
abbrev MATRIX_HOLD_CYCLE : Nat := 0x120040
/-- MATRIX.AGE_PROMOTED, RC (R473). -/
abbrev MATRIX_AGE_PROMOTED : Nat := 0x120044
/-- MATRIX.MASTER[m].CFG, RW (R473). -/
abbrev MATRIX_MASTER_CFG (m : Nat) : Nat := 0x120100 + 0x4 * m
/-- MATRIX.MASTER[m].ERRS, RC (R473). -/
abbrev MATRIX_MASTER_ERRS (m : Nat) : Nat := 0x120180 + 0x4 * m
/-- MATRIX.PORT[p].SAFFRON_OVER, RC (R473). -/
abbrev MATRIX_PORT_SAFFRON_OVER (p : Nat) : Nat := 0x120200 + 0x10 * p
/-- MATRIX.PORT[p].SAFFRON_PEAK, RC (R473). -/
abbrev MATRIX_PORT_SAFFRON_PEAK (p : Nat) : Nat := 0x120204 + 0x10 * p
/-- MATRIX.PORT[p].BEATS, RC (R473). -/
abbrev MATRIX_PORT_BEATS (p : Nat) : Nat := 0x120208 + 0x10 * p
/-- DMA.STATUS, RO (R501). -/
abbrev DMA_STATUS : Nat := 0x130000
/-- DMA.FENCE_TIMEOUT, RW (R501). -/
abbrev DMA_FENCE_TIMEOUT : Nat := 0x130004
/-- DMA.BUF_USE, RO (R501). -/
abbrev DMA_BUF_USE : Nat := 0x130008
/-- DMA.HOSTWIN_LO, RW (R501). -/
abbrev DMA_HOSTWIN_LO : Nat := 0x130010
/-- DMA.HOSTWIN_HI, RW (R501). -/
abbrev DMA_HOSTWIN_HI : Nat := 0x130014
/-- DMA.CH[n].CFG, RW (R501). -/
abbrev DMA_CH_CFG (n : Nat) : Nat := 0x130100 + 0x40 * n
/-- DMA.CH[n].CTRL, RW (R501). -/
abbrev DMA_CH_CTRL (n : Nat) : Nat := 0x130104 + 0x40 * n
/-- DMA.CH[n].STATUS, RO (R501). -/
abbrev DMA_CH_STATUS (n : Nat) : Nat := 0x130108 + 0x40 * n
/-- DMA.CH[n].EVENT, W1C (R501). -/
abbrev DMA_CH_EVENT (n : Nat) : Nat := 0x13010C + 0x40 * n
/-- DMA.CH[n].EVENT_EN, RW (R501). -/
abbrev DMA_CH_EVENT_EN (n : Nat) : Nat := 0x130110 + 0x40 * n
/-- DMA.CH[n].RING_LO, RW (R501). -/
abbrev DMA_CH_RING_LO (n : Nat) : Nat := 0x130114 + 0x40 * n
/-- DMA.CH[n].RING_HI, RW (R501). -/
abbrev DMA_CH_RING_HI (n : Nat) : Nat := 0x130118 + 0x40 * n
/-- DMA.CH[n].HEAD, RO (R501). -/
abbrev DMA_CH_HEAD (n : Nat) : Nat := 0x13011C + 0x40 * n
/-- DMA.CH[n].DOORBELL, WO (R501). -/
abbrev DMA_CH_DOORBELL (n : Nat) : Nat := 0x130120 + 0x40 * n
/-- DMA.CH[n].ERR_ADDR_LO, RO (R501). -/
abbrev DMA_CH_ERR_ADDR_LO (n : Nat) : Nat := 0x130124 + 0x40 * n
/-- DMA.CH[n].ERR_ADDR_HI, RO (R501). -/
abbrev DMA_CH_ERR_ADDR_HI (n : Nat) : Nat := 0x130128 + 0x40 * n
/-- DMA.CH[n].DESCS, RC (R501). -/
abbrev DMA_CH_DESCS (n : Nat) : Nat := 0x13012C + 0x40 * n
/-- DMA.CH[n].BYTES, RC (R501). -/
abbrev DMA_CH_BYTES (n : Nat) : Nat := 0x130130 + 0x40 * n
/-- DMA.CH[n].ERRS, RC (R501). -/
abbrev DMA_CH_ERRS (n : Nat) : Nat := 0x130134 + 0x40 * n
/-- DMA.CH[n].OWN_BAD, RC (R501). -/
abbrev DMA_CH_OWN_BAD (n : Nat) : Nat := 0x130138 + 0x40 * n
/-- MBOX.CROSS_WAIT, RW (R536). -/
abbrev MBOX_CROSS_WAIT : Nat := 0x140000
/-- MBOX.REFUSED, RC (R536). -/
abbrev MBOX_REFUSED : Nat := 0x140010
/-- MBOX.TIMEOUTS, RC (R536). -/
abbrev MBOX_TIMEOUTS : Nat := 0x140014
/-- MBOX.LATE_ACKS, RC (R536). -/
abbrev MBOX_LATE_ACKS : Nat := 0x140018
/-- MBOX.CROSSES, RC (R536). -/
abbrev MBOX_CROSSES : Nat := 0x14001C
/-- MBOX.VOIDED, RC (R536). -/
abbrev MBOX_VOIDED : Nat := 0x140020
/-- MBOX.STALED, RC (R536). -/
abbrev MBOX_STALED : Nat := 0x140024
/-- MBOX.PENDING[j], RO (R536). -/
abbrev MBOX_PENDING (j : Nat) : Nat := 0x140030 + 0x4 * j
/-- MBOX[k].CFG, RW (R536). -/
abbrev MBOX_CFG (k : Nat) : Nat := 0x140100 + 0x100 * k
/-- MBOX[k].EVENT, W1C (R536). -/
abbrev MBOX_EVENT (k : Nat) : Nat := 0x140104 + 0x100 * k
/-- MBOX[k].EVENT_EN, RW (R536). -/
abbrev MBOX_EVENT_EN (k : Nat) : Nat := 0x140108 + 0x100 * k
/-- MBOX[k].D[d].POST_LO, WO (R536). -/
abbrev MBOX_D_POST_LO (k : Nat) (d : Nat) : Nat := 0x140140 + 0x100 * k + 0x40 * d
/-- MBOX[k].D[d].POST_CPL, WO (R536). -/
abbrev MBOX_D_POST_CPL (k : Nat) (d : Nat) : Nat := 0x140144 + 0x100 * k + 0x40 * d
/-- MBOX[k].D[d].POST_HI, WO (R536). -/
abbrev MBOX_D_POST_HI (k : Nat) (d : Nat) : Nat := 0x140148 + 0x100 * k + 0x40 * d
/-- MBOX[k].D[d].LOCK, RW (R536). -/
abbrev MBOX_D_LOCK (k : Nat) (d : Nat) : Nat := 0x14014C + 0x100 * k + 0x40 * d
/-- MBOX[k].D[d].NOTICE[i], RO (R536). -/
abbrev MBOX_D_NOTICE (k : Nat) (d : Nat) (i : Nat) : Nat := 0x140150 + 0x100 * k + 0x40 * d + 0x4 * i
/-- MBOX[k].D[d].ACK, WO (R536). -/
abbrev MBOX_D_ACK (k : Nat) (d : Nat) : Nat := 0x140160 + 0x100 * k + 0x40 * d
/-- MBOX[k].D[d].ACK_STATUS, RO (R536). -/
abbrev MBOX_D_ACK_STATUS (k : Nat) (d : Nat) : Nat := 0x140164 + 0x100 * k + 0x40 * d
/-- MBOX[k].D[d].STATE, RO (R536). -/
abbrev MBOX_D_STATE (k : Nat) (d : Nat) : Nat := 0x140168 + 0x100 * k + 0x40 * d
/-- IRQ.EVENT, W1C (R598). -/
abbrev IRQ_EVENT : Nat := 0x150008
/-- IRQ.EVENT_EN, RW (R598). -/
abbrev IRQ_EVENT_EN : Nat := 0x15000C
/-- IRQ.VBASE[c], RW (R598). -/
abbrev IRQ_VBASE (c : Nat) : Nat := 0x150010 + 0x4 * c
/-- IRQ.NFRAME[c], RW (R598). -/
abbrev IRQ_NFRAME (c : Nat) : Nat := 0x150018 + 0x4 * c
/-- IRQ.CUR[c].CTRL, RW (R598). -/
abbrev IRQ_CUR_CTRL (c : Nat) : Nat := 0x150020 + 0x10 * c
/-- IRQ.CUR[c].STATUS, RO (R598). -/
abbrev IRQ_CUR_STATUS (c : Nat) : Nat := 0x150024 + 0x10 * c
/-- IRQ.MOD[g], RW (R598). -/
abbrev IRQ_MOD (g : Nat) : Nat := 0x150040 + 0x4 * g
/-- IRQ.SW, RW (R598). -/
abbrev IRQ_SW : Nat := 0x150080
/-- IRQ.HOST_ACK, WO (R598). -/
abbrev IRQ_HOST_ACK : Nat := 0x150090
/-- IRQ.PEND[j], RO (R598). -/
abbrev IRQ_PEND (j : Nat) : Nat := 0x150100 + 0x4 * j
/-- IRQ.ACTIVE[j], RO (R598). -/
abbrev IRQ_ACTIVE (j : Nat) : Nat := 0x150180 + 0x4 * j
/-- IRQ.MSIX_PEND[j], RO (R598). -/
abbrev IRQ_MSIX_PEND (j : Nat) : Nat := 0x150200 + 0x4 * j
/-- IRQ.HMBOX[k], RW (R598). -/
abbrev IRQ_HMBOX (k : Nat) : Nat := 0x150240 + 0x4 * k
/-- IRQ.FAST_DELIVERED, RC (R598). -/
abbrev IRQ_FAST_DELIVERED : Nat := 0x150280
/-- IRQ.NORMAL_DELIVERED, RC (R598). -/
abbrev IRQ_NORMAL_DELIVERED : Nat := 0x150284
/-- IRQ.FAST_LATE, RC (R598). -/
abbrev IRQ_FAST_LATE : Nat := 0x150288
/-- IRQ.MODERATED, RC (R598). -/
abbrev IRQ_MODERATED : Nat := 0x15028C
/-- IRQ.BYPASS, RC (R598). -/
abbrev IRQ_BYPASS : Nat := 0x150290
/-- IRQ.MSIX_SENT, RC (R598). -/
abbrev IRQ_MSIX_SENT : Nat := 0x150294
/-- IRQ.PME, RC (R598). -/
abbrev IRQ_PME : Nat := 0x150298
/-- IRQ.SRC[s].CFG, RW (R598). -/
abbrev IRQ_SRC_CFG (s : Nat) : Nat := 0x151000 + 0x4 * s
/-- POWER.CTRL, RW (R640). -/
abbrev POWER_CTRL : Nat := 0x160000
/-- POWER.STATUS, RO (R640). -/
abbrev POWER_STATUS : Nat := 0x160004
/-- POWER.EVENT, W1C (R640). -/
abbrev POWER_EVENT : Nat := 0x160008
/-- POWER.EVENT_EN, RW (R640). -/
abbrev POWER_EVENT_EN : Nat := 0x16000C
/-- POWER.PLIMIT, RW (R640). -/
abbrev POWER_PLIMIT : Nat := 0x160010
/-- POWER.TJ, RW (R640). -/
abbrev POWER_TJ : Nat := 0x160014
/-- POWER.WAITS, RW (R640). -/
abbrev POWER_WAITS : Nat := 0x160018
/-- POWER.CORE_MARGIN, RW (R640). -/
abbrev POWER_CORE_MARGIN : Nat := 0x16001C
/-- POWER.SENSOR_LIMIT, RW (R640). -/
abbrev POWER_SENSOR_LIMIT : Nat := 0x160020
/-- POWER.POLICY, RO (R640). -/
abbrev POWER_POLICY : Nat := 0x160024
/-- POWER.HOT, RO (R640). -/
abbrev POWER_HOT : Nat := 0x160028
/-- POWER.PWR_TOTAL, RO (R640). -/
abbrev POWER_PWR_TOTAL : Nat := 0x16002C
/-- POWER.VCORE, RO (R640). -/
abbrev POWER_VCORE : Nat := 0x160030
/-- POWER.LAST_REFUSE, RO (R640). -/
abbrev POWER_LAST_REFUSE : Nat := 0x160034
/-- POWER.STEP_SI_LO, RO (R640). -/
abbrev POWER_STEP_SI_LO : Nat := 0x160038
/-- POWER.STEP_SI_HI, RO (R640). -/
abbrev POWER_STEP_SI_HI : Nat := 0x16003C
/-- POWER.DIODE[d], RO (R640). -/
abbrev POWER_DIODE (d : Nat) : Nat := 0x160040 + 0x4 * d
/-- POWER.POINT[i], RO (R640). -/
abbrev POWER_POINT (i : Nat) : Nat := 0x160080 + 0x4 * i
/-- POWER.RAIL[r], RO (R640). -/
abbrev POWER_RAIL (r : Nat) : Nat := 0x160180 + 0x4 * r
/-- POWER.REG[r], RO (R640). -/
abbrev POWER_REG (r : Nat) : Nat := 0x1601C0 + 0x4 * r
/-- POWER.STEP_CHANGES, RC (R640). -/
abbrev POWER_STEP_CHANGES : Nat := 0x160200
/-- POWER.PMBUS_ERR, RC (R640). -/
abbrev POWER_PMBUS_ERR : Nat := 0x160204
/-- POWER.AVS_ERR, RC (R640). -/
abbrev POWER_AVS_ERR : Nat := 0x160208
/-- POWER.SLEEPS, RC (R640). -/
abbrev POWER_SLEEPS : Nat := 0x16020C
/-- POWER.GEN_CFG, RWA (R640). -/
abbrev POWER_GEN_CFG : Nat := 0x160300
/-- POWER.GEN_SEED, RWA (R640). -/
abbrev POWER_GEN_SEED : Nat := 0x160304
/-- BOOT.STATUS, RO (R640). -/
abbrev BOOT_STATUS : Nat := 0x160800
/-- BOOT.EVENT, W1C (R640). -/
abbrev BOOT_EVENT : Nat := 0x160804
/-- BOOT.EVENT_EN, RW (R640). -/
abbrev BOOT_EVENT_EN : Nat := 0x160808
/-- BOOT.SKIPPED, RO (R640). -/
abbrev BOOT_SKIPPED : Nat := 0x16080C
/-- BOOT.CFG, RO (R640). -/
abbrev BOOT_CFG : Nat := 0x160810
/-- BOOT.COUNT, RO (R640). -/
abbrev BOOT_COUNT : Nat := 0x160814
/-- BOOT.STEP_TIME[n], RO (R640). -/
abbrev BOOT_STEP_TIME (n : Nat) : Nat := 0x160840 + 0x4 * n
/-- CORE.CTRL, RW (R533). -/
abbrev CORE_CTRL : Nat := 0x170000
/-- CORE.STATUS, RO (R533). -/
abbrev CORE_STATUS : Nat := 0x170004
/-- CORE.EVENT, W1C (R533). -/
abbrev CORE_EVENT : Nat := 0x170008
/-- CORE.EVENT_EN, RW (R533). -/
abbrev CORE_EVENT_EN : Nat := 0x17000C
/-- CORE.LEASE, RO (R533). -/
abbrev CORE_LEASE : Nat := 0x170010
/-- CORE.LEASE_RENEW, WO (R533). -/
abbrev CORE_LEASE_RENEW : Nat := 0x170014
/-- CORE.LEASE_CLAIM, WO (R533). -/
abbrev CORE_LEASE_CLAIM : Nat := 0x170018
/-- CORE.LEASE_PERIOD, RO (R533). -/
abbrev CORE_LEASE_PERIOD : Nat := 0x17001C
/-- CORE.LEASE_LEFT, RO (R533). -/
abbrev CORE_LEASE_LEFT : Nat := 0x170020
/-- CORE.HEALTH_MAXAGE, RW (R533). -/
abbrev CORE_HEALTH_MAXAGE : Nat := 0x170024
/-- CORE.HEALTH[c], RW (R533). -/
abbrev CORE_HEALTH (c : Nat) : Nat := 0x170030 + 0x4 * c
/-- CORE.HEALTH_AGE[c], RO (R533). -/
abbrev CORE_HEALTH_AGE (c : Nat) : Nat := 0x170038 + 0x4 * c
/-- CORE.CKPT, RW (R533). -/
abbrev CORE_CKPT : Nat := 0x170040
/-- CORE.TRANSFER_SI_LO, RO (R533). -/
abbrev CORE_TRANSFER_SI_LO : Nat := 0x170048
/-- CORE.TRANSFER_SI_HI, RO (R533). -/
abbrev CORE_TRANSFER_SI_HI : Nat := 0x17004C
/-- CORE.FAILOVERS, RC (R533). -/
abbrev CORE_FAILOVERS : Nat := 0x170050
/-- CORE.LATE_RENEW, RC (R533). -/
abbrev CORE_LATE_RENEW : Nat := 0x170054
/-- CORE.RENEW_BAD, RC (R533). -/
abbrev CORE_RENEW_BAD : Nat := 0x170058
/-- HOSTIF.STATUS, RO (R663). -/
abbrev HOSTIF_STATUS : Nat := 0x180000
/-- HOSTIF.EVENT, W1C (R663). -/
abbrev HOSTIF_EVENT : Nat := 0x180008
/-- HOSTIF.EVENT_EN, RW (R663). -/
abbrev HOSTIF_EVENT_EN : Nat := 0x18000C
/-- HOSTIF.CPL_TIMEOUT, RW (R663). -/
abbrev HOSTIF_CPL_TIMEOUT : Nat := 0x180010
/-- HOSTIF.INBOUND_ERR, RC (R663). -/
abbrev HOSTIF_INBOUND_ERR : Nat := 0x180014
/-- HOSTIF.CPL_TIMEOUTS, RC (R663). -/
abbrev HOSTIF_CPL_TIMEOUTS : Nat := 0x180018
/-- HOSTIF.FW_CTRL, RW (R663). -/
abbrev HOSTIF_FW_CTRL : Nat := 0x180020
/-- HOSTIF.FW_STATUS, RO (R663). -/
abbrev HOSTIF_FW_STATUS : Nat := 0x180024
/-- HOSTIF.FW_OFFSET, RW (R663). -/
abbrev HOSTIF_FW_OFFSET : Nat := 0x180028
/-- HOSTIF.FW_LEN, RW (R663). -/
abbrev HOSTIF_FW_LEN : Nat := 0x18002C
/-- HOSTIF.FW_ADDR_LO, RW (R663). -/
abbrev HOSTIF_FW_ADDR_LO : Nat := 0x180030
/-- HOSTIF.FW_ADDR_HI, RW (R663). -/
abbrev HOSTIF_FW_ADDR_HI : Nat := 0x180034
/-- HOSTIF.FW_VERSION, RO (R663). -/
abbrev HOSTIF_FW_VERSION : Nat := 0x180038
/-- HOSTIF.FW_ROLLBACK, RO (R663). -/
abbrev HOSTIF_FW_ROLLBACK : Nat := 0x18003C
/-- HOSTIF.FW_BUF, WO (R663). -/
abbrev HOSTIF_FW_BUF (n : Nat) : Nat := 0x184000 + 0x4 * n
/-- HOSTIF.MSIX_ADDR_LO, RW (R650). -/
abbrev HOSTIF_MSIX_ADDR_LO (n : Nat) : Nat := 0x188000 + 0x10 * n
/-- HOSTIF.MSIX_ADDR_HI, RW (R650). -/
abbrev HOSTIF_MSIX_ADDR_HI (n : Nat) : Nat := 0x188004 + 0x10 * n
/-- HOSTIF.MSIX_DATA, RW (R650). -/
abbrev HOSTIF_MSIX_DATA (n : Nat) : Nat := 0x188008 + 0x10 * n
/-- HOSTIF.MSIX_CTRL, RW (R650). -/
abbrev HOSTIF_MSIX_CTRL (n : Nat) : Nat := 0x18800C + 0x10 * n
/-- HOSTIF.MSIX_PBA, RO (R650). -/
abbrev HOSTIF_MSIX_PBA (j : Nat) : Nat := 0x189000 + 0x4 * j
/-- MGMT.CTRL, RW (R663). -/
abbrev MGMT_CTRL : Nat := 0x190000
/-- MGMT.STATUS, RO (R663). -/
abbrev MGMT_STATUS : Nat := 0x190004
/-- MGMT.EVENT, W1C (R663). -/
abbrev MGMT_EVENT : Nat := 0x190008
/-- MGMT.EVENT_EN, RW (R663). -/
abbrev MGMT_EVENT_EN : Nat := 0x19000C
/-- MGMT.MAC_LO, RO (R663). -/
abbrev MGMT_MAC_LO : Nat := 0x190010
/-- MGMT.MAC_HI, RO (R663). -/
abbrev MGMT_MAC_HI : Nat := 0x190014
/-- MGMT.MCAST[k].LO, RW (R663). -/
abbrev MGMT_MCAST_LO (k : Nat) : Nat := 0x190018 + 0x8 * k
/-- MGMT.MCAST[k].HI, RW (R663). -/
abbrev MGMT_MCAST_HI (k : Nat) : Nat := 0x19001C + 0x8 * k
/-- MGMT.RX_BASE, RW (R663). -/
abbrev MGMT_RX_BASE : Nat := 0x190040
/-- MGMT.TX_BASE, RW (R663). -/
abbrev MGMT_TX_BASE : Nat := 0x190044
/-- MGMT.RX_NEXT, RO (R663). -/
abbrev MGMT_RX_NEXT : Nat := 0x190048
/-- MGMT.TX_DOORBELL, WO (R663). -/
abbrev MGMT_TX_DOORBELL : Nat := 0x19004C
/-- MGMT.TX_NEXT, RO (R663). -/
abbrev MGMT_TX_NEXT : Nat := 0x190050
/-- MGMT.RX_FRAMES, RC (R663). -/
abbrev MGMT_RX_FRAMES : Nat := 0x190080
/-- MGMT.RX_DROP, RC (R663). -/
abbrev MGMT_RX_DROP : Nat := 0x190084
/-- MGMT.RX_FCS, RC (R663). -/
abbrev MGMT_RX_FCS : Nat := 0x190088
/-- MGMT.TX_FRAMES, RC (R663). -/
abbrev MGMT_TX_FRAMES : Nat := 0x19008C
/-- SNAP.CTRL, RW (R663). -/
abbrev SNAP_CTRL : Nat := 0x1A0000
/-- SNAP.STATUS, RO (R663). -/
abbrev SNAP_STATUS : Nat := 0x1A0004
/-- SNAP.SI_LO, RW (R663). -/
abbrev SNAP_SI_LO : Nat := 0x1A0008
/-- SNAP.SI_HI, RW (R663). -/
abbrev SNAP_SI_HI : Nat := 0x1A000C
/-- SNAP.DONE_SI_LO, RO (R663). -/
abbrev SNAP_DONE_SI_LO : Nat := 0x1A0010
/-- SNAP.DONE_SI_HI, RO (R663). -/
abbrev SNAP_DONE_SI_HI : Nat := 0x1A0014
/-- SNAP.RESOLVED_SI_LO, RO (R663). -/
abbrev SNAP_RESOLVED_SI_LO : Nat := 0x1A0018
/-- SNAP.RESOLVED_SI_HI, RO (R663). -/
abbrev SNAP_RESOLVED_SI_HI : Nat := 0x1A001C
/-- SNAP.PAGE, RW (R663). -/
abbrev SNAP_PAGE : Nat := 0x1A0020
/-- SNAP.APERTURE, RO (R663). -/
abbrev SNAP_APERTURE : Nat := 0x1B0000
/-- CLOVE[e].CTRL, RW (R574). -/
abbrev CLOVE_CTRL (e : Nat) : Nat := 0x87F000 + 0x80000 * e
/-- CLOVE[e].STATUS, RO (R574). -/
abbrev CLOVE_STATUS (e : Nat) : Nat := 0x87F004 + 0x80000 * e
/-- CLOVE[e].EVENT, W1C (R574). -/
abbrev CLOVE_EVENT (e : Nat) : Nat := 0x87F008 + 0x80000 * e
/-- CLOVE[e].EVENT_EN, RW (R574). -/
abbrev CLOVE_EVENT_EN (e : Nat) : Nat := 0x87F00C + 0x80000 * e
/-- CLOVE[e].ENTRY, RW (R574). -/
abbrev CLOVE_ENTRY (e : Nat) : Nat := 0x87F010 + 0x80000 * e
/-- CLOVE[e].PC, RO (R574). -/
abbrev CLOVE_PC (e : Nat) : Nat := 0x87F014 + 0x80000 * e
/-- CLOVE[e].FAULT_PC, RO (R574). -/
abbrev CLOVE_FAULT_PC (e : Nat) : Nat := 0x87F018 + 0x80000 * e
/-- CLOVE[e].FAULT_ADDR_LO, RO (R574). -/
abbrev CLOVE_FAULT_ADDR_LO (e : Nat) : Nat := 0x87F01C + 0x80000 * e
/-- CLOVE[e].FAULT_ADDR_HI, RO (R574). -/
abbrev CLOVE_FAULT_ADDR_HI (e : Nat) : Nat := 0x87F020 + 0x80000 * e
/-- CLOVE[e].CYCLES, RC (R574). -/
abbrev CLOVE_CYCLES (e : Nat) : Nat := 0x87F024 + 0x80000 * e
/-- CLOVE[e].WAITS, RC (R574). -/
abbrev CLOVE_WAITS (e : Nat) : Nat := 0x87F028 + 0x80000 * e
/-- CLOVE[e].PARITY, RC (R574). -/
abbrev CLOVE_PARITY (e : Nat) : Nat := 0x87F02C + 0x80000 * e

end Sys2Proof.Machine.R
end

