-- ==== Sys2Proof/Machine/Fields.lean ====
section
/-!
DEFINITION. Machine/Fields.lean: the fields of the registers, as the field tables of the spec give them: the register,
the lowest bit and the width. Reserved fields have no name.
-/
namespace Sys2Proof.Machine.F

open Sys2Proof (Field)

abbrev CAT_CTRL_SRC : Field := ⟨R.CAT_CTRL, 26, 2⟩
abbrev CAT_CTRL_STORE_SLOT : Field := ⟨R.CAT_CTRL, 25, 1⟩
abbrev CAT_CTRL_NO_BOOT : Field := ⟨R.CAT_CTRL, 8, 1⟩
abbrev CAT_CTRL_SET_BOOT : Field := ⟨R.CAT_CTRL, 7, 1⟩
abbrev CAT_CTRL_STORE : Field := ⟨R.CAT_CTRL, 6, 1⟩
abbrev CAT_CTRL_CLEAR : Field := ⟨R.CAT_CTRL, 5, 1⟩
abbrev CAT_CTRL_CANCEL : Field := ⟨R.CAT_CTRL, 4, 1⟩
abbrev CAT_CTRL_SCHEDULE : Field := ⟨R.CAT_CTRL, 3, 1⟩
abbrev CAT_CTRL_VERIFY : Field := ⟨R.CAT_CTRL, 2, 1⟩
abbrev CAT_CTRL_LOAD : Field := ⟨R.CAT_CTRL, 1, 1⟩
abbrev CAT_STATUS_REASON : Field := ⟨R.CAT_STATUS, 24, 8⟩
abbrev CAT_STATUS_MISMATCH : Field := ⟨R.CAT_STATUS, 15, 1⟩
abbrev CAT_STATUS_RETIRING : Field := ⟨R.CAT_STATUS, 14, 1⟩
abbrev CAT_STATUS_STORE_BUSY : Field := ⟨R.CAT_STATUS, 13, 1⟩
abbrev CAT_STATUS_FALLBACK : Field := ⟨R.CAT_STATUS, 12, 1⟩
abbrev CAT_STATUS_REJECT : Field := ⟨R.CAT_STATUS, 11, 1⟩
abbrev CAT_STATUS_HEAVY : Field := ⟨R.CAT_STATUS, 10, 1⟩
abbrev CAT_STATUS_SHADOW : Field := ⟨R.CAT_STATUS, 0, 3⟩
abbrev CAT_EVENT_WRITE_REFUSED : Field := ⟨R.CAT_EVENT, 12, 1⟩
abbrev CAT_EVENT_FALLBACK : Field := ⟨R.CAT_EVENT, 11, 1⟩
abbrev CAT_EVENT_STORE_FAIL : Field := ⟨R.CAT_EVENT, 10, 1⟩
abbrev CAT_EVENT_STORE_DONE : Field := ⟨R.CAT_EVENT, 9, 1⟩
abbrev CAT_EVENT_CANCEL_LATE : Field := ⟨R.CAT_EVENT, 8, 1⟩
abbrev CAT_EVENT_CANCELLED : Field := ⟨R.CAT_EVENT, 7, 1⟩
abbrev CAT_EVENT_RESUMED : Field := ⟨R.CAT_EVENT, 6, 1⟩
abbrev CAT_EVENT_ACCEDED : Field := ⟨R.CAT_EVENT, 5, 1⟩
abbrev CAT_EVENT_REFUSED : Field := ⟨R.CAT_EVENT, 4, 1⟩
abbrev CAT_EVENT_SCHEDULED : Field := ⟨R.CAT_EVENT, 3, 1⟩
abbrev CAT_EVENT_REJECT : Field := ⟨R.CAT_EVENT, 2, 1⟩
abbrev CAT_EVENT_VERIFIED : Field := ⟨R.CAT_EVENT, 1, 1⟩
abbrev CAT_EVENT_LOADED : Field := ⟨R.CAT_EVENT, 0, 1⟩
abbrev CAT_KIND_CHAIN : Field := ⟨R.CAT_KIND, 5, 1⟩
abbrev CAT_KIND_CLOVE : Field := ⟨R.CAT_KIND, 4, 1⟩
abbrev CAT_KIND_PLAN : Field := ⟨R.CAT_KIND, 3, 1⟩
abbrev CAT_KIND_REGS : Field := ⟨R.CAT_KIND, 2, 1⟩
abbrev CAT_KIND_TIMEBASE : Field := ⟨R.CAT_KIND, 1, 1⟩
abbrev CAT_KIND_GEOMETRY : Field := ⟨R.CAT_KIND, 0, 1⟩
abbrev CAT_BOOT_BOOT_SLOT : Field := ⟨R.CAT_BOOT, 8, 2⟩
abbrev CAT_BOOT_LIVE_SRC : Field := ⟨R.CAT_BOOT, 0, 3⟩
abbrev CAT_ADDR_VALID : Field := ⟨R.CAT_ADDR, 15, 1⟩
abbrev CAT_ADDR_ADDRESS : Field := ⟨R.CAT_ADDR, 0, 10⟩
abbrev TIME_STATE_NEXT_VALID : Field := ⟨R.TIME_STATE, 8, 1⟩
abbrev TIME_STATE_SLEWING : Field := ⟨R.TIME_STATE, 7, 1⟩
abbrev TIME_STATE_ACTIVE_VALID : Field := ⟨R.TIME_STATE, 6, 1⟩
abbrev TIME_STATE_ACTIVE : Field := ⟨R.TIME_STATE, 4, 2⟩
abbrev TIME_STATE_STATE : Field := ⟨R.TIME_STATE, 0, 3⟩
abbrev TIME_CTRL_REVERTIVE : Field := ⟨R.TIME_CTRL, 1, 1⟩
abbrev TIME_CTRL_REACQUIRE : Field := ⟨R.TIME_CTRL, 0, 1⟩
abbrev TIME_EVENT_NEXT_SEC_NEEDED : Field := ⟨R.TIME_EVENT, 14, 1⟩
abbrev TIME_EVENT_PPS_SQUELCH : Field := ⟨R.TIME_EVENT, 13, 1⟩
abbrev TIME_EVENT_SI_RANGE : Field := ⟨R.TIME_EVENT, 12, 1⟩
abbrev TIME_EVENT_SI_RESTORED : Field := ⟨R.TIME_EVENT, 11, 1⟩
abbrev TIME_EVENT_SI_JUMP : Field := ⟨R.TIME_EVENT, 10, 1⟩
abbrev TIME_EVENT_SI_SUSPECT : Field := ⟨R.TIME_EVENT, 9, 1⟩
abbrev TIME_EVENT_INCR_SAT : Field := ⟨R.TIME_EVENT, 8, 1⟩
abbrev TIME_EVENT_HOLD_LIMIT : Field := ⟨R.TIME_EVENT, 7, 1⟩
abbrev TIME_EVENT_ACQ_TIMEOUT : Field := ⟨R.TIME_EVENT, 6, 1⟩
abbrev TIME_EVENT_STEP : Field := ⟨R.TIME_EVENT, 5, 1⟩
abbrev TIME_EVENT_DISAGREE : Field := ⟨R.TIME_EVENT, 4, 1⟩
abbrev TIME_EVENT_QUAL_GAIN : Field := ⟨R.TIME_EVENT, 3, 1⟩
abbrev TIME_EVENT_QUAL_LOSS : Field := ⟨R.TIME_EVENT, 2, 1⟩
abbrev TIME_EVENT_SWITCH : Field := ⟨R.TIME_EVENT, 1, 1⟩
abbrev TIME_EVENT_STATE : Field := ⟨R.TIME_EVENT, 0, 1⟩
abbrev TIME_PRIO_EN : Field := ⟨R.TIME_PRIO, 7, 1⟩
abbrev TIME_PRIO_SRC : Field := ⟨R.TIME_PRIO, 0, 2⟩
abbrev TIME_SRC_CFG_DELAY (n : Nat) : Field := ⟨R.TIME_SRC_CFG n, 8, 24⟩
abbrev TIME_SRC_CFG_PPS_FALL (n : Nat) : Field := ⟨R.TIME_SRC_CFG n, 2, 1⟩
abbrev TIME_SRC_CFG_LVCMOS (n : Nat) : Field := ⟨R.TIME_SRC_CFG n, 1, 1⟩
abbrev TIME_SRC_CFG_F100 (n : Nat) : Field := ⟨R.TIME_SRC_CFG n, 0, 1⟩
abbrev TIME_SRC_STATUS_HITS (n : Nat) : Field := ⟨R.TIME_SRC_STATUS n, 4, 8⟩
abbrev TIME_SRC_STATUS_LOS (n : Nat) : Field := ⟨R.TIME_SRC_STATUS n, 3, 1⟩
abbrev TIME_SRC_STATUS_CANDIDATE (n : Nat) : Field := ⟨R.TIME_SRC_STATUS n, 2, 1⟩
abbrev TIME_SRC_STATUS_ACTIVE (n : Nat) : Field := ⟨R.TIME_SRC_STATUS n, 1, 1⟩
abbrev TIME_SRC_STATUS_QUALIFIED (n : Nat) : Field := ⟨R.TIME_SRC_STATUS n, 0, 1⟩
abbrev TIME_QUAL_WINDOW : Field := ⟨R.TIME_QUAL, 24, 8⟩
abbrev TIME_QUAL_HITS : Field := ⟨R.TIME_QUAL, 16, 4⟩
abbrev TIME_QUAL_JUMP_NS : Field := ⟨R.TIME_QUAL, 0, 16⟩
abbrev TIME_OUT_PPS_WIDTH : Field := ⟨R.TIME_OUT, 8, 16⟩
abbrev TIME_OUT_SQUELCH : Field := ⟨R.TIME_OUT, 3, 2⟩
abbrev TIME_OUT_CLK_FREQ : Field := ⟨R.TIME_OUT, 2, 1⟩
abbrev TIME_OUT_CLK_EN : Field := ⟨R.TIME_OUT, 1, 1⟩
abbrev TIME_OUT_PPS_EN : Field := ⟨R.TIME_OUT, 0, 1⟩
abbrev TIME_QUALITY_DISAGREE : Field := ⟨R.TIME_QUALITY, 7, 1⟩
abbrev TIME_QUALITY_SLEWING : Field := ⟨R.TIME_QUALITY, 6, 1⟩
abbrev TIME_QUALITY_STEPPED : Field := ⟨R.TIME_QUALITY, 5, 1⟩
abbrev TIME_QUALITY_FREE_RUN : Field := ⟨R.TIME_QUALITY, 4, 1⟩
abbrev TIME_QUALITY_LOST : Field := ⟨R.TIME_QUALITY, 3, 1⟩
abbrev TIME_QUALITY_HOLDOVER : Field := ⟨R.TIME_QUALITY, 2, 1⟩
abbrev TIME_QUALITY_SI_JUMP : Field := ⟨R.TIME_QUALITY, 1, 1⟩
abbrev TIME_QUALITY_SUSPECT : Field := ⟨R.TIME_QUALITY, 0, 1⟩
abbrev LANE_CFG_TX_STREAM (n : Nat) : Field := ⟨R.LANE_CFG n, 24, 8⟩
abbrev LANE_CFG_STRICT (n : Nat) : Field := ⟨R.LANE_CFG n, 15, 1⟩
abbrev LANE_CFG_SIMPLEX_TX (n : Nat) : Field := ⟨R.LANE_CFG n, 14, 1⟩
abbrev LANE_CFG_START_RATE (n : Nat) : Field := ⟨R.LANE_CFG n, 12, 2⟩
abbrev LANE_CFG_UIP_EN (n : Nat) : Field := ⟨R.LANE_CFG n, 8, 3⟩
abbrev LANE_CFG_RATE_EN (n : Nat) : Field := ⟨R.LANE_CFG n, 4, 3⟩
abbrev LANE_CFG_EN (n : Nat) : Field := ⟨R.LANE_CFG n, 0, 1⟩
abbrev LANE_CTRL_LOOP (n : Nat) : Field := ⟨R.LANE_CTRL n, 6, 2⟩
abbrev LANE_CTRL_PAT (n : Nat) : Field := ⟨R.LANE_CTRL n, 3, 3⟩
abbrev LANE_CTRL_PAT_CHK (n : Nat) : Field := ⟨R.LANE_CTRL n, 2, 1⟩
abbrev LANE_CTRL_FREEZE (n : Nat) : Field := ⟨R.LANE_CTRL n, 1, 1⟩
abbrev LANE_CTRL_RETRAIN (n : Nat) : Field := ⟨R.LANE_CTRL n, 0, 1⟩
abbrev LANE_STATE_PAT_LOCK (n : Nat) : Field := ⟨R.LANE_STATE n, 15, 1⟩
abbrev LANE_STATE_EGRESS_OK (n : Nat) : Field := ⟨R.LANE_STATE n, 14, 1⟩
abbrev LANE_STATE_PARTNER_SIMPLEX (n : Nat) : Field := ⟨R.LANE_STATE n, 13, 1⟩
abbrev LANE_STATE_HOLDING (n : Nat) : Field := ⟨R.LANE_STATE n, 12, 1⟩
abbrev LANE_STATE_UIP (n : Nat) : Field := ⟨R.LANE_STATE n, 10, 2⟩
abbrev LANE_STATE_RATE (n : Nat) : Field := ⟨R.LANE_STATE n, 8, 2⟩
abbrev LANE_STATE_SYM_LOCK (n : Nat) : Field := ⟨R.LANE_STATE n, 4, 1⟩
abbrev LANE_STATE_BIT_LOCK (n : Nat) : Field := ⟨R.LANE_STATE n, 3, 1⟩
abbrev LANE_STATE_STATE (n : Nat) : Field := ⟨R.LANE_STATE n, 0, 3⟩
abbrev LANE_EVENT_RATE_DOWN (n : Nat) : Field := ⟨R.LANE_EVENT n, 14, 1⟩
abbrev LANE_EVENT_EGRESS_REFUSED (n : Nat) : Field := ⟨R.LANE_EVENT n, 13, 1⟩
abbrev LANE_EVENT_CTRL_REFUSED (n : Nat) : Field := ⟨R.LANE_EVENT n, 12, 1⟩
abbrev LANE_EVENT_PLL_LOSS (n : Nat) : Field := ⟨R.LANE_EVENT n, 11, 1⟩
abbrev LANE_EVENT_ERRPROP (n : Nat) : Field := ⟨R.LANE_EVENT n, 10, 1⟩
abbrev LANE_EVENT_ELASTIC (n : Nat) : Field := ⟨R.LANE_EVENT n, 9, 1⟩
abbrev LANE_EVENT_MARGIN (n : Nat) : Field := ⟨R.LANE_EVENT n, 8, 1⟩
abbrev LANE_EVENT_STREAM_MISMATCH (n : Nat) : Field := ⟨R.LANE_EVENT n, 7, 1⟩
abbrev LANE_EVENT_IDENT_MISMATCH (n : Nat) : Field := ⟨R.LANE_EVENT n, 6, 1⟩
abbrev LANE_EVENT_NO_COMMON (n : Nat) : Field := ⟨R.LANE_EVENT n, 5, 1⟩
abbrev LANE_EVENT_EXCH_FAIL (n : Nat) : Field := ⟨R.LANE_EVENT n, 4, 1⟩
abbrev LANE_EVENT_LOCK_FAIL (n : Nat) : Field := ⟨R.LANE_EVENT n, 3, 1⟩
abbrev LANE_EVENT_TRAIN_FAIL (n : Nat) : Field := ⟨R.LANE_EVENT n, 2, 1⟩
abbrev LANE_EVENT_ACTIVE_LOSS (n : Nat) : Field := ⟨R.LANE_EVENT n, 1, 1⟩
abbrev LANE_EVENT_STATE (n : Nat) : Field := ⟨R.LANE_EVENT n, 0, 1⟩
abbrev LANE_FOM_PARTNER (n : Nat) : Field := ⟨R.LANE_FOM n, 8, 8⟩
abbrev LANE_FOM_FOM (n : Nat) : Field := ⟨R.LANE_FOM n, 0, 8⟩
abbrev LANE_FOM_CFG_HYST (n : Nat) : Field := ⟨R.LANE_FOM_CFG n, 16, 8⟩
abbrev LANE_FOM_CFG_MARGIN (n : Nat) : Field := ⟨R.LANE_FOM_CFG n, 8, 8⟩
abbrev LANE_FOM_CFG_ADAPT_MIN (n : Nat) : Field := ⟨R.LANE_FOM_CFG n, 0, 8⟩
abbrev LANE_ADAPT_TAP5 (n : Nat) : Field := ⟨R.LANE_ADAPT n, 24, 5⟩
abbrev LANE_ADAPT_TAP4 (n : Nat) : Field := ⟨R.LANE_ADAPT n, 19, 5⟩
abbrev LANE_ADAPT_TAP3 (n : Nat) : Field := ⟨R.LANE_ADAPT n, 14, 5⟩
abbrev LANE_ADAPT_TAP2 (n : Nat) : Field := ⟨R.LANE_ADAPT n, 9, 5⟩
abbrev LANE_ADAPT_TAP1 (n : Nat) : Field := ⟨R.LANE_ADAPT n, 4, 5⟩
abbrev LANE_ADAPT_CTLE (n : Nat) : Field := ⟨R.LANE_ADAPT n, 0, 4⟩
abbrev LANE_TIMERS_TRAIN_TIMEOUT (n : Nat) : Field := ⟨R.LANE_TIMERS n, 16, 10⟩
abbrev LANE_TIMERS_LOCK_TIMEOUT (n : Nat) : Field := ⟨R.LANE_TIMERS n, 8, 8⟩
abbrev LANE_TIMERS_EXCH_TIMEOUT (n : Nat) : Field := ⟨R.LANE_TIMERS n, 0, 8⟩
abbrev LANE_IDENT_GROUP (n : Nat) : Field := ⟨R.LANE_IDENT n, 16, 16⟩
abbrev LANE_IDENT_LANE_COUNT (n : Nat) : Field := ⟨R.LANE_IDENT n, 8, 8⟩
abbrev LANE_IDENT_LANE_INDEX (n : Nat) : Field := ⟨R.LANE_IDENT n, 0, 8⟩
abbrev LANE_EXPECT_GROUP (n : Nat) : Field := ⟨R.LANE_EXPECT n, 16, 16⟩
abbrev LANE_EXPECT_LANE_INDEX (n : Nat) : Field := ⟨R.LANE_EXPECT n, 0, 8⟩
abbrev QUIRE_STATUS_ACTIVE (q : Nat) : Field := ⟨R.QUIRE_STATUS q, 8, 8⟩
abbrev QUIRE_STATUS_PLL_LOCK (q : Nat) : Field := ⟨R.QUIRE_STATUS q, 0, 1⟩
abbrev INGEST_CTRL_MON_RESTART : Field := ⟨R.INGEST_CTRL, 0, 1⟩
abbrev INGEST_STATUS_OPEN : Field := ⟨R.INGEST_STATUS, 16, 16⟩
abbrev INGEST_STATUS_FULL : Field := ⟨R.INGEST_STATUS, 0, 1⟩
abbrev INGEST_EVENT_EXCISE : Field := ⟨R.INGEST_EVENT, 8, 1⟩
abbrev INGEST_EVENT_UPSTREAM_BAD : Field := ⟨R.INGEST_EVENT, 7, 1⟩
abbrev INGEST_EVENT_DEADLINE : Field := ⟨R.INGEST_EVENT, 6, 1⟩
abbrev INGEST_EVENT_SHORT : Field := ⟨R.INGEST_EVENT, 5, 1⟩
abbrev INGEST_EVENT_STAGE_FULL : Field := ⟨R.INGEST_EVENT, 4, 1⟩
abbrev INGEST_EVENT_DUP : Field := ⟨R.INGEST_EVENT, 3, 1⟩
abbrev INGEST_EVENT_LATE : Field := ⟨R.INGEST_EVENT, 2, 1⟩
abbrev INGEST_EVENT_UNMAPPED : Field := ⟨R.INGEST_EVENT, 1, 1⟩
abbrev INGEST_EVENT_FRAME_ERR : Field := ⟨R.INGEST_EVENT, 0, 1⟩
abbrev INGEST_GEOM_W8 : Field := ⟨R.INGEST_GEOM, 31, 1⟩
abbrev INGEST_GEOM_CHANNELS : Field := ⟨R.INGEST_GEOM, 16, 13⟩
abbrev INGEST_GEOM_INPUTS : Field := ⟨R.INGEST_GEOM, 0, 13⟩
abbrev INGEST_MON_CFG_HOLD : Field := ⟨R.INGEST_MON_CFG, 16, 8⟩
abbrev INGEST_MON_CFG_DECIM : Field := ⟨R.INGEST_MON_CFG, 8, 2⟩
abbrev INGEST_MON_CFG_AVG : Field := ⟨R.INGEST_MON_CFG, 0, 4⟩
abbrev INGEST_MON_BAND_LAST : Field := ⟨R.INGEST_MON_BAND, 16, 13⟩
abbrev INGEST_MON_BAND_FIRST : Field := ⟨R.INGEST_MON_BAND, 0, 13⟩
abbrev INGEST_EXC_CFG_HOLD : Field := ⟨R.INGEST_EXC_CFG, 8, 4⟩
abbrev INGEST_EXC_CFG_MULT : Field := ⟨R.INGEST_EXC_CFG, 0, 8⟩
abbrev INGEST_LAST_ERR_CHECK : Field := ⟨R.INGEST_LAST_ERR, 24, 8⟩
abbrev INGEST_LAST_ERR_LANE : Field := ⟨R.INGEST_LAST_ERR, 0, 8⟩
abbrev INGEST_MAP_W0_STREAM (e : Nat) : Field := ⟨R.INGEST_MAP_W0 e, 16, 16⟩
abbrev INGEST_MAP_W0_GROUP_FIRST (e : Nat) : Field := ⟨R.INGEST_MAP_W0 e, 0, 16⟩
abbrev INGEST_MAP_W1_EN (e : Nat) : Field := ⟨R.INGEST_MAP_W1 e, 31, 1⟩
abbrev INGEST_MAP_W1_W8 (e : Nat) : Field := ⟨R.INGEST_MAP_W1 e, 30, 1⟩
abbrev INGEST_MAP_W1_GROUP_COUNT (e : Nat) : Field := ⟨R.INGEST_MAP_W1 e, 16, 9⟩
abbrev INGEST_MAP_W1_INPUT_FIRST (e : Nat) : Field := ⟨R.INGEST_MAP_W1 e, 0, 12⟩
abbrev INGEST_CHAN_W0_WIRE_FIRST (r : Nat) : Field := ⟨R.INGEST_CHAN_W0 r, 0, 16⟩
abbrev INGEST_CHAN_W1_EN (r : Nat) : Field := ⟨R.INGEST_CHAN_W1 r, 31, 1⟩
abbrev INGEST_CHAN_W1_COUNT (r : Nat) : Field := ⟨R.INGEST_CHAN_W1 r, 16, 13⟩
abbrev INGEST_CHAN_W1_SLOT_FIRST (r : Nat) : Field := ⟨R.INGEST_CHAN_W1 r, 0, 13⟩
abbrev INGEST_IN_LEVEL_VALID (i : Nat) : Field := ⟨R.INGEST_IN_LEVEL i, 31, 1⟩
abbrev INGEST_IN_LEVEL_LEVEL (i : Nat) : Field := ⟨R.INGEST_IN_LEVEL i, 0, 24⟩
abbrev ARRAY_CTRL_BIST_ON_WARM : Field := ⟨R.ARRAY_CTRL, 2, 1⟩
abbrev ARRAY_CTRL_CHECK_NOW : Field := ⟨R.ARRAY_CTRL, 1, 1⟩
abbrev ARRAY_CTRL_CHECK_EN : Field := ⟨R.ARRAY_CTRL, 0, 1⟩
abbrev ARRAY_STATUS_RUNNING : Field := ⟨R.ARRAY_STATUS, 31, 1⟩
abbrev ARRAY_STATUS_RESIDENT : Field := ⟨R.ARRAY_STATUS, 30, 1⟩
abbrev ARRAY_STATUS_FREE_SPARES : Field := ⟨R.ARRAY_STATUS, 8, 5⟩
abbrev ARRAY_EVENT_SPARE_TILE : Field := ⟨R.ARRAY_EVENT, 9, 1⟩
abbrev ARRAY_EVENT_BIST_FAIL : Field := ⟨R.ARRAY_EVENT, 8, 1⟩
abbrev ARRAY_EVENT_MISSING : Field := ⟨R.ARRAY_EVENT, 7, 1⟩
abbrev ARRAY_EVENT_SPARE_EXHAUSTED : Field := ⟨R.ARRAY_EVENT, 6, 1⟩
abbrev ARRAY_EVENT_RETIRED : Field := ⟨R.ARRAY_EVENT, 5, 1⟩
abbrev ARRAY_EVENT_RETIRE_PEND : Field := ⟨R.ARRAY_EVENT, 4, 1⟩
abbrev ARRAY_EVENT_CHECK_FAIL : Field := ⟨R.ARRAY_EVENT, 3, 1⟩
abbrev ARRAY_EVENT_ORDER_ERR : Field := ⟨R.ARRAY_EVENT, 2, 1⟩
abbrev ARRAY_EVENT_ABANDON : Field := ⟨R.ARRAY_EVENT, 1, 1⟩
abbrev ARRAY_EVENT_SAT : Field := ⟨R.ARRAY_EVENT, 0, 1⟩
abbrev ARRAY_GEOM_SHAPE : Field := ⟨R.ARRAY_GEOM, 30, 2⟩
abbrev ARRAY_GEOM_RESIDENT : Field := ⟨R.ARRAY_GEOM, 29, 1⟩
abbrev ARRAY_GEOM_W8 : Field := ⟨R.ARRAY_GEOM, 28, 1⟩
abbrev ARRAY_GEOM_T : Field := ⟨R.ARRAY_GEOM, 0, 11⟩
abbrev ARRAY_ROLES_BEAM : Field := ⟨R.ARRAY_ROLES, 16, 9⟩
abbrev ARRAY_ROLES_CORR : Field := ⟨R.ARRAY_ROLES, 0, 9⟩
abbrev ARRAY_POS_CHANNEL : Field := ⟨R.ARRAY_POS, 16, 13⟩
abbrev ARRAY_POS_ROUND : Field := ⟨R.ARRAY_POS, 0, 12⟩
abbrev ARRAY_LAST_ERR_KIND : Field := ⟨R.ARRAY_LAST_ERR, 24, 8⟩
abbrev ARRAY_LAST_ERR_PHYS : Field := ⟨R.ARRAY_LAST_ERR, 0, 9⟩
abbrev ARRAY_PMAP_STATE (p : Nat) : Field := ⟨R.ARRAY_PMAP p, 29, 3⟩
abbrev ARRAY_PMAP_ROLE (p : Nat) : Field := ⟨R.ARRAY_PMAP p, 27, 2⟩
abbrev ARRAY_PMAP_PEND (p : Nat) : Field := ⟨R.ARRAY_PMAP p, 26, 1⟩
abbrev ARRAY_PMAP_CAUSE (p : Nat) : Field := ⟨R.ARRAY_PMAP p, 23, 3⟩
abbrev ARRAY_PMAP_LOGICAL (p : Nat) : Field := ⟨R.ARRAY_PMAP p, 0, 9⟩
abbrev ARRAY_TEV_PEND (g : Nat) : Field := ⟨R.ARRAY_TEV g, 5, 1⟩
abbrev ARRAY_TEV_RETIRED (g : Nat) : Field := ⟨R.ARRAY_TEV g, 4, 1⟩
abbrev ARRAY_TEV_ORDER_ERR (g : Nat) : Field := ⟨R.ARRAY_TEV g, 3, 1⟩
abbrev ARRAY_TEV_CHECK_FAIL (g : Nat) : Field := ⟨R.ARRAY_TEV g, 2, 1⟩
abbrev ARRAY_TEV_PARITY (g : Nat) : Field := ⟨R.ARRAY_TEV g, 1, 1⟩
abbrev ARRAY_TEV_SAT (g : Nat) : Field := ⟨R.ARRAY_TEV g, 0, 1⟩
abbrev ARRAY_TILE_CHECK_PASSED (p : Nat) : Field := ⟨R.ARRAY_TILE_CHECK p, 16, 16⟩
abbrev ARRAY_TILE_CHECK_LAST_FAIL (p : Nat) : Field := ⟨R.ARRAY_TILE_CHECK p, 1, 1⟩
abbrev ARRAY_TILE_CHECK_LAST_PASS (p : Nat) : Field := ⟨R.ARRAY_TILE_CHECK p, 0, 1⟩
abbrev ACCUM_CTRL_EGRESS_PAUSE : Field := ⟨R.ACCUM_CTRL, 0, 1⟩
abbrev ACCUM_STATUS_DRAINING : Field := ⟨R.ACCUM_STATUS, 31, 1⟩
abbrev ACCUM_STATUS_DRAIN_BANK : Field := ⟨R.ACCUM_STATUS, 30, 1⟩
abbrev ACCUM_STATUS_FILL_BANK : Field := ⟨R.ACCUM_STATUS, 29, 1⟩
abbrev ACCUM_STATUS_WAITING : Field := ⟨R.ACCUM_STATUS, 28, 1⟩
abbrev ACCUM_STATUS_STAGE_FULL : Field := ⟨R.ACCUM_STATUS, 8, 8⟩
abbrev ACCUM_STATUS_STAGE_SLOTS : Field := ⟨R.ACCUM_STATUS, 0, 8⟩
abbrev ACCUM_EVENT_TENSOR_ERR : Field := ⟨R.ACCUM_EVENT, 8, 1⟩
abbrev ACCUM_EVENT_MEMERR : Field := ⟨R.ACCUM_EVENT, 7, 1⟩
abbrev ACCUM_EVENT_ACC_SAT : Field := ⟨R.ACCUM_EVENT, 6, 1⟩
abbrev ACCUM_EVENT_BANK_WAIT : Field := ⟨R.ACCUM_EVENT, 5, 1⟩
abbrev ACCUM_EVENT_FOLIO_LOST : Field := ⟨R.ACCUM_EVENT, 4, 1⟩
abbrev ACCUM_EVENT_SHORT : Field := ⟨R.ACCUM_EVENT, 3, 1⟩
abbrev ACCUM_EVENT_EGRESS_DONE : Field := ⟨R.ACCUM_EVENT, 2, 1⟩
abbrev ACCUM_EVENT_DRAIN_START : Field := ⟨R.ACCUM_EVENT, 1, 1⟩
abbrev ACCUM_EVENT_FOLIO_DONE : Field := ⟨R.ACCUM_EVENT, 0, 1⟩
abbrev ACCUM_CFG_VALUE_FMT : Field := ⟨R.ACCUM_CFG, 24, 2⟩
abbrev ACCUM_CFG_EXACT_WT : Field := ⟨R.ACCUM_CFG, 20, 1⟩
abbrev ACCUM_BLOCKS_COUNT : Field := ⟨R.ACCUM_BLOCKS, 16, 16⟩
abbrev ACCUM_BLOCKS_FIRST : Field := ⟨R.ACCUM_BLOCKS, 0, 16⟩
abbrev ACCUM_OUT_BLOCKS_COUNT : Field := ⟨R.ACCUM_OUT_BLOCKS, 16, 16⟩
abbrev ACCUM_OUT_BLOCKS_FIRST : Field := ⟨R.ACCUM_OUT_BLOCKS, 0, 16⟩
abbrev ACCUM_OUT_CHAN_COUNT : Field := ⟨R.ACCUM_OUT_CHAN, 16, 13⟩
abbrev ACCUM_OUT_CHAN_FIRST : Field := ⟨R.ACCUM_OUT_CHAN, 0, 13⟩
abbrev ACCUM_ROUTE_STREAM : Field := ⟨R.ACCUM_ROUTE, 24, 8⟩
abbrev ACCUM_ROUTE_PCIE : Field := ⟨R.ACCUM_ROUTE, 1, 1⟩
abbrev ACCUM_ROUTE_EGRESS : Field := ⟨R.ACCUM_ROUTE, 0, 1⟩
abbrev ACCUM_TENSOR_CFG_PAGE : Field := ⟨R.ACCUM_TENSOR_CFG, 3, 1⟩
abbrev ACCUM_TENSOR_CFG_OUTER : Field := ⟨R.ACCUM_TENSOR_CFG, 2, 1⟩
abbrev ACCUM_TENSOR_CFG_OP : Field := ⟨R.ACCUM_TENSOR_CFG, 0, 2⟩
abbrev ACCUM_TOPK_NOAUTO : Field := ⟨R.ACCUM_TOPK, 16, 1⟩
abbrev ACCUM_TOPK_COUNT : Field := ⟨R.ACCUM_TOPK, 0, 11⟩
abbrev ACCUM_STAGE_STATE_FULL (s : Nat) : Field := ⟨R.ACCUM_STAGE_STATE s, 31, 1⟩
abbrev ACCUM_STAGE_STATE_WRITING (s : Nat) : Field := ⟨R.ACCUM_STAGE_STATE s, 30, 1⟩
abbrev ACCUM_STAGE_STATE_SENDING (s : Nat) : Field := ⟨R.ACCUM_STAGE_STATE s, 29, 1⟩
abbrev ACCUM_STAGE_STATE_EGRESS_DONE (s : Nat) : Field := ⟨R.ACCUM_STAGE_STATE s, 28, 1⟩
abbrev BEAM_CTRL_SEARCH_RESTART : Field := ⟨R.BEAM_CTRL, 0, 1⟩
abbrev BEAM_STATUS_SEARCH_ACTIVE : Field := ⟨R.BEAM_STATUS, 31, 1⟩
abbrev BEAM_STATUS_HELD : Field := ⟨R.BEAM_STATUS, 16, 8⟩
abbrev BEAM_STATUS_BLOCKTIMES : Field := ⟨R.BEAM_STATUS, 0, 3⟩
abbrev BEAM_EVENT_SHED : Field := ⟨R.BEAM_EVENT, 10, 1⟩
abbrev BEAM_EVENT_WERR : Field := ⟨R.BEAM_EVENT, 9, 1⟩
abbrev BEAM_EVENT_SEARCH_CUT : Field := ⟨R.BEAM_EVENT, 8, 1⟩
abbrev BEAM_EVENT_CAND : Field := ⟨R.BEAM_EVENT, 7, 1⟩
abbrev BEAM_EVENT_THRESH : Field := ⟨R.BEAM_EVENT, 6, 1⟩
abbrev BEAM_EVENT_SAT : Field := ⟨R.BEAM_EVENT, 5, 1⟩
abbrev BEAM_EVENT_VDROP : Field := ⟨R.BEAM_EVENT, 4, 1⟩
abbrev BEAM_EVENT_LATE : Field := ⟨R.BEAM_EVENT, 3, 1⟩
abbrev BEAM_EVENT_SWITCH_REFUSED : Field := ⟨R.BEAM_EVENT, 2, 1⟩
abbrev BEAM_EVENT_WEIGHT_LATE : Field := ⟨R.BEAM_EVENT, 1, 1⟩
abbrev BEAM_EVENT_SWITCH : Field := ⟨R.BEAM_EVENT, 0, 1⟩
abbrev BEAM_GEOM_SETS : Field := ⟨R.BEAM_GEOM, 24, 6⟩
abbrev BEAM_GEOM_VOLT : Field := ⟨R.BEAM_GEOM, 16, 8⟩
abbrev BEAM_GEOM_DET : Field := ⟨R.BEAM_GEOM, 0, 11⟩
abbrev BEAM_VCFG_VLAT : Field := ⟨R.BEAM_VCFG, 16, 16⟩
abbrev BEAM_VCFG_VSHIFT : Field := ⟨R.BEAM_VCFG, 0, 5⟩
abbrev BEAM_DCFG_DT : Field := ⟨R.BEAM_DCFG, 24, 3⟩
abbrev BEAM_DCFG_PSHIFT : Field := ⟨R.BEAM_DCFG, 16, 5⟩
abbrev BEAM_DCFG_DSHIFT : Field := ⟨R.BEAM_DCFG, 0, 5⟩
abbrev BEAM_ROUTE_CSTREAM : Field := ⟨R.BEAM_ROUTE, 16, 8⟩
abbrev BEAM_ROUTE_DSTREAM : Field := ⟨R.BEAM_ROUTE, 8, 8⟩
abbrev BEAM_ROUTE_VSTREAM : Field := ⟨R.BEAM_ROUTE, 0, 8⟩
abbrev BEAM_SEARCH_EN : Field := ⟨R.BEAM_SEARCH, 31, 1⟩
abbrev BEAM_SEARCH_LEVELS : Field := ⟨R.BEAM_SEARCH, 8, 4⟩
abbrev BEAM_SEARCH_AVG : Field := ⟨R.BEAM_SEARCH, 0, 4⟩
abbrev BEAM_SBAND_LAST : Field := ⟨R.BEAM_SBAND, 16, 13⟩
abbrev BEAM_SBAND_FIRST : Field := ⟨R.BEAM_SBAND, 0, 13⟩
abbrev BEAM_CAND_PERIOD : Field := ⟨R.BEAM_CAND, 16, 16⟩
abbrev BEAM_CAND_K : Field := ⟨R.BEAM_CAND, 0, 8⟩
abbrev BEAM_SWITCH_CTRL_REASON : Field := ⟨R.BEAM_SWITCH_CTRL, 24, 8⟩
abbrev BEAM_SWITCH_CTRL_PAGE : Field := ⟨R.BEAM_SWITCH_CTRL, 1, 1⟩
abbrev BEAM_SWITCH_CTRL_GO : Field := ⟨R.BEAM_SWITCH_CTRL, 0, 1⟩
abbrev BEAM_TH_TH (j : Nat) : Field := ⟨R.BEAM_TH j, 0, 16⟩
abbrev BEAM_LVL_SEL_VALID : Field := ⟨R.BEAM_LVL_SEL, 31, 1⟩
abbrev BEAM_LVL_SEL_LEVEL : Field := ⟨R.BEAM_LVL_SEL, 16, 4⟩
abbrev BEAM_LVL_SEL_BEAM : Field := ⟨R.BEAM_LVL_SEL, 0, 10⟩
abbrev BEAM_SET_STATUS_SHED (s : Nat) : Field := ⟨R.BEAM_SET_STATUS s, 31, 1⟩
abbrev BEAM_SET_STATUS_NO_WEIGHTS (s : Nat) : Field := ⟨R.BEAM_SET_STATUS s, 30, 1⟩
abbrev BEAM_SET_STATUS_PAGE (s : Nat) : Field := ⟨R.BEAM_SET_STATUS s, 29, 1⟩
abbrev BEAM_SET_STATUS_SPARES (s : Nat) : Field := ⟨R.BEAM_SET_STATUS s, 8, 8⟩
abbrev BEAM_SET_STATUS_TILES (s : Nat) : Field := ⟨R.BEAM_SET_STATUS s, 0, 8⟩
abbrev BEAM_FREQ_F (c : Nat) : Field := ⟨R.BEAM_FREQ c, 0, 32⟩
abbrev CHAIN_CTRL_CLEAR_ADDR : Field := ⟨R.CHAIN_CTRL, 2, 1⟩
abbrev CHAIN_CTRL_FORCE : Field := ⟨R.CHAIN_CTRL, 1, 1⟩
abbrev CHAIN_CTRL_ENUM : Field := ⟨R.CHAIN_CTRL, 0, 1⟩
abbrev CHAIN_STATUS_UP_STATE : Field := ⟨R.CHAIN_STATUS, 29, 3⟩
abbrev CHAIN_STATUS_DN_STATE : Field := ⟨R.CHAIN_STATUS, 26, 3⟩
abbrev CHAIN_STATUS_ENUM_STATE : Field := ⟨R.CHAIN_STATUS, 24, 2⟩
abbrev CHAIN_STATUS_CMD_BUSY : Field := ⟨R.CHAIN_STATUS, 9, 1⟩
abbrev CHAIN_STATUS_SWEEP : Field := ⟨R.CHAIN_STATUS, 8, 1⟩
abbrev CHAIN_STATUS_HEAD_CONFLICT : Field := ⟨R.CHAIN_STATUS, 7, 1⟩
abbrev CHAIN_STATUS_ADDR_PENDING : Field := ⟨R.CHAIN_STATUS, 6, 1⟩
abbrev CHAIN_STATUS_NO_CHAIN_TIME : Field := ⟨R.CHAIN_STATUS, 5, 1⟩
abbrev CHAIN_STATUS_TIME_DIS : Field := ⟨R.CHAIN_STATUS, 4, 1⟩
abbrev CHAIN_STATUS_TAIL : Field := ⟨R.CHAIN_STATUS, 3, 1⟩
abbrev CHAIN_STATUS_HEAD : Field := ⟨R.CHAIN_STATUS, 0, 1⟩
abbrev CHAIN_EVENT_ENUM_FAIL : Field := ⟨R.CHAIN_EVENT, 17, 1⟩
abbrev CHAIN_EVENT_LINK_LOSS : Field := ⟨R.CHAIN_EVENT, 16, 1⟩
abbrev CHAIN_EVENT_MSG_ERR : Field := ⟨R.CHAIN_EVENT, 15, 1⟩
abbrev CHAIN_EVENT_CMD_REFUSED : Field := ⟨R.CHAIN_EVENT, 14, 1⟩
abbrev CHAIN_EVENT_CMD_TIMEOUT : Field := ⟨R.CHAIN_EVENT, 13, 1⟩
abbrev CHAIN_EVENT_CMD_DONE : Field := ⟨R.CHAIN_EVENT, 12, 1⟩
abbrev CHAIN_EVENT_TIME_AGREE : Field := ⟨R.CHAIN_EVENT, 11, 1⟩
abbrev CHAIN_EVENT_TIME_DIS : Field := ⟨R.CHAIN_EVENT, 10, 1⟩
abbrev CHAIN_EVENT_MISMATCH : Field := ⟨R.CHAIN_EVENT, 9, 1⟩
abbrev CHAIN_EVENT_VERSION_DROP : Field := ⟨R.CHAIN_EVENT, 8, 1⟩
abbrev CHAIN_EVENT_NO_COMMON : Field := ⟨R.CHAIN_EVENT, 7, 1⟩
abbrev CHAIN_EVENT_HEAD_CONFLICT : Field := ⟨R.CHAIN_EVENT, 6, 1⟩
abbrev CHAIN_EVENT_OVERFLOW : Field := ⟨R.CHAIN_EVENT, 5, 1⟩
abbrev CHAIN_EVENT_ADDR_CORRUPT : Field := ⟨R.CHAIN_EVENT, 4, 1⟩
abbrev CHAIN_EVENT_ADDR_MOVED : Field := ⟨R.CHAIN_EVENT, 3, 1⟩
abbrev CHAIN_EVENT_DETACH : Field := ⟨R.CHAIN_EVENT, 2, 1⟩
abbrev CHAIN_EVENT_ATTACH : Field := ⟨R.CHAIN_EVENT, 1, 1⟩
abbrev CHAIN_EVENT_ENUM_DONE : Field := ⟨R.CHAIN_EVENT, 0, 1⟩
abbrev CHAIN_CFG_AUTO_ENUM : Field := ⟨R.CHAIN_CFG, 24, 1⟩
abbrev CHAIN_CFG_SYNC_LOG : Field := ⟨R.CHAIN_CFG, 16, 4⟩
abbrev CHAIN_CFG_ENUM_TIMEOUT : Field := ⟨R.CHAIN_CFG, 0, 8⟩
abbrev CHAIN_ADDR_VALID : Field := ⟨R.CHAIN_ADDR, 31, 1⟩
abbrev CHAIN_ADDR_ADDR_CPL : Field := ⟨R.CHAIN_ADDR, 16, 10⟩
abbrev CHAIN_ADDR_ADDRESS : Field := ⟨R.CHAIN_ADDR, 0, 10⟩
abbrev CHAIN_VERSION_MASK : Field := ⟨R.CHAIN_VERSION, 8, 2⟩
abbrev CHAIN_VERSION_VERSION : Field := ⟨R.CHAIN_VERSION, 0, 2⟩
abbrev CHAIN_COUNT_CAUSE : Field := ⟨R.CHAIN_COUNT, 24, 8⟩
abbrev CHAIN_COUNT_DEVICES : Field := ⟨R.CHAIN_COUNT, 10, 11⟩
abbrev CHAIN_COUNT_END_ADDR : Field := ⟨R.CHAIN_COUNT, 0, 10⟩
abbrev CHAIN_CMD_TYPE : Field := ⟨R.CHAIN_CMD, 24, 8⟩
abbrev CHAIN_CMD_MODES : Field := ⟨R.CHAIN_CMD, 16, 8⟩
abbrev CHAIN_CMD_REPEAT : Field := ⟨R.CHAIN_CMD, 1, 1⟩
abbrev CHAIN_CMD_GO : Field := ⟨R.CHAIN_CMD, 0, 1⟩
abbrev CHAIN_LAST_REFUSE_CHAIN_CODE : Field := ⟨R.CHAIN_LAST_REFUSE, 24, 8⟩
abbrev CHAIN_LAST_REFUSE_CAT_CODE : Field := ⟨R.CHAIN_LAST_REFUSE, 16, 8⟩
abbrev CHAIN_LAST_REFUSE_ADDRESS : Field := ⟨R.CHAIN_LAST_REFUSE, 0, 10⟩
abbrev CHAIN_STAMP_EXCHANGE (n : Nat) : Field := ⟨R.CHAIN_STAMP n, 16, 16⟩
abbrev CHAIN_STAMP_LATE (n : Nat) : Field := ⟨R.CHAIN_STAMP n, 15, 1⟩
abbrev CHAIN_STAMP_POS (n : Nat) : Field := ⟨R.CHAIN_STAMP n, 0, 2⟩
abbrev CHAIN_RXQ_CTRL_NOT_EMPTY : Field := ⟨R.CHAIN_RXQ_CTRL, 31, 1⟩
abbrev CHAIN_RXQ_CTRL_PORT : Field := ⟨R.CHAIN_RXQ_CTRL, 30, 1⟩
abbrev CHAIN_RXQ_CTRL_POP : Field := ⟨R.CHAIN_RXQ_CTRL, 8, 1⟩
abbrev CHAIN_RXQ_CTRL_COUNT : Field := ⟨R.CHAIN_RXQ_CTRL, 0, 4⟩
abbrev CHAIN_TXQ_CTRL_FULL : Field := ⟨R.CHAIN_TXQ_CTRL, 31, 1⟩
abbrev CHAIN_TXQ_CTRL_PORT : Field := ⟨R.CHAIN_TXQ_CTRL, 30, 1⟩
abbrev CHAIN_TXQ_CTRL_SEND : Field := ⟨R.CHAIN_TXQ_CTRL, 0, 1⟩
abbrev HBMC_CTRL_SCRUB_NOW : Field := ⟨R.HBMC_CTRL, 2, 1⟩
abbrev HBMC_CTRL_MAP_APPLY : Field := ⟨R.HBMC_CTRL, 0, 1⟩
abbrev HBMC_STATUS_RATE : Field := ⟨R.HBMC_STATUS, 30, 2⟩
abbrev HBMC_STATUS_PHASE : Field := ⟨R.HBMC_STATUS, 27, 3⟩
abbrev HBMC_STATUS_REUSED : Field := ⟨R.HBMC_STATUS, 26, 1⟩
abbrev HBMC_STATUS_REF_DOUBLE : Field := ⟨R.HBMC_STATUS, 25, 1⟩
abbrev HBMC_STATUS_RFM_REQ : Field := ⟨R.HBMC_STATUS, 24, 1⟩
abbrev HBMC_STATUS_SCRUBBING : Field := ⟨R.HBMC_STATUS, 23, 1⟩
abbrev HBMC_STATUS_HELD : Field := ⟨R.HBMC_STATUS, 22, 1⟩
abbrev HBMC_STATUS_HOT95 : Field := ⟨R.HBMC_STATUS, 21, 1⟩
abbrev HBMC_EVENT_PC_FAIL : Field := ⟨R.HBMC_EVENT, 9, 1⟩
abbrev HBMC_EVENT_RANGE_ERR : Field := ⟨R.HBMC_EVENT, 8, 1⟩
abbrev HBMC_EVENT_SCRUB_DONE : Field := ⟨R.HBMC_EVENT, 7, 1⟩
abbrev HBMC_EVENT_MAP_REFUSED : Field := ⟨R.HBMC_EVENT, 6, 1⟩
abbrev HBMC_EVENT_MAP_APPLIED : Field := ⟨R.HBMC_EVENT, 5, 1⟩
abbrev HBMC_EVENT_HOT95 : Field := ⟨R.HBMC_EVENT, 4, 1⟩
abbrev HBMC_EVENT_REF_DOUBLE : Field := ⟨R.HBMC_EVENT, 3, 1⟩
abbrev HBMC_EVENT_RATE_CHANGED : Field := ⟨R.HBMC_EVENT, 2, 1⟩
abbrev HBMC_EVENT_TRAIN_FAIL : Field := ⟨R.HBMC_EVENT, 1, 1⟩
abbrev HBMC_EVENT_TRAIN_DONE : Field := ⟨R.HBMC_EVENT, 0, 1⟩
abbrev HBMC_RATE_RATE : Field := ⟨R.HBMC_RATE, 0, 2⟩
abbrev HBMC_TEMP_STACK1 : Field := ⟨R.HBMC_TEMP, 8, 8⟩
abbrev HBMC_TEMP_STACK0 : Field := ⟨R.HBMC_TEMP, 0, 8⟩
abbrev HBMC_TRAIN_TEMP : Field := ⟨R.HBMC_TRAIN, 16, 8⟩
abbrev HBMC_TRAIN_REPAIRED : Field := ⟨R.HBMC_TRAIN, 8, 8⟩
abbrev HBMC_TRAIN_RATE : Field := ⟨R.HBMC_TRAIN, 0, 2⟩
abbrev HBMC_CH_EVENT_EN_EN : Field := ⟨R.HBMC_CH_EVENT_EN, 0, 3⟩
abbrev HBMC_LAYOUT_CT_AUTO : Field := ⟨R.HBMC_LAYOUT_CT, 31, 1⟩
abbrev HBMC_LAYOUT_CT_BASE : Field := ⟨R.HBMC_LAYOUT_CT, 0, 15⟩
abbrev HBMC_LAYOUT_ACC_AUTO : Field := ⟨R.HBMC_LAYOUT_ACC, 31, 1⟩
abbrev HBMC_LAYOUT_ACC_BASE : Field := ⟨R.HBMC_LAYOUT_ACC, 0, 15⟩
abbrev HBMC_LAYOUT_STAGE_AUTO : Field := ⟨R.HBMC_LAYOUT_STAGE, 31, 1⟩
abbrev HBMC_LAYOUT_STAGE_SLOTS : Field := ⟨R.HBMC_LAYOUT_STAGE, 16, 4⟩
abbrev HBMC_LAYOUT_STAGE_BASE : Field := ⟨R.HBMC_LAYOUT_STAGE, 0, 15⟩
abbrev HBMC_REGION_W0_EN (r : Nat) : Field := ⟨R.HBMC_REGION_W0 r, 31, 1⟩
abbrev HBMC_REGION_W0_BASE (r : Nat) : Field := ⟨R.HBMC_REGION_W0 r, 0, 15⟩
abbrev HBMC_REGION_W1_HOST_WR (r : Nat) : Field := ⟨R.HBMC_REGION_W1 r, 20, 1⟩
abbrev HBMC_REGION_W1_KIND (r : Nat) : Field := ⟨R.HBMC_REGION_W1 r, 16, 4⟩
abbrev HBMC_REGION_W1_SIZE (r : Nat) : Field := ⟨R.HBMC_REGION_W1 r, 0, 15⟩
abbrev HBMC_MAP_MASK (k : Nat) : Field := ⟨R.HBMC_MAP k, 0, 29⟩
abbrev HBMC_MAP_NEW_MASK (k : Nat) : Field := ⟨R.HBMC_MAP_NEW k, 0, 29⟩
abbrev HBMC_ERR_INFO_KIND : Field := ⟨R.HBMC_ERR_INFO, 28, 4⟩
abbrev HBMC_ERR_INFO_CLASS : Field := ⟨R.HBMC_ERR_INFO, 24, 4⟩
abbrev HBMC_ERR_INFO_PSEUDO : Field := ⟨R.HBMC_ERR_INFO, 0, 6⟩
abbrev HBMC_CH_EVENT_ODECC (n : Nat) : Field := ⟨R.HBMC_CH_EVENT n, 2, 1⟩
abbrev HBMC_CH_EVENT_UE (n : Nat) : Field := ⟨R.HBMC_CH_EVENT n, 1, 1⟩
abbrev HBMC_CH_EVENT_CE (n : Nat) : Field := ⟨R.HBMC_CH_EVENT n, 0, 1⟩
abbrev MATRIX_CTRL_REMAP_B : Field := ⟨R.MATRIX_CTRL, 1, 1⟩
abbrev MATRIX_CTRL_REMAP_A : Field := ⟨R.MATRIX_CTRL, 0, 1⟩
abbrev MATRIX_STATUS_OVER : Field := ⟨R.MATRIX_STATUS, 0, 6⟩
abbrev MATRIX_EVENT_ACCESS_ERR : Field := ⟨R.MATRIX_EVENT, 4, 1⟩
abbrev MATRIX_EVENT_SAFFRON_OVER : Field := ⟨R.MATRIX_EVENT, 3, 1⟩
abbrev MATRIX_EVENT_LATE_RESP : Field := ⟨R.MATRIX_EVENT, 2, 1⟩
abbrev MATRIX_EVENT_TIMEOUT : Field := ⟨R.MATRIX_EVENT, 1, 1⟩
abbrev MATRIX_EVENT_DECODE_ERR : Field := ⟨R.MATRIX_EVENT, 0, 1⟩
abbrev MATRIX_ERR_INFO_VALID : Field := ⟨R.MATRIX_ERR_INFO, 31, 1⟩
abbrev MATRIX_ERR_INFO_KIND : Field := ⟨R.MATRIX_ERR_INFO, 28, 3⟩
abbrev MATRIX_ERR_INFO_WRITE : Field := ⟨R.MATRIX_ERR_INFO, 27, 1⟩
abbrev MATRIX_ERR_INFO_CLASS : Field := ⟨R.MATRIX_ERR_INFO, 24, 3⟩
abbrev MATRIX_ERR_INFO_ID : Field := ⟨R.MATRIX_ERR_INFO, 8, 8⟩
abbrev MATRIX_ERR_INFO_MASTER : Field := ⟨R.MATRIX_ERR_INFO, 0, 5⟩
abbrev MATRIX_MASTER_CFG_KEEP_OPEN (m : Nat) : Field := ⟨R.MATRIX_MASTER_CFG m, 8, 1⟩
abbrev MATRIX_MASTER_CFG_MAX_QOS (m : Nat) : Field := ⟨R.MATRIX_MASTER_CFG m, 4, 4⟩
abbrev MATRIX_MASTER_CFG_QOS (m : Nat) : Field := ⟨R.MATRIX_MASTER_CFG m, 0, 4⟩
abbrev DMA_CH_CFG_SHARE (n : Nat) : Field := ⟨R.DMA_CH_CFG n, 24, 8⟩
abbrev DMA_CH_CFG_REQ (n : Nat) : Field := ⟨R.DMA_CH_CFG n, 18, 6⟩
abbrev DMA_CH_CFG_ON_ERR (n : Nat) : Field := ⟨R.DMA_CH_CFG n, 17, 1⟩
abbrev DMA_CH_CFG_KEEP_OPEN (n : Nat) : Field := ⟨R.DMA_CH_CFG n, 16, 1⟩
abbrev DMA_CH_CFG_BUF (n : Nat) : Field := ⟨R.DMA_CH_CFG n, 8, 8⟩
abbrev DMA_CH_CFG_QOS (n : Nat) : Field := ⟨R.DMA_CH_CFG n, 4, 4⟩
abbrev DMA_CH_CFG_PRIO (n : Nat) : Field := ⟨R.DMA_CH_CFG n, 0, 2⟩
abbrev DMA_CH_CTRL_RESUME (n : Nat) : Field := ⟨R.DMA_CH_CTRL n, 2, 1⟩
abbrev DMA_CH_CTRL_STOP (n : Nat) : Field := ⟨R.DMA_CH_CTRL n, 1, 1⟩
abbrev DMA_CH_CTRL_ENABLE (n : Nat) : Field := ⟨R.DMA_CH_CTRL n, 0, 1⟩
abbrev DMA_CH_STATUS_STATE (n : Nat) : Field := ⟨R.DMA_CH_STATUS n, 29, 3⟩
abbrev DMA_CH_STATUS_REQ_LEVEL (n : Nat) : Field := ⟨R.DMA_CH_STATUS n, 28, 1⟩
abbrev DMA_CH_STATUS_CODE (n : Nat) : Field := ⟨R.DMA_CH_STATUS n, 24, 4⟩
abbrev DMA_CH_EVENT_RING_BAD (n : Nat) : Field := ⟨R.DMA_CH_EVENT n, 6, 1⟩
abbrev DMA_CH_EVENT_CFG_REFUSED (n : Nat) : Field := ⟨R.DMA_CH_EVENT n, 5, 1⟩
abbrev DMA_CH_EVENT_OWN_BAD (n : Nat) : Field := ⟨R.DMA_CH_EVENT n, 4, 1⟩
abbrev DMA_CH_EVENT_HALTED (n : Nat) : Field := ⟨R.DMA_CH_EVENT n, 3, 1⟩
abbrev DMA_CH_EVENT_ERR (n : Nat) : Field := ⟨R.DMA_CH_EVENT n, 2, 1⟩
abbrev DMA_CH_EVENT_EMPTY (n : Nat) : Field := ⟨R.DMA_CH_EVENT n, 1, 1⟩
abbrev DMA_CH_EVENT_DONE (n : Nat) : Field := ⟨R.DMA_CH_EVENT n, 0, 1⟩
abbrev DMA_CH_RING_HI_SIZE (n : Nat) : Field := ⟨R.DMA_CH_RING_HI n, 16, 5⟩
abbrev DMA_CH_RING_HI_ADDR_HI (n : Nat) : Field := ⟨R.DMA_CH_RING_HI n, 0, 8⟩
abbrev MBOX_CFG_ACK_TIMEOUT (k : Nat) : Field := ⟨R.MBOX_CFG k, 16, 16⟩
abbrev MBOX_CFG_X_MASTER1 (k : Nat) : Field := ⟨R.MBOX_CFG k, 8, 5⟩
abbrev MBOX_CFG_X_MASTER0 (k : Nat) : Field := ⟨R.MBOX_CFG k, 0, 5⟩
abbrev MBOX_EVENT_CROSS (k : Nat) : Field := ⟨R.MBOX_EVENT k, 16, 1⟩
abbrev MBOX_EVENT_D1_LATE_ACK (k : Nat) : Field := ⟨R.MBOX_EVENT k, 12, 1⟩
abbrev MBOX_EVENT_D1_REFUSED (k : Nat) : Field := ⟨R.MBOX_EVENT k, 11, 1⟩
abbrev MBOX_EVENT_D1_TIMEOUT (k : Nat) : Field := ⟨R.MBOX_EVENT k, 10, 1⟩
abbrev MBOX_EVENT_D1_ACKED (k : Nat) : Field := ⟨R.MBOX_EVENT k, 9, 1⟩
abbrev MBOX_EVENT_D1_NOTICE (k : Nat) : Field := ⟨R.MBOX_EVENT k, 8, 1⟩
abbrev MBOX_EVENT_D0_LATE_ACK (k : Nat) : Field := ⟨R.MBOX_EVENT k, 4, 1⟩
abbrev MBOX_EVENT_D0_REFUSED (k : Nat) : Field := ⟨R.MBOX_EVENT k, 3, 1⟩
abbrev MBOX_EVENT_D0_TIMEOUT (k : Nat) : Field := ⟨R.MBOX_EVENT k, 2, 1⟩
abbrev MBOX_EVENT_D0_ACKED (k : Nat) : Field := ⟨R.MBOX_EVENT k, 1, 1⟩
abbrev MBOX_EVENT_D0_NOTICE (k : Nat) : Field := ⟨R.MBOX_EVENT k, 0, 1⟩
abbrev MBOX_D_POST_HI_TAG (k : Nat) (d : Nat) : Field := ⟨R.MBOX_D_POST_HI k d, 16, 16⟩
abbrev MBOX_D_POST_HI_PTR_HI_CPL (k : Nat) (d : Nat) : Field := ⟨R.MBOX_D_POST_HI k d, 8, 8⟩
abbrev MBOX_D_POST_HI_PTR_HI (k : Nat) (d : Nat) : Field := ⟨R.MBOX_D_POST_HI k d, 0, 8⟩
abbrev MBOX_D_LOCK_OWNER (k : Nat) (d : Nat) : Field := ⟨R.MBOX_D_LOCK k d, 0, 5⟩
abbrev MBOX_D_ACK_CODE_CPL (k : Nat) (d : Nat) : Field := ⟨R.MBOX_D_ACK k d, 16, 16⟩
abbrev MBOX_D_ACK_CODE (k : Nat) (d : Nat) : Field := ⟨R.MBOX_D_ACK k d, 0, 16⟩
abbrev MBOX_D_ACK_STATUS_VALID (k : Nat) (d : Nat) : Field := ⟨R.MBOX_D_ACK_STATUS k d, 31, 1⟩
abbrev MBOX_D_ACK_STATUS_CODE (k : Nat) (d : Nat) : Field := ⟨R.MBOX_D_ACK_STATUS k d, 0, 16⟩
abbrev MBOX_D_STATE_LOCK_OWNER (k : Nat) (d : Nat) : Field := ⟨R.MBOX_D_STATE k d, 24, 5⟩
abbrev MBOX_D_STATE_LAST_REFUSE (k : Nat) (d : Nat) : Field := ⟨R.MBOX_D_STATE k d, 16, 8⟩
abbrev MBOX_D_STATE_FLAGS (k : Nat) (d : Nat) : Field := ⟨R.MBOX_D_STATE k d, 4, 4⟩
abbrev MBOX_D_STATE_STATE (k : Nat) (d : Nat) : Field := ⟨R.MBOX_D_STATE k d, 0, 2⟩
abbrev IRQ_EVENT_VACANT_HOLD : Field := ⟨R.IRQ_EVENT, 2, 1⟩
abbrev IRQ_EVENT_PME : Field := ⟨R.IRQ_EVENT, 1, 1⟩
abbrev IRQ_EVENT_FAST_LATE : Field := ⟨R.IRQ_EVENT, 0, 1⟩
abbrev IRQ_CUR_CTRL_FEN (c : Nat) : Field := ⟨R.IRQ_CUR_CTRL c, 1, 1⟩
abbrev IRQ_CUR_CTRL_NEN (c : Nat) : Field := ⟨R.IRQ_CUR_CTRL c, 0, 1⟩
abbrev IRQ_CUR_STATUS_IN_FAST (c : Nat) : Field := ⟨R.IRQ_CUR_STATUS c, 31, 1⟩
abbrev IRQ_CUR_STATUS_IN_NORMAL (c : Nat) : Field := ⟨R.IRQ_CUR_STATUS c, 30, 1⟩
abbrev IRQ_CUR_STATUS_FRAME (c : Nat) : Field := ⟨R.IRQ_CUR_STATUS c, 29, 1⟩
abbrev IRQ_CUR_STATUS_IDLE (c : Nat) : Field := ⟨R.IRQ_CUR_STATUS c, 28, 1⟩
abbrev IRQ_CUR_STATUS_FAST_SRC (c : Nat) : Field := ⟨R.IRQ_CUR_STATUS c, 16, 10⟩
abbrev IRQ_CUR_STATUS_NORMAL_SRC (c : Nat) : Field := ⟨R.IRQ_CUR_STATUS c, 0, 10⟩
abbrev IRQ_MOD_COUNT (g : Nat) : Field := ⟨R.IRQ_MOD g, 16, 8⟩
abbrev IRQ_MOD_TIME (g : Nat) : Field := ⟨R.IRQ_MOD g, 0, 16⟩
abbrev IRQ_HMBOX_EN (k : Nat) : Field := ⟨R.IRQ_HMBOX k, 31, 1⟩
abbrev IRQ_HMBOX_VEC (k : Nat) : Field := ⟨R.IRQ_HMBOX k, 0, 8⟩
abbrev IRQ_SRC_CFG_EN (s : Nat) : Field := ⟨R.IRQ_SRC_CFG s, 31, 1⟩
abbrev IRQ_SRC_CFG_EDGE (s : Nat) : Field := ⟨R.IRQ_SRC_CFG s, 30, 1⟩
abbrev IRQ_SRC_CFG_FAST (s : Nat) : Field := ⟨R.IRQ_SRC_CFG s, 29, 1⟩
abbrev IRQ_SRC_CFG_MOD (s : Nat) : Field := ⟨R.IRQ_SRC_CFG s, 28, 1⟩
abbrev IRQ_SRC_CFG_WAKE (s : Nat) : Field := ⟨R.IRQ_SRC_CFG s, 27, 1⟩
abbrev IRQ_SRC_CFG_HOST (s : Nat) : Field := ⟨R.IRQ_SRC_CFG s, 26, 1⟩
abbrev IRQ_SRC_CFG_TARGET (s : Nat) : Field := ⟨R.IRQ_SRC_CFG s, 23, 3⟩
abbrev IRQ_SRC_CFG_PRIO (s : Nat) : Field := ⟨R.IRQ_SRC_CFG s, 16, 4⟩
abbrev IRQ_SRC_CFG_VEC (s : Nat) : Field := ⟨R.IRQ_SRC_CFG s, 0, 8⟩
abbrev POWER_CTRL_COLD : Field := ⟨R.POWER_CTRL, 8, 1⟩
abbrev POWER_CTRL_WARM : Field := ⟨R.POWER_CTRL, 7, 1⟩
abbrev POWER_CTRL_WAKE : Field := ⟨R.POWER_CTRL, 6, 1⟩
abbrev POWER_CTRL_SLEEP : Field := ⟨R.POWER_CTRL, 5, 1⟩
abbrev POWER_CTRL_STEP_MIN : Field := ⟨R.POWER_CTRL, 0, 4⟩
abbrev POWER_STATUS_STEP : Field := ⟨R.POWER_STATUS, 28, 4⟩
abbrev POWER_STATUS_CTRL_STEP : Field := ⟨R.POWER_STATUS, 24, 4⟩
abbrev POWER_STATUS_FAST : Field := ⟨R.POWER_STATUS, 23, 1⟩
abbrev POWER_STATUS_PROG_OK : Field := ⟨R.POWER_STATUS, 22, 1⟩
abbrev POWER_STATUS_HOT_FLOOR : Field := ⟨R.POWER_STATUS, 21, 1⟩
abbrev POWER_STATUS_SENSOR_FLOOR : Field := ⟨R.POWER_STATUS, 20, 1⟩
abbrev POWER_STATUS_AVS_FROZEN : Field := ⟨R.POWER_STATUS, 19, 1⟩
abbrev POWER_STATUS_TELEMETRY : Field := ⟨R.POWER_STATUS, 18, 1⟩
abbrev POWER_STATUS_SENSORS : Field := ⟨R.POWER_STATUS, 13, 5⟩
abbrev POWER_STATUS_MODE : Field := ⟨R.POWER_STATUS, 0, 3⟩
abbrev POWER_EVENT_HOT : Field := ⟨R.POWER_EVENT, 11, 1⟩
abbrev POWER_EVENT_PROG_REFUSED : Field := ⟨R.POWER_EVENT, 10, 1⟩
abbrev POWER_EVENT_WOKE : Field := ⟨R.POWER_EVENT, 9, 1⟩
abbrev POWER_EVENT_SLEEP_REFUSED : Field := ⟨R.POWER_EVENT, 8, 1⟩
abbrev POWER_EVENT_AVS_ERR : Field := ⟨R.POWER_EVENT, 7, 1⟩
abbrev POWER_EVENT_RAIL : Field := ⟨R.POWER_EVENT, 6, 1⟩
abbrev POWER_EVENT_PMBUS_ERR : Field := ⟨R.POWER_EVENT, 5, 1⟩
abbrev POWER_EVENT_SENSORS_LOW : Field := ⟨R.POWER_EVENT, 3, 1⟩
abbrev POWER_EVENT_SENSOR_FAIL : Field := ⟨R.POWER_EVENT, 2, 1⟩
abbrev POWER_EVENT_FAST : Field := ⟨R.POWER_EVENT, 1, 1⟩
abbrev POWER_EVENT_STEP : Field := ⟨R.POWER_EVENT, 0, 1⟩
abbrev POWER_TJ_TJ_HYST : Field := ⟨R.POWER_TJ, 16, 8⟩
abbrev POWER_TJ_TJ_THROTTLE : Field := ⟨R.POWER_TJ, 0, 8⟩
abbrev POWER_WAITS_STEP_DOWN_WAIT : Field := ⟨R.POWER_WAITS, 16, 16⟩
abbrev POWER_WAITS_STEP_UP_WAIT : Field := ⟨R.POWER_WAITS, 0, 16⟩
abbrev POWER_POLICY_INPUT_FLOOR : Field := ⟨R.POWER_POLICY, 16, 16⟩
abbrev POWER_POLICY_FAST_MARGIN : Field := ⟨R.POWER_POLICY, 8, 8⟩
abbrev POWER_POLICY_THERMAL_POLICY : Field := ⟨R.POWER_POLICY, 0, 2⟩
abbrev POWER_HOT_DIODE : Field := ⟨R.POWER_HOT, 31, 1⟩
abbrev POWER_HOT_INDEX : Field := ⟨R.POWER_HOT, 16, 6⟩
abbrev POWER_HOT_TEMP : Field := ⟨R.POWER_HOT, 0, 16⟩
abbrev POWER_DIODE_FAILED (d : Nat) : Field := ⟨R.POWER_DIODE d, 31, 1⟩
abbrev POWER_DIODE_TEMP (d : Nat) : Field := ⟨R.POWER_DIODE d, 0, 16⟩
abbrev POWER_REG_EN (r : Nat) : Field := ⟨R.POWER_REG r, 31, 1⟩
abbrev POWER_REG_ADDR (r : Nat) : Field := ⟨R.POWER_REG r, 24, 7⟩
abbrev POWER_REG_PAGE (r : Nat) : Field := ⟨R.POWER_REG r, 16, 8⟩
abbrev POWER_REG_RAIL (r : Nat) : Field := ⟨R.POWER_REG r, 12, 4⟩
abbrev POWER_REG_ORDER (r : Nat) : Field := ⟨R.POWER_REG r, 8, 4⟩
abbrev POWER_REG_AVS (r : Nat) : Field := ⟨R.POWER_REG r, 7, 1⟩
abbrev POWER_REG_MEASURE_ONLY (r : Nat) : Field := ⟨R.POWER_REG r, 6, 1⟩
abbrev POWER_GEN_CFG_EN : Field := ⟨R.POWER_GEN_CFG, 31, 1⟩
abbrev POWER_GEN_CFG_AMP : Field := ⟨R.POWER_GEN_CFG, 28, 3⟩
abbrev POWER_GEN_CFG_TONE_STEP : Field := ⟨R.POWER_GEN_CFG, 16, 12⟩
abbrev POWER_GEN_CFG_TONE_RATE : Field := ⟨R.POWER_GEN_CFG, 0, 12⟩
abbrev BOOT_STATUS_STATE : Field := ⟨R.BOOT_STATUS, 30, 2⟩
abbrev BOOT_STATUS_KIND : Field := ⟨R.BOOT_STATUS, 29, 1⟩
abbrev BOOT_STATUS_ESCALATED : Field := ⟨R.BOOT_STATUS, 28, 1⟩
abbrev BOOT_STATUS_CURATOR : Field := ⟨R.BOOT_STATUS, 27, 1⟩
abbrev BOOT_STATUS_CODE : Field := ⟨R.BOOT_STATUS, 16, 8⟩
abbrev BOOT_STATUS_WARN : Field := ⟨R.BOOT_STATUS, 8, 8⟩
abbrev BOOT_STATUS_STEP : Field := ⟨R.BOOT_STATUS, 0, 4⟩
abbrev CORE_CTRL_FAILOVER_DONE : Field := ⟨R.CORE_CTRL, 9, 1⟩
abbrev CORE_CTRL_YIELD : Field := ⟨R.CORE_CTRL, 8, 1⟩
abbrev CORE_CTRL_UE_YIELD : Field := ⟨R.CORE_CTRL, 7, 1⟩
abbrev CORE_CTRL_RELEASE_B : Field := ⟨R.CORE_CTRL, 5, 1⟩
abbrev CORE_CTRL_RELEASE_A : Field := ⟨R.CORE_CTRL, 4, 1⟩
abbrev CORE_CTRL_HOLD_B : Field := ⟨R.CORE_CTRL, 1, 1⟩
abbrev CORE_CTRL_HOLD_A : Field := ⟨R.CORE_CTRL, 0, 1⟩
abbrev CORE_STATUS_FAILOVER : Field := ⟨R.CORE_STATUS, 31, 1⟩
abbrev CORE_STATUS_VACANT : Field := ⟨R.CORE_STATUS, 30, 1⟩
abbrev CORE_STATUS_ROLE_B : Field := ⟨R.CORE_STATUS, 27, 3⟩
abbrev CORE_STATUS_ROLE_A : Field := ⟨R.CORE_STATUS, 24, 3⟩
abbrev CORE_STATUS_GOOD_B : Field := ⟨R.CORE_STATUS, 23, 1⟩
abbrev CORE_STATUS_GOOD_A : Field := ⟨R.CORE_STATUS, 22, 1⟩
abbrev CORE_STATUS_TCM_UE_B : Field := ⟨R.CORE_STATUS, 21, 1⟩
abbrev CORE_STATUS_TCM_UE_A : Field := ⟨R.CORE_STATUS, 20, 1⟩
abbrev CORE_EVENT_FAILOVER_SLOW : Field := ⟨R.CORE_EVENT, 7, 1⟩
abbrev CORE_EVENT_YIELD_REFUSED : Field := ⟨R.CORE_EVENT, 6, 1⟩
abbrev CORE_EVENT_LATE_RENEW : Field := ⟨R.CORE_EVENT, 5, 1⟩
abbrev CORE_EVENT_RENEW_BAD : Field := ⟨R.CORE_EVENT, 4, 1⟩
abbrev CORE_EVENT_HEALTH_BAD : Field := ⟨R.CORE_EVENT, 3, 1⟩
abbrev CORE_EVENT_VACANT : Field := ⟨R.CORE_EVENT, 2, 1⟩
abbrev CORE_EVENT_FAILOVER_DONE : Field := ⟨R.CORE_EVENT, 1, 1⟩
abbrev CORE_EVENT_TAKEOVER : Field := ⟨R.CORE_EVENT, 0, 1⟩
abbrev CORE_LEASE_OWNER_CPL : Field := ⟨R.CORE_LEASE, 16, 16⟩
abbrev CORE_LEASE_OWNER : Field := ⟨R.CORE_LEASE, 0, 2⟩
abbrev CORE_HEALTH_CPL (c : Nat) : Field := ⟨R.CORE_HEALTH c, 16, 16⟩
abbrev CORE_HEALTH_CKPT_OLD (c : Nat) : Field := ⟨R.CORE_HEALTH c, 12, 1⟩
abbrev CORE_HEALTH_SYNCING (c : Nat) : Field := ⟨R.CORE_HEALTH c, 11, 1⟩
abbrev CORE_HEALTH_SIG_FAIL (c : Nat) : Field := ⟨R.CORE_HEALTH c, 10, 1⟩
abbrev CORE_HEALTH_DP_FAIL (c : Nat) : Field := ⟨R.CORE_HEALTH c, 9, 1⟩
abbrev CORE_HEALTH_MEM_FAIL (c : Nat) : Field := ⟨R.CORE_HEALTH c, 8, 1⟩
abbrev CORE_HEALTH_ROUND (c : Nat) : Field := ⟨R.CORE_HEALTH c, 0, 8⟩
abbrev CORE_CKPT_COPY : Field := ⟨R.CORE_CKPT, 31, 1⟩
abbrev CORE_CKPT_SEQ : Field := ⟨R.CORE_CKPT, 0, 31⟩
abbrev HOSTIF_STATUS_LINK_UP : Field := ⟨R.HOSTIF_STATUS, 31, 1⟩
abbrev HOSTIF_STATUS_SPEED : Field := ⟨R.HOSTIF_STATUS, 28, 3⟩
abbrev HOSTIF_STATUS_WIDTH : Field := ⟨R.HOSTIF_STATUS, 24, 4⟩
abbrev HOSTIF_STATUS_DSTATE : Field := ⟨R.HOSTIF_STATUS, 22, 2⟩
abbrev HOSTIF_STATUS_BME : Field := ⟨R.HOSTIF_STATUS, 21, 1⟩
abbrev HOSTIF_STATUS_MSE : Field := ⟨R.HOSTIF_STATUS, 20, 1⟩
abbrev HOSTIF_STATUS_MSIX_EN : Field := ⟨R.HOSTIF_STATUS, 19, 1⟩
abbrev HOSTIF_STATUS_FMASK : Field := ⟨R.HOSTIF_STATUS, 18, 1⟩
abbrev HOSTIF_EVENT_CPL_TIMEOUT : Field := ⟨R.HOSTIF_EVENT, 8, 1⟩
abbrev HOSTIF_EVENT_INBOUND_ERR : Field := ⟨R.HOSTIF_EVENT, 7, 1⟩
abbrev HOSTIF_EVENT_DSTATE : Field := ⟨R.HOSTIF_EVENT, 6, 1⟩
abbrev HOSTIF_EVENT_LINK : Field := ⟨R.HOSTIF_EVENT, 5, 1⟩
abbrev HOSTIF_EVENT_FW_FAIL : Field := ⟨R.HOSTIF_EVENT, 4, 1⟩
abbrev HOSTIF_EVENT_FW_DONE : Field := ⟨R.HOSTIF_EVENT, 3, 1⟩
abbrev HOSTIF_EVENT_FW_READY : Field := ⟨R.HOSTIF_EVENT, 2, 1⟩
abbrev HOSTIF_EVENT_SNAP_REFUSED : Field := ⟨R.HOSTIF_EVENT, 1, 1⟩
abbrev HOSTIF_EVENT_SNAP_DONE : Field := ⟨R.HOSTIF_EVENT, 0, 1⟩
abbrev HOSTIF_FW_CTRL_BUMP_ROLLBACK : Field := ⟨R.HOSTIF_FW_CTRL, 16, 1⟩
abbrev HOSTIF_FW_CTRL_SLOT : Field := ⟨R.HOSTIF_FW_CTRL, 8, 1⟩
abbrev HOSTIF_FW_CTRL_SET_FIRST : Field := ⟨R.HOSTIF_FW_CTRL, 3, 1⟩
abbrev HOSTIF_FW_CTRL_STORE : Field := ⟨R.HOSTIF_FW_CTRL, 2, 1⟩
abbrev HOSTIF_FW_CTRL_DONE : Field := ⟨R.HOSTIF_FW_CTRL, 1, 1⟩
abbrev HOSTIF_FW_CTRL_COMMIT : Field := ⟨R.HOSTIF_FW_CTRL, 0, 1⟩
abbrev HOSTIF_FW_STATUS_STATE : Field := ⟨R.HOSTIF_FW_STATUS, 30, 2⟩
abbrev HOSTIF_FW_STATUS_RESULT : Field := ⟨R.HOSTIF_FW_STATUS, 16, 8⟩
abbrev MGMT_CTRL_RATE : Field := ⟨R.MGMT_CTRL, 1, 2⟩
abbrev MGMT_CTRL_EN : Field := ⟨R.MGMT_CTRL, 0, 1⟩
abbrev MGMT_STATUS_LINK : Field := ⟨R.MGMT_STATUS, 31, 1⟩
abbrev MGMT_STATUS_RATE : Field := ⟨R.MGMT_STATUS, 29, 2⟩
abbrev MGMT_EVENT_LINK : Field := ⟨R.MGMT_EVENT, 3, 1⟩
abbrev MGMT_EVENT_RX_DROP : Field := ⟨R.MGMT_EVENT, 2, 1⟩
abbrev MGMT_EVENT_TX : Field := ⟨R.MGMT_EVENT, 1, 1⟩
abbrev MGMT_EVENT_RX : Field := ⟨R.MGMT_EVENT, 0, 1⟩
abbrev SNAP_CTRL_NEXT : Field := ⟨R.SNAP_CTRL, 1, 1⟩
abbrev SNAP_CTRL_GO : Field := ⟨R.SNAP_CTRL, 0, 1⟩
abbrev SNAP_STATUS_PENDING : Field := ⟨R.SNAP_STATUS, 31, 1⟩
abbrev SNAP_STATUS_COMPLETE : Field := ⟨R.SNAP_STATUS, 30, 1⟩
abbrev SNAP_STATUS_IMAGE : Field := ⟨R.SNAP_STATUS, 29, 1⟩
abbrev SNAP_STATUS_CHAIN : Field := ⟨R.SNAP_STATUS, 28, 1⟩
abbrev SNAP_STATUS_REASON : Field := ⟨R.SNAP_STATUS, 16, 8⟩
abbrev SNAP_STATUS_SEQ : Field := ⟨R.SNAP_STATUS, 0, 16⟩
abbrev CLOVE_CTRL_KICK (e : Nat) : Field := ⟨R.CLOVE_CTRL e, 3, 1⟩
abbrev CLOVE_CTRL_RESET (e : Nat) : Field := ⟨R.CLOVE_CTRL e, 2, 1⟩
abbrev CLOVE_CTRL_HALT (e : Nat) : Field := ⟨R.CLOVE_CTRL e, 1, 1⟩
abbrev CLOVE_CTRL_RUN (e : Nat) : Field := ⟨R.CLOVE_CTRL e, 0, 1⟩
abbrev CLOVE_STATUS_STATE (e : Nat) : Field := ⟨R.CLOVE_STATUS e, 29, 3⟩
abbrev CLOVE_STATUS_WAITING (e : Nat) : Field := ⟨R.CLOVE_STATUS e, 28, 1⟩
abbrev CLOVE_STATUS_DMAREQ (e : Nat) : Field := ⟨R.CLOVE_STATUS e, 27, 1⟩
abbrev CLOVE_STATUS_LOADING (e : Nat) : Field := ⟨R.CLOVE_STATUS e, 26, 1⟩
abbrev CLOVE_STATUS_CAUSE (e : Nat) : Field := ⟨R.CLOVE_STATUS e, 20, 4⟩
abbrev CLOVE_STATUS_MOVES (e : Nat) : Field := ⟨R.CLOVE_STATUS e, 0, 3⟩
abbrev CLOVE_EVENT_LOADED (e : Nat) : Field := ⟨R.CLOVE_EVENT e, 2, 1⟩
abbrev CLOVE_EVENT_HALTED (e : Nat) : Field := ⟨R.CLOVE_EVENT e, 1, 1⟩
abbrev CLOVE_EVENT_FAULT (e : Nat) : Field := ⟨R.CLOVE_EVENT e, 0, 1⟩

end Sys2Proof.Machine.F
end

