-- ==== Sys2Proof/Machine/RefImage.lean ====
section
/-!
DEFINITION. Machine/RefImage.lean: the 448 bytes of the reference Catalogue, as R351 fixes them, with the check words and the
digest that R331 gives them.
-/
namespace Sys2Proof.Machine

/-- The reference Catalogue (R351). -/
def refImage : List Byte :=
  [0x43#8, 0x41#8, 0x54#8, 0x4C#8, 0x00#8, 0x01#8, 0x40#8, 0x00#8, 0xC0#8, 0x01#8, 0x00#8, 0x00#8]
  ++ [0x05#8, 0x00#8, 0x00#8, 0x00#8, 0x19#8, 0xA8#8, 0xE4#8, 0xB8#8, 0xE3#8, 0x68#8, 0xE3#8, 0xE4#8]
  ++ [0xBB#8, 0xC2#8, 0x0C#8, 0xAB#8, 0xB0#8, 0x12#8, 0x0C#8, 0x5F#8, 0x93#8, 0x1F#8, 0xA1#8, 0xA1#8]
  ++ [0xC3#8, 0xFD#8, 0x4E#8, 0xC6#8, 0xE4#8, 0x07#8, 0x3F#8, 0x73#8, 0x52#8, 0x33#8, 0x98#8, 0x43#8]
  ++ [0xA2#8, 0x18#8, 0x4E#8, 0xEF#8, 0xD1#8, 0x92#8, 0x54#8, 0xE2#8]
  ++ List.replicate 8 0#8
  ++ [0x01#8, 0x01#8, 0x00#8, 0x00#8, 0x00#8, 0x00#8, 0xFF#8, 0x03#8, 0xFF#8, 0xFF#8, 0x00#8, 0xFC#8]
  ++ [0xE0#8, 0x00#8, 0x00#8, 0x00#8, 0x40#8, 0x00#8, 0x00#8, 0x00#8, 0xFB#8, 0x83#8, 0xBF#8, 0x2D#8]
  ++ List.replicate 8 0#8
  ++ [0x02#8, 0x01#8, 0x00#8, 0x00#8, 0x00#8, 0x00#8, 0xFF#8, 0x03#8, 0xFF#8, 0xFF#8, 0x00#8, 0xFC#8]
  ++ [0x20#8, 0x01#8, 0x00#8, 0x00#8, 0x30#8, 0x00#8, 0x00#8, 0x00#8, 0xE1#8, 0x1E#8, 0x99#8, 0xDE#8]
  ++ List.replicate 8 0#8
  ++ [0x06#8, 0x01#8, 0x00#8, 0x00#8, 0x00#8, 0x00#8, 0xFF#8, 0x03#8, 0xFF#8, 0xFF#8, 0x00#8, 0xFC#8]
  ++ [0x50#8, 0x01#8, 0x00#8, 0x00#8, 0x40#8, 0x00#8, 0x00#8, 0x00#8, 0xF2#8, 0xFF#8, 0x63#8, 0x4B#8]
  ++ List.replicate 8 0#8
  ++ [0x07#8, 0x01#8, 0x00#8, 0x00#8, 0x00#8, 0x00#8, 0xFF#8, 0x03#8, 0xFF#8, 0xFF#8, 0x00#8, 0xFC#8]
  ++ [0x90#8, 0x01#8, 0x00#8, 0x00#8, 0x10#8, 0x00#8, 0x00#8, 0x00#8, 0xD8#8, 0x34#8, 0x45#8, 0x47#8]
  ++ List.replicate 8 0#8
  ++ [0x08#8, 0x01#8, 0x00#8, 0x00#8, 0x00#8, 0x00#8, 0xFF#8, 0x03#8, 0xFF#8, 0xFF#8, 0x00#8, 0xFC#8]
  ++ [0xA0#8, 0x01#8, 0x00#8, 0x00#8, 0x20#8, 0x00#8, 0x00#8, 0x00#8, 0xDC#8, 0x27#8, 0xDD#8, 0x07#8]
  ++ List.replicate 8 0#8
  ++ [0x01#8, 0x00#8, 0xFE#8, 0xFF#8, 0x00#8, 0x00#8, 0xFF#8, 0xFF#8, 0x00#8, 0x00#8, 0xFF#8, 0xFF#8]
  ++ [0x04#8, 0x00#8, 0x00#8, 0x00#8, 0x00#8, 0x00#8, 0x00#8, 0x00#8, 0xFF#8, 0xFF#8, 0xFF#8, 0xFF#8]
  ++ [0x00#8, 0x00#8, 0xFF#8, 0xFF#8, 0x36#8, 0x00#8, 0xC9#8, 0xFF#8]
  ++ List.replicate 48 0#8
  ++ [0xFF#8, 0xFF#8, 0xFF#8, 0xFF#8, 0xFF#8, 0xFF#8, 0xFF#8, 0xFF#8, 0xFF#8, 0xFF#8, 0xFF#8, 0xFF#8]
  ++ [0x00#8, 0x00#8, 0x00#8, 0x00#8, 0x00#8, 0x28#8, 0x00#8, 0x00#8, 0x00#8, 0x00#8, 0x00#8, 0x00#8]
  ++ [0x09#8, 0x00#8, 0x00#8, 0x00#8, 0x00#8, 0x00#8, 0x00#8, 0x00#8, 0x01#8, 0x0A#8]
  ++ List.replicate 63 0#8
  ++ [0x03#8, 0x00#8, 0x00#8, 0xE8#8, 0x03#8]
  ++ List.replicate 10 0#8
  ++ [0xE8#8, 0x03#8, 0x00#8, 0x00#8, 0x17#8, 0xFC#8, 0xFF#8, 0xFF#8, 0xFF#8, 0xFF#8, 0xFF#8, 0xFF#8]
  ++ List.replicate 20 0#8

end Sys2Proof.Machine
end

