-- ==== Sys2Proof/Machine/ResetRegs.lean ====
section
/-!
DEFINITION. Machine/ResetRegs.lean: the registers that do not hold zero after reset, in rising address order: the Reset
columns of the spec's register tables, and the rules R421, R474, R537, R580 and R351 for the arrays whose column names a rule.
-/
namespace Sys2Proof.Machine

def resetRegs0 : Tab Word :=
  [(R.DEVICE_ID, 0xDE012048#32),
   (R.DEVICE_STEP, 0xB0#32)]

def resetRegs1 : Tab Word :=
  [(R.DEVICE_BIN, 0xF#32)]

def resetRegs2 : Tab Word :=
  [(R.CAT_LIVE_DIGEST 0, 0xAB0CC2BB#32), (R.CAT_LIVE_DIGEST 1, 0x5F0C12B0#32), (R.CAT_LIVE_DIGEST 2, 0xA1A11F93#32), (R.CAT_LIVE_DIGEST 3, 0xC64EFDC3#32), (R.CAT_LIVE_DIGEST 4, 0x733F07E4#32), (R.CAT_LIVE_DIGEST 5, 0x43983352#32), (R.CAT_LIVE_DIGEST 6, 0xEF4E18A2#32), (R.CAT_LIVE_DIGEST 7, 0xE25492D1#32)]

def resetRegs3 : Tab Word :=
  [(R.TIME_CTRL, 0x2#32),
   (R.TIME_INCR_INT, 0x4#32),
   (R.TIME_SLEW_RATE, 0x32#32),
   (R.TIME_SLEW_LIMIT, 0x3E8#32),
   (R.TIME_LOCK_NS, 0x14#32),
   (R.TIME_ACQ_TIMEOUT, 0x1E#32),
   (R.TIME_HOLD_LIMIT, 0x3E8#32),
   (R.TIME_REVERT_WAIT, 0xA#32),
   (R.TIME_PRIO, 0x83828180#32),
   (R.TIME_QUAL, 0x1030190#32),
   (R.TIME_QUAL_CLEAR, 0x10#32),
   (R.TIME_VREF_TIMEOUT, 0xFA0#32),
   (R.TIME_OUT, 0x18701#32),
   (R.TIME_SI_NUM_LO, 0x2800#32),
   (R.TIME_SI_DEN_LO, 0x9#32),
   (R.TIME_SI_TOL, 0x186A0#32),
   (R.TIME_SI_JUMP_COUNT, 0x4#32),
   (R.TIME_QUALITY, 0x10#32)]

def resetRegs4 : Tab Word :=
  (List.range 192).flatMap (fun n => [(R.LANE_CFG n, 0x771#32), (R.LANE_FOM_CFG n, 0x86040#32), (R.LANE_TIMERS n, 0x640A0A#32), (R.LANE_EXPECT n, 0xFFFF0000#32)])

def resetRegs5 : Tab Word :=
  [(R.INGEST_SKEW, 0x2710#32),
   (R.INGEST_MON_CFG, 0x40208#32),
   (R.INGEST_MON_BAND, 0xFFF0000#32),
   (R.INGEST_MON_HIGH, 0xFFFFFF#32),
   (R.ARRAY_CTRL, 0x1#32),
   (R.ARRAY_CHECK_PERIOD, 0x3E8#32)]

def resetRegs6 : Tab Word :=
  (List.range 400).map (fun p => (R.ARRAY_PMAP p,
    BitVec.ofNat 32 (if p % 100 < 96 then 2 ^ 29 + 96 * (p / 100) + p % 100 else 288 + 4 * (p / 100) + p % 100)))

def resetRegs7 : Tab Word :=
  [(R.ACCUM_INT_WINDOWS, 0x36#32),
   (R.ACCUM_ROUTE, 0x2#32),
   (R.BEAM_VCFG, 0x4E200006#32),
   (R.BEAM_DCFG, 0x4080008#32),
   (R.BEAM_SEARCH, 0x606#32),
   (R.BEAM_SBAND, 0xFFF0000#32),
   (R.BEAM_CAND, 0x4000010#32)]

def resetRegs8 : Tab Word :=
  (List.range 9).flatMap (fun j => [(R.BEAM_TH j, 0x120#32)])

def resetRegs9 : Tab Word :=
  [(R.CHAIN_CFG, 0xC000A#32),
   (R.CHAIN_ADDR, 0x3FF0000#32),
   (R.CHAIN_TIME_TOL, 0x3E8#32),
   (R.CHAIN_REPLY_TIMEOUT, 0x1388#32),
   (R.HBMC_RATE, 0x3#32),
   (R.HBMC_AGE_LIMIT, 0x1000#32),
   (R.HBMC_PAGE_TIMEOUT, 0x40#32),
   (R.HBMC_SCRUB_PERIOD, 0x4#32),
   (R.HBMC_LAYOUT_CT, 0x80000000#32),
   (R.HBMC_LAYOUT_ACC, 0x80000000#32),
   (R.HBMC_LAYOUT_STAGE, 0x80030000#32)]

def resetRegs10 : Tab Word :=
  [(R.HBMC_REGION_W0 3, 0x80005F60#32), (R.HBMC_REGION_W1 3, 0x300A0#32)]

def resetRegs11 : Tab Word :=
  [(R.HBMC_MAP 0, 0x8020#32), (R.HBMC_MAP 1, 0x10040#32), (R.HBMC_MAP 2, 0x20080#32), (R.HBMC_MAP 3, 0x40100#32), (R.HBMC_MAP 4, 0x80200#32), (R.HBMC_MAP 5, 0x100400#32), (R.HBMC_MAP 6, 0x200800#32), (R.HBMC_MAP 7, 0x401000#32), (R.HBMC_MAP 8, 0x802000#32), (R.HBMC_MAP 9, 0x1004000#32)]

def resetRegs12 : Tab Word :=
  [(R.HBMC_MAP_NEW 0, 0x8020#32), (R.HBMC_MAP_NEW 1, 0x10040#32), (R.HBMC_MAP_NEW 2, 0x20080#32), (R.HBMC_MAP_NEW 3, 0x40100#32), (R.HBMC_MAP_NEW 4, 0x80200#32), (R.HBMC_MAP_NEW 5, 0x100400#32), (R.HBMC_MAP_NEW 6, 0x200800#32), (R.HBMC_MAP_NEW 7, 0x401000#32), (R.HBMC_MAP_NEW 8, 0x802000#32), (R.HBMC_MAP_NEW 9, 0x1004000#32)]

def resetRegs13 : Tab Word :=
  [(R.MATRIX_SAFFRON_BUDGET, 0x66#32),
   (R.MATRIX_AGE_LIMIT, 0x1000#32),
   (R.MATRIX_TIMEOUT, 0x100000#32)]

def resetRegs14 : Tab Word :=
  (List.range 21).map (fun m => (R.MATRIX_MASTER_CFG m, if m < 18 then 0xF8#32 else if m < 20 then 0xE4#32 else 0x74#32))

def resetRegs15 : Tab Word :=
  [(R.DMA_FENCE_TIMEOUT, 0x200000#32)]

def resetRegs16 : Tab Word :=
  (List.range 32).flatMap (fun n => [(R.DMA_CH_CFG n, 0x40#32)])

def resetRegs17 : Tab Word :=
  [(R.MBOX_CROSS_WAIT, 0x10000#32)]

def resetRegs18 : Tab Word :=
  (List.range 48).map (fun k => (R.MBOX_CFG k, 0x1F00#32 ||| (if k < 16 then 20#32 else if k < 32 then BitVec.ofNat 32 (k - 14)
    else if k < 36 then 0#32 else if k < 44 then 0x1E#32 else 0x1F#32)))

def resetRegs19 : Tab Word :=
  [512, 513, 514, 515, 520, 521, 522, 523].map (fun k => (R.IRQ_SRC_CFG k, 0x40000000#32))

def resetRegs20 : Tab Word :=
  [(R.POWER_STATUS, 0x1#32),
   (R.POWER_PLIMIT, 0x154#32),
   (R.POWER_TJ, 0x50064#32),
   (R.POWER_WAITS, 0x7D0000A#32),
   (R.POWER_SENSOR_LIMIT, 0x8#32),
   (R.POWER_POLICY, 0xA01#32),
   (R.BOOT_STATUS, 0x1#32),
   (R.BOOT_CFG, 0x3C001E#32),
   (R.CORE_CTRL, 0x80#32),
   (R.CORE_STATUS, 0x41000000#32),
   (R.CORE_LEASE, 0xFFFF0000#32),
   (R.CORE_LEASE_PERIOD, 0x3E8#32),
   (R.CORE_HEALTH_MAXAGE, 0x1388#32)]

def resetRegs21 : Tab Word :=
  (List.range 2).flatMap (fun c => [(R.CORE_HEALTH_AGE c, 0xFFFFF#32)])

def resetRegs22 : Tab Word :=
  [(R.HOSTIF_CPL_TIMEOUT, 0x32#32)]

def resetRegs23 : Tab Word :=
  (List.range 256).flatMap (fun n => [(R.HOSTIF_MSIX_CTRL n, 0x1#32)])

def resetRegs24 : Tab Word :=
  [(R.MGMT_CTRL, 0x1#32)]

/-- Every register whose reset value is not zero. -/
def resetRegs : Tab Word :=
  resetRegs0 ++ resetRegs1 ++ resetRegs2 ++ resetRegs3 ++ resetRegs4 ++ resetRegs5 ++ resetRegs6 ++ resetRegs7 ++ resetRegs8 ++ resetRegs9 ++ resetRegs10 ++ resetRegs11 ++ resetRegs12 ++ resetRegs13 ++ resetRegs14 ++ resetRegs15 ++ resetRegs16 ++ resetRegs17 ++ resetRegs18 ++ resetRegs19 ++ resetRegs20 ++ resetRegs21 ++ resetRegs22 ++ resetRegs23 ++ resetRegs24

end Sys2Proof.Machine
end

