-- ==== Sys2Proof/Machine/State.lean ====
section
/-!
DEFINITION. Machine/State.lean: everything the spec gives the block to hold, as plain data. Every register lives in `regs`,
keyed by its BAR0 address; every addressed memory lives in `mem`, keyed by its matrix address; what has neither an address
nor a register stands in the structures below, one per chapter. `State.reset` is the block at the start of a cold start.
-/
namespace Sys2Proof.Machine

/-- Why the block stops with a fault. Raised by no meaning for ordinary data: an address outside every memory and register
answers with the error response the spec gives it. -/
inductive Fault where
  /-- Raised by nothing: the spec gives every command of the table an effect or an answer. Safe. -/
  | noEffect
  deriving DecidableEq, Repr

/-- Why a command has no meaning here. -/
inductive Refusal where
  /-- The command's arm has no meaning yet; safe, since nothing is claimed of it. -/
  | notModelled (mnemonic : String)
  deriving DecidableEq, Repr

/-- What the block gives the outside world, oldest first: the value a read returns, a message, a frame, a pulse. -/
inductive Out where
  | read (addr : Nat) (value : Nat)
  | frame (lane : Nat) (bytes : List Byte) (errs : List Nat)
  | abort (lane : Nat)
  | chain (port : Nat) (bytes : List Byte)
  | msix (vector : Nat) (addr : Nat) (data : Nat)
  | mgmt (bytes : List Byte)
  | pulse (source : Nat)
  | response (master : Nat) (id : Nat) (error : Bool) (bytes : List Byte)
  | hostWrite (addr : Nat) (bytes : List (Option Byte)) (poisoned : Bool)
  | hostRead (addr : Nat) (len : Nat)
  | completion (tag : Nat) (status : Nat) (bytes : List Byte)
  | aer (what : Nat)
  | detectPulse (lane : Nat)
  /-- Coded ten-bit groups that a transmitter sends (192 and 193: the chain ports); with `again` it goes on repeating them until its
  next output. -/
  | line (lane : Nat) (groups : List Nat) (again : Bool)
  | pme
  /-- PMBus writes to a regulator: PAGE, VOUT_COMMAND where one is given, and OPERATION (R621, R622). -/
  | regulator (addr page : Nat) (vout : Option Nat) (operation : Nat)
  /-- The AVSBus command to VDD_CORE, mV (R623). -/
  | avs (mv : Nat)
  | shift (bits : List Bool)
  /-- Levels that the boundary register drives: row index and column of the ball, of a pair its P ball, and the level. -/
  | balls (levels : List ((Nat × Nat) × Bool))
  deriving DecidableEq, Repr

/-- The parts of one reference source that no register shows (R50 to R53). -/
structure SrcSt where
  /-- A previous offset sample exists. -/
  sampled : Bool := false
  /-- Last offset, exact, 0.125 ns units. -/
  off : Int := 0
  /-- A clock or sample is present. -/
  present : Bool := false
  deriving DecidableEq, Repr

/-- How the frames of one block were judged (R42): passing, failing, the last accepted frame's deviation. -/
structure Tally where
  pass : Nat := 0
  fail : Nat := 0
  lastD : Int := 0
  deriving DecidableEq, Repr

/-- The time and reference unit beside its registers (chapter 2). -/
structure TimeSt where
  /-- Device time in units of 2^−32 ns, 64 + 32 bits (R45). -/
  now : BitVec 96 := 0
  /-- TIME.SI_NOW (R33), 64 bits. -/
  siNow : BitVec 64 := 0
  srcs : Tab SrcSt := []
  /-- Frequency lock has held for 2 s in this acquisition (R58). -/
  armed : Bool := false
  /-- The step of this acquisition has been applied (R45). -/
  stepped : Bool := false
  /-- Consecutive samples within TIME.LOCK_NS after the step. -/
  good : Nat := 0
  /-- Time PLL correction in parts per 10^9 of nominal (R47). -/
  pll : Int := 0
  /-- Rate a slew adds, parts per 10^9 (R46). -/
  slewPpb : Int := 0
  /-- Offset still to be slewed out, units of 2^−32 ns; positive when device time is ahead (R46). -/
  slewLeft : Int := 0
  /-- A DISAGREE stands (R56). -/
  disagree : Bool := false
  /-- Core cycles of Clove engines short of the next 1,024, in RUN at 2 × engine and waiting at 2 × engine + 1 (R574). -/
  cloveCyc : Tab Nat := []
  /-- Ticks counted toward the next second of TIME.HOLD_SECONDS. -/
  holdTicks : Nat := 0
  /-- A block has closed since the start (R78). -/
  blockSeen : Bool := false
  /-- Time-quality bits gathered since the last block end (R62). -/
  qAcc : Nat := 0x10
  /-- Time-quality word of each completed block, keyed by block number (R62, R78). -/
  qBlocks : Tab Nat := []
  /-- SUSPECT marks of channel blocks that hold a failing frame, keyed 4,096 × block number + slot (R41). -/
  suspects : Tab Nat := []
  /-- The next failing frame raises SI_SUSPECT (R41). -/
  suspectArmed : Bool := true
  /-- Judged frames of blocks not yet judged, keyed by block number (R42). -/
  tallies : Tab Tally := []
  /-- The next block to judge, as a block number (R42). -/
  judgeNext : Nat := 0
  failRun : Nat := 0
  failFirst : Nat := 0
  passRun : Nat := 0
  passFirst : Nat := 0
  /-- First SI of a declared SI jump that has not ended (R42). -/
  jumpOpen : Option Nat := none
  /-- Ended jumps: first failing SI, first passing SI (R43). -/
  jumps : List (Nat × Nat) := []
  /-- PPS_OUT level (R67). -/
  ppsOut : Bool := false
  /-- Ticks left of the pulse on PPS_OUT (R67). -/
  ppsLeft : Nat := 0
  /-- What the next tick adds to device time beside TIME.INCR: the step due, in units of 2^−32 ns (R60, R690). -/
  stepDue : Option Int := none
  /-- Ticks of the present µs, of 250, and per Curator the ticks of the µs that its health word's age is in (R509, R516). -/
  usTicks : Nat := 0
  ageTicks : Tab Nat := []
  deriving DecidableEq, Repr

/-- A frame that a lane has taken from the line: its bytes and the BAD mark (R86). -/
structure RxFrame where
  bytes : List Byte := []
  bad : Bool := false
  /-- Characters since its K27.7 (R87). -/
  len : Nat := 0
  deriving DecidableEq, Repr

/-- An egress frame on its way out: the UIP header fields, the payload, the frame places sent as K30.7 (R92), and what it came
from: the staging slot of a FOLIO frame. -/
structure EgressFrame where
  typ : Nat := 0
  stream : Nat := 0
  chan : Nat := 0
  group : Nat := 0
  si : Nat := 0
  flags : Nat := 0
  payload : List Byte := []
  errs : List Nat := []
  slot : Nat := 0
  deriving DecidableEq, Repr

/-- One lane beside its registers (chapter 3). -/
structure LaneSt where
  /-- Rate in use while training: 1, 2, 3 for 6.25, 12.5, 25.0 Gbaud; 0 none. -/
  rate : Nat := 0
  /-- TRAIN sends TSB (R102). -/
  tsb : Bool := false
  /-- Consecutive TSA and TSB received. -/
  tsaRun : Nat := 0
  tsbRun : Nat := 0
  /-- Commas found at one character position while symbol lock is sought. -/
  commas : Nat := 0
  /-- The partner's last valid capability set in this EXCHANGE: flags and body. -/
  lastSet : List Byte := []
  /-- Consecutive identical valid sets, and those with ACK = 1. -/
  setRun : Nat := 0
  ackRun : Nat := 0
  /-- The frame open between K27.7 and K29.7. -/
  frame : Option RxFrame := none
  /-- The receive buffer of two frames (R82). -/
  rx : List RxFrame := []
  /-- Receive running disparity is positive. -/
  rdPos : Bool := false
  /-- A K28.5 has come whose pair is not complete. -/
  pairHalf : Bool := false
  /-- Characters received, and the numbers of the invalid ones among the last 4,096 (R104). -/
  chars : Nat := 0
  invalids : List Nat := []
  /-- MARGIN has been raised and is not armed (R108). -/
  marginOff : Bool := false
  /-- Clock compensation waiting for a pair: 1 delete, 2 insert (R90). -/
  cc : Nat := 0
  /-- The last 31 pattern bits (R109). -/
  prbs : Nat := 0
  /-- The last 31 bits of the pattern being sent (R109). -/
  txPrbs : Nat := 0
  /-- Transmit running disparity is positive (R83). -/
  txPos : Bool := false
  /-- Its own sets carry ACK = 1 in this EXCHANGE (R96). -/
  acked : Bool := false
  /-- The receive FOM of a chain port, which has no register for it (R93). -/
  fom : Nat := 0
  /-- The egress frame being sent. -/
  tx : Option EgressFrame := none
  /-- Bit and symbol lock of a chain port, which has no register for them. -/
  bitLock : Bool := false
  symLock : Bool := false
  deriving DecidableEq, Repr

/-- A frame accepted into staging: its identity, UPSTREAM_BAD, the device input of its input 0, and its payload (R132). -/
structure AccFrame where
  stream : Nat
  group : Nat
  half : Nat
  bad : Bool
  first : Nat
  payload : List Byte
  deriving DecidableEq, Repr

/-- A channel block in staging (R139): slot and block number, accepted frames in order, the generator as its source, staging
bytes, closed or not, released or not, its reference instant in ns (R309), inputs shed when it closed, excised samples keyed
128 × input + spectrum, and the beam-role positions that have read it. -/
structure ChanBlk where
  slot : Nat
  b : Nat
  frames : List AccFrame := []
  gen : Bool := false
  alloc : Nat := 0
  closed : Bool := false
  released : Bool := false
  refNs : Nat := 0
  shed : List Nat := []
  exc : Tab Nat := []
  readBy : List Nat := []
  deriving DecidableEq, Repr

/-- What is kept of a channel block for its beam outputs once its staging space may be gone: reference instant in ns (R309), whether
it held a flagged sample of a cause other than OFF and whether it came from the generator (R312), and the positions that have read it. -/
structure HeldBlk where
  slot : Nat
  b : Nat
  refNs : Nat
  part : Bool
  gen : Bool
  readBy : List Nat := []
  deriving DecidableEq, Repr

/-- One run of blocks under one set of heavy entries: its first block number, per slot how many blocks have been released
since, and per dwell window how many channel blocks have been written (R144, R165). -/
structure Era where
  first : Nat := 0
  rel : Tab Nat := []
  win : Tab Nat := []
  deriving DecidableEq, Repr

/-- The monitor of one input (R154 to R159). -/
structure MonSt where
  sum : Nat := 0
  blocks : Nat := 0
  /-- Last values of M, newest first. -/
  hist : List Nat := []
  hiRun : Nat := 0
  loRun : Nat := 0
  hiDone : Bool := false
  loDone : Bool := false
  /-- The last restart SI applied to this monitor, and per restart SI the level just before its clear, none where it was not valid. -/
  doneX : Nat := 0
  prevs : List (Nat × Option Nat) := []
  /-- The last SI at which a threshold change re-armed the conditions. -/
  doneT : Nat := 0
  deriving DecidableEq, Repr

/-- Ingest beside its registers (chapter 4). -/
structure IngestSt where
  /-- Channel blocks open, closed or held, oldest first. -/
  blks : List ChanBlk := []
  era : Era := {}
  /-- Blocks below `eraX` belong to `eraOld` (R363, R364). -/
  eraOld : Era := {}
  eraX : Nat := 0
  /-- Accession gaps [x, y) (R365). -/
  gaps : List (Nat × Nat) := []
  mons : Tab MonSt := []
  /-- Restart SIs of the monitors, ascending; false where only the thresholds changed (R159). -/
  restarts : List (Nat × Bool) := []
  /-- The restart SI that a write of MON_RESTART resolved to. -/
  restartReq : Option Nat := none
  /-- VCNT[w][c][i], keyed (4,096 w + c) × 4,096 + i (R164). -/
  vcnt : Tab Nat := []
  /-- Per buffer, one more than the window whose counts VCNT holds. -/
  vcntWin : Tab Nat := []
  /-- Channel blocks whose outstanding beam work was cancelled for the reserve (R308). -/
  cancelled : List HeldBlk := []
  deriving DecidableEq, Repr

/-- A throttle setting in force for SIs at or above `x`: the channel slots, input groups and beam sets that it
sheds (R633). -/
structure ShedRow where
  x : Nat := 0
  slots : List Nat := []
  groups : List Nat := []
  sets : List Nat := []
  deriving DecidableEq, Repr

/-- One wing's lists of a plan: tiles and block indices (R195, R341). -/
structure WingPlan where
  tiles : List Nat := []
  blocks : List Nat := []
  deriving DecidableEq, Repr

/-- One beam record of a plan (R341). -/
structure BeamRec where
  tile : Nat
  set : Nat
  first : Nat
  stride : Nat
  count : Nat
  deriving DecidableEq, Repr

/-- The plan that the sequencer and the tiles hold, with the registers of the Catalogue that it belongs to (R363, R366): roles
of the 400 positions (0 none, 1 correlation, 2 beam). -/
structure Plan where
  roles : List Nat := []
  wings : List WingPlan := []
  recs : List BeamRec := []
  cfg : Tab Word := []
  deriving DecidableEq, Repr

/-- An order with what the sequencer knows of it: the word (R202), the window run, the part of the dwell (R242), and for a BPASS
the block number. -/
structure QOrd where
  word : BitVec 128 := 0
  run : Nat := 0
  part : Nat := 0
  blk : Nat := 0
  deriving DecidableEq, Repr

/-- The sums of one cell: real, imaginary, and the count of R255. -/
structure CellSum where
  re : Int := 0
  im : Int := 0
  n : Nat := 0
  deriving DecidableEq, Repr

/-- The 1,024 sums of a pass on their way to a slot, or of a slot on their way to the accumulators, with their marks. -/
structure Sums where
  tile : Nat := 0
  ord : QOrd := {}
  cells : List CellSum := []
  sat : Bool := false
  corrupt : Bool := false
  suspect : Bool := false
  /-- A spill whose accumulator words have been written and await their answer (R245). -/
  written : Bool := false
  /-- Its stall has been counted (R210, R212). -/
  noted : Bool := false
  deriving DecidableEq, Repr

/-- A sum slot beside its bytes: the dwell that uses it (window run, channel slot), accesses retired in that dwell, its last
access retired, and its marks (R198, R239). -/
structure SlotSt where
  run : Nat := 0
  chan : Nat := 0
  next : Nat := 0
  closed : Bool := false
  sat : Bool := false
  corrupt : Bool := false
  suspect : Bool := false
  deriving DecidableEq, Repr

/-- One logical tile or spare position beside its registers. -/
structure TileSt where
  /-- The order queue of 16, head first (R177). -/
  queue : List QOrd := []
  /-- SPILL, DRAIN and CHECK orders that wait in the sequencer for room. -/
  todo : List QOrd := []
  /-- The order in progress. -/
  cur : Option QOrd := none
  /-- Finished sums that wait in the cells for the shadow (R182). -/
  cells : Option Sums := none
  /-- The shadow holds sums: their order. -/
  shadow : Option Sums := none
  /-- The window run and the round that the tile works on; rounds below `round + 1` have started. -/
  run : Nat := 0
  round : Option Nat := none
  /-- The next round to issue and the next PASS of that round's run. -/
  issRound : Nat := 0
  issIdx : Nat := 0
  /-- The stall of the head order has been counted (R210, R212). -/
  noted : Bool := false
  /-- Operand buffers with a parity error in the present round (R223). -/
  badBuf : List Nat := []
  /-- A CHECK is due (R222). -/
  checkDue : Bool := false
  /-- What CHECK_NOW asks of the tile: 0 nothing, 1 a CHECK at its next opportunity, 2 that CHECK has been issued (R229). -/
  nowDue : Nat := 0
  /-- The beam chain being issued: slot, block number, next group, and the parts left with their start and length, the one in
  progress first (R291, R302). -/
  chain : Option (Nat × Nat × Nat × List (Nat × Nat)) := none
  /-- Chains whose orders have all run, oldest first: the block and the sum buffer (R306). -/
  readable : List (HeldBlk × Nat) := []
  /-- The sum buffer that the next chain takes (R294). -/
  buf : Nat := 0
  deriving DecidableEq, Repr

/-- One part of the dwells of a window run: its rounds [k0, k1), the integration that holds them, and OVW (R242). -/
structure Part where
  k0 : Nat
  k1 : Nat
  integ : Nat
  bank : Nat
  ovw : Bool
  deriving DecidableEq, Repr

/-- One run of the array over a dwell window (R192): its parts, abandoned channel slots, SPILLs issued and acknowledged keyed
4,096 × part + slot, and the next round to read. -/
structure WinRun where
  id : Nat
  m : Nat
  parts : List Part
  abandoned : List Nat := []
  issued : Tab Nat := []
  acked : Tab Nat := []
  readU : Nat := 0
  /-- The first SI after what the run covers. -/
  till : Nat := 0
  /-- Channel slots and input groups that the throttle sheds in it (R633). -/
  shedC : List Nat := []
  shedG : List Nat := []
  deriving DecidableEq, Repr

/-- A tile record of a folio (R272). -/
structure TileRec where
  si : Nat := 0
  logical : Nat := 0
  oldPhys : Nat := 0
  newPhys : Nat := 0
  cause : Nat := 0
  state : Nat := 0
  deriving DecidableEq, Repr

/-- The array beside its registers (chapter 5). -/
structure ArraySt where
  plan : Plan := {}
  tiles : Tab TileSt := []
  /-- Sum slots, keyed 16 × tile + slot. -/
  slots : Tab SlotSt := []
  /-- Write-backs started and not retired. -/
  wbs : List Sums := []
  /-- The spills in each wing's accumulation path, oldest first (R245). -/
  paths : Tab (List Sums) := []
  /-- Ready windows: window, whether it belongs to the blocks before the last heavy accession. -/
  ready : List (Nat × Bool) := []
  runs : List WinRun := []
  nextRun : Nat := 1
  /-- The SI below which every window has been taken up or dropped. -/
  till : Nat := 0
  /-- DRAINs issued and not retired: tile, integration. -/
  drains : List (Nat × Nat) := []
  /-- Physical tiles that failed a CHECK (R224). -/
  suspects : List Nat := []
  /-- Retire-pending physical tiles: 1 until the next accession, then 2 more than its SI (R225). -/
  pend : Tab Nat := []
  /-- Physical tiles with a parity error in the present window (R223). -/
  parity : List Nat := []
  /-- Retirements that left a logical tile MISSING, keyed by logical tile (R272). -/
  gone : Tab TileRec := []
  /-- Tile-cycles short of the next unit of ARRAY.OPERAND_WAIT. -/
  waitAcc : Nat := 0
  deriving DecidableEq, Repr

/-- One integration from its opening to its folio (R240). -/
structure Integ where
  id : Nat
  /-- SI of its start, and of its end once it has closed. -/
  a : Nat
  e : Option Nat := none
  bank : Nat
  /-- The registers of the Catalogue in force (R4, R267). -/
  cfg : Tab Word
  /-- The valid counts and mark words of its bank have been rewritten (R246). -/
  tables : Bool := false
  /-- DRAINs have been issued. -/
  drainIssued : Bool := false
  /-- SEQ, once closed. -/
  seq : Nat := 0
  /-- The staging slot and the device time, ns, of its drain. -/
  drain : Option (Nat × Nat) := none
  shedDwells : Nat := 0
  recs : List TileRec := []
  afterGap : Bool := false
  mismatch : Bool := false
  /-- An uncorrectable valid count (R251). -/
  validErr : Bool := false
  deriving DecidableEq, Repr

/-- Accumulation and folios beside their registers (chapter 6). -/
structure AccumSt where
  integs : List Integ := []
  nextInteg : Nat := 1
  /-- The bank that the next integration takes (R241). -/
  nextBank : Nat := 0
  /-- Every SI at which an integration has opened or closed (R242, R243). -/
  bounds : List Nat := []
  /-- Integrations lost since the last folio written (R282). -/
  lostSince : Nat := 0
  /-- Spills short of the next unit of ACCUM.SPILLS, and cycles of ACCUM.BANK_WAIT. -/
  spillAcc : Nat := 0
  waitAcc : Nat := 0
  /-- Folios on the egress route, oldest first: staging slot, next chunk, stream (R278). -/
  sending : List (Nat × Nat × Nat) := []
  /-- Staging slots whose PCIe route has not finished, and whose egress route has not (R277). -/
  holdPcie : List Nat := []
  holdEgress : List Nat := []
  /-- Per used staging slot, its size in 2 MiB units. -/
  stageSpan : Tab Nat := []
  /-- Integrations closed since the last cold start (R271). -/
  closed : Nat := 0
  /-- Wings whose oldest spill waits for its bank (R248). -/
  waiting : List Nat := []
  deriving DecidableEq, Repr

/-- A VBEAM frame that waits for a lane, with its deadline in ns (R309, R310). -/
structure VFrame where
  frame : EgressFrame
  deadline : Nat
  deriving DecidableEq, Repr

/-- An open DBEAM span of one beam octet in one slot, or the part [lo, hi) of it that an accession cut off (R313, R314): its first
SI, values keyed 8 × j + k (absent: 0xFFFF), blocks delivered, and the flags of R312. -/
structure DSpan where
  slot : Nat
  oct : Nat
  a : Nat
  lo : Nat
  hi : Nat
  vals : Tab Nat := []
  blocks : List Nat := []
  flags : Nat := 0
  /-- Its place in the order in which spans complete; 0 while it is not complete (R313). -/
  fullAt : Nat := 0
  deriving DecidableEq, Repr

/-- Band sums of one block-time, or of the part [lo, hi) of it that an accession cut off (R315, R316, R323): block number, what has been
delivered or discarded (4,096 × set + slot), sums keyed 4,096 × beam + run, runs with no value, per beam SAT, WEIGHT_LATE, PARTIAL and
SHED in the bits of R321, and whether its samples came from the generator. -/
structure BlockTime where
  b : Nat
  lo : Nat
  hi : Nat
  gen : Bool := false
  got : List Nat := []
  lost : List Nat := []
  sums : Tab Nat := []
  noVal : List Nat := []
  marks : Tab Nat := []
  deriving DecidableEq, Repr

/-- The search state of one beam at one level (R317, R318): half a boxcar of the next level, the level and the outputs it is
being formed from. -/
structure LevelSt where
  /-- The even half of the next level's boxcar: its index plus one, its sum or none, its marks. -/
  half : Option (Nat × Option Nat × Nat) := none
  level : Nat := 0
  valid : Bool := false
  outs : Nat := 0
  sum : Nat := 0
  used : Nat := 0
  deriving DecidableEq, Repr

/-- A threshold event (R319 to R321). -/
structure SearchEvent where
  beam : Nat
  lvl : Nat
  si : Nat
  e : Nat
  m : Nat
  marks : Nat
  deriving DecidableEq, Repr

/-- The beam and transient unit beside its registers (chapter 7). -/
structure BeamSt where
  /-- Per set, the pages it has had: from SI, page plus one (0 none), newest first (R302 to R304). -/
  pages : Tab (List (Nat × Nat)) := []
  /-- Per set, the intervals in which its outputs carry WEIGHT_LATE: from SI, and the end once the switch took effect (R303). -/
  late : Tab (List (Nat × Option Nat)) := []
  /-- Accepted switches that have not taken effect: SI and page (R301). -/
  switches : List (Nat × Nat) := []
  /-- The page that pending sets wait for (R303). -/
  pendPage : Nat := 0
  /-- WLOAD bits set while pending: set, the pass boundary at which its switch takes effect. -/
  pendAt : List (Nat × Nat) := []
  vready : List VFrame := []
  spans : List DSpan := []
  bts : List BlockTime := []
  levels : Tab LevelSt := []
  /-- Events not yet sent, and the first SI of the open candidate period. -/
  events : List SearchEvent := []
  period : Nat := 0
  /-- SEARCH_CUT occurred in the open period (R321). -/
  cut : Bool := false
  /-- Block-times below this SI have been completed. -/
  doneSi : Nat := 0
  /-- First SIs of the completed block-times that came from the generator, as far as their period is not sent (R321). -/
  gens : List Nat := []
  /-- SIs that cut spans, blocks and periods: those of the accessions, and the ends of their gaps (R314, R322). -/
  cuts : List Nat := []
  /-- SIs of the accessions, at which EPOCH toggles (R322). -/
  accs : List Nat := []
  /-- SIs at which every level's state is cleared (R322). -/
  clears : List Nat := []
  /-- The SI of a scheduled accession at which the levels have been cleared already (R15, R322). -/
  preCleared : Option Nat := none
  /-- The pass boundary at which the last SEARCH_RESTART acts (R322, R327). -/
  restartAt : Nat := 0
  /-- Cancelled blocks whose voltage frames have been built: position, slot, block number (R308). -/
  lateDone : List (Nat × Nat × Nat) := []
  /-- Cancelled blocks, slot and block number, that the spans and the search have taken note of (R308, R313, R316). -/
  cancelDone : List (Nat × Nat) := []
  /-- Spans completed so far (R313). -/
  fullSeq : Nat := 0
  /-- Sets with work on a spare position that ceased to exist, and the SI from which it is shed (R325). -/
  gone : List (Nat × Nat) := []
  clampAcc : Nat := 0
  stallAcc : Nat := 0
  deriving DecidableEq, Repr

/-- A write to the configuration store in progress (R355, R612, R660): where, what, for whom (0 STORE, 1 SET_BOOT or NO_BOOT,
2 a firmware slot, 3 SET_FIRST), and whether the temperature has left the range since (R639). -/
structure StoreWrite where
  off : Nat
  bytes : List Byte
  kind : Nat
  stopped : Bool := false
  deriving DecidableEq, Repr

/-- The Catalogue slots beside their registers (chapter 8). -/
structure CatSt where
  /-- The image in force. -/
  live : List Byte := refImage
  /-- The image in the shadow slot. -/
  shadow : List Byte := []
  /-- The retiring copy (R363). -/
  retiring : List Byte := []
  /-- Where the shadow image came from, coded as CAT.BOOT.LIVE_SRC. -/
  shadowSrc : Nat := 0
  /-- The load in progress: source, Archive offset, length (R353). -/
  load : Option (Nat × Nat × Nat) := none
  /-- The scheduled accession or the one in its gap: x and y (R356, R358). -/
  acc : Option (Nat × Nat) := none
  /-- The registers that the scheduled accession changes, with the words it gives them (R15). -/
  next : List (Nat × Word) := []
  /-- Per accession that took effect, newest first: its SI, and the registers it changed with the words they held before (R15). -/
  olds : List (Nat × List (Nat × Word)) := []
  /-- The remap of the gap has been done (R366). -/
  remapped : Bool := false
  /-- The configuration store's bytes that differ from the erased value, by store offset (R610). -/
  store : Tab Byte := []
  /-- The write to the store in progress. -/
  storing : Option StoreWrite := none
  deriving DecidableEq, Repr

/-- The chain unit beside its registers (chapter 9); ports are 0 CHAIN_UP and 1 CHAIN_DN. -/
structure ChainSt where
  /-- The CHAIN_HEAD strap at the last release of RST_N (R376). -/
  strap : Bool := false
  /-- Per port, the payload of the last valid HELLO, and how many identical ones have come in a row (R377). -/
  peers : Tab (List Byte) := []
  runs : Tab Nat := []
  /-- Per port, the payload of the last HELLO sent in UP. -/
  sent : Tab (List Byte) := []
  /-- The first HELLO from upstream after a warm start or a wake decides on the kept address (R388). -/
  resume : Bool := false
  /-- Consecutive SRC2 samples beyond and within CHAIN.TIME_TOL (R399). -/
  disRun : Nat := 0
  agreeRun : Nat := 0
  /-- The receive queue of 8 firmware messages: port and message (R413). -/
  rxq : List (Nat × List Byte) := []
  /-- The queued firmware message that has not left: port and message. -/
  txq : Option (Nat × List Byte) := none
  /-- The head's last command: TYPE, SEQ and payload (R406). -/
  cmd : Option (Nat × Nat × List Byte) := none
  /-- The last command handled: SEQ, TYPE, SI, and the payload of its REPORT (R406). -/
  handled : Option (Nat × Nat × Nat × List Byte) := none
  /-- The head's live digest of a mismatched ACCEDE, to be recorded at its SI (R403). -/
  digestDue : Option (Nat × List Byte) := none
  deriving DecidableEq, Repr

/-- The snapshot unit beside its registers (R651 to R655): the blocks that have latched their part of the pending set, and the
words latched. -/
structure SnapSt where
  blocks : List Nat := []
  /-- Words of registers that an event at or after the snapshot SI has changed since, as they stood before it (R16). -/
  early : List (Nat × Word) := []
  words : Tab Word := []
  deriving DecidableEq, Repr

/-- A request of the memory controller (R426 to R433): class 0 Saffron, 1 data, 2 high, 3 normal, 4 background; the rank it is
served at; who asked and with which tag; its offset, its data with byte enables, and the pseudo-channel, bank and row it maps to. -/
structure HReq where
  cls : Nat
  rank : Nat
  src : Nat
  tag : Nat
  hint : Bool
  wr : Bool
  off : Nat
  data : List (Option Byte)
  pc : Nat
  bank : Nat
  row : Nat
  promoted : Bool := false
  hazard : Bool := false
  deriving DecidableEq, Repr

/-- The memory controller beside its registers (chapter 10). -/
structure HbmSt where
  /-- Requests in the pseudo-channel queues, oldest first, and those that wait at their ports. -/
  reqs : List HReq := []
  waiting : List HReq := []
  /-- Open rows, one more than the row, keyed 48 × pseudo-channel + bank (R432). -/
  rows : Tab Nat := []
  /-- Postponed refreshes and rolling activation counts, keyed alike (R435, R436). -/
  postponed : Tab Nat := []
  acts : Tab Nat := []
  /-- What requests are held for: 0 nothing, 1 a map apply that waits for requests in flight, 2 its scrub, 3 a rate change, 4 a rate change
  that waits for them. -/
  hold : Nat := 0
  /-- The initialising scrub of a cold start is running. -/
  initScrub : Bool := false
  /-- A patrol pass is running. -/
  patrol : Bool := false
  /-- Pseudo-channels that have ended the training phase in progress, and the rate requested meanwhile (R442, R444). -/
  done : List Nat := []
  rateReq : Option Nat := none
  /-- Stored training results by rate: temperature and lanes moved (R443). -/
  records : Tab (Nat × Nat) := []
  /-- 4-byte words of uncorrectable units that the accumulation path has written afresh, by number (R250, R251). -/
  renewed : List Nat := []
  deriving DecidableEq, Repr

/-- The power manager beside its registers (chapter 16). -/
structure PowerSt where
  /-- Rise ΔT of each model point in °C, and the base B (R627). -/
  rise : Tab Rat := []
  base : Rat := 0
  /-- Microseconds of measurement rounds since power-on, and per round the time since the round before and the total power
  in mW, newest first, as far as the last 10 ms need them (R625, R631). -/
  clock : Nat := 0
  hist : List (Nat × Nat) := []
  /-- The clock at the last change of the controller step, and since when the lowering condition has held (R631). -/
  changed : Option Nat := none
  coolFrom : Option Nat := none
  /-- Since when H has been below the limit that ends fast rounds (R629). -/
  slowFrom : Option Nat := none
  /-- H stands at TJ_THROTTLE or above (R642). -/
  hot : Bool := false
  /-- Entries of the power record in use, 0 without one (R621, R624). -/
  entries : Nat := 0
  /-- Latest READ_IOUT of each record entry in mA, and the entry to read next (R625, R626). -/
  iout : Tab Nat := []
  rot : Nat := 0
  /-- Consecutive slow rounds in which a diode has been out of line (R628). -/
  strikes : Tab Nat := []
  /-- Consecutive AVSBus failures (R623). -/
  avsRun : Nat := 0
  /-- Rails whose monitor is out of range, as bits (R642). -/
  railsOut : Nat := 0
  /-- Changes of the step in force, newest first: SI and step (R634). -/
  steps : List (Nat × Nat) := []
  /-- The THERMTRIP latch: its cause, 1 diode, 2 model point, 3 CATTRIP (R637, R638). -/
  tripped : Option Nat := none
  deriving DecidableEq, Repr

/-- A transaction that the matrix has taken from a master and not answered (R450, R451, R466): the master, its ID, the QoS value it
is carried with, its keep-open hint, direction, address as presented and as decoded, enabled bytes (of a read their count alone),
and the tag of the PCIe request it came from. -/
structure Txn where
  m : Nat
  id : Nat
  qos : Nat
  hint : Bool
  wr : Bool
  addr : Nat
  tgt : Nat
  data : List (Option Byte)
  pcie : Option Nat := none
  /-- 0 accepted at its target, 1 held for order, 2 held for room in the response buffer (R467, R468). -/
  hold : Nat := 0
  /-- Answered by a timeout; the real response is still to come (R471). -/
  late : Bool := false
  promoted : Bool := false
  deriving DecidableEq, Repr

/-- The matrix beside its registers (chapter 11): transactions, oldest first; per port the Saffron beats of the present window and
the beats short of the next unit of BEATS; the ports over budget in the present window, as bits. -/
structure MatrixSt where
  txns : List Txn := []
  saffron : Tab Nat := []
  beats : Tab Nat := []
  over' : Nat := 0
  /-- Per port, one more than the master last served (R464). -/
  last : Tab Nat := []
  deriving DecidableEq, Repr

/-- A descriptor as taken (R481): its matrix address, CTL, the two addresses, LENGTH, steps and counts. -/
structure DmaDesc where
  place : Nat
  ctl : Nat
  src : Nat
  dst : Nat
  len : Nat
  step1 : Int
  step2 : Int
  step3 : Int
  cnt1 : Nat
  cnt2 : Nat
  cnt3 : Nat
  deriving DecidableEq, Repr

/-- One DMA channel beside its registers (chapter 12). Offsets count the descriptor's bytes in loop order. -/
structure DmaCh where
  desc : Option DmaDesc := none
  /-- Bytes whose reads have been issued, and whose writes have been. -/
  rd : Nat := 0
  wr : Nat := 0
  /-- Reads in flight, oldest first: offset and length. -/
  reads : List (Nat × Nat) := []
  /-- Bytes read and not yet written, from offset `wr`; none where the beat came with an error (R495). -/
  buf : List (Option Byte) := []
  /-- Buffer slots reserved: the offset at which the bytes of each read end, and its slots (R478). -/
  slots : List (Nat × Nat) := []
  /-- Writes in flight, oldest first: address and bytes; and those whose descriptor has ended without them (R494). -/
  writes : List (Nat × List (Option Byte)) := []
  orphans : List (Nat × List (Option Byte)) := []
  /-- The first error of the descriptor: code, LAST, BEAT. -/
  err : Option (Nat × Bool × Nat) := none
  /-- The read that completes a fence into the host window is in flight (R494). -/
  fenceRead : Bool := false
  /-- DONE has been reached for this descriptor (R493). -/
  complete : Bool := false
  /-- STOP came while the descriptor's writeback was due. -/
  stopDue : Bool := false
  /-- Tokens of the read engine and of the write engine, in 256ths of a beat (R490), and bytes short of the next unit of BYTES. -/
  tokens : Nat := 2048
  wtokens : Nat := 2048
  bytes : Nat := 0
  deriving DecidableEq, Repr

/-- The DMA engine beside its registers: channels, and the channels that the read and the write engine served last (R477). -/
structure DmaSt where
  chs : Tab DmaCh := []
  last : Nat := 31
  lastW : Nat := 31
  deriving DecidableEq, Repr

/-- One bank of a Mace processor's registers (R540, R558, R585): general, address and modifier registers, sc, QOS, EPC, ECAUSE and
EADDR. -/
structure Bank where
  g : Tab Word := []
  a : Tab (BitVec 40) := []
  m : Tab Word := []
  sc : Word := 0
  qos : Word := 0x0F840008
  epc : Word := 0
  ecause : Word := 0
  eaddr : BitVec 40 := 0
  deriving DecidableEq, Repr

/-- What a processor waits for (R556, R557, R566). -/
inductive Wait where
  | run
  | si (target : Nat)
  | flags (mask : Nat)
  | moves
  | fence
  | room
  deriving DecidableEq, Repr

/-- An outstanding BMOV (R566): local and matrix address, length, direction, QoS value, transaction ID, and the address registers that it
advances. -/
structure Move where
  loc : Nat
  mat : Nat
  len : Nat
  inward : Bool
  qos : Nat
  id : Nat
  aL : Nat
  aR : Nat
  deriving DecidableEq, Repr

/-- One active level of LOOP: where its body starts and stops, and its remaining count (R554). -/
structure LoopSt where
  start : Nat
  stop : Nat
  count : Nat
  deriving DecidableEq, Repr

/-- A Mace processor (chapter 14): a Curator, or a Clove engine beside its CLOVE registers. -/
structure MaceSt where
  pc : Word := 0
  bank : Bank := {}
  /-- The fast bank, whose QOS resets with LS 15 (R559, R585), and its return address FPC. -/
  fast : Bank := { qos := 0x0F84000F }
  fpc : Word := 0
  inFast : Bool := false
  /-- Accumulators, RE and IM (R540), and DSPSTAT. -/
  acc : Tab (Int × Int) := []
  dspstat : Word := 0
  loops : List LoopSt := []
  /-- CYCLE_HI as latched by the last read of CYCLE_LO (R558). -/
  cycHi : Word := 0
  ebase : Word := 0x100
  kick : Bool := false
  wait : Wait := .run
  /-- Stopped by an exception inside an exception (R562). -/
  stopped : Bool := false
  moves : List Move := []
  /-- The BMOV that waits for one of four to end. -/
  waiting : Option Move := none
  /-- The address of a store whose error response has not been taken (R561, R568). -/
  storeErr : Option Nat := none
  deriving DecidableEq, Repr

/-- The interrupt controller beside its registers (chapter 15). A target is 0 Curator A, 1 Curator B, 2 the host, 3 the active
Curator; a state is 0 IDLE, 1 PENDING, 2 ACTIVE, 3 ACTIVE_PENDING, keyed 4 × source + target; sources 640 to 655 are the host
mailbox inputs. -/
structure IrqSt where
  st : Tab Nat := []
  /-- Sources asserted. -/
  level : List Nat := []
  /-- Keys held by moderation (R592). -/
  held : List Nat := []
  /-- A Curator's ERET has begun the exit of its frame (R588). -/
  exiting : List Nat := []
  deriving DecidableEq, Repr

/-- A start beside its registers (R614 to R618). -/
structure BootSt where
  /-- START has begun the steps. -/
  begun : Bool := false
  /-- BOOT_SEL as sampled (R613). -/
  sel : Nat := 0
  /-- The boot block had no valid copy (R611). -/
  noBlock : Bool := false
  /-- The sources of firmware still to try: 0 and 1 the store's slots, 2 the host, 3 the device region (R613, R614). -/
  sources : List Nat := []
  /-- Where the passing image came from. -/
  image : Option Nat := none
  /-- The Curators whose self-test of step 4 has failed (R507, R617). -/
  romFail : List Nat := []
  /-- The failure code with which the start skips to step 15 (R616). -/
  failed : Nat := 0
  /-- The second run of R616 is under way. -/
  retried : Bool := false
  /-- ARRAY.CTRL.BIST_ON_WARM as it stood when the warm start began (R221). -/
  bist : Bool := false
  /-- The rails are off: the start waits for its retry, or has failed for good, or VDD_IO is absent (R616, R638, R677). -/
  off : Bool := false
  deriving DecidableEq, Repr

/-- The endpoint, the management port and the test port beside their registers (chapters 17 and 18). -/
structure HostSt where
  /-- The transaction ID that the last relaxed read took (R645). -/
  rot : Nat := 0
  /-- The function is in D3cold; PME_Status and PME_En, which survive PERST_N (R649). -/
  cold : Bool := false
  pme : Bool := false
  pmeEn : Bool := false
  /-- The firmware image offered by the host, or being stored: slot and bytes. -/
  fwBusy : Bool := false
  fuses : Nat := 0
  /-- Transmission of management frames is under way (R662). -/
  sending : Bool := false
  /-- The rate that automatic alternation tries: 1 10GBASE-R, 2 1000BASE-X (R661). -/
  tryRate : Nat := 1
  deriving DecidableEq, Repr

/-- The boundary-scan TAP (R687): its instruction (0 BYPASS, 1 IDCODE, 2 SAMPLE/PRELOAD, 3 EXTEST, 4 CLAMP, 5 HIGHZ, 6 EXTEST_PULSE,
7 EXTEST_TRAIN, 8 BOOT_READ), the boundary register's preloaded cells, and whether it drives the balls. -/
structure TapSt where
  instr : Nat := 1
  cells : List Bool := []
  drives : Bool := false
  highz : Bool := false
  deriving DecidableEq, Repr

/-- The block's state: plain data, everything the spec gives it, the queue of waiting commands, and the model's own
`out` and `fresh`. -/
structure State where
  /-- Every register that does not hold zero, by BAR0 address. -/
  regs : Tab Word
  /-- Every byte of memory that does not read as its default, by matrix address. -/
  mem : List Host.Cell
  /-- What a Carrel byte that is not listed reads as: 0 zero, else a free value of that era, after SLEEP (R606). -/
  carrelEra : Nat
  /-- Archive units (offset / 32) that read as uncorrectable (R439). -/
  poison : List Nat
  /-- The registers as they stood before the last accession took effect (R15). -/
  oldRegs : Tab Word
  /-- What a read of the high word of a latched pair returns, by its BAR0 address: the word latched by the last read of the low one. -/
  hiLatch : Tab Word
  /-- SI of the last accession (R15). -/
  accSi : Nat
  /-- What has been given to the outside world, oldest first. -/
  out : List Out
  /-- The next free value: the model's own counter, no state of the spec. -/
  fresh : Nat
  /-- The 192 lanes, and as 192 and 193 the chain ports. -/
  lanes : Tab LaneSt
  /-- Per quire, the lane position its round robin looks at first. -/
  quireNext : Tab Nat
  /-- Egress frames waiting for a lane, oldest first. -/
  egress : List EgressFrame
  /-- Staging, monitors and the corner turn. -/
  ingest : IngestSt
  /-- Time and reference unit. -/
  time : TimeSt
  /-- What the throttle sheds, newest first (R633). -/
  sheds : List ShedRow
  /-- The correlation array. -/
  array : ArraySt
  /-- Accumulation and folios. -/
  accum : AccumSt
  /-- Beams and transient search. -/
  beam : BeamSt
  /-- The Catalogue slots and the configuration store. -/
  cat : CatSt
  /-- The Stack chain. -/
  chain : ChainSt
  /-- Snapshots. -/
  snap : SnapSt
  /-- The memory controller. -/
  hbm : HbmSt
  /-- The power manager. -/
  power : PowerSt
  /-- The bus matrix. -/
  matrix : MatrixSt
  /-- The DMA engine. -/
  dma : DmaSt
  /-- The Curator that last lost the lease (R510). -/
  lastOwner : Option Nat
  /-- The Mace processors: 0 and 1 the Curators, 2 + e Clove engine e (chapter 14). -/
  mace : Tab MaceSt
  /-- The interrupt controller. -/
  irq : IrqSt
  /-- The start in progress. -/
  boot : BootSt
  /-- The PCIe endpoint and the management port. -/
  host : HostSt
  /-- The boundary-scan TAP. -/
  tap : TapSt
  /-- Commands waiting, first in, first out. -/
  pending : List Instr
  deriving DecidableEq, Repr

/-- The block at the start of a cold start: the reset values of the spec's tables, and for what has no stated value the
values the assumption log names. -/
def State.reset : State where
  regs := resetRegs
  mem := []
  carrelEra := 0
  poison := []
  oldRegs := []
  hiLatch := []
  accSi := 0
  out := []
  fresh := 0
  lanes := []
  quireNext := []
  egress := []
  ingest := {}
  time := {}
  sheds := []
  array := {}
  accum := {}
  beam := {}
  cat := {}
  chain := {}
  snap := {}
  hbm := {}
  power := {}
  matrix := {}
  dma := {}
  lastOwner := none
  mace := []
  irq := {}
  boot := {}
  host := {}
  tap := {}
  pending := []

end Sys2Proof.Machine
end

