-- ==== Sys2Proof/Machine/Tab.lean ====
section
/-!
DEFINITION. Machine/Tab.lean: reading and writing a sparse table in its one canonical form, and the plain number helpers
every family uses. `d` is what an absent key reads as.
-/
namespace Sys2Proof.Machine

/-- The value at key `k`; `d` where the table lists none. -/
def tget {α : Type} (d : α) : Tab α → Nat → α
  | [], _ => d
  | (j, v) :: rest, k => if j = k then v else tget d rest k

/-- Removes key `k`. -/
def terase {α : Type} : Tab α → Nat → Tab α
  | [], _ => []
  | (j, v) :: rest, k => if j = k then terase rest k else (j, v) :: terase rest k

/-- Puts `v` at key `k`, keeping the keys rising. -/
def tinsert {α : Type} : Tab α → Nat → α → Tab α
  | [], k, v => [(k, v)]
  | (j, w) :: rest, k, v =>
    if k < j then (k, v) :: (j, w) :: rest
    else if k = j then (k, v) :: rest
    else (j, w) :: tinsert rest k v

/-- Writes `v` at key `k`: the default removes the entry, so that equal tables are equal data. -/
def tset {α : Type} [DecidableEq α] (d : α) (t : Tab α) (k : Nat) (v : α) : Tab α :=
  if v = d then terase t k else tinsert t k v

/-- Applies `f` at key `k`. -/
def tmod {α : Type} [DecidableEq α] (d : α) (t : Tab α) (k : Nat) (f : α → α) : Tab α :=
  tset d t k (f (tget d t k))

/-- Keys strictly rising and all above `lo`. -/
def tabRising {α : Type} : Nat → Tab α → Bool
  | _, [] => true
  | lo, (j, _) :: rest => decide (lo ≤ j) && tabRising (j + 1) rest

/-- The canonical form: rising keys, no default listed. -/
def tabWf {α : Type} [DecidableEq α] (d : α) (t : Tab α) : Bool :=
  tabRising 0 t && t.all (fun e => decide (e.2 ≠ d))

/-- `n` saturated at `2^w - 1`. -/
def satN (w n : Nat) : Nat := min n (2 ^ w - 1)

/-- `i` saturated to a `w`-bit signed number. -/
def satI (w : Nat) (i : Int) : Int := max (-(2 ^ (w - 1))) (min i (2 ^ (w - 1) - 1))

/-- The signed value of the low `w` bits of `n`. -/
def toSigned (w n : Nat) : Int :=
  if n % 2 ^ w < 2 ^ (w - 1) then (n % 2 ^ w : Int) else (n % 2 ^ w : Int) - 2 ^ w

/-- The low `w` bits of `i`, as a natural number. -/
def fromSigned (w : Nat) (i : Int) : Nat := (i % 2 ^ w).toNat

/-- Bit `k` of `n`. -/
def bitOf (n k : Nat) : Bool := n / 2 ^ k % 2 == 1

/-- A Bool as a bit. -/
def b2n (b : Bool) : Nat := if b then 1 else 0

/-- Bits `[hi:lo]` of `n`. -/
def bitsOf (n hi lo : Nat) : Nat := n / 2 ^ lo % 2 ^ (hi + 1 - lo)

/-- `n` with bit `k` set. -/
def setBit (n k : Nat) : Nat := if bitOf n k then n else n + 2 ^ k

/-- `n` with bit `k` cleared. -/
def clearBit (n k : Nat) : Nat := if bitOf n k then n - 2 ^ k else n

/-- How many bits of the low `w` of `n` are set. -/
def popcount : Nat → Nat → Nat
  | 0, _ => 0
  | w + 1, n => n % 2 + popcount w (n / 2)

/-- Quotient rounded up. -/
def ceilDiv (a b : Nat) : Nat := (a + b - 1) / b

/-- `n` bytes of `v`, least significant first. -/
def leBytes : Nat → Nat → List Byte
  | 0, _ => []
  | n + 1, v => BitVec.ofNat 8 v :: leBytes n (v / 256)

/-- The number a byte list spells, least significant first. -/
def leNat : List Byte → Nat
  | [] => 0
  | b :: rest => b.toNat + 256 * leNat rest

/-- Puts `x` into a list ordered by `lt`, after its equals. -/
def insertBy {α : Type} (lt : α → α → Bool) (x : α) : List α → List α
  | [] => [x]
  | y :: rest => if lt x y then x :: y :: rest else y :: insertBy lt x rest

/-- A list in the order of `lt`, equals in their old order. -/
def sortBy {α : Type} (lt : α → α → Bool) (l : List α) : List α := l.foldl (fun acc x => insertBy lt x acc) []

/-- The distinct numbers of a list, ascending. -/
def ascending (l : List Nat) : List Nat := sortBy (fun a b => decide (a < b)) l.dedup

/-- `v` held within ±lim, and whether it had to be. -/
def satSym (lim v : Int) : Int × Bool :=
  if lim < v then (lim, true) else if v < -lim then (-lim, true) else (v, false)

/-- The first element of a list that satisfies `p`, with its place. -/
def findIdxFrom {α : Type} (p : α → Bool) : Nat → List α → Option Nat
  | _, [] => none
  | k, x :: rest => if p x then some k else findIdxFrom p (k + 1) rest

end Sys2Proof.Machine
end

