-- ==== Sys2Proof/Machine/Ops.lean ====
section
/-!
DEFINITION. Machine/Ops.lean: the named operations over registers, memory, free values and outputs that every family shares.
-/
namespace Sys2Proof.Machine

/-- The word the register at BAR0 address `a` holds. -/
def State.rd (s : State) (a : Nat) : Word := tget 0#32 s.regs a

/-- Stores `v` in the register at `a`. -/
def State.wr (s : State) (a : Nat) (v : Word) : State := { s with regs := tset 0#32 s.regs a v }

/-- The register at `a` as a number. -/
def State.rdN (s : State) (a : Nat) : Nat := (s.rd a).toNat

/-- Stores the low 32 bits of `n` in the register at `a`. -/
def State.wrN (s : State) (a n : Nat) : State := s.wr a (BitVec.ofNat 32 n)

/-- `v` with the `w` bits from `lo` replaced by those of `n`. -/
def insertBits (v : Word) (lo w n : Nat) : Word :=
  (v &&& ~~~(BitVec.ofNat 32 (2 ^ w - 1) <<< lo)) ||| (BitVec.ofNat 32 (n % 2 ^ w) <<< lo)

/-- The `w` bits of `v` from `lo`, as a number. -/
def extractBits (v : Word) (lo w : Nat) : Nat := v.toNat / 2 ^ lo % 2 ^ w

/-- The value of a register field. -/
def State.fget (s : State) (f : Field) : Nat := extractBits (s.rd f.reg) f.lo f.width

/-- Stores `n` in a register field, leaving the register's other bits. -/
def State.fput (s : State) (f : Field) (n : Nat) : State :=
  s.wr f.reg (insertBits (s.rd f.reg) f.lo f.width n)

/-- A one-bit field as a truth value. -/
def State.fbit (s : State) (f : Field) : Bool := s.fget f == 1

/-- Raises an event or flag: sets a one-bit field (R11: a set wins over nothing, since commands come one at a time). -/
def State.raise (s : State) (f : Field) : State := s.fput f 1

/-- Raises `f` where `c` holds. -/
def State.raiseIf (s : State) (c : Bool) (f : Field) : State := if c then s.raise f else s

/-- Adds `n` to the 32-bit counter at `a`, saturating (R114, R166). -/
def State.countBy (s : State) (a n : Nat) : State := s.wrN a (satN 32 (s.rdN a + n))

/-- Counts one in the counter at `a`, saturating. -/
def State.count (s : State) (a : Nat) : State := s.countBy a 1

/-- A 64-bit value held in two registers, low word first. -/
def State.rd64 (s : State) (lo hi : Nat) : Nat := s.rdN lo + 2 ^ 32 * s.rdN hi

/-- Stores a 64-bit value in two registers, low word first. -/
def State.wr64 (s : State) (lo hi n : Nat) : State := (s.wrN lo n).wrN hi (n / 2 ^ 32)

/-- Bit `k` of an array of one-bit flags packed into words. -/
def State.flag (s : State) (arr : Nat → Nat) (k : Nat) : Bool := bitOf (s.rdN (arr (k / 32))) (k % 32)

/-- Sets or clears bit `k` of an array of one-bit flags packed into words. -/
def State.setFlag (s : State) (arr : Nat → Nat) (k : Nat) (b : Bool) : State :=
  s.fput ⟨arr (k / 32), k % 32, 1⟩ (b2n b)

/-- Whether matrix address `a` lies in the Carrel of a physical tile. -/
def inCarrel (a : Nat) : Bool := decide (0x400000000 ≤ a) && decide (a < 0x406400000)

/-- What a byte that is not listed reads as: zero, but for the Carrels after SLEEP, whose contents are undefined (R606). -/
def State.memDefault (s : State) (a : Nat) : Byte := if s.carrelEra != 0 && inCarrel a then Config.freeByte s.carrelEra a else 0#8

/-- The byte of memory at matrix address `a`. -/
def State.ldb (s : State) (a : Nat) : Byte := tget (s.memDefault a) s.mem a

/-- Stores one byte at matrix address `a`. -/
def State.stb (s : State) (a : Nat) (b : Byte) : State := { s with mem := tset (s.memDefault a) s.mem a b }

/-- Every Carrel byte takes the default of era `n`: 0 for zero, else undefined. -/
def State.carrelLose (s : State) (n : Nat) : State := { s with mem := s.mem.filter (fun c => !inCarrel c.1), carrelEra := n }

/-- `n` bytes of memory from `a`. -/
def State.ldBytes (s : State) : Nat → Nat → List Byte
  | _, 0 => []
  | a, n + 1 => s.ldb a :: s.ldBytes (a + 1) n

/-- Stores a byte list from `a` upward. -/
def State.stBytes : State → Nat → List Byte → State
  | s, _, [] => s
  | s, a, b :: rest => (s.stb a b).stBytes (a + 1) rest

/-- An `n`-byte little-endian number from `a`. -/
def State.ldNat (s : State) (a n : Nat) : Nat := leNat (s.ldBytes a n)

/-- Stores `v` as `n` little-endian bytes at `a`. -/
def State.stNat (s : State) (a n v : Nat) : State := s.stBytes a (leBytes n v)

/-- Appends an output. -/
def State.emit (s : State) (o : Out) : State := { s with out := s.out ++ [o] }

/-- Advances the free-value counter: the next use takes a new free value. -/
def State.tick1 (s : State) : State := { s with fresh := s.fresh + 1 }

/-- Does `f` where `c` holds. -/
def State.doIf (s : State) (c : Bool) (f : State → State) : State := if c then f s else s

/-- Runs `f` for every element of a list, in order. -/
def State.forEach {α : Type} (s : State) : List α → (State → α → State) → State
  | [], _ => s
  | x :: rest, f => (f s x).forEach rest f

/-- Clears a register. -/
def State.clr (s : State) (a : Nat) : State := s.wr a 0#32

end Sys2Proof.Machine
end

