-- ==== Sys2Proof/Machine/ArcMap.lean ====
section
/-!
DEFINITION. Machine/ArcMap.lean: the Archive as the controller maps it to pseudo-channels, banks and rows, its bytes, and the log of
its errors (R415 to R418, R433, R438, R439).
-/
namespace Sys2Proof.Machine

/-- Archive offset at which the Archive ends (R415). -/
def archiveEnd : Nat := 0xC00000000

/-- The matrix address of Archive offset 0 (R452). -/
def archiveBase : Nat := 0x1000000000

/-- One byte of the Archive. -/
def State.arcByte (s : State) (off : Nat) : Byte := s.ldb (archiveBase + off)

/-- `n` bytes of the Archive. -/
def State.arcBytes (s : State) (off n : Nat) : List Byte := s.ldBytes (archiveBase + off) n

/-- A little-endian number in the Archive. -/
def State.arcNat (s : State) (off n : Nat) : Nat := leNat (s.arcBytes off n)

/-- Whether unit `u` is uncorrectable where [off, off + n) meets it: words that the accumulation path has written afresh are sound (R250,
R251, R439). -/
def State.badUnit (s : State) (off n u : Nat) : Bool :=
  (List.range 8).any (fun k => decide (off < 32 * u + 4 * k + 4) && decide (32 * u + 4 * k < off + n) && !s.hbm.renewed.contains (8 * u + k))

/-- Whether any 32-byte unit of [off, off + n) reads as uncorrectable (R439). -/
def State.arcPoisoned (s : State) (off n : Nat) : Bool := s.poison.any (fun u => s.badUnit off n u)

/-- The state with unit `u` uncorrectable, words written afresh included. -/
def State.poisonUnit (s : State) (u : Nat) : State :=
  { s with
    poison := if s.poison.contains u then s.poison else s.poison ++ [u]
    hbm := { s.hbm with renewed := s.hbm.renewed.filter (fun k => k / 8 != u) } }

/-! ### Mapping -/

/-- A set of ten masks. -/
def maskSet (f : Nat → Nat) : List Nat := (List.range 10).map (fun k => f k % 2 ^ 29)

/-- The lowest bit that a mask selects; 29 where it selects none (R417). -/
def anchor (m : Nat) : Nat := ((List.range 29).find? (fun j => bitOf m j)).getD 29

/-- Whether a set of masks is valid (R418). -/
def masksValid (ms : List Nat) : Bool := ms.all (fun m => m != 0) && decide ((ms.map anchor).Nodup)

/-- The masks in force. -/
def State.masks (s : State) : List Nat := maskSet (fun k => s.rdN (R.HBMC_MAP k))

/-- Target bit `k` of an Archive offset (R417). -/
def State.targetBit (s : State) (k off : Nat) : Nat := popcount 29 (Nat.land (s.masks.getD k 0) (off / 32 % 2 ^ 29)) % 2

/-- The pseudo-channel of an offset, 0 to 63: 2 (16 stack + channel) + PC (R415, R417). -/
def State.pseudoOf (s : State) (off : Nat) : Nat :=
  let b := fun k => s.targetBit k off
  2 * (16 * b 5 + 8 * b 4 + 4 * b 3 + 2 * b 2 + b 1) + b 0

/-- The bank of an offset within its pseudo-channel: 16 SID + 4 bank group + bank (R415 to R417). -/
def State.bankOf (s : State) (off : Nat) : Nat :=
  let b := fun k => s.targetBit k off
  16 * (off / 2 ^ 34 % 4) + 4 * (2 * b 7 + b 6) + 2 * b 9 + b 8

/-- The address bits, from A[5] up, that are nobody's anchor (R417). -/
def State.plainBits (s : State) : List Nat := (List.range 29).filter (fun j => !(s.masks.map anchor).contains j)

/-- The number that a list of bits of an offset spells, the first the least significant. -/
def gather (off : Nat) : List Nat → Nat
  | [] => 0
  | j :: rest => b2n (bitOf off (j + 5)) + 2 * gather off rest

/-- Column and row of an offset (R417). -/
def State.columnOf (s : State) (off : Nat) : Nat := gather off (s.plainBits.take 5)
def State.rowOf (s : State) (off : Nat) : Nat := gather off ((s.plainBits.drop 5).take 14)

/-- Whether pseudo-channel `p` failed VERIFY (R446). -/
def State.pcFailed (s : State) (p : Nat) : Bool := bitOf (s.rd64 R.HBMC_PC_FAIL_LO R.HBMC_PC_FAIL_HI) p

/-! ### Errors -/

/-- Logs an error of a kind: its offset, class and pseudo-channel; beyond the Archive there is no pseudo-channel, and what that
field shows is open (R416, R448). -/
def State.logArc (s : State) (kind cls off : Nat) : State :=
  let p := if off < archiveEnd then s.pseudoOf off else Config.freeNat s.fresh % 64
  let s1 := (s.wr64 R.HBMC_ERR_ADDR_LO R.HBMC_ERR_ADDR_HI off).wrN R.HBMC_ERR_INFO (kind * 2 ^ 28 + cls * 2 ^ 24 + p)
  if off < archiveEnd then s1 else s1.tick1

/-- Logs a refused request and raises RANGE_ERR (R416, R425, R446). -/
def State.rangeErr (s : State) (kind cls off : Nat) : State := (s.logArc kind cls off).raise F.HBMC_EVENT_RANGE_ERR

/-- Counts, logs and raises the uncorrectable unit at `off` (R439). -/
def State.noteUe (s : State) (cls off : Nat) : State :=
  let n := s.pseudoOf off / 2
  ((s.count (R.HBMC_CH_UE n)).logArc 1 cls off).raise (F.HBMC_CH_EVENT_UE n)

/-- Notes every uncorrectable unit that a read of [off, off + n) touches (R439). -/
def State.noteRead (s : State) (cls off n : Nat) : State :=
  s.forEach (s.poison.filter (fun u => s.badUnit off n u)) (fun w u => w.noteUe cls (32 * u))

/-! ### Writes -/

/-- Writes enabled bytes to the Archive: each partial unit is a read-modify-write, one that reads as uncorrectable is left as it
is and logged, and a unit wholly written is sound afterwards; gives whether every unit was written (R433). -/
def State.arcWrite (s : State) (cls off : Nat) (bs : List (Option Byte)) : State × Bool :=
  let units := if bs.isEmpty then [] else (List.range ((off + bs.length - 1) / 32 + 1 - off / 32)).map (fun k => off / 32 + k)
  let full := fun (u : Nat) => decide (off ≤ 32 * u) && decide (32 * u + 32 ≤ off + bs.length)
    && ((bs.drop (32 * u - off)).take 32).all Option.isSome
  let part := units.filter (fun u => !full u)
  let bad := part.filter (fun u => s.poison.contains u)
  let s1 := s.forEach (bs.zipIdx) (fun w e => match e.1 with
    | some b => if bad.contains ((off + e.2) / 32) then w else w.stb (archiveBase + off + e.2) b
    | none => w)
  let s2 := { s1 with poison := s1.poison.filter (fun u => !(units.contains u && full u)) }
  ((s2.countBy R.HBMC_RMW_COUNT part.length).forEach bad (fun w u => w.logArc 2 cls (32 * u)), bad.isEmpty)

/-- Writes bytes to the Archive in the data class (R433). -/
def State.arcPut (s : State) (off : Nat) (bs : List Byte) : State := (s.arcWrite 1 off (bs.map some)).1

/-- What the accumulation path writes: bytes that lie in an uncorrectable unit are written afresh too, and are sound from then on though
the rest of the unit is not. DESIGN CHOICE (log 202) for that rest (R246, R250, R251). -/
def State.arcRenew (s : State) (off : Nat) (bs : List Byte) : State :=
  let bad := s.poison.filter (fun u => decide (off < 32 * u + 32) && decide (32 * u < off + bs.length)
    && !(decide (off ≤ 32 * u) && decide (32 * u + 32 ≤ off + bs.length)))
  let t := ({ s with poison := s.poison.filter (fun u => !bad.contains u) } : State).arcPut off bs
  let words := bad.flatMap (fun u => ((List.range 8).map (fun k => 8 * u + k)).filter (fun k => decide (off ≤ 4 * k) && decide (4 * k + 4 ≤ off + bs.length)))
  { t with
    poison := s.poison.filter (fun u => t.poison.contains u || bad.contains u)
    hbm := { t.hbm with renewed := t.hbm.renewed ++ words.filter (fun k => !t.hbm.renewed.contains k) } }

/-- Writes an `n`-byte little-endian number to the Archive. -/
def State.arcPutNat (s : State) (off n v : Nat) : State := s.arcPut off (leBytes n v)


end Sys2Proof.Machine
end

