-- ==== Sys2Proof/Machine/Coding.lean ====
section
/-!
DEFINITION. Machine/Coding.lean: the 8b/10b code of IEEE 802.3 clause 36, which R83 names, the CRC-32C of R129, and the test
patterns of R109. A 10-bit group is written with bit a as its most significant bit.
-/
namespace Sys2Proof.Machine

/-! ### CRC-32C -/

/-- One bit step of the reflected CRC-32C division. -/
def crcBit (c : Word) : Word := if c.getLsbD 0 then (c >>> 1) ^^^ 0x82F63B78#32 else c >>> 1

/-- One byte of CRC-32C. -/
def crcByte (c : Word) (b : Byte) : Word :=
  crcBit (crcBit (crcBit (crcBit (crcBit (crcBit (crcBit (crcBit (c ^^^ b.setWidth 32))))))))

/-- The CRC-32C of a byte list (R129). -/
def crc32c (bs : List Byte) : Word := ~~~(bs.foldl crcByte 0xFFFFFFFF#32)

/-! ### 8b/10b -/

/-- Six-bit codes of the 32 low parts for negative running disparity. -/
def code6 : List Nat :=
  [0b100111, 0b011101, 0b101101, 0b110001, 0b110101, 0b101001, 0b011001, 0b111000,
   0b111001, 0b100101, 0b010101, 0b110100, 0b001101, 0b101100, 0b011100, 0b010111,
   0b011011, 0b100011, 0b010011, 0b110010, 0b001011, 0b101010, 0b011010, 0b111010,
   0b110011, 0b100110, 0b010110, 0b110110, 0b001110, 0b101110, 0b011110, 0b101011]

/-- Four-bit codes of the eight high parts for negative running disparity, the primary code for 7. -/
def code4 : List Nat := [0b1011, 0b1001, 0b0101, 0b1100, 0b1101, 0b1010, 0b0110, 0b1110]

/-- The special characters and their ten-bit codes for negative running disparity. -/
def codeK : List (Nat × Nat) :=
  [(0x1C, 0b0011110100), (0x3C, 0b0011111001), (0x5C, 0b0011110101), (0x7C, 0b0011110011),
   (0x9C, 0b0011110010), (0xBC, 0b0011111010), (0xDC, 0b0011110110), (0xFC, 0b0011111000),
   (0xF7, 0b1110101000), (0xFB, 0b1101101000), (0xFD, 0b1011101000), (0xFE, 0b0111101000)]

/-- The six-bit code of the low part `x`, `pos` when the running disparity is positive: complemented there unless it is
balanced, D.07 apart. -/
def enc6 (x : Nat) (pos : Bool) : Nat :=
  let c := code6.getD x 0
  if pos && (popcount 6 c != 3 || x == 7) then 63 - c else c

/-- The four-bit code of the high part `y` after low part `x`; the alternate code of 7 avoids runs of five. -/
def enc4 (x y : Nat) (pos : Bool) : Nat :=
  let alt := y == 7 && (if pos then x == 11 || x == 13 || x == 14 else x == 17 || x == 18 || x == 20)
  let c := if alt then 0b0111 else code4.getD y 0
  if pos && (popcount 4 c != 2 || y == 3) then 15 - c else c

/-- Running disparity after a code of `n` bits: flipped unless the code is balanced. -/
def rdAfter (n c : Nat) (pos : Bool) : Bool := if 2 * popcount n c = n then pos else !pos

/-- The ten-bit code of data byte `b`. -/
def encD (b : Nat) (pos : Bool) : Nat :=
  let c6 := enc6 (b % 32) pos
  c6 * 16 + enc4 (b % 32) (b / 32) (rdAfter 6 c6 pos)

/-- The ten-bit code of special character `k`, where it is one. -/
def encK (k : Nat) (pos : Bool) : Option Nat :=
  match codeK.find? (fun e => e.1 == k) with
  | some e => some (if pos then 1023 - e.2 else e.2)
  | none => none

/-- A received character after decoding (R84, R85): data, one of the listed special characters, an unlisted one, a code
violation or a disparity error. -/
inductive RxChar where
  | data (b : Byte)
  | k285 | k277 | k297 | k280 | k237 | k307
  | kOther
  | violation
  | disparity
  deriving DecidableEq, Repr

/-- The listed special characters of R84 by code byte. -/
def kChar (k : Nat) : RxChar :=
  if k = 0xBC then .k285 else if k = 0xFB then .k277 else if k = 0xFD then .k297
  else if k = 0x1C then .k280 else if k = 0xF7 then .k237 else if k = 0xFE then .k307 else .kOther

/-- Looks a ten-bit group up for one running disparity. -/
def lookup10 (g : Nat) (pos : Bool) : Option RxChar :=
  match (List.range 256).find? (fun b => encD b pos == g) with
  | some b => some (.data (BitVec.ofNat 8 b))
  | none =>
    match codeK.find? (fun e => (if pos then 1023 - e.2 else e.2) == g) with
    | some e => some (kChar e.1)
    | none => none

/-- Decodes a ten-bit group under the running disparity `pos` (R85). -/
def decode10 (g : Nat) (pos : Bool) : RxChar :=
  match lookup10 g pos with
  | some c => c
  | none => if (lookup10 g !pos).isSome then .disparity else .violation

/-- Running disparity after a sub-block `c` of `n` bits, 6 or 4: positive after more ones than zeros and after 000111 or 0011, negative
after the opposite, else unchanged. -/
def subRd (n c : Nat) (pos : Bool) : Bool :=
  if n < 2 * popcount n c then true
  else if 2 * popcount n c < n then false
  else if c = 2 ^ (n / 2) - 1 then true
  else if c = 2 ^ n - 2 ^ (n / 2) then false
  else pos

/-- Running disparity after a group, sub-block by sub-block, whether or not the group is valid. -/
def rd10 (g : Nat) (pos : Bool) : Bool := subRd 4 (g % 16) (subRd 6 (g / 16) pos)

/-! ### Sending -/

/-- A character to send: a data byte, or a special character by its code byte. -/
inductive TxChar where
  | data (b : Nat)
  | special (k : Nat)
  deriving DecidableEq, Repr

/-- The ten-bit group of a character under a running disparity. -/
def TxChar.group (c : TxChar) (pos : Bool) : Nat :=
  match c with
  | .data b => encD b pos
  | .special k => (encK k pos).getD 0

/-- The groups of characters sent one after another, and the running disparity after them (R83). -/
def encodeAll : List TxChar → Bool → List Nat × Bool
  | [], pos => ([], pos)
  | c :: rest, pos =>
    let g := c.group pos
    let r := encodeAll rest (rd10 g pos)
    (g :: r.1, r.2)

/-- The between-frame pair K28.5, K28.0 (R84). -/
def pairChars : List TxChar := [.special 0xBC, .special 0x1C]

/-- A training sequence: TSB or TSA, the rate in use coded 1 to 3, and the sender's FOM (R93). -/
def sequenceChars (tsb : Bool) (rate fom : Nat) : List TxChar :=
  [.special 0xBC, .special 0xF7, .data (if tsb then 0xB5 else 0xA5), .data (2 ^ (rate - 1)), .data (fom % 256)]
    ++ List.replicate 10 (.data 0x4A) ++ [.special 0xF7]

/-- A capability set of flags and body, which `set` holds in that order (R94). -/
def setChars (set : List Byte) : List TxChar :=
  [.special 0xBC, .special 0xF7, .data 0xC3]
    ++ (set ++ leBytes 4 (crc32c (0xC3#8 :: set)).toNat).map (fun b => .data b.toNat)

/-- The characters of a frame between and with its delimiters, K30.7 at the places `errs`, and the pair after it (R89, R92). -/
def frameChars (bytes : List Byte) (errs : List Nat) : List TxChar :=
  .special 0xFB :: bytes.zipIdx.map (fun p => if errs.contains p.2 then .special 0xFE else .data p.1.toNat)
    ++ .special 0xFD :: pairChars

/-- Whether a character is invalid (R85). -/
def RxChar.invalid : RxChar → Bool
  | .kOther => true
  | .violation => true
  | .disparity => true
  | _ => false

/-! ### Test patterns -/

/-- The two feedback taps of PRBS7, 15, 23 and 31, by the code of LANE[n].CTRL.PAT (R109). -/
def prbsTaps (pat : Nat) : Nat × Nat :=
  match pat with
  | 1 => (7, 6)
  | 2 => (15, 14)
  | 3 => (23, 18)
  | _ => (31, 28)

/-- Takes one received pattern bit: the history with the bit shifted in, and whether it differs from the prediction. -/
def prbsBit (pat hist : Nat) (b : Bool) : Nat × Bool :=
  let t := prbsTaps pat
  let want := bitOf hist (t.1 - 1) != bitOf hist (t.2 - 1)
  ((hist * 2 + b2n b) % 2 ^ 31, b != want)

/-- The next `n` bits of a pattern after a history: the new history and the bits as a number, first bit most significant. -/
def prbsNext (pat : Nat) : Nat → Nat → Nat → Nat × Nat
  | 0, hist, acc => (hist, acc)
  | n + 1, hist, acc =>
    let t := prbsTaps pat
    let b := b2n (bitOf hist (t.1 - 1) != bitOf hist (t.2 - 1))
    prbsNext pat n ((hist * 2 + b) % 2 ^ 31) (acc * 2 + b)

/-- Takes the ten bits of a raw group, first bit first; the new history and the number of bits that differ. -/
def prbsGroup (pat : Nat) : Nat → Nat → Nat → Nat × Nat
  | 0, hist, _ => (hist, 0)
  | n + 1, hist, g =>
    let r := prbsBit pat hist (bitOf g n)
    let q := prbsGroup pat n r.1 g
    (q.1, q.2 + b2n r.2)

end Sys2Proof.Machine
end

