-- ==== Sys2Proof/Machine/Spectrum.lean ====
section
/-!
DEFINITION. Machine/Spectrum.lean: the spectrum index, its mapping to device time, pass boundaries, the time-quality word and
SI jumps (R30 to R44, R62, R63, R78).
-/
namespace Sys2Proof.Machine

/-! ### Settings by spectrum index -/

/-- A register file with the words of a list of changes written over it. -/
def overlay (regs : Tab Word) (d : List (Nat × Word)) : Tab Word := d.foldl (fun t e => tset 0#32 t e.1 e.2) regs

/-- The registers that differ from `old` to `new`, each with its new word. -/
def regDiff (old new : Tab Word) : List (Nat × Word) :=
  new.filter (fun e => tget 0#32 old e.1 != e.2)
    ++ (old.filter (fun e => tget 0#32 new e.1 == 0#32 && e.2 != 0#32)).map (fun e => (e.1, 0#32))

/-- The SI of the accession that is scheduled and has not taken effect (R356). -/
def State.accDue (s : State) : Option Nat := if s.fget F.CAT_STATUS_SHADOW = 5 then s.cat.acc.map Prod.fst else none

/-- The state as seen by work on SI `x`, at whatever time a path does that work: an accession's entries act from its SI on, a scheduled
one's included, and below it those it replaced (R15, R362, R363). -/
def State.at (s : State) (x : Nat) : State :=
  { s with regs := if s.accDue.any (fun x0 => decide (x0 ≤ x)) then overlay s.regs s.cat.next
    else s.cat.olds.foldl (fun t e => if x < e.1 then overlay t e.2 else t) s.regs }

/-- The state after an event at SI `x`, where the part of a pending snapshot that names an SI at or below `x` keeps the words that the
event changed: the latch comes first (R16). -/
def State.latchChanged (s t : State) (x : Nat) : State :=
  if s.fbit F.SNAP_STATUS_PENDING && decide (s.rd64 R.SNAP_RESOLVED_SI_LO R.SNAP_RESOLVED_SI_HI ≤ x) then
    { t with snap := { t.snap with early := t.snap.early ++
      (regDiff t.regs s.regs).filter (fun e => !t.snap.early.any (fun f => f.1 == e.1)) } }
  else t

/-! ### The index -/

/-- TIME.SI_NOW as a number (R33). -/
def State.siNow (s : State) : Nat := s.time.siNow.toNat

/-- The SI at which the index ends (R36). -/
def siEnd : Nat := 0xFFFFFFFFFFFFFF80

/-- The unit by which scheduled events take effect: the pass length T of the Catalogue in force, or 128 where T is 0 (R31). -/
def State.passUnit (s : State) : Nat :=
  if s.fget F.ARRAY_GEOM_T = 0 then 128 else s.fget F.ARRAY_GEOM_T

/-- The first multiple of `u` at or after `x` (R32). -/
def roundUp (u x : Nat) : Nat := ceilDiv x u * u

/-- The first pass boundary at or after `x` (R32). -/
def State.boundaryAt (s : State) (x : Nat) : Nat := roundUp s.passUnit x

/-- The first pass boundary greater than TIME.SI_NOW (R33). -/
def State.nextBoundary (s : State) : Nat := (s.siNow / s.passUnit + 1) * s.passUnit

/-- Whether a scheduled event named at `x` is refused: not after TIME.SI_NOW (R33), or beyond the end of the index (R36). -/
def State.siRefused (s : State) (x : Nat) : Bool := decide (x ≤ s.siNow) || decide (siEnd < x)

/-- TIME.SI0 in units of 2^−32 ns. -/
def State.si0 (s : State) : Nat := s.rd64 R.TIME_SI0_NS_LO R.TIME_SI0_NS_HI * 2 ^ 32 + s.rdN R.TIME_SI0_FRAC

/-- TIME.SI_NUM. -/
def State.siNum (s : State) : Nat := s.rd64 R.TIME_SI_NUM_LO R.TIME_SI_NUM_HI

/-- TIME.SI_DEN. -/
def State.siDen (s : State) : Nat := s.rd64 R.TIME_SI_DEN_LO R.TIME_SI_DEN_HI

/-- SI0 + x × NUM / DEN in units of 2^−32 ns: the product exact, the quotient truncated, the sum saturating (R37). -/
def siTime (si0 num den x : Nat) : Nat :=
  let t := si0 + x * num * 2 ^ 32 / den
  if t < 2 ^ 96 then t else 2 ^ 96 - 1

/-- t(x), the device time of the start of spectrum `x`, in units of 2^−32 ns (R37). -/
def State.tOf (s : State) (x : Nat) : Nat := siTime s.si0 s.siNum s.siDen x

/-- Integer nanoseconds of a device time. -/
def nsOf (t : Nat) : Nat := t / 2 ^ 32

/-- Device time now, integer nanoseconds. -/
def State.nowNs (s : State) : Nat := nsOf s.time.now.toNat

/-- The largest x with t(x) ≤ device time: 0 below t(0), saturating at 2^64 − 1 (R69). -/
def State.siExpect (s : State) : Nat :=
  let n := s.time.now.toNat
  if n < s.si0 then 0
  else if s.siNum = 0 then 2 ^ 64 - 1
  else min (2 ^ 64 - 1) (((n - s.si0 + 1) * s.siDen - 1) / (s.siNum * 2 ^ 32))

/-- The deadline of the block that starts at `b`, in units of 2^−32 ns (R34). -/
def State.blockDeadline (s : State) (b : Nat) : Nat :=
  s.tOf (b + 128) + (s.rdN R.TIME_SI_LATENCY + s.rdN R.TIME_SI_TOL) * 2 ^ 32

/-- The deviation d of a frame of first SI `x` that arrived at device time `a` ns (R40). -/
def State.siDeviation (s : State) (x a : Nat) : Int :=
  (a : Int) - ((nsOf (s.tOf (x + 128)) : Int) + (s.rdN R.TIME_SI_LATENCY : Int))

/-- Whether a frame with deviation `d` passes the SI check (R40). -/
def State.siPasses (s : State) (d : Int) : Bool := decide (d.natAbs ≤ s.rdN R.TIME_SI_TOL)

/-! ### The time-quality word -/

/-- FREE_RUN in the time-quality word: the state FREE_RUN, or ACQUIRING before its step (R58, R78). -/
def State.qFree (s : State) : Bool :=
  s.fget F.TIME_STATE_STATE == 0 || (s.fget F.TIME_STATE_STATE == 1 && !s.time.stepped)

/-- The bits of the time-quality word that describe the present moment (R78). LOST does as HOLDOVER and sets LOST (R58). -/
def State.qPresent (s : State) : Nat :=
  b2n s.time.disagree * 0x80 + b2n (s.fbit F.TIME_STATE_SLEWING) * 0x40 + b2n s.qFree * 0x10
    + b2n (s.fget F.TIME_STATE_STATE == 4) * 8
    + b2n (s.fget F.TIME_STATE_STATE == 3 || s.fget F.TIME_STATE_STATE == 4) * 4

/-- Gathers the present bits, and shows them in TIME.QUALITY until the first block has closed (R62, R78). -/
def State.noteQuality (s : State) : State :=
  let s1 := { s with time := { s.time with qAcc := s.time.qAcc ||| s.qPresent } }
  if s.time.blockSeen then s1 else s1.wrN R.TIME_QUALITY s.qPresent

/-- Whether [a, b) takes in an SI of a declared jump (R42, R43). -/
def State.inJump (s : State) (a b : Nat) : Bool :=
  (match s.time.jumpOpen with
   | some f => decide (f < b)
   | none => false)
  || s.time.jumps.any (fun j => decide (j.1 < b) && decide (a < j.2))

/-- The time-quality word of an output of interval [a, b) that draws on the channel slots `own`: the OR over its blocks, with the bits
gathered since the last block closed where the interval goes beyond it, SUSPECT where a contributing frame failed, SI_JUMP under R42
and R43 (R41, R48, R62). -/
def State.quality (s : State) (own : Nat → Bool) (a b : Nat) : Nat :=
  let inside := fun (n : Nat) => decide (a < (n + 1) * 128) && decide (n * 128 < b)
  let base := (s.time.qBlocks.filter (fun e => inside e.1)).foldl (fun w e => w ||| e.2) 0
  let open' := if s.siNow < b then s.time.qAcc ||| s.qPresent else 0
  let sus := s.time.suspects.any (fun e => inside (e.1 / 4096) && own (e.1 % 4096))
  base ||| open' ||| b2n sus ||| (b2n (s.inJump a b) * 2)

/-- Records the word of block number `n`, which has completed or closed, and begins to gather the next block's (R62, R78). -/
def State.qualityBlock (s : State) (n : Nat) : State :=
  { s with time := { s.time with
    qBlocks := tset 0 s.time.qBlocks n (s.time.qAcc ||| s.qPresent), qAcc := s.qPresent, blockSeen := true } }

/-- Shows in TIME.QUALITY the word of the block that ends at TIME.SI_NOW (R78). -/
def State.showQuality (s : State) : State :=
  s.wrN R.TIME_QUALITY (s.quality (fun _ => true) (s.siNow - 128) s.siNow)

/-- An output is time-suspect if SUSPECT, SI_JUMP, FREE_RUN, STEPPED or LOST is set in its word (R63). -/
def timeSuspect (w : Nat) : Bool := (w &&& 0x3B) != 0

/-! ### The SI check and SI jumps -/

/-- Counts and marks a frame of `slot` in block number `n` with deviation `d`, judged under the settings for its SI (R15, R40, R41);
`forceFail` for a frame that R400 treats as failing, which R42 leaves out. -/
def State.siJudgeFrame (s : State) (slot n : Nat) (d : Int) (forceFail : Bool) : State :=
  let ok := (s.at (n * 128)).siPasses d && !forceFail
  let t := tget {} s.time.tallies n
  let t' : Tally := if forceFail then t
    else if ok then { t with pass := t.pass + 1, lastD := d } else { t with fail := t.fail + 1, lastD := d }
  let s1 := { s with time := { s.time with tallies := tset {} s.time.tallies n t' } }
  if ok then { s1 with time := { s1.time with suspectArmed := true } }
  else
    let s2 := (s1.count R.TIME_SI_SUSPECT_COUNT).raiseIf s.time.suspectArmed F.TIME_EVENT_SI_SUSPECT
    { s2 with time := { s2.time with suspectArmed := false, suspects := tset 0 s2.time.suspects (4096 * n + slot) 1 } }

/-- TIME.SI_JUMP_COUNT, at least 1. -/
def State.jumpCount (s : State) : Nat := max 1 (s.rdN R.TIME_SI_JUMP_COUNT % 256)

/-- A failing block of number `n` joins or starts a failing run, and may declare an SI jump (R42). -/
def State.blockFails (s : State) (n : Nat) (d : Int) : State :=
  let run := s.time.failRun + 1
  let first := if s.time.failRun = 0 then n * 128 else s.time.failFirst
  let s1 := { s with time := { s.time with failRun := run, failFirst := first, passRun := 0 } }
  if (s.at (n * 128)).jumpCount ≤ run ∧ s.time.jumpOpen = none then
    let s2 := { s1 with time := { s1.time with jumpOpen := some first } }
    (s2.raise F.TIME_EVENT_SI_JUMP).wrN R.TIME_SI_DEV (fromSigned 32 (satI 32 d))
  else s1

/-- A passing block of number `n` joins or starts a passing run, and may end a declared jump (R43). -/
def State.blockPasses (s : State) (n : Nat) : State :=
  let run := s.time.passRun + 1
  let first := if s.time.passRun = 0 then n * 128 else s.time.passFirst
  let s1 := { s with time := { s.time with passRun := run, passFirst := first, failRun := 0 } }
  match s.time.jumpOpen with
  | some f =>
    if (s.at (n * 128)).jumpCount ≤ run then
      { s1 with time := { s1.time with jumpOpen := none, jumps := s1.time.jumps ++ [(f, first)] } }.raise
        F.TIME_EVENT_SI_RESTORED
    else s1
  | none => s1

/-- Judges block number `n`, every channel block of which has closed (R42): a block with no judged frame is skipped, a mixed
one ends both runs. -/
def State.judgeBlock (s : State) (n : Nat) : State :=
  let t := tget {} s.time.tallies n
  let s0 := { s with time := { s.time with tallies := terase s.time.tallies n } }
  if t.pass = 0 ∧ t.fail = 0 then s0
  else if t.pass = 0 then s0.blockFails n t.lastD
  else if t.fail = 0 then s0.blockPasses n
  else { s0 with time := { s0.time with failRun := 0, passRun := 0 } }

end Sys2Proof.Machine
end

