-- ==== Sys2Proof/Machine/InMap.lean ====
section
/-!
DEFINITION. Machine/InMap.lean: the geometry in force, the mode, the input map and the channel set (R1, R140, R146, R147,
R169 to R171), and the settings that hold for a given SI across an accession (R15).
-/
namespace Sys2Proof.Machine

/-- The mode in force, coded as POWER.STATUS.MODE codes it: 0 SLEEP, 1 HOLD, 2 CORRELATE, 3 BEAMFORM, 4 COMBINED, 5 SELFTEST
(R1, R337, R600). -/
def State.mode (s : State) : Nat := s.fget F.POWER_STATUS_MODE

/-- N, the device's input count. -/
def State.nIn (s : State) : Nat := s.fget F.INGEST_GEOM_INPUTS

/-- K, the number of channel slots. -/
def State.nChan (s : State) : Nat := s.fget F.INGEST_GEOM_CHANNELS

/-- Whether samples are 8 + 8 bits. -/
def State.w8 (s : State) : Bool := s.fbit F.INGEST_GEOM_W8

/-- B, bytes per sample (R139). -/
def State.sampleBytes (s : State) : Nat := if s.w8 then 2 else 1

/-- W, the dwell length. -/
def State.dwell (s : State) : Nat := s.rdN R.INGEST_DWELL % 2 ^ 17

/-- The register at `a` as in force for a sample of SI `x`: an accession's entries act on samples from its SI (R15). -/
def State.rdAt (s : State) (x a : Nat) : Word := (s.at x).rd a

/-- The field `f` as in force for a sample of SI `x`. -/
def State.fgetAt (s : State) (x : Nat) (f : Field) : Nat := extractBits (s.rdAt x f.reg) f.lo f.width

/-- The enabled map entry that holds a stream and a wire group (R146). -/
def State.mapEntry (s : State) (stream group : Nat) : Option Nat :=
  (List.range 256).find? (fun e =>
    s.fbit (F.INGEST_MAP_W1_EN e) && s.fget (F.INGEST_MAP_W0_STREAM e) == stream
      && decide (s.fget (F.INGEST_MAP_W0_GROUP_FIRST e) ≤ group)
      && decide (group < s.fget (F.INGEST_MAP_W0_GROUP_FIRST e) + s.fget (F.INGEST_MAP_W1_GROUP_COUNT e)))

/-- Whether some enabled map entry holds a stream. -/
def State.holdsStream (s : State) (stream : Nat) : Bool :=
  (List.range 256).any (fun e => s.fbit (F.INGEST_MAP_W1_EN e) && s.fget (F.INGEST_MAP_W0_STREAM e) == stream)

/-- The device input of a frame's input 0 under entry `e` (R146). -/
def State.mapInput (s : State) (e group half : Nat) : Nat :=
  s.fget (F.INGEST_MAP_W1_INPUT_FIRST e) + 16 * (group - s.fget (F.INGEST_MAP_W0_GROUP_FIRST e)) + 8 * half

/-- The channel slot of a wire channel, where an enabled range holds it (R147). -/
def State.chanSlot (s : State) (h : Nat) : Option Nat :=
  match (List.range 64).find? (fun r =>
      s.fbit (F.INGEST_CHAN_W1_EN r) && decide (s.fget (F.INGEST_CHAN_W0_WIRE_FIRST r) ≤ h)
        && decide (h < s.fget (F.INGEST_CHAN_W0_WIRE_FIRST r) + s.fget (F.INGEST_CHAN_W1_COUNT r))) with
  | some r => some (s.fget (F.INGEST_CHAN_W1_SLOT_FIRST r) + (h - s.fget (F.INGEST_CHAN_W0_WIRE_FIRST r)))
  | none => none

/-- The number of frames a channel block expects (R140). -/
def State.expectedFrames (s : State) : Nat :=
  ((List.range 256).map (fun e =>
    if s.fbit (F.INGEST_MAP_W1_EN e) then
      (if s.fbit (F.INGEST_MAP_W1_W8 e) then 2 else 1) * s.fget (F.INGEST_MAP_W1_GROUP_COUNT e)
    else 0)).sum

/-- Whether some enabled map entry covers device input `i` (R150). -/
def State.inputMapped (s : State) (i : Nat) : Bool :=
  (List.range 256).any (fun e =>
    s.fbit (F.INGEST_MAP_W1_EN e) && decide (s.fget (F.INGEST_MAP_W1_INPUT_FIRST e) ≤ i)
      && decide (i < s.fget (F.INGEST_MAP_W1_INPUT_FIRST e) + 16 * s.fget (F.INGEST_MAP_W1_GROUP_COUNT e)))

/-- Whether the Catalogue in force gives some tile the correlation role (R144). -/
def State.corrRole (s : State) : Bool := decide (0 < s.fget F.ARRAY_ROLES_CORR)

/-- Whether the Catalogue in force gives some tile or spare position the beam role (R144). -/
def State.beamRole (s : State) : Bool := decide (0 < s.fget F.ARRAY_ROLES_BEAM)

end Sys2Proof.Machine
end

