-- ==== Sys2Proof/Machine/Lanes.lean ====
section
/-!
DEFINITION. Machine/Lanes.lean: the bring-up states, training, capability sets, characters, adaptation and test modes of the
192 lanes (R79 to R126). Lane states are coded as LANE[n].STATE.STATE codes them: 0 OFF, 1 DETECT, 2 TRAIN, 3 LOCK,
4 EXCHANGE, 5 ACTIVE, 6 PATTERN.
-/
namespace Sys2Proof.Machine

/-- The lane beside its registers. -/
def State.lane (s : State) (n : Nat) : LaneSt := tget {} s.lanes n

/-- Changes the lane beside its registers. -/
def State.laneMod (s : State) (n : Nat) (f : LaneSt → LaneSt) : State := { s with lanes := tmod {} s.lanes n f }

/-- LANE[n].STATE.STATE. -/
def State.laneState (s : State) (n : Nat) : Nat := s.fget (F.LANE_STATE_STATE n)

/-- The quire of lane `n` (R79). -/
def quireOf (n : Nat) : Nat := n / 8

/-! ### Rates -/

/-- LANE[n].CFG.RATE_EN, 000b taken as 111b (R115). -/
def State.rateEn (s : State) (n : Nat) : Nat :=
  if s.fget (F.LANE_CFG_RATE_EN n) = 0 then 7 else s.fget (F.LANE_CFG_RATE_EN n)

/-- The highest rate, 1 to 3, in a three-bit set; 0 for none. -/
def highest3 (m : Nat) : Nat := if bitOf m 2 then 3 else if bitOf m 1 then 2 else if bitOf m 0 then 1 else 0

/-- The start rate of lane `n` (R103). -/
def State.startRate (s : State) (n : Nat) : Nat :=
  let c := s.fget (F.LANE_CFG_START_RATE n)
  if c ≠ 0 ∧ bitOf (s.rateEn n) (c - 1) then c else highest3 (s.rateEn n)

/-- The next lower enabled rate, or from the lowest the highest (R103). -/
def State.nextRate (s : State) (n r : Nat) : Nat :=
  let lower := highest3 (s.rateEn n % 2 ^ (r - 1))
  if lower = 0 then highest3 (s.rateEn n) else lower

/-! ### Leaving and entering states -/

/-- Passes a frame to the quire: into the receive buffer of two, or discarded and counted (R21, R82). -/
def State.laneDeliver (s : State) (n : Nat) (f : RxFrame) : State :=
  if (s.lane n).rx.length < 2 then
    (s.laneMod n (fun l => { l with rx := l.rx ++ [f], frame := none })).count (R.LANE_RX_FRAMES n)
  else (s.laneMod n (fun l => { l with frame := none })).count (R.LANE_RX_DROP n)

/-- Closes an open frame as BAD (R87, R91, R104). -/
def State.closeBad (s : State) (n : Nat) : State :=
  match (s.lane n).frame with
  | some f => s.laneDeliver n { f with bad := true }
  | none => s

/-- Lane or port `n` sends characters, once or again and again until its next output (R83). -/
def State.send (s : State) (n : Nat) (cs : List TxChar) (again : Bool) : State :=
  let r := encodeAll cs (s.lane n).txPos
  (s.laneMod n (fun l => { l with txPos := r.2 })).emit (.line n r.1 again)

/-- Aborts an egress frame in progress: K30.7, K29.7, counted and not resent (R112). -/
def State.txAbort (s : State) (n : Nat) : State :=
  match (s.lane n).tx with
  | some _ =>
    (((s.laneMod n (fun l => { l with tx := none })).count (R.LANE_TX_ABORT n)).emit (.abort n)).send n [.special 0xFE, .special 0xFD] false
  | none => s

/-- Lane `n` sends its training sequence with its current FOM (R93). -/
def State.sendSequence (s : State) (n : Nat) (tsb : Bool) : State :=
  s.send n (sequenceChars tsb (s.lane n).rate (s.fget (F.LANE_FOM_FOM n))) true

/-- Refreshes the ACTIVE bit of the lane's quire (R126). -/
def State.quireMirror (s : State) (n : Nat) (b : Bool) : State :=
  s.fput ⟨R.QUIRE_STATUS (quireOf n), 8 + n % 8, 1⟩ (b2n b)

/-- What leaving ACTIVE does; `cat` for an exit that the Catalogue causes, which raises no ACTIVE_LOSS (R102, R113). -/
def State.leaveActive (s : State) (n : Nat) (cat : Bool) : State :=
  if s.laneState n = 5 then
    ((((s.closeBad n).txAbort n).quireMirror n false).fput (F.LANE_STATE_EGRESS_OK n) 0).raiseIf (!cat)
      (F.LANE_EVENT_ACTIVE_LOSS n)
  else s

/-- Puts the lane in state `st`, raising STATE where it differs; HOLDING and PAT_LOCK go with the state they belong to. -/
def State.laneSet (s : State) (n st : Nat) : State :=
  let s1 := (s.fput (F.LANE_STATE_STATE n) st).raiseIf (s.laneState n != st) (F.LANE_EVENT_STATE n)
  (s1.fput (F.LANE_STATE_HOLDING n) 0).fput (F.LANE_STATE_PAT_LOCK n) 0

/-- Clears bit and symbol lock. -/
def State.dropLocks (s : State) (n : Nat) : State :=
  (s.fput (F.LANE_STATE_BIT_LOCK n) 0).fput (F.LANE_STATE_SYM_LOCK n) 0

/-- Enters OFF; what is sent next starts with negative running disparity (R83). -/
def State.enterOff (s : State) (n : Nat) (cat : Bool) : State :=
  (((((s.leaveActive n cat).dropLocks n).fput (F.LANE_STATE_UIP n) 0).fput (F.LANE_STATE_RATE n) 0).laneSet n 0).laneMod n
    (fun l => { l with txPos := false })

/-- Enters DETECT: the recorded partner set clears (R125) and a detection pulse is sent (R102). -/
def State.enterDetect (s : State) (n : Nat) (cat : Bool) : State :=
  let s1 := (((s.leaveActive n cat).dropLocks n).fput (F.LANE_STATE_UIP n) 0).fput (F.LANE_STATE_RATE n) 0
  let s2 := (s1.forEach [0, 1, 2, 3, 4, 5] (fun u k => u.clr (R.LANE_PCAP n k))).clr (R.LANE_PCAP_FLAGS n)
  ((s2.laneSet n 1).laneMod n (fun l => { l with txPos := false })).emit (.detectPulse n)

/-- Enters TRAIN at rate `r`, sending TSA, after a change of rate with negative running disparity; counts the entry and clears RETRAIN
(R83, R102, R116). -/
def State.enterTrain (s : State) (n r : Nat) (cat : Bool) : State :=
  let s1 := ((s.leaveActive n cat).dropLocks n).laneSet n 2
  let s2 := (s1.count (R.LANE_TRAIN_COUNT n)).fput (F.LANE_CTRL_RETRAIN n) 0
  (s2.laneMod n (fun l => { l with
    rate := r, tsb := false, tsaRun := 0, tsbRun := 0, commas := 0, rdPos := false, txPos := l.txPos && r == l.rate })).sendSequence n false

/-- Enters LOCK, sending TSB; `keep` where symbol lock still holds. -/
def State.enterLock (s : State) (n : Nat) (keep cat : Bool) : State :=
  let s1 := (s.leaveActive n cat).laneSet n 3
  ((if keep then s1 else s1.fput (F.LANE_STATE_SYM_LOCK n) 0).laneMod n
    (fun l => { l with tsaRun := 0, tsbRun := 0, commas := 0 })).sendSequence n true

/-- The capability set that the lane sends: flags and body (R96, R105). -/
def State.ownSet (s : State) (n : Nat) : List Byte :=
  let t := s.fget (F.LANE_CFG_TX_STREAM n)
  let simplex := s.fbit (F.LANE_CFG_SIMPLEX_TX n)
  let flags := b2n ((s.lane n).acked || simplex) + 2 * b2n simplex
  leBytes 1 flags ++ leBytes 1 (s.fget (F.LANE_CFG_UIP_EN n)) ++ leBytes 1 (s.rateEn n)
    ++ leBytes 1 (if t = 0 then 0 else 4) ++ leBytes 1 0 ++ leBytes 4 (s.rdN R.DEVICE_ID)
    ++ leBytes 2 (s.fget (F.LANE_IDENT_GROUP n)) ++ leBytes 1 (s.fget (F.LANE_IDENT_LANE_INDEX n))
    ++ leBytes 1 (s.fget (F.LANE_IDENT_LANE_COUNT n)) ++ leBytes 2 t ++ leBytes 2 (if t = 0 then 0 else 1)
    ++ leBytes 8 0

/-- Enters EXCHANGE: 16 further TSB, but on a transmit-only lane, and then capability sets (R102, R105). -/
def State.enterExchange (s : State) (n : Nat) : State :=
  let s1 := (s.laneSet n 4).laneMod n (fun l => { l with lastSet := [], setRun := 0, ackRun := 0, acked := false, tsaRun := 0, tsbRun := 0 })
  let tsb := sequenceChars true (s.lane n).rate (s.fget (F.LANE_FOM_FOM n))
  let s2 := if s.fbit (F.LANE_CFG_SIMPLEX_TX n) then s1 else s1.send n (List.replicate 16 tsb).flatten false
  s2.send n (setChars (s2.ownSet n)) true

/-! ### Egress on the transmit half -/

/-- The partner's DIRECTIONS[1], from the recorded set (R95, R111). -/
def State.partnerAccepts (s : State) (n : Nat) : Bool := bitOf (s.rdN (R.LANE_PCAP n 0)) 17

/-- Whether the lane may carry egress frames (R111). -/
def State.egressOk (s : State) (n : Nat) : Bool :=
  s.laneState n == 5 && s.fget (F.LANE_CFG_TX_STREAM n) != 0
    && (s.partnerAccepts n || s.fbit (F.LANE_CFG_SIMPLEX_TX n))

/-- Whether UIP version `v` carries egress type `typ` (R133). -/
def versionHas (v typ : Nat) : Bool :=
  if typ = 0x42 ∨ typ = 0x50 then decide (2 ≤ v) else decide (1 ≤ v)

/-- Whether the lane's TX_STREAM is named by the route of a frame type that its version lacks (R134). -/
def State.routeLacked (s : State) (n : Nat) : Bool :=
  let t := s.fget (F.LANE_CFG_TX_STREAM n)
  let v := s.fget (F.LANE_STATE_UIP n)
  t != 0 && ((s.fget F.BEAM_ROUTE_CSTREAM == t && !versionHas v 0x42)
    || (s.fbit F.ACCUM_ROUTE_EGRESS && s.fget F.ACCUM_ROUTE_STREAM == t && !versionHas v 0x50))

/-- The conditions that refuse egress on the lane: that of R111, the partner's, and that of R134, the version's. -/
def State.egressRefused (s : State) (n : Nat) : Bool × Bool :=
  let on := s.laneState n == 5 && s.fget (F.LANE_CFG_TX_STREAM n) != 0
  (on && !s.egressOk n, on && s.routeLacked n)

/-- Raises EGRESS_REFUSED where the lane has entered either condition, `was` being how they stood (R111, R134). -/
def State.noteRefused (s : State) (n : Nat) (was : Bool × Bool) : State :=
  let is := s.egressRefused n
  s.raiseIf ((is.1 && !was.1) || (is.2 && !was.2)) (F.LANE_EVENT_EGRESS_REFUSED n)

/-- Enters ACTIVE with UIP version `v` at rate `r`: the results are recorded, RATE_DOWN and EGRESS_REFUSED raised where they
apply; 8 further capability sets are sent, but on a transmit-only lane, and then pairs (R97, R100, R101, R105, R111, R134). -/
def State.enterActive (s : State) (n v r : Nat) : State :=
  let s1 := ((s.fput (F.LANE_STATE_UIP n) v).fput (F.LANE_STATE_RATE n) r).laneSet n 5
  let s2 := (s1.quireMirror n true).laneMod n
    (fun l => { l with frame := none, pairHalf := false, tsaRun := 0, tsbRun := 0, rate := r })
  let s3 := s2.raiseIf (decide (r < highest3 (s.rateEn n)) && !s.fbit (F.LANE_CFG_SIMPLEX_TX n)) (F.LANE_EVENT_RATE_DOWN n)
  let s4 := (s3.fput (F.LANE_STATE_EGRESS_OK n) (b2n (s3.egressOk n))).noteRefused n (false, false)
  let s5 := if s.fbit (F.LANE_CFG_SIMPLEX_TX n) then s4 else s4.send n (List.replicate 8 (setChars (s4.ownSet n))).flatten false
  s5.send n pairChars true

/-! ### Capability sets -/

/-- Byte `k` of a set's body, as a number. -/
def bodyByte (body : List Byte) (k : Nat) : Nat := (body.getD k 0).toNat

/-- Two bytes of a set's body. -/
def bodyHalf (body : List Byte) (k : Nat) : Nat := bodyByte body k + 256 * bodyByte body (k + 1)

/-- The common UIP version: the highest in both sets, 0 for none (R97). -/
def State.commonVersion (s : State) (n : Nat) (body : List Byte) : Nat :=
  highest3 (bodyByte body 0 &&& s.fget (F.LANE_CFG_UIP_EN n))

/-- The common rate: the highest in both sets, 0 for none (R97). -/
def State.commonRate (s : State) (n : Nat) (body : List Byte) : Nat :=
  highest3 (bodyByte body 1 &&& s.rateEn n)

/-- The partner's identity differs from LANE[n].EXPECT (R99). -/
def State.identMismatch (s : State) (n : Nat) (body : List Byte) : Bool :=
  s.fget (F.LANE_EXPECT_GROUP n) != 0xFFFF
    && (bodyHalf body 8 != s.fget (F.LANE_EXPECT_GROUP n) || bodyByte body 10 != s.fget (F.LANE_EXPECT_LANE_INDEX n))

/-- The partner declares a stream or channel that the input map in force does not hold (R99). -/
def State.streamMismatch (s : State) (body : List Byte) : Bool :=
  (List.range (bodyHalf body 14)).any (fun k => !s.holdsStream (bodyHalf body 12 + k))
    || (List.range (bodyHalf body 18)).any (fun k => (s.chanSlot (bodyHalf body 16 + k)).isNone)

/-- Whether a partner's set holds the lane in EXCHANGE (R98, R99). -/
def State.setHolds (s : State) (n : Nat) (body : List Byte) : Bool :=
  s.commonVersion n body == 0 || s.commonRate n body == 0
    || (s.fbit (F.LANE_CFG_STRICT n) && (s.identMismatch n body || s.streamMismatch body))

/-- Judges the partner's set: its mismatches are raised, and HOLDING shows whether it holds the lane (R97 to R99). -/
def State.judgeSet (s : State) (n : Nat) (body : List Byte) : State :=
  (((s.raiseIf (s.commonVersion n body == 0 || s.commonRate n body == 0) (F.LANE_EVENT_NO_COMMON n)).raiseIf (s.identMismatch n body)
    (F.LANE_EVENT_IDENT_MISMATCH n)).raiseIf (s.streamMismatch body) (F.LANE_EVENT_STREAM_MISMATCH n)).fput (F.LANE_STATE_HOLDING n)
    (b2n (s.setHolds n body))

/-- Ends EXCHANGE when the partner's four identical acknowledged sets are in: the lane is held, leaves for ACTIVE, or goes to TRAIN
at the negotiated rate (R97 to R100, R102). -/
def State.exchangeDone (s : State) (n : Nat) (body : List Byte) : State :=
  let v := s.commonVersion n body
  let r := s.commonRate n body
  let s1 := s.judgeSet n body
  if s.setHolds n body then s1
  else if r = (s.lane n).rate then s1.enterActive n v r
  else ((s1.fput (F.LANE_STATE_UIP n) v).fput (F.LANE_STATE_RATE n) r).enterTrain n r false

/-- Records a valid set in PCAP, PCAP_FLAGS and PARTNER_SIMPLEX (R94, R125). -/
def State.recordSet (s : State) (n : Nat) (flags : Byte) (body : List Byte) : State :=
  ((s.forEach [0, 1, 2, 3, 4, 5] (fun u k => u.wrN (R.LANE_PCAP n k) (leNat ((body.drop (4 * k)).take 4)))).wrN
    (R.LANE_PCAP_FLAGS n) flags.toNat).fput (F.LANE_STATE_PARTNER_SIMPLEX n) (b2n (flags.getLsbD 1))

/-- Takes a valid set in EXCHANGE: identical sets in a row are counted; four let the lane's own sets carry ACK, and four with ACK = 1
are judged. A held lane judges again whenever the partner's set changes (R96, R98, R102). -/
def State.takeSet (s : State) (n : Nat) (flags : Byte) (body : List Byte) : State :=
  let l := s.lane n
  let ack := flags.getLsbD 0
  let same := l.lastSet == flags :: body
  let run := if same then l.setRun + 1 else 1
  let ackRun := if ack then (if same then l.ackRun + 1 else 1) else 0
  let s1 := (s.recordSet n flags body).laneMod n
    (fun l => { l with lastSet := flags :: body, setRun := run, ackRun := ackRun, acked := l.acked || decide (4 ≤ run) })
  let s2 := if (s1.lane n).acked && !l.acked then s1.send n (setChars (s1.ownSet n)) true else s1
  let s3 := if s.fbit (F.LANE_STATE_HOLDING n) && l.lastSet.drop 1 != body then s2.judgeSet n body else s2
  if ackRun = 4 then s3.exchangeDone n body else s3

/-! ### Characters -/

/-- Takes an invalid character: counted by kind, and the sixteenth within 4,096 drops symbol lock (R85, R104). -/
def State.invalidChar (s : State) (n : Nat) (c : RxChar) : State :=
  let a := match c with
    | .violation => R.LANE_CODE_ERR n
    | .disparity => R.LANE_DISP_ERR n
    | _ => R.LANE_K_ERR n
  let l := s.lane n
  let recent := (l.invalids.filter (fun k => decide (l.chars < k + 4096))) ++ [l.chars]
  let s1 := (s.count a).laneMod n (fun l =>
    { l with invalids := recent, frame := l.frame.map (fun f => { f with bad := true }) })
  if 16 ≤ recent.length ∧ (s.laneState n = 4 ∨ s.laneState n = 5) then
    (s1.enterLock n false false).laneMod n (fun l => { l with invalids := [] })
  else s1

/-- Takes the characters of a whole sequence or set, `len` of them, with its invalid ones: 0 a code violation, 1 a disparity error, 2 an
unlisted special character (R85, R104). -/
def State.takeErrs (s : State) (n len : Nat) (errs : List (Fin 3)) : State :=
  (s.laneMod n (fun l => { l with chars := l.chars + len })).forEach errs (fun u e =>
    u.invalidChar n (if e.val = 0 then .violation else if e.val = 1 then .disparity else .kOther))

/-- Counts a K30.7 (R88). -/
def State.errProp (s : State) (n : Nat) : State :=
  (s.count (R.LANE_ERRPROP_COUNT n)).raise (F.LANE_EVENT_ERRPROP n)

/-- Completes a between-frame pair; a waiting compensation deletes or inserts a whole pair (R90). -/
def State.pairDone (s : State) (n : Nat) : State :=
  let s1 := match (s.lane n).cc with
    | 1 => s.count (R.LANE_CC_DELETE n)
    | 2 => s.count (R.LANE_CC_INSERT n)
    | _ => s
  s1.laneMod n (fun l => { l with pairHalf := false, cc := 0 })

/-- A character outside a frame, in a state that counts strays; `frames` where K27.7 opens a frame (R86, R88). -/
def State.outsideChar (s : State) (n : Nat) (c : RxChar) (frames : Bool) : State :=
  let half := (s.lane n).pairHalf
  let s0 := (s.doIf (half && c != .k280) (fun u => u.count (R.LANE_STRAY n))).laneMod n (fun l => { l with pairHalf := false })
  match c with
  | .k285 => s0.laneMod n (fun l => { l with pairHalf := true })
  | .k280 => if half then s0.pairDone n else s0.count (R.LANE_STRAY n)
  | .k277 => if frames then s0.laneMod n (fun l => { l with frame := some {} }) else s0.count (R.LANE_STRAY n)
  | .k307 => (s0.count (R.LANE_STRAY n)).errProp n
  | _ => if c.invalid then (s0.count (R.LANE_STRAY n)).invalidChar n c else s0.count (R.LANE_STRAY n)

/-- A character between K27.7 and K29.7 (R86, R87); the K29.7 itself closes the frame in FRAME_RECEIVE. -/
def State.insideChar (s : State) (n : Nat) (c : RxChar) : State :=
  let mark := fun (u : State) => u.laneMod n (fun l => { l with frame := l.frame.map (fun f => { f with bad := true }) })
  match c with
  | .data b => s.laneMod n (fun l => { l with frame := l.frame.map (fun f => { f with bytes := f.bytes ++ [b] }) })
  | .k277 => (s.closeBad n).laneMod n (fun l => { l with frame := some {} })
  | .k297 => s
  | .k307 => (mark s).errProp n
  | .k285 => mark s
  | .k280 => mark s
  | .k237 => mark s
  | _ => s.invalidChar n c

/-- Closes a frame that has had no K29.7 within 4,096 characters of its K27.7 as BAD, and counts it (R87). -/
def State.runaway (s : State) (n : Nat) : State :=
  match (s.lane n).frame with
  | some f => if 4096 ≤ f.len then (s.closeBad n).count (R.LANE_RUNAWAY n) else s
  | none => s

/-- One character inside a frame, after any runaway before it (R86, R87). -/
def State.frameChar (s : State) (n : Nat) (c : RxChar) : State :=
  let s1 := s.runaway n
  if (s1.lane n).frame.isNone then s1.outsideChar n c true
  else (s1.laneMod n (fun l => { l with frame := l.frame.map (fun f => { f with len := f.len + b2n (c != .k297) }) })).insideChar n c

/-- A raw group in PATTERN with the checker running: bit errors are counted, and a group without one aligns it (R109). -/
def State.patternGroup (s : State) (n g : Nat) : State :=
  let pat := s.fget (F.LANE_CTRL_PAT n)
  let r := prbsGroup pat 10 (s.lane n).prbs g
  let s1 := s.laneMod n (fun l => { l with prbs := r.1 })
  if s.fbit (F.LANE_STATE_PAT_LOCK n) then s1.countBy (R.LANE_PAT_ERR n) r.2
  else if r.2 = 0 then s1.fput (F.LANE_STATE_PAT_LOCK n) 1 else s1

/-- The pattern selected on lane `n`, 1 to 4; 0 for none (R109, R116). -/
def State.pattern (s : State) (n : Nat) : Nat := if s.fget (F.LANE_CTRL_PAT n) ≤ 4 then s.fget (F.LANE_CTRL_PAT n) else 0

/-- One character time of lane `n` in PATTERN, with `g` at its RX balls: a far-end loop sends it back, else the selected pattern goes out as
raw groups; a near-end or parallel loop lets the receiver take what the lane sends, and the checker runs on what it takes (R109). -/
def State.patternTime (s : State) (n g : Nat) : State :=
  let loop := s.fget (F.LANE_CTRL_LOOP n)
  let r := prbsNext (s.pattern n) 10 (s.lane n).txPrbs 0
  let gen := decide (loop ≠ 2 ∧ s.pattern n ≠ 0)
  let out := if gen then r.2 else g
  let s1 := if gen then s.laneMod n (fun l => { l with txPrbs := r.1 }) else s
  let s2 := if gen || loop == 2 then s1.emit (.line n [out] false) else s1
  if s.fbit (F.LANE_CTRL_PAT_CHK n) && s.pattern n != 0 then s2.patternGroup n (if loop = 1 ∨ loop = 3 then out else g) else s2

/-- Receives one ten-bit group on lane `n`; `mark` tells which mark the elastic buffer has crossed: 1 upper, 2 lower. A character received
so is part of no training sequence, and ends a run of them. -/
def State.receiveGroup (s : State) (n g mark : Nat) : State :=
  let st := s.laneState n
  let l := s.lane n
  let c := decode10 g l.rdPos
  let s1 := s.laneMod n (fun l => { l with
    rdPos := rd10 g l.rdPos, chars := l.chars + 1, cc := if mark = 0 then l.cc else mark, tsaRun := 0, tsbRun := 0 })
  if st = 6 then s.patternTime n g
  else if s.fbit (F.LANE_CFG_SIMPLEX_TX n) then s
  else if st = 5 then (if l.frame.isSome then s1.frameChar n c else s1.outsideChar n c true)
  else if st = 4 ∨ (st = 3 ∧ s.fbit (F.LANE_STATE_SYM_LOCK n)) then s1.outsideChar n c false
  else if st = 3 ∧ s.fbit (F.LANE_STATE_BIT_LOCK n) ∧ c = .k285 then
    let k := l.commas + 1
    (s1.laneMod n (fun l => { l with commas := k })).doIf (decide (3 ≤ k)) (fun u => u.fput (F.LANE_STATE_SYM_LOCK n) 1)
  else s

/-! ### Commands -/

/-- QUIRE_PLL_LOSS: the quire's eight lanes go to OFF, each raising PLL_LOSS (R81). -/
def execQuirePllLoss (q : Fin 24) (s : State) : Host.Outcome State Fault Refusal :=
  .next (if s.fbit (F.QUIRE_STATUS_PLL_LOCK q.val) then
      ((s.fput (F.QUIRE_STATUS_PLL_LOCK q.val) 0).count (R.QUIRE_PLL_LOSS_COUNT q.val)).forEach (List.range 8)
        (fun u k => (u.enterOff (8 * q.val + k) false).raise (F.LANE_EVENT_PLL_LOSS (8 * q.val + k)))
    else s)

/-- Lanes of quire `q` that LANE[n].CFG.EN enables. -/
def State.enabledLanes (s : State) (q : Nat) : List Nat :=
  ((List.range 8).map (fun k => 8 * q + k)).filter (fun n => s.fbit (F.LANE_CFG_EN n))

/-- QUIRE_PLL_LOCK: the PLL has held lock for 1 ms; each enabled lane in OFF enters DETECT unless the device sleeps (R81, R102). -/
def execQuirePllLock (q : Fin 24) (s : State) : Host.Outcome State Fault Refusal :=
  .next (if (s.enabledLanes q.val).isEmpty || s.mode == 0 then s
    else (s.fput (F.QUIRE_STATUS_PLL_LOCK q.val) 1).forEach (s.enabledLanes q.val)
      (fun u n => if u.laneState n = 0 then u.enterDetect n false else u))

/-- For a lane: the lane sends a receiver-detection pulse (R102). -/
def State.laneDetectPulse (s : State) (n : Nat) : State :=
  (if s.laneState n = 1 then s.emit (.detectPulse n) else s)

/-- For a lane: a receiver is detected and signal has been present for 100 µs (R102); a simplex lane leaves on receiver
detection alone (R105). -/
def State.laneDetectExit (s : State) (n : Nat) : State :=
  (if s.laneState n = 1 then s.enterTrain n (s.startRate n) false else s)

/-- Records the lane's own FOM, arming MARGIN again at MARGIN + HYST (R106, R108). -/
def State.setFom (s : State) (n : Nat) (fom : Byte) : State :=
  (s.fput (F.LANE_FOM_FOM n) fom.toNat).laneMod n (fun l =>
    { l with marginOff := (l.marginOff
        && !decide (s.fget (F.LANE_FOM_CFG_MARGIN n) + s.fget (F.LANE_FOM_CFG_HYST n) ≤ fom.toNat)) })

/-- For a lane: the FOM in TRAIN is now `fom`; where it has held at ADAPT_MIN or above for 1 ms, the lane sends TSB (R102, R106). -/
def State.laneTsbSwitch (s : State) (n : Nat) (fom : Byte) : State :=
  (if s.laneState n = 2 ∧ s.fbit (F.LANE_CFG_SIMPLEX_TX n) = false then
      let s1 := s.setFom n fom
      if s.fget (F.LANE_FOM_CFG_ADAPT_MIN n) ≤ fom.toNat then (s1.laneMod n (fun l => { l with tsb := true })).sendSequence n true else s1
    else s)

/-- For a lane: TSB has been sent for 1 µs; the lane enters LOCK (R102). -/
def State.laneTrainDone (s : State) (n : Nat) : State :=
  (if s.laneState n = 2 ∧ (s.lane n).tsb ∧ s.fbit (F.LANE_CFG_SIMPLEX_TX n) = false then
      (s.enterLock n false false).fput (F.LANE_STATE_BIT_LOCK n) 0
    else s)

/-- For a lane: TRAIN at the next lower enabled rate, wrapping to the highest; TRAIN_FAIL on return to the start rate (R103). -/
def State.laneTrainTimeout (s : State) (n : Nat) : State :=
  (if s.laneState n = 2 ∧ s.fbit (F.LANE_CFG_SIMPLEX_TX n) = false then
      let r := s.nextRate n (s.lane n).rate
      (s.enterTrain n r false).raiseIf (r == s.startRate n) (F.LANE_EVENT_TRAIN_FAIL n)
    else s)

/-- For a lane: TRAIN at the same rate, raising LOCK_FAIL (R102). -/
def State.laneLockTimeout (s : State) (n : Nat) : State :=
  (if s.laneState n = 3 then
      (s.enterTrain n (s.lane n).rate false).raise (F.LANE_EVENT_LOCK_FAIL n)
    else s)

/-- EXCH_TIMEOUT: TRAIN at the same rate, raising EXCH_FAIL; a held lane has no timeout (R102). -/
def execExchTimeout (n : Fin 192) (s : State) : Host.Outcome State Fault Refusal :=
  .next (if s.laneState n.val = 4 ∧ s.fbit (F.LANE_STATE_HOLDING n.val) = false
        ∧ s.fbit (F.LANE_CFG_SIMPLEX_TX n.val) = false then
      (s.enterTrain n.val (s.lane n.val).rate false).raise (F.LANE_EVENT_EXCH_FAIL n.val)
    else s)

/-- A training sequence in LOCK: commas toward symbol lock, then TSB toward the eight that end LOCK (R102). -/
def State.lockSequence (s : State) (n : Nat) (tsb : Bool) : State :=
  if s.fbit (F.LANE_STATE_SYM_LOCK n) then
    let k := if tsb then (s.lane n).tsbRun + 1 else 0
    if 8 ≤ k then s.enterExchange n else s.laneMod n (fun l => { l with tsbRun := k })
  else if s.fbit (F.LANE_STATE_BIT_LOCK n) then
    let k := (s.lane n).commas + 1
    (s.laneMod n (fun l => { l with commas := k })).doIf (decide (3 ≤ k)) (fun u => u.fput (F.LANE_STATE_SYM_LOCK n) 1)
  else s

/-- For a lane: a received TSA or TSB with the partner's FOM and its invalid characters; an error-free TSB counts toward leaving LOCK,
and two in a row force a lane out of EXCHANGE or ACTIVE (R93, R102, R104). -/
def State.laneTrainingSequence (s : State) (n : Nat) (tsb : Bool) (fom : Byte) (errs : List (Fin 3)) : State :=
  (
    let st := s.laneState n
    let s0 := if s.fbit (F.LANE_STATE_SYM_LOCK n) then s.takeErrs n 16 errs else s
    if s.fbit (F.LANE_CFG_SIMPLEX_TX n) || !(st == 3 || st == 4 || st == 5) then s
    else if s0.laneState n ≠ st then s0
    else
      let s1 := if s.fbit (F.LANE_STATE_SYM_LOCK n) then s0.fput (F.LANE_FOM_PARTNER n) fom.toNat else s0
      if st = 3 then s1.lockSequence n (tsb && errs.isEmpty)
      else
        let l := s.lane n
        let a := if tsb then 0 else l.tsaRun + 1
        let b := if tsb then l.tsbRun + 1 else 0
        let s2 := s1.laneMod n (fun l => { l with tsaRun := a, tsbRun := b })
        if 2 ≤ a then s2.enterTrain n l.rate false
        else if 2 ≤ b ∧ st = 5 then s2.enterLock n true false
        else s2)

/-- CAPABILITY_SET: a received set of flags, body and check word with its invalid characters; a valid one counts in EXCHANGE and is
ignored in ACTIVE; it ends a run of training sequences (R85, R94, R101, R104). DESIGN CHOICE (log 212): one received in LOCK is ignored
too, as in every state but EXCHANGE (R114, R125). -/
def execCapabilitySet (n : Fin 192) (flags : Byte) (body : List Byte) (crc : Word) (errs : List (Fin 3)) (s : State) :
    Host.Outcome State Fault Refusal :=
  let st := s.laneState n.val
  let s0 := (s.takeErrs n.val 32 errs).laneMod n.val (fun l => { l with tsaRun := 0, tsbRun := 0 })
  .next (if s.fbit (F.LANE_CFG_SIMPLEX_TX n.val) || !(st == 4 || st == 5 || (st == 3 && s.fbit (F.LANE_STATE_SYM_LOCK n.val))) then s
    else if st ≠ 4 ∨ s0.laneState n.val ≠ 4 then s0
    else if errs.isEmpty && body.length == 24 && crc32c (0xC3#8 :: flags :: body) == crc then s0.takeSet n.val flags body
    else s0.laneMod n.val (fun l => { l with lastSet := [], setRun := 0, ackRun := 0 }))

/-- For a lane: one ten-bit group, bit a first (R83 to R91, R109). -/
def State.laneCharacterReceive (s : State) (n : Nat) (g : BitVec 10) (mark : Fin 3) : State :=
  (s.receiveGroup n g.toNat mark.val)

/-- For a lane: receive signal absent for 10 µs leads to DETECT (R102, R104). -/
def State.laneSignalLoss (s : State) (n : Nat) : State :=
  (if 2 ≤ s.laneState n ∧ s.laneState n ≤ 5 ∧ s.fbit (F.LANE_CFG_SIMPLEX_TX n) = false then
      s.enterDetect n false
    else s)

/-- For a lane: leads to TRAIN at the rate in use (R102, R104). -/
def State.laneBitLockLoss (s : State) (n : Nat) : State :=
  (if 3 ≤ s.laneState n ∧ s.laneState n ≤ 5 ∧ s.fbit (F.LANE_STATE_BIT_LOCK n) then
      s.enterTrain n (s.lane n).rate false
    else s)

/-- For a lane: in LOCK the receiver acquires bit lock (R102). -/
def State.laneBitLock (s : State) (n : Nat) : State :=
  (if s.laneState n = 3 then s.fput (F.LANE_STATE_BIT_LOCK n) 1 else s)

/-- FRAME_RECEIVE: K29.7 ends the open frame of an ACTIVE lane; it goes to the quire, BAD where marked, or is dropped (R82,
R86), unless it has run away (R87). A K29.7 outside a frame is a stray, as CHARACTER_RECEIVE counts it (R88). -/
def execFrameReceive (n : Fin 192) (s : State) : Host.Outcome State Fault Refusal :=
  .next (match (s.lane n.val).frame with
    | some f => if s.laneState n.val ≠ 5 then s else if f.len < 4096 then s.laneDeliver n.val f else s.runaway n.val
    | none => s)

/-- RUNAWAY: 4,096 characters without K29.7 close the frame as BAD, counted (R87). -/
def execRunaway (n : Fin 192) (s : State) : Host.Outcome State Fault Refusal :=
  .next (if s.laneState n.val = 5 then s.runaway n.val else s)

/-- ELASTIC: the elastic buffer overflows or underflows; an open frame is closed as BAD (R91). -/
def execElastic (n : Fin 192) (s : State) : Host.Outcome State Fault Refusal :=
  .next (if s.fbit (F.LANE_CFG_SIMPLEX_TX n.val) || decide (s.laneState n.val < 2) then s
    else ((s.closeBad n.val).count (R.LANE_ELASTIC_COUNT n.val)).raise (F.LANE_EVENT_ELASTIC n.val))

/-- MARGIN: in ACTIVE the FOM, now `fom`, has stayed below MARGIN for 1 ms; raised once until MARGIN + HYST (R108). -/
def execMargin (n : Fin 192) (fom : Byte) (s : State) : Host.Outcome State Fault Refusal :=
  .next (if s.laneState n.val = 5 ∧ fom.toNat < s.fget (F.LANE_FOM_CFG_MARGIN n.val) ∧ s.fbit (F.LANE_CFG_SIMPLEX_TX n.val) = false then
      ((s.setFom n.val fom).raiseIf (!(s.lane n.val).marginOff) (F.LANE_EVENT_MARGIN n.val)).laneMod n.val
        (fun l => { l with marginOff := true })
    else s)

/-- One step of `old` toward `goal` (R107). -/
def stepToward (old goal : Int) : Int := old + max (-1) (min 1 (goal - old))

/-- ADAPT_STEP: the adaptation seeks peaking code `ctle` and DFE taps `t1` to `t5` at FOM `fom`; in TRAIN it takes them freely, in ACTIVE each
value moves by at most one step and FREEZE holds them, and in LOCK and EXCHANGE they stand (R105 to R107). -/
def execAdaptStep (n : Fin 192) (fom : Byte) (ctle : BitVec 4) (t1 t2 t3 t4 t5 : BitVec 5) (s : State) :
    Host.Outcome State Fault Refusal :=
  let st := s.laneState n.val
  .next (if 2 ≤ st ∧ st ≤ 5 ∧ s.fbit (F.LANE_CFG_SIMPLEX_TX n.val) = false then
      let s0 := s.setFom n.val fom
      if st = 3 ∨ st = 4 ∨ (st = 5 ∧ s.fbit (F.LANE_CTRL_FREEZE n.val)) then s0
      else
        let move := fun (old goal : Int) => if st = 2 then goal else stepToward old goal
        let tap := fun (u : State) (f : Field) (t : BitVec 5) => u.fput f (fromSigned 5 (move (toSigned 5 (u.fget f)) t.toInt))
        let s1 := s0.fput (F.LANE_ADAPT_CTLE n.val) (move (s0.fget (F.LANE_ADAPT_CTLE n.val)) ctle.toNat).toNat
        tap (tap (tap (tap (tap s1 (F.LANE_ADAPT_TAP1 n.val) t1) (F.LANE_ADAPT_TAP2 n.val) t2)
          (F.LANE_ADAPT_TAP3 n.val) t3) (F.LANE_ADAPT_TAP4 n.val) t4) (F.LANE_ADAPT_TAP5 n.val) t5
    else s)

/-- LANE_RETRAIN: a write of RETRAIN sends an ACTIVE lane to TRAIN, which clears the bit; elsewhere the bit waits (R104, R116). -/
def execLaneRetrain (n : Fin 192) (s : State) : Host.Outcome State Fault Refusal :=
  .next (if s.laneState n.val = 5 then s.enterTrain n.val (s.lane n.val).rate false
    else s.fput (F.LANE_CTRL_RETRAIN n.val) 1)

/-- LANE_TEST_SET: a write of LOOP, PAT and PAT_CHK, permitted in SELFTEST or with EN = 0 in force; a setting enters PATTERN and
clearing it leaves for DETECT or OFF (R102, R109, R110). Where in its period a pattern starts is not stated, so it is a free value; without a
pattern and a far-end loop the lane sends pairs. -/
def execLaneTestSet (n : Fin 192) (loop : BitVec 2) (pat : BitVec 3) (chk : Bool) (s : State) :
    Host.Outcome State Fault Refusal :=
  .next (if s.mode = 5 ∨ s.fbit (F.LANE_CFG_EN n.val) = false then
      let p := if 5 ≤ pat.toNat then 0 else pat.toNat
      let s1 := ((s.fput (F.LANE_CTRL_LOOP n.val) loop.toNat).fput (F.LANE_CTRL_PAT n.val) pat.toNat).fput
        (F.LANE_CTRL_PAT_CHK n.val) (b2n chk)
      if loop.toNat = 0 ∧ p = 0 ∧ chk = false then
        (if s.laneState n.val = 6 then
          (if s.fbit (F.LANE_CFG_EN n.val) then s1.enterDetect n.val false else s1.enterOff n.val false)
        else s1)
      else
        let s2 := (((s1.leaveActive n.val false).dropLocks n.val).laneSet n.val 6).laneMod n.val (fun l => { l with
          prbs := 0, txPrbs := Config.freeNat s.fresh % (2 ^ (prbsTaps p).1 - 1) + 1 })
        (if p = 0 ∧ loop.toNat ≠ 2 then s2.send n.val pairChars true else s2).tick1
    else s.raise (F.LANE_EVENT_CTRL_REFUSED n.val))

/-- SIMPLEX_PHASE_END: the fixed sequence of a transmit-only lane: TSA, TSB, capability sets, ACTIVE (R105). -/
def execSimplexPhaseEnd (n : Fin 192) (s : State) : Host.Outcome State Fault Refusal :=
  .next (if s.fbit (F.LANE_CFG_SIMPLEX_TX n.val) then
      if s.laneState n.val = 2 then
        (if (s.lane n.val).tsb then s.enterExchange n.val
        else (s.laneMod n.val (fun l => { l with tsb := true })).sendSequence n.val true)
      else if s.laneState n.val = 4 then
        s.enterActive n.val (highest3 (s.fget (F.LANE_CFG_UIP_EN n.val))) (s.startRate n.val)
      else s
    else s)

/-! ### Under a new Catalogue -/

/-- What an accession does to lane `n`, whose CFG, IDENT and EXPECT were `cfg0`, `id0` and `ex0` before it (R113, R111). -/
def State.laneAccede (s : State) (n : Nat) (cfg0 id0 ex0 : Word) (refused0 : Bool × Bool) : State :=
  let cfg := s.rd (R.LANE_CFG n)
  let st := s.laneState n
  let renego := ((cfg ^^^ cfg0) &&& 0x0000F700#32) != 0#32 || s.rd (R.LANE_IDENT n) != id0 || s.rd (R.LANE_EXPECT n) != ex0
  if !s.fbit (F.LANE_CFG_EN n) then (if st = 0 ∨ (st = 6 ∧ bitOf cfg0.toNat 0 = false) then s else s.enterOff n true)
  else if st = 0 then
    (if s.fbit (F.QUIRE_STATUS_PLL_LOCK (quireOf n)) && s.mode != 0 then s.enterDetect n true else s)
  else if st = 5 then
    if !bitOf (s.rateEn n) ((s.lane n).rate - 1) then s.enterTrain n (s.startRate n) true
    else if renego then s.enterLock n true true
    else
      (s.fput (F.LANE_STATE_EGRESS_OK n) (b2n (s.egressOk n))).noteRefused n refused0
  else s

/-- Powers the PLL of a quire down where an accession has left none of its lanes enabled (R81, R126). -/
def State.quireAccede (s : State) (q : Nat) : State :=
  if (s.enabledLanes q).isEmpty then s.fput (F.QUIRE_STATUS_PLL_LOCK q) 0 else s

end Sys2Proof.Machine
end

