-- ==== Sys2Proof/Machine/Sets.lean ====
section
/-!
DEFINITION. Machine/Sets.lean: which physical tile serves a position, what the throttle sheds, and what each beam set's status
shows of the two (R173 to R175, R324, R325, R633).
-/
namespace Sys2Proof.Machine

/-- Whether physical tile `p` is a free spare (R174). -/
def State.freeSpare (s : State) (p : Nat) : Bool := s.fget (F.ARRAY_PMAP_STATE p) == 0

/-- Whether physical tile `p` serves the logical tile or spare position that it names. -/
def State.serving (s : State) (p : Nat) : Bool :=
  s.freeSpare p || s.fget (F.ARRAY_PMAP_STATE p) == 1 || s.fget (F.ARRAY_PMAP_STATE p) == 5

/-- The physical tile that a logical tile or spare position runs on; none where it has none (R173 to R175). -/
def State.physOf (s : State) (t : Nat) : Option Nat :=
  (List.range 400).find? (fun p => s.serving p && s.fget (F.ARRAY_PMAP_LOGICAL p) == t)

/-- What the throttle sheds of work on SI `x` (R633). -/
def State.shedAt (s : State) (x : Nat) : ShedRow := (s.sheds.find? (fun r => decide (r.x ≤ x))).getD {}

/-- Refreshes SHED, TILES and SPARES of every beam set (R324, R325, R327). -/
def State.showSets (s : State) : State :=
  s.forEach (List.range 32) (fun u n =>
    let ts := ((u.array.plan.recs.filter (fun r => r.set == n)).map BeamRec.tile).dedup
    let shed := (u.shedAt u.siNow).sets.contains n || ts.any (fun t => (u.physOf t).isNone)
    let u1 := u.raiseIf (shed != u.fbit (F.BEAM_SET_STATUS_SHED n)) F.BEAM_EVENT_SHED
    ((u1.fput (F.BEAM_SET_STATUS_SHED n) (b2n shed)).fput (F.BEAM_SET_STATUS_TILES n) ts.length).fput
      (F.BEAM_SET_STATUS_SPARES n) (ts.filter (fun t => decide (384 ≤ t))).length)

end Sys2Proof.Machine
end

