-- ==== Sys2Proof/Machine/Trig.lean ====
section
/-!
DEFINITION. Machine/Trig.lean: A·cos and A·sin of p/4,096 of a turn, rounded to the nearest integer with ties away from zero
(R297, R602). The series runs in fixed point with 60 fractional bits, which decides every rounding that the rules ask for;
a tie can only be at a whole quarter turn, where the value is exact.
-/
namespace Sys2Proof.Machine

/-- π with 60 fractional bits. -/
def pi60 : Int := 3622009729038561421

/-- Sums `n` terms of an alternating power series: `t` the term, `x2` the squared argument, `k` its order. -/
def series60 : Nat → Int → Int → Int → Int
  | 0, _, _, _ => 0
  | n + 1, t, x2, k => t + series60 n (-(t * x2 / 2 ^ 60 / (k * (k + 1)))) x2 (k + 2)

/-- sin of q/4,096 of a turn, q at most 512, with 60 fractional bits. -/
def sinSmall (q : Nat) : Int :=
  let x := pi60 * q / 2048
  series60 14 x (x * x / 2 ^ 60) 2

/-- cos of q/4,096 of a turn, q at most 512, with 60 fractional bits. -/
def cosSmall (q : Nat) : Int :=
  let x := pi60 * q / 2048
  series60 14 (2 ^ 60) (x * x / 2 ^ 60) 1

/-- sin over the first quadrant, q from 0 to 1,024. -/
def sinQuad (q : Nat) : Int := if q ≤ 512 then sinSmall q else cosSmall (1024 - q)

/-- sin of p/4,096 of a turn with 60 fractional bits. -/
def sin60 (p : Nat) : Int :=
  let q := p % 1024
  match p / 1024 % 4 with
  | 0 => sinQuad q
  | 1 => sinQuad (1024 - q)
  | 2 => -sinQuad q
  | _ => -sinQuad (1024 - q)

/-- A number with 60 fractional bits rounded to the nearest integer, ties away from zero. -/
def round60 (v : Int) : Int :=
  if 0 ≤ v then (v + 2 ^ 59) / 2 ^ 60 else -((-v + 2 ^ 59) / 2 ^ 60)

/-- round(A sin(2πp / 4,096)). -/
def sinRound (a : Int) (p : Nat) : Int := round60 (a * sin60 p)

/-- round(A cos(2πp / 4,096)). -/
def cosRound (a : Int) (p : Nat) : Int := sinRound a (p + 1024)

end Sys2Proof.Machine
end

