-- ==== Sys2Proof/Machine/Ingest.lean ====
section
/-!
DEFINITION. Machine/Ingest.lean: the frame checker, staging, channel blocks, monitors, excision and the corner turn (R127 to
R165), with the synthetic generator's samples (R602).
-/
namespace Sys2Proof.Machine

/-- Changes the ingest unit beside its registers. -/
def State.ingMod (s : State) (f : IngestSt → IngestSt) : State := { s with ingest := f s.ingest }

/-! ### Frames -/

/-- The header fields of a UIP frame (R128). -/
structure UipHead where
  version : Nat
  typ : Nat
  stream : Nat
  channel : Nat
  group : Nat
  si : Nat
  flags : Nat
  len : Nat
  cpl : Nat

/-- Reads the header from a frame's bytes (R128). -/
def uipHead (bs : List Byte) : UipHead :=
  let f := fun (k n : Nat) => leNat ((bs.drop k).take n)
  ⟨f 0 1, f 1 1, f 2 2, f 4 2, f 6 2, f 8 8, f 16 2, f 18 2, f 20 4⟩

/-- The HALF of a frame. -/
def UipHead.half (h : UipHead) : Nat := h.flags / 2 % 2

/-- Whether FLAGS is refused by check 7 (R131, R133, R135). -/
def flagsBad (v fl : Nat) : Bool :=
  8 ≤ fl || (v == 1 && fl != 0) || (v == 2 && fl != 0 && fl != 4) || (bitOf fl 1 && !bitOf fl 0)

/-- The number of the first of checks 1 to 12 that a frame from lane `n` fails, 0 where it passes them (R135). -/
def State.frameCheck (s : State) (n : Nat) (f : RxFrame) : Nat :=
  let h := uipHead f.bytes
  let body := f.bytes.take (f.bytes.length - 4)
  let e := (s.at h.si).mapEntry h.stream h.group
  if f.bad then 1
  else if f.bytes.length < 28 ∨ h.len ≠ 2048 ∨ f.bytes.length ≠ 24 + h.len + 4 then 2
  else if (crc32c body).toNat ≠ leNat (f.bytes.drop (f.bytes.length - 4)) then 3
  else if h.version ≠ s.fget (F.LANE_STATE_UIP n) then 4
  else if (if h.version = 1 then h.cpl ≠ 0 else h.cpl ≠ 2 ^ 32 - 1 - h.si % 2 ^ 32) then 5
  else if h.typ ≠ 1 then 6
  else if flagsBad h.version h.flags then 7
  else if h.si % 128 ≠ 0 then 8
  else if siEnd ≤ h.si then 9
  else if e.isNone then 10
  else if ((s.at h.si).chanSlot h.channel).isNone then 11
  else if (s.at h.si).fbit (F.INGEST_MAP_W1_W8 (e.getD 0)) != bitOf h.flags 0 then 12
  else 0

/-- The counter of a failed check (R135). -/
def checkCounter (c : Nat) : Nat :=
  match c with
  | 1 => R.INGEST_ERR_LINE
  | 2 => R.INGEST_ERR_LEN
  | 3 => R.INGEST_ERR_CRC
  | 4 => R.INGEST_ERR_VER
  | 5 => R.INGEST_ERR_CPL
  | 6 => R.INGEST_ERR_TYPE
  | 7 => R.INGEST_ERR_FLAGS
  | 8 => R.INGEST_ERR_ALIGN
  | 9 => R.TIME_SI_RANGE_COUNT
  | 10 => R.INGEST_UNMAPPED
  | 11 => R.INGEST_UNCHAN
  | 12 => R.INGEST_ERR_WIDTH
  | 13 => R.INGEST_LATE
  | 14 => R.INGEST_DUP
  | _ => R.INGEST_STAGE_FULL

/-- The event of a failed check (R137). -/
def checkEvent (c : Nat) : Field :=
  match c with
  | 10 => F.INGEST_EVENT_UNMAPPED
  | 11 => F.INGEST_EVENT_UNMAPPED
  | 13 => F.INGEST_EVENT_LATE
  | 14 => F.INGEST_EVENT_DUP
  | 15 => F.INGEST_EVENT_STAGE_FULL
  | _ => F.INGEST_EVENT_FRAME_ERR

/-- Discards a frame of lane `n` at check `c`: counted, recorded in LAST_ERR, its event raised (R135, R137). -/
def State.discard (s : State) (n c : Nat) : State :=
  let s1 := ((s.count (checkCounter c)).raise (checkEvent c)).raiseIf (c == 9) F.TIME_EVENT_SI_RANGE
  (s1.fput F.INGEST_LAST_ERR_CHECK c).fput F.INGEST_LAST_ERR_LANE n

/-! ### Channel blocks -/

/-- Whether block number `b` belongs to the blocks before the last heavy accession. -/
def State.oldEra (s : State) (b : Nat) : Bool := decide (b * 128 < s.ingest.eraX)

/-- The run of blocks that block number `b` belongs to. -/
def State.eraOf (s : State) (b : Nat) : Era := if s.oldEra b then s.ingest.eraOld else s.ingest.era

/-- The next block number of `slot` to release in the run of `b` (R144). -/
def State.nextRel (s : State) (slot b : Nat) : Nat := (s.eraOf b).first + tget 0 (s.eraOf b).rel slot

/-- The channel block of a slot and block number that staging knows. -/
def State.blkOf (s : State) (slot b : Nat) : Option ChanBlk :=
  s.ingest.blks.find? (fun c => c.slot == slot && c.b == b)

/-- Whether a channel block has closed (R141, R142). -/
def State.isClosed (s : State) (slot b : Nat) : Bool :=
  decide (b < s.nextRel slot b) || (match s.blkOf slot b with
    | some c => c.closed
    | none => false)

/-- Replaces the channel block of the same slot and number. -/
def State.putBlk (s : State) (c : ChanBlk) : State :=
  s.ingMod (fun g => { g with blks := g.blks.map (fun d => if d.slot == c.slot && d.b == c.b then c else d) })

/-- Adds a channel block to staging. -/
def State.addBlk (s : State) (c : ChanBlk) : State := s.ingMod (fun g => { g with blks := g.blks ++ [c] })

/-- Removes a channel block from staging. -/
def State.dropBlk (s : State) (slot b : Nat) : State :=
  s.ingMod (fun g => { g with blks := g.blks.filter (fun d => !(d.slot == slot && d.b == b)) })

/-- Staging bytes of channel blocks not yet released, which share the 12 MiB of R22. -/
def State.openBytes (s : State) : Nat := ((s.ingest.blks.filter (fun c => !c.released)).map ChanBlk.alloc).sum

/-- Staging bytes of released channel blocks, which share the 4 MiB reserve (R144). -/
def State.heldBytes (s : State) : Nat := ((s.ingest.blks.filter ChanBlk.released).map ChanBlk.alloc).sum

/-- Staging bytes of one channel block of block number `b` (R139). -/
def State.blkBytes (s : State) (b : Nat) : Nat := (s.at (b * 128)).nIn * 128 * (s.at (b * 128)).sampleBytes

/-- Refreshes OPEN, STAGE_USE and STAGE_PEAK. -/
def State.showStage (s : State) : State :=
  let use := (s.openBytes + s.heldBytes) / 1024
  let s1 := s.fput F.INGEST_STATUS_OPEN ((s.ingest.blks.filter (fun c => !c.closed)).length)
  (s1.wrN R.INGEST_STAGE_USE use).wrN R.INGEST_STAGE_PEAK (max use (s.rdN R.INGEST_STAGE_PEAK))

/-! ### Samples and causes -/

/-- The generator's sample of input `i` in slot `c` at spectrum `x` (R602), as component codes. -/
def State.genSample (s : State) (i c x : Nat) : Nat × Nat :=
  let h := (crc32c (leBytes 4 (s.rdN R.POWER_GEN_SEED) ++ leBytes 2 i ++ leBytes 2 c ++ leBytes 8 x)).toNat
  let amp : Int := (min 5 (s.fget F.POWER_GEN_CFG_AMP) : Nat)
  let p := (x * s.fget F.POWER_GEN_CFG_TONE_RATE + i * s.fget F.POWER_GEN_CFG_TONE_STEP) % 4096
  let re : Int := (popcount 4 h : Int) - 2 + cosRound amp p
  let im : Int := (popcount 4 (h / 16) : Int) - 2 + sinRound amp p
  if s.w8 then (fromSigned 8 (re * 16), fromSigned 8 (im * 16)) else (fromSigned 4 re, fromSigned 4 im)

/-- The codes that the accepted frames hold for input `i` at spectrum `j` of the block, with UPSTREAM_BAD; none where no
accepted frame carries them (R132, R146). -/
def frameSample (w8 : Bool) (fs : List AccFrame) (i j : Nat) : Option (Nat × Nat × Bool) :=
  let span := if w8 then 8 else 16
  match fs.find? (fun f => decide (f.first ≤ i) && decide (i < f.first + span)) with
  | none => none
  | some f =>
    let k := i - f.first
    let by' := fun (n : Nat) => (f.payload.getD n 0).toNat
    if w8 then some (by' (16 * j + 2 * k), by' (16 * j + 2 * k + 1), f.bad)
    else some (by' (16 * j + k) / 16, by' (16 * j + k) % 16, f.bad)

/-- Whether a component code is the flag code (R151, R152). -/
def isFlag (w8 : Bool) (v : Nat) : Bool := v == (if w8 then 0x80 else 8)

/-- Whether the synthetic generator supplies the samples (R602, R603). -/
def State.generating (s : State) : Bool := s.mode == 5 && s.fbit F.POWER_GEN_CFG_EN

/-- Whether input `i` is OFF under the settings of `v`: by INPUT_OFF, or because no map entry covers it, which while the generator supplies
the samples makes none OFF (R150). -/
def State.inputOff (v : State) (i : Nat) : Bool := v.flag R.INGEST_INPUT_OFF i || (!v.generating && !v.inputMapped i)

/-- The cause a sample carries: 0 none, 1 OFF, 2 SHED, 3 MISSING, 4 UPSTREAM, 5 EXCISED, the first that applies (R153). -/
def State.cause (s : State) (c : ChanBlk) (i j : Nat) : Nat :=
  let x := c.b * 128 + j
  let v := s.at x
  if v.inputOff i then 1
  else if c.shed.contains i then 2
  else if c.gen then (if tget 0 c.exc (128 * i + j) = 1 then 5 else 0)
  else match frameSample v.w8 c.frames i j with
    | none => 3
    | some (re, im, bad) =>
      if bad || isFlag v.w8 re || isFlag v.w8 im then 4
      else if tget 0 c.exc (128 * i + j) = 1 then 5 else 0

/-- The component codes of a sample as it is staged: the flag code where a cause applies (R151 to R153). -/
def State.sampleCode (s : State) (c : ChanBlk) (i j : Nat) : Nat × Nat :=
  let x := c.b * 128 + j
  let v := s.at x
  let fl := if v.w8 then 0x80 else 8
  if s.cause c i j ≠ 0 then (fl, fl)
  else if c.gen then v.genSample i c.slot x
  else match frameSample v.w8 c.frames i j with
    | some (re, im, _) => (re, im)
    | none => (fl, fl)

/-- The signed value of a component code; a flagged sample counts as zero in every product (R151). -/
def compVal (w8 : Bool) (v : Nat) : Int := if isFlag w8 v then 0 else if w8 then toSigned 8 v else toSigned 4 v

/-- re² + im² of a sample, 0 where it is flagged (R154). -/
def State.samplePower (s : State) (c : ChanBlk) (i j : Nat) : Nat :=
  let w := (s.at (c.b * 128 + j)).w8
  let p := s.sampleCode c i j
  if s.cause c i j ≠ 0 then 0 else (compVal w p.1 * compVal w p.1 + compVal w p.2 * compVal w p.2).toNat

/-- How many of a block's 128 samples of input `i` carry cause `k`. -/
def State.causeCount (s : State) (c : ChanBlk) (i k : Nat) : Nat :=
  ((List.range 128).filter (fun j => s.cause c i j == k)).length

/-! ### Closing -/

/-- The device inputs that the throttle sheds at SI `x`, by groups of 32 (R633). -/
def State.shedInputs (s : State) (x : Nat) : List Nat :=
  (s.shedAt x).groups.flatMap (fun g => (List.range 32).map (fun k => 32 * g + k))

/-- Whether every channel block of block number `b` has closed; a block without channel slots has closed once the index has passed it
(R34, R42). -/
def State.allClosed (s : State) (b : Nat) : Bool :=
  let k := (s.at (b * 128)).nChan
  if k = 0 then decide (b * 128 + 128 ≤ s.siNow) else (List.range k).all (fun c => s.isClosed c b)

/-- Judges closed blocks in ascending order, at most `fuel` of them (R42). -/
def State.judgeFrom : Nat → State → State
  | 0, s => s
  | fuel + 1, s =>
    if s.allClosed s.time.judgeNext then
      let s1 := s.judgeBlock s.time.judgeNext
      State.judgeFrom fuel { s1 with time := { s1.time with judgeNext := s.time.judgeNext + 1 } }
    else s

/-- Records the head's live digest of a mismatched ACCEDE once its SI is reached (R403). -/
def State.recordDigest (s : State) : State :=
  match s.chain.digestDue with
  | some (x, d) =>
    if x ≤ s.siNow then
      { s.forEach (List.range 8) (fun u k => u.wrN (R.CHAIN_CHAIN_DIGEST k) (leNat ((d.drop (4 * k)).take 4))) with
        chain := { s.chain with digestDue := none } }
    else s
  | none => s

/-- Block number `b` has completed or closed: TIME.SI_NOW advances, never back and never beyond its end (R33, R35, R36), the block's
time-quality bits are recorded, the blocks that have closed are judged, and TIME.QUALITY shows the word of the latest (R42, R43, R78);
the beam sets show what the throttle sheds from then on (R324). -/
def State.advanceSi (s : State) (b : Nat) : State :=
  let x := min siEnd (max s.siNow (b * 128 + 128))
  let s1 := ({ s with time := { s.time with siNow := BitVec.ofNat 64 x } }).recordDigest.qualityBlock b
  let s2 := (s1.judgeFrom (x / 128 + 1 - s1.time.judgeNext)).showQuality
  s2.doIf (s.sheds.any (fun r => decide (s.siNow < r.x) && decide (r.x ≤ x))) State.showSets

/-- What follows when a channel block of block number `b` closes: with the last one, the block counts as completed (R33). -/
def State.afterClose (s : State) (b : Nat) : State := if s.allClosed b then s.advanceSi b else s

/-- Counts the MISSING and UPSTREAM samples of a channel block as it closes (R145, R153). -/
def State.countCauses (s : State) (c : ChanBlk) : State :=
  s.forEach (List.range (s.at (c.b * 128)).nIn) (fun u i =>
    (u.countBy (R.INGEST_IN_MISSING i) (s.causeCount c i 3)).countBy (R.INGEST_IN_UPFLAG i) (s.causeCount c i 4))

/-- Closes a channel block that staging holds open (R141, R145). -/
def State.closeBlk (s : State) (c : ChanBlk) : State :=
  let c1 := { c with closed := true, refNs := s.nowNs, shed := s.shedInputs (c.b * 128) }
  (((s.putBlk c1).countCauses c1).afterClose c.b).showStage

/-- Closes a channel block that was never opened: no staging room, no SHORT or DEADLINE (R141). -/
def State.closeEmpty (s : State) (slot b : Nat) : State :=
  let c : ChanBlk := { slot := slot, b := b, closed := true, refNs := s.nowNs, shed := s.shedInputs (b * 128) }
  ((s.addBlk c).countCauses c).afterClose b

/-! ### Accepting frames -/

/-- Accepts a frame that passed checks 1 to 14 into channel block `c`, and closes it where it is complete (R138 to R141). -/
def State.acceptFrame (s : State) (c : ChanBlk) (f : AccFrame) (si : Nat) (force : Bool) : State :=
  let c1 := { c with frames := c.frames ++ [f] }
  let s1 := ((s.putBlk c1).count R.INGEST_FRAMES_OK).doIf f.bad
    (fun u => (u.count R.INGEST_UPSTREAM_BAD).raise F.INGEST_EVENT_UPSTREAM_BAD)
  let s2 := (s1.doIf force (fun u => u.count R.CHAIN_TIME_DIS_COUNT)).siJudgeFrame c.slot c.b ((s.at si).siDeviation si s.nowNs) force
  let s3 := s2.showStage
  if c1.frames.length = (s.at si).expectedFrames then s3.closeBlk c1 else s3

/-- Whether a frame's spectra lie wholly in an accession gap, that of a scheduled accession included (R15, R365). -/
def State.inGap (s : State) (si : Nat) : Bool :=
  (s.ingest.gaps ++ (if s.accDue.isSome then s.cat.acc.toList else [])).any (fun g => decide (g.1 ≤ si) && decide (si + 128 ≤ g.2))

/-- Stages a frame that passed checks 1 to 12: late, duplicate or without room it is discarded (R139, R142, R143). -/
def State.stageFrame (s : State) (n : Nat) (h : UipHead) (payload : List Byte) : State :=
  let v := s.at h.si
  let b := h.si / 128
  let slot := (v.chanSlot h.channel).getD 0
  let f : AccFrame := ⟨h.stream, h.group, h.half, bitOf h.flags 2,
    v.mapInput ((v.mapEntry h.stream h.group).getD 0) h.group h.half, payload⟩
  let force := s.fbit F.CHAIN_STATUS_TIME_DIS
  if s.isClosed slot b then s.discard n 13
  else match s.blkOf slot b with
    | some c =>
      if c.frames.any (fun g => g.stream == h.stream && g.group == h.group && g.half == h.half) then s.discard n 14
      else s.acceptFrame c f h.si force
    | none =>
      if s.openBytes + s.blkBytes b ≤ 12 * 2 ^ 20 then
        let c : ChanBlk := { slot := slot, b := b, alloc := s.blkBytes b }
        ((s.addBlk c).fput F.INGEST_STATUS_FULL 0).acceptFrame c f h.si force
      else (s.discard n 15).fput F.INGEST_STATUS_FULL 1

/-- Takes one frame of lane `n` through the frame checker (R135, R365, R603). -/
def State.takeFrame (s : State) (n : Nat) (f : RxFrame) : State :=
  let h := uipHead f.bytes
  let c := s.frameCheck n f
  if c ≠ 0 ∧ c ≤ 9 then s.discard n c
  else if s.inGap h.si then s.count R.CAT_GAP_FRAMES
  else if c ≠ 0 then s.discard n c
  else if (s.at h.si).generating then
    (s.count R.INGEST_FRAMES_OK).doIf (bitOf h.flags 2)
      (fun u => (u.count R.INGEST_UPSTREAM_BAD).raise F.INGEST_EVENT_UPSTREAM_BAD)
  else s.stageFrame n h ((f.bytes.drop 24).take 2048)

/-- The lane of quire `q` whose frame the round robin takes next. -/
def State.quirePick (s : State) (q : Nat) : Option Nat :=
  (((List.range 8).map (fun k => 8 * q + (tget 0 s.quireNext q + k) % 8))).find? (fun n => !(s.lane n).rx.isEmpty)

/-! ### Monitors and excision -/

/-- The restart SIs of the monitors, with that of a scheduled accession that changes what R159 names; false where only the thresholds
change. -/
def State.monRestarts (s : State) : List (Nat × Bool) :=
  let touches := fun (rs : List Nat) => s.cat.next.any (fun e => rs.contains e.1)
  s.ingest.restarts ++ (match s.accDue with
    | none => []
    | some x =>
      if touches [R.INGEST_MON_CFG, R.INGEST_MON_BAND] then [(x, true)]
      else if touches [R.INGEST_MON_HIGH, R.INGEST_MON_LOW] then [(x, false)]
      else [])

/-- Applies the restarts at or below `si` that monitor `i` has not seen, each SI once (R159). -/
def State.monCatchUp (s : State) (i si : Nat) : State :=
  s.forEach (s.monRestarts.filter (fun r => decide (r.1 ≤ si))) (fun u r =>
    let m := tget {} u.ingest.mons i
    let lvl := if u.fbit (F.INGEST_IN_LEVEL_VALID i) then some (u.fget (F.INGEST_IN_LEVEL_LEVEL i)) else none
    if r.1 ≤ (if r.2 then m.doneX else m.doneT) then u
    else if r.2 then
      (u.clr (R.INGEST_IN_LEVEL i)).ingMod (fun g =>
        { g with mons := tset {} g.mons i { doneX := r.1, doneT := r.1, prevs := m.prevs ++ [(r.1, lvl)] } })
    else
      let m1 := { m with hiRun := 0, loRun := 0, hiDone := false, loDone := false, doneT := r.1 }
      u.ingMod (fun g => { g with mons := tset {} g.mons i m1 }))

/-- The level that excision of input `i` uses for a block at `si`: the present one, or the one before the first clear that the
block lies below (R159, R160). -/
def State.excLevel (s : State) (i si : Nat) : Option Nat :=
  let m := tget {} s.ingest.mons i
  if si < m.doneX then ((m.prevs.find? (fun p => decide (si < p.1))).map Prod.snd).join
  else if s.fbit (F.INGEST_IN_LEVEL_VALID i) then some (s.fget (F.INGEST_IN_LEVEL_LEVEL i)) else none

/-- The spectra of input `i` that excision replaces: those above the threshold and the HOLD spectra after each, where no
cause of higher rank stands (R160, R161). -/
def State.excised (s : State) (c : ChanBlk) (i : Nat) : List Nat :=
  let v := s.at (c.b * 128)
  let mult := v.fget F.INGEST_EXC_CFG_MULT
  match s.excLevel i (c.b * 128) with
  | none => []
  | some l =>
    if mult = 0 then []
    else
      let hot := (List.range 128).filter (fun j => decide (l * mult < s.samplePower c i j * 4096))
      (List.range 128).filter (fun j => s.cause c i j == 0 &&
        hot.any (fun k => decide (k ≤ j) && decide (j ≤ k + v.fget F.INGEST_EXC_CFG_HOLD)))

/-- INGEST.MON_CFG.AVG, at most 12. -/
def State.monAvg (s : State) : Nat := min 12 (s.fget F.INGEST_MON_CFG_AVG)

/-- Compares a new level with the thresholds (R157). -/
def State.monCompare (s : State) (v : State) (i l : Nat) : State :=
  let m := tget {} s.ingest.mons i
  let hold := max 1 (v.fget F.INGEST_MON_CFG_HOLD)
  let hi := decide (v.rdN R.INGEST_MON_HIGH % 2 ^ 24 < l)
  let lo := decide (l < v.rdN R.INGEST_MON_LOW % 2 ^ 24)
  let hr := if hi then m.hiRun + 1 else 0
  let lr := if lo then m.loRun + 1 else 0
  let fireH := hi && !m.hiDone && decide (hold ≤ hr)
  let fireL := lo && !m.loDone && decide (hold ≤ lr)
  let m1 := { m with hiRun := hr, loRun := lr, hiDone := hi && (m.hiDone || fireH), loDone := lo && (m.loDone || fireL) }
  let s1 := s.ingMod (fun g => { g with mons := tset {} g.mons i m1 })
  (s1.doIf fireH (fun u => u.setFlag R.INGEST_HIGH_PEND i true)).doIf fireL (fun u => u.setFlag R.INGEST_LOW_PEND i true)

/-- Adds a block sum to monitor `i`: after 2^A blocks a value M, and from 2^D of those the level L (R155, R156). -/
def State.monAdd (s : State) (v : State) (i sum : Nat) : State :=
  let m := tget {} s.ingest.mons i
  let a := v.monAvg
  let d := v.fget F.INGEST_MON_CFG_DECIM
  let tot := (m.sum + sum) % 2 ^ 36
  if m.blocks + 1 < 2 ^ a then
    s.ingMod (fun g => { g with mons := tset {} g.mons i { m with sum := tot, blocks := m.blocks + 1 } })
  else
    let hist := ((tot * 256 / (2 ^ a * 128)) :: m.hist).take (2 ^ d)
    let s1 := s.ingMod (fun g => { g with mons := tset {} g.mons i { m with sum := 0, blocks := 0, hist := hist } })
    if hist.length < 2 ^ d then s1
    else
      let l := hist.sum / 2 ^ d
      ((s1.fput (F.INGEST_IN_LEVEL_LEVEL i) l).fput (F.INGEST_IN_LEVEL_VALID i) 1).monCompare v i l

/-- Excises and monitors input `i` of a channel block as it is released (R154 to R161); gives the state and the block with its
excised samples marked. -/
def monitorInput (s : State) (c : ChanBlk) (i : Nat) : State × ChanBlk :=
  let si := c.b * 128
  let v := s.at si
  let s0 := s.monCatchUp i si
  if v.inputOff i then (s0, c)
  else
    let ex := s0.excised c i
    let c1 := { c with exc := ex.foldl (fun t j => tset 0 t (128 * i + j) 1) c.exc }
    let s1 := (s0.countBy (R.INGEST_IN_EXCISED i) ex.length).raiseIf (!ex.isEmpty) F.INGEST_EVENT_EXCISE
    let band := decide (v.fget F.INGEST_MON_BAND_FIRST ≤ c.slot) && decide (c.slot ≤ v.fget F.INGEST_MON_BAND_LAST)
    let sum := ((List.range 128).map (fun j => s1.samplePower c1 i j)).sum
    if band && decide ((tget {} s1.ingest.mons i).doneX ≤ si) then (s1.monAdd v i sum, c1) else (s1, c1)

/-- Monitors every input below N (R154). -/
def monitorAll (s : State) (c : ChanBlk) : State × ChanBlk :=
  (List.range (s.at (c.b * 128)).nIn).foldl (fun p i => monitorInput p.1 p.2 i) (s, c)

/-! ### Corner turn -/

/-- Archive offset of region `r` (R422, R424). -/
def State.regionBase (s : State) (r : Nat) : Nat := s.fget (F.HBMC_REGION_W0_BASE r) * 2 ^ 21

/-- Archive offset of sample `sp` of the dwell of input `i` in slot `c`, buffer `w` (R163). -/
def State.cornerOffset (s : State) (w c sp i : Nat) : Nat :=
  let n := s.nIn
  let b := s.sampleBytes
  s.regionBase 0 + w * (s.nChan * s.dwell * n * b) + c * (s.dwell * n * b) + sp * (n * b) + i * b

/-- The bytes of one sample as staged and stored (R132, R163). -/
def sampleBytesOf (w8 : Bool) (p : Nat × Nat) : List Byte :=
  if w8 then leBytes 1 p.1 ++ leBytes 1 p.2 else leBytes 1 (p.1 * 16 + p.2)

/-- The bytes of a channel block, spectrum by spectrum (R163). -/
def State.blkData (s : State) (c : ChanBlk) : List Byte :=
  let v := s.at (c.b * 128)
  (List.range 128).flatMap (fun j => (List.range v.nIn).flatMap (fun i => sampleBytesOf v.w8 (s.sampleCode c i j)))

/-- The dwell window that holds block number `b` under the entries of `v` (R162). -/
def windowOf (v : State) (b : Nat) : Nat := if v.dwell = 0 then 0 else b * 128 / v.dwell

/-- The SIs inside window `m` at which an integration opens or closes, ascending: those taken effect and a scheduled
accession (R242, R243). -/
def State.splits (s : State) (v : State) (m : Nat) : List Nat :=
  let sched := if s.fget F.CAT_STATUS_SHADOW = 5 then [s.rd64 R.CAT_EFFECT_SI_LO R.CAT_EFFECT_SI_HI] else []
  ascending ((s.accum.bounds ++ sched).filter (fun x => decide (m * v.dwell < x) && decide (x < (m + 1) * v.dwell)))

/-- How many split SIs of window `m` lie at or below SI `x`: the number of the count set that holds it (R243). -/
def State.partIdx (s : State) (v : State) (m x : Nat) : Nat := ((s.splits v m).filter (fun y => decide (y ≤ x))).length

/-- Key of a count of VCNT: count set, buffer, slot, input. -/
def vcntKey (part w c i : Nat) : Nat := ((part * 2 + w) * 4096 + c) * 4096 + i

/-- Adds the unflagged samples of a block to VCNT, clearing the buffer's counts when its window opens (R164, R243). -/
def State.addVcnt (s : State) (c : ChanBlk) (m : Nat) : State :=
  let w := m % 2
  let v := s.at (c.b * 128)
  let s0 := if tget 0 s.ingest.vcntWin w = m + 1 then s
    else s.ingMod (fun g => { g with vcntWin := tset 0 g.vcntWin w (m + 1), vcnt := g.vcnt.filter (fun e => e.1 / 2 ^ 24 % 2 != w) })
  let good := fun (i : Nat) => (List.range 128).filter (fun j => s.cause c i j == 0
    && !s.ingest.gaps.any (fun g => decide (g.1 ≤ c.b * 128 + j) && decide (c.b * 128 + j < g.2)))
  s0.forEach (List.range v.nIn) (fun u i =>
    u.forEach (good i) (fun u j =>
      let key := vcntKey (s.partIdx v m (c.b * 128 + j)) w c.slot i
      u.ingMod (fun g => { g with vcnt := tset 0 g.vcnt key (satN 32 (tget 0 g.vcnt key + 1)) })))

/-- Writes a released channel block into the Archive and counts it toward its window (R163 to R165). -/
def State.cornerWrite (s : State) (c : ChanBlk) : State :=
  let v := s.at (c.b * 128)
  let m := windowOf v c.b
  let off := v.cornerOffset (m % 2) c.slot (c.b * 128 - m * v.dwell) 0
  let s1 := (s.arcPut off (s.blkData c)).addVcnt c m
  if s.oldEra c.b then
    s1.ingMod (fun g => { g with eraOld := { g.eraOld with win := tmod 0 g.eraOld.win m (· + 1) } })
  else s1.ingMod (fun g => { g with era := { g.era with win := tmod 0 g.era.win m (· + 1) } })

/-- Advances the release pointer of a slot (R144). -/
def State.bumpRel (s : State) (slot b : Nat) : State :=
  if s.oldEra b then s.ingMod (fun g => { g with eraOld := { g.eraOld with rel := tmod 0 g.eraOld.rel slot (· + 1) } })
  else s.ingMod (fun g => { g with era := { g.era with rel := tmod 0 g.era.rel slot (· + 1) } })

/-- Whether a channel block held a flagged sample of a cause other than OFF (R312). -/
def State.partialBlk (s : State) (c : ChanBlk) : Bool :=
  (List.range (s.at (c.b * 128)).nIn).any (fun i => (List.range 128).any (fun j => decide (2 ≤ s.cause c i j)))

/-- What the beam outputs of a channel block need to know of it (R309, R312). -/
def State.heldBlk (s : State) (c : ChanBlk) : HeldBlk := ⟨c.slot, c.b, c.refNs, s.partialBlk c, c.gen, c.readBy⟩

/-! ### Commands -/

/-- SAMPLES_FRAME: quire `q` passes its next frame, in round robin, through the frame checker into staging (R82, R135). -/
def execSamplesFrame (q : Fin 24) (s : State) : Host.Outcome State Fault Refusal :=
  .next (match s.quirePick q.val with
    | none => s
    | some n =>
      match (tget {} s.lanes n).rx with
      | [] => s
      | f :: rest =>
        let s1 := { s with lanes := tmod {} s.lanes n (fun l => { l with rx := rest }),
                           quireNext := tset 0 s.quireNext q.val ((n + 1) % 8) }
        s1.takeFrame n f)

/-- BLOCK_DEADLINE: the deadline of block number `b` has passed; its open channel blocks close at their deadline, those never
opened close without room, and the index advances (R34, R35, R141). -/
def execBlockDeadline (b : Nat) (s : State) : Host.Outcome State Fault Refusal :=
  .next (if siEnd ≤ b * 128 ∨ s.time.now.toNat < (s.at (b * 128)).blockDeadline (b * 128) then s
    else
      let k := (s.at (b * 128)).nChan
      let gap := s.inGap (b * 128)
      let s1 := s.forEach (if gap then [] else List.range k) (fun u slot =>
        if u.isClosed slot b then u
        else match u.blkOf slot b with
          | some c => ((u.count R.INGEST_DEADLINE).raise F.INGEST_EVENT_DEADLINE).closeBlk c
          | none => u.closeEmpty slot b)
      if k = 0 ∨ gap then s1.advanceSi b else s1)

/-- SKEW_EXPIRY: the skew window of an open channel block expires and it closes short (R141). -/
def execSkewExpiry (slot b : Nat) (s : State) : Host.Outcome State Fault Refusal :=
  .next (match s.blkOf slot b with
    | some c => if c.closed then s else ((s.count R.INGEST_SHORT).raise F.INGEST_EVENT_SHORT).closeBlk c
    | none => s)

/-- MON_RESTART: a write of the bit resolves the restart SI, the first pass boundary above TIME.SI_NOW (R33, R159). -/
def execMonRestart (s : State) : Host.Outcome State Fault Refusal :=
  .next ((s.fput F.INGEST_CTRL_MON_RESTART 1).ingMod (fun g =>
    { g with restartReq := some s.nextBoundary, restarts := g.restarts ++ [(s.nextBoundary, true)] }))

/-- MONITOR_RESTART: the index has reached the restart SI; the bit clears. Each input's sums, history and arming are cleared
when its first channel block at or above that SI is released (R159, R167). -/
def execMonitorRestart (s : State) : Host.Outcome State Fault Refusal :=
  .next (match s.ingest.restartReq with
    | some x =>
      if x ≤ s.siNow then (s.fput F.INGEST_CTRL_MON_RESTART 0).ingMod (fun g => { g with restartReq := none }) else s
    | none => s)

/-- GENERATOR_DELIVERY: in SELFTEST the generator delivers the channel block of `slot` and block number `b`, which closes
complete; without room it closes with its samples MISSING; none starts at the end of the index (R36, R603). -/
def execGeneratorDelivery (slot b : Nat) (s : State) : Host.Outcome State Fault Refusal :=
  let v := s.at (b * 128)
  .next (if !v.generating || s.isClosed slot b || decide (v.nChan ≤ slot) || s.inGap (b * 128) || (s.blkOf slot b).isSome || decide (siEnd ≤ b * 128) then s
    else if s.openBytes + s.blkBytes b ≤ 12 * 2 ^ 20 then
      let c : ChanBlk := { slot := slot, b := b, gen := true, alloc := s.blkBytes b }
      ((s.addBlk c).fput F.INGEST_STATUS_FULL 0).closeBlk c
    else ((s.count R.INGEST_STAGE_FULL).fput F.INGEST_STATUS_FULL 1).closeEmpty slot b)

end Sys2Proof.Machine
end

