-- ==== Sys2Proof/Machine/Plan.lean ====
section
/-!
DEFINITION. Machine/Plan.lean: the positions of the array and their physical tiles, the plan and how the sequencer cuts it, and
the order words (R173 to R202, R214, R216, R217).
-/
namespace Sys2Proof.Machine

/-- Changes the array beside its registers. -/
def State.arrMod (s : State) (f : ArraySt → ArraySt) : State := { s with array := f s.array }

/-- Changes accumulation beside its registers. -/
def State.accMod (s : State) (f : AccumSt → AccumSt) : State := { s with accum := f s.accum }

/-- Tile or spare position `t`. -/
def State.tile (s : State) (t : Nat) : TileSt := tget {} s.array.tiles t

/-- Changes tile or spare position `t`. -/
def State.tileMod (s : State) (t : Nat) (f : TileSt → TileSt) : State :=
  s.arrMod (fun a => { a with tiles := tmod {} a.tiles t f })

/-- The state with the registers of the Catalogue whose plan the tiles hold (R363). -/
def State.pv (s : State) : State := { s with regs := s.array.plan.cfg }

/-! ### Positions -/

/-- The wing of a logical tile or spare position (R173, R175). -/
def wingOf (t : Nat) : Nat := if t < 384 then t / 96 else (t - 384) / 4

/-- The physical tile of `t`, where it has one. -/
def State.phys (s : State) (t : Nat) : Nat := (s.physOf t).getD 400

/-- Whether logical tile `t` is MISSING (R226). -/
def State.isMissing (s : State) (t : Nat) : Bool := decide (t < 384) && s.flag R.ARRAY_MISSING t

/-- The field of ARRAY.TEV of logical tile `t` at bit `k` of its byte (R232). -/
def tevField (t k : Nat) : Field := ⟨R.ARRAY_TEV (t / 4), 8 * (t % 4) + k, 1⟩

/-- Raises event bit `k` of a logical tile, or SPARE_TILE for a spare position (R232). -/
def State.raiseTev (s : State) (t k : Nat) : State :=
  if t < 384 then s.raise (tevField t k) else s.raise F.ARRAY_EVENT_SPARE_TILE

/-- The role that position `t` holds (R186). -/
def State.roleOf (s : State) (t : Nat) : Nat := s.array.plan.roles.getD t 0

/-- The tiles that hold the correlation role. -/
def State.corrTiles (s : State) : List Nat := (List.range 384).filter (fun t => s.roleOf t == 1)

/-- The matrix address at which the Carrel of physical tile `p` is kept. -/
def carrelAddr (p : Nat) : Nat := 0x400000000 + p * 0x40000

/-! ### Blocks -/

/-- The column group of block `b` of a triangle (R187). -/
def triCol (b : Nat) : Nat := ((List.range 129).filter (fun q => decide (q * (q + 1) / 2 ≤ b))).length - 1

/-- Row and column group of block `b` in the shape of `v` (R187, R188). -/
def groupsOf (v : State) (b : Nat) : Nat × Nat :=
  if v.fget F.ARRAY_GEOM_SHAPE = 2 then
    let h := v.nIn / 64
    (b % h, h + b / h)
  else (b - triCol b * (triCol b + 1) / 2, triCol b)

/-- The number of blocks of the shape of `v` (R187, R188). -/
def shapeBlocks (v : State) : Nat :=
  if v.fget F.ARRAY_GEOM_SHAPE = 2 then (v.nIn / 64) * (v.nIn / 64)
  else if v.fget F.ARRAY_GEOM_SHAPE = 1 then (v.nIn / 32) * (v.nIn / 32 + 1) / 2 else 0

/-! ### The cut -/

/-- T, the pass length. -/
def State.passLen (v : State) : Nat := v.fget F.ARRAY_GEOM_T

/-- W / T, the rounds of a channel dwell (R192). -/
def State.rpd (v : State) : Nat := v.dwell / v.passLen

/-- C_j(u): the start of list position `j`'s run in round `u` (R195). -/
def WingPlan.cut (w : WingPlan) (t u j : Nat) : Nat :=
  let l := w.blocks.length * t
  (j * l + (u * l) % w.tiles.length) / w.tiles.length

/-- The spectra of list entry `e` that list position `j` takes in round `u`: start within the block, and count (R195). -/
def WingPlan.share (w : WingPlan) (t u j e : Nat) : Nat × Nat :=
  let lo := max (w.cut t u j) (e * t)
  let hi := min (w.cut t u (j + 1)) ((e + 1) * t)
  (lo - e * t, hi - lo)

/-- The list position that is home to entry `e` (R196). -/
def WingPlan.home (w : WingPlan) (t e : Nat) : Nat :=
  ((List.range w.tiles.length).find? (fun j => decide (w.cut t 0 j ≤ e * t) && decide (e * t < w.cut t 0 (j + 1)))).getD 0

/-- The home index of entry `e`: earlier entries with the same home (R196). -/
def WingPlan.homeIdx (w : WingPlan) (t e : Nat) : Nat :=
  ((List.range e).filter (fun d => w.home t d == w.home t e)).length

/-- The slot of entry `e` for channel slot `c`; in 8-bit mode the even slot of the double slot (R196). -/
def WingPlan.slot (w : WingPlan) (w8 : Bool) (t e c : Nat) : Nat :=
  if w8 then 2 * (w.homeIdx t e + 4 * (c % 2)) else w.homeIdx t e + 8 * (c % 2)

/-- The entries that position `j` takes part of in round `u`, in the order of R197. DESIGN CHOICE (log 213): parts of blocks homed on other
tiles come in list order among themselves. -/
def WingPlan.passes (w : WingPlan) (t u j : Nat) : List Nat :=
  let es := (List.range w.blocks.length).filter (fun e => decide (0 < (w.share t u j e).2))
  let whole := fun e => (w.share t u j e).2 == t
  es.filter (fun e => !whole e && w.home t e == j) ++ es.filter whole ++ es.filter (fun e => !whole e && w.home t e != j)

/-- The list positions that take part of entry `e` in round `u`, the home first (R198). -/
def WingPlan.touch (w : WingPlan) (t u e : Nat) : List Nat :=
  let js := (List.range w.tiles.length).filter (fun j => decide (0 < (w.share t u j e).2))
  js.filter (· == w.home t e) ++ js.filter (· != w.home t e)

/-- The wing lists in force. -/
def State.wing (s : State) (w : Nat) : WingPlan := s.array.plan.wings.getD w {}

/-- The list position of tile `t` in its wing. -/
def State.listPos (s : State) (t : Nat) : Option Nat := findIdxFrom (fun x => x == t) 0 (s.wing (wingOf t)).tiles

/-! ### Runs -/

/-- The window run of a number. -/
def State.runOf (s : State) (id : Nat) : Option WinRun := s.array.runs.find? (fun r => r.id == id)

/-- Changes the window run of a number. -/
def State.runMod (s : State) (id : Nat) (f : WinRun → WinRun) : State :=
  s.arrMod (fun a => { a with runs := a.runs.map (fun r => if r.id == id then f r else r) })

/-- The number of the part that holds round `k` of a dwell. -/
def WinRun.partAt (r : WinRun) (k : Nat) : Option Nat :=
  findIdxFrom (fun p : Part => decide (p.k0 ≤ k) && decide (k < p.k1)) 0 r.parts

/-- Whether channel slot `c` is worked on in the run: neither abandoned nor shed (R215, R633). -/
def WinRun.live (r : WinRun) (c : Nat) : Bool := !r.abandoned.contains c && !r.shedC.contains c

/-- Whether round `u` of the run is processed (R192, R215, R242). -/
def State.liveRound (s : State) (r : WinRun) (u : Nat) : Bool :=
  decide (u / s.pv.rpd < s.pv.nChan) && (r.partAt (u % s.pv.rpd)).isSome && r.live (u / s.pv.rpd)

/-- The rounds of a window, in order (R192). -/
def State.allRounds (s : State) : List Nat := List.range (s.pv.nChan * s.pv.rpd)

/-- Whether the plan in force is resident (R216). -/
def State.residentPlan (s : State) : Bool := s.pv.fbit F.ARRAY_GEOM_RESIDENT

/-- Whether the throttle sheds a group of block `b` (R633). -/
def State.blockShed (s : State) (r : WinRun) (b : Nat) : Bool :=
  r.shedG.contains (groupsOf s.pv b).1 || r.shedG.contains (groupsOf s.pv b).2

/-- Whether list position `j` of a wing can be given orders (R214). -/
def State.posOk (s : State) (w : WingPlan) (j : Nat) : Bool := !s.isMissing (w.tiles.getD j 0)

/-- The entry that a resident plan gives position `j`: list entry `j` (R216). -/
def residentEntry (w : WingPlan) (j : Nat) : List Nat := if j < w.blocks.length then [j] else []

/-- The list positions whose write-backs into the slot of entry `e` round `u` gives, in tag order (R198, R214). -/
def State.accesses (s : State) (r : WinRun) (w : WingPlan) (u e : Nat) : List Nat :=
  if s.blockShed r (w.blocks.getD e 0) || !s.posOk w (w.home s.pv.passLen e) then []
  else (w.touch s.pv.passLen u e).filter (fun j => s.posOk w j)

/-- The write-backs of entry `e` in rounds [k0, k1) of channel slot `c`. -/
def State.accessCount (s : State) (r : WinRun) (w : WingPlan) (c e k0 k1 : Nat) : Nat :=
  ((List.range (k1 - k0)).map (fun d => (s.accesses r w (c * s.pv.rpd + k0 + d) e).length)).sum

/-- The tag of the first access of part `p` of a dwell (R198, R242). -/
def State.partTag (s : State) (r : WinRun) (w : WingPlan) (c e p : Nat) : Nat :=
  ((r.parts.take p).map (fun q => s.accessCount r w c e q.k0 q.k1 + 1)).sum

/-- Whether entry `e` of a wing is spilled for the dwell of slot `c`: not shed, and no part of it in the whole channel dwell falls
to a MISSING tile (R199, R214, R633). -/
def State.spills (s : State) (r : WinRun) (w : WingPlan) (c e : Nat) : Bool :=
  !s.blockShed r (w.blocks.getD e 0) &&
    (if s.residentPlan then s.posOk w e
     else s.posOk w (w.home s.pv.passLen e) && r.parts.all (fun q => (List.range (q.k1 - q.k0)).all (fun d =>
       (w.touch s.pv.passLen (c * s.pv.rpd + q.k0 + d) e).all (fun j => s.posOk w j))))

/-- How many blocks each part of the dwell of slot `c` spills. -/
def State.spillCount (s : State) (r : WinRun) (c : Nat) : Nat :=
  ((List.range 4).map (fun w =>
    ((List.range (s.wing w).blocks.length).filter (fun e => s.spills r (s.wing w) c e)).length)).sum

/-- Whether every SPILL of the dwell of slot `c` has been issued (R215). -/
def State.allIssued (s : State) (r : WinRun) (c : Nat) : Bool :=
  (List.range r.parts.length).all (fun p => tget 0 r.issued (4096 * p + c) == s.spillCount r c)

/-- Whether the array has finished a run: every SPILL that it owes has been issued. -/
def State.runDone (s : State) (r : WinRun) : Bool :=
  (List.range s.pv.nChan).all (fun c => !r.live c || s.allIssued r c)

/-- The entries of which tile `t` takes a PASS in round `u` of run `r`, in order (R197, R214, R217, R633). -/
def State.roundEntries (s : State) (r : WinRun) (t u : Nat) : List Nat :=
  let w := s.wing (wingOf t)
  match s.listPos t with
  | none => []
  | some j =>
    if s.isMissing t then []
    else if s.residentPlan then
      (if r.parts.any (fun p => p.k0 == u % s.pv.rpd) then
        (residentEntry w j).filter (fun e => !s.blockShed r (w.blocks.getD e 0)) else [])
    else (w.passes s.pv.passLen u j).filter (fun e =>
      !s.blockShed r (w.blocks.getD e 0) && s.posOk w (w.home s.pv.passLen e))

/-- The group spans that the orders of tile `t` in round `u` of run `r` use, in ascending order (R191, R193). -/
def State.spans (s : State) (r : WinRun) (t u : Nat) : List Nat :=
  let bs := (s.wing (wingOf t)).blocks
  ascending ((s.roundEntries r t u).flatMap (fun e => [(groupsOf s.pv (bs.getD e 0)).1, (groupsOf s.pv (bs.getD e 0)).2]))

/-! ### Order words -/

/-- The fields of an order (R202). -/
structure OrdF where
  op : Nat
  f1 : Bool := false
  f2 : Bool := false
  bank : Nat := 0
  res : Bool := false
  dest : Nat := 0
  slot : Nat := 0
  row : Nat := 0
  col : Nat := 0
  start : Nat := 0
  len : Nat := 0
  chan : Nat := 0
  round : Nat := 0
  tag : Nat := 0
  block : Nat := 0
  base : Nat := 0
  page : Nat := 0

/-- The word of an order: each field in its bits, BLOCK or BEAM_BASE and WPAGE in the lowest sixteen (R202). DESIGN CHOICE (log 214): a
SUB_LEN of 65,536 is written as 0x1_0000, which its 17 bits hold; 0 is read as 65,536 too. -/
def OrdF.word (o : OrdF) : BitVec 128 :=
  BitVec.ofNat 128 (o.op * 2 ^ 124 + b2n o.f1 * 2 ^ 123 + b2n o.f2 * 2 ^ 122 + o.bank % 2 * 2 ^ 121 + b2n o.res * 2 ^ 120
    + o.dest % 2 ^ 9 * 2 ^ 111 + o.slot % 2 ^ 5 * 2 ^ 106 + o.row % 2 ^ 8 * 2 ^ 98 + o.col % 2 ^ 8 * 2 ^ 90
    + o.start % 2 ^ 16 * 2 ^ 74 + o.len % 2 ^ 17 * 2 ^ 57 + o.chan % 2 ^ 13 * 2 ^ 44 + o.round % 2 ^ 12 * 2 ^ 32
    + o.tag % 2 ^ 16 * 2 ^ 16 + o.block % 2 ^ 14 * 4 + o.base % 2 ^ 10 * 64 + o.page % 16 * 4)

/-- Bits [hi:lo] of an order's word. -/
def QOrd.bits (o : QOrd) (hi lo : Nat) : Nat := bitsOf o.word.toNat hi lo

/-- OP. -/
def QOrd.op (o : QOrd) : Nat := o.bits 127 124

/-- SUB_LEN; 0 encodes 65,536 (R202). -/
def QOrd.len (o : QOrd) : Nat := if o.bits 73 57 = 0 then 65536 else o.bits 73 57

/-- CHANNEL. -/
def QOrd.chan (o : QOrd) : Nat := o.bits 56 44

/-- Whether the order is a PASS that writes back into slot `k` of tile `t`. -/
def QOrd.into (o : QOrd) (t k : Nat) : Bool :=
  o.op == 1 && !bitOf o.word.toNat 120 && o.bits 119 111 == t && o.bits 110 106 == k

/-- Whether tag `a` comes before tag `b` of the same slot and dwell; tags compare modulo 65,536 (R213). -/
def tagBefore (a b : Nat) : Bool := let d := (b + 65536 - a % 65536) % 65536; decide (0 < d) && decide (d ≤ 32768)

/-- The window round of a PASS: u = c × W/T + k (R192). -/
def State.ordRound (s : State) (o : QOrd) : Nat := o.chan * s.pv.rpd + o.bits 43 32

/-- The PASS of tile `t` for entry `e` in round `u` of run `r` (R195 to R198, R203, R217). -/
def State.passOrder (s : State) (r : WinRun) (t u e : Nat) : QOrd :=
  let v := s.pv
  let w := s.wing (wingOf t)
  let j := (s.listPos t).getD 0
  let c := u / v.rpd
  let k := u % v.rpd
  let p := (r.partAt k).getD 0
  let q := r.parts.getD p ⟨0, 0, 0, 0, false⟩
  let g := groupsOf v (w.blocks.getD e 0)
  let res : OrdF := {
    op := 1, f1 := true, f2 := true, res := true, dest := t, row := g.1, col := g.2, start := q.k0 * v.passLen,
    len := (q.k1 - q.k0) * v.passLen, chan := c, round := k }
  let done := s.accessCount r w c e q.k0 k + (findIdxFrom (fun x => x == j) 0 (s.accesses r w u e)).getD 0
  let cut : OrdF := {
    op := 1, f1 := done == 0, f2 := done + 1 == s.accessCount r w c e q.k0 q.k1,
    dest := w.tiles.getD (w.home v.passLen e) 0, slot := w.slot v.w8 v.passLen e c, row := g.1, col := g.2,
    start := (w.share v.passLen u j e).1, len := (w.share v.passLen u j e).2, chan := c, round := k,
    tag := s.partTag r w c e p + done }
  { run := r.id, part := p, word := if s.residentPlan then res.word else cut.word }

/-- The SPILL of the slot of entry `e` of wing `wg` for part `p` of the dwell of slot `c` (R199, R242). -/
def State.spillOrder (s : State) (r : WinRun) (wg c e p : Nat) : QOrd :=
  let v := s.pv
  let w := s.wing wg
  let q := r.parts.getD p ⟨0, 0, 0, 0, false⟩
  let tag := s.partTag r w c e p + s.accessCount r w c e q.k0 q.k1
  let f : OrdF := {
    op := 3, f1 := q.ovw, bank := q.bank, slot := if s.residentPlan then 0 else w.slot v.w8 v.passLen e c, chan := c,
    tag := if s.residentPlan then 0 else tag, block := w.blocks.getD e 0 }
  { run := r.id, part := p, word := f.word }

/-- The DRAIN that names the bank of integration `i` (R200); it carries the integration in `run`. -/
def drainOrder (i : Integ) : QOrd := { run := i.id, word := OrdF.word { op := 4, bank := i.bank } }

/-- A CHECK (R208). -/
def checkOrder : QOrd := { word := OrdF.word { op := 6 } }

/-- Shows a queue in QUEUE and PEEK of physical tile `p` (R228). -/
def State.putQueue (s : State) (p : Nat) (q : List QOrd) : State :=
  let h := (q.headD {}).word.toNat
  (s.wrN (R.ARRAY_TILE_QUEUE p) q.length).forEach (List.range 4) (fun u i => u.wrN (R.ARRAY_TILE_PEEK p i) (h / 2 ^ (32 * i)))

/-- Shows the queue of position `t` at its physical tile (R228). -/
def State.showQueue (s : State) (t : Nat) : State :=
  match s.physOf t with
  | none => s
  | some p => s.putQueue p (s.tile t).queue

/-! ### Integrations -/

/-- The integration of a number. -/
def State.integ (s : State) (id : Nat) : Option Integ := s.accum.integs.find? (fun i => i.id == id)

/-- Changes the integration of a number. -/
def State.integMod (s : State) (id : Nat) (f : Integ → Integ) : State :=
  s.accMod (fun a => { a with integs := a.integs.map (fun i => if i.id == id then f i else i) })

/-- The integration whose interval holds SI `x`. -/
def State.integAt (s : State) (x : Nat) : Option Integ :=
  s.accum.integs.find? (fun i => decide (i.a ≤ x) && (match i.e with
    | some e => decide (x < e)
    | none => true))

/-- Whether run `r` owes integration `i` no more SPILLs. -/
def State.owesNone (s : State) (r : WinRun) (i : Nat) : Bool :=
  (List.range r.parts.length).all (fun p => (r.parts.getD p ⟨0, 0, 0, 0, false⟩).integ != i
    || (List.range s.pv.nChan).all (fun c => !r.live c || tget 0 r.issued (4096 * p + c) == s.spillCount r c))

/-- Issues the DRAINs of every closed integration whose last SPILL has been issued (R200). -/
def State.drainIssue (s : State) : State :=
  s.forEach s.accum.integs (fun u i =>
    match i.e with
    | none => u
    | some e =>
      if !i.drainIssued && decide (e ≤ u.array.till) && u.array.runs.all (fun r => u.owesNone r i.id) then
        let ts := u.corrTiles.filter (fun t => !u.isMissing t)
        let u1 := u.forEach ts (fun x t => x.tileMod t (fun q => { q with todo := q.todo ++ [drainOrder i] }))
        (u1.arrMod (fun a => { a with drains := a.drains ++ ts.map (fun t => (t, i.id)) })).integMod i.id
          (fun j => { j with drainIssued := true })
      else u)

/-- Shows whether a window is in process (R229). -/
def State.showRunning (s : State) : State :=
  s.fput F.ARRAY_STATUS_RUNNING (b2n (s.array.runs.any (fun r => !s.runDone r)))

end Sys2Proof.Machine
end

