-- ==== Sys2Proof/Machine/BeamCell.lean ====
section
/-!
DEFINITION. Machine/BeamCell.lean: weights, beam sums, the BPASS orders that the sequencer issues, and the freeing of staged
blocks once every reader has read them (R144, R185, R289 to R298, R302, R304).
-/
namespace Sys2Proof.Machine

/-- Changes the beam unit beside its registers. -/
def State.beamMod (s : State) (f : BeamSt → BeamSt) : State := { s with beam := f s.beam }

/-! ### Sets and pages -/

/-- The VOLT, DET and SRCH flags of set `n`, one bit a beam (R289). -/
def State.volt (v : State) (n : Nat) : Nat := v.rdN (R.BEAM_SET_VOLT n)
def State.det (v : State) (n : Nat) : Nat := v.rdN (R.BEAM_SET_DET n)
def State.srch (v : State) (n : Nat) : Nat := v.rdN (R.BEAM_SET_SRCH n)

/-- Whether any beam of set `n` is formed (R289). -/
def State.setEnabled (v : State) (n : Nat) : Bool := (v.volt n ||| v.det n ||| v.srch n) != 0

/-- The active page of set `n` now. -/
def State.pageNow (s : State) (n : Nat) : Option Nat :=
  match tget [] s.beam.pages n with
  | (_, p + 1) :: _ => some p
  | _ => none

/-- The SI from which set `n`, which is pending, takes the page that it waits for (R303). -/
def State.pendingAt (s : State) (n : Nat) : Option Nat := (s.beam.pendAt.find? (fun e => e.1 == n)).map Prod.snd

/-- The accepted switches whose SI the index has not been found to reach, by SI. -/
def State.dueSwitches (s : State) : List (Nat × Nat) := sortBy (fun (x y : Nat × Nat) => decide (x.1 < y.1)) s.beam.switches

/-- Whether the switch at `w` makes its page active for set `n`: enabled there, and loaded (R302). -/
def State.switchTakes (s : State) (n : Nat) (w : Nat × Nat) : Bool := (s.at w.1).setEnabled n && bitOf (s.rdN (R.BEAM_WLOAD w.2)) n

/-- The pages of set `n`: from SI, page plus one, newest first; what accepted switches will do to spectra at or above their SI
included, at whatever time those are processed (R15, R302, R303). -/
def State.pageList (s : State) (n : Nat) : List (Nat × Nat) :=
  let pend := match s.pendingAt n with
    | some y => [(y, s.beam.pendPage)]
    | none => []
  (pend ++ s.dueSwitches.filter (fun w => s.switchTakes n w)).foldl (fun l e => if (l.head?.map Prod.snd) = some (e.2 + 1) then l
    else (e.1, e.2 + 1) :: l) (tget [] s.beam.pages n)

/-- The page of set `n` for spectrum `x`, none before a switch has made one active (R302, R304). -/
def State.pageAt (s : State) (n x : Nat) : Option Nat :=
  match (s.pageList n).find? (fun e => decide (e.1 ≤ x)) with
  | some (_, p + 1) => some p
  | _ => none

/-- The spectra of block number `b` at which the page of set `n` changes, ascending, within the block (R302). -/
def State.pageSplits (s : State) (n b : Nat) : List Nat :=
  ascending (((s.pageList n).map (fun e => e.1)).filter (fun x => decide (b * 128 < x) && decide (x < b * 128 + 128)))

/-- The parts of a chain: start and length within the block (R291, R302). -/
def State.chainParts (s : State) (n b : Nat) : List (Nat × Nat) :=
  let cuts := 0 :: (s.pageSplits n b).map (fun x => x - b * 128)
  (cuts.zip (cuts.drop 1 ++ [128])).map (fun p => (p.1, p.2 - p.1))

/-- The channel slots of a beam record (R341). -/
def BeamRec.slots (r : BeamRec) : List Nat := (List.range r.count).map (fun n => r.first + n * r.stride)

/-- The set that position `t` is assigned to, by its first record. -/
def State.setOf (s : State) (t : Nat) : Option Nat := (s.array.plan.recs.find? (fun r => r.tile == t)).map BeamRec.set

/-- Whether position `t` forms set beams of slot `c` (R290). -/
def State.assigned (s : State) (t c : Nat) : Bool := s.array.plan.recs.any (fun r => r.tile == t && r.slots.contains c)

/-- Whether position `t` has a physical tile that can be given orders (R214, R325). -/
def State.placed (s : State) (t : Nat) : Bool := (s.physOf t).isSome && !s.isMissing t

/-- Whether the beam work of set `n` on slot `c` at SI `x` is shed: by the throttle, or for want of the tile that it is assigned to
(R214, R324, R325, R633). -/
def State.beamShed (s : State) (n c x : Nat) : Bool :=
  (s.shedAt x).sets.contains n || (s.shedAt x).slots.contains c
    || s.array.plan.recs.any (fun r => r.set == n && r.slots.contains c && !s.placed r.tile)

/-- Whether the beam work of position `t` on a channel block was cancelled for the reserve (R308). -/
def State.cancelled (s : State) (t slot b : Nat) : Bool :=
  s.ingest.cancelled.any (fun x => x.slot == slot && x.b == b && !x.readBy.contains t)

/-- The SIs at which accessions cut spans, blocks and periods, a scheduled one included, with the ends of their gaps (R15, R314,
R322). -/
def State.cuts (s : State) : List Nat :=
  s.beam.cuts ++ (if s.accDue.isSome then s.cat.acc.toList.flatMap (fun e => if e.1 = e.2 then [e.1] else [e.1, e.2]) else [])

/-- The pieces into which accessions cut [a, e). -/
def State.pieces (s : State) (a e : Nat) : List (Nat × Nat) :=
  let cs := ascending (a :: s.cuts.filter (fun x => decide (a < x) && decide (x < e)))
  cs.zip (cs.drop 1 ++ [e])

/-- The segments into which accessions cut [a, e), without those that lie in an accession gap (R314, R365). -/
def State.segments (s : State) (a e : Nat) : List (Nat × Nat) :=
  let gs := s.ingest.gaps ++ (if s.accDue.isSome then s.cat.acc.toList else [])
  (s.pieces a e).filter (fun p => !gs.any (fun g => decide (g.1 ≤ p.1) && decide (p.2 ≤ g.2)))

/-- Whether set `n` forms beams in any part of block number `b` (R289, R314). -/
def State.setForms (s : State) (n b : Nat) : Bool := (s.pieces (b * 128) (b * 128 + 128)).any (fun p => (s.at p.1).setEnabled n)

/-- Whether block number `b` belongs to a heavy accession that is scheduled and whose plan the sequencer does not hold. -/
def State.beyondPlan (s : State) (b : Nat) : Bool := s.fbit F.CAT_STATUS_HEAVY && s.accDue.any (fun x => decide (x ≤ b * 128))

/-- Whether position `t` must form beams from a released channel block (R291, R308, R324). -/
def State.beamReader (s : State) (t : Nat) (c : ChanBlk) : Bool :=
  match s.setOf t with
  | none => false
  | some n => s.roleOf t == 2 && s.placed t && s.assigned t c.slot && s.setForms n c.b && !s.beyondPlan c.b
      && !s.beamShed n c.slot (c.b * 128) && !s.cancelled t c.slot c.b

/-! ### Weights -/

/-- A signed little-endian field of `n` bytes. -/
def State.ldInt (s : State) (a n : Nat) : Int := toSigned (8 * n) (s.ldNat a n)

/-- The weight of the beam at `b` of its set for input `i` and slot `c`, from page `pg` of the Carrel at `base`, with whether a
part was clamped (R297, R298). -/
def State.weight (s : State) (v : State) (base pg b i c : Nat) : Int × Int × Bool :=
  let ia := base + pg * 0x10000 + 32 * i
  let ba := base + 0x20000 + pg * 0x200 + 16 * b
  let dot := s.ldInt ba 2 * s.ldInt ia 4 + s.ldInt (ba + 2) 2 * s.ldInt (ia + 4) 4 + s.ldInt (ba + 4) 2 * s.ldInt (ia + 8) 4
  let tau := dot / 2 ^ 15 + s.ldInt (ia + 12) 4 + s.ldInt (ba + 8) 4
  let phi := ((v.rdN (R.BEAM_FREQ c) : Int) * tau / 2 ^ 8 + (s.ldNat (ba + 6) 2 : Int) * 2 ^ 16) % 2 ^ 32
  let psi := phi.toNat / 2 ^ 20
  let co := cosRound (2 ^ 14) psi
  let si := sinRound (2 ^ 14) psi
  let g := s.ldInt (ia + 16) 2
  let h := s.ldInt (ia + 18) 2
  let amp : Int := s.ldNat (ba + 12) 2
  let q := fun (z : Int) => if v.w8 then (2 ^ 8 * amp * z + 2 ^ 43) / 2 ^ 44 else (2 ^ 5 * amp * z + 2 ^ 43) / 2 ^ 44
  let hold := fun (z : Int) => if v.w8 then max (-127) (min z 127) else max (-16) (min z 15)
  let re := q (g * co + h * si)
  let im := q (h * co - g * si)
  if bitOf (s.ldNat (ia + 20) 1) 0 || bitOf (s.ldNat (ba + 14) 1) 0 then (0, 0, false)
  else (hold re, hold im, hold re != re || hold im != im)

/-- Adds `n` to a counter kept in units of 1,024, with what is short of a unit; gives the units and the rest. -/
def units (acc n : Nat) : Nat × Nat := ((acc + n) / 1024, (acc + n) % 1024)

/-- Adds to BEAM.WCLAMP and BEAM.WSTALL, in units of 1,024 (R295, R298). -/
def State.countClamp (s : State) (n : Nat) : State :=
  (s.countBy R.BEAM_WCLAMP (units s.beam.clampAcc n).1).beamMod (fun b => { b with clampAcc := (units b.clampAcc n).2 })
def State.countWstall (s : State) (n : Nat) : State :=
  (s.countBy R.BEAM_WSTALL (units s.beam.stallAcc n).1).beamMod (fun b => { b with stallAcc := (units b.stallAcc n).2 })

/-! ### Beam sums -/

/-- Address of the sum of beam `b` at spectrum `j` in sum buffer `f` (R294). -/
def sumAddr (base f j b : Nat) : Nat := base + 0x30000 + f * 0x8000 + 256 * j + 8 * b

/-- The sample of input `i` at spectrum `j` of a channel block; flagged samples are 0 + j0 (R179). -/
def State.sampleVal (s : State) (c : ChanBlk) (i j : Nat) : Int × Int :=
  let w := (s.at (c.b * 128 + j)).w8
  if s.cause c i j ≠ 0 then (0, 0) else (compVal w (s.sampleCode c i j).1, compVal w (s.sampleCode c i j).2)

/-- Adds the adder trees' outputs of an order for the spectra `js` of block `c`, under the weights `ws`, into the sum buffer (R292,
R293). -/
def State.addTrees (s : State) (t : Nat) (o : QOrd) (c : ChanBlk) (ws : List (List (Int × Int × Bool))) (js : List Nat) : State :=
  let base := carrelAddr (s.phys t)
  let buf := (s.tile t).buf
  s.forEach js (fun u j =>
    let xs := (List.range 32).map (fun k => s.sampleVal c (32 * o.bits 105 98 + k) j)
    u.forEach (ws.zipIdx) (fun u wb =>
      let a := sumAddr base buf j wb.2
      let re := ((xs.zip wb.1).map (fun p => p.1.1 * p.2.1 - p.1.2 * p.2.2.1)).sum
      let im := ((xs.zip wb.1).map (fun p => p.1.1 * p.2.2.1 + p.1.2 * p.2.1)).sum
      let old := if bitOf o.word.toNat 123 then (0, 0) else (u.ldInt a 4, u.ldInt (a + 4) 4)
      (u.stNat a 4 (fromSigned 32 (old.1 + re))).stNat (a + 4) 4 (fromSigned 32 (old.2 + im))))

/-- Runs a BPASS of tile `t`: the adder trees' outputs for its input group go into the sum buffer, each spectrum under the Catalogue of
its SI (R185, R292, R293, R323). -/
def State.runBpass (s : State) (t : Nat) (o : QOrd) : State :=
  match s.blkOf o.chan o.blk with
  | none => s
  | some c =>
    s.forEach (s.pieces (o.blk * 128) (o.blk * 128 + 128)) (fun u p =>
      let js := ((List.range o.len).map (fun d => o.bits 89 74 + d)).filter (fun j =>
        decide (p.1 ≤ o.blk * 128 + j) && decide (o.blk * 128 + j < p.2))
      if js.isEmpty then u
      else
        let ws := (List.range 32).map (fun b => (List.range 32).map (fun k =>
          s.weight (s.at p.1) (carrelAddr (s.phys t)) (o.bits 5 2) b (32 * o.bits 105 98 + k) o.chan))
        (u.countClamp ((ws.flatMap id).filter (fun w => w.2.2)).length).addTrees t o c ws js)

/-- What follows a BPASS: with the last order of its chain the block has been read and its sums can be read out (R291, R294). -/
def State.bpassDone (s : State) (t : Nat) (o : QOrd) : State :=
  match s.blkOf o.chan o.blk with
  | none => s
  | some c =>
    if bitOf o.word.toNat 122 && o.bits 89 74 + o.len == 128 then
      (s.putBlk { c with readBy := c.readBy ++ [t] }).tileMod t (fun q =>
        { q with readable := q.readable ++ [(s.heldBlk c, q.buf)], buf := 1 - q.buf })
    else s

/-- The BPASS of a chain: slot `c`, block `b`, group `g`, the part with its start and length, of set `n` (R204, R291, R302). -/
def State.bpassOrder (s : State) (n c b g : Nat) (part : Nat × Nat) : QOrd :=
  let v := s.at (b * 128)
  let f : OrdF := {
    op := 2, f1 := g == 0, f2 := g + 1 == v.nIn / 32, row := g, start := part.1, len := part.2, chan := c,
    base := 32 * n, page := (s.pageAt n (b * 128 + part.1)).getD 0 }
  { word := f.word, blk := b }

/-- The next BPASS of tile `t`: of the chain being issued, else of the oldest released block that it must read and has not
begun (R291). -/
def State.nextBpass (s : State) (t : Nat) : State :=
  match s.setOf t with
  | none => s
  | some n =>
    let q := s.tile t
    let begun := fun (c : ChanBlk) => c.readBy.contains t || q.readable.any (fun r => r.1.slot == c.slot && r.1.b == c.b)
      || q.queue.any (fun o => o.op == 2 && o.chan == c.slot && o.blk == c.b)
    let cur := match q.chain.filter (fun x => (s.blkOf x.1 x.2.1).isSome) with
      | some x => some x
      | none => (s.ingest.blks.find? (fun (c : ChanBlk) => c.released && s.beamReader t c && !begun c)).map (fun (c : ChanBlk) => (c.slot, c.b, 0, s.chainParts n c.b))
    match cur with
    | none => s
    | some (c, b, g, ps) =>
      let o := s.bpassOrder n c b g (ps.headD (0, 128))
      let next := if g + 1 < (s.at (b * 128)).nIn / 32 then some (c, b, g + 1, ps)
        else if (ps.drop 1).isEmpty then none else some (c, b, 0, ps.drop 1)
      (s.tileMod t (fun q => { q with queue := q.queue ++ [o], chain := next })).showQueue t

/-- Whether every position that must read a channel block has read it (R144). -/
def State.allRead (s : State) (c : ChanBlk) : Bool := (List.range 400).all (fun t => !s.beamReader t c || c.readBy.contains t)

/-- STAGING_FREE: every beam-role position that must read a released channel block has read it, and its space is freed
(R144). -/
def execStagingFree (slot b : Nat) (s : State) : Host.Outcome State Fault Refusal :=
  .next (match s.blkOf slot b with
    | some c =>
      if c.released && s.allRead c then (s.dropBlk slot b).showStage
      else s
    | none => s)

/-! ### Release -/

/-- Makes room in the reserve for the held channel blocks: a block that every reader has read is freed; where the reserve would hold more
than 4 MiB the outstanding beam work on the oldest held block is cancelled and the block freed (R308). -/
def State.reserveShed : Nat → State → State
  | 0, s => s
  | fuel + 1, s =>
    if s.heldBytes ≤ 4 * 2 ^ 20 then s
    else match s.ingest.blks.find? (fun c => c.released && decide (0 < c.alloc)) with
      | none => s
      | some c =>
        if s.allRead c then State.reserveShed fuel (s.dropBlk c.slot c.b)
        else State.reserveShed fuel (((s.dropBlk c.slot c.b).ingMod
          (fun g => { g with cancelled := g.cancelled ++ [s.heldBlk c] })).count R.BEAM_STAGE_SHED)

/-- Releases closed channel block `c`, next of its slot: monitored, excised, written to the Archive where some tile has the
correlation role, and held for the beam-role tiles (R144, R154 to R164, R308). -/
def State.releaseBlk (s : State) (c : ChanBlk) : State :=
  let v := s.at (c.b * 128)
  let r := monitorAll s c
  let c1 := { r.2 with released := true }
  let s1 := ((r.1.dropBlk c.slot c.b).addBlk c1).bumpRel c.slot c.b
  let s2 := s1.doIf v.corrRole (fun u => u.cornerWrite c1)
  (s2.reserveShed s2.ingest.blks.length).showStage

/-- CHANNEL_BLOCK_RELEASE: a closed channel block, next of its slot, is released to its readers (R144). -/
def execChannelBlockRelease (slot b : Nat) (s : State) : Host.Outcome State Fault Refusal :=
  .next (match s.blkOf slot b with
    | some c => if c.closed && !c.released && s.nextRel slot b == b then s.releaseBlk c else s
    | none => s)

end Sys2Proof.Machine
end

