-- ==== Sys2Proof/Machine/Array.lean ====
section
/-!
DEFINITION. Machine/Array.lean: dwell windows, rounds, orders, passes, write-backs, checks and retirement (R173 to R234).
-/
namespace Sys2Proof.Machine

/-! ### Operands and sums -/

/-- Bytes of one operand buffer (R190, R256). -/
def State.bufBytes (s : State) : Nat := if s.pv.fbit F.ACCUM_CFG_EXACT_WT then 0x10000 else 0x14000

/-- Carrel offset of sum slot `k` (R190). -/
def slotOff (k : Nat) : Nat := 0x28000 + k * 0x1800

/-- Carrel offset of count slot `k` (R256). -/
def countOff (k : Nat) : Nat := 0x20000 + k * 0x800

/-- The component values of a stored sample, and whether it is flagged; a flagged sample is 0 + j0 (R132, R151, R179). -/
def sampleOf (w8 : Bool) (bs : List Byte) : Int × Int × Bool :=
  let b0 := (bs.getD 0 0).toNat
  let c := if w8 then (b0, (bs.getD 1 0).toNat) else (b0 / 16, b0 % 16)
  if isFlag w8 c.1 || isFlag w8 c.2 then (0, 0, true) else (compVal w8 c.1, compVal w8 c.2, false)

/-- Adds one spectrum's product x · conj(y) to a cell, saturating each part at ±524,287, and counts it where neither sample is
flagged (R178, R181, R255). -/
def cellAdd (acc : CellSum × Bool) (x y : Int × Int × Bool) : CellSum × Bool :=
  let re := satSym 524287 (acc.1.re + (x.1 * y.1 + x.2.1 * y.2.1))
  let im := satSym 524287 (acc.1.im + (x.2.1 * y.1 - x.1 * y.2.1))
  (⟨re.1, im.1, acc.1.n + b2n (!x.2.2 && !y.2.2)⟩, acc.2 || re.2 || im.2)

/-- The operand of element `i` of group `g` at spectrum `sp` for a PASS of tile `t`: from its operand buffer, or in a resident
plan from the operand network (R191, R193, R217). -/
def State.operand (s : State) (t : Nat) (o : QOrd) (g i sp : Nat) : Int × Int × Bool :=
  let v := s.pv
  let b := v.sampleBytes
  if bitOf o.word.toNat 120 then
    let m := match s.runOf o.run with
      | some r => r.m
      | none => 0
    sampleOf v.w8 (s.arcBytes (v.cornerOffset (m % 2) o.chan sp (32 * g + i)) b)
  else
    let u := s.ordRound o
    let gs := match s.runOf o.run with
      | some r => s.spans r t u
      | none => []
    let k := (findIdxFrom (fun x => x == g) 0 gs).getD 0
    sampleOf v.w8 (s.ldBytes (carrelAddr (s.phys t) + (u % 2) * s.bufBytes + k * (32 * v.passLen * b) + sp * (32 * b) + i * b) b)

/-- The 1,024 sums of a PASS of tile `t`, and the OR of the SAT bits (R178 to R184, R203). -/
def State.passSums (s : State) (t : Nat) (o : QOrd) : Sums :=
  let sps := (List.range o.len).map (fun d => o.bits 89 74 + d)
  let rows := sps.map (fun sp => (List.range 32).map (fun i => s.operand t o (o.bits 105 98) i sp))
  let cols := sps.map (fun sp => (List.range 32).map (fun i => s.operand t o (o.bits 97 90) i sp))
  let cell := fun (r c : Nat) => (rows.zip cols).foldl (fun acc x => cellAdd acc (x.1.getD r (0, 0, true)) (x.2.getD c (0, 0, true)))
    (({} : CellSum), false)
  let all := (List.range 32).flatMap (fun r => (List.range 32).map (fun c => cell r c))
  { tile := t, ord := o, cells := all.map Prod.fst, sat := all.any Prod.snd,
    corrupt := !bitOf o.word.toNat 120 && (s.tile t).badBuf.contains (s.ordRound o % 2),
    suspect := s.array.suspects.contains (s.phys t) }

/-! ### Slots -/

/-- Bytes of one part of a sum slot (R239). -/
def State.slotWidth (s : State) : Nat := if s.pv.w8 then 6 else 3

/-- The sums of slot `k` of tile `t`, with their counts (R239, R256). -/
def State.slotCells (s : State) (t k : Nat) : List CellSum :=
  let base := carrelAddr (s.phys t)
  let w := s.slotWidth
  (List.range 1024).map (fun n => ⟨s.ldInt (base + slotOff k + 2 * w * n) w, s.ldInt (base + slotOff k + 2 * w * n + w) w,
    if s.pv.fbit F.ACCUM_CFG_EXACT_WT then s.ldNat (base + countOff k + 2 * n) 2 else 0⟩)

/-- Stores sums in slot `k` of tile `t` (R239, R256). -/
def State.putSlot (s : State) (t k : Nat) (cs : List CellSum) : State :=
  let base := carrelAddr (s.phys t)
  let w := s.slotWidth
  s.forEach cs.zipIdx (fun u e =>
    let u1 := u.stBytes (base + slotOff k + 2 * w * e.2) (leBytes w (fromSigned (8 * w) e.1.re) ++ leBytes w (fromSigned (8 * w) e.1.im))
    u1.doIf (s.pv.fbit F.ACCUM_CFG_EXACT_WT) (fun x => x.stNat (base + countOff k + 2 * e.2) 2 e.1.n))

/-- Slot `k` of tile `t` beside its bytes. -/
def State.slotSt (s : State) (t k : Nat) : SlotSt := tget {} s.array.slots (16 * t + k)

/-- Changes slot `k` of tile `t` beside its bytes. -/
def State.slotMod (s : State) (t k : Nat) (f : SlotSt → SlotSt) : State :=
  s.arrMod (fun a => { a with slots := tmod {} a.slots (16 * t + k) f })

/-- The orders whose access to slot `k` of tile `t` is outstanding: PASSes not yet written back, and SPILLs not yet
acknowledged (R198, R210). -/
def State.slotOrders (s : State) (t k : Nat) : List QOrd :=
  let passes := s.array.tiles.flatMap (fun e => e.2.queue ++ e.2.cur.toList ++ (e.2.cells.toList.map Sums.ord)) ++ s.array.wbs.map Sums.ord
  let spills := (s.tile t).queue ++ (s.tile t).todo
    ++ s.array.paths.flatMap (fun e => (e.2.filter (fun x => x.tile == t)).map Sums.ord)
  passes.filter (fun o => o.into t k) ++ spills.filter (fun o => o.op == 3 && o.bits 110 106 == k)

/-- Whether an outstanding access to slot `k` of tile `t` comes before that of order `o`: of an earlier dwell, or of the same dwell
with an earlier tag (R210). -/
def State.slotAhead (s : State) (t k : Nat) (o : QOrd) : Bool :=
  (s.slotOrders t k).any (fun x => decide (x.run < o.run) || (x.run == o.run && (decide (x.chan < o.chan)
    || (x.chan == o.chan && tagBefore (x.bits 31 16) (o.bits 31 16)))))

/-- Whether the dwell (run, chan) of an order has been abandoned. -/
def State.dwellAbandoned (s : State) (o : QOrd) : Bool :=
  match s.runOf o.run with
  | some r => r.abandoned.contains o.chan
  | none => true

/-- Whether the dwell that slot state `x` belongs to will make no further access to its slot: all retired, abandoned or gone. -/
def State.slotOver (s : State) (x : SlotSt) : Bool :=
  x.closed || (match s.runOf x.run with
    | some r => !r.live x.chan
    | none => true)

/-- Whether an access to slot `k` of tile `t` by an order is next in tag order: no outstanding access comes before it, and but for an
abandoned dwell, whose missing orders were never issued, its tag is the next of its dwell (R198, R210, R215). -/
def State.nextTag (s : State) (t k : Nat) (o : QOrd) : Bool :=
  let x := s.slotSt t k
  !s.slotAhead t k o && (s.dwellAbandoned o
    || (if x.run == o.run && x.chan == o.chan then o.bits 31 16 == x.next % 65536 else o.bits 31 16 == 0 && s.slotOver x))

/-- The slot state for an access of an order: the same dwell's, or a fresh one. -/
def slotFor (x : SlotSt) (o : QOrd) : SlotSt :=
  if x.run == o.run && x.chan == o.chan then x else { run := o.run, chan := o.chan }

/-! ### Retire-pending tiles and abandoned dwells -/

/-- Marks physical tile `p` retire-pending with a cause (R209, R223, R224, R227). -/
def State.retirePend (s : State) (p cause : Nat) : State :=
  if tget 0 s.array.pend p ≠ 0 ∨ !s.serving p then s
  else
    let s1 := (s.arrMod (fun a => { a with pend := tset 0 a.pend p 1 })).setFlag R.ARRAY_RETIRE_PEND p true
    (((s1.fput (F.ARRAY_PMAP_PEND p) 1).fput (F.ARRAY_PMAP_CAUSE p) cause).raise F.ARRAY_EVENT_RETIRE_PEND).raiseTev
      (s.fget (F.ARRAY_PMAP_LOGICAL p)) 5

/-- Records ARRAY.LAST_ERR. -/
def State.lastErr (s : State) (kind p : Nat) : State := (s.fput F.ARRAY_LAST_ERR_KIND kind).fput F.ARRAY_LAST_ERR_PHYS p

/-- Counts one abandoned or shed channel dwell in the integrations of a run's parts (R271). -/
def State.noteShedDwell (s : State) (r : WinRun) : State :=
  s.forEach (r.parts.map Part.integ).dedup (fun u i => u.integMod i (fun j => { j with shedDwells := j.shedDwells + 1 }))

/-- Abandons the dwell of slot `c` of a run, unless all its SPILLs have been issued (R215). -/
def State.abandonDwell (s : State) (id c : Nat) : State :=
  match s.runOf id with
  | none => s
  | some r =>
    if !r.live c || s.allIssued r c then s
    else
      let s1 := (s.runMod id (fun q => { q with abandoned := q.abandoned ++ [c] })).arrMod (fun a =>
        { a with tiles := a.tiles.map (fun e => (e.1, { e.2 with todo := e.2.todo.filter (fun o => !(o.op == 3 && o.run == id && o.chan == c)) })) })
      ((((s1.count R.ARRAY_ABANDONED).raise F.ARRAY_EVENT_ABANDON).noteShedDwell r).drainIssue).showRunning

/-- Abandons every unfinished dwell of a run (R23). -/
def State.abandonRun (s : State) (r : WinRun) : State :=
  s.forEach (List.range s.pv.nChan) (fun u c => u.abandonDwell r.id c)

/-! ### Spares and retirement -/

/-- The free spares of wing `w`, ascending (R174). -/
def State.spares (s : State) (w : Nat) : List Nat := ((List.range 100).map (fun k => 100 * w + k)).filter (fun p => s.freeSpare p)

/-- The beam sets to which the plan assigns position `t`. -/
def State.setsOf (s : State) (t : Nat) : List Nat := ((s.array.plan.recs.filter (fun r => r.tile == t)).map BeamRec.set).dedup

/-- Takes the weight pages from set `n`: neither loaded nor active (R176, R304). -/
def State.dropWeights (s : State) (n x : Nat) : State :=
  let s1 := (s.fput ⟨R.BEAM_WLOAD 0, n, 1⟩ 0).fput ⟨R.BEAM_WLOAD 1, n, 1⟩ 0
  let s2 := s1.beamMod (fun b => { b with pages := tset [] b.pages n ((x, 0) :: tget [] b.pages n) })
  ((s2.fput (F.BEAM_SET_STATUS_NO_WEIGHTS n) 1).fput (F.BEAM_SET_STATUS_PAGE n) 0).fput ⟨R.BEAM_ACTIVE_PAGE, n, 1⟩ 0

/-- What a change of physical tile leaves of a position: its place in the plan and the checks it owes; orders, sums and marks stay
behind. -/
def freshTile (q : TileSt) : TileSt :=
  { run := q.run, issRound := q.issRound, round := q.round, checkDue := q.checkDue, nowDue := min q.nowDue 1 }

/-- Position `t` leaves its physical tile: what stood in it goes, and a staged block whose sums were not read out is to be read
again by whoever forms its beams. -/
def State.leaveTile (s : State) (t : Nat) : State :=
  let lost := (s.tile t).readable
  let s1 := s.ingMod (fun g => { g with blks := g.blks.map (fun c =>
    if lost.any (fun r => r.1.slot == c.slot && r.1.b == c.b) then { c with readBy := c.readBy.filter (fun y => y != t) } else c) })
  s1.tileMod t freshTile

/-- Names the spare positions of wing `w` afresh: a position that now names another tile leaves what stood in the old one and takes the
weights from its sets, and one that no longer exists loses its work (R175, R176). -/
def State.nameSpares (s : State) (w x : Nat) : State :=
  let ps := s.spares w
  let s1 := s.forEach ps.zipIdx (fun u e =>
    let l := if e.2 < 4 then 384 + 4 * w + e.2 else 0x1FF
    let old := s.fget (F.ARRAY_PMAP_LOGICAL e.1)
    let u1 := (u.fput (F.ARRAY_PMAP_LOGICAL e.1) l).fput (F.ARRAY_PMAP_ROLE e.1) (if e.2 < 4 then s.roleOf l else 0)
    if l ≠ old ∧ e.2 < 4 then (u1.leaveTile l).forEach (s.setsOf l) (fun u n => u.dropWeights n x) else u1)
  let s2 := s1.forEach ((List.range 4).filter (fun k => decide (ps.length ≤ k))) (fun u k =>
    ((u.leaveTile (384 + 4 * w + k)).tileMod (384 + 4 * w + k) (fun _ => {})).beamMod (fun b =>
      { b with gone := b.gone ++ ((s.setsOf (384 + 4 * w + k)).filter (fun n => !b.gone.any (fun e => e.1 == n))).map (fun n => (n, x)) }))
  let s3 := s2.forEach ps.zipIdx (fun u e => if e.2 < 4 then u.showQueue (384 + 4 * w + e.2) else u.putQueue e.1 [])
  s3.fput F.ARRAY_STATUS_FREE_SPARES (((List.range 4).map (fun k => (s3.spares k).length)).sum)

/-- Makes logical tile `l` MISSING (R226). -/
def State.setMissing (s : State) (l : Nat) : State := (s.setFlag R.ARRAY_MISSING l true).raise F.ARRAY_EVENT_MISSING

/-- Physical tile `p` leaves service in state `gone`: it names no position, holds no order and is no longer retire-pending (R220,
R225, R227). -/
def State.takeOut (s : State) (p gone : Nat) : State :=
  let s1 := ((s.fput (F.ARRAY_PMAP_STATE p) gone).fput (F.ARRAY_PMAP_LOGICAL p) 0x1FF).fput (F.ARRAY_PMAP_ROLE p) 0
  let s2 := ((s1.fput (F.ARRAY_PMAP_PEND p) 0).setFlag R.ARRAY_RETIRE_PEND p false).setFlag R.ARRAY_RETIRE_REQ p false
  (s2.arrMod (fun a => { a with pend := terase a.pend p, suspects := a.suspects.filter (fun q => q != p) })).putQueue p []

/-- Moves logical tile `l` from physical tile `p` to the highest free spare of its wing, which raises the tile's RETIRED, or makes it
MISSING; `gone` is the state that `p` takes (R174, R225, R226, R232). -/
def State.moveTile (s : State) (l p gone x : Nat) : State :=
  let w := p / 100
  let s1 := (s.leaveTile l).takeOut p gone
  match (s1.spares w).getLast? with
  | some f =>
    let s2 := ((s1.fput (F.ARRAY_PMAP_STATE f) 1).fput (F.ARRAY_PMAP_LOGICAL f) l).fput (F.ARRAY_PMAP_ROLE f) (s.fget (F.ARRAY_PMAP_ROLE p))
    ((s2.nameSpares w x).showQueue l).raiseTev l 4
  | none =>
    let r : TileRec := ⟨x, l, p, 0xFFFF, s.fget (F.ARRAY_PMAP_CAUSE p), gone⟩
    ((s1.arrMod (fun a => { a with gone := tset {} a.gone l r })).setMissing l).raise F.ARRAY_EVENT_SPARE_EXHAUSTED

/-- Retires physical tile `p` at the window that starts at SI `x`, with its record in the integration of that SI; one that is MISSING
from then on is so too in the integrations that have opened since (R225, R227, R272). -/
def State.retireTile (s : State) (p x : Nat) : State :=
  let l := s.fget (F.ARRAY_PMAP_LOGICAL p)
  if s.freeSpare p then ((s.takeOut p 4).nameSpares (p / 100) x).raise F.ARRAY_EVENT_RETIRED
  else
    let s1 := (s.moveTile l p 4 x).raise F.ARRAY_EVENT_RETIRED
    let r : TileRec := ⟨x, l, p, (s1.physOf l).getD 0xFFFF, s.fget (F.ARRAY_PMAP_CAUSE p), 4⟩
    let s2 := match s1.integAt x with
      | some i => s1.integMod i.id (fun j => { j with recs := j.recs ++ [r] })
      | none => s1
    if (s1.physOf l).isSome then s2
    else s2.accMod (fun a => { a with integs := a.integs.map (fun i => if x < i.a then { i with recs := i.recs ++ [{ r with si := i.a }] } else i) })

/-- The physical tiles that retire at a window that starts at SI `x` (R225, R227). -/
def State.dueTiles (s : State) (x : Nat) : List Nat :=
  ((s.array.pend.filter (fun e => decide (2 ≤ e.2) && decide (e.2 - 2 ≤ x))).map Prod.fst).filter (fun p => s.serving p)

/-- Whether a tile that is to retire at SI `x` still holds passes or spills of an earlier window: it finishes them first. -/
def State.dueHeld (s : State) (x : Nat) : Bool :=
  (s.dueTiles x).any (fun p =>
    let t := s.fget (F.ARRAY_PMAP_LOGICAL p)
    let q := s.tile t
    (q.queue ++ q.todo ++ q.cur.toList).any (fun o => o.op == 1 || o.op == 3) || q.cells.isSome || q.shadow.isSome
      || s.array.wbs.any (fun w => w.tile == t || w.ord.bits 119 111 == t))

/-- CTRL.CHECK_NOW clears once every tile that can be given orders has been checked (R229). -/
def State.checkNowDone (s : State) : State :=
  if s.array.tiles.any (fun e => e.2.nowDue != 0 && (s.physOf e.1).isSome && !s.isMissing e.1) then s else s.fput F.ARRAY_CTRL_CHECK_NOW 0

/-- Retires every tile whose time has come at the window that starts at SI `x`: free spares first (R225, R227). -/
def State.retireDue (s : State) (x : Nat) : State :=
  let due := s.dueTiles x
  let s1 := s.forEach (due.filter (fun p => s.freeSpare p)) (fun u p => u.retireTile p x)
  let s2 := s1.forEach (due.filter (fun p => !s.freeSpare p)) (fun u p => u.retireTile p x)
  if due.isEmpty then s else s2.showSets.checkNowDone

/-- What an accession at SI `x` does to retire-pending tiles: it fixes the SI from which they retire (R225). -/
def State.retireAtAcc (s : State) (x : Nat) : State :=
  s.arrMod (fun a => { a with pend := a.pend.map (fun e => (e.1, if e.2 = 1 then x + 2 else e.2)) })

/-- Refreshes ARRAY.MISSING: a logical tile with no working physical tile, or on a CARREL_FAULT tile under a plan that is not
resident (R226). -/
def State.refreshMissing (s : State) (resident : Bool) : State :=
  s.forEach (List.range 384) (fun u t =>
    let bad := match u.physOf t with
      | none => true
      | some p => u.fget (F.ARRAY_PMAP_STATE p) == 5 && !resident
    if bad then (if u.isMissing t then u else u.setMissing t) else u.setFlag R.ARRAY_MISSING t false)

/-! ### Windows -/

/-- The registers under which the blocks of an era were taken (R363). -/
def State.eraView (s : State) (old : Bool) : State := if old then { s with regs := s.oldRegs } else s

/-- The SIs of window `m` that belong to the era: from, to. -/
def State.eraSpan (s : State) (m : Nat) (old : Bool) : Nat × Nat :=
  let v := s.eraView old
  let e := if old then s.ingest.eraOld else s.ingest.era
  (max (m * v.dwell) (e.first * 128), if old then min ((m + 1) * v.dwell) s.ingest.eraX else (m + 1) * v.dwell)

/-- How many channel blocks of window `m` the era holds. -/
def State.eraBlocks (s : State) (m : Nat) (old : Bool) : Nat :=
  let x := s.eraSpan m old
  (s.eraView old).nChan * (ceilDiv x.2 128 - x.1 / 128)

/-- Drops ready windows that never started: every channel dwell of theirs is abandoned (R23). -/
def State.dropReady (s : State) : State :=
  s.forEach s.array.ready (fun u r =>
    let v := u.eraView r.2
    let x := u.eraSpan r.1 r.2
    let u1 := (u.countBy R.ARRAY_ABANDONED v.nChan).raise F.ARRAY_EVENT_ABANDON
    let u2 := u1.forEach u1.accum.integs (fun u i =>
      if decide (i.a < x.2) && decide (x.1 < i.e.getD x.2) then
        u.integMod i.id (fun j => { j with shedDwells := j.shedDwells + v.nChan }) else u)
    u2.arrMod (fun a => { a with ready := a.ready.filter (fun q => q != r), till := max a.till x.2 }))

/-- DWELL_WINDOW_READY: the last channel block of window `m` has been written; a window not yet finished is abandoned (R23,
R165). `old` names the blocks before the last heavy accession. -/
def execDwellWindowReady (m : Nat) (old : Bool) (s : State) : Host.Outcome State Fault Refusal :=
  .next (
    let e := if old then s.ingest.eraOld else s.ingest.era
    let n := tget 0 e.win m
    if n = 0 ∨ n < s.eraBlocks m old then s
    else
      let s0 := s.ingMod (fun g => if old then { g with eraOld := { g.eraOld with win := terase g.eraOld.win m } }
        else { g with era := { g.era with win := terase g.era.win m } })
      let s1 := (s0.forEach s0.array.runs (fun u r => if u.runDone r then u else u.abandonRun r)).dropReady
      (s1.arrMod (fun a => { a with ready := a.ready ++ [(m, old)] })).drainIssue)

/-- The parts of the dwells of window `m` over SIs [lo, hi): split where an integration opens or closes (R192, R199, R242). -/
def State.partsOf (s : State) (m lo hi : Nat) : List Part :=
  let v := s.pv
  let cuts := ascending (lo :: (s.accum.bounds.filter (fun x => decide (lo < x) && decide (x < hi))))
  (cuts.zip (cuts.drop 1 ++ [hi])).filterMap (fun p => (s.integAt p.1).map (fun i =>
    { k0 := (p.1 - m * v.dwell) / v.passLen, k1 := (p.2 - m * v.dwell) / v.passLen, integ := i.id, bank := i.bank,
      ovw := decide (m * v.dwell ≤ i.a) }))

/-- Whether a run has anything outstanding: orders, write-backs or spills. -/
def State.runHeld (s : State) (id : Nat) : Bool :=
  s.array.wbs.any (fun w => w.ord.run == id) || s.array.paths.any (fun e => e.2.any (fun x => x.ord.run == id))
    || s.array.tiles.any (fun e => (e.2.queue ++ e.2.todo ++ e.2.cur.toList).any (fun o => o.op != 4 && o.run == id)
      || (e.2.cells.toList ++ e.2.shadow.toList).any (fun x => x.ord.run == id))

/-- ARRAY_WINDOW_START: the array starts the oldest ready window; tiles due for it retire first, once they have finished the windows
before it (R192, R225, R633). -/
def execArrayWindowStart (s : State) : Host.Outcome State Fault Refusal :=
  .next (match s.array.ready with
    | [] => s
    | (m, old) :: rest =>
      let sp := s.eraSpan m old
      if s.array.runs.any (fun r => !s.runDone r) || s.dueHeld sp.1 then s
      else
        let s0 := s.retireDue sp.1
        let sh := s0.shedAt (m * s.pv.dwell)
        let r : WinRun := { id := s.array.nextRun, m := m, parts := s0.partsOf m sp.1 sp.2, till := sp.2, shedC := sh.slots,
                            shedG := sh.groups }
        let s1 := s0.arrMod (fun a => { a with
          ready := rest, runs := a.runs.filter (fun q => s0.runHeld q.id) ++ [r], nextRun := a.nextRun + 1,
          till := max a.till sp.2, parity := [],
          tiles := a.tiles.map (fun e => (e.1, { e.2 with run := r.id, round := none, issRound := 0, issIdx := 0 })) })
        let s2 := s1.forEach (s1.corrTiles) (fun u t => u.tileMod t (fun q => { q with run := r.id, round := none, issRound := 0, issIdx := 0 }))
        let s3 := s2.forEach (sh.slots.filter (fun c => decide (c < s.pv.nChan))) (fun u _ => u.noteShedDwell r)
        ((s3.wr64 R.ARRAY_WINDOW_LO R.ARRAY_WINDOW_HI m).showRunning).drainIssue)

/-- The next round of run `r` at or after `u` that is processed. -/
def State.nextRound (s : State) (r : WinRun) (u : Nat) : Option Nat := s.allRounds.find? (fun x => decide (u ≤ x) && s.liveRound r x)

/-- The newest window run. -/
def State.curRun (s : State) : Option WinRun := s.array.runs.getLast?

/-- The next PASS that the sequencer owes tile `t`: round, index, entry (R195, R197). -/
def State.nextPass (s : State) (r : WinRun) (t : Nat) : Option (Nat × Nat × Nat) :=
  let q := s.tile t
  (s.allRounds.filter (fun u => decide (q.issRound ≤ u) && s.liveRound r u)).findSome? (fun u =>
    let i := if u = q.issRound then q.issIdx else 0
    ((s.roundEntries r t u)[i]?).map (fun e => (u, i, e)))

/-- Whether tile `t` has put its last operand of round `u` of run `r` into its pipeline (R193). -/
def State.released (s : State) (r : WinRun) (t u : Nat) : Bool :=
  let q := s.tile t
  q.run != r.id
    || ((match s.nextPass r t with
      | none => true
      | some x => decide (u < x.1))
    && !(q.queue ++ q.cur.toList).any (fun o => o.op == 1 && o.run == r.id && decide (s.ordRound o ≤ u)))

/-- ROUND_READ_START: the reader starts the next round; each tile's group spans go into operand buffer u mod 2. A round with an
uncorrectable unit abandons its channel dwell (R191, R193, R439). -/
def execRoundReadStart (s : State) : Host.Outcome State Fault Refusal :=
  .next (match s.curRun with
    | none => s
    | some r =>
      match s.nextRound r r.readU with
      | none => s
      | some u =>
        let v := s.pv
        let before := (s.allRounds.filter (fun x => decide (x < u) && x % 2 == u % 2)).getLast?
        if !s.residentPlan && (match before with
          | some x => s.corrTiles.any (fun t => !s.released r t x)
          | none => false) then s
        else
          let k := u % v.rpd
          let b := v.sampleBytes
          let off := v.cornerOffset (r.m % 2) (u / v.rpd) (k * v.passLen) 0
          let s1 := s.runMod r.id (fun q => { q with readU := u + 1 })
          if s.arcPoisoned off (v.nIn * v.passLen * b) then
            (s1.noteRead 1 off (v.nIn * v.passLen * b)).abandonDwell r.id (u / v.rpd)
          else if s.residentPlan then s1
          else s1.forEach (s1.corrTiles.filter (fun t => !s.isMissing t)) (fun w t =>
            let base := carrelAddr (s.phys t) + (u % 2) * s.bufBytes
            (w.tileMod t (fun q => { q with badBuf := q.badBuf.filter (fun x => x != u % 2) })).forEach ((s.spans r t u).zipIdx) (fun w g =>
              w.forEach (List.range v.passLen) (fun w sp =>
                w.stBytes (base + g.2 * (32 * v.passLen * b) + sp * (32 * b))
                  (s.arcBytes (v.cornerOffset (r.m % 2) (u / v.rpd) (k * v.passLen + sp) (32 * g.1)) (32 * b))))))

/-- TILE_ROUND_START: tile `t` starts its next round, after `waited` cycles for its group spans (R194). DESIGN CHOICE (log 215): ARRAY.POS
shows the round of the tile that started one last (R229). -/
def execTileRoundStart (t : Fin 400) (waited : Nat) (s : State) : Host.Outcome State Fault Refusal :=
  .next (match s.curRun with
    | none => s
    | some r =>
      let q := s.tile t.val
      let from' := match q.round with
        | some u => u + 1
        | none => 0
      match s.nextRound r from' with
      | none => s
      | some u =>
        if q.run != r.id || !s.corrTiles.contains t.val || (match q.round with
            | some x => !s.released r t.val x
            | none => false) then s
        else
          let s1 := (s.countBy R.ARRAY_OPERAND_WAIT (units s.array.waitAcc waited).1).arrMod
            (fun a => { a with waitAcc := (units a.waitAcc waited).2 })
          if r.readU ≤ u then s1
          else
            let s2 := s1.tileMod t.val (fun q => { q with round := some u })
            (s2.fput F.ARRAY_POS_CHANNEL (u / s.pv.rpd)).fput F.ARRAY_POS_ROUND (u % s.pv.rpd))

/-! ### Orders -/

/-- Writes a SPILL or other held order into the queue of tile `t`; an issued SPILL is counted for its dwell (R199, R200). -/
def State.issueHeld (s : State) (t : Nat) (o : QOrd) (rest : List QOrd) : State :=
  let s1 := s.tileMod t (fun q => { q with queue := q.queue ++ [o], todo := rest })
  let s2 := if o.op = 3 then
      ((s1.runMod o.run (fun r => { r with issued := tmod 0 r.issued (4096 * o.part + o.chan) (· + 1) })).drainIssue).showRunning
    else s1
  s2.showQueue t

/-- ORDER_ISSUE: the sequencer writes one order into the queue of position `t`, where it has room: a due CHECK at its moment
(`waited` says that the head order has waited 16 cycles for operands), an order that it holds, else the next PASS of the plan or
the next BPASS of a chain (R195 to R199, R222, R291). -/
def execOrderIssue (t : Fin 400) (waited : Bool) (s : State) : Host.Outcome State Fault Refusal :=
  .next (
    let q := s.tile t.val
    let due := q.nowDue == 1 || (q.checkDue && s.fbit F.ARRAY_CTRL_CHECK_EN)
    if (s.physOf t.val).isNone ∨ s.isMissing t.val ∨ 16 ≤ q.queue.length then s
    else if due ∧ (q.queue.isEmpty ∨ (waited ∧ q.cur.isNone)) then
      (s.tileMod t.val (fun q => { q with
        queue := checkOrder :: q.queue, checkDue := false, nowDue := if q.nowDue = 0 then 0 else 2 })).showQueue t.val
    else match q.todo with
      | o :: rest => s.issueHeld t.val o rest
      | [] =>
        if s.roleOf t.val = 1 then
          (match s.curRun with
            | none => s
            | some r =>
              match s.nextPass r t.val with
              | none => s
              | some (u, i, e) =>
                (s.tileMod t.val (fun q => { q with queue := q.queue ++ [s.passOrder r t.val u e], issRound := u, issIdx := i + 1 })).showQueue t.val)
        else if s.roleOf t.val = 2 then s.nextBpass t.val
        else s)

/-- Counts an order of tile `t` as retired. -/
def State.countOrder (s : State) (t : Nat) : State :=
  match s.physOf t with
  | some p => s.count (R.ARRAY_TILE_ORDERS p)
  | none => s

/-- Takes the head order off the queue of tile `t`. -/
def State.popOrder (s : State) (t : Nat) : State :=
  (s.tileMod t (fun q => { q with queue := q.queue.drop 1, noted := false })).showQueue t

/-- An order error: the order is discarded, the channel dwell that it belonged to abandoned, and the tile marked retire-pending. A DRAIN
belongs to no dwell; DESIGN CHOICE (log 197): discarded, it can still retire once its integration's work there has (R209). -/
def State.orderError (s : State) (t : Nat) (o : QOrd) : State :=
  let p := s.phys t
  let s1 := (((s.popOrder t).count R.ARRAY_ORDER_ERR).raise F.ARRAY_EVENT_ORDER_ERR).raiseTev t 3
  let s2 := (s1.lastErr 1 p).retirePend p 3
  if o.op = 6 then s2.tileMod t (fun q => { q with nowDue := min q.nowDue 1 })
  else if o.op = 2 ∨ o.op = 4 ∨ o.op = 5 then s2 else s2.abandonDwell o.run o.chan

/-- Counts cycles for which an order of tile `t` stalls under R210 or R245, and the order once under R210. -/
def State.slotStall (s : State) (t cycles : Nat) (once : Bool) : State :=
  (s.countBy (R.ARRAY_TILE_SLOT_STALL (s.phys t)) cycles).doIf once (fun u => u.count R.ARRAY_SLOT_STALLS)

/-- The spills in the accumulation path of a wing. -/
def State.path (s : State) (w : Nat) : List Sums := tget [] s.array.paths w

/-- Changes the accumulation path of a wing. -/
def State.pathMod (s : State) (w : Nat) (f : List Sums → List Sums) : State :=
  s.arrMod (fun a => { a with paths := tmod [] a.paths w f })

/-- Takes the SPILL at the head of tile `t`: it hands the slot's sums and marks to the accumulation path, or stalls under R210,
R212 or R245 (R205, R217). -/
def State.takeSpill (s : State) (t cycles : Nat) (o : QOrd) : State :=
  let w := wingOf t
  let k := o.bits 110 106
  let noted := (s.tile t).noted
  let note := fun (u : State) => u.tileMod t (fun q => { q with noted := true })
  let same := fun (x : Sums) => x.ord.chan == o.chan && x.ord.bits 15 2 == o.bits 15 2 && x.ord.bits 121 121 == o.bits 121 121
  if !s.residentPlan && !s.nextTag t k o then note (s.slotStall t cycles (!noted))
  else if (s.path w).any same then note (s.doIf (!noted) (fun u => u.count R.ARRAY_SPILL_STALLS))
  else if 32 ≤ (s.path w).length then s.slotStall t cycles false
  else
    let x := s.slotSt t k
    let bad := s.array.suspects.contains (s.phys t)
    let sums : Sums := if s.residentPlan then
        (match (s.tile t).shadow with
          | some h => { h with ord := o, suspect := h.suspect || bad }
          | none => { tile := t, ord := o })
      else { tile := t, ord := o, cells := s.slotCells t k, sat := x.sat, corrupt := x.corrupt, suspect := x.suspect || bad }
    (s.popOrder t).pathMod w (fun l => l ++ [sums])

/-- ORDER_EXECUTE: position `t` takes the order at the head of its queue; `parity` says that it is read with a parity error, and
`stalled` for how many cycles it has stalled (R202 to R210, R295). -/
def execOrderExecute (t : Fin 400) (parity : Bool) (stalled : Nat) (s : State) : Host.Outcome State Fault Refusal :=
  .next (
    let q := s.tile t.val
    match q.queue with
    | [] => s
    | o :: _ =>
      if q.cur.isSome || (s.physOf t.val).isNone then s
      else if parity || o.op == 0 || decide (6 < o.op) then s.orderError t.val o
      else if o.op = 1 then
        (if q.cells.isSome || (!s.dwellAbandoned o && !s.residentPlan && q.round != some (s.ordRound o)) then s
        else (s.popOrder t.val).tileMod t.val (fun q => { q with cur := some o }))
      else if o.op = 2 then
        (if bitOf o.word.toNat 123 && q.readable.any (fun r => r.2 == q.buf) then s
        else ((((s.countWstall (if o.len * (if s.pv.w8 then 4 else 1) < 64 then stalled else 0)).runBpass t.val o).popOrder t.val).bpassDone t.val o).countOrder t.val)
      else if o.op = 3 then s.takeSpill t.val stalled o
      else if o.op = 4 then s.popOrder t.val
      else (s.popOrder t.val).tileMod t.val (fun q => { q with cur := some o }))

/-- Moves finished sums into the shadow and starts their write-back; in a resident plan the SPILL will read the shadow (R182,
R203, R217). -/
def State.toShadow (s : State) (t : Nat) (x : Sums) : State :=
  let s1 := s.tileMod t (fun q => { q with shadow := some x, cells := none })
  if bitOf x.ord.word.toNat 120 then
    let j := (s.listPos t).getD 0
    match s.runOf x.ord.run with
    | some r => (s1.countOrder t).doIf (r.live x.ord.chan && s.spills r (s.wing (wingOf t)) x.ord.chan j) (fun u =>
        u.tileMod t (fun q => { q with todo := q.todo ++ [s.spillOrder r (wingOf t) x.ord.chan j x.ord.part] }))
    | none => s1.countOrder t
  else s1.arrMod (fun a => { a with wbs := a.wbs ++ [x] })

/-- PASS_END: the last operand of the PASS in progress has entered; its sums move to the shadow, or wait for it (R181, R182,
R203). -/
def execPassEnd (t : Fin 400) (s : State) : Host.Outcome State Fault Refusal :=
  .next (
    let q := s.tile t.val
    match q.cur with
    | none => s
    | some o =>
      if o.op ≠ 1 then s
      else
        let x := s.passSums t.val o
        let s1 := (s.tileMod t.val (fun q => { q with cur := none })).doIf x.sat (fun u => u.count (R.ARRAY_TILE_SAT (s.phys t.val)))
        if q.shadow.isSome then s1.tileMod t.val (fun q => { q with cells := some x }) else s1.toShadow t.val x)

/-- SHADOW_DRAIN: the shadow has drained; sums that waited for it move in, after a stall of `stalled` cycles (R182). -/
def execShadowDrain (t : Fin 400) (stalled : Nat) (s : State) : Host.Outcome State Fault Refusal :=
  .next (
    let q := s.tile t.val
    match q.shadow with
    | none => s
    | some x =>
      let held := s.array.wbs.any (fun w => w.tile == t.val)
        || (bitOf x.ord.word.toNat 120 && (q.queue ++ q.todo).any (fun o => o.op == 3 && o.run == x.ord.run && o.chan == x.ord.chan))
      if held then s
      else
        let s1 := s.tileMod t.val (fun q => { q with shadow := none })
        match q.cells with
        | none => s1
        | some y => (s1.countBy (R.ARRAY_TILE_SHADOW_STALL (s.phys t.val)) stalled).toShadow t.val y)

/-- Adds a write-back into its slot, or writes it there under FIRST, saturating to the slot's width (R235, R236, R255). -/
def addCells (lim : Int) (first : Bool) (old new : List CellSum) : List CellSum × Bool :=
  let all := (old.zip new).map (fun p =>
    let b : CellSum := if first then {} else p.1
    let re := satSym lim (b.re + p.2.re)
    let im := satSym lim (b.im + p.2.im)
    ((⟨re.1, im.1, b.n + p.2.n⟩ : CellSum), re.2 || im.2))
  (all.map Prod.fst, all.any Prod.snd)

/-- The list entry of a PASS, homed on tile `d`, by its groups (R196, R203). -/
def State.entryOf (s : State) (d : Nat) (o : QOrd) : Nat :=
  let wing := s.wing (wingOf d)
  let j := (s.listPos d).getD 0
  ((List.range wing.blocks.length).find? (fun e =>
    groupsOf s.pv (wing.blocks.getD e 0) == (o.bits 105 98, o.bits 97 90) && wing.home s.pv.passLen e == j)).getD 0

/-- Whether an order belongs to the last part of its dwell (R242). -/
def State.lastPart (s : State) (o : QOrd) : Bool :=
  match s.runOf o.run with
  | some r => o.part + 1 == r.parts.length
  | none => true

/-- Retires a write-back in its slot: the sums and marks, the next tag, and after LAST the slot's SPILL; a slot that is not spilled
is free for the next dwell (R199, R211, R214, R224, R236). -/
def State.retireWb (s : State) (x : Sums) : State :=
  let o := x.ord
  let d := o.bits 119 111
  let k := o.bits 110 106
  let first := bitOf o.word.toNat 123
  let lim : Int := if s.pv.w8 then 2 ^ 47 - 1 else 8388607
  let r := addCells lim first (s.slotCells d k) x.cells
  let old := slotFor (s.slotSt d k) o
  let last := bitOf o.word.toNat 122
  let e := s.entryOf d o
  let spill := (match s.runOf o.run with
    | some w => w.live o.chan && s.spills w (s.wing (wingOf d)) o.chan e
    | none => false)
  let st : SlotSt := { old with
    next := old.next + 1, closed := last && !spill && s.lastPart o, sat := (!first && old.sat) || r.2 || x.sat,
    corrupt := (!first && old.corrupt) || x.corrupt,
    suspect := (!first && old.suspect) || x.suspect || s.array.suspects.contains (s.phys x.tile) }
  let s1 := (s.putSlot d k r.1).slotMod d k (fun _ => st)
  let s2 := (s1.countOrder x.tile).doIf x.sat (fun u => ((u.count R.ARRAY_SAT_COUNT).raise F.ARRAY_EVENT_SAT).raiseTev x.tile 0)
  match s.runOf o.run with
  | none => s2
  | some w => s2.doIf (last && spill) (fun u =>
      u.tileMod d (fun q => { q with todo := q.todo ++ [s.spillOrder w (wingOf d) o.chan e o.part] }))

/-- WRITEBACK_RETIRE: the write-back that tile `t` has started retires, or stalls under R210 for `stalled` cycles (R210, R211). -/
def execWritebackRetire (t : Fin 400) (stalled : Nat) (s : State) : Host.Outcome State Fault Refusal :=
  .next (match s.array.wbs.find? (fun w => w.tile == t.val) with
    | none => s
    | some x =>
      if s.nextTag (x.ord.bits 119 111) (x.ord.bits 110 106) x.ord then
        ((s.arrMod (fun a => { a with wbs := a.wbs.filter (fun w => w.tile != t.val) })).retireWb x).drainIssue
      else (s.slotStall t.val stalled (!x.noted)).arrMod (fun a =>
        { a with wbs := a.wbs.map (fun w => if w.tile == t.val then { w with noted := true } else w) }))

/-- FENCE_RETIRE: the FENCE in progress retires once every earlier order of its tile has, and every write-back into its tile's Carrel
with a lower tag for the same slot, both read from the FENCE's own TAG and SLOT bits; with SPILLS, once its tile's spills have been
acknowledged. DESIGN CHOICE (log 198): with SPILLS = 0 a SPILL that its tile has handed over does not hold it (R206). -/
def execFenceRetire (t : Fin 400) (s : State) : Host.Outcome State Fault Refusal :=
  .next (match (s.tile t.val).cur with
    | none => s
    | some o =>
      let ahead := fun (w : Sums) => w.ord.into t.val (o.bits 110 106) && tagBefore (w.ord.bits 31 16) (o.bits 31 16)
      let busy := s.array.wbs.any (fun w => w.tile == t.val || ahead w) || (s.tile t.val).cells.isSome
        || (bitOf o.word.toNat 123 && (s.path (wingOf t.val)).any (fun x => x.tile == t.val))
      if o.op ≠ 5 ∨ busy then s
      else (s.tileMod t.val (fun q => { q with cur := none })).countOrder t.val)

/-- Whether anything of tile `t` for integration `i` is outstanding (R207). -/
def State.drainHeld (s : State) (t i : Nat) : Bool :=
  let of := fun (o : QOrd) => (o.op == 1 || o.op == 3) && (match s.runOf o.run with
    | some r => (r.parts.getD o.part ⟨0, 0, 0, 0, false⟩).integ == i
    | none => false)
  let q := s.tile t
  (q.queue ++ q.todo ++ q.cur.toList).any (fun o => of o || (o.op == 4 && o.run == i))
    || (q.cells.toList).any (fun x => of x.ord) || s.array.wbs.any (fun w => w.tile == t && of w.ord)
    || (s.path (wingOf t)).any (fun x => x.tile == t && of x.ord)

/-- DRAIN_RETIRE: the oldest DRAIN of tile `t` retires once its integration's passes, write-backs and spills there have (R207). -/
def execDrainRetire (t : Fin 400) (s : State) : Host.Outcome State Fault Refusal :=
  .next (match s.array.drains.find? (fun d => d.1 == t.val) with
    | none => s
    | some d =>
      if s.drainHeld t.val d.2 then s
      else (s.arrMod (fun a => { a with drains := a.drains.filter (fun x => x != d) })).countOrder t.val)

/-! ### Checks, parity and retirement requests -/

/-- Logical tiles and spare positions that run on a physical tile and can be given orders (R214, R222). -/
def State.positions (s : State) : List Nat := (List.range 400).filter (fun t => (s.physOf t).isSome && !s.isMissing t)

/-- CHECK_PERIOD: a period ends; a tile whose CHECK found no moment counts as missed, and the next is due for each (R222). -/
def execCheckPeriod (s : State) : Host.Outcome State Fault Refusal :=
  .next (if s.fbit F.ARRAY_CTRL_CHECK_EN then
      s.forEach s.positions (fun u t =>
        (u.doIf (u.tile t).checkDue (fun x => x.count R.ARRAY_CHECK_MISSED)).tileMod t (fun q => { q with checkDue := true }))
    else s)

/-- CHECK_NOW: every tile is to be checked at its next opportunity (R229). -/
def execCheckNow (s : State) : Host.Outcome State Fault Refusal :=
  .next ((s.fput F.ARRAY_CTRL_CHECK_NOW 1).forEach s.positions (fun u t => u.tileMod t (fun q => { q with nowDue := 1 }))).checkNowDone

/-- CHECK: position `t` completes its check, which it passes or fails (R208, R222, R224, R234). -/
def execCheck (t : Fin 400) (pass : Bool) (s : State) : Host.Outcome State Fault Refusal :=
  .next (match (s.tile t.val).cur with
    | none => s
    | some o =>
      if o.op ≠ 6 then s
      else
        let p := s.phys t.val
        let s1 := ((s.tileMod t.val (fun q => { q with cur := none, nowDue := if q.nowDue = 2 then 0 else q.nowDue })).countOrder
          t.val).count R.ARRAY_CHECKS
        let s2 := (s1.fput (F.ARRAY_TILE_CHECK_LAST_PASS p) (b2n pass)).fput (F.ARRAY_TILE_CHECK_LAST_FAIL p) (b2n (!pass))
        let s3 := if pass then s2.fput (F.ARRAY_TILE_CHECK_PASSED p) (satN 16 (s2.fget (F.ARRAY_TILE_CHECK_PASSED p) + 1))
          else ((((s2.raise F.ARRAY_EVENT_CHECK_FAIL).raiseTev t.val 2).lastErr 3 p).arrMod (fun a => { a with suspects := a.suspects ++ [p] })).retirePend p 1
        s3.checkNowDone)

/-- The last round of run `r` that the reader has put into operand buffer `k` (R193). -/
def State.bufRound (s : State) (r : WinRun) (k : Nat) : Option Nat :=
  (s.allRounds.filter (fun u => decide (u < r.readU) && u % 2 == k && s.liveRound r u)).getLast?

/-- Marks CARREL_CORRUPT on every write-back of tile `t` whose operands come from its operand buffer `k`: passes still to end, sums on
their way, and write-backs of the round that have retired in their slots (R223). -/
def State.corruptRound (s : State) (t k : Nat) : State :=
  match s.curRun with
  | none => s
  | some r =>
    match s.bufRound r k with
    | none => s
    | some u =>
      let hit := fun (x : Sums) => if x.tile == t && x.ord.run == r.id && x.ord.op == 1 && s.ordRound x.ord == u then { x with corrupt := true } else x
      let s1 := (s.tileMod t (fun q => { q with badBuf := k :: q.badBuf, cells := q.cells.map hit, shadow := q.shadow.map hit })).arrMod
        (fun a => { a with wbs := a.wbs.map hit })
      s1.forEach (s.roundEntries r t u) (fun v e =>
        let o := s.passOrder r t u e
        v.slotMod (o.bits 119 111) (o.bits 110 106) (fun x =>
          if x.run == r.id && x.chan == o.chan && tagBefore (o.bits 31 16) x.next then { x with corrupt := true } else x))

/-- PARITY: physical tile `p` reads its Carrel at `off` with a parity error: a sum slot's marks, an operand buffer's round, and
the second in one window makes the tile retire-pending (R190, R223). -/
def execParity (p : Fin 400) (off : Fin 0x40000) (s : State) : Host.Outcome State Fault Refusal :=
  .next (
    let t := s.fget (F.ARRAY_PMAP_LOGICAL p.val)
    let again := s.array.parity.contains p.val
    let s1 := (((s.count (R.ARRAY_TILE_PARITY p.val)).doIf (decide (t < 400)) (fun u => u.raiseTev t 1)).lastErr 2 p.val).arrMod
      (fun a => { a with parity := if again then a.parity else p.val :: a.parity })
    let k := (off.val - 0x28000) / 0x1800
    let s2 := if s.roleOf t ≠ 1 then s1
      else if 0x28000 ≤ off.val then s1.slotMod t (if s.pv.w8 then k / 2 * 2 else k) (fun x => { x with corrupt := true })
      else if off.val < 2 * s.bufBytes then s1.corruptRound t (off.val / s.bufBytes)
      else s1.slotMod t ((off.val - 0x20000) / 0x800) (fun x => { x with corrupt := true })
    if again then s2.retirePend p.val 2 else s2)

/-- RETIRE_REQ: bits of RETIRE_REQ[j] written 1 mark their physical tiles retire-pending with cause HOST (R227). -/
def execRetireReq (j : Fin 13) (bits : Word) (s : State) : Host.Outcome State Fault Refusal :=
  .next (s.forEach ((List.range 32).filter (fun b => bitOf bits.toNat b && decide (32 * j.val + b < 400))) (fun u b =>
    let p := 32 * j.val + b
    if u.serving p then (u.setFlag R.ARRAY_RETIRE_REQ p true).retirePend p 4 else u))

end Sys2Proof.Machine
end

