-- ==== Sys2Proof/Machine/Egress.lean ====
section
/-!
DEFINITION. Machine/Egress.lean: egress frames and the lanes that carry them (R20, R92, R111, R133, R134, R278, R310).
-/
namespace Sys2Proof.Machine

/-- A frame's bytes from VERSION to its check word, in UIP version `v` (R128, R129, R133). -/
def EgressFrame.bytes (f : EgressFrame) (v : Nat) : List Byte :=
  let body := leBytes 1 v ++ leBytes 1 f.typ ++ leBytes 2 f.stream ++ leBytes 2 f.chan ++ leBytes 2 f.group ++ leBytes 8 f.si
    ++ leBytes 2 f.flags ++ leBytes 2 f.payload.length ++ leBytes 4 (if v = 1 then 0 else 2 ^ 32 - 1 - f.si % 2 ^ 32) ++ f.payload
  body ++ leBytes 4 (crc32c body).toNat

/-- Whether lane `n` may carry frames of a stream and type (R111, R134). -/
def State.carries (s : State) (n stream typ : Nat) : Bool :=
  s.egressOk n && s.fget (F.LANE_CFG_TX_STREAM n) == stream && versionHas (s.fget (F.LANE_STATE_UIP n)) typ

/-- The lane set of a stream and type (R20). -/
def State.laneSet' (s : State) (stream typ : Nat) : List Nat := (List.range 192).filter (fun n => s.carries n stream typ)

/-- 2,080 character times at the rate of lane `n`, plus 32 ns (R310). -/
def State.startSpan (s : State) (n : Nat) : Nat :=
  2080 * 16 / (10 * 2 ^ (s.fget (F.LANE_STATE_RATE n) - 1)) + 32

/-- Whether lane `n` may still start a VBEAM frame of deadline `d` (R310). -/
def State.inLimit (s : State) (n d : Nat) : Bool := decide (s.nowNs + s.startSpan n ≤ d)

/-- Puts a frame on lane `n`. -/
def State.startFrame (s : State) (n : Nat) (f : EgressFrame) : State := s.laneMod n (fun l => { l with tx := some f })

/-- The ready VBEAM frame of the earliest deadline that lane `n` can start (R310). -/
def State.vbeamFor (s : State) (n : Nat) : Option VFrame :=
  (sortBy (fun a b => decide (a.deadline < b.deadline)) (s.beam.vready.filter (fun v =>
    s.carries n v.frame.stream 0x40 && s.inLimit n v.deadline))).head?

/-- The next FOLIO chunk of the folio being sent, for lane `n`, with what is left to send (R278). -/
def State.folioChunk (s : State) (n : Nat) : Option (EgressFrame × List (Nat × Nat × Nat)) :=
  match s.accum.sending with
  | [] => none
  | (slot, k, stream) :: rest =>
    if s.fbit F.ACCUM_CTRL_EGRESS_PAUSE || !s.carries n stream 0x50 then none
    else
      let off := s.rd64 (R.ACCUM_STAGE_ADDR_LO slot) (R.ACCUM_STAGE_ADDR_HI slot)
      let len := s.rd64 (R.ACCUM_STAGE_LEN_LO slot) (R.ACCUM_STAGE_LEN_HI slot)
      let m := min 2048 (len - 2048 * k)
      let last := decide (len ≤ 2048 * (k + 1))
      let f : EgressFrame := {
        typ := 0x50, stream := stream, chan := k % 2 ^ 16, group := k / 2 ^ 16,
        si := s.rd64 (R.ACCUM_STAGE_SI_LO slot) (R.ACCUM_STAGE_SI_HI slot),
        flags := b2n (k == 0) * 0x100 + b2n last * 0x200, payload := s.arcBytes (off + 2048 * k) m,
        errs := ((List.range m).filter (fun i => s.arcPoisoned (off + 2048 * k + i) 1)).map (· + 24), slot := slot }
      some (f, if last then rest else (slot, k + 1, stream) :: rest)

/-- Removes the first element that satisfies `p`. -/
def dropFirst {α : Type} (p : α → Bool) : List α → List α
  | [] => []
  | x :: rest => if p x then rest else x :: dropFirst p rest

/-- A free lane `n` takes its stream's next frame: a ready VBEAM frame, else the oldest other frame waiting, else the next FOLIO
chunk (R278, R310). -/
def State.laneTake (s : State) (n : Nat) : State :=
  if (s.lane n).tx.isSome || !s.egressOk n then s
  else match s.vbeamFor n with
    | some v => (s.startFrame n v.frame).beamMod (fun b => { b with vready := dropFirst (· == v) b.vready })
    | none =>
      match s.egress.find? (fun f => s.carries n f.stream f.typ) with
      | some f => { s.startFrame n f with egress := dropFirst (· == f) s.egress }
      | none =>
        match s.folioChunk n with
        | some (f, rest) =>
          let off := s.rd64 (R.ACCUM_STAGE_ADDR_LO f.slot) (R.ACCUM_STAGE_ADDR_HI f.slot) + 2048 * (f.chan + 2 ^ 16 * f.group)
          ((s.startFrame n f).accMod (fun a => { a with sending := rest })).noteRead 1 off f.payload.length
        | none => s

/-- Every free lane takes what waits for it. -/
def State.kick (s : State) : State := s.forEach (List.range 192) (fun u n => u.laneTake n)

/-- Puts a frame in the queue of its stream. -/
def State.queueFrame (s : State) (f : EgressFrame) : State := { s with egress := s.egress ++ [f] }

/-- The counter of frames sent of a type (R285, R326). -/
def sentCounter (typ : Nat) : Nat :=
  if typ = 0x40 then R.BEAM_VFRAMES else if typ = 0x41 then R.BEAM_DFRAMES else if typ = 0x42 then R.BEAM_CFRAMES
  else R.ACCUM_EGRESS_FRAMES

/-- EGRESS_FRAME_SENT: lane `n` has sent its frame and one pair after it, and takes the next of its stream, or sends pairs on (R20, R89,
R92, R278). -/
def execEgressFrameSent (n : Fin 192) (s : State) : Host.Outcome State Fault Refusal :=
  .next (match (s.lane n.val).tx with
    | none => s.laneTake n.val
    | some f =>
      let bytes := f.bytes (s.fget (F.LANE_STATE_UIP n.val))
      let s1 := ((s.laneMod n.val (fun l => { l with tx := none })).emit (.frame n.val bytes f.errs)).send n.val (frameChars bytes f.errs) false
      let s2 := ((s1.count (R.LANE_TX_FRAMES n.val)).count (sentCounter f.typ)).laneTake n.val
      if (s2.lane n.val).tx.isNone then s2.send n.val pairChars true else s2)

/-- VBEAM_FRAME_START: free lane `n` of the stream starts the ready VBEAM frame of the earliest deadline that it can still meet
(R310). -/
def execVbeamFrameStart (n : Fin 192) (s : State) : Host.Outcome State Fault Refusal :=
  .next (if (s.lane n.val).tx.isSome || !s.egressOk n.val then s
    else match s.vbeamFor n.val with
      | some v => (s.startFrame n.val v.frame).beamMod (fun b => { b with vready := dropFirst (· == v) b.vready })
      | none => s)

/-- VDROP: a ready VBEAM frame that no lane of its stream can start by that lane's limit is discarded (R310). -/
def execVdrop (s : State) : Host.Outcome State Fault Refusal :=
  .next (match s.beam.vready.find? (fun v => (s.laneSet' v.frame.stream 0x40).all (fun n => !s.inLimit n v.deadline)) with
    | none => s
    | some v =>
      ((s.beamMod (fun b => { b with vready := dropFirst (· == v) b.vready })).count R.BEAM_VDROP).raise F.BEAM_EVENT_VDROP)

end Sys2Proof.Machine
end

