-- ==== Sys2Proof/Machine/Float.lean ====
section
/-!
DEFINITION. Machine/Float.lean: the binary32 and binary64 arithmetic of the output stage, formed exactly and rounded to nearest,
ties to even (R265, R266, R269).
-/
namespace Sys2Proof.Machine

/-- A finite number ±m · 2^e; zero keeps its sign. -/
structure Dy where
  neg : Bool
  m : Nat
  e : Int
  deriving DecidableEq, Repr

/-- An integer. -/
def Dy.ofInt (i : Int) : Dy := ⟨decide (i < 0), i.natAbs, 0⟩

/-- `m / 2^k` rounded to nearest, ties to even. -/
def roundEven (m k : Nat) : Nat :=
  let q := m / 2 ^ k
  let r := m % 2 ^ k
  if 2 * r < 2 ^ k then q else if 2 ^ k < 2 * r then q + 1 else q + q % 2

/-- The number of bits of `m`. -/
def bitLen (m : Nat) : Nat := if m = 0 then 0 else Nat.log2 m + 1

/-- Rounds to `p` significant bits, no bit below 2^emin. -/
def Dy.round (p : Nat) (emin : Int) (x : Dy) : Dy :=
  let q := max (x.e + bitLen x.m - p) emin
  if x.m = 0 ∨ q ≤ x.e then x else ⟨x.neg, roundEven x.m (q - x.e).toNat, q⟩

/-- Rounds to binary64. -/
def Dy.r64 (x : Dy) : Dy := x.round 53 (-1074)

/-- Rounds to binary32. -/
def Dy.r32 (x : Dy) : Dy := x.round 24 (-149)

/-- The exact product. -/
def Dy.mul (x y : Dy) : Dy := ⟨x.neg != y.neg, x.m * y.m, x.e + y.e⟩

/-- The exact sum; an exact zero is negative only where both are. -/
def Dy.add (x y : Dy) : Dy :=
  let e := min x.e y.e
  let v := fun (d : Dy) => (if d.neg then -1 else 1) * ((d.m * 2 ^ (d.e - e).toNat : Nat) : Int)
  let s := v x + v y
  if s = 0 then ⟨x.neg && y.neg, 0, e⟩ else ⟨decide (s < 0), s.natAbs, e⟩

/-- The negative. -/
def Dy.flip (x : Dy) : Dy := { x with neg := !x.neg }

/-- Whether `x < y` for numbers that are not negative. -/
def Dy.less (x y : Dy) : Bool :=
  let e := min x.e y.e
  decide (x.m * 2 ^ (x.e - e).toNat < y.m * 2 ^ (y.e - e).toNat)

/-- The bits of a number already rounded to `p` bits with least exponent `emin`: sign, biased exponent, fraction; none where it
is beyond the range. -/
def Dy.encode (p : Nat) (emin : Int) (w : Nat) (x : Dy) : Option Nat :=
  let sign := b2n x.neg * 2 ^ (p - 1 + w)
  if x.m = 0 then some sign
  else
    let top := x.e + bitLen x.m - 1
    let low := emin + p - 1
    if top < low then some (sign + x.m * 2 ^ (x.e - emin).toNat)
    else if 2 ^ w - 1 ≤ (top - low).toNat + 1 then none
    else
      let sh : Int := p - (bitLen x.m : Int)
      let frac := if 0 ≤ sh then x.m * 2 ^ sh.toNat else x.m / 2 ^ (-sh).toNat
      some (sign + ((top - low).toNat + 1) * 2 ^ (p - 1) + (frac - 2 ^ (p - 1)))

/-- The binary32 word of a number rounded once, and whether it lay beyond the range and became the largest finite value
(R265). -/
def Dy.to32 (x : Dy) : Nat × Bool :=
  match x.r32.encode 24 (-149) 8 with
  | some w => (w, false)
  | none => (b2n x.neg * 2 ^ 31 + 0x7F7FFFFF, true)

/-- The binary64 word of a number rounded to binary64 (R273). -/
def Dy.to64 (x : Dy) : Nat := (x.r64.encode 53 (-1074) 11).getD (b2n x.neg * 2 ^ 63 + 0x7FEFFFFFFFFFFFFF)

/-- The number of a binary32 word; none for a NaN or an infinity (R268). -/
def of32 (w : Nat) : Option Dy :=
  let ex : Nat := w / 2 ^ 23 % 256
  let fr : Nat := w % 2 ^ 23
  if ex = 255 then none
  else if ex = 0 then some ⟨bitOf w 31, fr, -149⟩
  else some ⟨bitOf w 31, fr + 2 ^ 23, (ex : Int) - 150⟩

/-- A complex product, each step rounded to binary64 (R265). -/
def cmul64 (x y : Dy × Dy) : Dy × Dy :=
  let p := fun (a b : Dy) => (a.mul b).r64
  (((p x.1 y.1).add (p x.2 y.2).flip).r64, ((p x.1 y.2).add (p x.2 y.1)).r64)

/-- A complex sum, each part rounded to binary64 (R265). -/
def cadd64 (x y : Dy × Dy) : Dy × Dy := ((x.1.add y.1).r64, (x.2.add y.2).r64)

/-- |value|² in binary64, each step rounded (R269). -/
def metric64 (x : Dy × Dy) : Dy := (((x.1.r64.mul x.1.r64).r64).add ((x.2.r64.mul x.2.r64).r64)).r64

end Sys2Proof.Machine
end

