-- ==== Sys2Proof/Machine/Accum.lean ====
section
/-!
DEFINITION. Machine/Accum.lean: integrations, spills, the drain, the folio and its routes (R235 to R288).
-/
namespace Sys2Proof.Machine

/-! ### Where entries lie -/

/-- E(b): entries of the blocks below `b` in the shape of `v` (R259). -/
def entryBase (v : State) (b : Nat) : Nat :=
  if v.fget F.ARRAY_GEOM_SHAPE = 2 then 1024 * b else 1024 * b - 496 * triCol b

/-- The device block range [F, F + C) (R283, R288). -/
def blkFirst (v : State) : Nat := v.fget F.ACCUM_BLOCKS_FIRST
def blkCount (v : State) : Nat :=
  if v.fget F.ACCUM_BLOCKS_COUNT = 0 then shapeBlocks v - blkFirst v else v.fget F.ACCUM_BLOCKS_COUNT

/-- P: entries per channel of the device block range (R259). -/
def entriesPerChan (v : State) : Nat := entryBase v (blkFirst v + blkCount v) - entryBase v (blkFirst v)

/-- The cells of block `b` that are entries, in entry order: all, or those with c ≥ r of a diagonal block (R249, R258). -/
def blockCells (v : State) (b : Nat) : List (Nat × Nat) :=
  let g := groupsOf v b
  (List.range 32).flatMap (fun r => ((List.range 32).filter (fun c => g.1 != g.2 || decide (r ≤ c))).map (fun c => (r, c)))

/-- Bytes of one part of an accumulator (R235). -/
def partBytes (v : State) : Nat := if v.w8 then 8 else 4

/-- e: bytes of an accumulator entry (R255, R260). -/
def accEntryBytes (v : State) : Nat := 2 * partBytes v + (if v.fbit F.ACCUM_CFG_EXACT_WT then 4 else 0)

/-- CH_STRIDE and BANK_STRIDE (R260). -/
def chStride (v : State) : Nat := entriesPerChan v * accEntryBytes v
def bankStride (v : State) : Nat :=
  ceilDiv (v.nChan * chStride v + 4 * v.nIn * v.nChan + 4 * v.nChan * blkCount v) (2 ^ 21) * 2 ^ 21

/-- Archive offset of bank `k` (R260). -/
def bankBase (v : State) (k : Nat) : Nat := v.rd64 R.ACCUM_ACC_BASE_LO R.ACCUM_ACC_BASE_HI + k * bankStride v

/-- Archive offset of the first entry of block `b` in slot `c` of bank `k` (R260). -/
def entryOff (v : State) (k c b : Nat) : Nat :=
  bankBase v k + c * chStride v + (entryBase v b - entryBase v (blkFirst v)) * accEntryBytes v

/-- Archive offset of VALID[c][i] (R260). -/
def validOff (v : State) (k c i : Nat) : Nat := bankBase v k + v.nChan * chStride v + 4 * (c * v.nIn + i)

/-- Archive offset of the mark word of (c, b) (R260). -/
def markOff (v : State) (k c b : Nat) : Nat :=
  bankBase v k + v.nChan * chStride v + 4 * v.nIn * v.nChan + 4 * (c * blkCount v + b - blkFirst v)

/-! ### Integrations -/

/-- The registers of an integration's Catalogue (R4, R267). -/
def State.under (s : State) (i : Integ) : State := { s with regs := i.cfg }

/-- Closes the integration in progress at SI `x`; one that would hold no spectrum was never opened (R240, R282). -/
def State.closeInteg (s : State) (x : Nat) : State :=
  let s0 := s.accMod (fun a => { a with bounds := a.bounds ++ [x] })
  match s.accum.integs.find? (fun i => i.e.isNone) with
  | none => s0
  | some i =>
    if x ≤ i.a then s0.accMod (fun a => { a with integs := a.integs.filter (fun j => j.id != i.id), nextBank := i.bank })
    else
      let n := s.accum.closed + 1
      (((s0.accMod (fun a => { a with closed := n })).wr64 R.ACCUM_SEQ_LO R.ACCUM_SEQ_HI n).integMod i.id (fun j => { j with e := some x, seq := n })).drainIssue

/-- The records of logical tiles MISSING at SI `x` (R272). -/
def State.missingRecs (s : State) (x : Nat) : List TileRec :=
  ((List.range 384).filter (fun t => s.isMissing t)).map (fun t =>
    match s.physOf t with
    | some p => ⟨x, t, p, 0xFFFF, s.fget (F.ARRAY_PMAP_CAUSE p), s.fget (F.ARRAY_PMAP_STATE p)⟩
    | none => { (tget {} s.array.gone t) with si := x, logical := t, newPhys := 0xFFFF })

/-- The THROTTLE word of an output on [a, e): the highest step, the steps in force and the changes of step (R271, R634). -/
def State.throttleWord (s : State) (a e : Nat) : Nat :=
  let ch := (s.power.steps.filter (fun p => decide (a ≤ p.1) && decide (p.1 < e))).map Prod.snd
  let at' := ((s.power.steps.find? (fun p => decide (p.1 < a))).map Prod.snd).getD 0
  let all := if (s.power.steps.find? (fun p => decide (p.1 = a))).isNone then at' :: ch else ch
  all.foldl max 0 + 2 ^ 8 * all.foldl (fun w n => if n = 0 then w else setBit w (n - 1)) 0 + 2 ^ 16 * (ch.length % 2 ^ 16)

/-- Opens an integration at SI `x` in the other bank, where the Catalogue gives some tile the correlation role (R240, R241). -/
def State.openInteg (s : State) (x : Nat) (gap : Bool) : State :=
  if !s.corrRole then s
  else
    let i : Integ := {
      id := s.accum.nextInteg, a := x, bank := s.accum.nextBank, cfg := s.regs, afterGap := gap, recs := s.missingRecs x,
      mismatch := s.fbit F.CAT_STATUS_MISMATCH }
    (s.accMod (fun a => { a with
      integs := a.integs ++ [i], nextInteg := a.nextInteg + 1, nextBank := 1 - a.nextBank, bounds := a.bounds ++ [x] })).fput
        F.ACCUM_STATUS_FILL_BANK i.bank

/-- Whether an integration opens at the start of window `m` (R240). -/
def State.opensAt (s : State) (m : Nat) : Bool :=
  let n : Nat := s.rdN R.ACCUM_INT_WINDOWS % 2 ^ 16
  n != 0 && ((m : Int) - ((s.rdN R.ACCUM_INT_PHASE % 65536 : Nat) : Int)) % (n : Int) == 0

/-- INTEGRATION_BOUNDARY: the index has reached SI `x`, the start of a window at which an integration opens; the one in progress
closes. An accession due at or before `x` comes first (R16, R240, R241). -/
def execIntegrationBoundary (x : Nat) (s : State) : Host.Outcome State Fault Refusal :=
  .next (if s.corrRole && decide (0 < s.dwell) && x % s.dwell == 0 && decide (x ≤ s.siNow) && s.opensAt (x / s.dwell)
      && s.accum.integs.any (fun i => i.e.isNone && decide (i.a < x)) && !s.accDue.any (fun x0 => decide (x0 ≤ x)) then
      s.latchChanged ((s.closeInteg x).openInteg x false) x
    else s)

/-- The integration that the part of a run belongs to, of which an order is. -/
def State.partOf (s : State) (o : QOrd) : Option Part :=
  match s.runOf o.run with
  | some r => r.parts[o.part]?
  | none => none

/-- The integration that an order's part belongs to. -/
def State.integOf (s : State) (o : QOrd) : Option Integ :=
  match s.partOf o with
  | some p => s.integ p.integ
  | none => none

/-- Whether the oldest spill of wing `w` waits for a bank whose tables are not rewritten (R248). -/
def State.bankWaits (s : State) (w : Nat) : Bool :=
  match (s.path w).find? (fun x => !x.written) with
  | none => false
  | some x => (s.integOf x.ord).any (fun i => !i.tables)

/-- STATUS.WAITING shows whether the spill of some wing waits; `seen` names the wings whose spill has come to its bank (R286). -/
def State.showWaiting (s : State) (seen : List Nat) : State :=
  let ws := seen.filter (fun w => s.bankWaits w)
  (s.accMod (fun a => { a with waiting := ws })).fput F.ACCUM_STATUS_WAITING (b2n (!ws.isEmpty))

/-- BANK_TABLES_REWRITTEN: the valid counts and mark words of bank `k` have been rewritten for its new integration; a spill that
waited for it goes on (R246, R248). -/
def execBankTablesRewritten (k : Fin 2) (s : State) : Host.Outcome State Fault Refusal :=
  .next (match s.accum.integs.find? (fun i => i.bank == k.val) with
    | none => s
    | some i =>
      if i.tables then s
      else
        let v := s.under i
        let s1 := s.arcRenew (validOff v k.val 0 0) (List.replicate (4 * v.nIn * v.nChan) 0#8)
        let s2 := s1.arcRenew (markOff v k.val 0 (blkFirst v)) ((List.replicate (v.nChan * blkCount v) (leBytes 4 0x80)).flatten)
        (s2.integMod i.id (fun j => { j with tables := true })).showWaiting s.accum.waiting)

/-! ### Spills -/

/-- The limit of an accumulator part (R235). -/
def accLimit (v : State) : Int := if v.w8 then 2 ^ 63 - 1 else 2147483647

/-- Adds to ACCUM.BANK_WAIT, in units of 1,024 cycles (R248). -/
def State.countBankWait (s : State) (n : Nat) : State :=
  (s.countBy R.ACCUM_BANK_WAIT (units s.accum.waitAcc n).1).accMod (fun a => { a with waitAcc := (units a.waitAcc n).2 })

/-- Counts and raises one uncorrectable accumulator error (R250, R251, R263). -/
def State.memErr (s : State) : State := (s.count R.ACCUM_MEMERR).raise F.ACCUM_EVENT_MEMERR

/-- Writes a spill's sums into the accumulators of its block and updates the mark word (R237, R245, R247, R249, R250, R252). -/
def State.writeSpill (s : State) (i : Integ) (x : Sums) : State :=
  let v := s.under i
  let o := x.ord
  let c := o.chan
  let b := o.bits 15 2
  let k := o.bits 121 121
  let mo := markOff v k c b
  let badMark := s.arcPoisoned mo 4
  let mark := if badMark then 0x80 else s.arcNat mo 4
  let fresh := bitOf o.word.toNat 123 || bitOf mark 7
  let pb := partBytes v
  let eb := accEntryBytes v
  let off := entryOff v k c b
  let exact := v.fbit F.ACCUM_CFG_EXACT_WT
  let one := fun (e : (Nat × Nat) × Nat) =>
    let cell := x.cells.getD (32 * e.1.1 + e.1.2) {}
    let a := off + e.2 * eb
    let bad := !fresh && s.arcPoisoned a eb
    let old := fun (d : Nat) => if fresh || bad then (0 : Int) else toSigned (8 * pb) (s.arcNat (a + d) pb)
    let re := satSym (accLimit v) (old 0 + cell.re)
    let im := satSym (accLimit v) (old pb + cell.im)
    let wt := if exact then leBytes 4 ((if fresh || bad then 0 else s.arcNat (a + 2 * pb) 4) + cell.n) else []
    (leBytes pb (fromSigned (8 * pb) re.1) ++ leBytes pb (fromSigned (8 * pb) im.1) ++ wt, re.2 || im.2, bad)
  let es := ((blockCells v b).zipIdx).map one
  let sats := (es.filter (fun e => e.2.1)).length
  let badEnt := es.any (fun e => e.2.2)
  let dwells := if badMark then 1 else satN 16 (mark / 2 ^ 16 + 1)
  let keep := if badMark then 0 else mark % 2 ^ 7
  let marks := keep ||| b2n x.sat ||| (b2n (decide (0 < sats)) * 2) ||| (b2n x.corrupt * 4) ||| (b2n x.suspect * 8)
    ||| (b2n (badEnt || badMark) * 0x40)
  let s0 := (s.noteRead 1 mo 4).doIf (!fresh) (fun u => u.noteRead 1 off (es.length * eb))
  let s1 := (s0.arcRenew off (es.flatMap (fun e => e.1))).arcRenew mo (leBytes 4 (dwells * 2 ^ 16 + marks))
  let s2 := (s1.countBy R.ACCUM_SAT_ACC sats).raiseIf (decide (0 < sats)) F.ACCUM_EVENT_ACC_SAT
  s2.doIf (badMark || (badEnt && !bitOf mark 6)) (fun u => u.memErr)

/-- SPILL: the accumulation path of wing `w` takes its oldest waiting spill, which adds into or overwrites its block; a spill
whose bank is not ready waits, for `waited` cycles so far (R247, R248). -/
def execSpill (w : Fin 4) (waited : Nat) (s : State) : Host.Outcome State Fault Refusal :=
  .next (match (s.path w.val).find? (fun x => !x.written) with
    | none => s
    | some x =>
      match s.integOf x.ord with
      | none => s
      | some i =>
        if !i.tables then ((s.countBankWait waited).raise F.ACCUM_EVENT_BANK_WAIT).showWaiting (w.val :: s.accum.waiting)
        else
          ((s.writeSpill i x).pathMod w.val (fun l => l.map (fun y => if y == x then { y with written := true } else y))).showWaiting
            s.accum.waiting)

/-- Adds a dwell's counts into VALID when its last SPILL is acknowledged (R243, R251). -/
def State.validAdd (s : State) (i : Integ) (r : WinRun) (p c : Nat) : State :=
  let v := s.under i
  let q := r.parts.getD p ⟨0, 0, 0, 0, false⟩
  let set := s.partIdx s.pv r.m (r.m * s.pv.dwell + q.k0 * s.pv.passLen)
  s.forEach (List.range v.nIn) (fun u n =>
    let off := validOff v q.bank c n
    let bad := u.arcPoisoned off 4
    let add := tget 0 s.ingest.vcnt (vcntKey set (r.m % 2) c n)
    let u1 := (u.noteRead 1 off 4).arcRenew off (leBytes 4 (satN 32 ((if bad then 0 else u.arcNat off 4) + add)))
    u1.doIf bad (fun x => (x.memErr).integMod i.id (fun j => { j with validErr := true })))

/-- Retires an acknowledged spill in its slot, and counts it toward its dwell (R210, R245, R251). -/
def State.ackSpill (s : State) (x : Sums) : State :=
  let o := x.ord
  match s.runOf o.run with
  | none => s
  | some r =>
    let k := o.bits 110 106
    let lastPart := o.part + 1 == r.parts.length
    let s1 := s.doIf (!s.residentPlan) (fun u => u.slotMod x.tile k (fun q =>
      if q.run == o.run && q.chan == o.chan then { q with next := q.next + 1, closed := lastPart } else q))
    let n := tget 0 r.acked (4096 * o.part + o.chan) + 1
    let s2 := s1.runMod o.run (fun q => { q with acked := tset 0 q.acked (4096 * o.part + o.chan) n })
    match s.integOf o with
    | some i => s2.doIf (n == s.spillCount r o.chan) (fun u => u.validAdd i r o.part o.chan)
    | none => s2

/-- SPILL_ACK: the controller has answered the last write of the oldest written spill of wing `w` (R245, R251). -/
def execSpillAck (w : Fin 4) (s : State) : Host.Outcome State Fault Refusal :=
  .next (match s.path w.val with
    | [] => s
    | x :: rest =>
      if !x.written then s
      else
        let s1 := (((s.pathMod w.val (fun _ => rest)).ackSpill x).countOrder x.tile).countBy R.ACCUM_SPILLS
          (units s.accum.spillAcc 1).1
        s1.accMod (fun a => { a with spillAcc := (units a.spillAcc 1).2 }))

/-! ### The folio -/

/-- The output block range and channel range of a folio: first and count (R284, R288). -/
def outBlocks (v : State) : Nat × Nat :=
  let f := max (v.fget F.ACCUM_OUT_BLOCKS_FIRST) (blkFirst v)
  let stop := blkFirst v + blkCount v
  (f, (if v.fget F.ACCUM_OUT_BLOCKS_COUNT = 0 then stop
    else min (v.fget F.ACCUM_OUT_BLOCKS_FIRST + v.fget F.ACCUM_OUT_BLOCKS_COUNT) stop) - f)
def outChans (v : State) : Nat × Nat :=
  let f := v.fget F.ACCUM_OUT_CHAN_FIRST
  (f, (if v.fget F.ACCUM_OUT_CHAN_COUNT = 0 then v.nChan else min (f + v.fget F.ACCUM_OUT_CHAN_COUNT) v.nChan) - f)

/-- k of the top-k search (R269, R288). -/
def topK (v : State) : Nat := min 1024 (v.fget F.ACCUM_TOPK_COUNT)

/-- WINDOWS: dwell windows that intersect [a, e) (R253). -/
def windowsIn (v : State) (a e : Nat) : Nat := if v.dwell = 0 ∨ e ≤ a then 0 else (e - 1) / v.dwell + 1 - a / v.dwell

/-- A tensor element, or none for a part that is NaN or infinite. DESIGN CHOICE (log 200): of an uncorrectable unit the bytes as stored
(R263, R266, R268). -/
def State.tensorAt (s : State) (off : Nat) : Option (Dy × Dy) :=
  match of32 (s.arcNat off 4), of32 (s.arcNat (off + 4) 4) with
  | some a, some b => some (a, b)
  | _, _ => none

/-- Archive offset of the tensor in use (R267). -/
def tensorBase (v : State) : Nat :=
  let k := v.fget F.ACCUM_TENSOR_CFG_PAGE
  v.rd64 (R.ACCUM_TENSOR_BASE_LO k) (R.ACCUM_TENSOR_BASE_HI k)

/-- Applies the fused operation to a value: entry `n` of the channel's P, slot `c`, inputs `i` ≤ `j`; none for an element that
is NaN or infinite (R265, R266, R268). -/
def State.fuse (s : State) (v : State) (x : Dy × Dy) (n c i j : Nat) : Option (Dy × Dy) :=
  let op := v.fget F.ACCUM_TENSOR_CFG_OP
  let full := s.tensorAt (tensorBase v + 8 * (c * entriesPerChan v + n))
  if op = 0 then some x
  else if op = 2 then full.map (fun g => cadd64 x g)
  else if v.fbit F.ACCUM_TENSOR_CFG_OUTER then
    (match s.tensorAt (tensorBase v + 8 * (c * v.nIn + i)), s.tensorAt (tensorBase v + 8 * (c * v.nIn + j)) with
     | some g, some h => some (cmul64 (cmul64 x g) (h.1, h.2.flip))
     | _, _ => none)
  else full.map (fun g => cmul64 x g)

/-- What the drain makes of one entry: its folio bytes, its output parts, and the errors it met (R263 to R268). -/
structure OutEntry where
  bytes : List Byte
  val : Dy × Dy
  memErr : Bool := false
  tensorErr : Bool := false
  tensorMark : Bool := false

/-- Drains entry `n` (in its block) of block `b`, cell `rc`, slot `c`; `zero` where the block is EMPTY or MEMERR (R263 to
R268). -/
def State.drainEntry (s : State) (v : State) (k c b n : Nat) (rc : Nat × Nat) (zero : Bool) : OutEntry :=
  let pb := partBytes v
  let a := entryOff v k c b + n * accEntryBytes v
  let g := groupsOf v b
  let exact := v.fbit F.ACCUM_CFG_EXACT_WT
  let fmt := v.fget F.ACCUM_CFG_VALUE_FMT
  let bad := s.arcPoisoned a (accEntryBytes v)
  let wide := if fmt = 1 then 8 else 4
  let none' := leBytes (2 * wide) 0 ++ (if exact then leBytes 4 0 else [])
  let nil : Dy := ⟨false, 0, 0⟩
  if zero then ⟨none', (nil, nil), false, false, false⟩
  else if bad then ⟨none', (nil, nil), true, false, false⟩
  else
    let re := toSigned (8 * pb) (s.arcNat a pb)
    let im := toSigned (8 * pb) (s.arcNat (a + pb) pb)
    let wt := if exact then s.arcBytes (a + 2 * pb) 4 else []
    if fmt ≠ 2 then
      ⟨leBytes wide (fromSigned (8 * wide) re) ++ leBytes wide (fromSigned (8 * wide) im) ++ wt, (Dy.ofInt re, Dy.ofInt im), false, false, false⟩
    else
      match s.fuse v (Dy.ofInt re, Dy.ofInt im) (entryBase v b - entryBase v (blkFirst v) + n) c (32 * g.1 + rc.1) (32 * g.2 + rc.2) with
      | none => ⟨leBytes 8 0 ++ wt, (nil, nil), false, true, true⟩
      | some y =>
        let r := y.1.to32
        let i := y.2.to32
        ⟨leBytes 4 r.1 ++ leBytes 4 i.1 ++ wt, ((of32 r.1).getD nil, (of32 i.1).getD nil), false, false, r.2 || i.2⟩

/-- What the drain makes of one block of one slot: the mark word of the folio, its data bytes, its entries for the top-k search
(metric, slot, entry number, autocorrelation), and the errors counted (R252, R253, R263, R268, R269). -/
structure OutBlock where
  mark : Nat
  data : List Byte
  cands : List (Dy × Nat × Nat)
  memErrs : Nat
  tensorErrs : Nat

/-- Drains block `b` of slot `c`; where the read of any of its entries errs, the block's MEMERR makes every entry zero (R250, R253, R262,
R263, R268, R269). -/
def State.drainBlock (s : State) (v : State) (k c b windows : Nat) : OutBlock :=
  let mo := markOff v k c b
  let badMark := s.arcPoisoned mo 4
  let w := if badMark then 0x40 else s.arcNat mo 4
  let zero := bitOf w 7 || bitOf w 6
  let g := groupsOf v b
  let cells := (blockCells v b).zipIdx
  let es0 := cells.map (fun e => s.drainEntry v k c b e.2 e.1 zero)
  let merrs := (es0.filter OutEntry.memErr).length
  let es := if merrs = 0 then es0 else cells.map (fun e => s.drainEntry v k c b e.2 e.1 true)
  let terrs := (es.filter OutEntry.tensorErr).length
  let shed := !badMark && decide (w / 2 ^ 16 < windows)
  let mark := w ||| (b2n shed * 0x10) ||| (b2n (decide (0 < merrs)) * 0x40) ||| (b2n (es.any OutEntry.tensorMark) * 0x20)
  let auto := fun (rc : Nat × Nat) => g.1 == g.2 && rc.1 == rc.2 && v.fbit F.ACCUM_TOPK_NOAUTO
  let cands := if bitOf mark 7 || bitOf mark 6 then []
    else ((cells.zip es).filter (fun p => !auto p.1.1)).map (fun p =>
      (metric64 p.2.val, c, entryBase v b - entryBase v (blkFirst v) + p.1.2))
  ⟨mark, es.flatMap OutEntry.bytes, if topK v = 0 then [] else cands, merrs + b2n badMark, terrs⟩

/-- Pads bytes with zero to a multiple of 64 (R270). -/
def pad64 (bs : List Byte) : List Byte := bs ++ List.replicate (ceilDiv bs.length 64 * 64 - bs.length) 0#8

/-- A tile record's bytes (R272). -/
def TileRec.bytes (r : TileRec) : List Byte :=
  leBytes 8 r.si ++ leBytes 2 r.logical ++ leBytes 2 r.oldPhys ++ leBytes 2 r.newPhys ++ leBytes 1 r.cause ++ leBytes 1 r.state

/-- Whether an integration is a whole, aligned one (R280). -/
def wholeInteg (v : State) (a e : Nat) : Bool :=
  a % v.dwell == 0 && e == a + (v.rdN R.ACCUM_INT_WINDOWS % 2 ^ 16) * v.dwell && v.opensAt (a / v.dwell)

/-- The folio of integration `i`, closed at `e`, whose drain began at device time `ns`; with the errors counted (R270 to R275,
R281). -/
def State.folio (s : State) (i : Integ) (e ns : Nat) : List Byte × Nat × Nat :=
  let v := s.under i
  let windows := windowsIn v i.a e
  let ob := outBlocks v
  let oc := outChans v
  let chans := (List.range oc.2).map (fun d => oc.1 + d)
  let blks := (List.range ob.2).map (fun d => ob.1 + d)
  let valid := chans.flatMap (fun c => (List.range v.nIn).map (fun n => validOff v i.bank c n))
  let validBad := (valid.filter (fun a => s.arcPoisoned a 4)).length
  let outs := chans.flatMap (fun c => blks.map (fun b => s.drainBlock v i.bank c b windows))
  let less := fun (x y : Dy × Nat × Nat) => y.1.less x.1 || (!(x.1.less y.1) && (decide (x.2.1 < y.2.1) || (x.2.1 == y.2.1 && decide (x.2.2 < y.2.2))))
  let top := (sortBy less (outs.flatMap OutBlock.cands)).take (topK v)
  let validSec := pad64 (valid.flatMap (fun a => if s.arcPoisoned a 4 then leBytes 4 0 else s.arcBytes a 4))
  let markSec := pad64 (outs.flatMap (fun o => leBytes 4 o.mark))
  let tileSec := pad64 (i.recs.flatMap TileRec.bytes)
  let dataSec := pad64 (outs.flatMap OutBlock.data)
  let topSec := pad64 (top.flatMap (fun t => leBytes 8 t.1.to64 ++ leBytes 4 t.2.2 ++ leBytes 2 t.2.1 ++ leBytes 2 0))
  let mo := 256 + validSec.length
  let tlo := mo + markSec.length
  let dao := tlo + tileSec.length
  let ko := dao + dataSec.length
  let co := ko + topSec.length
  let len := co + 64
  let any := fun (b : Nat) => outs.any (fun o => bitOf o.mark b)
  let shedBlocks := (outs.filter (fun o => bitOf o.mark 4)).length
  let tq := s.quality (fun _ => true) i.a e
  let fmt := v.fget F.ACCUM_CFG_VALUE_FMT
  let op := v.fget F.ACCUM_TENSOR_CFG_OP
  let exact := v.fbit F.ACCUM_CFG_EXACT_WT
  let minor := b2n (fmt == 2 || op != 0 || exact || topK v != 0)
  let mode := v.mode
  let shedIn := (s.shedAt i.a).groups.length + (s.sheds.filter (fun r => decide (i.a ≤ r.x) && decide (r.x < e) && !r.groups.isEmpty)).length
  let thr := s.throttleWord i.a e
  let flags := b2n (!wholeInteg v i.a e) + 2 * b2n (decide (0 < i.shedDwells + shedBlocks + shedIn)) + 4 * b2n (any 0 || any 1)
    + 8 * b2n (any 2) + 16 * b2n (any 3) + 32 * b2n (timeSuspect tq) + 64 * b2n (any 6 || i.validErr || decide (0 < validBad))
    + 128 * b2n (any 5) + 256 * b2n (!i.recs.isEmpty) + 512 * b2n (decide (0 < s.accum.lostSince)) + 1024 * b2n (decide (0 < thr % 16))
    + 2048 * b2n i.mismatch + 4096 * b2n i.afterGap + 8192 * b2n (mode == 5 && v.fbit F.POWER_GEN_CFG_EN) + 16384 * b2n (any 7)
  let digest := (List.range 8).flatMap (fun k => leBytes 4 (v.rdN (R.CAT_LIVE_DIGEST k)))
  let w8 := fun (ns : List Nat) => ns.flatMap (fun n => leBytes 8 n)
  let w4 := fun (ns : List Nat) => ns.flatMap (fun n => leBytes 4 n)
  let w2 := fun (ns : List Nat) => ns.flatMap (fun n => leBytes 2 n)
  let w1 := fun (ns : List Nat) => ns.flatMap (fun n => leBytes 1 n)
  let eb := (if fmt = 1 then 16 else 8) + (if exact then 4 else 0)
  let head := w4 [0x494C4F46] ++ w1 [minor, 1] ++ w2 [256] ++ w8 [len, i.seq] ++ w4 [s.accum.lostSince, s.rdN R.DEVICE_ID] ++ digest
    ++ w8 [i.a, e] ++ w4 [windows] ++ w2 [v.rdN R.CAT_ADDR % 2 ^ 16]
    ++ w1 [mode, v.fget F.ARRAY_GEOM_SHAPE + b2n (v.fbit F.ARRAY_GEOM_RESIDENT) * 0x80] ++ w2 [v.nIn, v.nChan, v.passLen]
    ++ w1 [if v.w8 then 8 else 4, fmt] ++ w4 [v.dwell] ++ w2 [eb, 0, blkFirst v, blkCount v, ob.1, ob.2, oc.1, oc.2]
    ++ w4 [flags, tq, thr, i.shedDwells, shedBlocks, i.recs.length, top.length]
    ++ w8 [256, mo, tlo, dao, ko, co, nsOf (v.tOf i.a), ns]
    ++ w4 [if minor = 0 then 0 else op + 4 * v.fget F.ACCUM_TENSOR_CFG_OUTER + 8 * v.fget F.ACCUM_TENSOR_CFG_PAGE] ++ List.replicate 40 0#8
  let body := head ++ leBytes 4 (crc32c head).toNat ++ validSec ++ markSec ++ tileSec ++ dataSec ++ topSec
  let colo := w4 [0x48504C43, flags] ++ w8 [e, 2 ^ 64 - 1 - e, i.seq, len] ++ List.replicate 20 0#8
  let all := body ++ colo
  (all ++ leBytes 4 (crc32c all).toNat, validBad + (outs.map OutBlock.memErrs).sum, (outs.map OutBlock.tensorErrs).sum)

/-! ### Regions -/

/-- 2 MiB, the unit of region placement. -/
def regionUnit : Nat := 2 ^ 21

/-- The folio staging slots of a Catalogue (R422). -/
def stageSlots (v : State) : Nat := if v.corrRole then max 1 (min 8 (v.fget F.HBMC_LAYOUT_STAGE_SLOTS)) else 0

/-- How many logical tiles are MISSING (R226). -/
def State.missingCount (s : State) : Nat := ((List.range 384).filter (fun t => s.isMissing t)).length

/-- The length of the folio of a Catalogue, with `recs` tile records (R270). -/
def folioLen (v : State) (recs : Nat) : Nat :=
  let up := fun (n : Nat) => ceilDiv n 64 * 64
  let ob := outBlocks v
  let oc := outChans v
  let eb := (if v.fget F.ACCUM_CFG_VALUE_FMT = 1 then 16 else 8) + (if v.fbit F.ACCUM_CFG_EXACT_WT then 4 else 0)
  256 + up (4 * oc.2 * v.nIn) + up (4 * oc.2 * ob.2) + up (16 * recs) + up (oc.2 * (entryBase v (ob.1 + ob.2) - entryBase v ob.1) * eb)
    + up (16 * topK v) + 64

/-- The size of a folio staging slot, in 2 MiB units (R277). -/
def slotUnits (v : State) : Nat := ceilDiv (folioLen v v.missingCount) regionUnit

/-- The sizes of regions 0 to 2, in 2 MiB units (R163, R260, R277, R422). -/
def regionSizes (v : State) : List Nat :=
  if v.corrRole then
    [ceilDiv (2 * v.nChan * v.dwell * v.nIn * v.sampleBytes) regionUnit, ceilDiv (2 * bankStride v) regionUnit, stageSlots v * slotUnits v]
  else [0, 0, 0]

/-- The lowest start at or after `a` at which `n` units overlap none of the fixed regions (R422). -/
def stepPast (fixed : List (Nat × Nat)) : Nat → Nat → Nat → Nat
  | 0, a, _ => a
  | fuel + 1, a, n =>
    match fixed.find? (fun f => decide (0 < f.2) && decide (0 < n) && decide (a < f.1 + f.2) && decide (f.1 < a + n)) with
    | some f => stepPast fixed fuel (f.1 + f.2) n
    | none => a

/-- Places regions in order; `auto` regions follow one another and step past the fixed ones (R422). -/
def placeAll (fixed : List (Nat × Nat)) : Nat → List (Bool × Nat × Nat) → List (Nat × Nat)
  | _, [] => []
  | at', (auto, base, size) :: rest =>
    if auto then
      let a := stepPast fixed 4 at' size
      (a, size) :: placeAll fixed (a + size) rest
    else (base, size) :: placeAll fixed at' rest

/-- Start and size of regions 0 to 2, in 2 MiB units (R422). -/
def placedRegions (v : State) : List (Nat × Nat) :=
  let rs := (regionSizes v).zip [R.HBMC_LAYOUT_CT, R.HBMC_LAYOUT_ACC, R.HBMC_LAYOUT_STAGE]
  let xs := rs.map (fun r => (bitOf (v.rdN r.2) 31, v.rdN r.2 % 2 ^ 15, r.1))
  placeAll ((xs.filter (fun x => !x.1)).map (fun x => x.2)) 0 xs

/-- Archive offset of staging slot `k` of a Catalogue (R277, R422). -/
def stageOff (v : State) (k : Nat) : Nat := (((placedRegions v).getD 2 (0, 0)).1 + k * slotUnits v) * regionUnit

/-- Shows the regions, the accumulator strides and the folio staging slots in their registers; a slot that holds a folio keeps its
address (R24, R260, R286, R359, R422). -/
def State.showRegions (s : State) : State :=
  let ps := placedRegions s
  let s1 := s.forEach ps.zipIdx (fun u p =>
    let w0 := if p.1.2 = 0 then 0 else 2 ^ 31 + p.1.1 % 2 ^ 15
    let w1 := if p.1.2 = 0 then 0 else p.2 * 2 ^ 16 + p.1.2 % 2 ^ 15
    (u.wrN (R.HBMC_REGION_W0 p.2) w0).wrN (R.HBMC_REGION_W1 p.2) w1)
  let corr := s.corrRole
  let s2 := (s1.wr64 R.ACCUM_ACC_BASE_LO R.ACCUM_ACC_BASE_HI (if corr then (ps.getD 1 (0, 0)).1 * regionUnit else 0)).wr64
    R.ACCUM_BANK_STRIDE_LO R.ACCUM_BANK_STRIDE_HI (if corr then bankStride s else 0)
  let s3 := (s2.wrN R.ACCUM_CH_STRIDE (if corr then chStride s else 0)).fput F.ACCUM_STATUS_STAGE_SLOTS (stageSlots s)
  s3.forEach (List.range 8) (fun u k =>
    if u.fbit (F.ACCUM_STAGE_STATE_FULL k) || u.fbit (F.ACCUM_STAGE_STATE_WRITING k) then u
    else u.wr64 (R.ACCUM_STAGE_ADDR_LO k) (R.ACCUM_STAGE_ADDR_HI k) (if k < stageSlots s then stageOff s k else 0))

/-! ### The drain -/

/-- Frees an integration's bank; RETIRING clears with the last integration of an earlier Catalogue (R262, R363). -/
def State.releaseBank (s : State) (id : Nat) : State :=
  let s1 := s.accMod (fun a => { a with integs := a.integs.filter (fun i => i.id != id) })
  s1.doIf (!s1.accum.integs.any (fun i => decide (i.a < s.accSi))) (fun u => u.fput F.CAT_STATUS_RETIRING 0)

/-- Whether staging slot `j` holds a folio or is being written (R277). -/
def State.stageUsed (s : State) (j : Nat) : Bool := s.fbit (F.ACCUM_STAGE_STATE_FULL j) || s.fbit (F.ACCUM_STAGE_STATE_WRITING j)

/-- The bytes of the Archive that used staging slot `j` occupies: offset and length. -/
def State.stageRange (s : State) (j : Nat) : Nat × Nat :=
  (s.rd64 (R.ACCUM_STAGE_ADDR_LO j) (R.ACCUM_STAGE_ADDR_HI j), tget 0 s.accum.stageSpan j * regionUnit)

/-- A staging slot of the Catalogue `v` that holds nothing and overlaps no used slot (R24, R262, R277). -/
def State.freeStage (s : State) (v : State) : Option Nat :=
  (List.range (stageSlots v)).find? (fun k => !s.stageUsed k && (List.range 8).all (fun j =>
    let r := s.stageRange j
    !s.stageUsed j || decide (stageOff v k + slotUnits v * regionUnit ≤ r.1) || decide (r.1 + r.2 ≤ stageOff v k)))

/-- Whether a spill of integration `i` is waiting or unacknowledged. -/
def State.spillsLeft (s : State) (i : Nat) : Bool :=
  s.array.paths.any (fun e => e.2.any (fun x => match s.integOf x.ord with
    | some j => j.id == i
    | none => false))

/-- DRAIN_START: every DRAIN and spill of the oldest closed integration has retired; the output stage takes a staging slot, or the
integration is lost (R24, R261, R262). -/
def execDrainStart (s : State) : Host.Outcome State Fault Refusal :=
  .next (match s.accum.integs.find? (fun i => i.e.isSome && i.drain.isNone) with
    | none => s
    | some i =>
      if !i.drainIssued || s.array.drains.any (fun d => d.2 == i.id) || s.spillsLeft i.id || s.fbit F.ACCUM_STATUS_DRAINING then s
      else match s.freeStage (s.under i) with
        | none => (((s.count R.ACCUM_LOST).raise F.ACCUM_EVENT_FOLIO_LOST).accMod (fun a => { a with lostSince := a.lostSince + 1 })).releaseBank i.id
        | some k =>
          let v := s.under i
          let s0 := (s.wr64 (R.ACCUM_STAGE_ADDR_LO k) (R.ACCUM_STAGE_ADDR_HI k) (stageOff v k)).accMod (fun a =>
            { a with stageSpan := tset 0 a.stageSpan k (slotUnits v) })
          let s1 := (s0.integMod i.id (fun j => { j with drain := some (k, s.nowNs) })).fput (F.ACCUM_STAGE_STATE_WRITING k) 1
          ((s1.fput F.ACCUM_STATUS_DRAINING 1).fput F.ACCUM_STATUS_DRAIN_BANK i.bank).raise F.ACCUM_EVENT_DRAIN_START)

/-- Counts the slots that hold a folio. DESIGN CHOICE (log 201): STAGE_FULL is their number, not a bit for each (R286). -/
def State.showStages (s : State) : State :=
  s.fput F.ACCUM_STATUS_STAGE_FULL ((List.range 8).filter (fun k => s.fbit (F.ACCUM_STAGE_STATE_FULL k))).length

/-- Logs the uncorrectable units that the drain of integration `i` reads: valid counts, mark words and entries (R263, R439). -/
def State.noteDrain (s : State) (i : Integ) : State :=
  let v := s.under i
  let oc := outChans v
  s.doIf (!s.poison.isEmpty) (fun s => s.forEach ((List.range oc.2).map (fun d => oc.1 + d)) (fun u c =>
    let u1 := u.forEach (List.range v.nIn) (fun w n => w.noteRead 1 (validOff v i.bank c n) 4)
    u1.forEach ((List.range (outBlocks v).2).map (fun d => (outBlocks v).1 + d)) (fun w b =>
      let mo := markOff v i.bank c b
      let zero := s.arcPoisoned mo 4 || bitOf (s.arcNat mo 4) 7 || bitOf (s.arcNat mo 4) 6
      (w.noteRead 1 mo 4).doIf (!zero) (fun w => w.noteRead 1 (entryOff v i.bank c b) ((blockCells v b).length * accEntryBytes v)))))

/-- FOLIO_DONE: the colophon is written; the folio lies in its slot, its routes begin, and the bank is released (R262 to R279). -/
def execFolioDone (s : State) : Host.Outcome State Fault Refusal :=
  .next (match s.accum.integs.find? (fun i => i.drain.isSome) with
    | none => s
    | some i =>
      match i.drain, i.e with
      | some (k, ns), some e =>
        let v := s.under i
        let f := s.folio i e ns
        let off := s.rd64 (R.ACCUM_STAGE_ADDR_LO k) (R.ACCUM_STAGE_ADDR_HI k)
        let egr := v.fbit F.ACCUM_ROUTE_EGRESS
        let pcie := v.fbit F.ACCUM_ROUTE_PCIE || !egr
        let s1 := (((s.noteDrain i).arcPut off f.1).countBy R.ACCUM_MEMERR f.2.1).raiseIf (decide (0 < f.2.1)) F.ACCUM_EVENT_MEMERR
        let s2 := (s1.countBy R.ACCUM_TENSOR_ERR f.2.2).raiseIf (decide (0 < f.2.2)) F.ACCUM_EVENT_TENSOR_ERR
        let s3 := ((s2.wr64 (R.ACCUM_STAGE_LEN_LO k) (R.ACCUM_STAGE_LEN_HI k) f.1.length).wr64 (R.ACCUM_STAGE_SI_LO k)
          (R.ACCUM_STAGE_SI_HI k) i.a).wrN (R.ACCUM_STAGE_STATE k) (2 ^ 31 + b2n egr * 2 ^ 29)
        let s4 := ((s3.count R.ACCUM_FOLIOS).raise F.ACCUM_EVENT_FOLIO_DONE).raiseIf (!wholeInteg v i.a e) F.ACCUM_EVENT_SHORT
        let s5 := s4.accMod (fun a => { a with
          lostSince := 0, sending := if egr then a.sending ++ [(k, 0, v.fget F.ACCUM_ROUTE_STREAM)] else a.sending,
          holdEgress := if egr then a.holdEgress ++ [k] else a.holdEgress,
          holdPcie := if pcie then a.holdPcie ++ [k] else a.holdPcie })
        (((s5.fput F.ACCUM_STATUS_DRAINING 0).releaseBank i.id).showStages).kick
      | _, _ => s)

/-- Releases a staging slot once every route has finished with it (R277). -/
def State.stageCheck (s : State) (k : Nat) : State :=
  if s.accum.holdPcie.contains k || s.accum.holdEgress.contains k then s
  else
    let s1 := (s.fput (F.ACCUM_STAGE_STATE_FULL k) 0).fput (F.ACCUM_STAGE_STATE_EGRESS_DONE k) 0
    (s1.wr64 (R.ACCUM_STAGE_ADDR_LO k) (R.ACCUM_STAGE_ADDR_HI k)
      (if k < s.fget F.ACCUM_STATUS_STAGE_SLOTS then stageOff s k else 0)).showStages

/-- FOLIO_EGRESS_DONE: every FOLIO frame of the folio in slot `k` has been sent or aborted (R277). -/
def execFolioEgressDone (k : Fin 8) (s : State) : Host.Outcome State Fault Refusal :=
  .next (
    let left := s.accum.sending.any (fun x => x.1 == k.val) || s.lanes.any (fun e => match e.2.tx with
      | some f => f.typ == 0x50 && f.slot == k.val
      | none => false)
    if !s.accum.holdEgress.contains k.val || left then s
    else
      let s1 := s.accMod (fun a => { a with holdEgress := a.holdEgress.filter (fun x => x != k.val) })
      (((s1.fput (F.ACCUM_STAGE_STATE_SENDING k.val) 0).fput (F.ACCUM_STAGE_STATE_EGRESS_DONE k.val) 1).raise
        F.ACCUM_EVENT_EGRESS_DONE).stageCheck k.val)

/-- STAGE_RELEASE: host software has finished with slot `k` (R277, R286). -/
def execStageRelease (k : Fin 8) (s : State) : Host.Outcome State Fault Refusal :=
  .next (if s.accum.holdPcie.contains k.val then
      (s.accMod (fun a => { a with holdPcie := a.holdPcie.filter (fun x => x != k.val) })).stageCheck k.val
    else s)

end Sys2Proof.Machine
end

