-- ==== Sys2Proof/Machine/Beam.lean ====
section
/-!
DEFINITION. Machine/Beam.lean: read-out, beam frames, the transient search and the weight switch (R299 to R328).
-/
namespace Sys2Proof.Machine

/-! ### Marks of an output -/

/-- EPOCH for SI `x`: it toggles at every accession, a scheduled one included (R15, R312, R322). -/
def State.epochAt (s : State) (x : Nat) : Nat :=
  ((s.beam.accs ++ s.accDue.toList).filter (fun a => decide (a ≤ x))).length % 2

/-- Whether an output of set `n` over [a, e) carries WEIGHT_LATE: a switch that found its page not loaded and has not taken effect, at
whatever time that output is processed, or no page (R15, R303, R304). -/
def State.weightLate (s : State) (n a e : Nat) : Bool :=
  (tget [] s.beam.late n).any (fun l => decide (l.1 < e) && (match (l.2 <|> s.pendingAt n) with
    | some y => decide (a < y)
    | none => true))
  || s.dueSwitches.any (fun w => decide (w.1 < e) && (s.at w.1).setEnabled n && s.pageAt n w.1 != some w.2)
  || (s.pageAt n a).isNone

/-! ### Voltage frames -/

/-- BEAM.VCFG.VLAT, held within its range (R309, R327). -/
def State.vlat (v : State) : Nat := max 2000 (min 20000 (v.fget F.BEAM_VCFG_VLAT))

/-- A part of a beam sum as an 8-bit part, and whether it was clamped (R306). -/
def requant (sh : Nat) (v : Int) : Int × Bool :=
  let x := if sh = 0 then v else (v + 2 ^ (sh - 1)) / 2 ^ sh
  let y := max (-127) (min x 127)
  (y, y != x)

/-- A VBEAM frame (R311, R312): octet, slot, block, flags, and its 2,048 payload bytes. -/
def State.vframe (s : State) (v : State) (oct slot b flags : Nat) (payload : List Byte) : EgressFrame :=
  { typ := 0x40, stream := v.fget F.BEAM_ROUTE_VSTREAM, chan := slot, si := b * 128, flags := flags, payload := payload,
    group := s.quality (· == slot) (b * 128) (b * 128 + 128) % 256 * 256 + oct }

/-- Counts and raises SAT for a frame that carries it (R326, R328). -/
def State.noteSat (s : State) (sat : Bool) : State := s.doIf sat (fun u => (u.count R.BEAM_SAT_COUNT).raise F.BEAM_EVENT_SAT)

/-- FLAGS of the outputs of set `n` from position `t` over [lo, hi) of block `h` (R312, R314). -/
def State.frameFlags (s : State) (t n : Nat) (h : HeldBlk) (lo hi : Nat) : Nat :=
  b2n (lo != h.b * 128 || hi != h.b * 128 + 128) * 0x8000 + b2n h.gen * 0x4000 + s.epochAt lo * 0x2000
    + b2n (s.array.suspects.contains (s.phys t)) * 0x1000 + b2n h.part * 0x400 + b2n (s.weightLate n lo hi) * 0x200

/-- The VBEAM frame of octet `o` of set `n` from tile `t`'s sum buffer, for spectra [lo, hi) of block `h`, and whether it carries SAT
(R304, R306, R311, R312, R314). -/
def State.voltFrame (s : State) (t n o : Nat) (h : HeldBlk) (buf lo hi : Nat) : EgressFrame × Bool :=
  let v := s.at lo
  let base := carrelAddr (s.phys t)
  let cell := fun (j k : Nat) =>
    let bm := 8 * o + k
    if !bitOf (v.volt n) bm || !(decide (lo ≤ h.b * 128 + j) && decide (h.b * 128 + j < hi)) || (s.pageAt n (h.b * 128 + j)).isNone then
      ([0x80#8, 0x80#8], false)
    else
      let re := requant (v.fget F.BEAM_VCFG_VSHIFT) (s.ldInt (sumAddr base buf j bm) 4)
      let im := requant (v.fget F.BEAM_VCFG_VSHIFT) (s.ldInt (sumAddr base buf j bm + 4) 4)
      (leBytes 1 (fromSigned 8 re.1) ++ leBytes 1 (fromSigned 8 im.1), re.2 || im.2)
  let all := (List.range 128).flatMap (fun j => (List.range 8).map (fun k => cell j k))
  let sat := all.any Prod.snd
  (s.vframe v (4 * n + o) h.slot h.b (s.frameFlags t n h lo hi + b2n sat * 0x800) (all.flatMap Prod.fst), sat)

/-- The VBEAM frame that says that the sums were late: every sample flagged (R309). -/
def State.lateFrame (s : State) (t n o : Nat) (h : HeldBlk) (lo hi : Nat) : EgressFrame :=
  s.vframe (s.at lo) (4 * n + o) h.slot h.b (s.frameFlags t n h lo hi + 0x100) (List.replicate 2048 0x80#8)

/-- Makes a VBEAM frame ready with its deadline (R309, R310). -/
def State.readyV (s : State) (f : EgressFrame) (deadline : Nat) : State :=
  s.beamMod (fun b => { b with vready := b.vready ++ [⟨f, deadline⟩] })

/-! ### Detection -/

/-- Q of a DET beam over run `r` of the block, and whether it saturated (R307). -/
def State.detect (s : State) (v : State) (base buf bm r : Nat) : Nat × Bool :=
  let dt := v.fget F.BEAM_DCFG_DT
  let q := ((List.range (2 ^ dt)).map (fun d =>
    let a := sumAddr base buf (r * 2 ^ dt + d) bm
    let re := s.ldInt a 4
    let im := s.ldInt (a + 4) 4
    (re * re + im * im).toNat / 2 ^ (v.fget F.BEAM_DCFG_PSHIFT))).sum
  (satN 32 q, decide (2 ^ 32 - 1 < q))

/-- The span of `slot`, octet and first SI whose segment is [lo, hi); a new one where none is open (R313, R314). -/
def State.spanOf (s : State) (slot oct a lo hi : Nat) : DSpan :=
  match s.beam.spans.find? (fun d => d.slot == slot && d.oct == oct && d.a == a && d.lo == lo) with
  | some d => { d with hi := hi }
  | none => { slot := slot, oct := oct, a := a, lo := lo, hi := hi }

/-- Puts a span back. -/
def State.putSpan (s : State) (d : DSpan) : State :=
  let same := fun (x : DSpan) => x.slot == d.slot && x.oct == d.oct && x.a == d.a && x.lo == d.lo
  s.beamMod (fun b => { b with
    spans := if b.spans.any same then b.spans.map (fun x => if same x then d else x) else b.spans ++ [d] })

/-- The first SI and the length of the DBEAM span that holds SI `x` (R313). -/
def spanBase (v : State) (x : Nat) : Nat × Nat :=
  let l := 128 * 2 ^ (v.fget F.BEAM_DCFG_DT)
  (x / l * l, l)

/-- The position to which slot `c` of set `n` is assigned (R290). -/
def State.tileFor (s : State) (n c : Nat) : Option Nat :=
  (s.array.plan.recs.find? (fun r => r.set == n && r.slots.contains c)).map BeamRec.tile

/-- Whether the beam work of set `n` on slot `c` of block `b` brings its outputs nothing: cancelled or shed (R308, R316, R324, R325). -/
def State.noWork (s : State) (n c b : Nat) : Bool :=
  s.beamShed n c (b * 128) || (match s.tileFor n c with
    | some t => s.cancelled t c b
    | none => true)

/-- Whether every block of a span's segment has delivered its values or never will (R308, R313). -/
def State.spanFull (s : State) (d : DSpan) : Bool :=
  ((List.range (ceilDiv d.hi 128 - d.lo / 128)).map (fun k => d.lo / 128 + k)).all (fun b =>
    d.blocks.contains b || s.noWork (d.oct / 4) d.slot b)

/-- Gives every span that has become complete its place in the order of completion (R313). -/
def State.markFull (s : State) : State :=
  s.forEach (s.beam.spans.filter (fun d => d.fullAt == 0 && s.spanFull d)) (fun u d =>
    u.beamMod (fun b => { b with
      fullSeq := b.fullSeq + 1, spans := b.spans.map (fun x => if x == d then { d with fullAt := b.fullSeq + 1 } else x) }))

/-- Adds the values of octet `o` of set `n` of block `h` to their span, for the spectra [lo, hi) of the block; `vals` is false where the
sums were discarded (R304, R309, R312, R313, R314). -/
def State.addSpan (s : State) (t n o : Nat) (h : HeldBlk) (buf lo hi : Nat) (vals : Bool) : State :=
  let v := s.at lo
  let base := carrelAddr (s.phys t)
  let dt := v.fget F.BEAM_DCFG_DT
  let sp := spanBase v lo
  let seg := ((s.segments sp.1 (sp.1 + sp.2)).find? (fun g => decide (g.1 ≤ lo) && decide (lo < g.2))).getD (sp.1, sp.1 + sp.2)
  let d := s.spanOf h.slot (4 * n + o) sp.1 seg.1 seg.2
  let runs := (List.range (128 / 2 ^ dt)).filter (fun r =>
    decide (lo ≤ h.b * 128 + r * 2 ^ dt) && decide (h.b * 128 + (r + 1) * 2 ^ dt ≤ hi) && vals
      && (s.pageAt n (h.b * 128 + r * 2 ^ dt)).isSome)
  let one := fun (r k : Nat) =>
    let q := s.detect v base buf (8 * o + k) r
    let x := q.1 / 2 ^ (v.fget F.BEAM_DCFG_DSHIFT)
    (8 * ((h.b * 128 - sp.1) / 2 ^ dt + r) + k, min 0xFFFE x, q.2 || decide (0xFFFE < x))
  let all := runs.flatMap (fun r => ((List.range 8).filter (fun k => bitOf (v.det n) (8 * o + k))).map (fun k => one r k))
  let flags := d.flags ||| (s.frameFlags t n h lo hi % 0x8000) ||| (b2n (all.any (fun e => e.2.2)) * 0x800)
  (s.putSpan { d with
    vals := all.foldl (fun tb e => tset 0xFFFF tb e.1 e.2.1) d.vals, blocks := d.blocks ++ [h.b], flags := flags }).markFull

/-! ### Search -/

/-- Whether the search runs (R290, R315). -/
def State.searching (v : State) : Bool := v.fbit F.BEAM_SEARCH_EN

/-- LEVELS and AVG, held within their ranges (R327). -/
def State.levels (v : State) : Nat := max 1 (min 9 (v.fget F.BEAM_SEARCH_LEVELS))
def State.searchAvg (v : State) : Nat := min 8 (v.fget F.BEAM_SEARCH_AVG)

/-- The channel slots of the search band (R315). -/
def State.band (v : State) : List Nat :=
  (List.range v.nChan).filter (fun c => decide (v.fget F.BEAM_SBAND_FIRST ≤ c) && decide (c ≤ v.fget F.BEAM_SBAND_LAST))

/-- The sets with a SRCH beam. -/
def State.srchSets (v : State) : List Nat := (List.range 32).filter (fun n => v.srch n != 0)

/-- Changes the level state of a beam and level. -/
def State.levelMod (s : State) (bm j : Nat) (f : LevelSt → LevelSt) : State :=
  s.beamMod (fun b => { b with levels := tmod {} b.levels (16 * bm + j) f })

/-- Records one output of a level: an event where it exceeds the threshold, else a term of the next mean (R318, R319). -/
def State.levelOut (s : State) (v : State) (bm j si e marks : Nat) : State :=
  let l := tget {} s.beam.levels (16 * bm + j)
  let ev := l.valid && decide (0 < l.level) && decide (l.level * v.fget (F.BEAM_TH_TH j) < e * 256)
  let m := if l.level = 0 then 0 else min (2 ^ 32 - 1) (e * 65536 / l.level)
  let s1 := s.doIf ev (fun u => ((u.count R.BEAM_EVENTS).raise F.BEAM_EVENT_THRESH).beamMod
    (fun b => { b with events := b.events ++ [⟨bm, j, si, e, m, marks⟩] }))
  let sum := if ev then l.sum else l.sum + e
  let used := if ev then l.used else l.used + 1
  s1.levelMod bm j (fun q =>
    if l.outs + 1 < 2 ^ v.searchAvg then { q with outs := l.outs + 1, sum := sum, used := used }
    else { q with outs := 0, sum := 0, used := 0, level := if used = 0 then l.level else sum / used,
                  valid := l.valid || decide (0 < used) })

/-- Takes boxcar `n` of level `j` and passes pairs on to the next level; a boxcar with a run without a value, or across a cut, gives
no output (R317, R322, R323). -/
def State.boxcar (v : State) (bm : Nat) : Nat → Nat → Nat → Option Nat → Nat → State → State
  | 0, _, _, _, _, s => s
  | fuel + 1, j, n, e, marks, s =>
    let len := 2 ^ (v.fget F.BEAM_DCFG_DT + j)
    let whole := !s.cuts.any (fun x => decide (n * len < x) && decide (x < (n + 1) * len))
    let e' := if whole then e else none
    let s1 := match e' with
      | some x => s.levelOut v bm j (n * len) x marks
      | none => s
    if n % 2 = 0 then s1.levelMod bm j (fun q => { q with half := some (n + 1, e', marks) })
    else
      let h := (tget ({} : LevelSt) s1.beam.levels (16 * bm + j)).half
      let s2 := s1.levelMod bm j (fun q => { q with half := none })
      match h with
      | some (k, f, fm) =>
        let pair := if k = n then (match f, e' with
          | some x, some y => some (satN 64 (x + y))
          | _, _ => none) else none
        State.boxcar v bm fuel (j + 1) (n / 2) pair (if k = n then marks ||| fm else marks) s2
      | none => State.boxcar v bm fuel (j + 1) (n / 2) none marks s2

/-- The registers whose change at an accession clears the levels of the search (R322). -/
def searchRegs : List Nat := [R.BEAM_DCFG, R.BEAM_SEARCH, R.BEAM_SBAND] ++ (List.range 32).map R.BEAM_SET_SRCH

/-- The SI of a scheduled accession that will clear the levels, where work beyond it has not cleared them already (R15, R322). -/
def State.clearDue (s : State) : Option Nat :=
  s.accDue.filter (fun x => s.beam.preCleared != some x && s.cat.next.any (fun e => searchRegs.contains e.1))

/-- Clears every level's state where SI `x` reaches a restart (R322). -/
def State.levelClear (s : State) (x : Nat) : State :=
  let pre := s.clearDue.filter (fun c => decide (c ≤ x))
  if pre.isSome || s.beam.clears.any (fun c => decide (c ≤ x)) then
    s.beamMod (fun b => { b with levels := [], clears := b.clears.filter (fun c => decide (x < c)), preCleared := pre <|> b.preCleared })
  else s

/-- Shows how many block-times the search buffer holds (R327). -/
def State.showBts (s : State) : State := s.fput F.BEAM_STATUS_BLOCKTIMES ((s.beam.bts.map BlockTime.b).dedup).length

/-- Completes a block-time, or the part of one that an accession cut off: each run's band sum goes to level 0 (R315 to R317, R323). -/
def State.completeBt (s : State) (bt : BlockTime) : State :=
  let v := s.at bt.lo
  let dt := v.fget F.BEAM_DCFG_DT
  let at' := fun (r : Nat) => bt.b * 128 + r * 2 ^ dt
  let runs := (List.range (128 / 2 ^ dt)).filter (fun r => decide (bt.lo ≤ at' r) && decide (at' (r + 1) ≤ bt.hi))
  let s0 := s.beamMod (fun b => { b with
    bts := b.bts.filter (fun x => !(x.b == bt.b && x.lo == bt.lo)), doneSi := max b.doneSi bt.hi
    gens := if bt.gen then b.gens ++ [bt.lo] else b.gens })
  let beams := v.srchSets.flatMap (fun n => ((List.range 32).filter (fun k => bitOf (v.srch n) k)).map (fun k => (n, 32 * n + k)))
  let s1 := s0.forEach runs (fun u r =>
    (u.levelClear (at' r)).forEach beams (fun u nb =>
      let missing := v.band.any (fun c => !bt.got.contains (4096 * nb.1 + c))
      let shed := v.band.any (fun c => s.beamShed nb.1 c (bt.b * 128))
      let key := 4096 * nb.2 + r
      let e := if bt.noVal.contains key || v.band.isEmpty then none else some (satN 64 (tget 0 bt.sums key))
      State.boxcar v nb.2 v.levels 0 (bt.b * (128 / 2 ^ dt) + r) e (tget 0 bt.marks nb.2 ||| b2n missing ||| (b2n shed * 16)) u))
  s1.showBts

/-- Whether every slot of the band has delivered to a block-time, or never will (R316). -/
def State.btComplete (s : State) (bt : BlockTime) : Bool :=
  let v := s.at bt.lo
  v.srchSets.all (fun n => v.band.all (fun c => bt.got.contains (4096 * n + c) || bt.lost.contains (4096 * n + c) || s.noWork n c bt.b))

/-- The oldest block-time of the search buffer. -/
def State.oldestBt (s : State) : Option BlockTime :=
  (sortBy (fun (x y : BlockTime) => decide (x.lo < y.lo)) s.beam.bts).head?

/-- Completes the oldest block-times that are complete. -/
def State.btAdvance : Nat → State → State
  | 0, s => s
  | fuel + 1, s =>
    match s.oldestBt with
    | some bt => if s.btComplete bt then State.btAdvance fuel (s.completeBt bt) else s
    | none => s

/-- Completes what stands of the oldest block-time, for want of room (R316). -/
def State.cutBt (s : State) : State :=
  match s.oldestBt with
  | none => s
  | some bt =>
    let parts := sortBy (fun (x y : BlockTime) => decide (x.lo < y.lo)) (s.beam.bts.filter (fun x => x.b == bt.b))
    (((s.forEach parts (fun u x => u.completeBt x)).count R.BEAM_SEARCH_CUT).raise F.BEAM_EVENT_SEARCH_CUT).beamMod (fun b => { b with cut := true })

/-- Opens the block-time of block `b` for the spectra [lo, hi); a fifth completes the oldest at once (R316). -/
def State.openBt (s : State) (b lo hi : Nat) (gen : Bool) : State :=
  if s.beam.bts.any (fun x => x.b == b && x.lo == lo) then s
  else
    let held := (s.beam.bts.map BlockTime.b).dedup
    let s1 := if held.contains b || decide (held.length < 4) then s else s.cutBt
    (s1.beamMod (fun x => { x with bts := x.bts ++ [{ b := b, lo := lo, hi := hi, gen := gen }] })).showBts

/-- Delivers block `h` for set `n` to the search, for the spectra [lo, hi) of the block (R315, R316, R323). -/
def State.deliver (s : State) (t n : Nat) (h : HeldBlk) (buf lo hi : Nat) (vals : Bool) : State :=
  let v := s.at lo
  if !v.searching || v.srch n = 0 || !v.band.contains h.slot || decide (hi ≤ s.beam.doneSi) then s
  else
    let dt := v.fget F.BEAM_DCFG_DT
    let base := carrelAddr (s.phys t)
    let s1 := s.openBt h.b lo hi h.gen
    let beams := (List.range 32).filter (fun k => bitOf (v.srch n) k)
    let runs := (List.range (128 / 2 ^ dt)).filter (fun r =>
      decide (lo ≤ h.b * 128 + r * 2 ^ dt) && decide (h.b * 128 + (r + 1) * 2 ^ dt ≤ hi))
    let upd := fun (bt : BlockTime) =>
      (beams.flatMap (fun k => runs.map (fun r => (k, r)))).foldl (fun (x : BlockTime) kr =>
        let key := 4096 * (32 * n + kr.1) + kr.2
        let q := s.detect v base buf kr.1 kr.2
        let mk := b2n q.2 * 2 + b2n (s.weightLate n lo hi) * 4 + b2n h.part * 8
        if !vals then x
        else if (s.pageAt n (h.b * 128 + kr.2 * 2 ^ dt)).isNone then
          { x with noVal := key :: x.noVal, marks := tmod 0 x.marks (32 * n + kr.1) (· ||| mk) }
        else { x with sums := tset 0 x.sums key (satN 64 (tget 0 x.sums key + q.1)), marks := tmod 0 x.marks (32 * n + kr.1) (· ||| mk) }) bt
    let note := fun (y : BlockTime) =>
      if vals then { y with got := y.got ++ [4096 * n + h.slot] } else { y with lost := y.lost ++ [4096 * n + h.slot] }
    let s2 := s1.beamMod (fun x => { x with bts := x.bts.map (fun bt => if bt.b == h.b && bt.lo == lo then note (upd bt) else bt) })
    s2.btAdvance 8

/-! ### Read-out and frames -/

/-- Whether set `n` has a voltage beam in block number `b`. -/
def State.voltIn (s : State) (n b : Nat) : Bool := (s.pieces (b * 128) (b * 128 + 128)).any (fun p => (s.at p.1).volt n != 0)

/-- The deadline of the voltage frames of a block, ns (R309). -/
def State.vDeadline (s : State) (h : HeldBlk) : Nat := h.refNs + (s.at (h.b * 128)).vlat

/-- What leaves position `t` for block `h`: per segment and octet a voltage frame, flagged where `late`, and where `rest` holds the
detected values for their span and the search (R306 to R316). -/
def State.readOut (s : State) (t n : Nat) (h : HeldBlk) (buf : Nat) (late rest : Bool) : State :=
  s.forEach (s.segments (h.b * 128) (h.b * 128 + 128)) (fun u g =>
    let v := s.at g.1
    let u2 := u.forEach (List.range 4) (fun u o =>
      let f := s.voltFrame t n o h buf g.1 g.2
      let u1 := if bitsOf (v.volt n) (8 * o + 7) (8 * o) = 0 then u
        else if late then
          ((u.readyV (s.lateFrame t n o h g.1 g.2) (h.refNs + v.vlat)).count R.BEAM_LATE).raise F.BEAM_EVENT_LATE
        else (u.readyV f.1 (h.refNs + v.vlat)).noteSat f.2
      if bitsOf (v.det n) (8 * o + 7) (8 * o) = 0 || !rest then u1 else u1.addSpan t n o h buf g.1 g.2 (!late))
    if rest then u2.deliver t n h buf g.1 g.2 (!late) else u2)

/-- BEAM_READOUT: tile `t` reads out the oldest finished chain; its voltage frames become ready, its detected values enter their
spans and the search. Sums of a set with voltage beams read out past the deadline less 3 µs are discarded (R306 to R316). -/
def execBeamReadout (t : Fin 400) (s : State) : Host.Outcome State Fault Refusal :=
  .next (match (s.tile t.val).readable, s.setOf t.val with
    | (h, buf) :: rest, some n =>
      if (s.physOf t.val).isNone then s
      else
        (s.tileMod t.val (fun q => { q with readable := rest })).readOut t.val n h buf
          (s.voltIn n h.b && decide (s.vDeadline h < s.nowNs + 3000)) true
    | _, _ => s)

/-- The channel block of which position `t` of set `n` still owes its beams, where its sums have not been read out or its work was
cancelled (R308, R309). -/
def State.owed (s : State) (t n slot b : Nat) : Option HeldBlk :=
  match (s.tile t).readable.find? (fun r => r.1.slot == slot && r.1.b == b) with
  | some r => some r.1
  | none =>
    match s.ingest.cancelled.find? (fun x => x.slot == slot && x.b == b) with
    | some x => if s.cancelled t slot b ∧ s.assigned t slot ∧ s.setForms n b ∧ !s.beamShed n slot (b * 128)
        ∧ !s.beam.lateDone.contains (t, slot, b) then some x else none
    | none =>
      match s.blkOf slot b with
      | some c => if c.closed && s.beamReader t c && !c.readBy.contains t then some (s.heldBlk c) else none
      | none => none

/-- LATE: the sums of position `t` for a channel block have not been read out 3 µs before the deadline; its voltage frames are built
flagged, its queued orders go, and its sums are discarded (R308, R309). -/
def execLate (t : Fin 400) (slot b : Nat) (s : State) : Host.Outcome State Fault Refusal :=
  .next (match s.setOf t.val with
    | none => s
    | some n =>
      match s.owed t.val n slot b with
      | none => s
      | some h =>
        if !s.voltIn n b || decide (s.nowNs + 3000 < s.vDeadline h) then s
        else
          let s0 := s.tileMod t.val (fun q => { q with
            queue := q.queue.filter (fun o => !(o.op == 2 && o.chan == slot && o.blk == b)),
            readable := q.readable.filter (fun r => !(r.1.slot == slot && r.1.b == b)),
            chain := q.chain.filter (fun x => !(x.1 == slot && x.2.1 == b)) })
          let gone := s.cancelled t.val slot b
          let s1 := match s.blkOf slot b with
            | some c => s0.putBlk { c with readBy := if c.readBy.contains t.val then c.readBy else c.readBy ++ [t.val] }
            | none => s0.doIf gone (fun u => u.beamMod (fun g => { g with lateDone := g.lateDone ++ [(t.val, slot, b)] }))
          (s1.readOut t.val n h 0 true (!gone)).showQueue t.val)

/-- The spans and the search take note of the blocks whose beam work has been cancelled since: the spans that they belong to stay without
their values, and the search treats their slot as missing (R308, R313, R316). -/
def State.takeCancelled (s : State) : State :=
  let new := s.ingest.cancelled.filter (fun x => !s.beam.cancelDone.contains (x.slot, x.b))
  let s1 := s.forEach new (fun u h =>
    u.forEach ((List.range 400).filter (fun t => s.assigned t h.slot && s.cancelled t h.slot h.b)) (fun u t =>
      match s.setOf t with
      | none => u
      | some n => if s.beamShed n h.slot (h.b * 128) then u
        else u.forEach (s.segments (h.b * 128) (h.b * 128 + 128)) (fun u g =>
          (u.forEach ((List.range 4).filter (fun o => bitsOf ((s.at g.1).det n) (8 * o + 7) (8 * o) != 0)) (fun u o =>
            u.addSpan t n o h 0 g.1 g.2 false)).deliver t n h 0 g.1 g.2 false)))
  (s1.beamMod (fun b => { b with cancelDone := b.cancelDone ++ new.map (fun h => (h.slot, h.b)) })).markFull

/-- DBEAM_SEND: every value of the span that completed first is written and its frame is sent (R313, R314). -/
def execDbeamSend (s : State) : Host.Outcome State Fault Refusal :=
  .next (
    let s0 := s.takeCancelled
    match (sortBy (fun (x y : DSpan) => decide (x.fullAt < y.fullAt)) (s0.beam.spans.filter (fun d => d.fullAt != 0))).head? with
    | none => s0
    | some d =>
      let v := s0.at d.lo
      let sp := spanBase v d.a
      let flags := d.flags ||| (b2n (d.lo != sp.1 || d.hi != sp.1 + sp.2) * 0x8000)
      let f : EgressFrame := {
        typ := 0x41, stream := v.fget F.BEAM_ROUTE_DSTREAM, chan := d.slot,
        group := s0.quality (· == d.slot) d.lo d.hi % 256 * 256 + d.oct, si := d.a, flags := flags,
        payload := (List.range 1024).flatMap (fun k => leBytes 2 (tget 0xFFFF d.vals k)) }
      let s1 := s0.beamMod (fun b => { b with spans := dropFirst (· == d) b.spans })
      if v.fget F.BEAM_ROUTE_DSTREAM = 0 then s1 else ((s1.noteSat (bitOf d.flags 11)).queueFrame f).kick)

/-- BEAM.CAND.PERIOD and K, held within their ranges (R327). -/
def State.candPeriod (v : State) : Nat := 128 * max 1 (v.fget F.BEAM_CAND_PERIOD)
def State.candK (v : State) : Nat := min 252 (v.fget F.BEAM_CAND_K)

/-- The first SI of the open candidate period: where the search does not run there, the first accession after it, or the end of that
accession's gap, from which it does (R320, R322). -/
def State.openPeriod (s : State) : Nat :=
  ((ascending (s.beam.period :: s.cuts.filter (fun x => decide (s.beam.period < x)))).find? (fun x =>
    (s.at x).searching && !s.inGap x)).getD s.beam.period

/-- The end of the candidate period that starts at `p`, and whether an accession cuts it (R320, R322). -/
def State.periodEnd (s : State) (p : Nat) : Nat × Bool :=
  let l := (s.at p).candPeriod
  let e := (p / l + 1) * l
  match ascending (s.cuts.filter (fun x => decide (p < x) && decide (x < e))) with
  | [] => (e, false)
  | x :: _ => (x, true)

/-- Whether every band sum below SI `e` is complete; where no beam or no slot is searched, once the index is there (R316, R320). -/
def State.bandDone (s v : State) (e : Nat) : Bool :=
  decide (e ≤ s.beam.doneSi) || ((v.srchSets.isEmpty || v.band.isEmpty) && decide (e ≤ s.siNow))

/-- Sets shed for any part of [a, e), one bit a set: by the throttle, or for work on a position that does not exist (R321, R324,
R325). -/
def State.shedBits (s : State) (a e : Nat) : Nat :=
  let rows := s.shedAt a :: s.sheds.filter (fun r => decide (a ≤ r.x) && decide (r.x < e))
  let unplaced := fun (n : Nat) => s.array.plan.recs.any (fun r => r.set == n && (s.physOf r.tile).isNone)
    && s.beam.gone.all (fun g => g.1 != n || decide (g.2 < e))
  ((List.range 32).filter (fun n => rows.any (fun r => r.sets.contains n) || unplaced n)).foldl (fun w n => w + 2 ^ n) 0

/-- A candidate record (R321). -/
def State.candRecord (s : State) (v : State) (ev : SearchEvent) (rank : Nat) : List Byte :=
  let len := 2 ^ (v.fget F.BEAM_DCFG_DT + ev.lvl)
  leBytes 1 2 ++ leBytes 1 ev.lvl ++ leBytes 1 (s.quality (fun c => v.band.contains c) ev.si (ev.si + len)) ++ leBytes 1 ev.marks ++ leBytes 2 ev.beam
    ++ leBytes 2 rank ++ leBytes 8 ev.si ++ leBytes 8 ev.e ++ leBytes 4 ev.m ++ leBytes 4 0

/-- CAND: every band sum of the open candidate period is complete; its strongest events are sent (R320, R321). -/
def execCand (s : State) : Host.Outcome State Fault Refusal :=
  .next (
    let s := s.takeCancelled
    let p := s.openPeriod
    let v := s.at p
    let pe := s.periodEnd p
    let e := pe.1
    if !v.searching || !s.bandDone v e then s
    else
      let evs := s.beam.events.filter (fun x => decide (x.si < e))
      let before := fun (x y : SearchEvent) => decide (y.m < x.m) || (x.m == y.m && (decide (x.beam < y.beam)
        || (x.beam == y.beam && (decide (x.lvl < y.lvl) || (x.lvl == y.lvl && decide (x.si < y.si))))))
      let top := (sortBy before evs).take v.candK
      let fs := max 1 (ceilDiv top.length 63)
      let l := v.candPeriod
      let gen := s.beam.gens.any (fun x => decide (p ≤ x) && decide (x < e))
      let hdr := b2n pe.2 * 0x8000 + b2n gen * 0x4000 + s.epochAt p * 0x2000
      let frame := fun (k : Nat) =>
        let recs := (top.drop (63 * k)).take 63
        let sum := leBytes 1 1 ++ leBytes 1 k ++ leBytes 1 fs ++ leBytes 1 recs.length ++ leBytes 4 (satN 32 evs.length) ++ leBytes 8 p
          ++ leBytes 8 e ++ leBytes 4 (s.shedBits p e) ++ leBytes 1 (b2n pe.2 + 2 * s.epochAt p + 4 * b2n gen + 8 * b2n s.beam.cut)
          ++ leBytes 1 (s.quality (fun c => v.band.contains c) p e) ++ leBytes 2 v.candK
        ({ typ := 0x42, stream := v.fget F.BEAM_ROUTE_CSTREAM, chan := p / l % 65536, group := fs * 256 + k, si := p, flags := hdr,
           payload := sum ++ (recs.zipIdx).flatMap (fun r => s.candRecord v r.1 (63 * k + r.2)) } : EgressFrame)
      let next := match (s.ingest.gaps ++ s.cat.acc.toList).find? (fun g => g.1 == e && g.1 != g.2) with
        | some g => g.2
        | none => e
      let s1 := (s.beamMod (fun b => { b with
        events := b.events.filter (fun x => decide (e ≤ x.si)), gens := b.gens.filter (fun x => decide (e ≤ x)), period := next,
        cut := false })).raiseIf (!evs.isEmpty) F.BEAM_EVENT_CAND
      if v.fget F.BEAM_ROUTE_CSTREAM = 0 then s1 else (s1.forEach (List.range fs) (fun u k => u.queueFrame (frame k))).kick)

/-! ### Weight switch -/

/-- Makes page `p` active for set `n` from SI `x`; the page that was active ceases to be loaded (R300, R302). -/
def State.activatePage (s : State) (n p x : Nat) : State :=
  let s0 := match s.pageNow n with
    | some o => s.fput ⟨R.BEAM_WLOAD o, n, 1⟩ 0
    | none => s
  let s1 := s0.beamMod (fun b => { b with
    pages := tset [] b.pages n ((x, p + 1) :: tget [] b.pages n),
    late := tmod [] b.late n (fun l => l.map (fun e => (e.1, some (e.2.getD x)))) })
  ((s1.fput (F.BEAM_SET_STATUS_NO_WEIGHTS n) 0).fput (F.BEAM_SET_STATUS_PAGE n) p).fput ⟨R.BEAM_ACTIVE_PAGE, n, 1⟩ p

/-- Refuses a switch with a reason (R301, R305). -/
def State.refuseSwitch (s : State) (r : Nat) : State :=
  (s.fput F.BEAM_SWITCH_CTRL_REASON r).raise F.BEAM_EVENT_SWITCH_REFUSED

/-- SWITCH_REQUEST: a write of SWITCH_CTRL with GO = 1 and PAGE = `p` (R301). -/
def execSwitchRequest (p : Fin 2) (s : State) : Host.Outcome State Fault Refusal :=
  .next (
    let si := s.rd64 R.BEAM_SWITCH_SI_LO R.BEAM_SWITCH_SI_HI
    let x := s.boundaryAt si
    let s0 := s.fput F.BEAM_SWITCH_CTRL_PAGE p.val
    if s.siRefused si || s.siRefused x then s0.refuseSwitch 1
    else if s.rdN R.BEAM_SWITCH_PEND ≠ 0 then s0.refuseSwitch 2
    else if !s.beamRole then s0.refuseSwitch 3
    else (s0.fput F.BEAM_SWITCH_CTRL_REASON 0).beamMod (fun b => { b with switches := b.switches ++ [(x, p.val)] }))

/-- WEIGHT_SWITCH: the index has reached the SI of an accepted switch, the earliest first; loaded sets change page, others are pending.
An accession due there comes first (R302, R303, R305). -/
def execWeightSwitch (s : State) : Host.Outcome State Fault Refusal :=
  .next (match s.dueSwitches with
    | [] => s
    | (x, p) :: _ =>
      if s.siNow < x ∨ s.accDue.any (fun x0 => decide (x0 ≤ x)) then s
      else
        let sets := (List.range 32).filter (fun n => s.setEnabled n && s.pageNow n != some p)
        let loaded := fun (n : Nat) => bitOf (s.rdN (R.BEAM_WLOAD p)) n
        let s1 := s.forEach sets (fun u n =>
          if loaded n then u.activatePage n p x
          else (u.fput ⟨R.BEAM_SWITCH_PEND, n, 1⟩ 1).beamMod (fun b => { b with late := tmod [] b.late n (fun l => (x, none) :: l) }))
        let s2 := (s1.beamMod (fun b => { b with switches := dropFirst (· == (x, p)) b.switches, pendPage := p })).wr64 R.BEAM_DONE_SI_LO R.BEAM_DONE_SI_HI x
        (s2.raise F.BEAM_EVENT_SWITCH).raiseIf (sets.any (fun n => !loaded n)) F.BEAM_EVENT_WEIGHT_LATE)

/-- WLOAD_SET: bits of WLOAD[p] written 1 declare the page loaded for their sets; a set waiting for it switches at the next pass
boundary (R300, R303). -/
def execWloadSet (p : Fin 2) (bits : Word) (s : State) : Host.Outcome State Fault Refusal :=
  .next (s.forEach ((List.range 32).filter (fun n => bitOf bits.toNat n && s.pageNow n != some p.val)) (fun u n =>
    let u1 := u.fput ⟨R.BEAM_WLOAD p.val, n, 1⟩ 1
    let wait := bitOf (u.rdN R.BEAM_SWITCH_PEND) n && u.beam.pendPage == p.val && !u.beam.pendAt.any (fun e => e.1 == n)
    if wait then u1.beamMod (fun b => { b with pendAt := b.pendAt ++ [(n, s.nextBoundary)] }) else u1))

/-- PENDING_SWITCH: pending sets whose pass boundary has come take the page that they waited for (R303). -/
def execPendingSwitch (s : State) : Host.Outcome State Fault Refusal :=
  .next (s.forEach (s.beam.pendAt.filter (fun e => decide (e.2 ≤ s.siNow))) (fun u e =>
    ((u.activatePage e.1 u.beam.pendPage e.2).fput ⟨R.BEAM_SWITCH_PEND, e.1, 1⟩ 0).beamMod
      (fun b => { b with pendAt := b.pendAt.filter (fun x => x != e) })))

/-- SEARCH_RESTART: every level's state is to be cleared at the next pass boundary, up to which the bit reads 1 (R322, R327). -/
def execSearchRestart (s : State) : Host.Outcome State Fault Refusal :=
  .next (s.beamMod (fun b => { b with clears := b.clears ++ [s.nextBoundary], restartAt := s.nextBoundary }))

/-- The word of BEAM.CTRL or BEAM.STATUS as its fields stand: SEARCH_RESTART until its boundary, whether the search runs, and the channel
blocks held for beam tiles (R322, R327). -/
def State.beamWord (s : State) (a : Nat) : Word :=
  if a = R.BEAM_CTRL then BitVec.ofNat 32 (b2n (decide (s.siNow < s.beam.restartAt)))
  else
    let held := (s.ingest.blks.filter (fun c => c.released && (List.range 400).any (fun t => s.beamReader t c && !c.readBy.contains t))).length
    BitVec.ofNat 32 (b2n s.searching * 2 ^ 31 + satN 8 held * 2 ^ 16 + s.fget F.BEAM_STATUS_BLOCKTIMES)

/-- What an accession at SI `x` does to the beam unit: spans, blocks and the period are cut, EPOCH toggles, the levels are cleared
where the search changes, and with a new allocation every set starts without weights and a switch at `x` is cancelled; `y` ends the
gap of a heavy one (R304, R305, R314, R322). -/
def State.beamAccede (s : State) (x y : Nat) (searchNew allocNew : Bool) : State :=
  let s1 := s.beamMod (fun b => { b with
    cuts := b.cuts ++ (if x = y then [x] else [x, y]), accs := b.accs ++ [x],
    clears := if searchNew && b.preCleared != some x then b.clears ++ [x] else b.clears,
    spans := b.spans.map (fun d => if d.lo < x ∧ x < d.hi then { d with hi := x } else d) })
  if allocNew then
    let s2 := s1.forEach (List.range 32) (fun u n => u.dropWeights n y)
    let dead := s1.beam.switches.any (fun w => w.1 == x)
    let s3 := s2.beamMod (fun b => { b with switches := b.switches.filter (fun w => w.1 != x), pendAt := [] })
    (s3.wrN R.BEAM_SWITCH_PEND 0).doIf dead (fun u => u.refuseSwitch 4)
  else s1

end Sys2Proof.Machine
end

