-- ==== Sys2Proof/Machine/Crypto.lean ====
section
/-!
DEFINITION. Machine/Crypto.lean: SHA-256 and SHA-384 of FIPS 180-4, which R331 and R657 name, and the check of an ECDSA
signature over P-384 (FIPS 186-4), which R657 names.
-/
namespace Sys2Proof.Machine

/-- Splits a list into pieces of `n`, at most `fuel` of them. -/
def chunks {α : Type} (n : Nat) : Nat → List α → List (List α)
  | 0, _ => []
  | fuel + 1, l => if l.isEmpty then [] else l.take n :: chunks n fuel (l.drop n)

/-- The number that bytes spell, most significant first. -/
def beNat (bs : List Byte) : Nat := bs.foldl (fun a b => 256 * a + b.toNat) 0

/-- `n` bytes of `v`, most significant first. -/
def beBytes (n v : Nat) : List Byte := (leBytes n v).reverse

/-- Pads a message to whole blocks of `blk` bytes with a length field of `lf` bytes (FIPS 180-4, section 5.1). -/
def shaPad (blk lf : Nat) (m : List Byte) : List Byte :=
  m ++ [0x80#8] ++ List.replicate ((2 * blk - 1 - lf - m.length % blk) % blk) 0#8 ++ beBytes lf (8 * m.length)

/-- The eight working words of a hash. -/
structure Work (w : Nat) where
  a : BitVec w
  b : BitVec w
  c : BitVec w
  d : BitVec w
  e : BitVec w
  f : BitVec w
  g : BitVec w
  h : BitVec w

/-- The rotation and shift distances of one hash: Σ0, Σ1, and for σ0, σ1 two rotations and a shift (FIPS 180-4, section 4.1). -/
structure ShaRot where
  big0 : Nat × Nat × Nat
  big1 : Nat × Nat × Nat
  small0 : Nat × Nat × Nat
  small1 : Nat × Nat × Nat

/-- Three right rotations combined. -/
def rot3 {w : Nat} (r : Nat × Nat × Nat) (x : BitVec w) : BitVec w :=
  x.rotateRight r.1 ^^^ x.rotateRight r.2.1 ^^^ x.rotateRight r.2.2

/-- Two right rotations and a right shift combined. -/
def rot2 {w : Nat} (r : Nat × Nat × Nat) (x : BitVec w) : BitVec w :=
  x.rotateRight r.1 ^^^ x.rotateRight r.2.1 ^^^ (x >>> r.2.2)

/-- Extends a message schedule, newest word first, by `n` words (FIPS 180-4, section 6). -/
def shaExtend {w : Nat} (r : ShaRot) : Nat → List (BitVec w) → List (BitVec w)
  | 0, l => l
  | n + 1, l =>
    shaExtend r n ((rot2 r.small1 (l.getD 1 0) + l.getD 6 0 + rot2 r.small0 (l.getD 14 0) + l.getD 15 0) :: l)

/-- One round. -/
def shaRound {w : Nat} (r : ShaRot) (s : Work w) (kw : BitVec w × BitVec w) : Work w :=
  let t1 := s.h + rot3 r.big1 s.e + ((s.e &&& s.f) ^^^ (~~~s.e &&& s.g)) + kw.1 + kw.2
  let t2 := rot3 r.big0 s.a + ((s.a &&& s.b) ^^^ (s.a &&& s.c) ^^^ (s.b &&& s.c))
  ⟨t1 + t2, s.a, s.b, s.c, s.d + t1, s.e, s.f, s.g⟩

/-- One block. -/
def shaBlock {w : Nat} (r : ShaRot) (ks : List (BitVec w)) (s : Work w) (blk : List Byte) : Work w :=
  let ws := (chunks (w / 8) 16 blk).map (fun b => BitVec.ofNat w (beNat b))
  let sched := (shaExtend r (ks.length - 16) ws.reverse).reverse
  let t := (ks.zip sched).foldl (shaRound r) s
  ⟨s.a + t.a, s.b + t.b, s.c + t.c, s.d + t.d, s.e + t.e, s.f + t.f, s.g + t.g, s.h + t.h⟩

/-- The words of a hash state as bytes. -/
def Work.bytes {w : Nat} (s : Work w) : List Byte :=
  [s.a, s.b, s.c, s.d, s.e, s.f, s.g, s.h].flatMap (fun x => beBytes (w / 8) x.toNat)

/-- The constants of SHA-256. -/
def k256 : List (BitVec 32) :=
  [0x428A2F98#32, 0x71374491#32, 0xB5C0FBCF#32, 0xE9B5DBA5#32, 0x3956C25B#32, 0x59F111F1#32, 0x923F82A4#32, 0xAB1C5ED5#32,
   0xD807AA98#32, 0x12835B01#32, 0x243185BE#32, 0x550C7DC3#32, 0x72BE5D74#32, 0x80DEB1FE#32, 0x9BDC06A7#32, 0xC19BF174#32] ++
   [0xE49B69C1#32, 0xEFBE4786#32, 0x0FC19DC6#32, 0x240CA1CC#32, 0x2DE92C6F#32, 0x4A7484AA#32, 0x5CB0A9DC#32, 0x76F988DA#32,
   0x983E5152#32, 0xA831C66D#32, 0xB00327C8#32, 0xBF597FC7#32, 0xC6E00BF3#32, 0xD5A79147#32, 0x06CA6351#32, 0x14292967#32] ++
   [0x27B70A85#32, 0x2E1B2138#32, 0x4D2C6DFC#32, 0x53380D13#32, 0x650A7354#32, 0x766A0ABB#32, 0x81C2C92E#32, 0x92722C85#32,
   0xA2BFE8A1#32, 0xA81A664B#32, 0xC24B8B70#32, 0xC76C51A3#32, 0xD192E819#32, 0xD6990624#32, 0xF40E3585#32, 0x106AA070#32] ++
   [0x19A4C116#32, 0x1E376C08#32, 0x2748774C#32, 0x34B0BCB5#32, 0x391C0CB3#32, 0x4ED8AA4A#32, 0x5B9CCA4F#32, 0x682E6FF3#32,
   0x748F82EE#32, 0x78A5636F#32, 0x84C87814#32, 0x8CC70208#32, 0x90BEFFFA#32, 0xA4506CEB#32, 0xBEF9A3F7#32, 0xC67178F2#32]

/-- The constants of SHA-384. -/
def k512 : List (BitVec 64) :=
  [0x428A2F98D728AE22#64, 0x7137449123EF65CD#64, 0xB5C0FBCFEC4D3B2F#64, 0xE9B5DBA58189DBBC#64, 0x3956C25BF348B538#64,
   0x59F111F1B605D019#64, 0x923F82A4AF194F9B#64, 0xAB1C5ED5DA6D8118#64, 0xD807AA98A3030242#64, 0x12835B0145706FBE#64,
   0x243185BE4EE4B28C#64, 0x550C7DC3D5FFB4E2#64, 0x72BE5D74F27B896F#64, 0x80DEB1FE3B1696B1#64, 0x9BDC06A725C71235#64,
   0xC19BF174CF692694#64] ++ [0xE49B69C19EF14AD2#64, 0xEFBE4786384F25E3#64, 0x0FC19DC68B8CD5B5#64, 0x240CA1CC77AC9C65#64,
   0x2DE92C6F592B0275#64, 0x4A7484AA6EA6E483#64, 0x5CB0A9DCBD41FBD4#64, 0x76F988DA831153B5#64, 0x983E5152EE66DFAB#64,
   0xA831C66D2DB43210#64, 0xB00327C898FB213F#64, 0xBF597FC7BEEF0EE4#64, 0xC6E00BF33DA88FC2#64, 0xD5A79147930AA725#64,
   0x06CA6351E003826F#64, 0x142929670A0E6E70#64] ++ [0x27B70A8546D22FFC#64, 0x2E1B21385C26C926#64, 0x4D2C6DFC5AC42AED#64,
   0x53380D139D95B3DF#64, 0x650A73548BAF63DE#64, 0x766A0ABB3C77B2A8#64, 0x81C2C92E47EDAEE6#64, 0x92722C851482353B#64,
   0xA2BFE8A14CF10364#64, 0xA81A664BBC423001#64, 0xC24B8B70D0F89791#64, 0xC76C51A30654BE30#64, 0xD192E819D6EF5218#64,
   0xD69906245565A910#64, 0xF40E35855771202A#64, 0x106AA07032BBD1B8#64] ++ [0x19A4C116B8D2D0C8#64, 0x1E376C085141AB53#64,
   0x2748774CDF8EEB99#64, 0x34B0BCB5E19B48A8#64, 0x391C0CB3C5C95A63#64, 0x4ED8AA4AE3418ACB#64, 0x5B9CCA4F7763E373#64,
   0x682E6FF3D6B2B8A3#64, 0x748F82EE5DEFB2FC#64, 0x78A5636F43172F60#64, 0x84C87814A1F0AB72#64, 0x8CC702081A6439EC#64,
   0x90BEFFFA23631E28#64, 0xA4506CEBDE82BDE9#64, 0xBEF9A3F7B2C67915#64, 0xC67178F2E372532B#64] ++ [0xCA273ECEEA26619C#64,
   0xD186B8C721C0C207#64, 0xEADA7DD6CDE0EB1E#64, 0xF57D4F7FEE6ED178#64, 0x06F067AA72176FBA#64, 0x0A637DC5A2C898A6#64,
   0x113F9804BEF90DAE#64, 0x1B710B35131C471B#64, 0x28DB77F523047D84#64, 0x32CAAB7B40C72493#64, 0x3C9EBE0A15C9BEBC#64,
   0x431D67C49C100D4C#64, 0x4CC5D4BECB3E42B6#64, 0x597F299CFC657E2A#64, 0x5FCB6FAB3AD6FAEC#64, 0x6C44198C4A475817#64]

/-- The rotations of SHA-256. -/
def rot256 : ShaRot := ⟨(2, 13, 22), (6, 11, 25), (7, 18, 3), (17, 19, 10)⟩

/-- The rotations of SHA-384. -/
def rot512 : ShaRot := ⟨(28, 34, 39), (14, 18, 41), (1, 8, 7), (19, 61, 6)⟩

/-- The initial state of SHA-256. -/
def init256 : Work 32 :=
  ⟨0x6A09E667#32, 0xBB67AE85#32, 0x3C6EF372#32, 0xA54FF53A#32, 0x510E527F#32, 0x9B05688C#32, 0x1F83D9AB#32, 0x5BE0CD19#32⟩

/-- The initial state of SHA-384. -/
def init384 : Work 64 :=
  ⟨0xCBBB9D5DC1059ED8#64, 0x629A292A367CD507#64, 0x9159015A3070DD17#64, 0x152FECD8F70E5939#64,
   0x67332667FFC00B31#64, 0x8EB44A8768581511#64, 0xDB0C2E0D64F98FA7#64, 0x47B5481DBEFA4FA4#64⟩

/-- SHA-256 of a message, as 32 bytes. -/
def sha256 (m : List Byte) : List Byte :=
  let p := shaPad 64 8 m
  ((chunks 64 (p.length / 64) p).foldl (shaBlock rot256 k256) init256).bytes

/-- SHA-384 of a message, as 48 bytes. -/
def sha384 (m : List Byte) : List Byte :=
  let p := shaPad 128 16 m
  (((chunks 128 (p.length / 128) p).foldl (shaBlock rot512 k512) init384).bytes).take 48

/-! ### ECDSA over P-384 -/

/-- The prime of the field of P-384. -/
def p384 : Nat := 2 ^ 384 - 2 ^ 128 - 2 ^ 96 + 2 ^ 32 - 1

/-- The order of the group of P-384. -/
def n384 : Nat := 0xFFFFFFFFFFFFFFFFFFFFFFFFFFFFFFFFFFFFFFFFFFFFFFFFC7634D81F4372DDF581A0DB248B0A77AECEC196ACCC52973

/-- The constant b of the curve. -/
def b384 : Nat := 0xB3312FA7E23EE7E4988E056BE3F82D19181D9C6EFE8141120314088F5013875AC656398D8A2ED19D2A85C8EDD3EC2AEF

/-- The base point. -/
def g384 : Nat × Nat :=
  (0xAA87CA22BE8B05378EB1C71EF320AD746E1D3B628BA79B9859F741E082542A385502F25DBF55296C3A545E3872760AB7,
   0x3617DE4A96262C6F5D9E98BF9292DC29F8F41DBD289A147CE9DA3113B5F0B8C00A60B1CE1D7E819D7A431D7C90EA0E5F)

/-- `a` to the power `e` modulo `m`, over the low `k` bits of `e`. -/
def powMod (m : Nat) : Nat → Nat → Nat → Nat
  | 0, _, _ => 1
  | k + 1, a, e => if e = 0 then 1 else
    let h := powMod m k (a * a % m) (e / 2)
    if e % 2 = 1 then h * a % m else h

/-- The inverse of `a` modulo the prime `m` of 384 bits. -/
def invMod (m a : Nat) : Nat := powMod m 384 (a % m) (m - 2)

/-- Adds two points of the curve; none is the point at infinity. -/
def addPt (x y : Option (Nat × Nat)) : Option (Nat × Nat) :=
  match x, y with
  | none, q => q
  | p, none => p
  | some (x1, y1), some (x2, y2) =>
    let p := p384
    if x1 = x2 ∧ (y1 + y2) % p = 0 then none
    else
      let l := if x1 = x2 then (3 * x1 * x1 + (p - 3)) * invMod p (2 * y1) % p else (y2 + (p - y1)) * invMod p (x2 + (p - x1)) % p
      let x3 := (l * l + (p - x1) + (p - x2)) % p
      some (x3, (l * (x1 + (p - x3)) + (p - y1)) % p)

/-- `k` times a point, over the low `n` bits of `k`. -/
def mulPt : Nat → Nat → Option (Nat × Nat) → Option (Nat × Nat)
  | 0, _, _ => none
  | n + 1, k, q =>
    let r := mulPt n (k / 2) (addPt q q)
    if k % 2 = 1 then addPt r q else r

/-- Whether a pair is a point of the curve. -/
def onCurve (q : Nat × Nat) : Bool :=
  decide (q.1 < p384) && decide (q.2 < p384)
    && q.2 * q.2 % p384 == (q.1 * q.1 * q.1 + (p384 - 3) * q.1 + b384) % p384

/-- Whether (`r`, `t`) signs a message of hash `h` under the public key `q`. -/
def ecdsaOk (q : Nat × Nat) (h r t : Nat) : Bool :=
  onCurve q && decide (0 < r) && decide (r < n384) && decide (0 < t) && decide (t < n384) &&
    (let w := invMod n384 t
     match addPt (mulPt 384 (h * w % n384) (some g384)) (mulPt 384 (r * w % n384) (some q)) with
     | some x => x.1 % n384 == r
     | none => false)

end Sys2Proof.Machine
end

