-- ==== Sys2Proof/Machine/RegTable.lean ====
section
/-!
DEFINITION. Machine/RegTable.lean: one row per register or register array of the spec: its address, its array strides and
counts, its access code (R11), and which of its bits a write stores, clears or sets (the field tables; a reserved field
takes part in none, so it reads as zero: R10).
-/
namespace Sys2Proof.Machine

/-- The access codes of R11. -/
inductive Acc where
  | rw | ro | w1c | w1s | wo | rc | rwa | rs
  deriving DecidableEq, Repr

/-- One register or array of registers: `dims` lists (stride, count), largest stride first. `store` holds the bits a
write replaces (RW, WO, RWA), `clr` those a 1 clears (W1C), `set1` those a 1 sets (W1S). -/
structure RegRow where
  base : Nat
  dims : List (Nat × Nat)
  acc : Acc
  store : BitVec 32
  clr : BitVec 32
  set1 : BitVec 32
  deriving DecidableEq, Repr

def rowsDevice : List RegRow :=
  [⟨0x0, [], .ro, 0x0, 0x0, 0x0⟩,
   ⟨0x4, [], .ro, 0x0, 0x0, 0x0⟩,
   ⟨0x8, [], .ro, 0x0, 0x0, 0x0⟩,
   ⟨0x10, [], .ro, 0x0, 0x0, 0x0⟩,
   ⟨0x14, [], .ro, 0x0, 0x0, 0x0⟩,
   ⟨0x20, [], .rw, 0xFFFFFFFF, 0x0, 0x0⟩]

def rowsCat1 : List RegRow :=
  [⟨0x10000, [], .rw, 0xE000000, 0x0, 0x1FE⟩,
   ⟨0x10004, [], .ro, 0x0, 0x0, 0x0⟩,
   ⟨0x10008, [], .w1c, 0x0, 0x1FFF, 0x0⟩,
   ⟨0x1000C, [], .rw, 0x1FFF, 0x0, 0x0⟩,
   ⟨0x10010, [], .ro, 0x0, 0x0, 0x0⟩,
   ⟨0x10014, [], .ro, 0x0, 0x0, 0x0⟩,
   ⟨0x10018, [], .rw, 0xFFFFFF, 0x0, 0x0⟩,
   ⟨0x1001C, [], .rw, 0xFFFFFFFF, 0x0, 0x0⟩,
   ⟨0x10020, [], .rw, 0xFFFFFFFF, 0x0, 0x0⟩,
   ⟨0x10024, [], .rw, 0xFFFFFFFF, 0x0, 0x0⟩,
   ⟨0x10028, [], .rw, 0xFFFFFFFF, 0x0, 0x0⟩,
   ⟨0x1002C, [], .ro, 0x0, 0x0, 0x0⟩,
   ⟨0x10030, [], .ro, 0x0, 0x0, 0x0⟩,
   ⟨0x10034, [], .ro, 0x0, 0x0, 0x0⟩,
   ⟨0x10038, [], .ro, 0x0, 0x0, 0x0⟩,
   ⟨0x1003C, [], .ro, 0x0, 0x0, 0x0⟩,
   ⟨0x10040, [], .ro, 0x0, 0x0, 0x0⟩,
   ⟨0x10044, [], .ro, 0x0, 0x0, 0x0⟩,
   ⟨0x10048, [], .ro, 0x0, 0x0, 0x0⟩,
   ⟨0x10060, [(0x4, 8)], .ro, 0x0, 0x0, 0x0⟩,
   ⟨0x10080, [(0x4, 8)], .ro, 0x0, 0x0, 0x0⟩,
   ⟨0x100A0, [], .rc, 0x0, 0x0, 0x0⟩,
   ⟨0x100A4, [], .rc, 0x0, 0x0, 0x0⟩,
   ⟨0x100A8, [], .rc, 0x0, 0x0, 0x0⟩]

def rowsCat2 : List RegRow :=
  [⟨0x100AC, [], .rc, 0x0, 0x0, 0x0⟩,
   ⟨0x14000, [(0x4, 4096)], .rc, 0x0, 0x0, 0x0⟩]

def rowsCat : List RegRow := rowsCat1 ++ rowsCat2

def rowsTime1 : List RegRow :=
  [⟨0x20000, [], .ro, 0x0, 0x0, 0x0⟩,
   ⟨0x20004, [], .rw, 0x2, 0x0, 0x1⟩,
   ⟨0x20008, [], .w1c, 0x0, 0x7FFF, 0x0⟩,
   ⟨0x2000C, [], .rw, 0x7FFF, 0x0, 0x0⟩,
   ⟨0x20010, [], .ro, 0x0, 0x0, 0x0⟩,
   ⟨0x20014, [], .ro, 0x0, 0x0, 0x0⟩,
   ⟨0x20018, [], .ro, 0x0, 0x0, 0x0⟩,
   ⟨0x20020, [], .ro, 0x0, 0x0, 0x0⟩,
   ⟨0x20024, [], .ro, 0x0, 0x0, 0x0⟩,
   ⟨0x20028, [], .rw, 0xFFFFFFFF, 0x0, 0x0⟩,
   ⟨0x2002C, [], .rw, 0xFFFFFFFF, 0x0, 0x0⟩,
   ⟨0x20030, [], .rw, 0xFF, 0x0, 0x0⟩,
   ⟨0x20034, [], .rw, 0xFFFFFF, 0x0, 0x0⟩,
   ⟨0x20038, [], .rw, 0xFFFF, 0x0, 0x0⟩,
   ⟨0x2003C, [], .rw, 0xFF, 0x0, 0x0⟩,
   ⟨0x20040, [], .rw, 0x1FFFF, 0x0, 0x0⟩,
   ⟨0x20044, [], .rw, 0xFFFF, 0x0, 0x0⟩,
   ⟨0x20048, [], .rw, 0x83838383, 0x0, 0x0⟩,
   ⟨0x20050, [(0x4, 4)], .rw, 0xFFFFFF07, 0x0, 0x0⟩,
   ⟨0x20060, [(0x4, 4)], .ro, 0x0, 0x0, 0x0⟩,
   ⟨0x20070, [(0x4, 4)], .ro, 0x0, 0x0, 0x0⟩,
   ⟨0x20080, [], .rw, 0xFF0FFFFF, 0x0, 0x0⟩,
   ⟨0x20084, [], .rw, 0xFF, 0x0, 0x0⟩,
   ⟨0x20090, [], .wo, 0xFFFFFFFF, 0x0, 0x0⟩]

def rowsTime2 : List RegRow :=
  [⟨0x20094, [], .wo, 0xFFFFFFFF, 0x0, 0x0⟩,
   ⟨0x20098, [], .rw, 0xFFFF, 0x0, 0x0⟩,
   ⟨0x200A0, [], .ro, 0x0, 0x0, 0x0⟩,
   ⟨0x200A4, [], .ro, 0x0, 0x0, 0x0⟩,
   ⟨0x200B0, [], .rw, 0xFFFF1F, 0x0, 0x0⟩,
   ⟨0x200B4, [], .rw, 0xFFFFFFFF, 0x0, 0x0⟩,
   ⟨0x200C0, [], .rwa, 0xFFFFFFFF, 0x0, 0x0⟩,
   ⟨0x200C4, [], .rwa, 0xFFFFFFFF, 0x0, 0x0⟩,
   ⟨0x200C8, [], .rwa, 0xFFFFFFFF, 0x0, 0x0⟩,
   ⟨0x200D0, [], .rwa, 0xFFFFFFFF, 0x0, 0x0⟩,
   ⟨0x200D4, [], .rwa, 0xFFFFFFFF, 0x0, 0x0⟩,
   ⟨0x200D8, [], .rwa, 0xFFFFFFFF, 0x0, 0x0⟩,
   ⟨0x200DC, [], .rwa, 0xFFFFFFFF, 0x0, 0x0⟩,
   ⟨0x200E0, [], .rwa, 0xFFFFFFFF, 0x0, 0x0⟩,
   ⟨0x200E4, [], .rwa, 0xFFFFFFFF, 0x0, 0x0⟩,
   ⟨0x200E8, [], .rwa, 0xFF, 0x0, 0x0⟩,
   ⟨0x200F0, [], .ro, 0x0, 0x0, 0x0⟩,
   ⟨0x200F4, [], .ro, 0x0, 0x0, 0x0⟩,
   ⟨0x200F8, [], .ro, 0x0, 0x0, 0x0⟩,
   ⟨0x200FC, [], .ro, 0x0, 0x0, 0x0⟩,
   ⟨0x20100, [], .ro, 0x0, 0x0, 0x0⟩,
   ⟨0x20104, [], .rc, 0x0, 0x0, 0x0⟩,
   ⟨0x20108, [], .rc, 0x0, 0x0, 0x0⟩,
   ⟨0x2010C, [], .ro, 0x0, 0x0, 0x0⟩]

def rowsTime3 : List RegRow :=
  [⟨0x20110, [], .ro, 0x0, 0x0, 0x0⟩,
   ⟨0x20120, [], .rs, 0x0, 0x0, 0x0⟩,
   ⟨0x20124, [], .rs, 0x0, 0x0, 0x0⟩,
   ⟨0x20128, [], .rs, 0x0, 0x0, 0x0⟩]

def rowsTime : List RegRow := rowsTime1 ++ rowsTime2 ++ rowsTime3

def rowsLane1 : List RegRow :=
  [⟨0x40000, [(0x400, 192)], .rwa, 0xFF00F771, 0x0, 0x0⟩,
   ⟨0x40004, [(0x400, 192)], .rw, 0xFE, 0x0, 0x1⟩,
   ⟨0x40008, [(0x400, 192)], .ro, 0x0, 0x0, 0x0⟩,
   ⟨0x4000C, [(0x400, 192)], .w1c, 0x0, 0x7FFF, 0x0⟩,
   ⟨0x40010, [(0x400, 192)], .rw, 0x7FFF, 0x0, 0x0⟩,
   ⟨0x40014, [(0x400, 192)], .ro, 0x0, 0x0, 0x0⟩,
   ⟨0x40018, [(0x400, 192)], .rwa, 0xFFFFFF, 0x0, 0x0⟩,
   ⟨0x4001C, [(0x400, 192)], .ro, 0x0, 0x0, 0x0⟩,
   ⟨0x40020, [(0x400, 192)], .rw, 0x3FFFFFF, 0x0, 0x0⟩,
   ⟨0x40024, [(0x400, 192)], .rwa, 0xFFFFFFFF, 0x0, 0x0⟩,
   ⟨0x40028, [(0x400, 192)], .rwa, 0xFFFF00FF, 0x0, 0x0⟩,
   ⟨0x40040, [(0x400, 192), (0x4, 6)], .ro, 0x0, 0x0, 0x0⟩,
   ⟨0x40058, [(0x400, 192)], .ro, 0x0, 0x0, 0x0⟩,
   ⟨0x40080, [(0x400, 192)], .rc, 0x0, 0x0, 0x0⟩,
   ⟨0x40084, [(0x400, 192)], .rc, 0x0, 0x0, 0x0⟩,
   ⟨0x40088, [(0x400, 192)], .rc, 0x0, 0x0, 0x0⟩,
   ⟨0x4008C, [(0x400, 192)], .rc, 0x0, 0x0, 0x0⟩,
   ⟨0x40090, [(0x400, 192)], .rc, 0x0, 0x0, 0x0⟩,
   ⟨0x40094, [(0x400, 192)], .rc, 0x0, 0x0, 0x0⟩,
   ⟨0x40098, [(0x400, 192)], .rc, 0x0, 0x0, 0x0⟩,
   ⟨0x4009C, [(0x400, 192)], .rc, 0x0, 0x0, 0x0⟩,
   ⟨0x400A0, [(0x400, 192)], .rc, 0x0, 0x0, 0x0⟩,
   ⟨0x400A4, [(0x400, 192)], .rc, 0x0, 0x0, 0x0⟩,
   ⟨0x400A8, [(0x400, 192)], .rc, 0x0, 0x0, 0x0⟩]

def rowsLane2 : List RegRow :=
  [⟨0x400AC, [(0x400, 192)], .rc, 0x0, 0x0, 0x0⟩,
   ⟨0x400B0, [(0x400, 192)], .rc, 0x0, 0x0, 0x0⟩,
   ⟨0x400B4, [(0x400, 192)], .rc, 0x0, 0x0, 0x0⟩,
   ⟨0x400B8, [(0x400, 192)], .rc, 0x0, 0x0, 0x0⟩]

def rowsLane : List RegRow := rowsLane1 ++ rowsLane2

def rowsQuire : List RegRow :=
  [⟨0x40300, [(0x2000, 24), (0x400, 8)], .ro, 0x0, 0x0, 0x0⟩,
   ⟨0x40304, [(0x2000, 24), (0x400, 8)], .rc, 0x0, 0x0, 0x0⟩]

def rowsIngest1 : List RegRow :=
  [⟨0x80000, [], .rw, 0x0, 0x0, 0x1⟩,
   ⟨0x80004, [], .ro, 0x0, 0x0, 0x0⟩,
   ⟨0x80008, [], .w1c, 0x0, 0x1FF, 0x0⟩,
   ⟨0x8000C, [], .rw, 0x1FF, 0x0, 0x0⟩,
   ⟨0x80010, [], .rwa, 0xFFFF, 0x0, 0x0⟩,
   ⟨0x80014, [], .ro, 0x0, 0x0, 0x0⟩,
   ⟨0x80018, [], .ro, 0x0, 0x0, 0x0⟩,
   ⟨0x80020, [], .rwa, 0xFF030F, 0x0, 0x0⟩,
   ⟨0x80024, [], .rwa, 0x1FFF1FFF, 0x0, 0x0⟩,
   ⟨0x80028, [], .rwa, 0xFFFFFF, 0x0, 0x0⟩,
   ⟨0x8002C, [], .rwa, 0xFFFFFF, 0x0, 0x0⟩,
   ⟨0x80030, [], .rwa, 0xFFF, 0x0, 0x0⟩,
   ⟨0x80038, [], .ro, 0x0, 0x0, 0x0⟩,
   ⟨0x8003C, [], .rc, 0x0, 0x0, 0x0⟩,
   ⟨0x80040, [], .ro, 0x0, 0x0, 0x0⟩,
   ⟨0x80080, [], .rc, 0x0, 0x0, 0x0⟩,
   ⟨0x80084, [], .rc, 0x0, 0x0, 0x0⟩,
   ⟨0x80088, [], .rc, 0x0, 0x0, 0x0⟩,
   ⟨0x8008C, [], .rc, 0x0, 0x0, 0x0⟩,
   ⟨0x80090, [], .rc, 0x0, 0x0, 0x0⟩,
   ⟨0x80094, [], .rc, 0x0, 0x0, 0x0⟩,
   ⟨0x80098, [], .rc, 0x0, 0x0, 0x0⟩,
   ⟨0x8009C, [], .rc, 0x0, 0x0, 0x0⟩,
   ⟨0x800A0, [], .rc, 0x0, 0x0, 0x0⟩]

def rowsIngest2 : List RegRow :=
  [⟨0x800A4, [], .rc, 0x0, 0x0, 0x0⟩,
   ⟨0x800A8, [], .rc, 0x0, 0x0, 0x0⟩,
   ⟨0x800AC, [], .rc, 0x0, 0x0, 0x0⟩,
   ⟨0x800B0, [], .rc, 0x0, 0x0, 0x0⟩,
   ⟨0x800B4, [], .rc, 0x0, 0x0, 0x0⟩,
   ⟨0x800B8, [], .rc, 0x0, 0x0, 0x0⟩,
   ⟨0x800BC, [], .rc, 0x0, 0x0, 0x0⟩,
   ⟨0x800C0, [], .rc, 0x0, 0x0, 0x0⟩,
   ⟨0x800C4, [], .rc, 0x0, 0x0, 0x0⟩,
   ⟨0x80200, [(0x4, 128)], .w1c, 0x0, 0xFFFFFFFF, 0x0⟩,
   ⟨0x80400, [(0x4, 128)], .w1c, 0x0, 0xFFFFFFFF, 0x0⟩,
   ⟨0x80600, [(0x4, 128)], .rwa, 0xFFFFFFFF, 0x0, 0x0⟩,
   ⟨0x80800, [(0x8, 256)], .rwa, 0xFFFFFFFF, 0x0, 0x0⟩,
   ⟨0x80804, [(0x8, 256)], .rwa, 0xC1FF0FFF, 0x0, 0x0⟩,
   ⟨0x81000, [(0x8, 64)], .rwa, 0xFFFF, 0x0, 0x0⟩,
   ⟨0x81004, [(0x8, 64)], .rwa, 0x9FFF1FFF, 0x0, 0x0⟩,
   ⟨0x84000, [(0x4, 4096)], .ro, 0x0, 0x0, 0x0⟩,
   ⟨0x88000, [(0x4, 4096)], .rc, 0x0, 0x0, 0x0⟩,
   ⟨0x8C000, [(0x4, 4096)], .rc, 0x0, 0x0, 0x0⟩,
   ⟨0x90000, [(0x4, 4096)], .rc, 0x0, 0x0, 0x0⟩]

def rowsIngest : List RegRow := rowsIngest1 ++ rowsIngest2

def rowsArray1 : List RegRow :=
  [⟨0xA0000, [], .rw, 0x5, 0x0, 0x2⟩,
   ⟨0xA0004, [], .ro, 0x0, 0x0, 0x0⟩,
   ⟨0xA0008, [], .w1c, 0x0, 0x3FF, 0x0⟩,
   ⟨0xA000C, [], .rw, 0x3FF, 0x0, 0x0⟩,
   ⟨0xA0010, [], .ro, 0x0, 0x0, 0x0⟩,
   ⟨0xA0014, [], .ro, 0x0, 0x0, 0x0⟩,
   ⟨0xA0018, [], .rwa, 0xFFFF, 0x0, 0x0⟩,
   ⟨0xA0020, [], .ro, 0x0, 0x0, 0x0⟩,
   ⟨0xA0024, [], .ro, 0x0, 0x0, 0x0⟩,
   ⟨0xA0028, [], .ro, 0x0, 0x0, 0x0⟩,
   ⟨0xA0030, [], .rc, 0x0, 0x0, 0x0⟩,
   ⟨0xA0034, [], .rc, 0x0, 0x0, 0x0⟩,
   ⟨0xA0038, [], .rc, 0x0, 0x0, 0x0⟩,
   ⟨0xA003C, [], .rc, 0x0, 0x0, 0x0⟩,
   ⟨0xA0040, [], .rc, 0x0, 0x0, 0x0⟩,
   ⟨0xA0044, [], .rc, 0x0, 0x0, 0x0⟩,
   ⟨0xA0048, [], .rc, 0x0, 0x0, 0x0⟩,
   ⟨0xA004C, [], .rc, 0x0, 0x0, 0x0⟩,
   ⟨0xA0050, [], .ro, 0x0, 0x0, 0x0⟩,
   ⟨0xA0060, [(0x4, 13)], .ro, 0x0, 0x0, 0x0⟩,
   ⟨0xA00A0, [(0x4, 13)], .w1s, 0x0, 0x0, 0xFFFFFFFF⟩,
   ⟨0xA0100, [(0x4, 12)], .ro, 0x0, 0x0, 0x0⟩,
   ⟨0xA0200, [(0x4, 400)], .ro, 0x0, 0x0, 0x0⟩,
   ⟨0xA0900, [(0x4, 96)], .w1c, 0x0, 0x3F3F3F3F, 0x0⟩]

def rowsArray2 : List RegRow :=
  [⟨0xA0A80, [], .rw, 0xFF, 0x0, 0x0⟩,
   ⟨0xB0000, [(0x40, 400)], .rc, 0x0, 0x0, 0x0⟩,
   ⟨0xB0004, [(0x40, 400)], .rc, 0x0, 0x0, 0x0⟩,
   ⟨0xB0008, [(0x40, 400)], .rc, 0x0, 0x0, 0x0⟩,
   ⟨0xB000C, [(0x40, 400)], .rc, 0x0, 0x0, 0x0⟩,
   ⟨0xB0010, [(0x40, 400)], .rc, 0x0, 0x0, 0x0⟩,
   ⟨0xB0014, [(0x40, 400)], .ro, 0x0, 0x0, 0x0⟩,
   ⟨0xB0018, [(0x40, 400)], .ro, 0x0, 0x0, 0x0⟩,
   ⟨0xB0020, [(0x40, 400), (0x4, 4)], .ro, 0x0, 0x0, 0x0⟩]

def rowsArray : List RegRow := rowsArray1 ++ rowsArray2

def rowsAccum1 : List RegRow :=
  [⟨0xC0000, [], .rw, 0x1, 0x0, 0x0⟩,
   ⟨0xC0004, [], .ro, 0x0, 0x0, 0x0⟩,
   ⟨0xC0008, [], .w1c, 0x0, 0x1FF, 0x0⟩,
   ⟨0xC000C, [], .rw, 0x1FF, 0x0, 0x0⟩,
   ⟨0xC0010, [], .rwa, 0x3100000, 0x0, 0x0⟩,
   ⟨0xC0014, [], .rwa, 0xFFFF, 0x0, 0x0⟩,
   ⟨0xC0018, [], .rwa, 0xFFFF, 0x0, 0x0⟩,
   ⟨0xC001C, [], .rwa, 0xFFFFFFFF, 0x0, 0x0⟩,
   ⟨0xC0020, [], .rwa, 0xFFFFFFFF, 0x0, 0x0⟩,
   ⟨0xC0024, [], .rwa, 0x1FFF1FFF, 0x0, 0x0⟩,
   ⟨0xC0028, [], .rwa, 0xFF000003, 0x0, 0x0⟩,
   ⟨0xC002C, [], .rwa, 0xF, 0x0, 0x0⟩,
   ⟨0xC0030, [(0x8, 2)], .rwa, 0xFFFFFFFF, 0x0, 0x0⟩,
   ⟨0xC0034, [(0x8, 2)], .rwa, 0xFFFFFFFF, 0x0, 0x0⟩,
   ⟨0xC0040, [], .rwa, 0x107FF, 0x0, 0x0⟩,
   ⟨0xC0048, [], .ro, 0x0, 0x0, 0x0⟩,
   ⟨0xC004C, [], .ro, 0x0, 0x0, 0x0⟩,
   ⟨0xC0050, [], .ro, 0x0, 0x0, 0x0⟩,
   ⟨0xC0054, [], .ro, 0x0, 0x0, 0x0⟩,
   ⟨0xC0058, [], .ro, 0x0, 0x0, 0x0⟩,
   ⟨0xC0060, [], .ro, 0x0, 0x0, 0x0⟩,
   ⟨0xC0064, [], .ro, 0x0, 0x0, 0x0⟩,
   ⟨0xC0068, [], .rc, 0x0, 0x0, 0x0⟩,
   ⟨0xC006C, [], .rc, 0x0, 0x0, 0x0⟩]

def rowsAccum2 : List RegRow :=
  [⟨0xC0070, [], .rc, 0x0, 0x0, 0x0⟩,
   ⟨0xC0074, [], .rc, 0x0, 0x0, 0x0⟩,
   ⟨0xC0078, [], .rc, 0x0, 0x0, 0x0⟩,
   ⟨0xC007C, [], .rc, 0x0, 0x0, 0x0⟩,
   ⟨0xC0080, [], .rc, 0x0, 0x0, 0x0⟩,
   ⟨0xC0084, [], .rc, 0x0, 0x0, 0x0⟩,
   ⟨0xC0100, [(0x20, 8)], .ro, 0x0, 0x0, 0x0⟩,
   ⟨0xC0104, [(0x20, 8)], .w1s, 0x0, 0x0, 0x1⟩,
   ⟨0xC0108, [(0x20, 8)], .ro, 0x0, 0x0, 0x0⟩,
   ⟨0xC010C, [(0x20, 8)], .ro, 0x0, 0x0, 0x0⟩,
   ⟨0xC0110, [(0x20, 8)], .ro, 0x0, 0x0, 0x0⟩,
   ⟨0xC0114, [(0x20, 8)], .ro, 0x0, 0x0, 0x0⟩,
   ⟨0xC0118, [(0x20, 8)], .ro, 0x0, 0x0, 0x0⟩,
   ⟨0xC011C, [(0x20, 8)], .ro, 0x0, 0x0, 0x0⟩]

def rowsAccum : List RegRow := rowsAccum1 ++ rowsAccum2

def rowsBeam1 : List RegRow :=
  [⟨0xD0000, [], .rw, 0x0, 0x0, 0x1⟩,
   ⟨0xD0004, [], .ro, 0x0, 0x0, 0x0⟩,
   ⟨0xD0008, [], .w1c, 0x0, 0x7FF, 0x0⟩,
   ⟨0xD000C, [], .rw, 0x7FF, 0x0, 0x0⟩,
   ⟨0xD0010, [], .ro, 0x0, 0x0, 0x0⟩,
   ⟨0xD0014, [], .rwa, 0xFFFF001F, 0x0, 0x0⟩,
   ⟨0xD0018, [], .rwa, 0x71F001F, 0x0, 0x0⟩,
   ⟨0xD001C, [], .rwa, 0xFFFFFF, 0x0, 0x0⟩,
   ⟨0xD0020, [], .rwa, 0x80000F0F, 0x0, 0x0⟩,
   ⟨0xD0024, [], .rwa, 0x1FFF1FFF, 0x0, 0x0⟩,
   ⟨0xD0028, [], .rwa, 0xFFFF00FF, 0x0, 0x0⟩,
   ⟨0xD0030, [], .rw, 0xFFFFFFFF, 0x0, 0x0⟩,
   ⟨0xD0034, [], .rw, 0xFFFFFFFF, 0x0, 0x0⟩,
   ⟨0xD0038, [], .rw, 0x2, 0x0, 0x1⟩,
   ⟨0xD003C, [], .ro, 0x0, 0x0, 0x0⟩,
   ⟨0xD0040, [], .ro, 0x0, 0x0, 0x0⟩,
   ⟨0xD0044, [], .ro, 0x0, 0x0, 0x0⟩,
   ⟨0xD0048, [], .ro, 0x0, 0x0, 0x0⟩,
   ⟨0xD0050, [(0x4, 2)], .w1s, 0x0, 0x0, 0xFFFFFFFF⟩,
   ⟨0xD0060, [(0x4, 9)], .rwa, 0xFFFF, 0x0, 0x0⟩,
   ⟨0xD0090, [], .rw, 0xF03FF, 0x0, 0x0⟩,
   ⟨0xD0094, [], .ro, 0x0, 0x0, 0x0⟩,
   ⟨0xD0098, [], .ro, 0x0, 0x0, 0x0⟩,
   ⟨0xD0100, [], .rc, 0x0, 0x0, 0x0⟩]

def rowsBeam2 : List RegRow :=
  [⟨0xD0104, [], .rc, 0x0, 0x0, 0x0⟩,
   ⟨0xD0108, [], .rc, 0x0, 0x0, 0x0⟩,
   ⟨0xD010C, [], .rc, 0x0, 0x0, 0x0⟩,
   ⟨0xD0110, [], .rc, 0x0, 0x0, 0x0⟩,
   ⟨0xD0114, [], .rc, 0x0, 0x0, 0x0⟩,
   ⟨0xD0118, [], .rc, 0x0, 0x0, 0x0⟩,
   ⟨0xD011C, [], .rc, 0x0, 0x0, 0x0⟩,
   ⟨0xD0120, [], .rc, 0x0, 0x0, 0x0⟩,
   ⟨0xD0124, [], .rc, 0x0, 0x0, 0x0⟩,
   ⟨0xD0128, [], .rc, 0x0, 0x0, 0x0⟩,
   ⟨0xD012C, [], .rc, 0x0, 0x0, 0x0⟩,
   ⟨0xD0400, [(0x10, 32)], .rwa, 0xFFFFFFFF, 0x0, 0x0⟩,
   ⟨0xD0404, [(0x10, 32)], .rwa, 0xFFFFFFFF, 0x0, 0x0⟩,
   ⟨0xD0408, [(0x10, 32)], .rwa, 0xFFFFFFFF, 0x0, 0x0⟩,
   ⟨0xD040C, [(0x10, 32)], .ro, 0x0, 0x0, 0x0⟩,
   ⟨0xD0800, [(0x4, 4096)], .rwa, 0xFFFFFFFF, 0x0, 0x0⟩]

def rowsBeam : List RegRow := rowsBeam1 ++ rowsBeam2

def rowsChain1 : List RegRow :=
  [⟨0xE0000, [], .rw, 0x0, 0x0, 0x7⟩,
   ⟨0xE0004, [], .ro, 0x0, 0x0, 0x0⟩,
   ⟨0xE0008, [], .w1c, 0x0, 0x3FFFF, 0x0⟩,
   ⟨0xE000C, [], .rw, 0x3FFFF, 0x0, 0x0⟩,
   ⟨0xE0010, [], .rw, 0x10F00FF, 0x0, 0x0⟩,
   ⟨0xE0014, [], .rw, 0xFFFF, 0x0, 0x0⟩,
   ⟨0xE0018, [], .ro, 0x0, 0x0, 0x0⟩,
   ⟨0xE001C, [], .ro, 0x0, 0x0, 0x0⟩,
   ⟨0xE0020, [], .ro, 0x0, 0x0, 0x0⟩,
   ⟨0xE0024, [], .ro, 0x0, 0x0, 0x0⟩,
   ⟨0xE0028, [], .rw, 0xFFFFF, 0x0, 0x0⟩,
   ⟨0xE0030, [], .rw, 0xFFFF0000, 0x0, 0x3⟩,
   ⟨0xE0034, [], .rw, 0xFFFFFFFF, 0x0, 0x0⟩,
   ⟨0xE0038, [], .rw, 0xFFFFFFFF, 0x0, 0x0⟩,
   ⟨0xE003C, [], .rw, 0xFFFFFFFF, 0x0, 0x0⟩,
   ⟨0xE0040, [], .rw, 0xFFFFFFFF, 0x0, 0x0⟩,
   ⟨0xE0044, [], .ro, 0x0, 0x0, 0x0⟩,
   ⟨0xE0048, [], .ro, 0x0, 0x0, 0x0⟩,
   ⟨0xE0050, [], .ro, 0x0, 0x0, 0x0⟩,
   ⟨0xE0054, [], .ro, 0x0, 0x0, 0x0⟩,
   ⟨0xE0060, [(0x4, 8)], .ro, 0x0, 0x0, 0x0⟩,
   ⟨0xE0080, [(0x4, 4)], .ro, 0x0, 0x0, 0x0⟩,
   ⟨0xE00A0, [], .rc, 0x0, 0x0, 0x0⟩,
   ⟨0xE00A4, [], .rc, 0x0, 0x0, 0x0⟩]

def rowsChain2 : List RegRow :=
  [⟨0xE00A8, [], .rc, 0x0, 0x0, 0x0⟩,
   ⟨0xE00AC, [], .rc, 0x0, 0x0, 0x0⟩,
   ⟨0xE00B0, [], .rc, 0x0, 0x0, 0x0⟩,
   ⟨0xE00B4, [], .rc, 0x0, 0x0, 0x0⟩,
   ⟨0xE0100, [(0x4, 32)], .ro, 0x0, 0x0, 0x0⟩,
   ⟨0xE0180, [(0x4, 32)], .ro, 0x0, 0x0, 0x0⟩,
   ⟨0xE0200, [(0x4, 8)], .ro, 0x0, 0x0, 0x0⟩,
   ⟨0xE0220, [], .rw, 0x0, 0x0, 0x100⟩,
   ⟨0xE0240, [(0x4, 8)], .wo, 0xFFFFFFFF, 0x0, 0x0⟩,
   ⟨0xE0260, [], .rw, 0x40000000, 0x0, 0x1⟩]

def rowsChain : List RegRow := rowsChain1 ++ rowsChain2

def rowsHbmc1 : List RegRow :=
  [⟨0x100000, [], .rw, 0x0, 0x0, 0x5⟩,
   ⟨0x100004, [], .ro, 0x0, 0x0, 0x0⟩,
   ⟨0x100008, [], .w1c, 0x0, 0x3FF, 0x0⟩,
   ⟨0x10000C, [], .rw, 0x3FF, 0x0, 0x0⟩,
   ⟨0x100010, [], .rw, 0x3, 0x0, 0x0⟩,
   ⟨0x100014, [], .rw, 0x1FFFF, 0x0, 0x0⟩,
   ⟨0x100018, [], .rw, 0xFFF, 0x0, 0x0⟩,
   ⟨0x10001C, [], .rw, 0xFF, 0x0, 0x0⟩,
   ⟨0x100020, [], .ro, 0x0, 0x0, 0x0⟩,
   ⟨0x100024, [], .ro, 0x0, 0x0, 0x0⟩,
   ⟨0x100028, [], .rw, 0x7, 0x0, 0x0⟩,
   ⟨0x100030, [], .rwa, 0x80007FFF, 0x0, 0x0⟩,
   ⟨0x100034, [], .rwa, 0x80007FFF, 0x0, 0x0⟩,
   ⟨0x100038, [], .rwa, 0x800F7FFF, 0x0, 0x0⟩,
   ⟨0x100040, [(0x8, 4)], .ro, 0x0, 0x0, 0x0⟩,
   ⟨0x100044, [(0x8, 4)], .ro, 0x0, 0x0, 0x0⟩,
   ⟨0x100060, [(0x8, 12)], .rwa, 0x80007FFF, 0x0, 0x0⟩,
   ⟨0x100064, [(0x8, 12)], .rwa, 0x1F7FFF, 0x0, 0x0⟩,
   ⟨0x1000C0, [(0x4, 10)], .ro, 0x0, 0x0, 0x0⟩,
   ⟨0x100100, [(0x4, 10)], .rw, 0x1FFFFFFF, 0x0, 0x0⟩,
   ⟨0x100140, [], .ro, 0x0, 0x0, 0x0⟩,
   ⟨0x100144, [], .ro, 0x0, 0x0, 0x0⟩,
   ⟨0x100148, [], .ro, 0x0, 0x0, 0x0⟩,
   ⟨0x100150, [], .ro, 0x0, 0x0, 0x0⟩,
   ⟨0x100154, [], .ro, 0x0, 0x0, 0x0⟩,
   ⟨0x100180, [], .rc, 0x0, 0x0, 0x0⟩]

def rowsHbmc2 : List RegRow :=
  [⟨0x100184, [], .rc, 0x0, 0x0, 0x0⟩,
   ⟨0x100188, [], .rc, 0x0, 0x0, 0x0⟩,
   ⟨0x10018C, [], .rc, 0x0, 0x0, 0x0⟩,
   ⟨0x100190, [], .rc, 0x0, 0x0, 0x0⟩,
   ⟨0x100194, [], .rc, 0x0, 0x0, 0x0⟩,
   ⟨0x100198, [], .rc, 0x0, 0x0, 0x0⟩,
   ⟨0x100200, [(0x10, 32)], .rc, 0x0, 0x0, 0x0⟩,
   ⟨0x100204, [(0x10, 32)], .rc, 0x0, 0x0, 0x0⟩,
   ⟨0x100208, [(0x10, 32)], .rc, 0x0, 0x0, 0x0⟩,
   ⟨0x10020C, [(0x10, 32)], .w1c, 0x0, 0x7, 0x0⟩]

def rowsHbmc : List RegRow := rowsHbmc1 ++ rowsHbmc2

def rowsMatrix : List RegRow :=
  [⟨0x120000, [], .rw, 0x3, 0x0, 0x0⟩,
   ⟨0x120004, [], .ro, 0x0, 0x0, 0x0⟩,
   ⟨0x120008, [], .w1c, 0x0, 0x1F, 0x0⟩,
   ⟨0x12000C, [], .rw, 0x1F, 0x0, 0x0⟩,
   ⟨0x120010, [], .rw, 0x7F, 0x0, 0x0⟩,
   ⟨0x120014, [], .rw, 0x1FFFF, 0x0, 0x0⟩,
   ⟨0x120018, [], .rw, 0xFFFFFF, 0x0, 0x0⟩,
   ⟨0x120020, [], .ro, 0x0, 0x0, 0x0⟩,
   ⟨0x120024, [], .ro, 0x0, 0x0, 0x0⟩,
   ⟨0x120028, [], .ro, 0x0, 0x80000000, 0x0⟩,
   ⟨0x120030, [], .rc, 0x0, 0x0, 0x0⟩,
   ⟨0x120034, [], .rc, 0x0, 0x0, 0x0⟩,
   ⟨0x120038, [], .rc, 0x0, 0x0, 0x0⟩,
   ⟨0x12003C, [], .rc, 0x0, 0x0, 0x0⟩,
   ⟨0x120040, [], .rc, 0x0, 0x0, 0x0⟩,
   ⟨0x120044, [], .rc, 0x0, 0x0, 0x0⟩,
   ⟨0x120100, [(0x4, 21)], .rw, 0x1FF, 0x0, 0x0⟩,
   ⟨0x120180, [(0x4, 21)], .rc, 0x0, 0x0, 0x0⟩,
   ⟨0x120200, [(0x10, 6)], .rc, 0x0, 0x0, 0x0⟩,
   ⟨0x120204, [(0x10, 6)], .rc, 0x0, 0x0, 0x0⟩,
   ⟨0x120208, [(0x10, 6)], .rc, 0x0, 0x0, 0x0⟩]

def rowsDma : List RegRow :=
  [⟨0x130000, [], .ro, 0x0, 0x0, 0x0⟩,
   ⟨0x130004, [], .rw, 0xFFFFFF, 0x0, 0x0⟩,
   ⟨0x130008, [], .ro, 0x0, 0x0, 0x0⟩,
   ⟨0x130010, [], .rw, 0xFFFFF000, 0x0, 0x0⟩,
   ⟨0x130014, [], .rw, 0xFFFFFFFF, 0x0, 0x0⟩,
   ⟨0x130100, [(0x40, 32)], .rw, 0xFFFFFFF3, 0x0, 0x0⟩,
   ⟨0x130104, [(0x40, 32)], .rw, 0x1, 0x0, 0x6⟩,
   ⟨0x130108, [(0x40, 32)], .ro, 0x0, 0x0, 0x0⟩,
   ⟨0x13010C, [(0x40, 32)], .w1c, 0x0, 0x7F, 0x0⟩,
   ⟨0x130110, [(0x40, 32)], .rw, 0x7F, 0x0, 0x0⟩,
   ⟨0x130114, [(0x40, 32)], .rw, 0xFFFFFFE0, 0x0, 0x0⟩,
   ⟨0x130118, [(0x40, 32)], .rw, 0x1F00FF, 0x0, 0x0⟩,
   ⟨0x13011C, [(0x40, 32)], .ro, 0x0, 0x0, 0x0⟩,
   ⟨0x130120, [(0x40, 32)], .wo, 0xFFFFFFFF, 0x0, 0x0⟩,
   ⟨0x130124, [(0x40, 32)], .ro, 0x0, 0x0, 0x0⟩,
   ⟨0x130128, [(0x40, 32)], .ro, 0x0, 0x0, 0x0⟩,
   ⟨0x13012C, [(0x40, 32)], .rc, 0x0, 0x0, 0x0⟩,
   ⟨0x130130, [(0x40, 32)], .rc, 0x0, 0x0, 0x0⟩,
   ⟨0x130134, [(0x40, 32)], .rc, 0x0, 0x0, 0x0⟩,
   ⟨0x130138, [(0x40, 32)], .rc, 0x0, 0x0, 0x0⟩]

def rowsMbox : List RegRow :=
  [⟨0x140000, [], .rw, 0xFFFFFF, 0x0, 0x0⟩,
   ⟨0x140010, [], .rc, 0x0, 0x0, 0x0⟩,
   ⟨0x140014, [], .rc, 0x0, 0x0, 0x0⟩,
   ⟨0x140018, [], .rc, 0x0, 0x0, 0x0⟩,
   ⟨0x14001C, [], .rc, 0x0, 0x0, 0x0⟩,
   ⟨0x140020, [], .rc, 0x0, 0x0, 0x0⟩,
   ⟨0x140024, [], .rc, 0x0, 0x0, 0x0⟩,
   ⟨0x140030, [(0x4, 2)], .ro, 0x0, 0x0, 0x0⟩,
   ⟨0x140100, [(0x100, 48)], .rw, 0xFFFF0000, 0x0, 0x0⟩,
   ⟨0x140104, [(0x100, 48)], .w1c, 0x0, 0x11F1F, 0x0⟩,
   ⟨0x140108, [(0x100, 48)], .rw, 0x11F1F, 0x0, 0x0⟩,
   ⟨0x140140, [(0x100, 48), (0x40, 2)], .wo, 0xFFFFFFFF, 0x0, 0x0⟩,
   ⟨0x140144, [(0x100, 48), (0x40, 2)], .wo, 0xFFFFFFFF, 0x0, 0x0⟩,
   ⟨0x140148, [(0x100, 48), (0x40, 2)], .wo, 0xFFFFFFFF, 0x0, 0x0⟩,
   ⟨0x14014C, [(0x100, 48), (0x40, 2)], .rw, 0x1F, 0x0, 0x0⟩,
   ⟨0x140150, [(0x100, 48), (0x40, 2), (0x4, 4)], .ro, 0x0, 0x0, 0x0⟩,
   ⟨0x140160, [(0x100, 48), (0x40, 2)], .wo, 0xFFFFFFFF, 0x0, 0x0⟩,
   ⟨0x140164, [(0x100, 48), (0x40, 2)], .ro, 0x0, 0x0, 0x0⟩,
   ⟨0x140168, [(0x100, 48), (0x40, 2)], .ro, 0x0, 0x0, 0x0⟩]

def rowsIrq : List RegRow :=
  [⟨0x150008, [], .w1c, 0x0, 0x7, 0x0⟩,
   ⟨0x15000C, [], .rw, 0x7, 0x0, 0x0⟩,
   ⟨0x150010, [(0x4, 2)], .rw, 0xFFFFC000, 0x0, 0x0⟩,
   ⟨0x150018, [(0x4, 2)], .rw, 0xFFFFFFE0, 0x0, 0x0⟩,
   ⟨0x150020, [(0x10, 2)], .rw, 0x3, 0x0, 0x0⟩,
   ⟨0x150024, [(0x10, 2)], .ro, 0x0, 0x0, 0x0⟩,
   ⟨0x150040, [(0x4, 12)], .rw, 0xFFFFFF, 0x0, 0x0⟩,
   ⟨0x150080, [], .rw, 0x3, 0x0, 0x0⟩,
   ⟨0x150090, [], .wo, 0xFF, 0x0, 0x0⟩,
   ⟨0x150100, [(0x4, 20)], .ro, 0x0, 0x0, 0x0⟩,
   ⟨0x150180, [(0x4, 20)], .ro, 0x0, 0x0, 0x0⟩,
   ⟨0x150200, [(0x4, 8)], .ro, 0x0, 0x0, 0x0⟩,
   ⟨0x150240, [(0x4, 16)], .rw, 0x800000FF, 0x0, 0x0⟩,
   ⟨0x150280, [], .rc, 0x0, 0x0, 0x0⟩,
   ⟨0x150284, [], .rc, 0x0, 0x0, 0x0⟩,
   ⟨0x150288, [], .rc, 0x0, 0x0, 0x0⟩,
   ⟨0x15028C, [], .rc, 0x0, 0x0, 0x0⟩,
   ⟨0x150290, [], .rc, 0x0, 0x0, 0x0⟩,
   ⟨0x150294, [], .rc, 0x0, 0x0, 0x0⟩,
   ⟨0x150298, [], .rc, 0x0, 0x0, 0x0⟩,
   ⟨0x151000, [(0x4, 640)], .rw, 0xFF8F00FF, 0x0, 0x0⟩]

def rowsPower1 : List RegRow :=
  [⟨0x160000, [], .rw, 0xF, 0x0, 0x1E0⟩,
   ⟨0x160004, [], .ro, 0x0, 0x0, 0x0⟩,
   ⟨0x160008, [], .w1c, 0x0, 0xFEF, 0x0⟩,
   ⟨0x16000C, [], .rw, 0xFEF, 0x0, 0x0⟩,
   ⟨0x160010, [], .rw, 0x1FF, 0x0, 0x0⟩,
   ⟨0x160014, [], .rw, 0xFF00FF, 0x0, 0x0⟩,
   ⟨0x160018, [], .rw, 0xFFFFFFFF, 0x0, 0x0⟩,
   ⟨0x16001C, [], .rw, 0xFF, 0x0, 0x0⟩,
   ⟨0x160020, [], .rw, 0xFF, 0x0, 0x0⟩,
   ⟨0x160024, [], .ro, 0x0, 0x0, 0x0⟩,
   ⟨0x160028, [], .ro, 0x0, 0x0, 0x0⟩,
   ⟨0x16002C, [], .ro, 0x0, 0x0, 0x0⟩,
   ⟨0x160030, [], .ro, 0x0, 0x0, 0x0⟩,
   ⟨0x160034, [], .ro, 0x0, 0x0, 0x0⟩,
   ⟨0x160038, [], .ro, 0x0, 0x0, 0x0⟩,
   ⟨0x16003C, [], .ro, 0x0, 0x0, 0x0⟩,
   ⟨0x160040, [(0x4, 16)], .ro, 0x0, 0x0, 0x0⟩,
   ⟨0x160080, [(0x4, 64)], .ro, 0x0, 0x0, 0x0⟩,
   ⟨0x160180, [(0x4, 16)], .ro, 0x0, 0x0, 0x0⟩,
   ⟨0x1601C0, [(0x4, 16)], .ro, 0x0, 0x0, 0x0⟩,
   ⟨0x160200, [], .rc, 0x0, 0x0, 0x0⟩,
   ⟨0x160204, [], .rc, 0x0, 0x0, 0x0⟩,
   ⟨0x160208, [], .rc, 0x0, 0x0, 0x0⟩,
   ⟨0x16020C, [], .rc, 0x0, 0x0, 0x0⟩]

def rowsPower2 : List RegRow :=
  [⟨0x160300, [], .rwa, 0xFFFF0FFF, 0x0, 0x0⟩,
   ⟨0x160304, [], .rwa, 0xFFFFFFFF, 0x0, 0x0⟩]

def rowsPower : List RegRow := rowsPower1 ++ rowsPower2

def rowsBoot : List RegRow :=
  [⟨0x160800, [], .ro, 0x0, 0x0, 0x0⟩,
   ⟨0x160804, [], .w1c, 0x0, 0x7, 0x0⟩,
   ⟨0x160808, [], .rw, 0x7, 0x0, 0x0⟩,
   ⟨0x16080C, [], .ro, 0x0, 0x0, 0x0⟩,
   ⟨0x160810, [], .ro, 0x0, 0x0, 0x0⟩,
   ⟨0x160814, [], .ro, 0x0, 0x0, 0x0⟩,
   ⟨0x160840, [(0x4, 16)], .ro, 0x0, 0x0, 0x0⟩]

def rowsCore : List RegRow :=
  [⟨0x170000, [], .rw, 0x80, 0x0, 0x333⟩,
   ⟨0x170004, [], .ro, 0x0, 0x0, 0x0⟩,
   ⟨0x170008, [], .w1c, 0x0, 0xFF, 0x0⟩,
   ⟨0x17000C, [], .rw, 0xFF, 0x0, 0x0⟩,
   ⟨0x170010, [], .ro, 0x0, 0x0, 0x0⟩,
   ⟨0x170014, [], .wo, 0xFFFFFFFF, 0x0, 0x0⟩,
   ⟨0x170018, [], .wo, 0xFFFFFFFF, 0x0, 0x0⟩,
   ⟨0x17001C, [], .ro, 0x0, 0x0, 0x0⟩,
   ⟨0x170020, [], .ro, 0x0, 0x0, 0x0⟩,
   ⟨0x170024, [], .rw, 0xFFFFF, 0x0, 0x0⟩,
   ⟨0x170030, [(0x4, 2)], .rw, 0xFFFF1FFF, 0x0, 0x0⟩,
   ⟨0x170038, [(0x4, 2)], .ro, 0x0, 0x0, 0x0⟩,
   ⟨0x170040, [], .rw, 0xFFFFFFFF, 0x0, 0x0⟩,
   ⟨0x170048, [], .ro, 0x0, 0x0, 0x0⟩,
   ⟨0x17004C, [], .ro, 0x0, 0x0, 0x0⟩,
   ⟨0x170050, [], .rc, 0x0, 0x0, 0x0⟩,
   ⟨0x170054, [], .rc, 0x0, 0x0, 0x0⟩,
   ⟨0x170058, [], .rc, 0x0, 0x0, 0x0⟩]

def rowsHostif : List RegRow :=
  [⟨0x180000, [], .ro, 0x0, 0x0, 0x0⟩,
   ⟨0x180008, [], .w1c, 0x0, 0x1FF, 0x0⟩,
   ⟨0x18000C, [], .rw, 0x1FF, 0x0, 0x0⟩,
   ⟨0x180010, [], .rw, 0x3FF, 0x0, 0x0⟩,
   ⟨0x180014, [], .rc, 0x0, 0x0, 0x0⟩,
   ⟨0x180018, [], .rc, 0x0, 0x0, 0x0⟩,
   ⟨0x180020, [], .rw, 0x100, 0x0, 0x1000F⟩,
   ⟨0x180024, [], .ro, 0x0, 0x0, 0x0⟩,
   ⟨0x180028, [], .rw, 0x7FFFFF, 0x0, 0x0⟩,
   ⟨0x18002C, [], .rw, 0xFFFFFF, 0x0, 0x0⟩,
   ⟨0x180030, [], .rw, 0xFFFFFFFF, 0x0, 0x0⟩,
   ⟨0x180034, [], .rw, 0xFFFFFFFF, 0x0, 0x0⟩,
   ⟨0x180038, [], .ro, 0x0, 0x0, 0x0⟩,
   ⟨0x18003C, [], .ro, 0x0, 0x0, 0x0⟩,
   ⟨0x184000, [(0x4, 4096)], .wo, 0xFFFFFFFF, 0x0, 0x0⟩,
   ⟨0x188000, [(0x10, 256)], .rw, 0xFFFFFFFC, 0x0, 0x0⟩,
   ⟨0x188004, [(0x10, 256)], .rw, 0xFFFFFFFF, 0x0, 0x0⟩,
   ⟨0x188008, [(0x10, 256)], .rw, 0xFFFFFFFF, 0x0, 0x0⟩,
   ⟨0x18800C, [(0x10, 256)], .rw, 0x1, 0x0, 0x0⟩,
   ⟨0x189000, [(0x4, 8)], .ro, 0x0, 0x0, 0x0⟩]

def rowsMgmt : List RegRow :=
  [⟨0x190000, [], .rw, 0x7, 0x0, 0x0⟩,
   ⟨0x190004, [], .ro, 0x0, 0x0, 0x0⟩,
   ⟨0x190008, [], .w1c, 0x0, 0xF, 0x0⟩,
   ⟨0x19000C, [], .rw, 0xF, 0x0, 0x0⟩,
   ⟨0x190010, [], .ro, 0x0, 0x0, 0x0⟩,
   ⟨0x190014, [], .ro, 0x0, 0x0, 0x0⟩,
   ⟨0x190018, [(0x8, 4)], .rw, 0xFFFFFFFF, 0x0, 0x0⟩,
   ⟨0x19001C, [(0x8, 4)], .rw, 0x8000FFFF, 0x0, 0x0⟩,
   ⟨0x190040, [], .rw, 0xFFFFF800, 0x0, 0x0⟩,
   ⟨0x190044, [], .rw, 0xFFFFF800, 0x0, 0x0⟩,
   ⟨0x190048, [], .ro, 0x0, 0x0, 0x0⟩,
   ⟨0x19004C, [], .wo, 0xFFFFFFFF, 0x0, 0x0⟩,
   ⟨0x190050, [], .ro, 0x0, 0x0, 0x0⟩,
   ⟨0x190080, [], .rc, 0x0, 0x0, 0x0⟩,
   ⟨0x190084, [], .rc, 0x0, 0x0, 0x0⟩,
   ⟨0x190088, [], .rc, 0x0, 0x0, 0x0⟩,
   ⟨0x19008C, [], .rc, 0x0, 0x0, 0x0⟩]

def rowsSnap : List RegRow :=
  [⟨0x1A0000, [], .rw, 0x2, 0x0, 0x1⟩,
   ⟨0x1A0004, [], .ro, 0x0, 0x0, 0x0⟩,
   ⟨0x1A0008, [], .rw, 0xFFFFFFFF, 0x0, 0x0⟩,
   ⟨0x1A000C, [], .rw, 0xFFFFFFFF, 0x0, 0x0⟩,
   ⟨0x1A0010, [], .ro, 0x0, 0x0, 0x0⟩,
   ⟨0x1A0014, [], .ro, 0x0, 0x0, 0x0⟩,
   ⟨0x1A0018, [], .ro, 0x0, 0x0, 0x0⟩,
   ⟨0x1A001C, [], .ro, 0x0, 0x0, 0x0⟩,
   ⟨0x1A0020, [], .rw, 0x1F, 0x0, 0x0⟩,
   ⟨0x1B0000, [], .ro, 0x0, 0x0, 0x0⟩]

def rowsClove : List RegRow :=
  [⟨0x87F000, [(0x80000, 16)], .rw, 0x0, 0x0, 0xF⟩,
   ⟨0x87F004, [(0x80000, 16)], .ro, 0x0, 0x0, 0x0⟩,
   ⟨0x87F008, [(0x80000, 16)], .w1c, 0x0, 0x7, 0x0⟩,
   ⟨0x87F00C, [(0x80000, 16)], .rw, 0x7, 0x0, 0x0⟩,
   ⟨0x87F010, [(0x80000, 16)], .rw, 0xFFFC, 0x0, 0x0⟩,
   ⟨0x87F014, [(0x80000, 16)], .ro, 0x0, 0x0, 0x0⟩,
   ⟨0x87F018, [(0x80000, 16)], .ro, 0x0, 0x0, 0x0⟩,
   ⟨0x87F01C, [(0x80000, 16)], .ro, 0x0, 0x0, 0x0⟩,
   ⟨0x87F020, [(0x80000, 16)], .ro, 0x0, 0x0, 0x0⟩,
   ⟨0x87F024, [(0x80000, 16)], .rc, 0x0, 0x0, 0x0⟩,
   ⟨0x87F028, [(0x80000, 16)], .rc, 0x0, 0x0, 0x0⟩,
   ⟨0x87F02C, [(0x80000, 16)], .rc, 0x0, 0x0, 0x0⟩]

/-- Every register row of the spec. -/
def regTable : List RegRow :=
  rowsDevice ++ rowsCat ++ rowsTime ++ rowsLane ++ rowsQuire ++ rowsIngest ++ rowsArray ++ rowsAccum ++ rowsBeam ++ rowsChain ++ rowsHbmc ++ rowsMatrix ++ rowsDma ++ rowsMbox ++ rowsIrq ++ rowsPower ++ rowsBoot ++ rowsCore ++ rowsHostif ++ rowsMgmt ++ rowsSnap ++ rowsClove

/-- Whether the byte offset `d` from a row's base is one of its elements. -/
def inDims : List (Nat × Nat) → Nat → Bool
  | [], d => d == 0
  | (st, n) :: rest, d => decide (d / st < n) && inDims rest (d % st)

/-- The address under which a register is held: the quire registers that all eight windows of a quire address are held in the first
window (R114). -/
def canonReg (a : Nat) : Nat :=
  if 0x40000 ≤ a ∧ a < 0x70000 ∧ 0x300 ≤ a % 0x400 then a / 0x2000 * 0x2000 + a % 0x400 else a

/-- The row a BAR0 address belongs to; none where no register stands. -/
def regRow (a : Nat) : Option RegRow :=
  regTable.find? (fun r => decide (r.base ≤ a) && inDims r.dims (a - r.base))

end Sys2Proof.Machine
end

