-- ==== Sys2Proof/Machine/Image.lean ====
section
/-!
DEFINITION. Machine/Image.lean: the Catalogue image: its header, section table and sections, the registers and the plan that it
puts into force, the placement of the regions, and the layout afresh of a staged image (R329 to R346, R354, R422).
-/
namespace Sys2Proof.Machine

/-! ### Reading an image -/

/-- An `n`-byte number at byte `k` of an image. -/
def imgN (img : List Byte) (k n : Nat) : Nat := leNat ((img.drop k).take n)

/-- One entry of the section table (R332). -/
structure Sect where
  idx : Nat
  typ : Nat
  sver : Nat
  first : Nat
  last : Nat
  firstC : Nat
  lastC : Nat
  off : Nat
  len : Nat
  crc : Nat

/-- Image offset of entry `k` of the section table. -/
def sectAt (k : Nat) : Nat := 64 + 32 * k

/-- SECTION_COUNT. -/
def sectCount (img : List Byte) : Nat := imgN img 12 2

/-- Entry `k` of the section table (R332). -/
def sectOf (img : List Byte) (k : Nat) : Sect :=
  let e := (img.drop (sectAt k)).take 32
  ⟨k, imgN e 0 1, imgN e 1 1, imgN e 4 2, imgN e 6 2, imgN e 8 2, imgN e 10 2, imgN e 12 4, imgN e 16 4, imgN e 20 4⟩

/-- The section table. -/
def sects (img : List Byte) : List Sect := (List.range (sectCount img)).map (sectOf img)

/-- A section's bytes. -/
def Sect.body (x : Sect) (img : List Byte) : List Byte := (img.drop x.off).take x.len

/-- Whether a section applies to address `a` (R333). -/
def Sect.applies (x : Sect) (a : Nat) : Bool := decide (x.first ≤ a) && decide (a ≤ x.last)

/-- The sections of a type that apply to address `a`. -/
def sectsFor (img : List Byte) (a typ : Nat) : List Sect := (sects img).filter (fun x => x.typ == typ && x.applies a)

/-- The bytes of the section of a type that applies to address `a`, where there is one. -/
def sectOpt (img : List Byte) (a typ : Nat) : Option (List Byte) := ((sectsFor img a typ).head?).map (fun x => x.body img)

/-- The bytes of the section of a type that applies to address `a`; POWER and CHAIN stand in the reference Catalogue where an
image has none (R334). -/
def sectBytes (img : List Byte) (a typ : Nat) : List Byte :=
  match sectOpt img a typ with
  | some b => b
  | none => if typ = 6 ∨ typ = 7 then (sectOpt refImage 0 typ).getD [] else []

/-- The digest of an image: SHA-256 with bytes 16 to 19 and 24 to 55 taken as zero (R331). -/
def imgDigest (img : List Byte) : List Byte :=
  sha256 (img.take 16 ++ List.replicate 4 0#8 ++ (img.drop 20).take 4 ++ List.replicate 32 0#8 ++ img.drop 56)

/-- The CRC-32C of an image, with bytes 16 to 19 taken as zero (R331). -/
def imgCrc (img : List Byte) : Nat := (crc32c (img.take 16 ++ List.replicate 4 0#8 ++ img.drop 20)).toNat

/-! ### Laying an image out afresh -/

/-- A section as it is laid out: type, version, scope and bytes. -/
structure SectSrc where
  typ : Nat
  sver : Nat
  first : Nat
  last : Nat
  bytes : List Byte

/-- The order of the table entries of a staged image (R354). -/
def SectSrc.before (x y : SectSrc) : Bool :=
  decide (x.typ < y.typ) || (x.typ == y.typ && (decide (x.first < y.first) || (x.first == y.first && decide (x.last < y.last))))

/-- Places sections one after another, each at the first multiple of 16 at or after `off`; gives their offsets and the end of
the last. -/
def placeSects : Nat → List SectSrc → List (SectSrc × Nat) × Nat
  | off, [] => ([], off)
  | off, x :: rest =>
    let o := ceilDiv off 16 * 16
    let r := placeSects (o + x.bytes.length) rest
    ((x, o) :: r.1, r.2)

/-- One entry of a section table. -/
def sectEntry (x : SectSrc × Nat) : List Byte :=
  leBytes 1 x.1.typ ++ leBytes 1 x.1.sver ++ leBytes 2 0 ++ leBytes 2 x.1.first ++ leBytes 2 x.1.last
    ++ leBytes 2 (65535 - x.1.first) ++ leBytes 2 (65535 - x.1.last) ++ leBytes 4 x.2 ++ leBytes 4 x.1.bytes.length
    ++ leBytes 4 (crc32c x.1.bytes).toNat ++ leBytes 8 0

/-- The bytes of the placed sections from image offset `off` on, with zero padding between them. -/
def sectFill : Nat → List (SectSrc × Nat) → List Byte
  | _, [] => []
  | off, x :: rest => List.replicate (x.2 - off) 0#8 ++ x.1.bytes ++ sectFill (x.2 + x.1.bytes.length) rest

/-- An image of the given FLAGS, BUILD and sections, with its check words and digest (R331, R354). -/
def layImage (flags build : Nat) (xs : List SectSrc) : List Byte :=
  let ys := sortBy SectSrc.before xs
  let p := placeSects (sectAt ys.length) ys
  let tab := p.1.flatMap sectEntry
  let raw := leBytes 4 0x4C544143 ++ leBytes 1 0 ++ leBytes 1 1 ++ leBytes 2 64 ++ leBytes 4 (ceilDiv p.2 16 * 16) ++ leBytes 2 ys.length
    ++ leBytes 2 0 ++ leBytes 4 0 ++ leBytes 4 (crc32c tab).toNat ++ leBytes 32 0 ++ leBytes 4 flags ++ leBytes 4 build ++ tab
    ++ sectFill (sectAt ys.length) p.1
  let whole := raw ++ List.replicate (ceilDiv p.2 16 * 16 - raw.length) 0#8
  let dig := whole.take 24 ++ imgDigest whole ++ whole.drop 56
  dig.take 16 ++ leBytes 4 (imgCrc dig) ++ dig.drop 20

/-- The sections of an image as laid out afresh. -/
def sectSrcs (img : List Byte) : List SectSrc := (sects img).map (fun x => ⟨x.typ, x.sver, x.first, x.last, x.body img⟩)

/-! ### The registers an image puts into force -/

/-- Whether the register at `a` is RWA (R11). -/
def isRwa (a : Nat) : Bool :=
  match regRow a with
  | some r => decide (r.acc = .rwa)
  | none => false

/-- The field of GEOMETRY or TIMEBASE that carries the register at `a`: section type, byte, length, and the byte of its
complement, if it has one (R337, R339). -/
def carried (a : Nat) : Option (Nat × Nat × Nat × Option Nat) :=
  if a = R.ACCUM_INT_WINDOWS then some (1, 28, 2, some 30)
  else if a = R.TIME_SI0_NS_LO then some (2, 0, 4, some 16)
  else if a = R.TIME_SI0_NS_HI then some (2, 4, 4, some 20)
  else if a = R.TIME_SI0_FRAC then some (2, 8, 4, some 24)
  else if a = R.TIME_SI_NUM_LO then some (2, 32, 4, none)
  else if a = R.TIME_SI_NUM_HI then some (2, 36, 4, none)
  else if a = R.TIME_SI_DEN_LO then some (2, 40, 4, none)
  else if a = R.TIME_SI_DEN_HI then some (2, 44, 4, none)
  else none

/-- The registers that GEOMETRY or TIMEBASE carries. -/
def carriedRegs : List Nat :=
  [R.ACCUM_INT_WINDOWS, R.TIME_SI0_NS_LO, R.TIME_SI0_NS_HI, R.TIME_SI0_FRAC, R.TIME_SI_NUM_LO, R.TIME_SI_NUM_HI, R.TIME_SI_DEN_LO,
   R.TIME_SI_DEN_HI]

/-- The entries of a REGS section (R340). -/
def regsEntries (b : List Byte) : List (Nat × Nat) :=
  (List.range (b.length / 8)).map (fun k => (imgN b (8 * k) 4, imgN b (8 * k + 4) 4))

/-- The reset values of the RWA registers. -/
def rwaResets : List (Nat × Word) := resetRegs.filter (fun e => isRwa e.1)

/-- Every RWA register at the value that image `img` gives it at address `a`: an entry's, or its reset value (R340). -/
def rwaRegs (regs : Tab Word) (img : List Byte) (a : Nat) : Tab Word :=
  let put := fun (t : Tab Word) (e : Nat × Word) => tset 0#32 t e.1 e.2
  let base := regs.filter (fun e => !isRwa e.1)
  let r1 := rwaResets.foldl put base
  let r2 := ((regsEntries ((sectOpt img a 3).getD [])).map (fun e => (e.1, BitVec.ofNat 32 e.2))).foldl put r1
  (carriedRegs.map (fun r => (r, match carried r with
    | some (t, o, n, _) => BitVec.ofNat 32 (imgN (sectBytes img a t) o n)
    | none => 0#32))).foldl put r2

/-! ### The plan of an image -/

/-- Reads the wing records of a PLAN section from byte `k` on: the lists, and the byte after the last (R341). -/
def wingsOf (b : List Byte) : Nat → Nat → List WingPlan × Nat
  | 0, k => ([], k)
  | n + 1, k =>
    let nw := imgN b k 2
    let bw := imgN b (k + 2) 2
    let hs := fun (o m : Nat) => (chunks 2 m ((b.drop o).take (2 * m))).map leNat
    let w : WingPlan := { tiles := hs (k + 4) nw, blocks := hs (k + 4 + 2 * nw) bw }
    let r := wingsOf b n (k + 4 + ceilDiv (2 * (nw + bw)) 4 * 4)
    (w :: r.1, r.2)

/-- The beam record at byte `k` of a PLAN section (R341). -/
def beamRecOf (b : List Byte) (k : Nat) : BeamRec :=
  ⟨imgN b k 2, imgN b (k + 2) 1, imgN b (k + 4) 2, imgN b (k + 6) 2, imgN b (k + 8) 2⟩

/-- The beam records of a PLAN section that its length can hold (R341). -/
def recCount (b : List Byte) : Nat := min (imgN b 400 4) (b.length / 12)

/-- The plan of a PLAN section, without its registers (R341). -/
def planOf (b : List Byte) : Plan :=
  let w := wingsOf b 4 408
  { roles := (b.take 400).map (·.toNat), wings := w.1, recs := (List.range (recCount b)).map (fun k => beamRecOf b (w.2 + 12 * k)) }

/-- Whether a PLAN section holds what R341 lays down, in exactly its length; its zero bytes are check 0x08's. -/
def planFormOk (b : List Byte) : Bool :=
  decide (408 ≤ b.length) && b.length == (wingsOf b 4 408).2 + 12 * imgN b 400 4 && (b.take 400).all (fun r => decide (r.toNat ≤ 2))

/-- The byte after each of `n` wing records from byte `k` on that ends in padding, less its two bytes (R341). -/
def wingPads (b : List Byte) : Nat → Nat → List Nat
  | 0, _ => []
  | n + 1, k =>
    let m := imgN b k 2 + imgN b (k + 2) 2
    (if m % 2 = 1 then [k + 4 + 2 * m] else []) ++ wingPads b n (k + 4 + ceilDiv (2 * m) 4 * 4)

/-- The bytes that a PLAN section leaves zero: first byte and count (R341). -/
def planZeros (b : List Byte) : List (Nat × Nat) :=
  let w := (wingsOf b 4 408).2
  (404, 4) :: (wingPads b 4 408).map (fun k => (k, 2))
    ++ (List.range (recCount b)).flatMap (fun k => [(w + 12 * k + 3, 1), (w + 12 * k + 10, 2)])

/-! ### Putting an image into force -/

/-- How many beams carry a flag. -/
def beamCount (v : State) (f : Nat → Nat) : Nat := ((List.range 32).map (fun n => popcount 32 (v.rdN (f n)))).sum

/-- The registers of the Catalogue `img` at address `a`: every RWA register, and every register that reports the Catalogue in
force but the regions (R340, R363). -/
def State.catView (s : State) (img : List Byte) (a : Nat) : State :=
  let g := sectBytes img a 1
  let roles := ((sectBytes img a 4).take 400).map (·.toNat)
  let w8 := imgN g 12 1 == 8
  let v := { s with regs := rwaRegs s.regs img a }
  let v1 := (v.wrN R.INGEST_GEOM (imgN g 4 2 % 2 ^ 13 + imgN g 8 2 % 2 ^ 13 * 2 ^ 16 + b2n w8 * 2 ^ 31)).wrN R.INGEST_DWELL (imgN g 16 4 % 2 ^ 17)
  let v2 := v1.wrN R.ARRAY_GEOM (imgN g 24 2 % 2 ^ 11 + b2n w8 * 2 ^ 28 + imgN g 14 1 % 2 * 2 ^ 29 + imgN g 13 1 % 4 * 2 ^ 30)
  let v3 := v2.wrN R.ARRAY_ROLES (((roles.take 384).filter (· == 1)).length + (roles.filter (· == 2)).length * 2 ^ 16)
  let v4 := (v3.fput F.BEAM_GEOM_SETS ((List.range 32).filter (fun n => v3.setEnabled n)).length).fput F.BEAM_GEOM_VOLT
    (beamCount v3 R.BEAM_SET_VOLT)
  (v4.fput F.BEAM_GEOM_DET (beamCount v4 R.BEAM_SET_DET)).fput F.POWER_STATUS_MODE (imgN g 0 2)

/-- Further registers that report the Catalogue in force: its digest, address, policy, chain tolerance and lease period. -/
def State.catReport (s : State) (img : List Byte) (a : Nat) : State :=
  let p := sectBytes img a 6
  let s1 := s.forEach (List.range 8) (fun u k => u.wrN (R.CAT_LIVE_DIGEST k) (imgN img (24 + 4 * k) 4))
  let s2 := ((s1.fput F.POWER_POLICY_THERMAL_POLICY (imgN p 0 1)).fput F.POWER_POLICY_FAST_MARGIN (imgN p 1 1)).fput
    F.POWER_POLICY_INPUT_FLOOR (imgN p 2 2)
  let s3 := (s2.wrN R.CHAIN_TIME_TOL (imgN (sectBytes img a 7) 4 4)).wrN R.CORE_LEASE_PERIOD (imgN (sectBytes img a 8) 0 4 % 2 ^ 17)
  s3.wrN R.CAT_ADDR (s.fget F.CHAIN_ADDR_ADDRESS * b2n (s.fbit F.CHAIN_ADDR_VALID) + b2n (s.fbit F.CHAIN_ADDR_VALID) * 2 ^ 15)

/-- The address under which the shadow is compared and verified (R354, R390). -/
def State.chainAddr (s : State) : Nat := if s.fbit F.CHAIN_ADDR_VALID then s.fget F.CHAIN_ADDR_ADDRESS else 0

/-- The address of the live Catalogue (R333, R390). -/
def State.catAddr (s : State) : Nat := if s.fbit F.CAT_ADDR_VALID then s.fget F.CAT_ADDR_ADDRESS else 0

end Sys2Proof.Machine
end

