-- ==== Sys2Proof/Machine/Throttle.lean ====
section
/-!
DEFINITION. Machine/Throttle.lean: measurement rounds, the thermal model, the throttle and what it sheds (R623 to R636, R639).
-/
namespace Sys2Proof.Machine

/-- Changes the power manager beside its registers. -/
def State.powMod (s : State) (f : PowerSt → PowerSt) : State := { s with power := f s.power }

/-! ### Shedding -/

/-- Kind and count of throttle step `k` in the POWER section in force (R343). -/
def State.stepAction (s : State) (k : Nat) : Nat × Nat :=
  let b := sectBytes s.cat.live s.catAddr 6
  (imgN b (8 + 4 * (k - 1)) 1, imgN b (10 + 4 * (k - 1)) 2)

/-- How many items of a kind step `n` sheds: the counts of steps 1 to `n` together (R633). -/
def State.shedCount (s : State) (n kind : Nat) : Nat :=
  ((List.range n).map (fun k => if (s.stepAction (k + 1)).1 = kind then (s.stepAction (k + 1)).2 else 0)).sum

/-- The channel slots from the band edges inward: K − 1, 0, K − 2, 1 and so on (R633). -/
def edgeSlots (k : Nat) : List Nat := (List.range k).map (fun j => if j % 2 = 0 then k - 1 - j / 2 else j / 2)

/-- The input groups that `cnt` sheddings take, from group `g − 1` downward, where `left` inputs are still unshed: a group is
passed over where fewer than `floor` would remain (R633). -/
def takeGroups (size : Nat → Nat) (floor : Nat) : Nat → Nat → Nat → List Nat
  | 0, _, _ => []
  | g + 1, left, cnt =>
    if cnt = 0 then []
    else if left < floor + size g then takeGroups size floor g left cnt
    else g :: takeGroups size floor g (left - size g) (cnt - 1)

/-- What step `n` sheds under the Catalogue in force (R633). -/
def State.shedRow (s : State) (n : Nat) : ShedRow :=
  let sets := ((List.range 32).filter s.setEnabled).reverse
  let on := fun (i : Nat) => !s.inputOff i
  let size := fun (g : Nat) => ((List.range 32).filter (fun j => decide (32 * g + j < s.nIn) && on (32 * g + j))).length
  let all := ((List.range s.nIn).filter on).length
  { sets := (sets.filter (fun k => s.volt k == 0)).take (s.shedCount n 1) ++ (sets.filter (fun k => s.volt k != 0)).take (s.shedCount n 2)
    slots := (edgeSlots s.nChan).take (s.shedCount n 3)
    groups := takeGroups size (s.fget F.POWER_POLICY_INPUT_FLOOR) (ceilDiv s.nIn 32) all (s.shedCount n 4) }

/-- The first dwell window start at or after `x` (R633); a pass boundary where there is no dwell. -/
def State.windowAt (s : State) (x : Nat) : Nat := if s.dwell = 0 then s.boundaryAt x else roundUp s.dwell x

/-- Puts what the throttle sheds in force: sets from `pb`, slots and groups from `wb` (R633). -/
def State.putSheds (s : State) (new : ShedRow) (pb wb : Nat) : State :=
  let lo := min pb wb
  let pts := (ascending (pb :: wb :: (s.sheds.map ShedRow.x).filter (fun x => decide (lo ≤ x)))).reverse
  let row := fun (b : Nat) =>
    let o := s.shedAt b
    { x := b, sets := if pb ≤ b then new.sets else o.sets, slots := if wb ≤ b then new.slots else o.slots,
      groups := if wb ≤ b then new.groups else o.groups : ShedRow }
  { s with sheds := pts.map row ++ s.sheds.filter (fun r => decide (r.x < lo)) }

/-- The SI from which a change between steps `a` and `b` is in force: the boundary of the actions between them (R633, R634). -/
def State.stepBoundary (s : State) (a b : Nat) : Nat :=
  let acts := ((List.range (max a b)).filter (fun k => decide (min a b ≤ k))).map (fun k => s.stepAction (k + 1))
  let has := fun (p : Nat → Bool) => acts.any (fun e => decide (0 < e.2) && p e.1)
  if has (fun k => k == 3 || k == 4) && !has (fun k => k == 1 || k == 2) then s.windowAt (s.siNow + 1) else s.nextBoundary

/-- The step in force: the largest of the controller's and the floors (R632). -/
def State.wantStep (s : State) : Nat :=
  max (max (s.fget F.POWER_STATUS_CTRL_STEP) (min 8 (s.fget F.POWER_CTRL_STEP_MIN)))
    (4 * b2n (s.fbit F.POWER_STATUS_HOT_FLOOR || s.fbit F.POWER_STATUS_SENSOR_FLOOR))

/-- Brings the step in force to what R632 makes it; a change is raised, counted and recorded (R633, R634). -/
def State.applyStep (s : State) : State :=
  let a := s.fget F.POWER_STATUS_STEP
  let b := s.wantStep
  if a = b then s
  else
    let x := s.stepBoundary a b
    let s1 := ((s.fput F.POWER_STATUS_STEP b).raise F.POWER_EVENT_STEP).count R.POWER_STEP_CHANGES
    let s2 := (s1.wr64 R.POWER_STEP_SI_LO R.POWER_STEP_SI_HI x).powMod (fun p => { p with steps := (x, b) :: p.steps })
    s2.putSheds (s2.shedRow b) s2.nextBoundary (s2.windowAt (s2.siNow + 1))

/-- An accession at `x` puts the incoming POWER section's shedding in force at the step that stands (R636). -/
def State.throttleAccede (s : State) (x : Nat) : State := s.putSheds (s.shedRow (s.fget F.POWER_STATUS_STEP)) x (s.windowAt x)

/-! ### The model -/

/-- The last reading of diode `d`, °C. -/
def State.diodeT (s : State) (d : Nat) : Rat := (toSigned 16 (s.fget (F.POWER_DIODE_TEMP d)) : Rat) / 16

/-- The qualified diodes (R628). -/
def State.qualDiodes (s : State) : List Nat := (List.range 16).filter (fun d => !s.fbit (F.POWER_DIODE_FAILED d))

/-- ΔT of model point `i` (R627). -/
def State.rise (s : State) (i : Nat) : Rat := tget 0 s.power.rise i

/-- ΔT of the model point nearest to diode `d`. -/
def State.riseAt (s : State) (d : Nat) : Rat := s.rise (Config.nearestPoint d).val

/-- The mean of a list of temperatures, 0 of none. -/
def meanT (l : List Rat) : Rat := l.sum / (l.length : Rat)

/-- B formed from the diodes `ds` (R627). -/
def State.baseOf (s : State) (ds : List Nat) : Rat := meanT (ds.map (fun d => s.diodeT d - s.riseAt d))

/-- What model point `i` reads, °C. -/
def State.pointT (s : State) (i : Nat) : Rat := s.power.base + s.rise i

/-- One step of the model over a round of `us` µs with rail powers `ps` in mW (R627). -/
def State.modelStep (s : State) (us : Nat) (ps : List Nat) : State :=
  s.powMod (fun p => { p with rise := (List.range 64).foldl (fun t i =>
    let sI : Rat := ((List.range 8).map (fun r => Config.theta i r * ((ps.getD r 0 : Rat) / 1000))).sum
    let d := tget 0 t i
    tset 0 t i (d + (sI - d) * ((us : Rat) / 1000000 / Config.tau i))) p.rise })

/-- Whether diode `d` is out of line with the model and with its neighbours (R628). -/
def State.outOfLine (s : State) (d : Nat) : Bool :=
  let q := s.qualDiodes
  let lim : Rat := ((max 1 (s.rdN R.POWER_SENSOR_LIMIT % 256) : Nat) : Rat)
  let others := q.filter (fun e => e != d)
  let near := others.filter (fun e => e / 4 == d / 4 || e % 4 == d % 4)
  let e1 := s.diodeT d - ((if others.isEmpty then s.power.base else s.baseOf others) + s.riseAt d)
  let e2 := s.diodeT d - meanT (near.map (fun e => s.diodeT e + s.riseAt d - s.riseAt e))
  decide (lim < |e1|) && !near.isEmpty && decide (lim < |e2|)

/-- Judges the diodes in a slow round: three in a row out of line fail one; fewer than 8 left raise SENSORS_LOW (R628, R632). -/
def State.judgeDiodes (s : State) : State :=
  let s1 := s.forEach s.qualDiodes (fun u d =>
    let n := if s.outOfLine d then tget 0 s.power.strikes d + 1 else 0
    let u1 := u.powMod (fun p => { p with strikes := tset 0 p.strikes d n })
    if n = 3 then (u1.fput (F.POWER_DIODE_FAILED d) 1).raise F.POWER_EVENT_SENSOR_FAIL else u1)
  let n := s1.qualDiodes.length
  let low := decide (n < 8)
  ((s1.fput F.POWER_STATUS_SENSORS n).raiseIf (low && !s.fbit F.POWER_STATUS_SENSOR_FLOOR) F.POWER_EVENT_SENSORS_LOW).fput
    F.POWER_STATUS_SENSOR_FLOOR (b2n low)

/-- The hottest of the model points and the qualified diodes: its temperature, whether it is a diode, its number (R627). -/
def State.hottest (s : State) : Rat × Bool × Nat :=
  let pts := (List.range 64).map (fun i => (s.pointT i, false, i))
  let ds := s.qualDiodes.map (fun d => (s.diodeT d, true, d))
  (pts ++ ds).foldl (fun m (e : Rat × Bool × Nat) => if m.1 < e.1 then e else m) (s.pointT 0, false, 0)

/-- H (R627). -/
def State.hotT (s : State) : Rat := s.hottest.1

/-- TJ_THROTTLE and TJ_HYST within their limits, °C. -/
def State.tjThrottle (s : State) : Nat := max 60 (min 105 (s.fget F.POWER_TJ_TJ_THROTTLE))
def State.tjHyst (s : State) : Nat := max 1 (min 20 (s.fget F.POWER_TJ_TJ_HYST))

/-- Shows the points and H, and raises HOT as H reaches TJ_THROTTLE (R627, R642). -/
def State.showHeat (s : State) : State :=
  let h := s.hottest
  let s1 := s.forEach (List.range 64) (fun u i => u.wrN (R.POWER_POINT i) (fromSigned 16 (Config.sixteenths (s.pointT i))))
  let s2 := s1.wrN R.POWER_HOT (2 ^ 31 * b2n h.2.1 + 2 ^ 16 * h.2.2 + fromSigned 16 (Config.sixteenths h.1))
  let hot := decide ((s.tjThrottle : Rat) ≤ h.1)
  (s2.raiseIf (hot && !s.power.hot) F.POWER_EVENT_HOT).powMod (fun p => { p with hot := hot })

/-- Judges whether the store and the fuses may be written, and stops a store write in progress where not (R639). -/
def State.judgeProg (s : State) : State :=
  let ts := (List.range 64).map s.pointT ++ s.qualDiodes.map s.diodeT
  let ok := ts.all (fun t => decide (5 ≤ t) && decide (t ≤ 85))
  let s1 := s.fput F.POWER_STATUS_PROG_OK (b2n ok)
  if ok then s1 else { s1 with cat := { s1.cat with storing := s1.cat.storing.map (fun w => { w with stopped := true }) } }

/-- Puts fast rounds on or off, raising FAST at a change (R629). -/
def State.setFast (s : State) (b : Bool) : State :=
  if s.fbit F.POWER_STATUS_FAST == b then s else (s.fput F.POWER_STATUS_FAST (b2n b)).raise F.POWER_EVENT_FAST

/-- Chooses the rounds by THERMAL_POLICY (R629). -/
def State.judgeFast (s : State) : State :=
  let lim : Rat := (s.tjThrottle : Rat) - (s.fget F.POWER_POLICY_FAST_MARGIN : Rat)
  let below := decide (s.hotT < lim - 2)
  let since := if below then some (s.power.slowFrom.getD s.power.clock) else none
  let s1 := s.powMod (fun p => { p with slowFrom := since })
  match s.fget F.POWER_POLICY_THERMAL_POLICY with
  | 0 => s1.setFast false
  | 1 =>
    if lim ≤ s.hotT then s1.setFast true
    else if since.any (fun t => decide (100000 ≤ s.power.clock - t)) then s1.setFast false else s1
  | _ => s1.setFast true

/-! ### The controller -/

/-- The rounds of the last `us` µs, the oldest cut to what remains (R631). -/
def lastRounds : Nat → List (Nat × Nat) → List (Nat × Nat)
  | _, [] => []
  | us, (d, p) :: rest => if us ≤ d then [(us, p)] else (d, p) :: lastRounds (us - d) rest

/-- Total power over the last 10 ms, mW, weighted by time (R631). -/
def State.meanPower (s : State) : Rat :=
  let l := lastRounds 10000 s.power.hist
  (((l.map (fun e => e.1 * e.2)).sum : Nat) : Rat) / (((l.map Prod.fst).sum : Nat) : Rat)

/-- L(n) in mW (R630). -/
def State.powerLimit (s : State) (n : Nat) : Rat :=
  ((max 100 (min 340 (s.rdN R.POWER_PLIMIT % 512)) : Nat) : Rat) * 1000 * (100 - 5 * (n : Rat)) / 100

/-- Moves the controller step by at most one at the end of a round (R631). -/
def State.controlStep (s : State) : State :=
  let c := s.fget F.POWER_STATUS_CTRL_STEP
  let t := s.power.clock
  let h := s.hotT
  let avg := s.meanPower
  let waited := match s.power.changed with
    | some t0 => decide (max 1 (s.fget F.POWER_WAITS_STEP_UP_WAIT) * 1000 ≤ t - t0)
    | none => true
  let up := (decide ((s.tjThrottle : Rat) ≤ h) || decide (s.powerLimit c < avg)) && waited && decide (c < 8)
  let cool := decide (0 < c) && decide (h ≤ (s.tjThrottle : Rat) - (s.tjHyst : Rat)) && decide (avg ≤ s.powerLimit (c - 1) * 95 / 100)
  let since := if cool then some (s.power.coolFrom.getD t) else none
  let down := since.any (fun t0 => decide (s.fget F.POWER_WAITS_STEP_DOWN_WAIT * 1000 ≤ t - t0))
  if up then (s.fput F.POWER_STATUS_CTRL_STEP (c + 1)).powMod (fun p => { p with changed := some t, coolFrom := none })
  else if down then (s.fput F.POWER_STATUS_CTRL_STEP (c - 1)).powMod (fun p => { p with changed := some t, coolFrom := some t })
  else s.powMod (fun p => { p with coolFrom := since })

/-! ### Rounds -/

/-- One measurement round: `us` µs long in the model, ending at clock `t`, with the diode readings and rail powers in mW
(R625 to R632, R639). -/
def State.measure (s : State) (us t : Nat) (slow : Bool) (diodes : List (BitVec 16)) (ps : List Nat) : State :=
  let total := (ps.take 8).sum
  let s1 := s.forEach (List.range 16) (fun u d => u.fput (F.POWER_DIODE_TEMP d) ((diodes.getD d 0).toNat))
  let s2 := ((s1.wrN R.POWER_PWR_TOTAL (total % 2 ^ 20)).modelStep us ps).powMod (fun p => { p with
    clock := t, hist := lastRounds 10000 ((t - p.clock, total) :: p.hist) })
  let s3 := if slow then s2.judgeDiodes else s2
  let s4 := if s3.qualDiodes.isEmpty then s3 else s3.powMod (fun p => { p with base := s3.baseOf s3.qualDiodes })
  s4.showHeat.judgeProg.judgeFast.controlStep.applyStep

/-- FAST_ROUND: a fast round; in SLEEP the slow ones alone run (R606, R625, R629). -/
def execFastRound (diodes : List (BitVec 16)) (ps : List Nat) (s : State) : Host.Outcome State Fault Refusal :=
  .next (if s.fbit F.POWER_STATUS_FAST && s.mode != 0 then s.measure 50 (s.power.clock + 50) false diodes ps else s)

/-- Nominal voltage of each rail in mV, and its range at the die monitor (R621, R675). -/
def railRange (r : Nat) : Nat × Nat :=
  match r with
  | 0 => (680, 800)
  | 1 => (760, 840)
  | 2 => (855, 945)
  | 3 => (1140, 1260)
  | 4 => (1045, 1155)
  | 5 => (380, 420)
  | 6 => (1710, 1890)
  | _ => (855, 945)

/-- The rails whose monitor is out of range, as bits. -/
def railsOutOf (mv : List (BitVec 16)) : Nat :=
  (List.range 8).foldl (fun w r =>
    let v := (mv.getD r 0).toNat
    if v < (railRange r).1 ∨ (railRange r).2 < v then setBit w r else w) 0

/-- The record entries whose current the next slow round reads (R625). -/
def State.rotation (s : State) : List Nat :=
  let n := s.power.entries
  if n = 0 then [] else (List.range (min 8 n)).map (fun k => (s.power.rot + k) % n)

/-- Takes the READ_IOUT answers of a slow round, in mA; none is a NACK or a failed packet check (R625). -/
def State.takeIout (s : State) (ans : List (Option Nat)) : State :=
  let es := s.rotation
  let s1 := s.forEach (es.zipIdx) (fun u e => match (ans.getD e.2 none) with
    | some i => u.powMod (fun p => { p with iout := tset 0 p.iout e.1 i })
    | none => (u.count R.POWER_PMBUS_ERR).raise F.POWER_EVENT_PMBUS_ERR)
  s1.powMod (fun p => { p with rot := if s.power.entries = 0 then 0 else (p.rot + es.length) % s.power.entries })

/-- Power of rail `r` in mW: its monitor's voltage times the latest currents of its entries (R626). -/
def State.railPower (s : State) (mv : List (BitVec 16)) (r : Nat) : Nat :=
  let es := (List.range s.power.entries).filter (fun e => s.fget (F.POWER_REG_RAIL e) == r)
  (mv.getD r 0).toNat * (es.map (fun e => tget 0 s.power.iout e)).sum / 1000

/-- Shows voltage and power of the record entries, or of the rails where there is no record (R626, R640). An entry of another
board rail has no die monitor, so what it shows is open. -/
def State.showRails (s : State) (mv : List (BitVec 16)) (ps : List Nat) : State :=
  if s.fbit F.POWER_STATUS_TELEMETRY then
    s.forEach (List.range s.power.entries) (fun u e =>
      let r := s.fget (F.POWER_REG_RAIL e)
      if r < 8 then
        let v := (mv.getD r 0).toNat
        u.wrN (R.POWER_RAIL e) (2 ^ 16 * v + satN 16 (v * tget 0 s.power.iout e / 10000))
      else (u.wr (R.POWER_RAIL e) (Config.freeWord u.fresh)).tick1)
  else s.forEach (List.range 8) (fun u r => u.wrN (R.POWER_RAIL r) (2 ^ 16 * (mv.getD r 0).toNat + satN 16 (ps.getD r 0 / 10)))

/-- The voltage that the fuses name at temperature `t`, mV (R623). -/
def fuseVolt (t : Rat) : Rat :=
  if t < 25 ∨ 105 < t then Config.fusedBeyond t
  else if t ≤ 65 then Config.fusedVolt 0 + (Config.fusedVolt 1 - Config.fusedVolt 0) * (t - 25) / 40
  else Config.fusedVolt 1 + (Config.fusedVolt 2 - Config.fusedVolt 1) * (t - 65) / 40

/-- The trim of VDD_CORE: the fused voltage at H with the margin, mV (R623). -/
def State.coreTrim (s : State) : Nat :=
  let margin := max (-20) (min 20 (toSigned 8 (s.rdN R.POWER_CORE_MARGIN)))
  (max 680 (min 800 (fuseVolt s.hotT + (margin : Rat)).ceil)).toNat

/-- Commands VDD_CORE to `c` mV (R605, R608, R623). -/
def State.commandCore (s : State) (c : Nat) : State := (s.fput ⟨R.POWER_VCORE, 16, 16⟩ c).emit (.avs c)

/-- The command to VDD_CORE for the next round: toward the target by at most 5 mV; 680 mV in SLEEP (R623). -/
def State.coreCommand (s : State) : Nat :=
  let goal : Nat := if s.mode = 0 then 680 else s.coreTrim
  let old := s.rdN R.POWER_VCORE / 2 ^ 16
  if old = 0 ∨ s.mode = 0 then goal else max (old - 5) (min (old + 5) goal)

/-- Trims VDD_CORE: commands, reads back, and freezes after three failures in a row (R623). Without a record the trim runs only
where its target answers (R624). -/
def State.trimCore (s : State) (back : Option (BitVec 16)) : State :=
  if s.fbit F.POWER_STATUS_AVS_FROZEN || (back.isNone && !s.fbit F.POWER_STATUS_TELEMETRY) then s
  else
    let c := s.coreCommand
    let ok := match back with
      | some v => decide (v.toNat ≤ c + 10) && decide (c ≤ v.toNat + 10)
      | none => false
    let s1 := (s.commandCore c).fput ⟨R.POWER_VCORE, 0, 16⟩ (match back with
      | some v => v.toNat
      | none => s.rdN R.POWER_VCORE % 2 ^ 16)
    if ok then s1.powMod (fun p => { p with avsRun := 0 })
    else
      let s2 := ((s1.count R.POWER_AVS_ERR).raise F.POWER_EVENT_AVS_ERR).powMod (fun p => { p with avsRun := p.avsRun + 1 })
      if s2.power.avsRun = 3 then s2.fput F.POWER_STATUS_AVS_FROZEN 1 else s2

/-- SLOW_ROUND: a slow round; `est` is what the activity estimator gives per rail in mW where there is no record (R624 to
R626). -/
def execSlowRound (diodes mv : List (BitVec 16)) (iout : List (Option Nat)) (est : List Nat) (avs : Option (BitVec 16)) (s : State) :
    Host.Outcome State Fault Refusal :=
  let out := railsOutOf mv
  let fresh := (List.range 8).any (fun r => bitOf out r && !bitOf s.power.railsOut r)
  let past := s.fget F.BOOT_STATUS_STATE != 0 || decide (1 < s.fget F.BOOT_STATUS_STEP)
  let s1 := ((s.raiseIf (fresh && past) F.POWER_EVENT_RAIL).powMod (fun p => { p with railsOut := out })).takeIout iout
  let ps := if s1.fbit F.POWER_STATUS_TELEMETRY then (List.range 8).map (s1.railPower mv) else est
  .next (((s1.showRails mv ps).measure 1000 ((s1.power.clock / 1000 + 1) * 1000) true diodes ps).trimCore avs)

/-- PM_ALERT: PM_ALERT_N is asserted; STATUS_WORD is read from every entry, and `bad` of those reads fail (R625). -/
def execPmAlert (bad : Fin 17) (s : State) : Host.Outcome State Fault Refusal :=
  .next ((s.countBy R.POWER_PMBUS_ERR (1 + min bad.val s.power.entries)).raise F.POWER_EVENT_PMBUS_ERR)

end Sys2Proof.Machine
end

