-- ==== Sys2Proof/Machine/Hbm.lean ====
section
/-!
DEFINITION. Machine/Hbm.lean: the memory controller: requests and their order, refresh, temperature, errors, scrubbing, mapping
changes, training and changes of rate (R415 to R449, R691).
-/
namespace Sys2Proof.Machine

/-- Changes the controller beside its registers. -/
def State.hbmMod (s : State) (f : HbmSt → HbmSt) : State := { s with hbm := f s.hbm }

/-! ### Direct access: what one access does as a whole -/

/-- An access of the matrix to the Archive that is refused as a whole: beyond its end (kind 4) or in a failed pseudo-channel
(kind 6); 0 where it is not (R416, R446). -/
def State.arcRefuse (s : State) (off n : Nat) : Nat :=
  if archiveEnd < off + n then 4
  else if s.rd64 R.HBMC_PC_FAIL_LO R.HBMC_PC_FAIL_HI = 0 then 0
  else if ((List.range (ceilDiv (off % 32 + n) 32)).any (fun k => s.pcFailed (s.pseudoOf (off + 32 * k)))) then 6 else 0

/-- Reads `n` bytes of the Archive for a matrix master in class `cls`: the state with what is logged, the bytes, and whether they
are sound (R416, R439, R446). -/
def State.archRead (s : State) (cls off n : Nat) : State × List Byte × Bool :=
  let k := s.arcRefuse off n
  if k ≠ 0 then (s.rangeErr k cls off, [], false)
  else (s.noteRead cls off n, s.arcBytes off n, !s.arcPoisoned off n)

/-- Writes enabled bytes to the Archive for a matrix master in class `cls` (R416, R433, R446). -/
def State.archWrite (s : State) (cls off : Nat) (bs : List (Option Byte)) : State × Bool :=
  let k := s.arcRefuse off bs.length
  if k ≠ 0 then (s.rangeErr k cls off, false) else s.arcWrite cls off bs

/-- Whether the bytes [off, off + n) lie wholly in enabled user regions that a PCIe write may change (R425). -/
def State.hostWritable (s : State) (off n : Nat) : Bool :=
  (List.range (ceilDiv (off % 2 ^ 21 + n) (2 ^ 21))).all (fun k =>
    let m := off / 2 ^ 21 + k
    (List.range 12).any (fun r => s.fbit (F.HBMC_REGION_W0_EN (r + 4)) && s.fbit (F.HBMC_REGION_W1_HOST_WR (r + 4))
      && decide (s.fget (F.HBMC_REGION_W0_BASE (r + 4)) ≤ m)
      && decide (m < s.fget (F.HBMC_REGION_W0_BASE (r + 4)) + s.fget (F.HBMC_REGION_W1_SIZE (r + 4)))))

/-! ### Queues -/

/-- Where a bank's row, refreshes and activations are kept. -/
def bankKey (pc bank : Nat) : Nat := 48 * pc + bank

/-- Whether two requests touch a common unit and at least one of them writes (R429). -/
def HReq.meets (x y : HReq) : Bool :=
  x.pc == y.pc && (x.wr || y.wr) && decide (x.off / 32 ≤ (y.off + y.data.length - 1) / 32)
    && decide (y.off / 32 ≤ (x.off + x.data.length - 1) / 32)

/-- Whether a queue entry of pseudo-channel `pc` is open to a class: 2 to Saffron alone, 16 to the data class alone, 14 to any,
and 2,048 requests in flight at most (R426). -/
def State.entryOpen (s : State) (pc cls : Nat) : Bool :=
  let q := s.hbm.reqs.filter (fun r => r.pc == pc)
  let saf := (q.filter (fun r => r.cls == 0)).length
  let dat := (q.filter (fun r => r.cls == 1)).length
  let any := (saf - 2) + (dat - 16) + (q.length - saf - dat)
  decide (s.hbm.reqs.length < 2048) && ((cls == 0 && decide (saf < 2)) || (cls == 1 && decide (dat < 16)) || decide (any < 14))

/-- A queue in which every request on which a later one of higher rank waits has taken that rank (R429). -/
def inheritRanks : List HReq → List HReq
  | [] => []
  | q :: rest =>
    let later := inheritRanks rest
    { q with rank := ((later.filter (fun r => q.meets r)).map HReq.rank).foldl min q.rank } :: later

/-- Takes a request into its queue: it waits on earlier requests that it meets, which take its rank where it is higher (R429). -/
def State.takeIn (s : State) (r : HReq) : State :=
  let wait := s.hbm.reqs.any (fun q => q.meets r)
  (s.hbmMod (fun h => { h with reqs := inheritRanks (h.reqs ++ [{ r with hazard := wait }]) })).doIf wait
    (fun u => u.count R.HBMC_HAZARD_WAITS)

/-- Whether the request in place `k` is the one that its pseudo-channel serves next: no earlier one holds it back, and no ready one has
a higher rank, or is an earlier one of its rank at its bank (R29, R427, R429). DEDUCED (log 203): a request of higher rank whose bank
is busy holds back those of lower rank. -/
def servedNext (reqs : List HReq) (k : Nat) (r : HReq) : Bool :=
  let ready := fun (p : HReq × Nat) => !(reqs.take p.2).any (fun q => q.meets p.1)
  let first := fun (p : HReq × Nat) => decide (p.1.rank < r.rank) || (p.1.rank == r.rank && p.1.bank == r.bank && decide (p.2 < k))
  ready (r, k) && !reqs.zipIdx.any (fun p => p.1.pc == r.pc && first p && ready p)

/-- Admits what waits at the ports, oldest first, where an entry is open and nothing is held. -/
def State.admitWaiting : List HReq → State → State
  | [], s => s
  | r :: rest, s =>
    if s.hbm.hold = 0 ∧ s.entryOpen r.pc r.cls then State.admitWaiting rest (s.takeIn r)
    else State.admitWaiting rest (s.hbmMod (fun h => { h with waiting := h.waiting ++ [r] }))

/-- Takes up again what waited at the ports, in the order of the classes (R29). -/
def State.retryWaiting (s : State) : State :=
  State.admitWaiting (sortBy (fun (x y : HReq) => decide (x.cls < y.cls)) s.hbm.waiting) (s.hbmMod (fun h => { h with waiting := [] }))

/-- Whether a request has the shape in which its class arrives: a matrix request within one unit, a data-class request within one
page (R417, before R426). -/
def State.reqShape (s : State) (cls off n : Nat) : Bool :=
  decide (0 < n) && (if cls = 1 then decide (n ≤ 1024) && (List.range (ceilDiv (off % 32 + n) 32)).all (fun k =>
      s.pseudoOf (off + 32 * k) == s.pseudoOf off && s.bankOf (off + 32 * k) == s.bankOf off && s.rowOf (off + 32 * k) == s.rowOf off)
    else decide (off % 32 + n ≤ 32))

/-- HBM_REQUEST: a request reaches its pseudo-channel: class `cls` 0 Saffron, 1 data, 2 high, 3 normal, 4 background; `data` holds
the enabled bytes of a write, and of a read its length alone (R416, R426 to R429, R446). -/
def execHbmRequest (cls : Fin 5) (src tag : Nat) (hint wr : Bool) (off : Nat) (data : List (Option Byte)) (s : State) :
    Host.Outcome State Fault Refusal :=
  .next (if !s.reqShape cls.val off data.length then s
    else
      let k := s.arcRefuse off data.length
      if k ≠ 0 then (s.rangeErr k cls.val off).emit (.response src tag true [])
      else
        let r : HReq := { cls := cls.val, rank := cls.val, src := src, tag := tag, hint := hint, wr := wr, off := off, data := data,
                          pc := s.pseudoOf off, bank := s.bankOf off, row := s.rowOf off }
        State.admitWaiting [r] s)

/-- HBM_AGE_PROMOTE: the request in place `k` has waited HBMC.AGE_LIMIT cycles (R428). -/
def execHbmAgePromote (k : Nat) (s : State) : Host.Outcome State Fault Refusal :=
  .next (match s.hbm.reqs[k]? with
    | none => s
    | some r =>
      if r.cls < 2 ∨ r.promoted then s
      else (s.hbmMod (fun h => { h with
        reqs := inheritRanks (h.reqs.set k { r with rank := min r.rank 1, promoted := true }) })).count R.HBMC_AGE_PROMOTED)

/-! ### Rows and refresh -/

/-- Opens the row of a request where another or none is open; an activation counts toward refresh management (R431, R432, R436). -/
def State.openRow (s : State) (r : HReq) : State :=
  let key := bankKey r.pc r.bank
  if tget 0 s.hbm.rows key = r.row + 1 then s
  else
    let n := tget 0 s.hbm.acts key + 1
    let due := s.fbit F.HBMC_STATUS_RFM_REQ && decide (Config.rfmThreshold ≤ n)
    (s.hbmMod (fun h => { h with
      rows := tset 0 h.rows key (r.row + 1)
      acts := if s.fbit F.HBMC_STATUS_RFM_REQ then tset 0 h.acts key (if due then n - Config.rfmThreshold else n) else h.acts })).doIf due
        (fun u => u.count R.HBMC_RFM_COUNT)

/-- Closes the row of a bank. -/
def State.closeRow (s : State) (pc bank : Nat) : State := s.hbmMod (fun h => { h with rows := terase h.rows (bankKey pc bank) })

/-- PAGE_TIMEOUT: an open row has gone HBMC.PAGE_TIMEOUT cycles without access (R432). -/
def execPageTimeout (pc : Fin 64) (bank : Fin 48) (s : State) : Host.Outcome State Fault Refusal := .next (s.closeRow pc.val bank.val)

/-- REFRESH_DUE: a refresh of a bank falls due; `put` says that the controller would postpone it, which it may only while Saffron or
data-class requests for the bank are queued and below the limit (R432, R435, R436). -/
def execRefreshDue (pc : Fin 64) (bank : Fin 48) (put : Bool) (s : State) : Host.Outcome State Fault Refusal :=
  let key := bankKey pc.val bank.val
  let busy := s.hbm.reqs.any (fun r => r.pc == pc.val && r.bank == bank.val && decide (r.cls < 2))
  .next (if put && busy && decide (tget 0 s.hbm.postponed key < Config.refreshPostponeMax) then
      (s.hbmMod (fun h => { h with postponed := tmod 0 h.postponed key (· + 1) })).count R.HBMC_REF_POSTPONED
    else (s.closeRow pc.val bank.val).hbmMod (fun h => { h with
      postponed := terase h.postponed key, acts := tmod 0 h.acts key (fun n => n - Config.rfmThreshold) }))

/-! ### Holding -/

/-- Shows HELD and SCRUBBING (R448). -/
def State.showHeld (s : State) : State :=
  (s.fput F.HBMC_STATUS_HELD (b2n (decide (s.hbm.hold ≠ 0)))).fput F.HBMC_STATUS_SCRUBBING
    (b2n (s.hbm.patrol || s.hbm.initScrub || decide (s.hbm.hold = 2)))

/-- HBMC.RATE as it acts: 00b as 11b (R448). -/
def State.rateWanted (s : State) : Nat := if s.fget F.HBMC_RATE_RATE = 0 then 3 else s.fget F.HBMC_RATE_RATE

/-- The training phase (R448). -/
def State.phase (s : State) : Nat := s.fget F.HBMC_STATUS_PHASE

/-- Whether the stored results of rate `r` may be reused at the present temperatures (R443). -/
def State.reusable (s : State) (r : Nat) : Bool :=
  match s.hbm.records.find? (fun e => e.1 == r) with
  | none => false
  | some (_, t, _) => [F.HBMC_TEMP_STACK0, F.HBMC_TEMP_STACK1].all (fun f => decide (s.fget f ≤ t + 10) && decide (t ≤ s.fget f + 10))

/-- Shows the record of the rate in force (R447). -/
def State.showTrain (s : State) : State :=
  let r := s.fget F.HBMC_STATUS_RATE
  match s.hbm.records.find? (fun e => e.1 == r) with
  | none => s.wrN R.HBMC_TRAIN 0
  | some (_, t, n) => s.wrN R.HBMC_TRAIN (t * 2 ^ 16 + n * 2 ^ 8 + r)

/-- Enters a training phase: INIT and REPAIR run at 4.8 Gbit/s, TIMING and VERIFY at the rate wanted (R442, R444). -/
def State.enterPhase (s : State) (p : Nat) : State :=
  (((s.fput F.HBMC_STATUS_PHASE p).fput F.HBMC_STATUS_RATE (if p ≤ 2 then 1 else s.rateWanted)).hbmMod (fun h => { h with done := [] })).showTrain

/-- What a hold does once the requests in flight have completed: an accepted apply copies its masks and its scrub begins (R419); a change
of rate relocks the interface, with TIMING and VERIFY where the stored results of the new rate may not be reloaded (R443, R445). -/
def State.holdDrained (s : State) : State :=
  if !s.hbm.reqs.isEmpty then s
  else if s.hbm.hold = 1 then
    ((s.forEach (List.range 10) (fun u k => u.wr (R.HBMC_MAP k) (s.rd (R.HBMC_MAP_NEW k)))).hbmMod (fun h => { h with
      hold := 2, rows := [] })).showHeld
  else if s.hbm.hold = 4 then
    let reuse := s.reusable s.rateWanted
    let s1 := (s.hbmMod (fun h => { h with hold := 3, rows := [] })).fput F.HBMC_STATUS_REUSED (b2n reuse)
    if reuse then s1 else s1.enterPhase 3
  else s

/-- Holds every new request for the reason `k` until those in flight have completed: 1 a mapping change, 4 a change of rate (R419, R445). -/
def State.beginHold (s : State) (k : Nat) : State := (s.hbmMod (fun h => { h with hold := k })).showHeld.holdDrained

/-- MAP_APPLY: HBMC.CTRL.MAP_APPLY is written. The bit stays 1 until the change is applied, and writing it again meanwhile has no effect
(R418, R419, R448). DESIGN CHOICE (log 207): an apply during a change of rate is taken up at that change's end. -/
def execMapApply (s : State) : Host.Outcome State Fault Refusal :=
  .next (if s.fbit F.HBMC_CTRL_MAP_APPLY then s
    else if s.mode ≠ 1 ∨ !masksValid (maskSet (fun k => s.rdN (R.HBMC_MAP_NEW k))) then s.raise F.HBMC_EVENT_MAP_REFUSED
    else
      let s1 := s.fput F.HBMC_CTRL_MAP_APPLY 1
      if s.hbm.hold = 0 then s1.beginHold 1 else s1)

/-- Every unit of the Archive holds zero and is sound (R420, R441). -/
def State.zeroArchive (s : State) : State :=
  { s with mem := s.mem.filter (fun c => !(decide (archiveBase ≤ c.1) && decide (c.1 < archiveBase + archiveEnd))), poison := [] }

/-- Ends a hold and takes up what waited. -/
def State.releaseHold (s : State) : State := (s.hbmMod (fun h => { h with hold := 0 })).retryWaiting.showHeld

/-! ### Errors and completion -/

/-- Counts corrections of the unit at `off`: by the controller (1) or on the die (2) (R438). -/
def State.noteFix (s : State) (kind off : Nat) : State :=
  let n := s.pseudoOf off / 2
  if kind = 1 then (s.count (R.HBMC_CH_CE n)).raise (F.HBMC_CH_EVENT_CE n)
  else if kind = 2 then (s.count (R.HBMC_CH_ODECC n)).raise (F.HBMC_CH_EVENT_ODECC n)
  else s

/-- HBM_REQUEST_COMPLETE: the request in place `k` of the queues has its data or has been issued to the stack; `fault` is what its
unit showed: 0 nothing, 1 a correction of the controller, 2 one on the die, 3 an uncorrectable error. A request that its
pseudo-channel does not serve next does not complete (R29, R427, R429 to R433, R438, R439). -/
def execHbmRequestComplete (k : Nat) (fault : Fin 4) (s : State) : Host.Outcome State Fault Refusal :=
  .next (match s.hbm.reqs[k]? with
    | none => s
    | some r =>
      if !servedNext s.hbm.reqs k r then s
      else
        let s1 := ((s.hbmMod (fun h => { h with reqs := h.reqs.eraseIdx k })).openRow r).doIf (r.cls == 1 || !r.hint)
          (fun u => u.closeRow r.pc r.bank)
        let reads := !r.wr || r.data.any Option.isNone || decide (r.off % 32 ≠ 0) || decide (r.data.length % 32 ≠ 0)
        let s2 := if fault.val = 3 ∧ reads then s1.poisonUnit (r.off / 32)
          else s1.noteFix fault.val r.off
        let s3 := if r.wr then
            let p := s2.arcWrite r.cls r.off r.data
            p.1.emit (.response r.src r.tag (!p.2) [])
          else (s2.noteRead r.cls r.off r.data.length).emit
            (.response r.src r.tag (s2.arcPoisoned r.off r.data.length) (s2.arcBytes r.off r.data.length))
        s3.retryWaiting.holdDrained)

/-! ### Scrubbing -/

/-- Starts a patrol pass; SCRUB_NOW clears (R440). -/
def State.startPatrol (s : State) : State := ((s.hbmMod (fun h => { h with patrol := true })).fput F.HBMC_CTRL_SCRUB_NOW 0).showHeld

/-- SCRUB_PERIOD: the interval of HBMC.SCRUB_PERIOD has passed; 0 stops the patrol (R440). -/
def execScrubPeriod (s : State) : Host.Outcome State Fault Refusal :=
  .next (if s.rdN R.HBMC_SCRUB_PERIOD % 256 = 0 then s else s.startPatrol)

/-- SCRUB_NOW: HBMC.CTRL.SCRUB_NOW is written (R440). -/
def execScrubNow (s : State) : Host.Outcome State Fault Refusal := .next s.startPatrol

/-- SCRUB_DONE: the patrol pass ends, having corrected the units `fixed` and found the units `bad` uncorrectable, by unit number
(R438, R440). -/
def execScrubDone (fixed bad : List Nat) (s : State) : Host.Outcome State Fault Refusal :=
  .next (if !s.hbm.patrol then s
    else
      let inside := fun (u : Nat) => decide (32 * u < archiveEnd)
      let s1 := s.forEach (fixed.filter inside) (fun w u => (w.noteFix 1 (32 * u)).count R.HBMC_SCRUB_FIXED)
      let s2 := s1.forEach ((ascending (s.poison ++ bad)).filter inside) (fun w u =>
        (w.logArc 3 4 (32 * u)).doIf (!w.poison.contains u) (fun x => x.poisonUnit u))
      (((s2.hbmMod (fun h => { h with patrol := false })).count R.HBMC_SCRUB_PASSES).raise F.HBMC_EVENT_SCRUB_DONE).showHeld)

/-- Starts the initialising scrub of a cold start (R441). -/
def State.startInitScrub (s : State) : State := (s.hbmMod (fun h => { h with initScrub := true })).showHeld

/-! ### Temperature -/

/-- HBM_TEMPERATURE_READ: the stacks read `t0` and `t1` °C (R434, R437, R632). -/
def execHbmTemperatureRead (t0 t1 : Byte) (s : State) : Host.Outcome State Fault Refusal :=
  let hi := max t0.toNat t1.toNat
  let dbl := s.fbit F.HBMC_STATUS_REF_DOUBLE
  let dbl' := decide (85 < hi) || (dbl && decide (83 < hi))
  let hot := decide (95 ≤ hi)
  let s1 := (s.wrN R.HBMC_TEMP (t0.toNat + 256 * t1.toNat)).fput F.HBMC_STATUS_REF_DOUBLE (b2n dbl')
  let s2 := (s1.raiseIf (dbl != dbl') F.HBMC_EVENT_REF_DOUBLE).raiseIf (hot && !s.fbit F.HBMC_STATUS_HOT95) F.HBMC_EVENT_HOT95
  let floor := hot || (s.fbit F.POWER_STATUS_HOT_FLOOR && decide (90 < hi))
  .next (((s2.fput F.HBMC_STATUS_HOT95 (b2n hot)).fput F.POWER_STATUS_HOT_FLOOR (b2n floor)).applyStep)

/-! ### Training -/

/-- Starts training from INIT; with reuse it goes on to VERIFY alone (R442, R443). -/
def State.startTraining (s : State) : State :=
  let reuse := s.reusable s.rateWanted
  (((s.fput F.HBMC_STATUS_REUSED (b2n reuse)).wr64 R.HBMC_PC_FAIL_LO R.HBMC_PC_FAIL_HI 0).hbmMod (fun h => { h with
    rateReq := none, rows := [], acts := [], postponed := [] })).enterPhase 1

/-- Goes on to the phase after `p` once it has ended on every pseudo-channel (R442, R443, R446). -/
def State.nextPhase (s : State) (p : Nat) : State :=
  if p = 1 then s.enterPhase (if s.fbit F.HBMC_STATUS_REUSED then 4 else 2)
  else if p = 2 then s.enterPhase 3
  else if p = 3 then
    let t := max (s.fget F.HBMC_TEMP_STACK0) (s.fget F.HBMC_TEMP_STACK1)
    let n := ((s.hbm.records.find? (fun e => e.1 == 0)).map (fun e => e.2.2)).getD 0
    (s.hbmMod (fun h => { h with records := tinsert h.records s.rateWanted (t, n) })).enterPhase 4
  else if s.rd64 R.HBMC_PC_FAIL_LO R.HBMC_PC_FAIL_HI = 0 then
    ((s.fput F.HBMC_STATUS_PHASE 5).raise F.HBMC_EVENT_TRAIN_DONE).showTrain
  else s

/-- TRAINING_PHASE_DONE: the phase in progress ends on pseudo-channel `pc`: `pass` for VERIFY, `rfm` for the mode registers that
INIT reads, `moved` lanes moved to redundant ones by REPAIR. A rate requested meanwhile takes effect here (R436, R442 to R444,
R446). -/
def execTrainingPhaseDone (pc : Fin 64) (pass rfm : Bool) (moved : Byte) (s : State) : Host.Outcome State Fault Refusal :=
  let p := s.phase
  .next (if p = 0 ∨ 5 ≤ p ∨ s.hbm.done.contains pc.val then s
    else
      let s1 := s.hbmMod (fun h => { h with done := h.done ++ [pc.val] })
      let s2 := if p = 1 then s1.fput F.HBMC_STATUS_RFM_REQ (b2n (rfm || (s.fbit F.HBMC_STATUS_RFM_REQ && decide (s.hbm.done ≠ []))))
        else if p = 2 then
          let n := if s.hbm.done = [] then 0 else ((s.hbm.records.find? (fun e => e.1 == 0)).map (fun e => e.2.2)).getD 0
          s1.hbmMod (fun h => { h with records := tinsert h.records 0 (0, satN 8 (n + moved.toNat)) })
        else if p = 4 ∧ !pass then
          ((s1.setFlag (fun k => if k = 0 then R.HBMC_PC_FAIL_LO else R.HBMC_PC_FAIL_HI) pc.val true).raise F.HBMC_EVENT_TRAIN_FAIL).raise
            F.HBMC_EVENT_PC_FAIL
        else s1
      match s.hbm.rateReq with
      | some r =>
        let old := s.fget F.HBMC_STATUS_RATE
        let s3 := (s2.fput F.HBMC_RATE_RATE r).hbmMod (fun h => { h with rateReq := none })
        if 3 ≤ p ∧ s3.rateWanted ≠ old then
          ((s3.hbmMod (fun h => { h with records := terase h.records old })).wr64 R.HBMC_PC_FAIL_LO R.HBMC_PC_FAIL_HI 0).enterPhase 3
        else if s3.hbm.done.length = 64 then s3.nextPhase p else s3
      | none => if s2.hbm.done.length = 64 then s2.nextPhase p else s2)

/-- INITIALISING_SCRUB_DONE: the initialising scrub has written every unit (R419, R420, R441); a rate requested
meanwhile is taken up. -/
def execInitialisingScrubDone (s : State) : Host.Outcome State Fault Refusal :=
  .next (if s.hbm.hold = 2 then
      let s1 := ((s.zeroArchive.releaseHold.hbmMod (fun h => { h with rateReq := none })).fput F.HBMC_CTRL_MAP_APPLY 0).raise
        F.HBMC_EVENT_MAP_APPLIED
      if s.hbm.rateReq.isSome ∧ s.phase = 5 ∧ s.rateWanted ≠ s.fget F.HBMC_STATUS_RATE then s1.beginHold 4 else s1
    else if s.hbm.initScrub then (s.zeroArchive.hbmMod (fun h => { h with initScrub := false })).showHeld
    else s)

/-- RATE_CHANGE: HBMC.RATE is written. In training the rate waits for the end of the step in progress; during a mapping change it
waits for that to end; of two requests the later wins (R444, R445). -/
def execRateChange (v : Word) (s : State) : Host.Outcome State Fault Refusal :=
  let r := v.toNat % 4
  .next (if (1 ≤ s.phase ∧ s.phase ≤ 4) ∨ s.hbm.hold = 1 ∨ s.hbm.hold = 2 then
      (s.fput F.HBMC_RATE_RATE r).hbmMod (fun h => { h with rateReq := some r })
    else
      let s1 := s.fput F.HBMC_RATE_RATE r
      if s.phase ≠ 5 ∨ (s.hbm.hold = 0 ∧ s1.rateWanted = s.fget F.HBMC_STATUS_RATE) then s1 else s1.beginHold 4)

/-- RATE_CHANGED: the interface has relocked and any training has ended; held requests are released, and an apply that waited is taken up
(R419, R445). -/
def execRateChanged (s : State) : Host.Outcome State Fault Refusal :=
  .next (if s.hbm.hold ≠ 3 ∨ !s.hbm.reqs.isEmpty ∨ s.phase ≠ 5 then s
    else
      let s1 := ((s.fput F.HBMC_STATUS_RATE s.rateWanted).showTrain.raise F.HBMC_EVENT_RATE_CHANGED).releaseHold.hbmMod (fun h => { h with
        rateReq := none })
      if s.fbit F.HBMC_CTRL_MAP_APPLY then s1.beginHold 1 else s1)

end Sys2Proof.Machine
end

