-- ==== Sys2Proof/Machine/Verify.lean ====
section
/-!
DEFINITION. Machine/Verify.lean: Catalogue verification (R347, R348): each check gives the code, the section and the image offset
of what it rejects.
-/
namespace Sys2Proof.Machine

/-- What a check rejects: the code of R347, the section index (0xFFFF for header and table), the image byte offset. -/
abbrev Fail := Nat × Nat × Nat

/-- The section index that stands for the header and the table (R347). -/
def hdrSect : Nat := 0xFFFF

/-- Rejects where `bad` holds. -/
def chk (bad : Bool) (code sec off : Nat) : Option Fail := if bad then some (code, sec, off) else none

/-- The first of a list of checks that fails. -/
def firstOf : List (Option Fail) → Option Fail
  | [] => none
  | some f :: _ => some f
  | none :: rest => firstOf rest

/-- Whether the `n` bytes at `j` are the complement of those at `i` (R335). -/
def cplOk (b : List Byte) (i j n : Nat) : Bool := imgN b i n + imgN b j n == 2 ^ (8 * n) - 1

/-! ### Checks of the image as a whole -/

/-- The section types of R336. -/
def sectTypes : List Nat := [1, 2, 3, 4, 5, 6, 7, 8, 0x7F]

/-- The fixed length of a section type (R336). -/
def fixedLen (t : Nat) : Option Nat :=
  if t = 1 then some 64 else if t = 2 then some 48 else if t = 6 then some 64 else if t = 7 then some 16
  else if t = 8 then some 32 else none

/-- The pairs of R335 in a section type: byte, byte of the complement, length. -/
def cplPairs (t : Nat) : List (Nat × Nat × Nat) :=
  if t = 1 then [(0, 2, 2), (4, 6, 2), (8, 10, 2), (16, 20, 4), (24, 26, 2), (28, 30, 2)]
  else if t = 2 then [(0, 16, 8), (8, 24, 4)]
  else if t = 8 then [(0, 4, 4), (8, 12, 4)]
  else []

/-- One code image of a CLOVE section (R342). -/
structure CloveImg where
  engines : Nat
  entry : Nat
  load : Nat
  code : List Byte

/-- Reads `n` code images from byte `k` on, each with the byte at which it begins, and the byte after the last (R342). -/
def cloveImgs (b : List Byte) : Nat → Nat → List (CloveImg × Nat) × Nat
  | 0, k => ([], k)
  | n + 1, k =>
    let len := imgN b (k + 12) 4
    let r := cloveImgs b n (ceilDiv (k + 16 + len) 16 * 16)
    ((⟨imgN b k 2, imgN b (k + 4) 4, imgN b (k + 8) 4, (b.drop (k + 16)).take len⟩, k) :: r.1, r.2)

/-- The code images of a CLOVE section. -/
def cloveOf (b : List Byte) : List CloveImg := (cloveImgs b (min 256 (imgN b 0 4)) 16).1.map Prod.fst

/-- The bytes that a CLOVE section leaves zero: first byte and count (R342). -/
def cloveZeros (b : List Byte) : List (Nat × Nat) :=
  (4, 12) :: (cloveImgs b (min 256 (imgN b 0 4)) 16).1.flatMap (fun i =>
    let stop := i.2 + 16 + imgN b (i.2 + 12) 4
    [(i.2 + 2, 2), (stop, ceilDiv stop 16 * 16 - stop)])

/-- The bytes that a section of type `t` with bytes `b` leaves zero: first byte and count (R337 to R345). -/
def zeroBytes (t : Nat) (b : List Byte) : List (Nat × Nat) :=
  if t = 1 then [(15, 1), (32, 32)]
  else if t = 2 then [(12, 4), (28, 4)]
  else if t = 4 then planZeros b
  else if t = 5 then cloveZeros b
  else if t = 6 then (4, 4) :: (40, 24) :: (List.range 8).map (fun k => (9 + 4 * k, 1))
  else if t = 7 then [(2, 2), (8, 8)]
  else if t = 8 then [(20, 12)]
  else []

/-- Whether any of `n` bytes from `k` is not zero. -/
def nonZero (img : List Byte) (k n : Nat) : Bool := ((img.drop k).take n).any (fun b => b != 0#8)

/-- Checks 0x01 and 0x02: magic and format (R330). -/
def chkMagic (img : List Byte) : Option Fail :=
  firstOf [chk (imgN img 0 4 != 0x4C544143) 1 hdrSect 0, chk (imgN img 6 2 != 64) 1 hdrSect 6]

/-- Check 0x02: format and flags (R330). -/
def chkFormat (img : List Byte) : Option Fail :=
  firstOf [chk (imgN img 5 1 != 1) 2 hdrSect 5, chk (imgN img 4 1 != 0) 2 hdrSect 4, chk (decide (4 ≤ imgN img 56 4)) 2 hdrSect 56]

/-- Check 0x03: length (R329). -/
def chkLength (img : List Byte) : Option Fail :=
  let n := imgN img 8 4
  chk (n % 16 != 0 || decide (8388608 < n) || n != img.length || decide (n < 64)) 3 hdrSect 8

/-- Check 0x04: image CRC (R331). -/
def chkCrc (img : List Byte) : Option Fail := chk (imgCrc img != imgN img 16 4) 4 hdrSect 16

/-- Check 0x05: table CRC. -/
def chkTable (img : List Byte) : Option Fail :=
  let e := sectAt (sectCount img)
  firstOf [chk (decide (img.length < e)) 5 hdrSect 12,
    chk ((crc32c ((img.drop 64).take (e - 64))).toNat != imgN img 20 4) 5 hdrSect 20]

/-- Check 0x06: section CRCs. -/
def chkSections (img : List Byte) : Option Fail :=
  (sects img).findSome? (fun x => firstOf [chk (decide (img.length < x.off + x.len)) 6 x.idx (sectAt x.idx + 12),
    chk ((crc32c (x.body img)).toNat != x.crc) 6 x.idx x.off])

/-- Check 0x07: complements (R335). -/
def chkCpl (img : List Byte) : Option Fail :=
  (sects img).findSome? (fun x =>
    let e := sectAt x.idx
    let b := x.body img
    firstOf (chk (!cplOk img (e + 4) (e + 8) 2) 7 x.idx (e + 4) :: chk (!cplOk img (e + 6) (e + 10) 2) 7 x.idx (e + 6)
      :: (cplPairs x.typ).map (fun p => chk (decide (p.2.1 + p.2.2 ≤ b.length) && !cplOk b p.1 p.2.1 p.2.2) 7 x.idx (x.off + p.1))))

/-- Bytes outside the header, the table and the sections, as (from, count), given the sections in order of their offsets
(R329). -/
def gapsOf (n : Nat) : Nat → List Sect → List (Nat × Nat)
  | at', [] => [(at', n - at')]
  | at', x :: rest => (at', x.off - at') :: gapsOf n (max at' (x.off + x.len)) rest

/-- The part of check 0x08 that concerns the header, the table and the placement of the sections (R329, R330, R332). -/
def chkPlacing (img : List Byte) : Option Fail :=
  let tend := sectAt (sectCount img)
  let ord := sortBy (fun (x y : Sect) => decide (x.off < y.off)) (sects img)
  let one := fun (x : Sect) =>
    let e := sectAt x.idx
    firstOf [chk (x.sver != 1) 8 x.idx (e + 1), chk (imgN img (e + 2) 2 != 0) 8 x.idx (e + 2),
      chk (decide (x.last < x.first) || decide (1023 < x.last)) 8 x.idx (e + 4), chk (nonZero img (e + 24) 8) 8 x.idx (e + 24),
      chk (x.off % 16 != 0 || decide (x.off < tend) || decide (img.length < x.off + x.len)) 8 x.idx (e + 12),
      chk (x.len == 0) 8 x.idx (e + 16)]
  firstOf [chk (sectCount img == 0 || decide (4096 < sectCount img)) 8 hdrSect 12, chk (imgN img 14 2 != 0) 8 hdrSect 14,
    (sects img).findSome? one,
    (ord.zip (ord.drop 1)).findSome? (fun p => chk (decide (p.2.off < p.1.off + p.1.len)) 8 p.2.idx (sectAt p.2.idx + 12)),
    (gapsOf img.length tend ord).findSome? (fun g => chk (nonZero img g.1 g.2) 8 hdrSect g.1)]

/-- The part of check 0x08 that concerns the lengths of sections and the bytes that they leave zero (R336 to R345). -/
def chkForm (img : List Byte) : Option Fail :=
  (sects img).findSome? (fun x => firstOf (
    chk ((fixedLen x.typ).any (fun n => n != x.len) || (x.typ == 3 && x.len % 8 != 0) || (x.typ == 0x7F && x.len % 16 != 0)) 8 x.idx
        (sectAt x.idx + 16)
      :: (zeroBytes x.typ (x.body img)).map (fun z => chk (nonZero img (x.off + z.1) (min z.2 (x.len - z.1))) 8 x.idx (x.off + z.1))))

/-- Check 0x08: layout (R329, R330, R332, R336 to R345). -/
def chkLayout (img : List Byte) : Option Fail := chkPlacing img <|> chkForm img

/-- Check 0x09: section types (R336). -/
def chkTypes (img : List Byte) : Option Fail :=
  (sects img).findSome? (fun x => chk (!sectTypes.contains x.typ) 9 x.idx (sectAt x.idx))

/-- Check 0x12: the digest (R331). -/
def chkDigest (img : List Byte) : Option Fail := chk (imgDigest img != (img.drop 24).take 32) 0x12 hdrSect 24

/-- Whether an image's header, table and section placement can be read (R354). -/
def imgReadable (img : List Byte) : Bool :=
  (chkMagic img <|> chkLength img <|> chkTable img <|> chkSections img <|> chkPlacing img).isNone

/-! ### Checks of what applies to this device -/

/-- Index and offset of the section of a type that applies to address `a`; the table where there is none. -/
def secLoc (img : List Byte) (a typ off : Nat) : Nat × Nat :=
  match (sectsFor img a typ).head? with
  | some x => (x.idx, x.off + off)
  | none => (hdrSect, 64)

/-- Rejects at byte `off` of the section of type `typ`. -/
def chkAt (bad : Bool) (code : Nat) (l : Nat × Nat) : Option Fail := chk bad code l.1 l.2

/-- The place of the value of a register in the REGS section, or of the field that carries it. -/
def regLoc (img : List Byte) (a r : Nat) : Nat × Nat :=
  match carried r with
  | some (t, o, _, _) => secLoc img a t o
  | none =>
    let es := regsEntries ((sectOpt img a 3).getD [])
    match findIdxFrom (fun (e : Nat × Nat) => e.1 == r) 0 es with
    | some k => secLoc img a 3 (8 * k + 4)
    | none => secLoc img a 3 0

/-- Check 0x0A: presence (R334). -/
def chkPresence (img : List Byte) (a : Nat) : Option Fail :=
  let mode := imgN (sectBytes img a 1) 0 2
  firstOf ((sectTypes.filter (· != 0x7F)).map (fun t =>
      match (sectsFor img a t).drop 1 with
      | x :: _ => some (0x0A, x.idx, sectAt x.idx)
      | [] => none)
    ++ [1, 2, 8].map (fun t => chk (sectsFor img a t).isEmpty 0x0A hdrSect 64)
    ++ [chk (decide (2 ≤ mode) && decide (mode ≤ 5) && (sectsFor img a 4).isEmpty) 0x0A hdrSect 64])

/-- Check 0x0B: the REGS entries (R340). -/
def chkRegs (img : List Byte) (a : Nat) : Option Fail :=
  let es := regsEntries ((sectOpt img a 3).getD [])
  let one := fun (p : (Nat × Nat) × Nat) =>
    let l := secLoc img a 3 (8 * p.2)
    let prev := if p.2 = 0 then 0 else (es.getD (p.2 - 1) (0, 0)).1 + 1
    let store := match regRow p.1.1 with
      | some r => if r.acc = Acc.rwa then some r.store else none
      | none => none
    firstOf [chkAt (decide (p.1.1 < prev)) 0x0B l, chkAt (store.isNone || (carried p.1.1).isSome) 0x0B l,
      chkAt ((BitVec.ofNat 32 p.1.2 &&& ~~~(store.getD 0)) != 0#32) 0x0B (l.1, l.2 + 4)]
  es.zipIdx.findSome? one

/-- Check 0x0C: geometry and time (R38, R148, R162, R188, R201, R338). -/
def chkGeometry (img : List Byte) (a : Nat) : Option Fail :=
  let g := sectBytes img a 1
  let tb := sectBytes img a 2
  let at' := fun (o : Nat) => secLoc img a 1 o
  let mode := imgN g 0 2
  let n := imgN g 4 2
  let k := imgN g 8 2
  let width := imgN g 12 1
  let shape := imgN g 13 1
  let w := imgN g 16 4
  let t := imgN g 24 2
  let num := imgN tb 32 8
  let den := imgN tb 40 8
  let hold := [chkAt (n != 0) 0x0C (at' 4), chkAt (k != 0) 0x0C (at' 8), chkAt (shape != 0) 0x0C (at' 13), chkAt (w != 0) 0x0C (at' 16),
    chkAt (t != 0) 0x0C (at' 24)]
  let work := [chkAt (decide (2 < shape) || (mode == 3) != (shape == 0)) 0x0C (at' 13),
    chkAt (n % 32 != 0 || decide (n < 32) || decide (4096 < n) || (shape == 2 && n % 64 != 0)) 0x0C (at' 4),
    chkAt (decide (k < 1) || decide (4096 < k)) 0x0C (at' 8), chkAt (decide (t < 16) || decide (1024 < t)) 0x0C (at' 24),
    chkAt (w == 0 || w % 128 != 0 || w % t != 0 || decide (65536 < w) || decide (4096 < w / t)) 0x0C (at' 16)]
  firstOf ([chkAt (decide (mode < 1) || decide (5 < mode)) 0x0C (at' 0), chkAt (width != 4 && width != 8) 0x0C (at' 12),
      chkAt (decide (1 < imgN g 14 1)) 0x0C (at' 14)]
    ++ (if mode = 1 then hold else work)
    ++ [chkAt (den == 0) 0x0C (secLoc img a 2 40),
        chkAt (decide (num < 4 * den) || decide (1000000000 * den < num)) 0x0C (secLoc img a 2 32)])

/-- Whether logical tile `t` is MISSING under a plan (R226). -/
def State.missingUnder (s : State) (resident : Bool) (t : Nat) : Bool :=
  match s.physOf t with
  | none => true
  | some p => s.fget (F.ARRAY_PMAP_STATE p) == 5 && !resident

/-- The list entries that list position `j` takes part of in round `u` (R195). -/
def WingPlan.touched (w : WingPlan) (t u j : Nat) : List Nat :=
  let lo := w.cut t u j
  let hi := w.cut t u (j + 1)
  if hi ≤ lo then [] else (List.range ((hi - 1) / t + 1 - lo / t)).map (fun d => lo / t + d)

/-- Whether the cut of a wing list breaks the limits of R201: groups in a run, and entries at home. -/
def wingCutBad (v : State) (w : WingPlan) : Bool :=
  let t := v.passLen
  let n := w.tiles.length
  let gmax := (if v.fbit F.ACCUM_CFG_EXACT_WT then 2048 else 2560) / (t * v.sampleBytes)
  let groups := fun (e : Nat) => [(groupsOf v (w.blocks.getD e 0)).1, (groupsOf v (w.blocks.getD e 0)).2]
  let homes := (List.range w.blocks.length).map (fun e => w.home t e)
  (List.range (min n (v.nChan * v.rpd))).any (fun u => (List.range n).any (fun j =>
      decide (gmax < ((w.touched t u j).flatMap groups).dedup.length)))
    || (List.range n).any (fun j => decide ((if v.w8 then 4 else 8) < (homes.filter (· == j)).length))

/-- Whether ACCUM.BLOCKS names a range that R283 rejects, in any mode. -/
def rangeBad (v : State) : Bool :=
  decide (shapeBlocks v < blkFirst v + blkCount v) || decide ((if v.w8 then 1536 else 3072) < blkCount v)

/-- Whether a plan breaks R186, R201, R216 or R283 under the registers of `v`. -/
def planBad (s v : State) (p : Plan) : Bool :=
  let resident := v.fbit F.ARRAY_GEOM_RESIDENT
  let miss := fun (t : Nat) => decide (t < 384) && s.missingUnder resident t
  let mode := v.mode
  let rs := p.roles
  let blocks := p.wings.flatMap WingPlan.blocks
  let tiles := p.wings.flatMap WingPlan.tiles
  let f := blkFirst v
  let c := blkCount v
  let roles := (mode == 1 && (rs.any (· != 0) || !blocks.isEmpty || !tiles.isEmpty || !p.recs.isEmpty))
    || (mode == 2 && ((List.range 400).any (fun t => let r := rs.getD t 0
          if t < 384 then r == 2 || (r == 0 && !miss t) else r != 0)))
    || (mode == 3 && rs.any (· == 1))
    || ((rs.drop 384).any (· == 1))
  let lists := tiles.dedup.length != tiles.length || blocks.dedup.length != blocks.length
    || p.wings.zipIdx.any (fun x => x.1.tiles.any (fun t => decide (384 ≤ t) || t / 96 != x.2 || rs.getD t 0 != 1)
        || (x.1.tiles.isEmpty && !x.1.blocks.isEmpty))
  let range := blocks.length != c || blocks.any (fun b => decide (b < f) || decide (f + c ≤ b))
  let work := p.wings.any (fun w => (if resident then w.tiles.take w.blocks.length else if w.blocks.isEmpty then [] else w.tiles).any miss)
    || p.recs.any (fun r => miss r.tile)
  let cut := if resident then v.w8 || p.wings.any (fun w => decide (w.tiles.length < w.blocks.length))
    else p.wings.any (fun w => !w.blocks.isEmpty && wingCutBad v w)
  roles || lists || range || (mode == 3 && !blocks.isEmpty) || work || (mode != 1 && cut)

/-- Check 0x0D: the plan (R186, R201, R216, R283, R341). -/
def chkPlan (s v : State) (img : List Byte) (a : Nat) : Option Fail :=
  chkAt (rangeBad v) 0x0D (regLoc img a R.ACCUM_BLOCKS) <|> match sectOpt img a 4 with
  | none => none
  | some b => chkAt (!planFormOk b || planBad s v (planOf b)) 0x0D (secLoc img a 4 0)

/-- The core clock period in sixths of a nanosecond (R12). -/
def State.cyc6 (s : State) : Nat := if s.rdN R.DEVICE_BIN % 256 = 0x0C then 5 else 4

/-- Check 0x0E: the beams (R290, R316, R320). -/
def chkBeams (s v : State) (img : List Byte) (a : Nat) : Option Fail :=
  let p := planOf ((sectOpt img a 4).getD [])
  let at' := secLoc img a 4 0
  let sets := List.range 32
  let on := sets.filter (fun n => v.setEnabled n)
  let nv := beamCount v R.BEAM_SET_VOLT
  let nd := beamCount v R.BEAM_SET_DET
  let ns := beamCount v R.BEAM_SET_SRCH
  let dt := v.fget F.BEAM_DCFG_DT
  let z := if v.w8 then 4 else 1
  let slotsOn := fun (t : Nat) => ((p.recs.filter (fun r => r.tile == t && on.contains r.set)).map BeamRec.count).sum
  let cover := fun (n : Nat) => (p.recs.filter (fun r => r.set == n)).flatMap BeamRec.slots
  firstOf [chkAt (decide (128 < nv)) 0x0E (regLoc img a (R.BEAM_SET_VOLT 0)),
    sets.findSome? (fun n => chkAt ((v.rd (R.BEAM_SET_SRCH n) &&& ~~~(v.rd (R.BEAM_SET_DET n))) != 0#32) 0x0E (regLoc img a (R.BEAM_SET_SRCH n))),
    chkAt (decide (0 < v.fget F.ARRAY_ROLES_BEAM) && decide (2048 < v.nIn)) 0x0E (secLoc img a 1 4),
    chkAt (p.recs.any (fun r => decide (400 ≤ r.tile) || decide (32 ≤ r.set) || p.roles.getD r.tile 0 != 2)) 0x0E at',
    chkAt (p.recs.any (fun r => p.recs.any (fun q => q.tile == r.tile && q.set != r.set))) 0x0E at',
    chkAt (on.any (fun n => (cover n).any (fun c => decide (v.nChan ≤ c)))) 0x0E at',
    chkAt (on.any (fun n => (List.range v.nChan).any (fun c => ((cover n).filter (· == c)).length != 1))) 0x0E at',
    chkAt ((p.recs.map BeamRec.tile).any (fun t => decide (128 * v.siNum * 6 < slotsOn t * (v.nIn / 32) * 128 * z * v.siDen * s.cyc6))) 0x0E at',
    chkAt (decide (2 ^ dt * 128 * v.siNum * 6 < (2 ^ dt * 2 * nv + 4 * nd) * v.nChan * v.siDen * s.cyc6)) 0x0E (regLoc img a R.BEAM_DCFG),
    chkAt (decide (0 < nv) && v.fget F.BEAM_ROUTE_VSTREAM == 0) 0x0E (regLoc img a R.BEAM_ROUTE),
    chkAt (v.fbit F.BEAM_SEARCH_EN && decide (32768 * 2 ^ dt < ns * 128)) 0x0E (regLoc img a R.BEAM_DCFG),
    chkAt (v.fbit F.BEAM_SEARCH_EN && v.candPeriod % 2 ^ (dt + v.levels - 1) != 0) 0x0E (regLoc img a R.BEAM_CAND)]

/-- Check 0x0F: accumulation (R244, R254, R264, R266, R267, R288). -/
def chkAccum (v : State) (img : List Byte) (a : Nat) : Option Fail :=
  let iw := v.rdN R.ACCUM_INT_WINDOWS % 2 ^ 16
  let op := v.fget F.ACCUM_TENSOR_CFG_OP
  let outer := v.fbit F.ACCUM_TENSOR_CFG_OUTER
  let fmt := v.fget F.ACCUM_CFG_VALUE_FMT
  let exact := v.fbit F.ACCUM_CFG_EXACT_WT
  let page := v.fget F.ACCUM_TENSOR_CFG_PAGE
  let size := 8 * v.nChan * (if outer then v.nIn else entriesPerChan v)
  let inside := fun (r : Nat) => v.fbit (F.HBMC_REGION_W0_EN r) && decide (v.regionBase r ≤ tensorBase v)
    && decide (tensorBase v + size ≤ v.regionBase r + v.fget (F.HBMC_REGION_W1_SIZE r) * regionUnit)
  let work := [chkAt (fmt == 3) 0x0F (regLoc img a R.ACCUM_CFG), chkAt (exact && (v.w8 || decide (32768 < v.dwell))) 0x0F (regLoc img a R.ACCUM_CFG),
    chkAt ((fmt == 0 && v.w8) || (fmt == 1 && !v.w8) || (fmt != 2 && op != 0)) 0x0F (regLoc img a R.ACCUM_CFG),
    chkAt (decide (iw * v.dwell * v.siNum * 64 < folioLen v v.missingCount * v.siDen)) 0x0F (secLoc img a 1 28)]
  firstOf ([chkAt (iw == 0) 0x0F (secLoc img a 1 28), chkAt (op == 3 || (op == 2 && outer)) 0x0F (regLoc img a R.ACCUM_TENSOR_CFG),
      chkAt (op != 0 && !((List.range 12).any (fun k => inside (k + 4)))) 0x0F (regLoc img a (R.ACCUM_TENSOR_BASE_LO page))]
    ++ (if v.corrRole then work else []))

/-! ### Clove code -/

/-- The memories of a Clove engine: P, X, Y, C (R564). -/
def cloveMems : List (Nat × Nat) := [(0, 0x10000), (0x10000, 0x30000), (0x30000, 0x50000), (0x50000, 0x60000)]

/-- Whether a code image loads engine `e`. -/
def CloveImg.names (i : CloveImg) (e : Nat) : Bool := bitOf i.engines e

/-- Whether a CLOVE section breaks R571. -/
def cloveBad (b : List Byte) : Bool :=
  let n := imgN b 0 4
  let r := cloveImgs b (min 256 n) 16
  let is := r.1.map Prod.fst
  let len := fun (i : CloveImg) => i.code.length
  let one := fun (i : CloveImg) => i.engines == 0 || i.load % 4 != 0 || len i % 4 != 0 || len i == 0
    || !(cloveMems.any (fun m => decide (m.1 ≤ i.load) && decide (i.load + len i ≤ m.2)))
    || (i.entry != 0xFFFFFFFF && (i.entry % 4 != 0 || decide (0x10000 ≤ i.load) || decide (i.entry < i.load) || decide (i.load + len i ≤ i.entry)))
  let engine := fun (e : Nat) =>
    let mine := is.zipIdx.filter (fun x => x.1.names e)
    !mine.isEmpty && ((mine.filter (fun x => x.1.entry != 0xFFFFFFFF)).length != 1
      || mine.any (fun x => mine.any (fun y => decide (x.2 < y.2) && decide (x.1.load < y.1.load + len y.1)
          && decide (y.1.load < x.1.load + len x.1))))
  decide (n < 1) || decide (256 < n) || r.2 != b.length || is.any one || (List.range 16).any engine

/-- Check 0x10: Clove code. -/
def chkClove (img : List Byte) (a : Nat) : Option Fail :=
  match sectOpt img a 5 with
  | none => none
  | some b => chkAt (cloveBad b) 0x10 (secLoc img a 5 0)

/-- Check 0x11: power, chain, control (R343 to R345). -/
def chkPolicy (img : List Byte) (a : Nat) : Option Fail :=
  let p := sectBytes img a 6
  let c := sectBytes img a 7
  let l := imgN (sectBytes img a 8) 0 4
  firstOf [chkAt (decide (2 < imgN p 0 1)) 0x11 (secLoc img a 6 0),
    (List.range 8).findSome? (fun k => chkAt (decide (4 < imgN p (8 + 4 * k) 1)) 0x11 (secLoc img a 6 (8 + 4 * k))),
    chkAt (decide (2 < imgN c 0 1)) 0x11 (secLoc img a 7 0), chkAt (decide (3 < imgN c 1 1)) 0x11 (secLoc img a 7 1),
    chkAt (decide (l < 100) || decide (100000 < l)) 0x11 (secLoc img a 8 0)]

/-- Check 0x13: ingest (R22, R148, R172). -/
def chkIngest (v : State) (img : List Byte) (a : Nat) : Option Fail :=
  let skew := max 100 (v.rdN R.INGEST_SKEW % 2 ^ 16)
  let maps := (List.range 256).filter (fun e => v.fbit (F.INGEST_MAP_W1_EN e))
  let chans := (List.range 64).filter (fun r => v.fbit (F.INGEST_CHAN_W1_EN r))
  let cnt := fun (e : Nat) => v.fget (F.INGEST_MAP_W1_GROUP_COUNT e)
  let inp := fun (e : Nat) => v.fget (F.INGEST_MAP_W1_INPUT_FIRST e)
  let gf := fun (e : Nat) => v.fget (F.INGEST_MAP_W0_GROUP_FIRST e)
  let st := fun (e : Nat) => v.fget (F.INGEST_MAP_W0_STREAM e)
  let meet := fun (a n b m : Nat) => decide (a < b + m) && decide (b < a + n)
  let wf := fun (r : Nat) => v.fget (F.INGEST_CHAN_W0_WIRE_FIRST r)
  let cc := fun (r : Nat) => v.fget (F.INGEST_CHAN_W1_COUNT r)
  let sf := fun (r : Nat) => v.fget (F.INGEST_CHAN_W1_SLOT_FIRST r)
  let covered := (chans.map cc).sum
  firstOf [chkAt (decide (12 * 2 ^ 20 * v.siNum < skew * v.nIn * v.nChan * v.sampleBytes * v.siDen)) 0x13 (regLoc img a R.INGEST_SKEW),
    maps.findSome? (fun e => chkAt (cnt e == 0 || decide (256 < cnt e) || inp e % 16 != 0 || decide (v.nIn < inp e + 16 * cnt e)
      || v.fbit (F.INGEST_MAP_W1_W8 e) != v.w8
      || maps.any (fun d => decide (d < e) && (meet (inp d) (16 * cnt d) (inp e) (16 * cnt e)
          || (st d == st e && meet (gf d) (cnt d) (gf e) (cnt e))))) 0x13 (regLoc img a (R.INGEST_MAP_W1 e))),
    chans.findSome? (fun r => chkAt (cc r == 0 || decide (v.nChan < sf r + cc r)
      || chans.any (fun q => decide (q < r) && (meet (wf q) (cc q) (wf r) (cc r) || meet (sf q) (cc q) (sf r) (cc r)))) 0x13
        (regLoc img a (R.INGEST_CHAN_W1 r))),
    chkAt (covered != v.nChan) 0x13 (secLoc img a 3 0)]

/-- Verification of an image at address `a`, in the order of R347: the first check that fails (R347, R348). -/
def State.verify (s : State) (img : List Byte) (a : Nat) : Option Fail :=
  chkMagic img <|> chkFormat img <|> chkLength img <|> chkCrc img <|> chkTable img <|> chkSections img <|> chkCpl img <|> chkLayout img
    <|> chkTypes img <|> chkPresence img a <|> chkRegs img a <|> chkGeometry img a
    <|> (let v := s.catView img a
         chkPlan s v img a <|> chkBeams s v img a <|> chkAccum v img a <|> chkClove img a <|> chkPolicy img a <|> chkDigest img
           <|> chkIngest v img a)

end Sys2Proof.Machine
end

