-- ==== Sys2Proof/Machine/Store.lean ====
section
/-!
DEFINITION. Machine/Store.lean: the configuration store: its layout, its boot block, and the writes to it (R355, R610 to R612,
R639, R660).
-/
namespace Sys2Proof.Machine

/-! ### Reading -/

/-- `n` bytes of the store from offset `k`; an erased byte reads 0xFF. -/
def State.storeBytes (s : State) (k n : Nat) : List Byte := (List.range n).map (fun j => tget 0xFF#8 s.cat.store (k + j))

/-- Store offset of Catalogue slot `k` (R610). -/
def catSlotAt (k : Nat) : Nat := 0x2100000 + k * 0x800000

/-- Store offset of firmware slot `k` (R610). -/
def fwSlotAt (k : Nat) : Nat := 0x100000 + k * 0x1000000

/-- The fields of a boot block (R611). -/
structure BootBlk where
  seq : Nat := 0
  catSlot : Nat := 0
  fwFirst : Nat := 0
  records : Nat := 0
  refWait : Nat := 30
  hostWait : Nat := 60
  power : List Byte := List.replicate 256 0#8

/-- The fields that 4,096 bytes hold, where MAGIC, complement and CRC match (R611). -/
def bootOf (b : List Byte) : Option BootBlk :=
  if b.length = 4096 ∧ imgN b 0 4 = 0x544F4F42 ∧ imgN b 8 1 + imgN b 9 1 = 255 ∧ imgN b 4092 4 = (crc32c (b.take 4092)).toNat then
    some ⟨imgN b 4 4, imgN b 8 1, imgN b 10 1, imgN b 11 1, imgN b 12 4, imgN b 16 4, (b.drop 64).take 256⟩
  else none

/-- Copy `k` of the boot block, where it is valid. -/
def State.bootCopy (s : State) (k : Nat) : Option BootBlk := bootOf (s.storeBytes (0x1000 * k) 4096)

/-- The latest valid copy: its number and fields (R611). -/
def State.bootLatest (s : State) : Option (Nat × BootBlk) :=
  match s.bootCopy 0, s.bootCopy 1 with
  | some x, some y => if x.seq < y.seq then some (1, y) else some (0, x)
  | some x, none => some (0, x)
  | none, some y => some (1, y)
  | none, none => none

/-- The boot block in use: the latest valid copy, or the values of R611 where none is valid. -/
def State.bootBlk (s : State) : BootBlk := (s.bootLatest.map Prod.snd).getD {}

/-! ### Writing -/

/-- The 4,096 bytes of a boot block (R611). -/
def layBoot (x : BootBlk) : List Byte :=
  let b := leBytes 4 0x544F4F42 ++ leBytes 4 x.seq ++ leBytes 1 x.catSlot ++ leBytes 1 (255 - x.catSlot) ++ leBytes 1 x.fwFirst
    ++ leBytes 1 x.records ++ leBytes 4 x.refWait ++ leBytes 4 x.hostWait ++ List.replicate 44 0#8 ++ x.power.take 256
    ++ List.replicate 3772 0#8
  b ++ leBytes 4 (crc32c b).toNat

/-- Begins a store write (R355). -/
def State.startStore (s : State) (off kind : Nat) (bytes : List Byte) : State :=
  { s with cat := { s.cat with storing := some { off := off, bytes := bytes, kind := kind } } }.fput F.CAT_STATUS_STORE_BUSY 1

/-- Whether a store write may not begin: one is in progress, or the temperature rule forbids it (R355, R639). -/
def State.storeBlocked (s : State) : Bool := s.cat.storing.isSome || !s.fbit F.POWER_STATUS_PROG_OK

/-- Raises PROG_REFUSED where the temperature rule refuses a store write or a fuse program (R639). -/
def State.noteProg (s : State) : State := s.raiseIf (!s.fbit F.POWER_STATUS_PROG_OK) F.POWER_EVENT_PROG_REFUSED

/-- Begins writing the boot block with some fields changed, to the copy that does not hold the latest valid block (R612). -/
def State.startBoot (s : State) (kind : Nat) (f : BootBlk → BootBlk) : State :=
  let copy := match s.bootLatest with
    | some (0, _) => 1
    | _ => 0
  let x := s.bootBlk
  s.startStore (0x1000 * copy) kind (layBoot (f { x with seq := (x.seq + 1) % 2 ^ 32 }))

/-- Shows the slot that the boot record names (R374). -/
def State.showBootSlot (s : State) : State := s.fput F.CAT_BOOT_BOOT_SLOT s.bootBlk.catSlot

/-- Puts bytes into the store. -/
def State.storePut (s : State) : Nat → List Byte → State
  | _, [] => s
  | k, b :: rest => State.storePut { s with cat := { s.cat with store := tset 0xFF#8 s.cat.store k b } } (k + 1) rest

/-- Ends the store write in progress: what the read-back finds stands in the store; gives the state and whether it matches what
was to be written (R355). -/
def State.endStore (s : State) (w : StoreWrite) (readBack : List Byte) : State × Bool :=
  let got := readBack.take w.bytes.length
  let s1 := ({ s with cat := { s.cat with storing := none } }.storePut w.off got).fput F.CAT_STATUS_STORE_BUSY 0
  (s1.showBootSlot, got == w.bytes && !w.stopped)

end Sys2Proof.Machine
end

