-- ==== Sys2Proof/Machine/Catalogue.lean ====
section
/-!
DEFINITION. Machine/Catalogue.lean: the shadow slot, the store commands, and the scheduling of an accession (R352 to R361, R601).
-/
namespace Sys2Proof.Machine

/-- Changes the Catalogue slots beside their registers. -/
def State.catMod (s : State) (f : CatSt → CatSt) : State := { s with cat := f s.cat }

/-- CAT.STATUS.SHADOW: 0 EMPTY, 1 LOADING, 2 LOADED, 3 VERIFYING, 4 VERIFIED, 5 SCHEDULED, 6 GAP (R372). -/
def State.shadowSt (s : State) : Nat := s.fget F.CAT_STATUS_SHADOW

/-- Moves the shadow to a state; EMPTY drops its image (R352). -/
def State.setShadow (s : State) (n : Nat) : State :=
  (s.fput F.CAT_STATUS_SHADOW n).doIf (n == 0) (fun u => u.catMod (fun c => { c with shadow := [], load := none }))

/-- Refuses a request with a code of R347: REASON, REFUSED and the count (R352, R360). -/
def State.refuse (s : State) (code : Nat) : State :=
  ((s.fput F.CAT_STATUS_REASON code).raise F.CAT_EVENT_REFUSED).count R.CAT_REFUSALS

/-! ### Loading and verification -/

/-- Largest image, in bytes (R329). -/
def imgMax : Nat := 8388608

/-- LOAD: a copy into the shadow begins (R352, R353, R371). -/
def execLoad (s : State) : Host.Outcome State Fault Refusal :=
  .next (
    let src := s.fget F.CAT_CTRL_SRC
    if !([0, 2, 4].contains s.shadowSt) || src == 3 then s.refuse 0x31
    else
      let len := if src = 0 then s.rdN R.CAT_LOAD_LEN % 2 ^ 24 else leNat (s.storeBytes (catSlotAt (src - 1) + 8) 4)
      (s.setShadow 1).catMod (fun c => { c with
        shadow := [], load := some (src, s.rd64 R.CAT_LOAD_ADDR_LO R.CAT_LOAD_ADDR_HI, len) }))

/-- Ends a load in error: the shadow becomes EMPTY (R352). -/
def State.loadFails (s : State) (code : Nat) : State := (s.fput F.CAT_STATUS_REASON code).setShadow 0

/-- Whether `n` bytes from Archive offset `off` can be read: they lie in the Archive and hold no uncorrectable unit (R439). -/
def State.arcReadable (s : State) (off n : Nat) : Bool := decide (off + n ≤ archiveEnd) && !s.arcPoisoned off n

/-- LOAD_COMPLETE: the copy ends; `ok` says that its source answered every read without an error (R352, R353). -/
def execLoadComplete (ok : Bool) (s : State) : Host.Outcome State Fault Refusal :=
  .next (if s.shadowSt ≠ 1 then s
    else match s.cat.load with
      | none => s
      | some (src, off, len) =>
        if len = 0 ∨ imgMax < len then s.loadFails 0x03
        else if !ok || (src == 0 && !s.arcReadable off len) then
          ((s.doIf (src == 0) (fun u => (u.noteRead (Config.freeNat u.fresh % 5) off len).tick1)).loadFails 0x30)
        else
          let img := if src = 0 then s.arcBytes off len else s.storeBytes (catSlotAt (src - 1)) len
          ((s.catMod (fun c => { c with shadow := img, load := none, shadowSrc := if src = 0 then 3 else src })).setShadow 2).raise
            F.CAT_EVENT_LOADED)

/-- VERIFY: the checks of a loaded image begin (R347, R352). -/
def execVerify (s : State) : Host.Outcome State Fault Refusal :=
  .next (if s.shadowSt = 2 then s.setShadow 3 else s.refuse 0x31)

/-- Shows a digest in CAT.SHADOW_DIGEST. -/
def State.showShadowDigest (s : State) (d : List Byte) : State :=
  s.forEach (List.range 8) (fun u k => u.wrN (R.CAT_SHADOW_DIGEST k) (imgN d (4 * k) 4))

/-- Rejects the shadow image with what a check reports (R347, R349). -/
def State.reject (s : State) (f : Fail) : State :=
  let s1 := ((s.fput F.CAT_STATUS_REASON f.1).wrN R.CAT_DETAIL_SECTION f.2.1).wrN R.CAT_DETAIL_OFFSET (f.2.2 % 2 ^ 23)
  (((s1.fput F.CAT_STATUS_REJECT 1).raise F.CAT_EVENT_REJECT).count R.CAT_REJECTS).setShadow 0

/-- Takes the verdict on the shadow image (R347 to R349). -/
def State.judgeShadow (s : State) : State :=
  let s1 := s.showShadowDigest (imgDigest s.cat.shadow)
  match s.verify s.cat.shadow s.chainAddr with
  | some f => s1.reject f
  | none => ((s1.fput F.CAT_STATUS_REJECT 0).setShadow 4).raise F.CAT_EVENT_VERIFIED

/-- VERIFY_COMPLETE: the checks end and the shadow is VERIFIED or rejected (R348, R349). -/
def execVerifyComplete (s : State) : Host.Outcome State Fault Refusal :=
  .next (if s.shadowSt = 3 then s.judgeShadow else s)

/-- CLEAR: empties the shadow; refused where R352 does not accept it (R352, R371). -/
def execClear (s : State) : Host.Outcome State Fault Refusal :=
  .next (if [0, 2, 4].contains s.shadowSt then s.setShadow 0 else s.refuse 0x31)

/-! ### Staged writes -/

/-- Replaces the value of register `r` among REGS entries, or inserts it so that offsets ascend (R340, R354). -/
def putEntry (r v : Nat) : List (Nat × Nat) → List (Nat × Nat)
  | [] => [(r, v)]
  | e :: rest => if e.1 = r then (r, v) :: rest else if r < e.1 then (r, v) :: e :: rest else e :: putEntry r v rest

/-- The bytes of a REGS section. -/
def regsBytes (es : List (Nat × Nat)) : List Byte := es.flatMap (fun e => leBytes 4 e.1 ++ leBytes 4 e.2)

/-- Replaces bytes from `k` on. -/
def patch (b : List Byte) (k : Nat) (v : List Byte) : List Byte := b.take k ++ v ++ b.drop (k + v.length)

/-- Rewrites a carried field and its complement (R337, R339, R354). -/
def putCarried (b : List Byte) (off n : Nat) (cpl : Option Nat) (v : Nat) : List Byte :=
  let b1 := patch b off (leBytes n v)
  match cpl with
  | some c => patch b1 c (leBytes n (2 ^ (8 * n) - 1 - v % 2 ^ (8 * n)))
  | none => b1

/-- Applies `f` to the sections of a type that apply to address `a`. -/
def onSects (a typ : Nat) (f : List Byte → List Byte) (xs : List SectSrc) : List SectSrc :=
  xs.map (fun x => if x.typ == typ && decide (x.first ≤ a) && decide (a ≤ x.last) then { x with bytes := f x.bytes } else x)

/-- The sections of an image with register `r` staged at `v` for address `a`; none where R354 refuses it. -/
def stagedSects (img : List Byte) (a r v : Nat) : Option (List SectSrc) :=
  let xs := sectSrcs img
  match carried r with
  | some (t, o, n, c) => if (sectsFor img a t).isEmpty then none else some (onSects a t (fun b => putCarried b o n c v) xs)
  | none =>
    match sectsFor img a 3 with
    | [] => some (xs ++ [⟨3, 1, a, a, regsBytes [(r, v)]⟩])
    | [_] => some (onSects a 3 (fun b => regsBytes (putEntry r v (regsEntries b))) xs)
    | _ => none

/-- Refuses a staged write (R354). -/
def State.refuseWrite (s : State) : State := (s.refuse 0x31).raise F.CAT_EVENT_WRITE_REFUSED

/-- Stages a write of `v` to the RWA register at `r` in the shadow image (R354). -/
def State.stageWrite (s : State) (r v : Nat) : State :=
  let img := s.cat.shadow
  if !([2, 4].contains s.shadowSt) || !imgReadable img then s.refuseWrite
  else match stagedSects img s.chainAddr r v with
    | none => s.refuseWrite
    | some xs =>
      let fl := imgN img 56 4
      let new := layImage (if bitOf fl 1 then fl - 2 else fl) (imgN img 60 4) xs
      if imgMax < new.length then s.refuseWrite
      else (s.catMod (fun c => { c with shadow := new })).setShadow 2

/-- RWA_WRITE: a write of `v` to the RWA register at BAR0 offset `r` (R11, R354). -/
def execRwaWrite (r : Nat) (v : Word) (s : State) : Host.Outcome State Fault Refusal :=
  .next (if isRwa r then s.stageWrite r v.toNat else s)

/-! ### The configuration store -/

/-- STORE: the VERIFIED image is written to a store slot (R355, R639). -/
def execStore (s : State) : Host.Outcome State Fault Refusal :=
  .next (if s.shadowSt ≠ 4 then s.refuse 0x31
    else if s.storeBlocked then s.noteProg.refuse 0x31
    else s.startStore (catSlotAt (s.fget F.CAT_CTRL_STORE_SLOT)) 0 s.cat.shadow)

/-- STORE_COMPLETE: a write of STORE, SET_BOOT or NO_BOOT and its compare end; `readBack` is what the store then holds there
(R355, R612, R639). -/
def execStoreComplete (readBack : List Byte) (s : State) : Host.Outcome State Fault Refusal :=
  .next (match s.cat.storing with
    | none => s
    | some w =>
      if 2 ≤ w.kind then s
      else
        let r := s.endStore w readBack
        r.1.raise (if r.2 then F.CAT_EVENT_STORE_DONE else F.CAT_EVENT_STORE_FAIL))

/-- SET_BOOT: the boot record names STORE_SLOT (R355, R612). -/
def execSetBoot (s : State) : Host.Outcome State Fault Refusal :=
  .next (if s.storeBlocked then s.noteProg.refuse 0x31
    else s.startBoot 1 (fun b => { b with catSlot := s.fget F.CAT_CTRL_STORE_SLOT + 1 }))

/-- NO_BOOT: the boot record names no slot (R355, R612). -/
def execNoBoot (s : State) : Host.Outcome State Fault Refusal :=
  .next (if s.storeBlocked then s.noteProg.refuse 0x31 else s.startBoot 1 (fun b => { b with catSlot := 0 }))

/-! ### Scheduling -/

/-- The shadow as it would stand in force: the state under its registers (R357, R390). -/
def State.shadowView (s : State) : State := s.catView s.cat.shadow s.chainAddr

/-- The heavy registers (R149, R254, R283, R422, and the ACCUM register notes). -/
def heavyRegsDiffer (s v : State) : Bool :=
  ((List.range 256).flatMap (fun e => [R.INGEST_MAP_W0 e, R.INGEST_MAP_W1 e])
    ++ (List.range 64).flatMap (fun r => [R.INGEST_CHAN_W0 r, R.INGEST_CHAN_W1 r])
    ++ [R.ACCUM_BLOCKS, R.ACCUM_INT_PHASE, R.HBMC_LAYOUT_CT, R.HBMC_LAYOUT_ACC, R.HBMC_LAYOUT_STAGE]).any (fun r => s.rd r != v.rd r)
    || s.fget F.ACCUM_CFG_EXACT_WT != v.fget F.ACCUM_CFG_EXACT_WT

/-- CAT.KIND: which sections hold heavy differences between the live Catalogue and the shadow (R336, R357, R374). -/
def State.accKind (s v : State) : Nat :=
  let live := fun (t : Nat) => sectBytes s.cat.live s.catAddr t
  let shad := fun (t : Nat) => sectBytes s.cat.shadow s.chainAddr t
  b2n ((live 1).take 28 != (shad 1).take 28) + 2 * b2n (((live 2).drop 32).take 16 != ((shad 2).drop 32).take 16)
    + 4 * b2n (heavyRegsDiffer s v) + 8 * b2n (live 4 != shad 4) + 16 * b2n (live 5 != shad 5)
    + 32 * b2n ((live 7).take 1 != (shad 7).take 1)

/-- A, the array time of one window of the live Catalogue, in core cycles (R358). -/
def State.arrayCycles (s : State) : Nat :=
  let p := planOf (sectBytes s.cat.live s.catAddr 4)
  let t := s.passLen
  let n := s.nIn
  if s.fbit F.ARRAY_GEOM_RESIDENT then s.nChan * max s.dwell (ceilDiv (s.dwell * n) 512)
  else
    let cut := (p.wings.map (fun w => if w.tiles.isEmpty then 0 else ceilDiv (w.blocks.length * t) w.tiles.length)).foldl max 0
    let feed := ceilDiv (n * t * s.sampleBytes) 512
    s.nChan * (s.dwell / t) * max (if s.w8 then cut * 4 else cut) feed

/-- 6 × W × 2^32 × (F + R), in ns: the finish time and the remap time of R358 for an accession at `x`. -/
def State.resumeBound (s : State) (x : Nat) : Nat :=
  let corr := s.corrRole && decide (0 < s.dwell)
  let w := if corr then s.dwell else 1
  let m := x / w
  let skew := max 100 (s.rdN R.INGEST_SKEW % 2 ^ 16) * 2 ^ 32
  let a := s.arrayCycles * s.cyc6 * 2 ^ 32
  let sects := [4, 5].map (fun t => (sectBytes s.cat.live s.catAddr t, sectBytes s.cat.shadow s.chainAddr t))
  let d := (sects.map (fun p => if p.1 = p.2 then 0 else p.2.length)).sum
  let fin := if corr then max (6 * w * (s.tOf (m * w) + skew) + w * a) (6 * w * (s.tOf x + skew)) + a * (x - m * w)
    else 6 * w * (s.tOf x + skew)
  fin + 6 * w * 100000 * 2 ^ 32 + 6 * w * (500000 * 2 ^ 32 + d * 2 ^ 29)

/-- The resume SI y of a heavy accession at `x` (R358). -/
def State.resumeSi (s v : State) (x : Nat) : Nat :=
  let corr := s.corrRole && decide (0 < s.dwell)
  let w := if corr then s.dwell else 1
  let z := ceilDiv (s.resumeBound x) (6 * w)
  let unit := if v.passLen = 0 then 128 else Nat.lcm 128 v.passLen
  let least := ceilDiv ((z - v.si0) * v.siDen) (v.siNum * 2 ^ 32)
  max (roundUp unit least) ((x / unit + 1) * unit)

/-- Whether two byte ranges of the Archive overlap. -/
def rangesMeet (p q : Nat × Nat) : Bool := decide (0 < p.2) && decide (0 < q.2) && decide (p.1 < q.1 + q.2) && decide (q.1 < p.1 + p.2)

/-- Regions 0 to 2 of a Catalogue in bytes. -/
def regionBytes (v : State) : List (Nat × Nat) := (placedRegions v).map (fun p => (p.1 * regionUnit, p.2 * regionUnit))

/-- The two accumulator banks of a Catalogue in bytes. -/
def bankBytes (v : State) : List (Nat × Nat) :=
  let r := (regionBytes v).getD 1 (0, 0)
  if r.2 = 0 then [] else [(r.1, bankStride v), (r.1 + bankStride v, bankStride v)]

/-- The enabled user regions of a Catalogue in bytes (R424). -/
def userRegions (v : State) : List (Nat × Nat) :=
  ((List.range 12).filter (fun k => v.fbit (F.HBMC_REGION_W0_EN (k + 4)))).map (fun k =>
    (v.regionBase (k + 4), v.fget (F.HBMC_REGION_W1_SIZE (k + 4)) * regionUnit))

/-- Archive offset of the device region (R423). -/
def deviceRegion : Nat := 0xBEC000000

/-- Whether two members of a list at different places overlap. -/
def pairMeets (l : List (Nat × Nat)) : Bool :=
  l.zipIdx.any (fun p => l.zipIdx.any (fun q => decide (p.2 < q.2) && rangesMeet p.1 q.1))

/-- Whether the regions of a shadow are refused in themselves, or may not be placed while a pseudo-channel has failed (R424,
R446). -/
def State.placeRefused (s v : State) : Bool :=
  let rs := regionBytes v
  let us := userRegions v
  let dev := (deviceRegion, archiveEnd - deviceRegion)
  pairMeets (rs ++ us) || (rs ++ us).any (fun r => rangesMeet r dev) || us.any (fun r => decide (deviceRegion < r.1 + r.2))
    || (rs.any (fun r => decide (0 < r.2)) && s.rd64 R.HBMC_PC_FAIL_LO R.HBMC_PC_FAIL_HI != 0)

/-- Whether the regions of a shadow overlap what the live Catalogue still uses (R359). -/
def State.overlapRefused (s v : State) : Bool :=
  let banks := bankBytes s
  let staging := (regionBytes s).getD 2 (0, 0)
  let held := ((List.range 8).filter (fun j => s.stageUsed j)).map (fun j => s.stageRange j)
  let clash := fun (p q : Nat × Nat) => rangesMeet p q && p != q
  let slots := (List.range (stageSlots v)).map (fun k => (stageOff v k, slotUnits v * regionUnit))
  let whole := (regionBytes v).getD 2 (0, 0)
  ((regionBytes v).take 1).any (fun r => (staging :: banks ++ held).any (fun q => rangesMeet r q))
    || (bankBytes v ++ userRegions v).any (fun r => (staging :: banks ++ held).any (fun q => clash r q))
    || (staging :: banks).any (fun q => clash whole q) || slots.any (fun r => held.any (fun q => clash r q))

/-- Whether the change of mode is refused (R600, R601). -/
def State.modeRefused (s v : State) : Bool :=
  let a := s.mode
  let b := v.mode
  let ok := a == b || (a == 1 && [2, 3, 4, 5].contains b) || ([2, 3, 4].contains a && [1, 2, 3, 4].contains b) || (a == 5 && b == 1)
  !ok || (a != b && s.fget F.BOOT_STATUS_STATE == 3 && b != 1)

/-- GAP_MAX of an image at an address (R345). -/
def gapMax (img : List Byte) (a : Nat) : Nat := imgN (sectBytes img a 8) 8 4

/-- Shows x, y, the gap and KIND of a request (R357, R358). -/
def State.showRequest (s : State) (x y kind : Nat) : State :=
  ((s.wr64 R.CAT_EFFECT_SI_LO R.CAT_EFFECT_SI_HI x).wr64 R.CAT_RESUME_SI_LO R.CAT_RESUME_SI_HI y).wrN R.CAT_GAP
    (satN 32 (y - x)) |>.wrN R.CAT_KIND kind

/-- The code with which an accession of the shadow at `x` with resume SI `y` is refused, 0 where it is accepted (R33, R36, R359,
R360, R424, R446, R601). -/
def State.accRefusal (s v : State) (x y kind : Nat) : Nat :=
  if x ≤ s.siNow then 0x20
  else if siEnd < x then 0x21
  else if gapMax s.cat.shadow s.chainAddr < y - x then 0x24
  else if s.modeRefused v then 0x25
  else if s.placeRefused v || (kind != 0 && s.overlapRefused v) then 0x26
  else 0

/-- Requests the accession of a VERIFIED shadow at the pass boundary `x`, resuming at `resume` at the earliest; gives the state and
the code of a refusal, 0 where it is scheduled (R356 to R360, R404). -/
def State.requestAcc (s : State) (x resume : Nat) : State × Nat :=
  let v := s.shadowView
  let kind := s.accKind v
  let y := if kind = 0 then x else max (s.resumeSi v x) resume
  let s1 := s.showRequest x y kind
  let code := s1.accRefusal v x y kind
  if code ≠ 0 then (s1, code)
  else
    let s2 := ((s1.setShadow 5).raise F.CAT_EVENT_SCHEDULED).fput F.CAT_STATUS_HEAVY (b2n (kind != 0))
    (s2.catMod (fun c => { c with acc := some (x, y), next := regDiff s.regs v.regs, remapped := false }), 0)

/-- SCHEDULE: the accession SI is resolved and the accession scheduled or refused (R356 to R360). -/
def execSchedule (s : State) : Host.Outcome State Fault Refusal :=
  .next (if 5 ≤ s.shadowSt then s.refuse 0x22
    else if s.shadowSt ≠ 4 then s.refuse 0x23
    else
      let r := s.requestAcc (s.boundaryAt (s.rd64 R.CAT_ACC_SI_LO R.CAT_ACC_SI_HI)) 0
      if r.2 = 0 then r.1 else r.1.refuse r.2)

/-- Ends a scheduled accession: the shadow is VERIFIED again and CANCELLED is raised with code 0x28 (R361, R368). -/
def State.cancelAcc (s : State) : State :=
  (((s.setShadow 4).fput F.CAT_STATUS_HEAVY 0).fput F.CAT_STATUS_REASON 0x28).raise F.CAT_EVENT_CANCELLED
    |>.catMod (fun c => { c with acc := none, next := [] })

/-- Whether the SI of the scheduled accession has been reached (R361). -/
def State.accReached (s : State) : Bool :=
  match s.cat.acc with
  | some (x, _) => decide (x ≤ s.siNow)
  | none => false

/-- CANCEL: a scheduled accession is cancelled, or in the cycle of x refused with CANCEL_LATE (R361). -/
def execCancel (s : State) : Host.Outcome State Fault Refusal :=
  .next (if s.shadowSt ≠ 5 then s.refuse 0x31
    else if s.accReached then (s.refuse 0x31).raise F.CAT_EVENT_CANCEL_LATE
    else s.cancelAcc)

end Sys2Proof.Machine
end

