-- ==== Sys2Proof/Machine/ChainBase.lean ====
section
/-!
DEFINITION. Machine/ChainBase.lean: the chain's ports, roles and addresses, and its messages: their layout, checks, sending and
forwarding (R375 to R383, R391).
-/
namespace Sys2Proof.Machine

/-- Changes the chain unit beside its registers. -/
def State.chMod (s : State) (f : ChainSt → ChainSt) : State := { s with chain := f s.chain }

/-! ### Ports and roles -/

/-- The state of port `p`: 0 OFF, 1 DETECT, 2 TRAIN, 3 LOCK, 4 HELLO, 5 UP (R413). -/
def State.portState (s : State) (p : Nat) : Nat :=
  if p = 0 then s.fget F.CHAIN_STATUS_UP_STATE else s.fget F.CHAIN_STATUS_DN_STATE

/-- Whether port `p` is UP. -/
def State.portUp (s : State) (p : Nat) : Bool := s.portState p == 5

/-- Puts port `p` in state `st`; TAIL says that CHAIN_DN is not UP (R375, R413). -/
def State.setPort (s : State) (p st : Nat) : State :=
  if p = 0 then s.fput F.CHAIN_STATUS_UP_STATE st
  else (s.fput F.CHAIN_STATUS_DN_STATE st).fput F.CHAIN_STATUS_TAIL (b2n (st != 5))

/-- CHAIN.STATUS.ENUM_STATE: 0 UNADDRESSED, 1 ADDRESSED, 2 ORPHAN, 3 head (R413). -/
def State.enumState (s : State) : Nat := s.fget F.CHAIN_STATUS_ENUM_STATE

/-- Whether the device is the chain head. -/
def State.isHead (s : State) : Bool := s.fbit F.CHAIN_STATUS_HEAD

/-- Whether the device holds a valid chain address. -/
def State.hasAddr (s : State) : Bool := s.fbit F.CHAIN_ADDR_VALID

/-- The device's chain address. -/
def State.chAddr (s : State) : Nat := s.fget F.CHAIN_ADDR_ADDRESS

/-- Refreshes ADDR_PENDING: CHAIN.ADDR and CAT.ADDR differ (R390). -/
def State.showPending (s : State) : State :=
  s.fput F.CHAIN_STATUS_ADDR_PENDING (b2n (s.hasAddr != s.fbit F.CAT_ADDR_VALID || s.chainAddr != s.catAddr))

/-- Takes address `n` (R383). -/
def State.setAddr (s : State) (n : Nat) : State :=
  (((s.fput F.CHAIN_ADDR_VALID 1).fput F.CHAIN_ADDR_ADDRESS n).fput F.CHAIN_ADDR_ADDR_CPL (1023 - n % 1024)).showPending

/-- Loses the address and becomes UNADDRESSED (R383, R384). -/
def State.dropAddr (s : State) : State := ((s.fput F.CHAIN_ADDR_VALID 0).fput F.CHAIN_STATUS_ENUM_STATE 0).showPending

/-- The check of the address against its complement (R383). -/
def State.checkAddr (s : State) : State :=
  if s.hasAddr && s.chAddr + s.fget F.CHAIN_ADDR_ADDR_CPL != 1023 then (s.dropAddr).raise F.CHAIN_EVENT_ADDR_CORRUPT else s

/-- ROLE of the CHAIN section in force, and with it whether the device is the head (R376). -/
def State.headRole (s : State) : Bool :=
  let r := imgN (sectBytes s.cat.live s.catAddr 7) 0 1
  r == 2 || (r == 0 && s.chain.strap)

/-- Takes the role that the CHAIN section in force and the strap give; the head holds address 0 (R376). -/
def State.takeRole (s : State) : State :=
  if s.headRole == s.isHead then s
  else if s.headRole then ((s.fput F.CHAIN_STATUS_HEAD 1).setAddr 0).fput F.CHAIN_STATUS_ENUM_STATE 3
  else (s.fput F.CHAIN_STATUS_HEAD 0).dropAddr

/-- The VERSIONS mask in force (R344). -/
def State.ownMask (s : State) : Nat := imgN (sectBytes s.cat.live s.catAddr 7) 1 1 % 4

/-- The highest version in a mask, 0 for none. -/
def topVersion (m : Nat) : Nat := if bitOf m 1 then 2 else if bitOf m 0 then 1 else 0

/-- The neighbour's last valid HELLO on port `p` (R377). -/
def State.peer (s : State) (p : Nat) : List Byte := tget [] s.chain.peers p

/-- The version of link messages on port `p` (R391). -/
def State.linkVersion (s : State) (p : Nat) : Nat := topVersion (Nat.land s.ownMask (imgN (s.peer p) 0 1))

/-- CHAIN.VERSION.VERSION. -/
def State.chVersion (s : State) : Nat := s.fget F.CHAIN_VERSION_VERSION

/-! ### Messages -/

/-- The fields of a message (R379). -/
structure Msg where
  ver : Nat
  typ : Nat
  dest : Nat
  src : Nat
  seq : Nat
  hops : Nat
  body : List Byte

/-- Whether a payload length is permitted for a type; none for an unknown type (R380). -/
def msgLenOk (typ len : Nat) : Bool :=
  if typ = 0x01 then len == 16 else if typ = 0x02 ∨ typ = 0x03 then len == 8
  else if typ = 0x04 ∨ typ = 0x10 ∨ typ = 0x12 ∨ typ = 0x31 then len == 4
  else if typ = 0x11 ∨ typ = 0x13 then len == 16 else if typ = 0x20 then len == 88 else if typ = 0x21 then len == 12
  else if typ = 0x22 then len == 40 else if typ = 0x28 then len == 24
  else typ == 0x30 && decide (4 ≤ len) && decide (len ≤ 1020) && len % 4 == 0

/-- The bytes of a message with its check word (R379). -/
def Msg.bytes (m : Msg) : List Byte :=
  let b := leBytes 1 m.ver ++ leBytes 1 m.typ ++ leBytes 2 m.dest ++ leBytes 2 m.src ++ leBytes 2 m.seq ++ leBytes 2 m.body.length
    ++ leBytes 2 m.hops ++ leBytes 2 (65535 - m.dest % 65536) ++ leBytes 2 (65535 - m.src % 65536) ++ m.body
  b ++ leBytes 4 (crc32c b).toNat

/-- Reads a message: check word, complements, length and type (R381). -/
def msgOf (b : List Byte) : Option Msg :=
  let f := imgN b
  if b.length < 20 ∨ f 8 2 + 20 ≠ b.length ∨ (crc32c (b.take (b.length - 4))).toNat ≠ f (b.length - 4) 4 then none
  else if f 2 2 + f 12 2 ≠ 65535 ∨ f 4 2 + f 14 2 ≠ 65535 ∨ !msgLenOk (f 1 1) (f 8 2) then none
  else some ⟨f 0 1, f 1 1, f 2 2, f 4 2, f 6 2, f 10 2, (b.drop 16).take (f 8 2)⟩

/-- Whether a type travels one hop (R380). -/
def linkType (typ : Nat) : Bool := [0x01, 0x10, 0x11, 0x12, 0x13, 0x30, 0x31].contains typ

/-- The version that R391 assigns to a message of a type on port `p`. -/
def State.msgVersion (s : State) (p typ : Nat) : Nat :=
  if typ ≤ 4 then 1 else if linkType typ then s.linkVersion p else s.chVersion

/-- Discards a message (R381). -/
def State.msgErr (s : State) : State := (s.count R.CHAIN_MSG_ERR).raise F.CHAIN_EVENT_MSG_ERR

/-- The checks of a received message (R381, R392). -/
def State.msgCheck (s : State) (p : Nat) (b : List Byte) : Option Msg :=
  match msgOf b with
  | none => none
  | some m => if m.ver != s.msgVersion p m.typ || (m.typ == 0x22 && m.ver != 2) then none else some m

/-- Receives bytes on port `p` as a message of type `typ`: discarded where a check fails, else `f` acts on it. -/
def State.takeMsg (s : State) (p typ : Nat) (b : List Byte) (f : State → Msg → State) : State :=
  if !(s.portUp p || (typ == 1 && s.portState p == 4)) then s
  else match s.msgCheck p b with
    | none => s.msgErr
    | some m => if m.typ = typ then f s m else s

/-- The SRC of the device's own messages (R379). -/
def State.ownSrc (s : State) : Nat := if s.hasAddr then s.chAddr else 0xFFFF

/-- The live MODE code: that of the Catalogue in force, in SLEEP too (R337). -/
def State.liveMode (s : State) : Nat := imgN (sectBytes s.cat.live s.catAddr 1) 0 2

/-- Puts a message on the line of port `p`, framed as on a lane (R379). -/
def State.putMsg (s : State) (p : Nat) (b : List Byte) : State := (s.emit (.chain p b)).send (192 + p) (frameChars b []) false

/-- Sends a message on port `p`, where that port can carry it. -/
def State.sendMsg (s : State) (p typ dest seq : Nat) (body : List Byte) : State :=
  if s.portUp p || (typ == 1 && s.portState p == 4) then
    s.putMsg p (Msg.bytes ⟨s.msgVersion p typ, typ, dest, s.ownSrc, seq, 0, body⟩)
  else s

/-- Sends a message whose sequence number the spec leaves to its originator: a free value. -/
def State.sendTo (s : State) (p typ dest : Nat) (body : List Byte) : State :=
  (s.sendMsg p typ dest (Config.freeNat s.fresh % 65536) body).tick1

/-- Sends a link message: its DEST and sequence number are not stated and are free values (R379, R380). -/
def State.sendLink (s : State) (p typ : Nat) (body : List Byte) : State :=
  s.tick1.sendTo p typ (Config.freeNat s.fresh % 65536) body

/-- Forwards a message on port `p` with one more hop (R382). -/
def State.forward (s : State) (p : Nat) (m : Msg) : State :=
  if s.portUp p then (s.putMsg p (Msg.bytes { m with hops := (m.hops + 1) % 65536 })).count R.CHAIN_FORWARDED else s

/-! ### HELLO -/

/-- The payload of the device's HELLO (R380, R384). -/
def State.helloBody (s : State) : List Byte :=
  let role := if s.isHead then 1 else if s.enumState = 2 then 2 else 0
  let a := if s.hasAddr then 0x8000 + s.chAddr else 0
  leBytes 1 s.ownMask ++ leBytes 1 role ++ leBytes 2 (s.rdN R.CHAIN_CHAIN_ID) ++ leBytes 2 a ++ leBytes 2 (65535 - a)
    ++ leBytes 4 (s.rdN R.DEVICE_ID) ++ leBytes 1 s.liveMode ++ leBytes 3 0

/-- Sends HELLO on port `p`. -/
def State.sendHello (s : State) (p : Nat) : State :=
  (s.sendLink p 1 s.helloBody).chMod (fun c => { c with sent := tset [] c.sent p s.helloBody })

/-- A port in UP sends HELLO at once where its content has changed (R377). -/
def State.helloSync (s : State) : State :=
  s.forEach [0, 1] (fun u p => if u.portUp p && tget [] u.chain.sent p != u.helloBody then u.sendHello p else u)

end Sys2Proof.Machine
end

