-- ==== Sys2Proof/Machine/Mbox.lean ====
section
/-!
DEFINITION. Machine/Mbox.lean: the 48 mailboxes: posts, notices, acknowledgements, locks, timeouts, resets of either side and the
remote mailboxes (R520 to R532).
-/
namespace Sys2Proof.Machine

/-! ### Ends -/

/-- The Curator that holds the lease, 0 A or 1 B (R508, R534). -/
def State.activeCur (s : State) : Option Nat :=
  match s.fget F.CORE_LEASE_OWNER with
  | 1 => some 0
  | 2 => some 1
  | _ => none

/-- The masters of the X end of mailbox `k` (R520, R537). -/
def State.xMasters (s : State) (k : Nat) : List Nat :=
  ([s.fget (F.MBOX_CFG_X_MASTER0 k), s.fget (F.MBOX_CFG_X_MASTER1 k)].filter (fun m => m != 18 && m != 19 && m != 0x1F)).dedup

/-- The masters that may post in direction `d` of mailbox `k` (R520). -/
def State.mbSenders (s : State) (k d : Nat) : List Nat :=
  if d = 0 then s.xMasters k else if 32 ≤ k ∧ k ≤ 35 then [1] else [0, 1]

/-- The masters that receive direction `d` of mailbox `k` (R520). -/
def State.mbReceivers (s : State) (k d : Nat) : List Nat :=
  if d = 1 then s.xMasters k else if 32 ≤ k ∧ k ≤ 35 then [1] else s.activeCur.toList

/-- Whether mailbox `k` is a remote one (R520). -/
def isRemote (k : Nat) : Bool := decide (36 ≤ k) && decide (k ≤ 43)

/-- The port of remote mailbox `k` (R524). -/
def remotePort (k : Nat) : Nat := (k - 36) / 4

/-! ### Directions -/

/-- The state of a direction: 0 FREE, 1 POSTED, 2 READ (R537). -/
def State.mbState (s : State) (k d : Nat) : Nat := s.fget (F.MBOX_D_STATE_STATE k d)

/-- Raises event `e` of direction `d`: 0 NOTICE, 1 ACKED, 2 TIMEOUT, 3 REFUSED, 4 LATE_ACK (R538). -/
def State.mbEvent (s : State) (k d e : Nat) : State := s.raise ⟨R.MBOX_EVENT k, 8 * d + e, 1⟩

/-- Refreshes MBOX.PENDING for mailbox `k`. -/
def State.mbPending (s : State) (k : Nat) : State :=
  s.setFlag R.MBOX_PENDING k (s.mbState k 0 != 0 || s.mbState k 1 != 0)

/-- Sets the FLAGS of the notice held: shown in STATE and in NOTICE[1] (R522, R537). -/
def State.mbFlags (s : State) (k d fl : Nat) : State :=
  (s.fput (F.MBOX_D_STATE_FLAGS k d) fl).fput ⟨R.MBOX_D_NOTICE k d 1, 8, 8⟩ fl

/-- FLAGS of the notice held. -/
def State.mbGetFlags (s : State) (k d : Nat) : Nat := s.fget (F.MBOX_D_STATE_FLAGS k d)

/-- Clears what is staged for a post (R521). -/
def State.mbUnstage (s : State) (k d : Nat) : State := (s.clr (R.MBOX_D_POST_LO k d)).clr (R.MBOX_D_POST_CPL k d)

/-- Releases the lock of a direction where master `m` owns it (R528). -/
def State.mbUnlock (s : State) (k d m : Nat) : State :=
  if s.fget (F.MBOX_D_STATE_LOCK_OWNER k d) = m + 1 then s.fput (F.MBOX_D_STATE_LOCK_OWNER k d) 0 else s

/-- Refuses a post or an acknowledgement with a code (R521, R523, R537). -/
def State.mbRefuse (s : State) (k d code : Nat) : State :=
  ((s.fput (F.MBOX_D_STATE_LAST_REFUSE k d) code).mbEvent k d 3).count R.MBOX_REFUSED

/-- Makes a direction FREE: its notice goes, and with `cross` the CROSS flags of both directions clear (R529, R531). -/
def State.mbFree (s : State) (k d : Nat) (cross : Bool) : State :=
  let s1 := ((s.forEach [0, 1, 2, 3] (fun u i => u.clr (R.MBOX_D_NOTICE k d i))).fput (F.MBOX_D_STATE_STATE k d) 0).fput
    (F.MBOX_D_STATE_FLAGS k d) 0
  (s1.doIf cross (fun u => u.forEach [0, 1] (fun v e => v.mbFlags k e (clearBit (v.mbGetFlags k e) 2)))).mbPending k

/-- Completes the notice of a direction with a return code (R523). -/
def State.mbComplete (s : State) (k d code : Nat) : State :=
  ((s.mbFree k d true).wrN (R.MBOX_D_ACK_STATUS k d) (2 ^ 31 + code % 65536)).mbEvent k d 1

/-- Presents a notice in a FREE direction (R521, R522). -/
def State.mbPresent (s : State) (k d ptr tag fl sender : Nat) : State :=
  let lo := ptr % 2 ^ 32
  let hi := ptr / 2 ^ 32 % 256
  let s1 := ((s.wrN (R.MBOX_D_NOTICE k d 0) lo).wrN (R.MBOX_D_NOTICE k d 1) (hi + fl * 2 ^ 8 + tag % 65536 * 2 ^ 16)).wrN
    (R.MBOX_D_NOTICE k d 2) (2 ^ 32 - 1 - lo)
  let s2 := (s1.wrN (R.MBOX_D_NOTICE k d 3) (255 - hi + sender * 2 ^ 16)).fput (F.MBOX_D_STATE_STATE k d) 1
  (((s2.fput (F.MBOX_D_STATE_FLAGS k d) fl).fput (F.MBOX_D_ACK_STATUS_VALID k d) 0).mbEvent k d 0).mbPending k

/-- The SENDER code of a master (R522). -/
def senderOf (m : Nat) : Nat :=
  if m = 20 then 0x1000 else if m = 0 then 0x2000 else if m = 1 then 0x3000
  else if 2 ≤ m ∧ m ≤ 17 then 0x4000 + (m - 2) else 0

/-! ### Remote mailboxes -/

/-- The transmit buffer of remote mailbox `r` (R524). -/
def txBuf (r : Nat) : Nat := 0x017FC000 + 0x400 * r

/-- The receive buffer of remote mailbox `r` (R524). -/
def rxBuf (r : Nat) : Nat := 0x017FE000 + 0x400 * r

/-- Sends the notice posted outbound in remote mailbox `k`, or frees the direction where the link is not UP (R410, R524). -/
def State.mbOutbound (s : State) (k tag : Nat) : State :=
  let r := k - 36
  if s.portUp (remotePort k) then
    s.sendLink (remotePort k) 0x30 (leBytes 1 (r % 4) ++ leBytes 3 0 ++ s.ldBytes (txBuf r) tag)
  else s.mbComplete k 1 0xFF05

/-- What the loss of port `p` does to its remote mailboxes (R411, R524). -/
def State.mbLinkLost (s : State) (p : Nat) : State :=
  s.forEach ((List.range 4).map (fun m => 36 + 4 * p + m)) (fun u k =>
    let u1 := if u.mbState k 0 = 0 then u
      else
        let v := (u.mbFlags k 0 (setBit (u.mbGetFlags k 0) 1)).count R.MBOX_VOIDED
        if v.mbState k 0 = 2 then (v.fput (F.MBOX_D_STATE_STATE k 0) 1).mbEvent k 0 0 else v
    if u1.mbState k 1 = 0 then u1 else u1.mbComplete k 1 0xFF05)

/-- The neighbour's chain address as its last HELLO gives it. -/
def State.peerAddr (s : State) (p : Nat) : Nat := imgN (s.peer p) 4 2 % 1024

/-- MBOX: a message for a remote mailbox arrives on port `p` (R410, R524). -/
def execMbox (p : Fin 2) (b : List Byte) (s : State) : Host.Outcome State Fault Refusal :=
  .next (s.takeMsg p.val 0x30 b (fun u m =>
    let mb := imgN m.body 0 1 % 4
    let k := 36 + 4 * p.val + mb
    if u.mbState k 0 ≠ 0 then u.sendLink p.val 0x31 (leBytes 2 mb ++ leBytes 2 0xFF04)
    else
      let body := m.body.drop 4
      (u.stBytes (rxBuf (k - 36)) body).mbPresent k 0 (rxBuf (k - 36)) body.length 8
        ((if p.val = 0 then 0x5000 else 0x6000) + u.peerAddr p.val)))

/-- MBOX_ACK: the neighbour's return code completes an outbound notice; a late one is refused (R523, R524). -/
def execMboxAck (p : Fin 2) (b : List Byte) (s : State) : Host.Outcome State Fault Refusal :=
  .next (s.takeMsg p.val 0x31 b (fun u m =>
    let k := 36 + 4 * p.val + imgN m.body 0 1 % 4
    if u.mbState k 1 = 0 then ((u.mbRefuse k 1 8).mbEvent k 1 4).count R.MBOX_LATE_ACKS
    else u.mbComplete k 1 (imgN m.body 2 2)))

/-! ### Commands -/

/-- The code with which a post of `v` by master `m` is refused, 0 where it is accepted (R521, R524). -/
def State.postRefusal (s : State) (k d m : Nat) (v : Word) : Nat :=
  let n := v.toNat
  let lo := s.rdN (R.MBOX_D_POST_LO k d)
  let ptr := lo + n % 256 * 2 ^ 32
  let senders := s.mbSenders k d
  if s.mbState k d ≠ 0 then 1
  else if lo + s.rdN (R.MBOX_D_POST_CPL k d) ≠ 2 ^ 32 - 1 ∨ n % 256 + n / 256 % 256 ≠ 255 then 2
  else if !senders.contains m then 3
  else if decide (2 ≤ senders.length) && s.fget (F.MBOX_D_STATE_LOCK_OWNER k d) != m + 1 then 4
  else if isRemote k && d == 1 && (ptr != txBuf (k - 36) || n / 2 ^ 16 % 4 != 0 || decide (1016 < n / 2 ^ 16)) then 5
  else 0

/-- POST: master `m` writes `v` to POST_HI of direction `d` of mailbox `k` (R521). -/
def execPost (k : Fin 48) (d : Fin 2) (m : Fin 32) (v : Word) (s : State) : Host.Outcome State Fault Refusal :=
  let code := s.postRefusal k.val d.val m.val v
  let s1 := (s.mbUnstage k.val d.val).mbUnlock k.val d.val m.val
  .next (if code ≠ 0 then s1.mbRefuse k.val d.val code
    else
      let tag := v.toNat / 2 ^ 16
      let s2 := s1.mbPresent k.val d.val (s.rdN (R.MBOX_D_POST_LO k.val d.val) + v.toNat % 256 * 2 ^ 32) tag 0 (senderOf m.val)
      if isRemote k.val && d.val == 1 then s2.mbOutbound k.val tag else s2)

/-- What a read of LOCK by master `m` returns: 0 to its owner, and to a sender that finds it free; else the owner's number + 1
(R528). -/
def State.lockValue (s : State) (k d m : Nat) : Nat :=
  let o := s.fget (F.MBOX_D_STATE_LOCK_OWNER k d)
  if o = m + 1 then 0 else o

/-- LOCK_READ: a read of LOCK by master `m` (R528). -/
def execLockRead (k : Fin 48) (d : Fin 2) (m : Fin 32) (s : State) : Host.Outcome State Fault Refusal :=
  let ends := s.mbSenders k.val d.val
  let s1 := s.emit (.read (R.MBOX_D_LOCK k.val d.val) (s.lockValue k.val d.val m.val))
  .next (if decide (2 ≤ ends.length) && ends.contains m.val && s.fget (F.MBOX_D_STATE_LOCK_OWNER k.val d.val) == 0 then
      s1.fput (F.MBOX_D_STATE_LOCK_OWNER k.val d.val) (m.val + 1)
    else s1)

/-- LOCK_RELEASE: master `m` writes 0 to LOCK (R528). -/
def execLockRelease (k : Fin 48) (d : Fin 2) (m : Fin 32) (s : State) : Host.Outcome State Fault Refusal :=
  .next (s.mbUnlock k.val d.val m.val)

/-- NOTICE_READ: a read of NOTICE[3] marks a posted notice READ (R522, R531). -/
def execNoticeRead (k : Fin 48) (d : Fin 2) (s : State) : Host.Outcome State Fault Refusal :=
  let s1 := s.emit (.read (R.MBOX_D_NOTICE k.val d.val 3) (s.rdN (R.MBOX_D_NOTICE k.val d.val 3)))
  .next (if s.mbState k.val d.val = 1 then s1.fput (F.MBOX_D_STATE_STATE k.val d.val) 2 else s1)

/-- ACK: master `m` writes `v` to ACK of direction `d` of mailbox `k` (R523, R524). No refusal code is stated for a master that is
no receiver: LAST_REFUSE then takes a free value. -/
def execAck (k : Fin 48) (d : Fin 2) (m : Fin 32) (v : Word) (s : State) : Host.Outcome State Fault Refusal :=
  let n := v.toNat
  let code := n % 65536
  .next (if !(s.mbReceivers k.val d.val).contains m.val then (s.tick1.mbRefuse k.val d.val (Config.freeNat s.fresh % 256))
    else if code + n / 65536 ≠ 65535 then s.mbRefuse k.val d.val 7
    else if s.mbState k.val d.val = 0 then ((s.mbRefuse k.val d.val 8).mbEvent k.val d.val 4).count R.MBOX_LATE_ACKS
    else if bitOf (s.mbGetFlags k.val d.val) 1 && code != 0xFF00 then s.mbRefuse k.val d.val 9
    else
      let s1 := s.mbComplete k.val d.val code
      if isRemote k.val && d.val == 0 then
        s1.sendLink (remotePort k.val) 0x31 (leBytes 2 ((k.val - 36) % 4) ++ leBytes 2 code)
      else s1)

/-- MAILBOX_TIMEOUT: the acknowledge timer of a notice expires; the timers stop in SLEEP (R525, R532). -/
def execMailboxTimeout (k : Fin 48) (d : Fin 2) (s : State) : Host.Outcome State Fault Refusal :=
  .next (if s.mode = 0 ∨ s.mbState k.val d.val = 0 ∨ s.fget (F.MBOX_CFG_ACK_TIMEOUT k.val) = 0 then s
    else (((s.mbFree k.val d.val false).wrN (R.MBOX_D_ACK_STATUS k.val d.val) (2 ^ 31 + 0xFFFE)).mbEvent k.val d.val 2).count
      R.MBOX_TIMEOUTS)

/-- Whether both directions of mailbox `k` hold notices that have not crossed yet (R529). -/
def State.mbBothHeld (s : State) (k : Nat) : Bool :=
  s.mbState k 0 != 0 && s.mbState k 1 != 0 && !(bitOf (s.mbGetFlags k 0) 2 && bitOf (s.mbGetFlags k 1) 2)

/-- CROSS: both directions have held unacknowledged notices for MBOX.CROSS_WAIT cycles (R529). -/
def execCross (k : Fin 48) (s : State) : Host.Outcome State Fault Refusal :=
  .next (if !s.mbBothHeld k.val then s
    else ((s.forEach [0, 1] (fun u d => u.mbFlags k.val d (setBit (u.mbGetFlags k.val d) 2))).raise
      (F.MBOX_EVENT_CROSS k.val)).count R.MBOX_CROSSES)

/-! ### Resets on either side -/

/-- Every direction of every mailbox. -/
def mbAll : List (Nat × Nat) := (List.range 48).flatMap (fun k => [(k, 0), (k, 1)])

/-- Marks the notice of a direction and presents it again where it was READ, or always with `again` (R526, R527, R531). -/
def State.mbMark (s : State) (k d bit : Nat) (again : Bool) : State :=
  let s1 := s.mbFlags k d (setBit (s.mbGetFlags k d) bit)
  if again || s.mbState k d == 2 then (s1.fput (F.MBOX_D_STATE_STATE k d) 1).mbEvent k d 0 else s1

/-- The receivers of some directions are reset: their notices take STALE and are presented again (R526). -/
def State.mbStale (s : State) (dirs : List (Nat × Nat)) : State :=
  s.forEach (dirs.filter (fun e => s.mbState e.1 e.2 != 0)) (fun u e => (u.mbMark e.1 e.2 0 true).count R.MBOX_STALED)

/-- Master `m` is reset as a sender: its notices take VOID and its locks are released (R527). -/
def State.mbVoid (s : State) (m : Nat) : State :=
  s.forEach mbAll (fun u e =>
    let u1 := u.mbUnlock e.1 e.2 m
    if u1.mbState e.1 e.2 ≠ 0 ∧ u1.rdN (R.MBOX_D_NOTICE e.1 e.2 3) / 2 ^ 16 = senderOf m then
      (u1.mbMark e.1 e.2 1 false).count R.MBOX_VOIDED
    else u1)

/-- The directions that the active Curator receives (R520, R526). -/
def yDirs : List (Nat × Nat) := ((List.range 48).filter (fun k => !(decide (32 ≤ k) && decide (k ≤ 35)))).map (fun k => (k, 0))

/-- The directions whose X end is master `m` alone or among others (R526). -/
def State.xDirs (s : State) (m : Nat) : List (Nat × Nat) :=
  ((List.range 48).filter (fun k => (s.xMasters k).contains m)).map (fun k => (k, 1))

/-- The endpoint, a Clove engine or another X-end master `m` is reset (R526, R527). -/
def State.mbResetX (s : State) (m : Nat) : State := (s.mbStale (s.xDirs m)).mbVoid m

/-- A start clears every mailbox (R532). -/
def State.mbClear (s : State) : State :=
  s.forEach mbAll (fun u e => ((u.mbFree e.1 e.2 false).clr (R.MBOX_D_STATE e.1 e.2)).clr (R.MBOX_D_ACK_STATUS e.1 e.2))

end Sys2Proof.Machine
end

