-- ==== Sys2Proof/Machine/IrqBase.lean ====
section
/-!
DEFINITION. Machine/IrqBase.lean: the interrupt controller: inputs, states of the sources, routing, moderation, the event router and
entry to and exit from the handlers of the Curators (R577 to R597).
-/
namespace Sys2Proof.Machine

/-- Changes the interrupt controller beside its registers. -/
def State.irqMod (s : State) (f : IrqSt → IrqSt) : State := { s with irq := f s.irq }

/-- A Mace processor: 0 and 1 the Curators, 2 + e Clove engine e. -/
def State.mp (s : State) (p : Nat) : MaceSt := tget {} s.mace p

/-- Changes a Mace processor. -/
def State.mpMod (s : State) (p : Nat) (f : MaceSt → MaceSt) : State := { s with mace := tmod {} s.mace p f }

/-! ### Sources -/

/-- Whether any bit of an event register is set and enabled. -/
def State.anyEvent (s : State) (ev en : Nat) : Bool := (s.rd ev &&& s.rd en) != 0#32

/-- Whether bit `n` of an event register is set and enabled. -/
def State.oneEvent (s : State) (ev en n : Nat) : Bool := bitOf (s.rdN ev) n && bitOf (s.rdN en) n

/-- Whether a byte of ARRAY.TEV[g] holds a bit that TEV_EN enables, whose bits [7:0] apply to each byte (R232, R233). -/
def State.tevEvent (s : State) (g : Nat) : Bool :=
  (List.range 4).any (fun m => s.rdN (R.ARRAY_TEV g) / 2 ^ (8 * m) % 256 &&& s.rdN R.ARRAY_TEV_EN % 256 != 0)

/-- Whether any bit of `mask` is set and enabled. -/
def State.maskEvent (s : State) (ev en mask : Nat) : Bool := (s.rd ev &&& s.rd en &&& BitVec.ofNat 32 mask) != 0#32

/-- The Y-end and the X-end events of a mailbox, as masks of MBOX[k].EVENT (R539). -/
def yEvents : Nat := 0x10E11
def xEvents : Nat := 0x1110E

/-- Whether bits of `arr` [8 × m, 8 × m + 8) are not all zero: the OR over inputs 256m to 256m + 255 (R158). -/
def State.pendBank (s : State) (arr : Nat → Nat) (m : Nat) : Bool := (List.range 8).any (fun j => s.rd (arr (8 * m + j)) != 0#32)

/-- What drives source `k` (R72, R158, R233, R287, R328, R373, R414, R449, R475, R503, R535, R539, R576 to R578, R642, R665); inputs 640 to
655 of the event router are the X-end events of mailboxes 0 to 15 (R594). None for a source that is a pulse: its command is all there
is of it. -/
def State.sourceInput (s : State) (k : Nat) : Option Bool :=
  if k < 192 then some (s.anyEvent (R.LANE_EVENT k) (R.LANE_EVENT_EN k))
  else if k < 256 then
    let n := k - 192
    some (if n < 9 then s.oneEvent R.INGEST_EVENT R.INGEST_EVENT_EN n
      else if n < 32 then false
      else if n < 48 then s.pendBank R.INGEST_HIGH_PEND (n - 32)
      else s.pendBank R.INGEST_LOW_PEND (n - 48))
  else if k < 352 then
    let g := k - 256
    some (s.tevEvent g || (g == 0 && s.anyEvent R.ARRAY_EVENT R.ARRAY_EVENT_EN)
      || (g == 1 && s.maskEvent R.ACCUM_EVENT R.ACCUM_EVENT_EN 0x1FA) || (g == 2 && s.maskEvent R.ACCUM_EVENT R.ACCUM_EVENT_EN 0x5))
  else if k < 384 then some (decide (k - 352 < 11) && s.oneEvent R.BEAM_EVENT R.BEAM_EVENT_EN (k - 352))
  else if k < 448 then
    let n := (k - 384) / 2
    some (s.maskEvent (R.DMA_CH_EVENT n) (R.DMA_CH_EVENT_EN n) (if k % 2 = 0 then 0x3 else 0x7C))
  else if k < 496 then
    let m := k - 448
    some (s.maskEvent (R.MBOX_EVENT m) (R.MBOX_EVENT_EN m) (if 32 ≤ m ∧ m ≤ 35 ∨ 44 ≤ m then 0x11F1F else yEvents))
  else if k < 520 then
    let n := k - 496
    if 16 ≤ n ∧ n < 20 then none else some (decide (n < 16) && s.oneEvent R.TIME_EVENT R.TIME_EVENT_EN n)
  else if k < 536 then
    let n := k - 520
    if n < 4 then none
    else some (if n = 4 then bitOf (s.rdN R.CHAIN_RXQ_CTRL) 31 else n == 5 && s.anyEvent R.CHAIN_EVENT R.CHAIN_EVENT_EN)
  else if k < 568 then
    let c := (k - 536) % 16
    let on := fun (m : Nat) => [c, 16 + c].any (fun h => s.maskEvent (R.HBMC_CH_EVENT h) R.HBMC_CH_EVENT_EN m)
    some (if k < 552 then on 0x5 || (k == 536 && s.anyEvent R.HBMC_EVENT R.HBMC_EVENT_EN) else on 0x2)
  else if k < 584 then some (decide (k - 568 < 5) && s.oneEvent R.MATRIX_EVENT R.MATRIX_EVENT_EN (k - 568))
  else if k < 616 then
    let n := k - 584
    some (if n < 12 then s.oneEvent R.POWER_EVENT R.POWER_EVENT_EN n else n == 12 && s.anyEvent R.BOOT_EVENT R.BOOT_EVENT_EN)
  else if k < 640 then
    let n := k - 616
    some (if n = 0 then s.anyEvent R.CAT_EVENT R.CAT_EVENT_EN
      else if n = 1 then s.maskEvent R.CORE_EVENT R.CORE_EVENT_EN 0x1
      else if n = 2 then s.maskEvent R.CORE_EVENT R.CORE_EVENT_EN 0xFE
      else if n < 19 then s.anyEvent (R.CLOVE_EVENT (n - 3)) (R.CLOVE_EVENT_EN (n - 3))
      else if n = 19 then s.anyEvent R.HOSTIF_EVENT R.HOSTIF_EVENT_EN
      else if n = 20 then s.anyEvent R.MGMT_EVENT R.MGMT_EVENT_EN
      else if n = 21 then s.anyEvent R.IRQ_EVENT R.IRQ_EVENT_EN
      else bitOf (s.rdN R.IRQ_SW) (n - 22))
  else some (s.maskEvent (R.MBOX_EVENT (k - 640)) (R.MBOX_EVENT_EN (k - 640)) xEvents)

/-- The bases of the allocation groups (R577). -/
def irqBases : List Nat := [0, 192, 256, 352, 384, 448, 496, 520, 536, 568, 584, 616]

/-- The allocation group of source `k` (R577, R592). -/
def irqGroup (k : Nat) : Nat := (irqBases.filter (fun b => decide (b ≤ k))).length - 1

/-- Whether source `k` is edge-sensitive; a host mailbox input follows its level (R579). -/
def State.irqEdge (s : State) (k : Nat) : Bool := decide (k < 640) && s.fbit (F.IRQ_SRC_CFG_EDGE k)

/-- The targets of source `k`: 0 Curator A, 1 Curator B, 2 the host, 3 the active Curator (R581, R594). -/
def State.irqTargets (s : State) (k : Nat) : List Nat :=
  if 640 ≤ k then (if s.fbit (F.IRQ_HMBOX_EN (k - 640)) then [2] else [])
  else if s.fbit (F.IRQ_SRC_CFG_EN k) then
    (match s.fget (F.IRQ_SRC_CFG_TARGET k) with
     | 1 => [3]
     | 2 => [0]
     | 3 => [1]
     | 4 => [0, 1]
     | _ => []) ++ (if s.fbit (F.IRQ_SRC_CFG_HOST k) then [2] else [])
  else []

/-- The MSI-X vector of input `k` (R594). -/
def State.irqVec (s : State) (k : Nat) : Nat := if 640 ≤ k then s.fget (F.IRQ_HMBOX_VEC (k - 640)) else s.fget (F.IRQ_SRC_CFG_VEC k)

/-- Whether source `k` is fast toward a Curator target, and whether moderation applies to it (R581, R592). -/
def State.irqFast (s : State) (k : Nat) : Bool := decide (k < 640) && s.fbit (F.IRQ_SRC_CFG_FAST k)
def State.irqModerated (s : State) (k : Nat) : Bool :=
  decide (k < 640) && s.fbit (F.IRQ_SRC_CFG_MOD k) && !s.irqFast k && s.fget (F.IRQ_MOD_TIME (irqGroup k)) != 0

/-! ### States -/

/-- The state of source `k` toward target `t` (R579). -/
def State.irqGet (s : State) (k t : Nat) : Nat := tget 0 s.irq.st (4 * k + t)

/-- Whether source `k` is held toward `t` (R592). -/
def State.irqHeld (s : State) (k t : Nat) : Bool := s.irq.held.contains (4 * k + t)

/-- Whether MSI-X vector `v` is pending: an input of it is pending toward the host and not held (R594). -/
def State.vecPending (s : State) (v : Nat) : Bool :=
  s.irq.st.any (fun e => e.1 % 4 == 2 && e.2 == 1 && !s.irq.held.contains e.1 && s.irqVec (e.1 / 4) == v)

/-- Shows what IRQ.MSIX_PEND reads of vector `v` (R598). -/
def State.showVec (s : State) (v : Nat) : State := s.setFlag R.IRQ_MSIX_PEND v (s.vecPending v)

/-- Shows what IRQ.PEND and IRQ.ACTIVE read of source `k` (R598). -/
def State.showSource (s : State) (k : Nat) : State :=
  if 640 ≤ k then s
  else
    let sts := [0, 1, 2, 3].map (s.irqGet k)
    (s.setFlag R.IRQ_PEND k (sts.any (fun x => x == 1 || x == 3))).setFlag R.IRQ_ACTIVE k (sts.any (fun x => decide (2 ≤ x)))

/-- Puts source `k` into a state toward `t`; leaving PENDING ends a hold. -/
def State.irqSet (s : State) (k t st : Nat) : State :=
  let s1 := s.irqMod (fun i => { i with st := tset 0 i.st (4 * k + t) st, held := if st = 1 then i.held else i.held.erase (4 * k + t) })
  (s1.showSource k).doIf (t == 2) (fun u => u.showVec (u.irqVec k))

/-! ### The event router -/

/-- Whether the endpoint may send the message of vector `v` now (R594, R596). -/
def State.vecOpen (s : State) (v : Nat) : Bool :=
  s.fget F.HOSTIF_STATUS_DSTATE == 0 && !s.host.cold && s.fbit F.HOSTIF_STATUS_MSIX_EN && !s.fbit F.HOSTIF_STATUS_FMASK
    && !bitOf (s.rdN (R.HOSTIF_MSIX_CTRL v)) 0

/-- Sends the message of vector `v` where it is pending and may be sent: its pending inputs are thereby delivered (R579, R594). -/
def State.sendVec (s : State) (v : Nat) : State :=
  if s.vecPending v && s.vecOpen v then
    let ks := (s.irq.st.filter (fun e => e.1 % 4 == 2 && e.2 == 1 && !s.irq.held.contains e.1 && s.irqVec (e.1 / 4) == v)).map
      (fun e => e.1 / 4)
    ((s.forEach ks (fun u k => u.irqSet k 2 2)).emit (.msix v (s.rd64 (R.HOSTIF_MSIX_ADDR_LO v) (R.HOSTIF_MSIX_ADDR_HI v))
      (s.rdN (R.HOSTIF_MSIX_DATA v)))).count R.IRQ_MSIX_SENT
  else s

/-- The function is in D3hot or D3cold (R593, R596). -/
def State.inD3 (s : State) : Bool := s.fget F.HOSTIF_STATUS_DSTATE == 3 || s.host.cold

/-- Signals PME for a vector that becomes pending in D3 (R596, R649). -/
def State.signalPme (s : State) : State :=
  let s1 := (s.count R.IRQ_PME).raise F.IRQ_EVENT_PME
  ({ s1 with host := { s1.host with pme := true } }).doIf s.host.pmeEn (fun u => u.emit .pme)

/-- What a vector that is pending now, and was not before, does (R594, R596). -/
def State.vecRises (s : State) (v : Nat) (before : Bool) : State :=
  if !s.vecPending v || before then s
  else if s.inD3 then s.signalPme else s.sendVec v

/-! ### Becoming pending, and moderation -/

/-- The role of Curator `c`: 0 HELD, 1 BOOT, 2 SYNC, 3 STANDBY, 4 ACTIVE (R506). -/
def State.role (s : State) (c : Nat) : Nat := if c = 0 then s.fget F.CORE_STATUS_ROLE_A else s.fget F.CORE_STATUS_ROLE_B

/-- Whether Curator `c` is idle: stalled in WAITSI, or the device in SLEEP (R593). -/
def State.curIdle (s : State) (c : Nat) : Bool :=
  s.mode == 0 || (match (s.mp c).wait with
    | .si _ => true
    | _ => false)

/-- Whether a target is idle (R593). -/
def State.targetIdle (s : State) (t : Nat) : Bool :=
  if t = 2 then s.inD3
  else if t = 3 then (match s.activeCur with
    | some c => s.curIdle c
    | none => s.mode == 0)
  else s.curIdle t

/-- The Curator that target `t` names now. -/
def State.targetCur (s : State) (t : Nat) : Option Nat := if t = 2 then none else if t = 3 then s.activeCur else some t

/-- What source `k` does toward `t` once nothing holds it: a message for the host; a fast one finds a fast handler running (R590). -/
def State.irqOffer (s : State) (k t : Nat) (before : Bool) : State :=
  if t = 2 then s.vecRises (s.irqVec k) before
  else match s.targetCur t with
    | some c =>
      s.doIf (s.irqFast k && s.fbit (F.IRQ_CUR_STATUS_IN_FAST c)) (fun u => (u.raise F.IRQ_EVENT_FAST_LATE).count R.IRQ_FAST_LATE)
    | none => s

/-- Releases held keys: each takes part again (R592, R593). -/
def State.unhold (s : State) (keys : List Nat) : State :=
  let vs := ((keys.filter (fun x => x % 4 == 2)).map (fun x => s.irqVec (x / 4))).dedup
  let olds := vs.map (fun v => (v, s.vecPending v))
  let s1 := s.irqMod (fun i => { i with held := i.held.filter (fun x => !keys.contains x) })
  s1.forEach olds (fun u e => (u.showVec e.1).vecRises e.1 e.2)

/-- The held keys of group `g` (R592). -/
def State.heldOf (s : State) (g : Nat) : List Nat := s.irq.held.filter (fun x => irqGroup (x / 4) == g)

/-- Releases every held source of group `g`, counting the release (R592). -/
def State.releaseGroup (s : State) (g : Nat) : State :=
  if (s.heldOf g).isEmpty then s else (s.unhold (s.heldOf g)).count R.IRQ_MODERATED

/-- Source `k` becomes PENDING toward `t` (R579, R592, R593, R599). -/
def State.becomePending (s : State) (k t : Nat) : State :=
  let before := decide (t = 2) && s.vecPending (s.irqVec k)
  let s0 := s.raiseIf (t == 3 && s.activeCur.isNone) F.IRQ_EVENT_VACANT_HOLD
  if !s.irqModerated k then (s0.irqSet k t 1).irqOffer k t before
  else if s.targetIdle t then ((s0.irqSet k t 1).count R.IRQ_BYPASS).irqOffer k t before
  else
    let s1 := (s0.irqMod (fun i => { i with held := i.held ++ [4 * k + t] })).irqSet k t 1
    let g := irqGroup k
    let n := s.fget (F.IRQ_MOD_COUNT g)
    if n ≠ 0 ∧ n ≤ (((s1.heldOf g).map (fun x => x / 4)).dedup).length then s1.releaseGroup g else s1

/-- A source rises toward `t` (R579). -/
def State.irqPend (s : State) (k t : Nat) : State :=
  match s.irqGet k t with
  | 0 => s.becomePending k t
  | 2 => s.irqSet k t 3
  | _ => s

/-- Completes source `k` toward `t` (R579). -/
def State.irqComplete (s : State) (k t : Nat) : State :=
  match s.irqGet k t with
  | 2 => if !s.irqEdge k && s.irq.level.contains k then s.becomePending k t else s.irqSet k t 0
  | 3 => s.becomePending k t
  | _ => s

/-- A target becomes idle: everything held toward it is released as a wake event (R593). -/
def State.becomeIdle (s : State) (ts : List Nat) : State :=
  let keys := s.irq.held.filter (fun x => ts.contains (x % 4))
  (s.unhold keys).countBy R.IRQ_BYPASS keys.length

/-- The targets by which sources reach Curator `c`. -/
def State.curTargets (s : State) (c : Nat) : List Nat := if s.activeCur = some c then [c, 3] else [c]

/-- Shows whether Curator `c` is idle, releasing what is held toward it when it becomes so (R593). -/
def State.showIdle (s : State) (c : Nat) : State :=
  let was := s.fbit (F.IRQ_CUR_STATUS_IDLE c)
  let now := s.curIdle c
  (s.fput (F.IRQ_CUR_STATUS_IDLE c) (b2n now)).doIf (now && !was) (fun u => u.becomeIdle (u.curTargets c))

/-- The routing of source `k` changes by `f`: a target left is IDLE, and a level source that is asserted is pending toward a new one
(R579, R581). -/
def State.reroute (s : State) (k : Nat) (f : State → State) : State :=
  let s1 := f s
  let now := s1.irqTargets k
  let s2 := s1.forEach ([0, 1, 2, 3].filter (fun t => !now.contains t && s.irqGet k t != 0)) (fun u t => u.irqSet k t 0)
  let s3 := (s2.showVec (s.irqVec k)).showVec (s1.irqVec k)
  let s4 := s3.forEach (now.filter (fun t => !s3.irqEdge k && s3.irq.level.contains k && s3.irqGet k t == 0)) (fun u t => u.irqPend k t)
  s4.sendVec (s4.irqVec k)

/-! ### Handlers -/

/-- Whether Curator `c` executes at all: neither HELD nor stopped by R562, and the device not in SLEEP. -/
def State.curRuns (s : State) (c : Nat) : Bool := s.role c != 0 && !(s.mp c).stopped && s.mode != 0 && !s.boot.off

/-- Whether Curator `c` may take fast sources (R582). -/
def State.mayFast (s : State) (c : Nat) : Bool :=
  s.curRuns c && s.role c != 1 && s.fbit (F.IRQ_CUR_CTRL_FEN c) && !s.fbit (F.IRQ_CUR_STATUS_IN_FAST c)

/-- Whether Curator `c` may take normal sources (R582). -/
def State.mayNormal (s : State) (c : Nat) : Bool :=
  s.curRuns c && s.role c != 1 && s.fbit (F.IRQ_CUR_CTRL_NEN c) && !s.fbit (F.IRQ_CUR_STATUS_IN_FAST c)
    && !s.fbit (F.IRQ_CUR_STATUS_IN_NORMAL c) && !(s.mp c).bank.ecause.getLsbD 31

/-- Whether `k` goes before `j` at arbitration: higher PRIO, then the lower number (R582). -/
def State.irqBefore (s : State) (k j : Nat) : Bool :=
  let a := s.fget (F.IRQ_SRC_CFG_PRIO k)
  let b := s.fget (F.IRQ_SRC_CFG_PRIO j)
  decide (b < a) || (a == b && decide (k < j))

/-- The key of the source of a class that Curator `c` takes next: its number and target (R582). -/
def State.winner (s : State) (c : Nat) (fast : Bool) : Option (Nat × Nat) :=
  let ts := s.curTargets c
  let ks := (s.irq.st.filter (fun e => ts.contains (e.1 % 4) && (e.2 == 1) && !s.irq.held.contains e.1 && s.irqFast (e.1 / 4) == fast)).map
    (fun e => (e.1 / 4, e.1 % 4))
  ks.foldl (fun best e => match best with
    | none => some e
    | some w => if s.irqBefore e.1 w.1 then some e else some w) none

/-- The address of the vector of source `k` in Curator `c` (R584). -/
def State.vectorOf (s : State) (c k : Nat) : Word := (s.rd (R.IRQ_VBASE c) &&& 0xFFFFC000#32) + BitVec.ofNat 32 (16 * k)

/-- Where the normal frame of Curator `c` lies in its TCM (R586). -/
def State.frameAddr (s : State) (c : Nat) : Nat := 0x200000 + 0x100000 * c + s.rdN (R.IRQ_NFRAME c) / 32 * 32 % 0x80000

/-- Stores the frame: PC, DSPSTAT, sc and g1 to g5 of the normal bank; the Curator then leaves a WAITSI (R556, R586). -/
def State.pushFrame (s : State) (c : Nat) : State :=
  let p := s.mp c
  let ws := [p.pc, p.dspstat, p.bank.sc] ++ [1, 2, 3, 4, 5].map (tget 0#32 p.bank.g)
  (s.stBytes (s.frameAddr c) (ws.flatMap (fun w => leBytes 4 w.toNat))).raise (F.IRQ_CUR_STATUS_FRAME c)

/-- Loads the frame back (R586). -/
def State.popFrame (s : State) (c : Nat) : State :=
  let w := fun (i : Nat) => BitVec.ofNat 32 (s.ldNat (s.frameAddr c + 4 * i) 4)
  (s.mpMod c (fun p =>
    { p with pc := w 0, dspstat := w 1,
             bank := { p.bank with sc := w 2, g := [1, 2, 3, 4, 5].foldl (fun g i => tset 0#32 g i (w (i + 2))) p.bank.g } })).fput
    (F.IRQ_CUR_STATUS_FRAME c) 0

/-- Enters the vector of a normal source on the frame that stands stacked (R584, R586, R588). -/
def State.enterNormal (s : State) (c : Nat) (e : Nat × Nat) : State :=
  let s1 := (s.irqSet e.1 e.2 2).mpMod c (fun p => { p with pc := s.vectorOf c e.1, wait := .run })
  (((s1.raise (F.IRQ_CUR_STATUS_IN_NORMAL c)).fput (F.IRQ_CUR_STATUS_NORMAL_SRC c) e.1).count R.IRQ_NORMAL_DELIVERED).showIdle c

/-- Enters the vector of a fast source: nothing is stored, FPC holds where the normal bank resumes (R585, R589, R590). -/
def State.enterFast (s : State) (c : Nat) (e : Nat × Nat) : State :=
  let s1 := (s.irqSet e.1 e.2 2).mpMod c (fun p => { p with fpc := p.pc, pc := s.vectorOf c e.1, inFast := true, wait := .run })
  (((s1.raise (F.IRQ_CUR_STATUS_IN_FAST c)).fput (F.IRQ_CUR_STATUS_FAST_SRC c) e.1).count R.IRQ_FAST_DELIVERED).showIdle c

/-- Whether the exit of Curator `c`'s frame is under way (R588, R591). -/
def State.exiting (s : State) (c : Nat) : Bool := s.irq.exiting.contains c

/-- Begins or abandons the exit. -/
def State.setExit (s : State) (c : Nat) (on : Bool) : State :=
  s.irqMod (fun i => { i with exiting := if on then i.exiting ++ [c] else i.exiting.filter (fun x => x != c) })

/-- After an ERET with the frame stacked and no handler running: chain to a pending normal source, or run the exit (R588). -/
def State.chainOrExit (s : State) (c : Nat) : State :=
  if !s.fbit (F.IRQ_CUR_STATUS_FRAME c) || s.fbit (F.IRQ_CUR_STATUS_IN_NORMAL c) then s
  else match s.winner c false with
    | some e => if s.mayNormal c then s.enterNormal c e else s.setExit c true
    | none => s.setExit c true

/-- The return from the running handler of Curator `c`: its source is completed (R587, R588). -/
def State.returnHandler (s : State) (c : Nat) : State :=
  if (s.mp c).inFast then
    let k := s.fget (F.IRQ_CUR_STATUS_FAST_SRC c)
    let s1 := (s.mpMod c (fun p => { p with inFast := false, pc := p.fpc })).fput (F.IRQ_CUR_STATUS_IN_FAST c) 0
    (s1.forEach (s1.curTargets c) (fun u t => u.irqComplete k t)).chainOrExit c
  else
    let k := s.fget (F.IRQ_CUR_STATUS_NORMAL_SRC c)
    let s1 := s.fput (F.IRQ_CUR_STATUS_IN_NORMAL c) 0
    (s1.forEach (s1.curTargets c) (fun u t => u.irqComplete k t)).chainOrExit c

/-- The keys of the sources that are ACTIVE in Curator `c`. -/
def State.activeKeys (s : State) (c : Nat) : List Nat :=
  (s.irq.st.filter (fun e => (s.curTargets c).contains (e.1 % 4) && decide (2 ≤ e.2))).map Prod.fst

/-- Completes sources by key (R583). -/
def State.completeKeys (s : State) (keys : List Nat) : State := s.forEach keys (fun u x => u.irqComplete (x / 4) (x % 4))

/-! ### Commands -/

/-- SOURCE_RISE: the input of a source goes high (R579, R594, R597). -/
def execSourceRise (k : Fin 656) (s : State) : Host.Outcome State Fault Refusal :=
  .next (if s.irq.level.contains k.val || s.sourceInput k.val == some false then s
    else
      let s1 := s.irqMod (fun i => { i with level := i.level ++ [k.val] })
      s1.forEach (s1.irqTargets k.val) (fun u t => u.irqPend k.val t))

/-- SOURCE_FALL: the input of a source goes low (R579). -/
def execSourceFall (k : Fin 656) (s : State) : Host.Outcome State Fault Refusal :=
  .next (if !s.irq.level.contains k.val || s.sourceInput k.val == some true then s
    else
      let s1 := s.irqMod (fun i => { i with level := i.level.filter (fun x => x != k.val) })
      if s1.irqEdge k.val then s1
      else s1.forEach ([0, 1, 2, 3].filter (fun t => s1.irqGet k.val t == 1)) (fun u t => u.irqSet k.val t 0))

/-- MODERATION_RELEASE: the timer of a group expires; it does not run in SLEEP (R592, R597). -/
def execModerationRelease (g : Fin 12) (s : State) : Host.Outcome State Fault Refusal :=
  .next (if s.mode = 0 then s else s.releaseGroup g.val)

/-- HOST_ACK: the host completes a vector (R595). -/
def execHostAck (v : Fin 256) (s : State) : Host.Outcome State Fault Refusal :=
  let ks := ((s.irq.st.filter (fun e => e.1 % 4 == 2 && s.irqVec (e.1 / 4) == v.val)).map (fun e => e.1 / 4))
  let s1 := s.forEach ks (fun u k => u.irqComplete k 2)
  .next ((s1.showVec v.val).sendVec v.val)

/-- MSIX_UNMASK: the function mask, or the mask of one vector, is cleared; what waited is sent (R594). -/
def execMsixUnmask (v : Option (Fin 256)) (s : State) : Host.Outcome State Fault Refusal :=
  .next (match v with
    | none => (s.fput F.HOSTIF_STATUS_FMASK 0).forEach (List.range 256) (fun u k => u.sendVec k)
    | some k => (s.fput ⟨R.HOSTIF_MSIX_CTRL k.val, 0, 1⟩ 0).sendVec k.val)

/-- PCIE_DSTATE_CHANGE: the function's power state, with the other bits of configuration space that the host's software holds then: Bus
Master Enable, Memory Space Enable, MSI-X Enable, Function Mask and PME_En (R593, R596, R649, R664). -/
def execPcieDstateChange (d : Fin 3) (bme mse msix fmask pmeEn : Bool) (s : State) : Host.Outcome State Fault Refusal :=
  let was := s.inD3
  let old := (s.fget F.HOSTIF_STATUS_DSTATE, s.host.cold)
  let s1 := ((((s.fput F.HOSTIF_STATUS_BME (b2n bme)).fput F.HOSTIF_STATUS_MSE (b2n mse)).fput F.HOSTIF_STATUS_MSIX_EN (b2n msix)).fput
    F.HOSTIF_STATUS_FMASK (b2n fmask)).fput F.HOSTIF_STATUS_DSTATE (if d.val = 0 then 0 else 3)
  let s2 := { s1 with host := { s1.host with cold := d.val == 2, pmeEn := pmeEn } }
  let s3 := s2.raiseIf (old != (s2.fget F.HOSTIF_STATUS_DSTATE, s2.host.cold)) F.HOSTIF_EVENT_DSTATE
  .next (if s3.inD3 then s3.doIf (!was) (fun u => u.becomeIdle [2])
    else s3.forEach (List.range 256) (fun u k => u.sendVec k))

/-- FAST_ENTRY: a Curator's winning fast source is delivered; `during` says that it arrived during a normal entry, whose frame store then
completes in the background (R589 to R591). -/
def execFastEntry (c : Fin 2) (during : Bool) (s : State) : Host.Outcome State Fault Refusal :=
  .next (match s.winner c.val true with
    | none => s
    | some e =>
      if !s.mayFast c.val then s
      else
        let begun := during && (s.winner c.val false).isSome && s.mayNormal c.val && !s.fbit (F.IRQ_CUR_STATUS_FRAME c.val)
        let s1 := s.doIf begun (fun u => u.pushFrame c.val)
        (s1.setExit c.val false).enterFast c.val e)

/-- NORMAL_ENTRY: a Curator takes its winning normal source, the frame being stored unless it stands stacked (R582, R584, R586). -/
def execNormalEntry (c : Fin 2) (s : State) : Host.Outcome State Fault Refusal :=
  .next (match s.winner c.val false with
    | none => s
    | some e =>
      if !s.mayNormal c.val || s.exiting c.val || (s.winner c.val true).isSome && s.mayFast c.val then s
      else (s.doIf (!s.fbit (F.IRQ_CUR_STATUS_FRAME c.val)) (fun u => u.pushFrame c.val)).enterNormal c.val e)

/-- NORMAL_EXIT: the exit that an ERET began loads the frame back (R586, R588). -/
def execNormalExit (c : Fin 2) (s : State) : Host.Outcome State Fault Refusal :=
  .next (if s.exiting c.val && s.curRuns c.val then (s.popFrame c.val).setExit c.val false else s)

end Sys2Proof.Machine
end

