-- ==== Sys2Proof/Machine/Lease.lean ====
section
/-!
DEFINITION. Machine/Lease.lean: the roles of the Curators, the lease, failover and health (R505 to R519).
-/
namespace Sys2Proof.Machine

/-- CLK_CORE in MHz (R18): 1,200 on DLD2048-12-B0. -/
def State.coreMHz (s : State) : Nat := if s.rdN R.DEVICE_BIN = 0x0C then 1200 else 1500

/-- The lease word of an owner code: the code and its complement (R508). -/
def leaseWord (o : Nat) : Nat := o + (65535 - o) * 2 ^ 16

/-- The role field of Curator `c` (R534). -/
def roleField (c : Nat) : Field := if c = 0 then F.CORE_STATUS_ROLE_A else F.CORE_STATUS_ROLE_B
def goodField (c : Nat) : Field := if c = 0 then F.CORE_STATUS_GOOD_A else F.CORE_STATUS_GOOD_B
def tcmUeField (c : Nat) : Field := if c = 0 then F.CORE_STATUS_TCM_UE_A else F.CORE_STATUS_TCM_UE_B

/-- CORE.HEALTH_MAXAGE in force: values outside 100 to 1,000,000 act as the nearer limit (R533). -/
def State.maxAge (s : State) : Nat := max 100 (min 1000000 (s.rdN R.CORE_HEALTH_MAXAGE % 2 ^ 20))

/-- Whether Curator `c` is GOOD (R516). -/
def State.isGood (s : State) (c : Nat) : Bool :=
  let h := s.rdN (R.CORE_HEALTH c)
  h % 65536 + h / 65536 == 65535 && h / 256 % 32 == 0 && decide (s.rdN (R.CORE_HEALTH_AGE c) ≤ s.maxAge)
    && !s.fbit (tcmUeField c) && (s.role c == 2 || s.role c == 3)

/-- Brings the GOOD bit of Curator `c` up to date; its fall in STANDBY raises HEALTH_BAD (R516). -/
def State.showGood (s : State) (c : Nat) : State :=
  let was := s.fbit (goodField c)
  let now := s.isGood c
  (s.fput (goodField c) (b2n now)).raiseIf (was && !now && s.role c == 3) F.CORE_EVENT_HEALTH_BAD

/-- Puts Curator `c` into a role. -/
def State.setRole (s : State) (c r : Nat) : State := (s.fput (roleField c) r).showGood c

/-- Whether Curator `c` is qualified: in STANDBY, with its GOOD bit set and nothing that makes it fall (R511, R516). -/
def State.curQualified (s : State) (c : Nat) : Bool := s.role c == 3 && s.fbit (goodField c) && s.isGood c

/-- Loads CORE.LEASE_LEFT (R509). -/
def State.loadLease (s : State) : State := s.wrN R.CORE_LEASE_LEFT (s.rdN R.CORE_LEASE_PERIOD * s.coreMHz % 2 ^ 28)

/-- The lease passes to Curator `c`, which becomes ACTIVE; what is held toward an owner that is idle is released (R509, R593). -/
def State.giveLease (s : State) (c : Nat) : State :=
  let s1 := (((s.wrN R.CORE_LEASE (leaseWord (c + 1))).fput F.CORE_STATUS_VACANT 0).setRole c 4).loadLease
  s1.doIf (s1.targetIdle 3) (fun u => u.becomeIdle [3])

/-- The lease becomes VACANT (R508). -/
def State.vacate (s : State) : State :=
  ((s.wrN R.CORE_LEASE (leaseWord 0)).fput F.CORE_STATUS_VACANT 1).clr R.CORE_LEASE_LEFT

/-- The directions that Curator `c` receives: those it receives as itself, and with `active` those of the active Curator (R520, R526). -/
def State.curDirs (s : State) (c : Nat) (active : Bool) : List (Nat × Nat) :=
  s.xDirs c ++ (if c = 1 then [32, 33, 34, 35].map (fun k => (k, 0)) else []) ++ (if active then yDirs else [])

/-- Resets the processor of Curator `c` and its handlers' state. -/
def State.resetCur (s : State) (c : Nat) : State :=
  let s1 := (s.mpMod c (fun _ => {})).setExit c false
  (s1.wr (R.IRQ_CUR_STATUS c) 0#32).showIdle c

/-- Curator `c` enters HELD: its REMAP bit clears, and the mailboxes see the reset of a receiver and a sender (R454, R506, R526, R527). -/
def State.enterHeld (s : State) (c : Nat) (active : Bool) : State :=
  let dirs := s.curDirs c active
  let s1 := (s.setRole c 0).fput (if c = 0 then F.MATRIX_CTRL_REMAP_A else F.MATRIX_CTRL_REMAP_B) 0
  ((s1.resetCur c).mbStale dirs).mbVoid c

/-- Curator `c` enters BOOT: its TCM_UE clears and it runs the boot ROM (R505, R506, R526, R527). -/
def State.enterBoot (s : State) (c : Nat) (active : Bool) : State :=
  let dirs := s.curDirs c active
  ((((s.fput (tcmUeField c) 0).setRole c 1).resetCur c).mbStale dirs).mbVoid c

/-- Records TIME.SI_NOW as the SI of a transfer. -/
def State.noteTransfer (s : State) : State := s.wr64 R.CORE_TRANSFER_SI_LO R.CORE_TRANSFER_SI_HI s.siNow

/-- The lease leaves the active Curator `c` (R511, R514, R515, R583). -/
def State.leaveLease (s : State) (c : Nat) : State :=
  let o := 1 - c
  let keys := s.activeKeys c
  let pass := s.curQualified o
  let s1 := if pass then s.giveLease o else s.vacate.raise F.CORE_EVENT_VACANT
  let s2 := (s1.completeKeys keys).enterHeld c true
  let s3 := ((s2.count R.CORE_FAILOVERS).noteTransfer).raise F.CORE_STATUS_FAILOVER
  { s3.raiseIf pass F.CORE_EVENT_TAKEOVER with lastOwner := some c }

/-- Refuses a write of LEASE_RENEW or LEASE_CLAIM (R510, R513). -/
def State.renewBad (s : State) : State := (s.count R.CORE_RENEW_BAD).raise F.CORE_EVENT_RENEW_BAD

/-! ### Commands -/

/-- LEASE_RENEW: master `m` writes CORE.LEASE_RENEW (R509, R510). -/
def execLeaseRenew (m : Fin 32) (v : Word) (s : State) : Host.Outcome State Fault Refusal :=
  .next (if s.activeCur = some m.val ∧ v = s.rd R.CORE_LEASE then s.loadLease
    else if s.lastOwner = some m.val ∧ s.activeCur ≠ some m.val ∧ v.toNat = leaseWord (m.val + 1) then
      (s.count R.CORE_LATE_RENEW).raise F.CORE_EVENT_LATE_RENEW
    else s.renewBad)

/-- LEASE_CLAIM: master `m` writes CORE.LEASE_CLAIM (R513). -/
def execLeaseClaim (m : Fin 32) (v : Word) (s : State) : Host.Outcome State Fault Refusal :=
  .next (if s.activeCur.isNone ∧ m.val < 2 ∧ s.curQualified m.val ∧ v.toNat = leaseWord (m.val + 1) then
      (s.giveLease m.val).raise F.CORE_EVENT_TAKEOVER
    else s.renewBad)

/-- Whether the lease has expired: its count stands at zero, or its word and complement mismatch (R508, R509). -/
def State.leaseOver (s : State) : Bool :=
  s.rdN R.CORE_LEASE_LEFT == 0 || s.rdN R.CORE_LEASE % 65536 + s.rdN R.CORE_LEASE / 65536 != 65535

/-- LEASE_EXPIRY: CORE.LEASE_LEFT has reached zero, or the lease word mismatches. A renewal that has loaded the count afresh leaves
nothing to expire, and the count stands in SLEEP (R26, R508, R509, R511). -/
def execLeaseExpiry (s : State) : Host.Outcome State Fault Refusal :=
  .next (match s.activeCur with
    | some c => if s.mode != 0 && s.leaseOver then s.leaveLease c else s
    | none => s)

/-- YIELD: master `m` writes CORE.CTRL.YIELD (R512, R515, R526, R583). -/
def execYield (m : Fin 32) (s : State) : Host.Outcome State Fault Refusal :=
  .next (if s.activeCur ≠ some m.val then s
    else if s.curQualified (1 - m.val) then
      let keys := s.activeKeys m.val
      ((((s.giveLease (1 - m.val)).completeKeys keys).enterBoot m.val true).noteTransfer)
    else s.raise F.CORE_EVENT_YIELD_REFUSED)

/-- CURATOR_HOLD: CORE.CTRL.HOLD_A or HOLD_B is written (R506, R511). -/
def execCuratorHold (c : Fin 2) (s : State) : Host.Outcome State Fault Refusal :=
  .next (if s.activeCur = some c.val then s.leaveLease c.val
    else if s.role c.val = 0 then s
    else (s.completeKeys (s.activeKeys c.val)).enterHeld c.val false)

/-- CURATOR_RELEASE: CORE.CTRL.RELEASE_A or RELEASE_B is written (R506, R534). -/
def execCuratorRelease (c : Fin 2) (s : State) : Host.Outcome State Fault Refusal :=
  .next (if s.role c.val = 0 then s.enterBoot c.val false else s)

/-- FAILOVER_DONE: master `m` writes CORE.CTRL.FAILOVER_DONE (R514). -/
def execFailoverDone (m : Fin 32) (s : State) : Host.Outcome State Fault Refusal :=
  .next (if s.activeCur = some m.val ∧ s.fbit F.CORE_STATUS_FAILOVER then
      (s.fput F.CORE_STATUS_FAILOVER 0).raise F.CORE_EVENT_FAILOVER_DONE
    else s)

/-- FAILOVER_SLOW: the failover interval reaches 2 ms (R514). -/
def execFailoverSlow (s : State) : Host.Outcome State Fault Refusal :=
  .next (s.raiseIf (s.fbit F.CORE_STATUS_FAILOVER) F.CORE_EVENT_FAILOVER_SLOW)

/-- HEALTH_WRITE: master `m` writes CORE.HEALTH[c] (R506, R516). -/
def execHealthWrite (m : Fin 32) (c : Fin 2) (v : Word) (s : State) : Host.Outcome State Fault Refusal :=
  .next (if m.val ≠ c.val then s
    else
      let s0 := { s with time := { s.time with ageTicks := tset 0 s.time.ageTicks c.val 0 } }
      let s1 := ((s0.wr (R.CORE_HEALTH c.val) (v &&& 0xFFFF1FFF#32)).clr (R.CORE_HEALTH_AGE c.val)).showGood c.val
      if s.role c.val = 1 then s1.setRole c.val 2
      else if s.role c.val = 2 ∧ s1.fbit (goodField c.val) then s1.setRole c.val 3
      else s1)

/-- HEALTH_BAD: the age of a health word has passed CORE.HEALTH_MAXAGE, and GOOD falls (R516). -/
def execHealthBad (c : Fin 2) (s : State) : Host.Outcome State Fault Refusal :=
  .next (if s.maxAge < s.rdN (R.CORE_HEALTH_AGE c.val) then s.showGood c.val else s)

/-! ### What a tick counts -/

/-- One tick of the age of the health word of Curator `c`, which counts µs (R516). -/
def State.ageTick (s : State) (c : Nat) : State :=
  let k := tget 0 s.time.ageTicks c + 1
  let s1 := { s with time := { s.time with ageTicks := tset 0 s.time.ageTicks c (k % 250) } }
  if k = 250 then s1.wrN (R.CORE_HEALTH_AGE c) (satN 20 (s.rdN (R.CORE_HEALTH_AGE c) + 1)) else s1

/-- The core cycles of the present 250 MHz tick: 6 at 1,500 MHz, and at 1,200 MHz 4.8 on average (R18). -/
def State.coreCycles (s : State) : Nat := (s.time.usTicks + 1) * s.coreMHz / 250 - s.time.usTicks * s.coreMHz / 250

/-- What one 250 MHz tick counts for the Curators: the core cycles of the lease, which stand in SLEEP, and the ages of the health
words (R509, R516). -/
def State.coreTick (s : State) : State :=
  let s1 := if s.mode = 0 then s else s.wrN R.CORE_LEASE_LEFT (s.rdN R.CORE_LEASE_LEFT - s.coreCycles)
  ({ s1 with time := { s1.time with usTicks := (s.time.usTicks + 1) % 250 } }.ageTick 0).ageTick 1

/-- TCM_UE: an uncorrectable error in the TCM of Curator `c` (R505, R511). -/
def execTcmUe (c : Fin 2) (s : State) : Host.Outcome State Fault Refusal :=
  let s1 := (s.raise (tcmUeField c.val)).showGood c.val
  .next (if s.activeCur = some c.val ∧ s.fbit F.CORE_CTRL_UE_YIELD then s1.leaveLease c.val else s1)

/-- CKPT_WRITE: master `m` writes CORE.CKPT (R518). -/
def execCkptWrite (m : Fin 32) (v : Word) (s : State) : Host.Outcome State Fault Refusal :=
  .next (if s.activeCur = some m.val then s.wr R.CORE_CKPT v else s)

end Sys2Proof.Machine
end

