-- ==== Sys2Proof/Machine/CloveCtl.lean ====
section
/-!
DEFINITION. Machine/CloveCtl.lean: the states of the Clove engines, the writes of CLOVE[e].CTRL, and the loading of code from the
Catalogue (R569 to R572, R575).
-/
namespace Sys2Proof.Machine

/-- The state of engine `e`: 0 OFF, 1 RUN, 2 HALTED, 3 FAULT (R569). -/
def State.cloveState (s : State) (e : Nat) : Nat := s.fget (F.CLOVE_STATUS_STATE e)

/-- Shows what CLOVE[e].STATUS reads of the engine's waits and moves (R575). -/
def State.showClove (s : State) (e : Nat) : State :=
  let p := s.mp (2 + e)
  let w := s.cloveState e == 1 && (match p.wait with
    | .si _ => true
    | .flags _ => true
    | .moves => true
    | _ => false)
  (s.fput (F.CLOVE_STATUS_WAITING e) (b2n w)).fput (F.CLOVE_STATUS_MOVES e) p.moves.length

/-- Puts engine `e` into OFF: held in reset, DMAREQ and FLAGS clear, the mailboxes told of the reset (R526, R527, R569). -/
def State.cloveOff (s : State) (e : Nat) : State :=
  let s1 := ((s.mpMod (2 + e) (fun _ => {})).fput (F.CLOVE_STATUS_STATE e) 0).fput (F.CLOVE_STATUS_DMAREQ e) 0
  (((s1.fput (F.CLOVE_STATUS_CAUSE e) 0).fput (F.CLOVE_CTRL_RESET e) 0).showClove e).mbResetX (2 + e)

/-- The registers on entry to RUN from OFF, with `si` for the pair g4 (R570). -/
def State.cloveStart (s : State) (e si : Nat) : State :=
  let g := [(1, e), (2, s.catAddr), (4, si), (5, si / 2 ^ 32)].foldl (fun t x => tset 0#32 t x.1 (BitVec.ofNat 32 x.2)) []
  ((s.mpMod (2 + e) (fun _ => { pc := s.rd (R.CLOVE_ENTRY e), bank := { g := g } })).fput (F.CLOVE_STATUS_STATE e) 1).showClove e

/-- Where execution goes on after the instruction that ends at `next`: the innermost loop whose body ends there is evaluated
first (R554). -/
def loopNext : List LoopSt → Nat → List LoopSt × Nat
  | [], n => ([], n)
  | l :: ls, n =>
    if n = l.stop then
      if 1 < l.count then ({ l with count := l.count - 1 } :: ls, l.start) else loopNext ls n
    else (l :: ls, n)

/-- Stops engine `e` in HALTED or FAULT; a WAITSI ends, another waiting instruction executes again on RUN (R554, R556, R569). -/
def State.cloveStop (s : State) (e st : Nat) : State :=
  let past := match (s.mp (2 + e)).wait with
    | .si _ => true
    | _ => false
  let s1 := s.mpMod (2 + e) (fun p =>
    let r := if past then loopNext p.loops (p.pc + 4#32).toNat else (p.loops, p.pc.toNat)
    { p with loops := r.1, pc := BitVec.ofNat 32 r.2, wait := .run, waiting := none })
  let s2 := (s1.fput (F.CLOVE_STATUS_STATE e) st).wr (R.CLOVE_PC e) (s1.mp (2 + e)).pc
  (s2.raise (if st = 2 then F.CLOVE_EVENT_HALTED e else F.CLOVE_EVENT_FAULT e)).showClove e

/-- Whether a reset of engine `e` waits for its moves (R569). -/
def State.cloveResetting (s : State) (e : Nat) : Bool := s.fbit (F.CLOVE_CTRL_RESET e)

/-- Counts `n` core cycles of engine `e` in counter `k`, 0 CYCLES and 1 WAITS, in units of 1,024 (R574). -/
def State.countCycles (s : State) (e k n : Nat) : State :=
  let a := tget 0 s.time.cloveCyc (2 * e + k) + n
  ({ s with time := { s.time with cloveCyc := tset 0 s.time.cloveCyc (2 * e + k) (a % 1024) } }).countBy
    (if k = 0 then R.CLOVE_CYCLES e else R.CLOVE_WAITS e) (a / 1024)

/-- What one 250 MHz tick counts for the engines that run: their core cycles, and those of their waits (R574). -/
def State.cloveTick (s : State) : State :=
  if s.mode = 0 then s
  else s.forEach ((List.range 16).filter (fun e => s.cloveState e == 1)) (fun u e =>
    (u.countCycles e 0 s.coreCycles).doIf (s.fbit (F.CLOVE_STATUS_WAITING e)) (fun v => v.countCycles e 1 s.coreCycles))

/-! ### Code from the Catalogue -/

/-- The code images that name engine `e` in the CLOVE section of a Catalogue (R342, R572). -/
def cloveSet (img : List Byte) (a e : Nat) : List (Nat × Nat × List Byte) :=
  match sectOpt img a 5 with
  | none => []
  | some b => ((cloveOf b).filter (fun i => i.names e)).map (fun i => (i.entry, i.load, i.code))

/-- Loads engine `e` in OFF: zero to P, X, Y and C, its images, and its ENTRY; an engine that no image names stays OFF (R572). -/
def State.cloveLoad (s : State) (e : Nat) (is : List (Nat × Nat × List Byte)) : State :=
  let base := 0x2800000 + 0x80000 * e
  let s1 := { s with mem := s.mem.filter (fun c => !(decide (base ≤ c.1) && decide (c.1 < base + 0x60000))) }
  let s2 := s1.forEach is (fun u i => u.stBytes (base + i.2.1) i.2.2)
  match is.find? (fun i => i.1 != 0xFFFFFFFF) with
  | some i => ((s2.wrN (R.CLOVE_ENTRY e) i.1).raise (F.CLOVE_EVENT_LOADED e)).fput (F.CLOVE_STATUS_LOADING e) 1
  | none => s2

/-- Engine `e` goes to OFF and loads the images `is`; one with outstanding moves waits for them first, shown as LOADING and RESET
(R569, R572). -/
def State.cloveRenew (s : State) (e : Nat) (is : List (Nat × Nat × List Byte)) : State :=
  if (s.mp (2 + e)).moves.isEmpty then ((s.cloveOff e).fput (F.CLOVE_STATUS_LOADING e) 0).cloveLoad e is
  else ((s.mpMod (2 + e) (fun p => { p with wait := .run, waiting := none })).raise (F.CLOVE_CTRL_RESET e)).fput
    (F.CLOVE_STATUS_LOADING e) 1

/-- Reloads the engines whose images differ between two Catalogues (R572). -/
def State.cloveReload (s : State) (old new : List Byte) (aOld aNew : Nat) : State :=
  s.forEach ((List.range 16).filter (fun e => cloveSet old aOld e != cloveSet new aNew e)) (fun u e =>
    u.cloveRenew e (cloveSet new aNew e))

/-- A reset of engine `e` that waited for its moves is carried out; a reload that it belongs to loads the images in force (R569, R572). -/
def State.cloveMovesDone (s : State) (e : Nat) : State :=
  if s.fbit (F.CLOVE_STATUS_LOADING e) then s.cloveRenew e (cloveSet s.cat.live s.catAddr e) else s.cloveOff e

/-- Whether a reloading engine still waits for its moves (R569, R572). -/
def State.cloveHeld (s : State) : Bool := (List.range 16).any (fun e => s.fbit (F.CLOVE_STATUS_LOADING e) && s.cloveResetting e)

/-- Every reloaded engine enters RUN, with the accession SI `x` (R570, R572). -/
def State.cloveLoaded (s : State) (x : Nat) : State :=
  s.forEach ((List.range 16).filter (fun e => s.fbit (F.CLOVE_STATUS_LOADING e))) (fun u e =>
    (u.fput (F.CLOVE_STATUS_LOADING e) 0).cloveStart e x)

/-! ### Commands -/

/-- CLOVE_RUN: CLOVE[e].CTRL.RUN is written (R569, R570). -/
def execCloveRun (e : Fin 16) (s : State) : Host.Outcome State Fault Refusal :=
  .next (if s.fbit (F.CLOVE_STATUS_LOADING e.val) || s.cloveResetting e.val then s
    else match s.cloveState e.val with
      | 0 => s.cloveStart e.val s.siNow
      | 2 => (s.fput (F.CLOVE_STATUS_STATE e.val) 1).showClove e.val
      | _ => s)

/-- CLOVE_HALT: CLOVE[e].CTRL.HALT is written (R569). -/
def execCloveHalt (e : Fin 16) (s : State) : Host.Outcome State Fault Refusal :=
  .next (if s.cloveState e.val = 1 ∧ !s.cloveResetting e.val then s.cloveStop e.val 2 else s)

/-- CLOVE_RESET: CLOVE[e].CTRL.RESET is written; OFF waits for the outstanding moves (R569). -/
def execCloveReset (e : Fin 16) (s : State) : Host.Outcome State Fault Refusal :=
  .next (if (s.mp (2 + e.val)).moves.isEmpty then s.cloveOff e.val
    else (s.mpMod (2 + e.val) (fun p => { p with wait := .run, waiting := none })).raise (F.CLOVE_CTRL_RESET e.val))

/-- KICK: CLOVE[e].CTRL.KICK is written; FLAGS stay clear in OFF (R569, R575). -/
def execKick (e : Fin 16) (s : State) : Host.Outcome State Fault Refusal :=
  .next (if s.cloveState e.val = 0 then s else s.mpMod (2 + e.val) (fun p => { p with kick := true }))

end Sys2Proof.Machine
end

