-- ==== Sys2Proof/Machine/SnapReq.lean ====
section
/-!
DEFINITION. Machine/SnapReq.lean: a request for a snapshot, local or from the chain (R653).
-/
namespace Sys2Proof.Machine

/-- Schedules a snapshot asked for at SI `req` at the pass boundary that it resolves to; gives the code of a refusal, 0 where it is
scheduled (R32, R33, R36, R653). -/
def State.snapRequest (s : State) (req : Nat) (fromChain : Bool) : State × Nat :=
  let x := s.boundaryAt req
  let code := if s.fbit F.SNAP_STATUS_PENDING then 0x22 else if req ≤ s.siNow then 0x20 else if siEnd < x then 0x21 else 0
  if code ≠ 0 then ((s.fput F.SNAP_STATUS_REASON code).raise F.HOSTIF_EVENT_SNAP_REFUSED, code)
  else
    let s2 := ((s.fput F.SNAP_STATUS_PENDING 1).fput F.SNAP_STATUS_CHAIN (b2n fromChain)).wr64 R.SNAP_RESOLVED_SI_LO R.SNAP_RESOLVED_SI_HI x
    ({ s2 with snap := {} }, 0)

/-- SNAPSHOT_REQUEST: a write of SNAP.CTRL with GO resolves the SI and schedules a local snapshot, or refuses it (R653). -/
def execSnapshotRequest (next : Bool) (s : State) : Host.Outcome State Fault Refusal :=
  let s0 := s.fput F.SNAP_CTRL_NEXT (b2n next)
  .next (s0.snapRequest (if next then s.nextBoundary else s.rd64 R.SNAP_SI_LO R.SNAP_SI_HI) false).1

end Sys2Proof.Machine
end

