-- ==== Sys2Proof/Machine/Time.lean ====
section
/-!
DEFINITION. Machine/Time.lean: device time, references and the commands of the time and reference unit (R45 to R68). A command that stands for
a moment of the time unit acts once that moment has come; ticks pass while the queue is empty.
-/
namespace Sys2Proof.Machine

/-! ### Outputs -/

/-- Whether TIME.OUT.SQUELCH holds the outputs low in the present state (R68). -/
def State.squelched (s : State) : Bool :=
  let st := s.fget F.TIME_STATE_STATE
  match s.fget F.TIME_OUT_SQUELCH with
  | 0 => false
  | 1 => st == 0 || st == 1 || st == 4
  | 2 => st != 2
  | _ => true

/-- PPS_OUT is driven (R68, R77). -/
def State.ppsDriven (s : State) : Bool := s.fbit F.TIME_OUT_PPS_EN && !s.squelched

/-- CLK_OUT is driven (R68, R77). -/
def State.clkDriven (s : State) : Bool := s.fbit F.TIME_OUT_CLK_EN && !s.squelched

/-- What a change from `s0` to `s1` does to the outputs: an output that goes between driven and held low raises PPS_SQUELCH,
and a PPS_OUT held low is low (R68). -/
def squelchNote (s0 s1 : State) : State :=
  let s2 := s1.raiseIf (s0.ppsDriven != s1.ppsDriven || s0.clkDriven != s1.clkDriven) F.TIME_EVENT_PPS_SQUELCH
  { s2 with time := { s2.time with ppsOut := s2.time.ppsOut && s1.ppsDriven } }

/-! ### Rate and slew -/

/-- Sets TIME.INCR for a slew rate of `e` parts per 10^9, rounded to the nearest 2^−32 ns (R46). -/
def State.setIncr (s : State) (e : Int) : State :=
  let scaled : Int := 4 * 2 ^ 32 * (1000000000 + e)
  let n := ((2 * scaled + 1000000000) / 2000000000).toNat
  (s.wrN R.TIME_INCR_FRAC n).wrN R.TIME_INCR_INT (n / 2 ^ 32)

/-- The combined rate clamped to ±200 ppm (R47). -/
def clampPpb (e : Int) : Int := max (-200000) (min 200000 e)

/-- TIME.SLEW_RATE in ppm: 0 and values above 200 act as 200 (R69). -/
def State.slewPpm (s : State) : Nat :=
  let r := s.rdN R.TIME_SLEW_RATE % 256
  if r = 0 ∨ 200 < r then 200 else r

/-- Ends any slew: TIME.INCR is 4.0 ns (R46). -/
def State.slewStop (s : State) : State :=
  ({ s with time := { s.time with slewLeft := 0, slewPpb := 0 } }.setIncr 0).fput F.TIME_STATE_SLEWING 0

/-- Starts slewing out an offset of `off` × 0.125 ns, in the direction that reduces it (R46), clamped (R47). -/
def State.slewStart (s : State) (off : Int) : State :=
  if off = 0 then s.slewStop
  else
    let want : Int := if 0 < off then -(s.slewPpm * 1000 : Int) else (s.slewPpm * 1000 : Int)
    let e := clampPpb (s.time.pll + want) - s.time.pll
    let s1 := { s with time := { s.time with slewLeft := off * 2 ^ 29, slewPpb := e } }
    ((s1.setIncr e).fput F.TIME_STATE_SLEWING 1).raiseIf (e != want) F.TIME_EVENT_INCR_SAT

/-- Steers the PLL's frequency word on a sample of the active source: the loop's own law is not stated, so the correction is
a free value, clamped with the slew at ±200 ppm (R47). -/
def State.steer (s : State) : State :=
  let want := Config.freeInt s.fresh
  let p := clampPpb (want + s.time.slewPpb) - s.time.slewPpb
  { s with fresh := s.fresh + 1, time := { s.time with pll := p } }.raiseIf (p != want) F.TIME_EVENT_INCR_SAT

/-! ### States and selection -/

/-- Enters time state `st`, raising STATE where it differs (R58), with its effect on the outputs and the quality word. -/
def State.timeState (s : State) (st : Nat) : State :=
  let s1 := (s.fput F.TIME_STATE_STATE st).raiseIf (s.fget F.TIME_STATE_STATE != st) F.TIME_EVENT_STATE
  (squelchNote s s1).noteQuality

/-- Whether source `n` is qualified (R75). -/
def State.qualified (s : State) (n : Nat) : Bool := s.fbit (F.TIME_SRC_STATUS_QUALIFIED n)

/-- The source named by slot `k` of TIME.PRIO, where the slot is enabled (R73). -/
def State.slotSrc (s : State) (k : Nat) : Option Nat :=
  let p := s.rdN R.TIME_PRIO / 2 ^ (8 * k)
  if bitOf p 7 then some (p % 4) else none

/-- Whether some slot enables source `n`. -/
def State.srcEnabled (s : State) (n : Nat) : Bool := [0, 1, 2, 3].any (fun k => s.slotSrc k == some n)

/-- Qualified, enabled sources in slot order. -/
def State.usable (s : State) : List Nat :=
  ([0, 1, 2, 3].filterMap s.slotSrc).filter s.qualified

/-- The candidate: the qualified, enabled source in the lowest-numbered slot (R55). -/
def State.candidate (s : State) : Option Nat := s.usable.head?

/-- The lowest slot that names source `n`, or 4. -/
def State.slotOf (s : State) (n : Nat) : Nat :=
  (findIdxFrom (fun k => s.slotSrc k == some n) 0 [0, 1, 2, 3]).getD 4

/-- The active source number, where a source is active. -/
def State.activeSrc (s : State) : Option Nat :=
  if s.fbit F.TIME_STATE_ACTIVE_VALID then some (s.fget F.TIME_STATE_ACTIVE) else none

/-- Refreshes CANDIDATE and ACTIVE in the four status registers (R75). -/
def State.showSources (s : State) : State :=
  s.forEach [0, 1, 2, 3] (fun u n =>
    (u.fput (F.TIME_SRC_STATUS_CANDIDATE n) (b2n (s.candidate == some n))).fput
      (F.TIME_SRC_STATUS_ACTIVE n) (b2n (s.activeSrc == some n)))

/-- Makes source `n` active; raises SWITCH where the active source changes, never stepping device time (R57). -/
def State.activate (s : State) (n : Nat) : State :=
  ((s.fput F.TIME_STATE_ACTIVE n).fput F.TIME_STATE_ACTIVE_VALID 1).raiseIf (s.activeSrc != some n) F.TIME_EVENT_SWITCH

/-- Starts acquisition from its beginning (R58). -/
def State.acqStart (s : State) : State :=
  { s with time := { s.time with armed := false, stepped := false, good := 0, disagree := false, stepDue := none } }.slewStop

/-- Enters FREE_RUN: the PLL at its nominal frequency word, TIME.INCR 4.0 ns (R58). -/
def State.enterFreeRun (s : State) : State :=
  ({ s with time := { s.time with pll := 0, stepDue := none } }.slewStop).timeState 0

/-- Whether the device sleeps, where no reference is monitored (R59). -/
def State.asleep (s : State) : Bool := s.fget F.POWER_STATUS_MODE == 0 && s.fget F.BOOT_STATUS_STATE != 0

/-- Last offset of source `n`, 0.125 ns units. -/
def State.srcOff (s : State) (n : Nat) : Int := (tget {} s.time.srcs n).off

/-- Whether source `n` lies within TIME.SLEW_LIMIT (R56). -/
def State.withinSlew (s : State) (n : Nat) : Bool :=
  decide ((s.srcOff n).natAbs ≤ s.rdN R.TIME_SLEW_LIMIT % 2 ^ 24 * 8)

/-- Enters HOLDOVER: the frequency word is frozen at its mean over the last 100 s in LOCKED, whose value no state here shows,
so it is a free value; TIME.INCR is 4.0 ns and TIME.HOLD_SECONDS counts from 0 (R58). -/
def State.enterHoldover (s : State) : State :=
  let s1 := { s with fresh := s.fresh + 1, time := { s.time with pll := clampPpb (Config.freeInt s.fresh), holdTicks := 0 } }
  ((s1.slewStop).clr R.TIME_HOLD_SECONDS).timeState 3

/-- Enters LOCKED. -/
def State.enterLocked (s : State) : State :=
  ({ s with time := { s.time with disagree := false } }.clr R.TIME_HOLD_SECONDS).timeState 2

/-- Tries source `c` in LOCKED, HOLDOVER or LOST: within TIME.SLEW_LIMIT it becomes active and its offset is slewed out;
beyond it DISAGREE is raised and LOCKED gives way to HOLDOVER (R56, R57). -/
def State.trySwitch (s : State) (c : Nat) : State :=
  if s.withinSlew c then (((s.activate c).slewStart (s.srcOff c)).enterLocked)
  else
    let s1 := { s with time := { s.time with disagree := true } }.raise F.TIME_EVENT_DISAGREE
    if s.fget F.TIME_STATE_STATE = 2 then s1.enterHoldover else s1.noteQuality

/-- Selection after a change of qualification, priority or waiting (R55, R56, R58); `revert` when a candidate in a lower slot
has waited TIME.REVERT_WAIT. -/
def State.reselect (s : State) (revert : Bool) : State :=
  let lost := match s.activeSrc with
    | some a => !s.qualified a
    | none => true
  (match s.candidate with
   | none => if s.fget F.TIME_STATE_STATE = 2 ∧ lost then s.enterHoldover else s
   | some c =>
     match s.fget F.TIME_STATE_STATE with
     | 0 => ((s.activate c).acqStart).timeState 1
     | 1 => if lost || (revert && s.activeSrc != some c) then { (s.activate c) with time := { (s.activate c).time with armed := false, good := 0 } }
       else s
     | 2 => if lost || (revert && s.activeSrc != some c) then s.trySwitch c else s
     | _ => s.trySwitch c).showSources

/-- While SRC2 is disqualified, TIME_DIS is 0 and NO_CHAIN_TIME is 1 (R399). -/
def State.showChainTime (s : State) : State :=
  if s.qualified 2 then s.fput F.CHAIN_STATUS_NO_CHAIN_TIME 0
  else (s.fput F.CHAIN_STATUS_TIME_DIS 0).fput F.CHAIN_STATUS_NO_CHAIN_TIME 1

/-- Disqualifies source `n` (R51, R52); `los` for a loss under R51. -/
def State.disqualify (s : State) (n : Nat) (los : Bool) : State :=
  let was := s.qualified n
  let s1 := (s.fput (F.TIME_SRC_STATUS_QUALIFIED n) 0).raiseIf was F.TIME_EVENT_QUAL_LOSS
  let s2 := if los then
      { s1 with time := { s1.time with srcs := tmod {} s1.time.srcs n (fun x => { x with present := false }) } }.fput
        (F.TIME_SRC_STATUS_LOS n) 1
    else s1
  if was then s2.showChainTime.reselect false else s2.showChainTime

/-- A loss of source `n` under R51; no source is monitored in SLEEP (R59). -/
def State.lose (s : State) (n : Nat) : State := if s.asleep then s else s.disqualify n true

/-! ### Offset samples -/

/-- TIME.SRC[n].CFG.DELAY, signed ns. -/
def State.srcDelay (s : State) (n : Nat) : Int := toSigned 24 (s.fget (F.TIME_SRC_CFG_DELAY n))

/-- An offset as TIME.SRC[n].OFFSET shows it: signed, 0.125 ns; the spec does not say what the register holds outside its
range, where it is a free value. -/
def State.showOffset (s : State) (n : Nat) (off : Int) : State :=
  if -(2 ^ 31) ≤ off ∧ off < 2 ^ 31 then s.wrN (R.TIME_SRC_OFFSET n) (fromSigned 32 off)
  else { s with fresh := s.fresh + 1 }.wr (R.TIME_SRC_OFFSET n) (Config.freeWord s.fresh)

/-- Takes the hit of R52: counts it, and disqualifies at TIME.QUAL.HITS. -/
def State.takeHit (s : State) (n : Nat) : State :=
  let h := satN 8 (s.fget (F.TIME_SRC_STATUS_HITS n) + 1)
  let s1 := s.fput (F.TIME_SRC_STATUS_HITS n) h
  if max 1 (s.fget F.TIME_QUAL_HITS) ≤ h then s1.disqualify n false else s1

/-- The step of R60 at a sample of source `n` with offset `off`, which the next tick applies (R690): `edge` is device time at the PPS edge,
in units of 2^−32 ns, where the step sets NEXT_SEC × 10^9 ns plus DELAY. -/
def State.acqStep (s : State) (n : Nat) (off edge : Int) : State :=
  if n < 2 then
    if s.fbit F.TIME_STATE_NEXT_VALID then
      let ns : Int := (s.rd64 R.TIME_NEXT_SEC_LO R.TIME_NEXT_SEC_HI : Int) * 1000000000 + s.srcDelay n
      { s with time := { s.time with stepDue := some (ns * 2 ^ 32 - edge) } }.fput F.TIME_STATE_NEXT_VALID 0
    else s.raise F.TIME_EVENT_NEXT_SEC_NEEDED
  else { s with time := { s.time with stepDue := some (-off * 2 ^ 29) } }

/-- Applies the step due, with the tick that sets device time: STEP is raised and the word gathers STEPPED (R48, R58, R60). -/
def State.stepTick (s : State) : State :=
  match s.time.stepDue with
  | none => s
  | some d =>
    ({ s with time := { s.time with
        now := s.time.now + BitVec.ofInt 96 d, stepDue := none, stepped := true, good := 0, qAcc := s.time.qAcc ||| 0x20 } }.raise
      F.TIME_EVENT_STEP).noteQuality

/-- What a sample of the active source does in ACQUIRING and LOCKED (R58): before the step it may step; after it, eight in a
row within TIME.LOCK_NS lock. -/
def State.activeSample (s : State) (n : Nat) (off edge : Int) : State :=
  match s.fget F.TIME_STATE_STATE with
  | 1 =>
    if s.time.stepDue.isSome then s
    else if !s.time.stepped then (if s.time.armed then s.acqStep n off edge else s.steer)
    else
      let g := if off.natAbs ≤ s.rdN R.TIME_LOCK_NS % 2 ^ 16 * 8 then s.time.good + 1 else 0
      let s1 := { s with time := { s.time with good := g } }.steer
      if 8 ≤ g then s1.enterLocked else s1
  | 2 => s.steer
  | _ => s

/-- One offset sample of source `n` (R50, R52, R58, R60), `edge` the device time of a PPS edge in units of 2^−32 ns; sources that no
slot enables are not measured, and none is in SLEEP (R59). DESIGN CHOICE (log 211): any sample clears STATUS.LOS (R75). -/
def State.offsetSample (s : State) (n : Nat) (off edge : Int) : State :=
  if !s.srcEnabled n || s.asleep then s
  else
    let x := tget {} s.time.srcs n
    let hit := x.sampled && decide (s.fget F.TIME_QUAL_JUMP_NS * 8 < (off - x.off).natAbs)
    let s1 := { s with time := { s.time with srcs := tset {} s.time.srcs n ⟨true, off, true⟩ } }
    let s2 := (s1.showOffset n off).fput (F.TIME_SRC_STATUS_LOS n) 0
    let s3 := if hit then s2.takeHit n else s2
    if s3.activeSrc == some n then s3.activeSample n off edge else s3

/-! ### Commands -/

/-- TIME_NOW_READ: returns device time [31:0] ns and latches the other two registers of the same tick (R49). -/
def execTimeNowRead (s : State) : Host.Outcome State Fault Refusal :=
  let n := s.time.now.toNat
  .next ((((s.wrN R.TIME_NOW_NS_LO (n / 2 ^ 32)).wrN R.TIME_NOW_NS_HI (n / 2 ^ 64)).wrN R.TIME_NOW_FRAC n).emit
    (.read R.TIME_NOW_NS_LO (n / 2 ^ 32 % 2 ^ 32)))

/-- SI_NOW_READ: returns TIME.SI_NOW [31:0] and latches [63:32] (R69). -/
def execSiNowRead (s : State) : Host.Outcome State Fault Refusal :=
  .next ((s.wr64 R.TIME_SI_NOW_LO R.TIME_SI_NOW_HI s.siNow).emit (.read R.TIME_SI_NOW_LO (s.siNow % 2 ^ 32)))

/-- SI_EXPECT_READ: returns the largest SI whose start has passed, [31:0], and latches [63:32] (R69). -/
def execSiExpectRead (s : State) : Host.Outcome State Fault Refusal :=
  .next ((s.wr64 R.TIME_SI_EXPECT_LO R.TIME_SI_EXPECT_HI s.siExpect).emit
    (.read R.TIME_SI_EXPECT_LO (s.siExpect % 2 ^ 32)))

/-- Ends a slew whose offset has reached zero: TIME.INCR is 4.0 ns from the next tick on (R46, R78). -/
def State.slewDone (s : State) : State :=
  if s.fbit F.TIME_STATE_SLEWING && s.time.slewLeft == 0 then s.slewStop.noteQuality else s

/-- SLEW_END: the offset has reached zero and TIME.INCR returns to 4.0 ns; while some offset is left the slew goes on (R46). -/
def execSlewEnd (s : State) : Host.Outcome State Fault Refusal := .next s.slewDone

/-- REACQUIRE: enters ACQUIRING, or restarts acquisition there without raising STATE; the candidate is taken afresh and the
bit clears (R58, R71). -/
def execReacquire (s : State) : Host.Outcome State Fault Refusal :=
  let s1 := match s.candidate with
    | some c => s.activate c
    | none => s.fput F.TIME_STATE_ACTIVE_VALID 0
  .next ((((s1.acqStart).clr R.TIME_HOLD_SECONDS).timeState 1).showSources.fput F.TIME_CTRL_REACQUIRE 0)

/-- NEXT_SEC_WRITE: stores the label's high word and sets NEXT_VALID (R60, R69). -/
def execNextSecWrite (v : Word) (s : State) : Host.Outcome State Fault Refusal :=
  .next ((s.wr R.TIME_NEXT_SEC_HI v).fput F.TIME_STATE_NEXT_VALID 1)

/-- The signed distance of `t` from the nearest multiple of `m`. -/
def nearestDiff (t m : Nat) : Int :=
  if 2 * (t % m) ≤ m then (t % m : Int) else (t % m : Int) - m

/-- PPS_EDGE: an edge of PPS_A or PPS_B, falling where `e.fall` says so, `e.phase` × 0.125 ns after the last tick. The edge that PPS_FALL
selects is time-stamped and gives one sample relative to the nearest whole second (R50, R74); a rising edge also drives its interrupt
source (R72). -/
def execPpsEdge (n : Fin 2) (e : PpsEdge) (s : State) : Host.Outcome State Fault Refusal :=
  let edge := s.time.now.toNat + e.phase.val * 2 ^ 29
  let s1 := if s.fbit (F.TIME_SRC_CFG_PPS_FALL n.val) = e.fall then
      s.offsetSample n.val (nearestDiff (edge / 2 ^ 29) 8000000000 - 8 * s.srcDelay n.val) edge
    else s
  .next (if e.fall then s1 else s1.emit (.pulse (512 + n.val)))

/-- VREF_OFFSET: one SRC3 sample (R50). -/
def execVrefOffset (v : Word) (s : State) : Host.Outcome State Fault Refusal :=
  .next (s.offsetSample 3 (v.toInt - 8 * s.srcDelay 3) 0)

/-- SOURCE_CLOCK_LOSS: SRC0 or SRC1 has missed three clock periods (R51). -/
def execSourceClockLoss (n : Fin 2) (s : State) : Host.Outcome State Fault Refusal := .next (s.lose n.val)

/-- PPS_TIMEOUT: no PPS edge within 1.000 001 s (R51). -/
def execPpsTimeout (n : Fin 2) (s : State) : Host.Outcome State Fault Refusal := .next (s.lose n.val)

/-- VREF_TIMEOUT: no sample of SRC2 or SRC3 within TIME.VREF_TIMEOUT (R51). -/
def execVrefTimeout (n : Fin 2) (s : State) : Host.Outcome State Fault Refusal := .next (s.lose (n.val + 2))

/-- QUAL_GAIN: a disqualified source that has been present with no hit for TIME.QUAL_CLEAR seconds qualifies (R53). -/
def execQualGain (n : Fin 4) (s : State) : Host.Outcome State Fault Refusal :=
  .next (if s.qualified n.val || !(tget {} s.time.srcs n.val).present || s.asleep then s
    else (((s.fput (F.TIME_SRC_STATUS_QUALIFIED n.val) 1).fput (F.TIME_SRC_STATUS_LOS n.val) 0).raise
      F.TIME_EVENT_QUAL_GAIN).showChainTime.reselect false)

/-- QUAL_WINDOW_END: the hit count of the source starts afresh (R52). -/
def execQualWindowEnd (n : Fin 4) (s : State) : Host.Outcome State Fault Refusal :=
  .next (s.fput (F.TIME_SRC_STATUS_HITS n.val) 0)

/-- REVERT_WAIT: a candidate in a lower slot than the active source has waited TIME.REVERT_WAIT and is made active, where
selection is revertive (R55). -/
def execRevertWait (s : State) : Host.Outcome State Fault Refusal :=
  .next (match s.candidate, s.activeSrc with
    | some c, some a =>
      if s.fbit F.TIME_CTRL_REVERTIVE ∧ s.slotOf c < s.slotOf a ∧ s.asleep = false then s.reselect true else s
    | _, _ => s)

/-- FREQUENCY_LOCK_HELD: frequency lock has held 2 s in ACQUIRING; the step is armed (R58). -/
def execFrequencyLockHeld (s : State) : Host.Outcome State Fault Refusal :=
  .next (if s.fget F.TIME_STATE_STATE = 1 ∧ s.asleep = false then { s with time := { s.time with armed := true } } else s)

/-- The usable source after `a` in slot order, cyclically, other than `a`. -/
def State.nextUsable (s : State) (a : Option Nat) : Option Nat :=
  let others := s.usable.filter (fun n => a != some n)
  let later := others.filter (fun n => match a with
    | some m => decide (s.slotOf m < s.slotOf n)
    | none => true)
  (later ++ others).head?

/-- ACQ_TIMEOUT: acquisition turns to the next qualified candidate, or to FREE_RUN (R58). -/
def execAcqTimeout (s : State) : Host.Outcome State Fault Refusal :=
  .next (if s.fget F.TIME_STATE_STATE = 1 then
      let s1 := s.raise F.TIME_EVENT_ACQ_TIMEOUT
      match s.nextUsable s.activeSrc with
      | some c => (((s1.activate c).acqStart).noteQuality).showSources
      | none => (((s1.acqStart).fput F.TIME_STATE_ACTIVE_VALID 0).enterFreeRun).showSources
    else s)

/-- TIME.HOLD_LIMIT in seconds (R69). -/
def State.holdLimit (s : State) : Nat := s.rdN R.TIME_HOLD_LIMIT % 2 ^ 17

/-- HOLD_LIMIT: where TIME.HOLD_SECONDS has reached TIME.HOLD_LIMIT, HOLDOVER becomes LOST (R58). -/
def execHoldLimit (s : State) : Host.Outcome State Fault Refusal :=
  .next (if s.fget F.TIME_STATE_STATE = 3 ∧ s.holdLimit ≤ s.rdN R.TIME_HOLD_SECONDS then (s.raise F.TIME_EVENT_HOLD_LIMIT).timeState 4 else s)

/-- TIME.INCR in units of 2^−32 ns. -/
def State.incr (s : State) : Nat := s.fget (⟨R.TIME_INCR_INT, 0, 4⟩) * 2 ^ 32 + s.rdN R.TIME_INCR_FRAC

/-- Whether device time plus TIME.PPS_OFFSET has crossed a whole second with the last tick (R67). -/
def State.ppsCrossed (s : State) : Bool :=
  let d : Int := (s.time.now.toNat : Int) + (s.rd R.TIME_PPS_OFFSET).toInt * 2 ^ 32
  decide (d % (1000000000 * 2 ^ 32) < s.incr)

/-- PPS_OUT_RISE: device time plus TIME.PPS_OFFSET has crossed a whole second; PPS_OUT rises unless held low, for PPS_WIDTH µs of 250
ticks each (R67, R68, R72, R77). -/
def execPpsOutRise (s : State) : Host.Outcome State Fault Refusal :=
  .next (if s.ppsDriven && s.ppsCrossed && !s.time.ppsOut then
      { s with time := { s.time with ppsOut := true, ppsLeft := 250 * max 1 (s.fget F.TIME_OUT_PPS_WIDTH) } }.emit (.pulse 514)
    else s)

/-- PPS_OUT_FALL: the pulse width has ended and PPS_OUT falls (R67). -/
def execPpsOutFall (s : State) : Host.Outcome State Fault Refusal :=
  .next (if s.time.ppsLeft = 0 then { s with time := { s.time with ppsOut := false } } else s)

end Sys2Proof.Machine
end

