-- ==== Sys2Proof/Machine/Chain.lean ====
section
/-!
DEFINITION. Machine/Chain.lean: sweeps and addresses, protocol versions, time transfer, and chain-wide commands (R375 to R414).
-/
namespace Sys2Proof.Machine

/-! ### Chain time -/

/-- Judges one SRC2 sample against CHAIN.TIME_TOL: four in a row set or clear TIME_DIS (R399). -/
def State.judgeChainTime (s : State) : State :=
  if s.isHead || !s.srcEnabled 2 || !s.qualified 2 then s.chMod (fun c => { c with disRun := 0, agreeRun := 0 })
  else
    let far := decide (s.rdN R.CHAIN_TIME_TOL * 8 < (s.srcOff 2).natAbs)
    let d := if far then s.chain.disRun + 1 else 0
    let a := if far then 0 else s.chain.agreeRun + 1
    let s1 := s.chMod (fun c => { c with disRun := d, agreeRun := a })
    if 4 ≤ d ∧ s.fbit F.CHAIN_STATUS_TIME_DIS = false then (s1.fput F.CHAIN_STATUS_TIME_DIS 1).raise F.CHAIN_EVENT_TIME_DIS
    else if 4 ≤ a ∧ s.fbit F.CHAIN_STATUS_TIME_DIS then (s1.fput F.CHAIN_STATUS_TIME_DIS 0).raise F.CHAIN_EVENT_TIME_AGREE
    else s1

/-- CHAIN_OFFSET: a write of TIME.CHAIN_OFFSET is one SRC2 sample (R50, R394, R399). -/
def execChainOffset (v : Word) (s : State) : Host.Outcome State Fault Refusal :=
  .next ((s.wr R.TIME_CHAIN_OFFSET v).offsetSample 2 (v.toInt - 8 * s.srcDelay 2) 0).judgeChainTime

/-- Whether a stamp source rises while a fast handler already runs in a Curator that it targets (R397, R581). -/
def State.stampLate (s : State) (n : Nat) : Bool :=
  let t := s.fget (F.IRQ_SRC_CFG_TARGET (520 + n))
  let curs := if t = 1 then s.activeCur.toList else if t = 2 then [0] else if t = 3 then [1] else if t = 4 then [0, 1] else []
  s.fbit (F.IRQ_SRC_CFG_EN (520 + n)) && curs.any (fun c => s.fbit (F.IRQ_CUR_STATUS_IN_FAST c))

/-- Raises stamp source `n`: the exchange number and the delimiter's position are recorded (R395 to R397). -/
def State.stamp (s : State) (n exchange pos : Nat) : State :=
  let late := s.stampLate n
  (((s.wrN (R.CHAIN_STAMP n) (pos % 4 + b2n late * 2 ^ 15 + exchange % 65536 * 2 ^ 16)).doIf late (fun u => u.count R.CHAIN_STAMP_LATE)).emit
    (.pulse (520 + n)))

/-- Shows the receive queue: its oldest message, its port and the count (R413). -/
def State.showRxq (s : State) : State :=
  let m := s.chain.rxq.head?.getD (0, [])
  let s1 := s.forEach (List.range 8) (fun u k => u.wrN (R.CHAIN_RXQ k) (imgN m.2 (4 * k) 4))
  ((s1.fput F.CHAIN_RXQ_CTRL_NOT_EMPTY (b2n (!s.chain.rxq.isEmpty))).fput F.CHAIN_RXQ_CTRL_PORT m.1).fput F.CHAIN_RXQ_CTRL_COUNT
    s.chain.rxq.length

/-- Queues a firmware message of port `p`; a full queue of 8 drops it (R413). -/
def State.queueRx (s : State) (p : Nat) (m : Msg) : State :=
  (s.doIf (decide (s.chain.rxq.length < 8)) (fun u => u.chMod (fun c =>
    { c with rxq := c.rxq ++ [(p, (m.bytes.take (16 + m.body.length)).take 32)] }))).showRxq

/-- SYNC: received on CHAIN_UP; stamp source 0 rises (R395, R409). -/
def execSync (pos : Fin 4) (b : List Byte) (s : State) : Host.Outcome State Fault Refusal :=
  .next (s.takeMsg 0 0x10 b (fun u m => (u.stamp 0 (imgN m.body 0 2) pos.val).queueRx 0 m))

/-- SYNC_FU: received on CHAIN_UP and queued for firmware (R394). -/
def execSyncFu (b : List Byte) (s : State) : Host.Outcome State Fault Refusal :=
  .next (s.takeMsg 0 0x11 b (fun u m => u.queueRx 0 m))

/-- DREQ: received on CHAIN_DN; stamp source 2 rises (R395). -/
def execDreq (pos : Fin 4) (b : List Byte) (s : State) : Host.Outcome State Fault Refusal :=
  .next (s.takeMsg 1 0x12 b (fun u m => (u.stamp 2 (imgN m.body 0 2) pos.val).queueRx 1 m))

/-- DRESP: received on CHAIN_UP and queued for firmware (R394). -/
def execDresp (b : List Byte) (s : State) : Host.Outcome State Fault Refusal :=
  .next (s.takeMsg 0 0x13 b (fun u m => u.queueRx 0 m))

/-- RXQ_POP: drops the oldest queued message (R413). -/
def execRxqPop (s : State) : Host.Outcome State Fault Refusal :=
  .next (s.chMod (fun c => { c with rxq := c.rxq.drop 1 })).showRxq

/-- Lets the queued firmware message leave: the port sets SRC, the complements and the check word (R413). -/
def State.txLeave (s : State) (p : Nat) (b : List Byte) : State :=
  let m : Msg := ⟨s.linkVersion p, imgN b 1 1, imgN b 2 2, s.ownSrc, imgN b 6 2, imgN b 10 2, (b.drop 16).take (imgN b 8 2)⟩
  (if s.portUp p then s.putMsg p m.bytes else s).chMod (fun c => { c with txq := none }) |>.fput F.CHAIN_TXQ_CTRL_FULL 0

/-- TXQ_SEND: the message in CHAIN.TXQ is sent on the port that `p` names; a SYNC or DREQ leaves with STAMP_SEND. The queues carry
only the firmware messages (R413). -/
def execTxqSend (p : Fin 2) (s : State) : Host.Outcome State Fault Refusal :=
  let s0 := s.fput F.CHAIN_TXQ_CTRL_PORT p.val
  let b := (List.range 8).flatMap (fun k => leBytes 4 (s.rdN (R.CHAIN_TXQ k)))
  let typ := imgN b 1 1
  .next (if s.chain.txq.isSome || !([0x10, 0x11, 0x12, 0x13].contains typ) || !msgLenOk typ (imgN b 8 2) then s0
    else if typ = 0x10 ∨ typ = 0x12 then
      (s0.chMod (fun c => { c with txq := some (p.val, b) })).fput F.CHAIN_TXQ_CTRL_FULL 1
    else s0.txLeave p.val b)

/-- STAMP_SEND: the queued SYNC leaves on CHAIN_DN, but not in SLEEP, or the queued DREQ on CHAIN_UP; stamp source 1 or 3 rises
(R395, R396, R409). -/
def execStampSend (pos : Fin 4) (s : State) : Host.Outcome State Fault Refusal :=
  .next (match s.chain.txq with
    | none => s
    | some (p, b) =>
      let n := if imgN b 1 1 = 0x10 then 1 else 3
      if n = 1 ∧ s.mode = 0 then s
      else if s.portUp p then (s.txLeave p b).stamp n (imgN b 16 2) pos.val else s.txLeave p b)

/-! ### Sweeps -/

/-- The payload of ENUM (R380). -/
def enumBody (next sweep mask id : Nat) : List Byte :=
  leBytes 2 next ++ leBytes 2 (65535 - next) ++ leBytes 1 sweep ++ leBytes 1 mask ++ leBytes 2 id

/-- Sends ENUM_END up to the head (R380, R384). -/
def State.sendEnumEnd (s : State) (count mask cause : Nat) : State :=
  s.sendTo 0 0x03 0 (leBytes 2 count ++ leBytes 1 mask ++ leBytes 1 cause ++ leBytes 2 s.chAddr ++ leBytes 2 0)

/-- Sends an ENUM_END whose COUNT the spec does not state: a free value (R384, R389). -/
def State.sendEnumStop (s : State) (mask cause : Nat) : State :=
  s.tick1.sendEnumEnd (Config.freeNat s.fresh % 65536) mask cause

/-- Records a sweep's result in CHAIN.COUNT (R385). -/
def State.recordSweep (s : State) (count cause addr : Nat) : State :=
  ((s.fput F.CHAIN_COUNT_CAUSE cause).fput F.CHAIN_COUNT_DEVICES count).fput F.CHAIN_COUNT_END_ADDR addr

/-- The head starts a sweep: 0 KEEP, 1 FORCE (R385); with no neighbour no ENUM_END comes and the sweep times out. -/
def State.startSweep (s : State) (sweep : Nat) : State :=
  (s.fput F.CHAIN_STATUS_SWEEP 1).sendLink 1 0x02 (enumBody 1 sweep s.ownMask (s.rdN R.CHAIN_CHAIN_ID % 65536))

/-- CHAIN_ENUM: the head starts a KEEP sweep (R385, R413). -/
def execChainEnum (s : State) : Host.Outcome State Fault Refusal := .next (if s.isHead then s.startSweep 0 else s)

/-- CHAIN_FORCE: the head starts a FORCE sweep (R385, R413). -/
def execChainForce (s : State) : Host.Outcome State Fault Refusal := .next (if s.isHead then s.startSweep 1 else s)

/-- The head takes the mask of a complete sweep and broadcasts the version (R391, R393). -/
def State.takeMask (s : State) (mask : Nat) : State :=
  let v := topVersion mask
  let s1 := ((s.fput F.CHAIN_VERSION_MASK mask).fput F.CHAIN_VERSION_VERSION v).raiseIf (v == 0) F.CHAIN_EVENT_NO_COMMON
  s1.sendTo 1 0x04 0xFFFF (leBytes 1 v ++ leBytes 3 0)

/-- ENUM_END: received by the head on CHAIN_DN: it ends the sweep in progress, or reports a local sweep or a loss (R385 to R387,
R393). DESIGN CHOICE (log 209): one that comes after ENUM_TIMEOUT is taken as a local sweep's (R27). -/
def execEnumEnd (b : List Byte) (s : State) : Host.Outcome State Fault Refusal :=
  .next (s.takeMsg 1 0x03 b (fun u m =>
    let mask := imgN m.body 2 1 % 4
    let cause := imgN m.body 3 1
    if !u.isHead then u
    else
      let u1 := u.recordSweep (imgN m.body 0 2) cause (imgN m.body 4 2 % 1024)
      if cause = 4 then u1.raise F.CHAIN_EVENT_DETACH
      else if u.fbit F.CHAIN_STATUS_SWEEP then
        ((u1.fput F.CHAIN_STATUS_SWEEP 0).raise F.CHAIN_EVENT_ENUM_DONE).doIf (cause == 0) (fun v => v.takeMask mask)
      else
        let u2 := u1.raise F.CHAIN_EVENT_ATTACH
        if u.chVersion ≠ 0 ∧ bitOf mask (u.chVersion - 1) = false then
          (u2.raise F.CHAIN_EVENT_VERSION_DROP).doIf (u.fbit F.CHAIN_CFG_AUTO_ENUM) (fun v => v.startSweep 0)
        else u2))

/-- ENUM_TIMEOUT: CHAIN.CFG.ENUM_TIMEOUT expires before ENUM_END (R385). -/
def execEnumTimeout (s : State) : Host.Outcome State Fault Refusal :=
  .next (if s.fbit F.CHAIN_STATUS_SWEEP then
      ((s.fput F.CHAIN_STATUS_SWEEP 0).fput F.CHAIN_COUNT_CAUSE 0xFF).raise F.CHAIN_EVENT_ENUM_FAIL
    else s)

/-- A member accepts an ENUM: it is ADDRESSED at NEXT, and the sweep goes on below it or ends at the tail (R384). -/
def State.enumAccept (s : State) (m : Msg) (next : Nat) : State :=
  let mask := Nat.land (imgN m.body 5 1) s.ownMask
  let id := imgN m.body 6 2
  let s1 := (((s.setAddr next).fput F.CHAIN_STATUS_ENUM_STATE 1).wrN R.CHAIN_CHAIN_ID id).fput F.CHAIN_VERSION_MASK mask
  let s2 := s1.chMod (fun c => { c with resume := false })
  if s.portUp 1 then s2.forward 1 { m with body := enumBody (next + 1) (imgN m.body 4 1) mask id, src := s2.ownSrc }
  else s2.sendEnumEnd (next + 1) mask 0

/-- ENUM: received on CHAIN_UP (R384, R389). -/
def execEnum (b : List Byte) (s : State) : Host.Outcome State Fault Refusal :=
  .next (s.checkAddr.takeMsg 0 0x02 b (fun u m =>
    let next := imgN m.body 0 2
    let mask := imgN m.body 5 1 % 4
    if next + imgN m.body 2 2 ≠ 65535 then u
    else if u.isHead then u.sendEnumStop mask 3
    else
      let addressed := u.enumState == 1 || u.enumState == 2
      if addressed && u.chAddr == next then u.enumAccept m next
      else if addressed && imgN m.body 4 1 == 0 then
        ((u.fput F.CHAIN_STATUS_ENUM_STATE 1).raise F.CHAIN_EVENT_ADDR_MOVED).sendEnumStop mask 1
      else if 1024 ≤ next then (u.raise F.CHAIN_EVENT_OVERFLOW).sendEnumStop mask 2
      else (u.raiseIf addressed F.CHAIN_EVENT_ADDR_MOVED).enumAccept m next) |>.helloSync)

/-- VERSION_SET: a member adopts the chain version and passes the message on (R382, R391). -/
def execVersionSet (b : List Byte) (s : State) : Host.Outcome State Fault Refusal :=
  .next (s.takeMsg 0 0x04 b (fun u m =>
    if u.enumState ≠ 1 then u else (u.fput F.CHAIN_VERSION_VERSION (imgN m.body 0 1 % 4)).forward 1 m))

/-- CLEAR_ADDR: a member clears its address and becomes UNADDRESSED (R413). -/
def execClearAddr (s : State) : Host.Outcome State Fault Refusal := .next (if s.isHead then s else s.dropAddr.helloSync)

/-! ### HELLO and links -/

/-- A port enters UP; on CHAIN_DN an addressed device starts a local KEEP sweep (R377, R386). -/
def State.portEnterUp (s : State) (p : Nat) : State :=
  let s1 := (s.setPort p 5).sendHello p
  if p = 1 ∧ (s1.isHead ∨ s1.enumState = 1) then
    s1.sendLink 1 0x02 (enumBody (s1.chAddr + 1) 0 (if s1.isHead then s1.ownMask else s1.fget F.CHAIN_VERSION_MASK)
      (s1.rdN R.CHAIN_CHAIN_ID % 65536))
  else s1

/-- What a HELLO from upstream does to a member's address (R384, R388). -/
def State.helloMember (s : State) (b : List Byte) : State :=
  let idOk := imgN b 2 2 == s.rdN R.CHAIN_CHAIN_ID % 65536
  let above := imgN b 4 2
  if s.chain.resume then
    let s1 := s.chMod (fun c => { c with resume := false })
    if s.hasAddr && idOk && above == 0x8000 + (s.chAddr - 1) && decide (0 < s.chAddr) then s1.fput F.CHAIN_STATUS_ENUM_STATE 1
    else s1.dropAddr
  else if s.enumState = 0 then s
  else if !idOk then s.dropAddr
  else if imgN b 1 1 = 2 then s.fput F.CHAIN_STATUS_ENUM_STATE 2
  else s

/-- HELLO: received on port `p`; two identical ones bring the port UP (R377, R384, R386, R388, R389). -/
def execHello (p : Fin 2) (b : List Byte) (s : State) : Host.Outcome State Fault Refusal :=
  .next (s.checkAddr.takeMsg p.val 0x01 b (fun u m =>
    if imgN m.body 4 2 + imgN m.body 6 2 ≠ 65535 then u
    else
      let run := if u.peer p.val = m.body then tget 0 u.chain.runs p.val + 1 else 1
      let u1 := u.chMod (fun c => { c with peers := tset [] c.peers p.val m.body, runs := tset 0 c.runs p.val run })
      let u2 := if u1.portState p.val = 4 ∧ 2 ≤ run then u1.portEnterUp p.val else u1
      if p.val ≠ 0 then u2
      else if u2.isHead then
        (if imgN m.body 1 1 = 1 then (u2.fput F.CHAIN_STATUS_HEAD_CONFLICT 1).raise F.CHAIN_EVENT_HEAD_CONFLICT else u2)
      else u2.helloMember m.body) |>.helloSync)

/-- HELLO_SEND: port `p` sends HELLO, every 1 µs in HELLO and every 1 ms in UP (R377). -/
def execHelloSend (p : Fin 2) (s : State) : Host.Outcome State Fault Refusal :=
  .next (if 4 ≤ s.portState p.val then s.sendHello p.val else s)

/-- Port `p` enters HELLO, after 16 further TSB (R102, R377). -/
def State.portHello (s : State) (p : Nat) : State :=
  ((s.setPort p 4).chMod (fun c => { c with runs := terase c.runs p })).send (192 + p)
    (List.replicate 16 (sequenceChars true 2 (s.lane (192 + p)).fom)).flatten false

/-- A port leaves UP for DETECT, TRAIN or LOCK: the device becomes the tail or an orphan (R384, R387, R411). -/
def State.portLost (s : State) (p to' : Nat) : State :=
  if s.portState p ≠ 5 then s.setPort p to'
  else
    let s1 := ((((s.setPort p to').raise F.CHAIN_EVENT_LINK_LOSS).count (if p = 0 then R.CHAIN_LINK_LOSS_UP else R.CHAIN_LINK_LOSS_DN)).mbLinkLost
      p).chMod (fun c => { c with runs := terase c.runs p, sent := terase c.sent p })
    if p = 0 then
      let s2 := if s1.enumState = 1 then s1.fput F.CHAIN_STATUS_ENUM_STATE 2 else s1
      (s2.lose 2).helloSync
    else if s1.isHead then ((s1.recordSweep 1 4 0).raise F.CHAIN_EVENT_DETACH).helloSync
    else if s1.hasAddr then (s1.sendEnumEnd (s1.chAddr + 1) s1.ownMask 4).helloSync
    else s1

/-- FORWARDED_MESSAGE: a message addressed to another device arrives on port `p` and goes up or down; an UNADDRESSED member and a head in
conflict pass nothing on (R382, R384, R389). -/
def execForwardedMessage (p : Fin 2) (b : List Byte) (s : State) : Host.Outcome State Fault Refusal :=
  .next (if !s.portUp p.val then s
    else match s.msgCheck p.val b with
      | none => s.msgErr
      | some m =>
        if linkType m.typ || m.typ == 2 || m.dest == 0xFFFF || !s.hasAddr || s.enumState == 0 || m.dest == s.chAddr
          || (p.val == 0 && s.isHead && s.fbit F.CHAIN_STATUS_HEAD_CONFLICT) then s
        else if s.enumState = 2 then (if p.val = 1 ∧ m.dest < s.chAddr then s.forward 0 m else s)
        else s.forward (if m.dest < s.chAddr then 0 else 1) m)

/-! ### Chain-wide commands -/

/-- The payload of a REPORT (R380). -/
def reportBody (typ code chain x y seq : Nat) : List Byte :=
  leBytes 1 typ ++ leBytes 1 (b2n (code != 0 || chain != 0)) ++ leBytes 1 code ++ leBytes 1 chain ++ leBytes 8 x ++ leBytes 8 y
    ++ leBytes 2 seq ++ leBytes 2 0

/-- Sets MISMATCH with what R403 keeps of the refused message. -/
def State.setMismatch (s : State) (x : Nat) (live : List Byte) : State :=
  ((s.fput F.CAT_STATUS_MISMATCH 1).raise F.CHAIN_EVENT_MISMATCH).chMod (fun c => { c with digestDue := some (x, live) })
    |>.recordDigest.accMod (fun a => { a with integs := a.integs.map (fun i => if i.e.isNone then { i with mismatch := true } else i) })

/-- The bytes of the digest in eight registers. -/
def State.digestAt (s : State) (r : Nat → Nat) : List Byte := (List.range 8).flatMap (fun k => leBytes 4 (s.rdN (r k)))

/-- Whether `x` is a pass boundary of the live Catalogue and of a VERIFIED or SCHEDULED shadow (R402). -/
def State.onBoundary (s : State) (x : Nat) : Bool :=
  x % s.passUnit == 0 && (!(decide (4 ≤ s.shadowSt)) || x % s.shadowView.passUnit == 0)

/-- Acts on ACCEDE with payload `b`: the state, the CAT code, the chain code and the resume SI (R402, R404). -/
def State.actAccede (s : State) (b : List Byte) : State × Nat × Nat × Nat :=
  let x := imgN b 0 8
  let resume := if s.chVersion = 2 then imgN b 8 8 else 0
  let no := fun (u : State) (chain : Nat) => (u.refuse 0x27, 0x27, chain, x)
  if s.mode = 0 then no s 5
  else if s.shadowSt ≠ 4 ∨ s.digestAt R.CAT_SHADOW_DIGEST ≠ (b.drop 16).take 32 then
    no (s.setMismatch x ((b.drop 48).take 32)) 2
  else if s.accKind s.shadowView ≠ 0 ∧ bitOf (imgN b 80 1) s.liveMode = false then no s 3
  else if !s.onBoundary x || resume % 128 != 0 || resume % s.shadowView.passUnit != 0 then no s 4
  else
    let r := s.requestAcc x resume
    if r.2 = 0 then (r.1, 0, 0, r.1.rd64 R.CAT_RESUME_SI_LO R.CAT_RESUME_SI_HI) else (r.1.refuse r.2, r.2, 0, x)

/-- Acts on SNAP with payload `b` (R407, R653). -/
def State.actSnap (s : State) (b : List Byte) : State × Nat × Nat × Nat :=
  let x := imgN b 0 8
  if s.mode = 0 then (s, 0x27, 5, x)
  else if !s.onBoundary x then (s, 0x27, 4, x)
  else
    let r := s.snapRequest x true
    if r.2 = 0x22 then (r.1, 0, 9, x) else (r.1, r.2, 0, x)

/-- Acts on CANCEL with payload `b`: only where x and digest are those of the scheduled accession (R361, R408). -/
def State.actCancel (s : State) (b : List Byte) : State × Nat × Nat × Nat :=
  let x := imgN b 0 8
  let mine := match s.cat.acc with
    | some (x0, _) => x0 == x && s.shadowSt == 5 && s.digestAt R.CAT_SHADOW_DIGEST == (b.drop 8).take 32
    | none => false
  if s.mode = 0 then (s, 0x27, 5, x)
  else if !mine then (s, 0x31, 0, x)
  else if s.accReached then ((s.refuse 0x31).raise F.CAT_EVENT_CANCEL_LATE, 0x31, 0, x)
  else (s.cancelAcc, 0, 0, x)

/-- Acts on a chain command. -/
def State.actCmd (s : State) (typ : Nat) (b : List Byte) : State × Nat × Nat × Nat :=
  if typ = 0x20 then s.actAccede b else if typ = 0x21 then s.actSnap b else s.actCancel b

/-- A member takes a chain command: forwarded, acted on once, and reported (R382, R402, R406). -/
def State.memberCmd (s : State) (m : Msg) : State :=
  if s.isHead || s.enumState != 1 then s
  else
    let s0 := s.forward 1 m
    let x := imgN m.body 0 8
    let again := match s.chain.handled with
      | some (q, t, y, rep) => if q = m.seq ∧ t = m.typ ∧ y = x then some rep else none
      | none => none
    match again with
    | some rep => s0.sendTo 0 0x28 0 rep
    | none =>
      let r := s0.actCmd m.typ m.body
      let rep := reportBody m.typ r.2.1 r.2.2.1 x r.2.2.2 m.seq
      (r.1.chMod (fun c => { c with handled := some (m.seq, m.typ, x, rep) })).sendTo 0 0x28 0 rep

/-- ACCEDE: received on CHAIN_UP (R402). -/
def execAccede (b : List Byte) (s : State) : Host.Outcome State Fault Refusal :=
  .next (s.takeMsg 0 0x20 b State.memberCmd)

/-- SNAP: received on CHAIN_UP (R407). -/
def execSnap (b : List Byte) (s : State) : Host.Outcome State Fault Refusal :=
  .next (s.takeMsg 0 0x21 b State.memberCmd)

/-- CHAIN_CANCEL_RECEIVE: CANCEL received on CHAIN_UP (R408). -/
def execChainCancelReceive (b : List Byte) (s : State) : Host.Outcome State Fault Refusal :=
  .next (s.takeMsg 0 0x22 b State.memberCmd)

/-- Notes the report of address `a` (R405). -/
def State.noteReport (s : State) (a code chain : Nat) : State :=
  let bad := code != 0 || chain != 0
  let s1 := s.setFlag (if bad then R.CHAIN_NAK_MAP else R.CHAIN_ACK_MAP) a true
  s1.doIf bad (fun u => u.wrN R.CHAIN_LAST_REFUSE (a + code * 2 ^ 16 + chain * 2 ^ 24))

/-- How many addresses have reported. -/
def State.reportCount (s : State) : Nat :=
  ((List.range 32).map (fun j => popcount 32 (s.rdN (R.CHAIN_ACK_MAP j) ||| s.rdN (R.CHAIN_NAK_MAP j)))).sum

/-- Ends the collection once COUNT reports are in (R405). -/
def State.collectCheck (s : State) : State :=
  if s.fbit F.CHAIN_STATUS_CMD_BUSY ∧ s.fget F.CHAIN_COUNT_DEVICES ≤ s.reportCount then
    (s.fput F.CHAIN_STATUS_CMD_BUSY 0).raise F.CHAIN_EVENT_CMD_DONE
  else s

/-- REPORT: the head receives a REPORT on CHAIN_DN (R405). -/
def execReport (b : List Byte) (s : State) : Host.Outcome State Fault Refusal :=
  .next (s.takeMsg 1 0x28 b (fun u m =>
    if !u.isHead || !u.fbit F.CHAIN_STATUS_CMD_BUSY || imgN m.body 20 2 != u.rdN R.CHAIN_CMD_SEQ || decide (1023 < m.src) then u
    else (u.noteReport m.src (imgN m.body 2 1) (if imgN m.body 1 1 = 0 then 0 else imgN m.body 3 1)).collectCheck))

/-- CMD_TIMEOUT: CHAIN.REPLY_TIMEOUT expires before every report is in (R405). -/
def execCmdTimeout (s : State) : Host.Outcome State Fault Refusal :=
  .next (if s.fbit F.CHAIN_STATUS_CMD_BUSY then (s.fput F.CHAIN_STATUS_CMD_BUSY 0).raise F.CHAIN_EVENT_CMD_TIMEOUT else s)

/-- The chain code with which the head refuses a command, 0 where it does not (R401). -/
def State.cmdRefusal (s : State) (typ : Nat) : Nat :=
  if !s.isHead then 1 else if s.chVersion = 0 then 6 else if typ = 0x22 ∧ s.chVersion = 1 then 7
  else if typ = 0x20 ∧ s.shadowSt ≠ 4 then 8 else if s.fbit F.CHAIN_STATUS_CMD_BUSY then 9 else 0

/-- Refuses a command at the head (R401). -/
def State.refuseCmd (s : State) (code : Nat) : State :=
  (s.wrN R.CHAIN_LAST_REFUSE (s.chAddr + code * 2 ^ 24)).raise F.CHAIN_EVENT_CMD_REFUSED

/-- Broadcasts a command and collects reports: the maps start with the head's own bit (R401, R405). -/
def State.broadcastCmd (s : State) (typ seq : Nat) (b : List Byte) : State :=
  (s.sendMsg 1 typ 0xFFFF seq b).fput F.CHAIN_STATUS_CMD_BUSY 1

/-- CHAIN.CMD with GO: the head acts on the command, broadcasts it and collects reports, or refuses it (R401). -/
def State.headCmd (s : State) (typ modes : Nat) (b : List Byte) : State :=
  let s0 := (s.fput F.CHAIN_CMD_TYPE typ).fput F.CHAIN_CMD_MODES modes
  let code := s0.cmdRefusal typ
  if code ≠ 0 then s0.refuseCmd code
  else
    let seq := (s.rdN R.CHAIN_CMD_SEQ + 1) % 65536
    let s1 := (s0.wrN R.CHAIN_CMD_SEQ seq).chMod (fun c => { c with cmd := some (typ, seq, b) })
    let s2 := s1.forEach (List.range 32) (fun u j => (u.clr (R.CHAIN_ACK_MAP j)).clr (R.CHAIN_NAK_MAP j))
    let r := s2.actCmd typ b
    ((r.1.noteReport 0 r.2.1 r.2.2.1).broadcastCmd typ seq b).collectCheck

/-- CHAIN_ACCEDE: CHAIN.CMD with TYPE ACCEDE, MODES and GO (R401, R402). -/
def execChainAccede (modes : Byte) (s : State) : Host.Outcome State Fault Refusal :=
  let resume := if s.chVersion = 2 then s.rd64 R.CHAIN_CMD_RESUME_LO R.CHAIN_CMD_RESUME_HI else 0
  .next (s.headCmd 0x20 modes.toNat (leBytes 8 (s.rd64 R.CHAIN_CMD_SI_LO R.CHAIN_CMD_SI_HI) ++ leBytes 8 resume
    ++ s.digestAt R.CAT_SHADOW_DIGEST ++ s.digestAt R.CAT_LIVE_DIGEST ++ leBytes 1 modes.toNat ++ leBytes 7 0))

/-- CHAIN_SNAP: CHAIN.CMD with TYPE SNAP and GO (R401, R407). -/
def execChainSnap (modes : Byte) (s : State) : Host.Outcome State Fault Refusal :=
  .next (s.headCmd 0x21 modes.toNat (leBytes 8 (s.rd64 R.CHAIN_CMD_SI_LO R.CHAIN_CMD_SI_HI) ++ leBytes 4 0))

/-- CHAIN_CANCEL: CHAIN.CMD with TYPE CANCEL and GO (R401, R408). -/
def execChainCancel (modes : Byte) (s : State) : Host.Outcome State Fault Refusal :=
  .next (s.headCmd 0x22 modes.toNat (leBytes 8 (s.rd64 R.CHAIN_CMD_SI_LO R.CHAIN_CMD_SI_HI) ++ s.digestAt R.CAT_SHADOW_DIGEST))

/-- CHAIN_REPEAT: the head resends the last command with its SEQ and collects reports again, keeping those it has (R406). -/
def execChainRepeat (s : State) : Host.Outcome State Fault Refusal :=
  .next (if !s.isHead then s.refuseCmd 1
    else if s.chVersion = 0 then s.refuseCmd 6
    else if s.fbit F.CHAIN_STATUS_CMD_BUSY then s.refuseCmd 9
    else match s.chain.cmd with
      | none => s
      | some (typ, seq, b) => (s.broadcastCmd typ seq b).collectCheck)

end Sys2Proof.Machine
end

