-- ==== Sys2Proof/Machine/Bus.lean ====
section
/-!
DEFINITION. Machine/Bus.lean: the matrix's address map, what each target does with an access, and the log of errors (R451 to R459,
R461 to R465, R469, R470, R564, R565, R606).
-/
namespace Sys2Proof.Machine

/-- Who makes an access: master, transaction ID and the QoS value carried. -/
structure By where
  m : Nat
  id : Nat
  qos : Nat

/-- The class of a QoS value as MATRIX.ERR_INFO codes it: 0 Saffron, 1 high, 2 normal, 3 background (R29, R474). -/
def qosClass (q : Nat) : Nat := if q = 15 then 0 else if 8 ≤ q then 1 else if 4 ≤ q then 2 else 3

/-- The class of a QoS value as the memory controller codes it (R448). -/
def arcClass (q : Nat) : Nat := if q = 15 then 0 else qosClass q + 1

/-- The QoS value that the matrix uses for master `m` supplying `q` (R461, R462). -/
def State.capQos (s : State) (m q : Nat) : Nat :=
  let top := s.fget (F.MATRIX_MASTER_CFG_MAX_QOS m)
  let lim := if 18 ≤ m then min 14 top else top
  min (if m = 20 then s.fget (F.MATRIX_MASTER_CFG_QOS m) else q) lim

/-- Counts an error response to a master, and where `kind` is not 0 logs and raises it (R469 to R471, R474). -/
def State.busErr (s : State) (b : By) (wr : Bool) (addr kind : Nat) : State :=
  let s1 := s.count (R.MATRIX_MASTER_ERRS b.m)
  if kind = 0 then s1
  else
    let s2 := (s1.doIf (kind == 1) (fun u => u.count R.MATRIX_DECODE_ERRS)).raise
      (if kind = 1 then F.MATRIX_EVENT_DECODE_ERR else if kind = 2 then F.MATRIX_EVENT_TIMEOUT else F.MATRIX_EVENT_ACCESS_ERR)
    if s.fbit F.MATRIX_ERR_INFO_VALID then s2
    else (s2.wr64 R.MATRIX_ERR_ADDR_LO R.MATRIX_ERR_ADDR_HI addr).wrN R.MATRIX_ERR_INFO
      (2 ^ 31 + kind * 2 ^ 28 + b2n wr * 2 ^ 27 + qosClass b.qos * 2 ^ 24 + b.id % 256 * 2 ^ 8 + b.m)

/-! ### The address map -/

/-- A target of the matrix (R450, R452): boot ROM, a Curator's TCM, the shared SRAM, the register bridge with the BAR0 offset, a Carrel
window with the offset in it, a beam-set window with the offset in it, the Archive with its offset, the default target. -/
inductive Target where
  | rom (off : Nat)
  | tcm (c : Nat)
  | sram
  | bridge (off : Nat)
  | carrel (j off : Nat)
  | setWin (set off : Nat)
  | archive (off : Nat)
  | none'
  deriving DecidableEq, Repr

/-- What window 0 shows to master `m` under the REMAP bits in force (R453). -/
def State.window0 (s : State) (m addr : Nat) : Option Nat :=
  if 0x80000 ≤ addr then some addr
  else if m = 0 then (if s.fbit F.MATRIX_CTRL_REMAP_A then some (0x200000 + addr) else if addr < 0x40000 then some (0x100000 + addr) else none)
  else if m = 1 then (if s.fbit F.MATRIX_CTRL_REMAP_B then some (0x300000 + addr) else if addr < 0x40000 then some (0x100000 + addr) else none)
  else none

/-- The target of a decoded address (R452). -/
def targetOf (a : Nat) : Target :=
  if 0x100000 ≤ a ∧ a < 0x140000 then .rom (a - 0x100000)
  else if 0x200000 ≤ a ∧ a < 0x280000 then .tcm 0
  else if 0x300000 ≤ a ∧ a < 0x380000 then .tcm 1
  else if 0x1000000 ≤ a ∧ a < 0x1800000 then .sram
  else if 0x2000000 ≤ a ∧ a < 0x3000000 then .bridge (a - 0x2000000)
  else if 0x400000000 ≤ a ∧ a < 0x406400000 then .carrel ((a - 0x400000000) / 0x40000) (a % 0x40000)
  else if 0x410000000 ≤ a ∧ a < 0x410800000 then .setWin ((a - 0x410000000) / 0x40000) (a % 0x40000)
  else if archiveBase ≤ a ∧ a < 0x2000000000 then .archive (a - archiveBase)
  else .none'

/-- The target port of a target; none for the default target (R450). -/
def Target.port : Target → Option Nat
  | .tcm c => some c
  | .sram => some 2
  | .archive _ => some 3
  | .carrel _ _ => some 4
  | .setWin _ _ => some 4
  | .bridge _ => some 5
  | .rom _ => some 5
  | .none' => none

/-! ### Carrel windows and the common window of a set -/

/-- The page of the input or beam tables that [off, off + n) lies in wholly; none where it does not (R294). -/
def tablePage (off n : Nat) : Option Nat :=
  [0, 1].find? (fun p => (decide (0x10000 * p ≤ off) && decide (off + n ≤ 0x10000 * (p + 1)))
    || (decide (0x20000 + 0x200 * p ≤ off) && decide (off + n ≤ 0x20000 + 0x200 * (p + 1))))

/-- Whether [off, off + n) touches the tables of page `p` (R294). -/
def touchesPage (p off n : Nat) : Bool :=
  (decide (0x10000 * p < off + n) && decide (off < 0x10000 * (p + 1)))
    || (decide (0x20000 + 0x200 * p < off + n) && decide (off < 0x20000 + 0x200 * (p + 1)))

/-- Whether [off, off + n) touches the active page of set `k` (R299). -/
def State.touchesActive (s : State) (k off n : Nat) : Bool :=
  match s.pageNow k with
  | some p => touchesPage p off n
  | none => false

/-- Whether a write of [off, off + n) to a beam-role tile of set `k` is carried out (R456). -/
def State.beamWritable (s : State) (k off n : Nat) : Bool := !s.touchesActive k off n && (tablePage off n).isSome

/-- Whether an access to Carrel window `j` is carried out (R456). A position without a physical tile has no Carrel. -/
def State.windowOk (s : State) (j : Nat) (wr : Bool) (off n : Nat) : Bool :=
  (s.physOf j).isSome && (!wr || (match s.roleOf j with
    | 0 => true
    | 1 => false
    | _ => s.beamWritable ((s.setOf j).getD 0) off n))

/-- Counts a refused write to an active page (R299). -/
def State.noteWerr (s : State) : State := (s.count R.BEAM_WERR).raise F.BEAM_EVENT_WERR

/-- The physical tiles that a write to the common window of set `k` reaches (R457). -/
def State.aliasTiles (s : State) (k : Nat) : List Nat :=
  (((s.array.plan.recs.filter (fun r => r.set == k)).map BeamRec.tile).dedup).filterMap s.physOf

/-! ### Memory and registers -/

/-- Stores enabled bytes from matrix address `a`. -/
def State.stEnabled : State → Nat → List (Option Byte) → State
  | s, _, [] => s
  | s, a, some b :: rest => (s.stb a b).stEnabled (a + 1) rest
  | s, a, none :: rest => s.stEnabled (a + 1) rest

/-- How registers answer: a read and a write of one word at a BAR0 offset by a master; none where the access receives an error
response. -/
structure RegBus where
  rd : State → Nat → Nat → Option (State × Word)
  wr : State → Nat → Nat → Word → Option State

/-- Registers that answer nothing: for accesses that never reach one. -/
def noRegs : RegBus := ⟨fun _ _ _ => none, fun _ _ _ _ => none⟩

/-- Whether the block of a BAR0 offset stays reachable in SLEEP: POWER, IRQ, MBOX, TIME and CHAIN (R606). -/
def asleepOk (off : Nat) : Bool :=
  (decide (0x20000 ≤ off) && decide (off < 0x40000)) || (decide (0xE0000 ≤ off) && decide (off < 0x100000))
    || (decide (0x140000 ≤ off) && decide (off < 0x170000))

/-- The Clove engine and local address of a BAR0 offset in the engines' spaces (R564). -/
def cloveSpace (off : Nat) : Option (Nat × Nat) :=
  if 0x800000 ≤ off ∧ off < 0x1000000 then some ((off - 0x800000) / 0x80000, (off - 0x800000) % 0x80000) else none

/-- Whether an outside write to a Clove memory is refused: P while the engine is in RUN (R565). -/
def State.cloveRefused (s : State) (e loc : Nat) (wr : Bool) : Bool := wr && decide (loc < 0x10000) && s.fget (F.CLOVE_STATUS_STATE e) == 1

/-- One 32-bit peripheral read at a word-aligned BAR0 offset; the second part is the kind of the error, 0 for none of the matrix's
own (R459, R564, R565, R606). -/
def State.busRd32 (s : State) (rb : RegBus) (m off : Nat) : Except Nat (State × Word) :=
  if s.mode = 0 ∧ !asleepOk off then .error 0
  else match cloveSpace off with
    | some (_, loc) =>
      if loc < 0x60000 then .ok (s, BitVec.ofNat 32 (s.ldNat (0x2000000 + off) 4))
      else if loc < 0x7F000 then .error 1
      else match rb.rd s m off with
        | some r => .ok r
        | none => .error 1
    | none => match rb.rd s m off with
      | some r => .ok r
      | none => .error 1

/-- One 32-bit peripheral write. -/
def State.busWr32 (s : State) (rb : RegBus) (m off : Nat) (v : Word) : Except Nat State :=
  if s.mode = 0 ∧ !asleepOk off then .error 0
  else match cloveSpace off with
    | some (e, loc) =>
      if loc < 0x60000 then (if s.cloveRefused e loc true then .error 0 else .ok (s.stNat (0x2000000 + off) 4 v.toNat))
      else if loc < 0x7F000 then .error 1
      else match rb.wr s m off v with
        | some r => .ok r
        | none => .error 1
    | none => match rb.wr s m off v with
      | some r => .ok r
      | none => .error 1

/-- Peripheral reads in ascending address over `k` words from a word-aligned offset; the first error's kind is kept (R459). -/
def State.bridgeRead (rb : RegBus) (m : Nat) : Nat → Nat → State → State × List Byte × Option Nat
  | 0, _, s => (s, [], none)
  | k + 1, off, s =>
    match s.busRd32 rb m off with
    | .ok (s1, v) =>
      let r := State.bridgeRead rb m k (off + 4) s1
      (r.1, leBytes 4 v.toNat ++ r.2.1, r.2.2)
    | .error e =>
      let r := State.bridgeRead rb m k (off + 4) s
      (r.1, leBytes 4 0 ++ r.2.1, some e)

/-- Peripheral writes in ascending address of whole words (R459). -/
def State.bridgeWrite (rb : RegBus) (m : Nat) : Nat → List (Option Byte) → State → State × Option Nat
  | off, some a :: some b :: some c :: some d :: rest, s =>
    match s.busWr32 rb m off (BitVec.ofNat 32 (leNat [a, b, c, d])) with
    | .ok s1 => State.bridgeWrite rb m (off + 4) rest s1
    | .error e =>
      let r := State.bridgeWrite rb m (off + 4) rest s
      (r.1, some e)
  | _, _, s => (s, none)

/-! ### Accesses -/

/-- Reads `n` bytes at a decoded address: the state after it, the bytes, and whether the response is no error (R451 to R459, R469). -/
def State.busRead (s : State) (rb : RegBus) (b : By) (addr tgt n : Nat) : State × List Byte × Bool :=
  let bad := fun (u : State) (k : Nat) => (u.busErr b false addr k, List.replicate n 0#8, false)
  let asleep := s.mode = 0
  match targetOf tgt with
  | .none' => bad s 1
  | .bridge off =>
    let r := State.bridgeRead rb b.m (ceilDiv (off % 4 + n) 4) (off - off % 4) s
    (match r.2.2 with
     | some k => bad r.1 k
     | none => (r.1, (r.2.1.drop (off % 4)).take n, true))
  | t =>
    if asleep then bad s 0
    else match t with
      | .rom off => (s, (List.range n).map (fun k => Config.bootRom (off + k)), true)
      | .carrel j off =>
        if s.windowOk j false off n then (s, s.ldBytes (carrelAddr (s.phys j) + off) n, true) else bad s 4
      | .setWin _ _ => bad s 6
      | .archive off =>
        let r := s.archRead (arcClass b.qos) off n
        if r.2.2 then r else bad r.1 0
      | _ => (s, s.ldBytes tgt n, true)

/-- Writes enabled bytes at a decoded address; gives the state and whether the response is no error (R425, R451 to R459, R469). -/
def State.busWrite (s : State) (rb : RegBus) (b : By) (addr tgt : Nat) (bs : List (Option Byte)) : State × Bool :=
  let n := bs.length
  let bad := fun (u : State) (k : Nat) => (u.busErr b true addr k, false)
  match targetOf tgt with
  | .none' => bad s 1
  | .bridge off =>
    if off % 4 ≠ 0 ∨ n % 4 ≠ 0 ∨ bs.any Option.isNone then bad s 3
    else
      let r := State.bridgeWrite rb b.m off bs s
      (match r.2 with
       | some k => bad r.1 k
       | none => (r.1, true))
  | t =>
    if s.mode = 0 then bad s 0
    else match t with
      | .rom _ => bad s 5
      | .carrel j off =>
        if s.windowOk j true off n then (s.stEnabled (carrelAddr (s.phys j) + off) bs, true)
        else bad (s.doIf ((s.physOf j).isSome && s.roleOf j == 2 && s.touchesActive ((s.setOf j).getD 0) off n) State.noteWerr) 4
      | .setWin k off =>
        let ts := s.aliasTiles k
        if !ts.isEmpty && s.beamWritable k off n then (s.forEach ts (fun u p => u.stEnabled (carrelAddr p + off) bs), true)
        else bad (s.doIf (!ts.isEmpty && s.touchesActive k off n) State.noteWerr) 6
      | .archive off =>
        if b.m = 20 ∧ off + n ≤ archiveEnd ∧ !s.hostWritable off n then bad (s.rangeErr 5 (arcClass b.qos) off) 0
        else
          let r := s.archWrite (arcClass b.qos) off bs
          if r.2 then r else bad r.1 0
      | _ => (s.stEnabled tgt bs, true)

/-- Reads by an address as the master presents it. -/
def State.readAt (s : State) (rb : RegBus) (b : By) (addr n : Nat) : State × List Byte × Bool :=
  match s.window0 b.m addr with
  | some t => s.busRead rb b addr t n
  | none => (s.busErr b false addr 1, List.replicate n 0#8, false)

/-- Writes by an address as the master presents it. -/
def State.writeAt (s : State) (rb : RegBus) (b : By) (addr : Nat) (bs : List (Option Byte)) : State × Bool :=
  match s.window0 b.m addr with
  | some t => s.busWrite rb b addr t bs
  | none => (s.busErr b true addr 1, false)

/-! ### Service -/

/-- Changes the matrix beside its registers. -/
def State.matMod (s : State) (f : MatrixSt → MatrixSt) : State := { s with matrix := f s.matrix }

/-- The 64-byte beats of an access. -/
def beatsOf (a n : Nat) : Nat := ceilDiv (a % 64 + n) 64

/-- MATRIX.SAFFRON_BUDGET in force (R465). -/
def State.saffronBudget (s : State) : Nat := min 102 (s.rdN R.MATRIX_SAFFRON_BUDGET % 128)

/-- Counts a Saffron transaction that port `p` carries with QoS 14 (R463, R465). -/
def State.noteOver (s : State) (p : Nat) : State :=
  ((s.count (R.MATRIX_PORT_SAFFRON_OVER p)).raise F.MATRIX_EVENT_SAFFRON_OVER).matMod (fun x => { x with over' := setBit x.over' p })

/-- Counts beats served by port `p` in BEATS. -/
def State.noteBeats (s : State) (p b : Nat) : State :=
  let n := tget 0 s.matrix.beats p + b
  (s.countBy (R.MATRIX_PORT_BEATS p) (n / 1024)).matMod (fun x => { x with beats := tset 0 x.beats p (n % 1024) })

/-- Port `p` takes `b` beats carried with `q`: the QoS value that they are served with, Saffron within the budget of the window (R465). -/
def State.portTake (s : State) (p b q : Nat) : State × Nat :=
  let s1 := s.noteBeats p b
  let n := tget 0 s.matrix.saffron p + b
  if q ≠ 15 then (s1, q)
  else if s.saffronBudget < n then (s1.noteOver p, 14)
  else
    let s2 := s1.matMod (fun x => { x with saffron := tset 0 x.saffron p n })
    (s2.wrN (R.MATRIX_PORT_SAFFRON_PEAK p) (max (s2.rdN (R.MATRIX_PORT_SAFFRON_PEAK p)) n), 15)

/-- A transaction that a master makes and whose answer it has at once: capped, split from Saffron where it is too long or over the
budget, and counted at its port (R461 to R465); it gives the state and who makes it. -/
def State.served (s : State) (b : By) (addr n : Nat) : State × By :=
  let q := s.capQos b.m b.qos
  match (targetOf ((s.window0 b.m addr).getD addr)).port with
  | none => (s, { b with qos := q })
  | some p =>
    let r := if q = 15 ∧ 64 < n then (s.noteOver p, 14) else (s, q)
    let t := r.1.portTake p (beatsOf addr n) r.2
    (t.1, { b with qos := t.2 })

end Sys2Proof.Machine
end

