-- ==== Sys2Proof/Machine/DmaCtl.lean ====
section
/-!
DEFINITION. Machine/DmaCtl.lean: the states of the DMA channels, the regions of the engine's checks, the end of a descriptor with its
writeback, and the commands that registers give a channel (R480 to R484, R487, R488, R491, R494 to R500).
-/
namespace Sys2Proof.Machine

/-- Changes the DMA engine beside its registers. -/
def State.dmaMod (s : State) (f : DmaSt → DmaSt) : State := { s with dma := f s.dma }

/-- Channel `n`. -/
def State.ch (s : State) (n : Nat) : DmaCh := tget {} s.dma.chs n

/-- Changes channel `n`. -/
def State.chMod' (s : State) (n : Nat) (f : DmaCh → DmaCh) : State :=
  s.dmaMod (fun d => { d with chs := tmod {} d.chs n f })

/-- The state of channel `n`: 0 OFF, 1 FETCH, 2 WAIT, 3 RUN, 4 FENCE, 5 WRITEBACK, 6 STOPPING, 7 HALTED (R498). -/
def State.chState (s : State) (n : Nat) : Nat := s.fget (F.DMA_CH_STATUS_STATE n)

/-- Shows the slots reserved in the buffer (R501). -/
def State.showBuf (s : State) : State :=
  s.wrN R.DMA_BUF_USE (((s.dma.chs.map (fun e => (e.2.slots.map Prod.snd).sum)).sum) % 2 ^ 15)

/-- Puts channel `n` into a state, with what entering it does (R498, R503). -/
def State.setCh (s : State) (n st : Nat) : State :=
  let s1 := (s.fput (F.DMA_CH_STATUS_STATE n) st).fput ⟨R.DMA_STATUS, n, 1⟩ (b2n (st != 0))
  if st = 2 then s1.raise (F.DMA_CH_EVENT_EMPTY n)
  else if st = 7 then (s1.raise (F.DMA_CH_EVENT_HALTED n)).fput (F.DMA_CH_CTRL_STOP n) 0
  else if st = 0 then
    (((s1.clr (R.DMA_CH_HEAD n)).fput (F.DMA_CH_CTRL_STOP n) 0).chMod' n (fun c => { orphans := c.orphans, bytes := c.bytes })).showBuf
  else s1

/-- Where a channel goes once it has stopped: HALTED, or OFF when it has been disabled (R498). -/
def State.stopCh (s : State) (n : Nat) : State := s.setCh n (if s.fbit (F.DMA_CH_CTRL_ENABLE n) then 7 else 0)

/-! ### Regions -/

/-- The first address of the host window (R488). -/
def hostWin : Nat := 0x8000000000

/-- The regions of the Archive in force: entry, offset and size (R424, R488). -/
def State.arcRegions (s : State) : List (Nat × Nat × Nat) :=
  ((List.range 16).map (fun r => (r, s.regionBase r, s.fget (F.HBMC_REGION_W1_SIZE r) * 2 ^ 21))).filter (fun e =>
    decide (0 < e.2.2) && s.fbit (F.HBMC_REGION_W0_EN e.1))

/-- The region that matrix address `a` starts in: its first address and its end (R488). -/
def State.dmaRegion (s : State) (a : Nat) : Option (Nat × Nat) :=
  if hostWin ≤ a ∧ a < 2 ^ 40 then some (hostWin, 2 ^ 40)
  else match targetOf a with
    | .rom _ => some (0x100000, 0x140000)
    | .tcm c => some (0x200000 + 0x100000 * c, 0x280000 + 0x100000 * c)
    | .sram => some (0x1000000, 0x1800000)
    | .bridge _ => some (0x2000000, 0x3000000)
    | .carrel j _ => some (0x400000000 + j * 0x40000, 0x400000000 + (j + 1) * 0x40000)
    | .setWin k _ => some (0x410000000 + k * 0x40000, 0x410000000 + (k + 1) * 0x40000)
    | .archive off =>
      (s.arcRegions.find? (fun e => decide (e.2.1 ≤ off) && decide (off < e.2.1 + e.2.2))).map (fun e =>
        (archiveBase + e.2.1, archiveBase + e.2.1 + e.2.2))
    | .none' => none

/-- Whether [a, e) within one region may be read or written; `words` says that base, steps and length are multiples of 4 (R488). -/
def State.dmaAllowed (s : State) (a e : Nat) (wr words : Bool) : Bool :=
  if hostWin ≤ a then true
  else match targetOf a with
    | .rom _ => !wr
    | .bridge _ => !wr || words
    | .carrel j off => s.windowOk j wr off (e - a)
    | .setWin k off => wr && !(s.aliasTiles k).isEmpty && s.beamWritable k off (e - a)
    | .archive off => !wr || !(s.arcRegions.any (fun r => decide (r.1 < 3) && decide (r.2.1 ≤ off) && decide (off < r.2.1 + r.2.2)))
    | _ => true

/-- The ring of channel `n`: its address, and its size in descriptors (R480). -/
def State.ring (s : State) (n : Nat) : Nat × Nat :=
  (s.rdN (R.DMA_CH_RING_LO n) / 32 * 32 + 2 ^ 32 * s.fget (F.DMA_CH_RING_HI_ADDR_HI n), 2 ^ s.fget (F.DMA_CH_RING_HI_SIZE n))

/-- Whether the ring of channel `n` is valid (R499, R502). -/
def State.ringOk (s : State) (n : Nat) : Bool :=
  let z := s.fget (F.DMA_CH_RING_HI_SIZE n)
  let a := (s.ring n).1
  let e := a + 32 * (s.ring n).2
  decide (1 ≤ z) && decide (z ≤ 16) && (match s.dmaRegion a with
    | some r => decide (e ≤ r.2) && s.dmaAllowed a e false true && s.dmaAllowed a e true true
    | none => false)

/-! ### The end of a descriptor -/

/-- The engine as matrix master 18 or 19 for channel `n` (R450, R476, R479). -/
def State.dmaBy (s : State) (m n : Nat) : By := ⟨m, n, s.capQos m (min 14 (s.fget (F.DMA_CH_CFG_QOS n)))⟩

/-- The host address of an address in the host window (R489). -/
def State.hostAddr (s : State) (a : Nat) : Nat := s.rd64 R.DMA_HOSTWIN_LO R.DMA_HOSTWIN_HI + (a - hostWin)

/-- Whether the endpoint carries an outbound access: in D0 with Bus Master Enable (R647). -/
def State.hostOpen (s : State) : Bool := bitOf (s.rdN R.HOSTIF_STATUS) 21 && s.rdN R.HOSTIF_STATUS / 2 ^ 22 % 4 == 0 && !s.host.cold

/-- Writes for the engine: into the host window through the endpoint, elsewhere through the matrix (R489); `ep` marks poisoned data
(R647). -/
def State.dmaPut (s : State) (rb : RegBus) (n a : Nat) (bs : List (Option Byte)) (ep : Bool) : State × Bool :=
  if hostWin ≤ a then
    if s.hostOpen then (s.emit (.hostWrite (s.hostAddr a) bs ep), true) else (s, false)
  else s.writeAt rb (s.dmaBy 19 n) a bs

/-- Writes the record of channel `n`'s descriptor: OWN = 0, DONE = 1, ERR, the complement and RESULT in one write, and steps HEAD;
the channel goes on, or stops after an error with ON_ERR = 0 or where `stop` says so (R480, R484, R497, R498). -/
def State.writeback (s : State) (n : Nat) (code : Nat) (last : Bool) (beat : Nat) (stop : Bool) : State :=
  match (s.ch n).desc with
  | none => s
  | some d =>
    let ctl := d.ctl % 0x80 - (if bitOf d.ctl 3 then 8 else 0) - (if bitOf d.ctl 2 then 4 else 0) + 8 + 4 * b2n (code != 0)
    let bytes := [some (BitVec.ofNat 8 ctl), some (BitVec.ofNat 8 (255 - ctl))] ++ List.replicate 13 none
      ++ [some (BitVec.ofNat 8 (16 * code + 8 * b2n last + beat % 8))]
    let s1 := (s.dmaPut noRegs n d.place bytes false).1
    let head := (s1.rdN (R.DMA_CH_HEAD n) + 1) % (s1.ring n).2
    let halt := stop || (code != 0 && !s.fbit (F.DMA_CH_CFG_ON_ERR n)) || (s.ch n).stopDue
    let s2 := ((s1.wrN (R.DMA_CH_HEAD n) head).fput (F.DMA_CH_STATUS_CODE n) code).chMod' n (fun c =>
      { orphans := c.orphans ++ c.writes, bytes := c.bytes, tokens := c.tokens, wtokens := c.wtokens })
    let s3 := s2.showBuf
    if halt then s3.stopCh n else s3.setCh n 1

/-- Ends channel `n`'s descriptor where nothing of it is in flight any more: in WRITEBACK, and in STOPPING, once what has been read is
written, with its own error or code 10
(R484, R494, R497, R498). -/
def State.settle (s : State) (n : Nat) : State :=
  let c := s.ch n
  let e := c.err.getD (0, false, 0)
  if s.chState n = 5 ∧ c.writes.isEmpty ∧ c.reads.isEmpty then s.writeback n e.1 e.2.1 e.2.2 false
  else if s.chState n = 6 ∧ c.writes.isEmpty ∧ c.reads.isEmpty ∧ c.rd ≤ c.wr then
    match c.desc with
    | some _ => if c.err.isSome then s.writeback n e.1 e.2.1 e.2.2 true else s.writeback n 10 false 0 true
    | none => s.stopCh n
  else s

/-- Stops channel `n` (R498): a descriptor whose bytes have all been written keeps its own result. -/
def State.dmaStop (s : State) (n : Nat) : State :=
  match s.chState n with
  | 0 | 7 => s.fput (F.DMA_CH_CTRL_STOP n) 0
  | 5 => (s.fput (F.DMA_CH_CTRL_STOP n) 1).chMod' n (fun c => { c with stopDue := true })
  | 6 => s.fput (F.DMA_CH_CTRL_STOP n) 1
  | _ => ((s.fput (F.DMA_CH_CTRL_STOP n) 1).setCh n 6).settle n

/-! ### Commands of registers -/

/-- DMA_ENABLE: CTRL.ENABLE of channel `n` is written (R498, R499). -/
def execDmaEnable (n : Fin 32) (on : Bool) (s : State) : Host.Outcome State Fault Refusal :=
  let s1 := s.fput (F.DMA_CH_CTRL_ENABLE n.val) (b2n on)
  .next (if on then
      if s.chState n.val ≠ 0 then s1
      else if s.ringOk n.val then s1.setCh n.val 1 else s1.raise (F.DMA_CH_EVENT_RING_BAD n.val)
    else if s.chState n.val = 0 then s1
    else if s.chState n.val = 7 then s1.setCh n.val 0
    else s1.dmaStop n.val)

/-- DMA_STOP: CTRL.STOP of channel `n` is written (R498). -/
def execDmaStop (n : Fin 32) (s : State) : Host.Outcome State Fault Refusal := .next (s.dmaStop n.val)

/-- DMA_RESUME: CTRL.RESUME of channel `n` is written; a ring made invalid meanwhile keeps the channel HALTED (R498, R499). -/
def execDmaResume (n : Fin 32) (s : State) : Host.Outcome State Fault Refusal :=
  .next (if s.chState n.val ≠ 7 then s
    else if s.ringOk n.val then s.setCh n.val 1 else s.raise (F.DMA_CH_EVENT_RING_BAD n.val))

/-- DOORBELL: DOORBELL of channel `n` is written (R483, R498). -/
def execDoorbell (n : Fin 32) (s : State) : Host.Outcome State Fault Refusal :=
  .next (if s.chState n.val = 2 then s.setCh n.val 1 else s)

/-- Whether the request line that channel `n` selects is asserted (R491, R502): Clove requests, full staging slots, the chain's receive queue. -/
def State.reqLevel (s : State) (n : Nat) : Bool :=
  let q := s.fget (F.DMA_CH_CFG_REQ n)
  if q = 0 then true
  else if q ≤ 16 then s.fbit (F.CLOVE_STATUS_DMAREQ (q - 1))
  else if q ≤ 24 then s.fbit (F.ACCUM_STAGE_STATE_FULL (q - 17))
  else q == 25 && s.fbit F.CHAIN_RXQ_CTRL_NOT_EMPTY

/-- DMA_CFG_WRITE: CFG, RING_LO or RING_HI of channel `n` is written; it takes effect in OFF and HALTED alone (R499). -/
def execDmaCfgWrite (n : Fin 32) (which : Fin 3) (v : Word) (s : State) : Host.Outcome State Fault Refusal :=
  .next (if s.chState n.val ≠ 0 ∧ s.chState n.val ≠ 7 then s.raise (F.DMA_CH_EVENT_CFG_REFUSED n.val)
    else match which with
      | 0 => s.wr (R.DMA_CH_CFG n.val) (v &&& 0xFFFFFFF3#32)
      | 1 => s.wr (R.DMA_CH_RING_LO n.val) (v &&& 0xFFFFFFE0#32)
      | 2 => s.wr (R.DMA_CH_RING_HI n.val) (v &&& 0x001F00FF#32))

end Sys2Proof.Machine
end

