-- ==== Sys2Proof/Machine/LanePorts.lean ====
section
/-!
DEFINITION. Machine/LanePorts.lean: the commands of bring-up, which act on a lane (0 to 191) or on a chain port (192 CHAIN_UP,
193 CHAIN_DN): a port runs OFF to LOCK as a lane does, at one rate, and goes on to HELLO (R102, R104, R377).
-/
namespace Sys2Proof.Machine

/-- Port `p` sends its training sequence, at 12.5 Gbaud (R93, R377). -/
def State.portSequenceOut (s : State) (p : Nat) (tsb : Bool) : State :=
  s.send (192 + p) (sequenceChars tsb 2 (s.lane (192 + p)).fom) true

/-- Port `p` enters TRAIN, sending TSA. -/
def State.portTrain (s : State) (p : Nat) : State :=
  ((s.portLost p 2).laneMod (192 + p) (fun l =>
    { l with tsb := false, tsaRun := 0, tsbRun := 0, commas := 0, rdPos := false, bitLock := false, symLock := false })).portSequenceOut p false

/-- Port `p` enters LOCK, sending TSB; `keep` where symbol lock still holds. -/
def State.portLock (s : State) (p : Nat) (keep : Bool) : State :=
  ((s.portLost p 3).laneMod (192 + p) (fun l => { l with
    tsaRun := 0, tsbRun := 0, commas := 0, symLock := keep && l.symLock })).portSequenceOut p true

/-- Port `p` enters DETECT. -/
def State.portDetect (s : State) (p : Nat) : State :=
  ((s.portLost p 1).laneMod (192 + p) (fun l => { l with bitLock := false, symLock := false, txPos := false })).emit (.detectPulse (192 + p))

/-- HELLO_TIMEOUT: a port in HELLO returns to TRAIN after 10 ms (R377). -/
def execHelloTimeout (p : Fin 2) (s : State) : Host.Outcome State Fault Refusal :=
  .next (if s.portState p.val = 4 then s.portTrain p.val else s)

/-- CHAIN_LINK_LOSS: port `p` leaves UP for DETECT, TRAIN or LOCK (R104, R377, R387). -/
def execChainLinkLoss (p : Fin 2) (to' : Fin 3) (s : State) : Host.Outcome State Fault Refusal :=
  .next (if s.portUp p.val then
      (match to'.val with
       | 0 => s.portDetect p.val
       | 1 => s.portTrain p.val
       | _ => s.portLock p.val false)
    else s)

/-- One comma toward symbol lock (R102). -/
def State.portComma (s : State) (p : Nat) : State :=
  if (s.lane (192 + p)).bitLock then
    s.laneMod (192 + p) (fun l => { l with commas := l.commas + 1, symLock := l.symLock || decide (3 ≤ l.commas + 1) })
  else s

/-- Invalid characters on port `p`, as many as `k`, among `len` received; the sixteenth within 4,096 drops symbol lock in HELLO and UP
(R104, R377). -/
def State.portInvalid (s : State) (p len k : Nat) : State :=
  let l := s.lane (192 + p)
  let at' := l.chars + len
  let recent := l.invalids.filter (fun c => decide (at' < c + 4096)) ++ List.replicate k at'
  let s1 := s.laneMod (192 + p) (fun l => { l with chars := at', invalids := recent })
  if 16 ≤ recent.length ∧ 4 ≤ s.portState p then (s1.portLock p false).laneMod (192 + p) (fun l => { l with invalids := [] }) else s1

/-- A training sequence on port `p`, with `k` invalid characters (R93, R102, R104, R377). -/
def State.portSequence (s : State) (p : Nat) (tsb : Bool) (k : Nat) : State :=
  let st := s.portState p
  let l := s.lane (192 + p)
  let a := if tsb then 0 else l.tsaRun + 1
  let b := if tsb && (k == 0 || st != 3) then l.tsbRun + 1 else 0
  let s0 := s.portInvalid p 16 k
  if st < 3 then s
  else if st = 3 ∧ l.symLock = false then s.portComma p
  else if s0.portState p ≠ st then s0
  else
    let s1 := s0.laneMod (192 + p) (fun l => { l with tsaRun := a, tsbRun := b })
    if st = 3 then (if 8 ≤ b then s1.portHello p else s1)
    else if 2 ≤ a then s1.portTrain p
    else if 2 ≤ b ∧ st = 5 then s1.portLock p true
    else s1

/-- One ten-bit group on port `p`: commas in LOCK; in HELLO and UP the sixteenth invalid character within 4,096 drops symbol lock
(R104). A character received so ends a run of training sequences; messages come whole with their own commands. -/
def State.portGroup (s : State) (p g : Nat) : State :=
  let l := s.lane (192 + p)
  let c := decode10 g l.rdPos
  let s1 := s.laneMod (192 + p) (fun l => { l with rdPos := rd10 g l.rdPos, tsaRun := 0, tsbRun := 0 })
  if s.portState p < 3 then s
  else if s.portState p = 3 ∧ c = .k285 ∧ l.symLock = false then s1.portComma p
  else s1.portInvalid p 1 (b2n c.invalid)

/-- Runs `f` on the chain port that `n` names, or `g` on the lane. -/
def State.portOr (n : Fin 194) (f g : Nat → State) : State := if 192 ≤ n.val then f (n.val - 192) else g n.val

/-- DETECT_PULSE: a receiver-detection pulse is sent in DETECT (R102). -/
def execDetectPulse (n : Fin 194) (s : State) : Host.Outcome State Fault Refusal :=
  .next (State.portOr n (fun p => if s.portState p = 1 then s.emit (.detectPulse (192 + p)) else s) s.laneDetectPulse)

/-- DETECT_EXIT: a receiver is detected and signal has been present for 100 µs (R102, R105). -/
def execDetectExit (n : Fin 194) (s : State) : Host.Outcome State Fault Refusal :=
  .next (State.portOr n (fun p => if s.portState p = 1 then s.portTrain p else s) s.laneDetectExit)

/-- TSB_SWITCH: adaptation has held for 1 ms in TRAIN and TSB is sent (R102). -/
def execTsbSwitch (n : Fin 194) (fom : Byte) (s : State) : Host.Outcome State Fault Refusal :=
  .next (State.portOr n (fun p => if s.portState p = 2 then
      (s.laneMod (192 + p) (fun l => { l with tsb := true, fom := fom.toNat })).portSequenceOut p true else s)
    (fun k => s.laneTsbSwitch k fom))

/-- TRAIN_DONE: TSB has been sent for 1 µs (R102). -/
def execTrainDone (n : Fin 194) (s : State) : Host.Outcome State Fault Refusal :=
  .next (State.portOr n (fun p => if s.portState p = 2 ∧ (s.lane (192 + p)).tsb then s.portLock p false else s) s.laneTrainDone)

/-- TRAIN_TIMEOUT: TRAIN again, on a lane at the next lower enabled rate (R103, R377). -/
def execTrainTimeout (n : Fin 194) (s : State) : Host.Outcome State Fault Refusal :=
  .next (State.portOr n (fun p => if s.portState p = 2 then s.portTrain p else s) s.laneTrainTimeout)

/-- LOCK_TIMEOUT: TRAIN at the same rate, on a lane raising LOCK_FAIL (R102). -/
def execLockTimeout (n : Fin 194) (s : State) : Host.Outcome State Fault Refusal :=
  .next (State.portOr n (fun p => if s.portState p = 3 then s.portTrain p else s) s.laneLockTimeout)

/-- TRAINING_SEQUENCE: a TSA or TSB with the partner's FOM is received, `b.errs` its invalid characters by kind (R85, R93, R102, R104). -/
def execTrainingSequence (n : Fin 194) (tsb : Bool) (b : SequenceBody) (s : State) : Host.Outcome State Fault Refusal :=
  .next (State.portOr n (fun p => s.portSequence p tsb b.errs.length) (fun k => s.laneTrainingSequence k tsb b.fom b.errs))

/-- CHARACTER_RECEIVE: one ten-bit group, bit a first (R83 to R91, R104, R109). -/
def execCharacterReceive (n : Fin 194) (g : BitVec 10) (mark : Fin 3) (s : State) : Host.Outcome State Fault Refusal :=
  .next (State.portOr n (fun p => s.portGroup p g.toNat) (fun k => s.laneCharacterReceive k g mark))

/-- SIGNAL_LOSS: receive signal absent for 10 µs leads to DETECT (R102, R104). -/
def execSignalLoss (n : Fin 194) (s : State) : Host.Outcome State Fault Refusal :=
  .next (State.portOr n (fun p => if 2 ≤ s.portState p then s.portDetect p else s) s.laneSignalLoss)

/-- BIT_LOCK_LOSS: leads to TRAIN (R102, R104). -/
def execBitLockLoss (n : Fin 194) (s : State) : Host.Outcome State Fault Refusal :=
  .next (State.portOr n (fun p => if 3 ≤ s.portState p ∧ (s.lane (192 + p)).bitLock then s.portTrain p else s) s.laneBitLockLoss)

/-- BIT_LOCK: in LOCK the receiver acquires bit lock (R102). -/
def execBitLock (n : Fin 194) (s : State) : Host.Outcome State Fault Refusal :=
  .next (State.portOr n (fun p => if s.portState p = 3 then s.laneMod (192 + p) (fun l => { l with bitLock := true }) else s)
    s.laneBitLock)

end Sys2Proof.Machine
end

