-- ==== Sys2Proof/Machine/Power.lean ====
section
/-!
DEFINITION. Machine/Power.lean: SLEEP and wake, the resets, and the THERMTRIP latch (R604 to R609, R618, R637, R638, R677, R685).
-/
namespace Sys2Proof.Machine

/-! ### Resets -/

/-- What every start keeps: the store, the fuses and the THERMTRIP latch (R609); outputs, free values and the queue are not the
block's own state. -/
def State.coldState (s : State) : State :=
  { State.reset with
    cat := { State.reset.cat with store := s.cat.store }
    host := { State.reset.host with fuses := s.host.fuses }
    power := { State.reset.power with tripped := s.power.tripped }
    out := s.out, fresh := s.fresh, pending := s.pending }

/-- What SLEEP and a warm start do to the state of the time unit (R59). DESIGN CHOICE (log 210): a source that was active stays recorded as
active, in FREE_RUN too (R70). -/
def State.timeSleep (s : State) : State :=
  match s.fget F.TIME_STATE_STATE with
  | 2 => s.enterHoldover
  | 1 => if s.time.stepped then s.enterHoldover else s.enterFreeRun
  | _ => s

/-- The registers that a warm start keeps whole: the time unit's state, HBMC.MAP and the training record, ARRAY.PMAP, the chain's
address and identity, the fuse shadow, BOOT.COUNT (R609), and the chain's calibration (R396). -/
def warmKept : List Nat :=
  [R.DEVICE_BIN, R.DEVICE_SERIAL_LO, R.DEVICE_SERIAL_HI, R.TIME_STATE, R.TIME_INCR_FRAC, R.TIME_INCR_INT, R.TIME_HOLD_SECONDS]
    ++ (List.range 400).map R.ARRAY_PMAP ++ [R.CHAIN_CHAIN_ID, R.CHAIN_ADDR, R.HBMC_TRAIN] ++ (List.range 10).map R.HBMC_MAP
    ++ [R.BOOT_COUNT, R.HOSTIF_FW_ROLLBACK, R.MGMT_MAC_LO, R.MGMT_MAC_HI, R.CHAIN_RXCORR, R.CHAIN_TXCORR]

/-- What a warm start leaves (R59, R609, R388). -/
def State.warmState (s : State) : State :=
  let o := s.timeSleep
  let k := { s.coldState with
    time := { State.reset.time with
      now := o.time.now, pll := o.time.pll, slewPpb := o.time.slewPpb, slewLeft := o.time.slewLeft, holdTicks := o.time.holdTicks,
      disagree := o.time.disagree, qAcc := 0 }
    hbm := { State.reset.hbm with records := s.hbm.records, renewed := s.hbm.renewed }
    chain := { State.reset.chain with resume := true }
    boot := { State.reset.boot with bist := s.fbit F.ARRAY_CTRL_BIST_ON_WARM || (s.fget F.BOOT_STATUS_STATE == 0 && s.boot.bist) }
    array := { State.reset.array with
      pend := s.array.pend.map (fun (e : Nat × Nat) => (e.1, 1)), gone := s.array.gone
      suspects := s.array.suspects.filter (fun p => (s.array.pend.map Prod.fst).contains p && s.fget (F.ARRAY_PMAP_CAUSE p) == 1) }
    mem := s.mem.filter (fun c => decide (archiveBase ≤ c.1) && decide (c.1 < archiveBase + archiveEnd))
    accum := { State.reset.accum with closed := s.accum.closed }
    poison := s.poison, fresh := o.fresh }
  let k1 := (k.forEach warmKept (fun u a => u.wr a (o.rd a))).forEach (List.range 16) (fun u d =>
    u.fput (F.POWER_DIODE_FAILED d) (s.fget (F.POWER_DIODE_FAILED d)))
  let k2 := k1.forEach s.array.pend (fun u e => u.setFlag R.ARRAY_RETIRE_PEND e.1 true)
  let k3 := ((k2.fput F.TIME_STATE_NEXT_VALID 0).showSources).noteQuality
  let n := s.rdN R.BOOT_COUNT % 65536
  (k3.fput ⟨R.BOOT_COUNT, 0, 16⟩ (satN 16 (n + 1))).fput F.BOOT_STATUS_KIND 1

/-- Whether a start is in progress. -/
def State.inStart (s : State) : Bool := s.fget F.BOOT_STATUS_STATE == 0 && !s.boot.off

/-- Starts afresh, cold or warm; a reset during a start restarts the start of its own kind, one during step 7 escalates (R609, R618). -/
def State.restart (s : State) (cold : Bool) : State :=
  let esc := s.inStart && s.boot.begun && s.fget F.BOOT_STATUS_STEP == 7
  let c := cold || esc || (s.inStart && !s.fbit F.BOOT_STATUS_KIND)
  (if c then s.coldState else s.warmState).fput F.BOOT_STATUS_ESCALATED (b2n esc)

/-- COLD: VDD_IO rises with RST_N high, or POWER.CTRL.COLD is written; the THERMTRIP latch lets neither act (R609, R618, R638). -/
def execCold (vddIo : Bool) (s : State) : Host.Outcome State Fault Refusal :=
  .next (if s.power.tripped.isSome || (s.boot.off && !vddIo) then s else s.restart true)

/-- WARM: POWER.CTRL.WARM is written (R609, R618, R638). -/
def execWarm (s : State) : Host.Outcome State Fault Refusal :=
  .next (if s.power.tripped.isSome || s.boot.off then s else s.restart false)

/-- RST_N_PULSE: RST_N rises after a low pulse of at least 1 µs; where the rails are off nothing is kept, and the start is cold (R607,
R609, R638, R677, R685). -/
def execRstNPulse (s : State) : Host.Outcome State Fault Refusal :=
  .next (if s.power.tripped.isSome then s else s.restart s.boot.off)

/-- The enabled entries of the power record that are switched, in ascending ORDER (R620, R621). -/
def State.railEntries (s : State) : List Nat :=
  sortBy (fun x y => decide (s.fget (F.POWER_REG_ORDER x) < s.fget (F.POWER_REG_ORDER y))) ((List.range s.power.entries).filter (fun k =>
    s.fbit (F.POWER_REG_EN k) && !s.fbit (F.POWER_REG_MEASURE_ONLY k)))

/-- A power-down: OPERATION 0x00 to every enabled entry, in descending ORDER (R622). -/
def State.railsDown (s : State) : State :=
  s.forEach s.railEntries.reverse (fun u k => u.emit (.regulator (s.fget (F.POWER_REG_ADDR k)) (s.fget (F.POWER_REG_PAGE k)) none 0))

/-- The rails are off: what has no supply is lost (R622, R638, R677). -/
def State.unpowered (s : State) : State := { s.coldState with boot := ({ off := true } : BootSt) }

/-- VDD_IO_LOSS: VDD_IO falls below its threshold, which releases the latch (R638, R677). -/
def execVddIoLoss (s : State) : Host.Outcome State Fault Refusal :=
  .next { s.unpowered with power := ({} : PowerSt) }

/-- THERMTRIP: diode `d` reaches 115 °C for `d` below 16; 16, a model point reaches 118 °C; 17, a stack signals CATTRIP. The core stops and
the rails go off; the start's status and the cause stay readable at the test port (R622, R637, R638). -/
def execThermtrip (d : Fin 18) (s : State) : Host.Outcome State Fault Refusal :=
  let hit := if d.val < 16 then !s.fbit (F.POWER_DIODE_FAILED d.val)
    else if d.val = 16 then (List.range 64).any (fun i => decide (118 ≤ s.power.base + tget 0 s.power.rise i))
    else true
  .next (if s.power.tripped.isSome || !hit then s
    else
      let cause := if d.val < 16 then 1 else if d.val = 16 then 2 else 3
      let s1 := (s.railsDown.unpowered.wr R.BOOT_STATUS (s.rd R.BOOT_STATUS))
      { s1 with power := { s1.power with tripped := some cause }, tap := s.tap })

/-- PCIE_RESET: PERST_N, a hot reset or link-down resets the endpoint; the mailboxes see the host end reset (R526, R527, R609, R638,
R649). -/
def execPcieReset (s : State) : Host.Outcome State Fault Refusal :=
  let up := s.fbit F.HOSTIF_STATUS_LINK_UP
  let s1 := (s.clr R.HOSTIF_STATUS).forEach (List.range 256) (fun u v =>
    (((u.clr (R.HOSTIF_MSIX_ADDR_LO v)).clr (R.HOSTIF_MSIX_ADDR_HI v)).clr (R.HOSTIF_MSIX_DATA v)).wr (R.HOSTIF_MSIX_CTRL v) 1#32)
  let s2 := { s1 with
    host := { s1.host with rot := 0, cold := false }
    matrix := { s1.matrix with txns := s1.matrix.txns.map (fun (t : Txn) => { t with pcie := none }) } }
  .next (if s.power.tripped.isSome then s
    else ((s2.raiseIf up F.HOSTIF_EVENT_LINK).raiseIf (s.inD3) F.HOSTIF_EVENT_DSTATE).mbResetX 20)

/-- TEST_RESET: TRST_N resets the boundary-scan TAP (R609). -/
def execTestReset (s : State) : Host.Outcome State Fault Refusal := .next { s with tap := ({} : TapSt) }

/-! ### SLEEP -/

/-- The code with which SLEEP is refused, 0 where it is accepted (R604). -/
def State.sleepRefusal (s : State) : Nat :=
  if s.mode ≠ 1 then 1
  else if s.shadowSt = 6 then 2
  else if s.cat.storing.isSome then 3
  else if s.fbit F.CORE_STATUS_FAILOVER then 4
  else if s.fget F.BOOT_STATUS_STATE = 0 then 5
  else 0

/-- SLEEP: POWER.CTRL.SLEEP is written. A DMA channel whose responses are still out when the write is taken goes to OFF without writeback,
the others stop as R498 says (R59, R102, R368, R500, R593, R604, R605). -/
def execSleep (s : State) : Host.Outcome State Fault Refusal :=
  let code := s.sleepRefusal
  .next (if code ≠ 0 then (s.wrN R.POWER_LAST_REFUSE code).raise F.POWER_EVENT_SLEEP_REFUSED
    else
      let s1 := s.doIf (s.shadowSt == 5) State.cancelAcc
      let s2 := s1.forEach (List.range 32) (fun u n =>
        let v := u.dmaStop n
        if v.chState n = 6 ∨ v.chState n = 5 then v.setCh n 0 else v)
      let s3 := (s2.forEach ((List.range 192).filter (fun n => s2.laneState n != 0)) (fun u n => u.enterOff n false)).timeSleep
      let s4 := ((s3.hbmMod (fun h => { h with rows := [] })).carrelLose (s3.fresh + 1)).tick1
      let s5 := ((s4.fput F.POWER_STATUS_MODE 0).commandCore 680).count R.POWER_SLEEPS
      (s5.showIdle 0).showIdle 1)

/-- Whether a source that may wake the device is pending (R597, R607). -/
def State.wakeSource (s : State) : Bool :=
  s.irq.st.any (fun e => decide (e.1 / 4 < 640) && (e.2 == 1 || e.2 == 3) && s.fbit (F.IRQ_SRC_CFG_WAKE (e.1 / 4)))

/-- WAKE: POWER.CTRL.WAKE is written, or a source with WAKE = 1 is PENDING. The phases of a training that must be run follow with their own
commands (R102, R388, R443, R509, R593, R597, R607, R608, R623). -/
def execWake (written : Bool) (s : State) : Host.Outcome State Fault Refusal :=
  .next (if s.mode ≠ 0 || !(written || s.wakeSource) then s
    else
      let keep := s.reusable s.rateWanted
      let s0 := s.fput F.POWER_STATUS_MODE 1
      let s1 := (s0.commandCore s0.coreTrim).doIf (!keep) (fun u => u.enterPhase 3)
      let keys := s1.irq.held
      let s2 := (((s1.unhold keys).countBy R.IRQ_BYPASS keys.length).showIdle 0).showIdle 1
      let s3 := s2.forEach (List.range 24) (fun u q =>
        if u.fbit (F.QUIRE_STATUS_PLL_LOCK q) then
          u.forEach (u.enabledLanes q) (fun v n => if v.laneState n = 0 then v.enterDetect n false else v)
        else u)
      let s4 := s3.doIf s3.activeCur.isSome State.loadLease
      ((s4.chMod (fun c => { c with resume := !s4.isHead && s4.hasAddr })).raise F.POWER_EVENT_WOKE).reselect false)

end Sys2Proof.Machine
end

