-- ==== Sys2Proof/Machine/HostIf.lean ====
section
/-!
DEFINITION. Machine/HostIf.lean: firmware images, the firmware commands of HOSTIF, the PCIe link, and the management Ethernet port
(R639, R643, R656 to R662).
-/
namespace Sys2Proof.Machine

/-! ### Firmware images -/

/-- The key slot's fuses for a byte: out of 0 to 3 there is no slot. -/
def keySlot (k : Nat) : Option (Fin 4) := if h : k < 4 then some ⟨k, h⟩ else none

/-- VERSION and LENGTH of a firmware image (R656). -/
def fwVersion (b : List Byte) : Nat := imgN b 12 4
def fwLength (b : List Byte) : Nat := 320 + imgN b 8 4

/-- The result code of an image under the rollback minimum `low`: 0 where every check passes, else the first that fails (R656, R657). -/
def fwCheck (low : Nat) (b : List Byte) : Nat :=
  let key := imgN b 5 1
  let pub := (b.drop 80).take 97
  if imgN b 0 4 ≠ 0x4D495746 ∨ imgN b 4 1 ≠ 1 ∨ nonZero b 6 2 ∨ nonZero b 20 12 ∨ nonZero b 177 15 ∨ nonZero b 288 32 then 1
  else if 6291456 < fwLength b then 2
  else match keySlot key with
    | none => 3
    | some k =>
      if Config.keyRevoked k then 3
      else if beNat (sha384 pub) ≠ Config.keyHash k then 4
      else if fwVersion b < low then 5
      else if sha384 ((b.drop 320).take (imgN b 8 4)) ≠ (b.drop 32).take 48 then 6
      else if imgN pub 0 1 = 4 ∧ ecdsaOk (beNat ((pub.drop 1).take 48), beNat ((pub.drop 49).take 48)) (beNat (sha384 (b.take 192)))
          (beNat ((b.drop 192).take 48)) (beNat ((b.drop 240).take 48)) then 0
      else 7

/-- The first byte of the shared SRAM, where a passing image is held (R614). -/
def sramBase : Nat := 0x1000000

/-- The image that lies in the shared SRAM. -/
def State.sramImage (s : State) : List Byte := s.ldBytes sramBase (min 6291456 (320 + s.ldNat (sramBase + 8) 4))

/-- The image that lies in firmware slot `k` of the store. -/
def State.slotImage (s : State) (k : Nat) : List Byte :=
  s.storeBytes (fwSlotAt k) (min 6291456 (fwLength (s.storeBytes (fwSlotAt k) 16)))

/-- The state of the firmware commands: 0 idle, 1 awaiting host firmware, 2 busy, 3 result held (R664). -/
def State.fwState (s : State) : Nat := s.fget F.HOSTIF_FW_STATUS_STATE

/-- Ends a firmware command with a result code; a load that is awaited and a write in progress go on (R658, R660, R664). -/
def State.fwResult (s : State) (code : Nat) : State :=
  ((s.fput F.HOSTIF_FW_STATUS_RESULT code).fput F.HOSTIF_FW_STATUS_STATE (if s.fwState = 1 ∨ s.fwState = 2 then s.fwState else 3)).raise
    (if code = 0 then F.HOSTIF_EVENT_FW_DONE else F.HOSTIF_EVENT_FW_FAIL)

/-- The passing image in the shared SRAM becomes the running one (R658, R663). -/
def State.fwTake (s : State) (src version : Nat) : State :=
  { s.wrN R.HOSTIF_FW_VERSION version with boot := { s.boot with image := some src } }

/-- FW_COMMIT: the chunk in FW_BUF is copied into the shared SRAM (R658). -/
def execFwCommit (s : State) : Host.Outcome State Fault Refusal :=
  let n := min 16384 (s.rdN R.HOSTIF_FW_LEN % 2 ^ 24)
  let off := s.rdN R.HOSTIF_FW_OFFSET % 2 ^ 23
  let bytes := ((List.range (ceilDiv n 4)).flatMap (fun k => leBytes 4 (s.rdN (R.HOSTIF_FW_BUF k)))).take (min n (0x800000 - off))
  .next (if s.fwState ≠ 1 then s.fwResult 9 else (s.stBytes (sramBase + off) bytes).raise F.HOSTIF_EVENT_FW_READY)

/-- FW_DONE: the delivered image is checked (R657, R658). -/
def execFwDone (s : State) : Host.Outcome State Fault Refusal :=
  let code := fwCheck (s.rdN R.HOSTIF_FW_ROLLBACK) s.sramImage
  .next (if s.fwState ≠ 1 then s.fwResult 9
    else if code ≠ 0 then s.fwResult code
    else ((s.fput F.HOSTIF_FW_STATUS_STATE 0).fwResult 0).fwTake 2 (fwVersion s.sramImage))

/-- Whether a run-time firmware command comes in the wrong state: a load is awaited, or a start runs. -/
def State.fwWrong (s : State) : Bool := s.fwState == 1 || s.fget F.BOOT_STATUS_STATE == 0

/-- Whether [off, off + n) lies in the host staging area or in a user region (R659, R660). -/
def State.stagingOk (s : State) (off n : Nat) : Bool :=
  (decide (0xBEF000000 ≤ off) && decide (off + n ≤ 0xBF0000000))
    || (userRegions s).any (fun r => decide (r.1 ≤ off) && decide (off + n ≤ r.1 + r.2))

/-- FW_STORE: the image at FW_ADDR is checked and written to a firmware slot (R355, R639, R660). -/
def execFwStore (s : State) : Host.Outcome State Fault Refusal :=
  let off := s.rd64 R.HOSTIF_FW_ADDR_LO R.HOSTIF_FW_ADDR_HI
  let n := s.rdN R.HOSTIF_FW_LEN % 2 ^ 24
  .next (if s.fwWrong then s.fwResult 9
    else if s.storeBlocked then s.noteProg.fwResult 8
    else if !s.stagingOk off n then s.fwResult 8
    else
      let r := s.archRead 3 off n
      let code := if r.2.2 then fwCheck (s.rdN R.HOSTIF_FW_ROLLBACK) r.2.1 else 8
      if code ≠ 0 then r.1.fwResult code
      else (r.1.startStore (fwSlotAt (s.fget F.HOSTIF_FW_CTRL_SLOT)) 2 r.2.1).fput F.HOSTIF_FW_STATUS_STATE 2)

/-- FW_STORE_COMPLETE: the write of a firmware slot, or of the boot block for SET_FIRST, and its compare end; the code of a failed one is
not stated and is free (R660). -/
def execFwStoreComplete (readBack : List Byte) (s : State) : Host.Outcome State Fault Refusal :=
  .next (match s.cat.storing with
    | none => s
    | some w =>
      if w.kind < 2 then s
      else
        let r := s.endStore w readBack
        let s1 := r.1.fput F.HOSTIF_FW_STATUS_STATE 0
        if r.2 then s1.fwResult 0
        else ((s1.tick1.fput F.HOSTIF_FW_STATUS_STATE 3).fput F.HOSTIF_FW_STATUS_RESULT (Config.freeNat s1.fresh)).raise F.HOSTIF_EVENT_FW_FAIL)

/-- SET_FIRST: the boot block names the firmware slot tried first (R612, R660). -/
def execSetFirst (s : State) : Host.Outcome State Fault Refusal :=
  .next (if s.fwWrong then s.fwResult 9
    else if s.storeBlocked then s.noteProg.fwResult 8
    else (s.startBoot 3 (fun b => { b with fwFirst := s.fget F.HOSTIF_FW_CTRL_SLOT })).fput F.HOSTIF_FW_STATUS_STATE 2)

/-- BUMP_ROLLBACK: rollback fuses are blown up to the running image's version (R639, R657, R660). -/
def execBumpRollback (s : State) : Host.Outcome State Fault Refusal :=
  let n := max s.host.fuses (min 64 (s.rdN R.HOSTIF_FW_VERSION))
  .next (if s.fwWrong then s.fwResult 9
    else if s.storeBlocked then s.noteProg.fwResult 8
    else ({ s with host := { s.host with fuses := n } }.wrN R.HOSTIF_FW_ROLLBACK n).fwResult 0)

/-! ### The PCIe link -/

/-- PCIE_LINK_UP: the link has trained, at 8.0, 16.0 or 32.0 GT/s and x1, x4 or x8 (R643, R664). -/
def execPcieLinkUp (speed width : Fin 3) (s : State) : Host.Outcome State Fault Refusal :=
  let s1 := ((s.fput F.HOSTIF_STATUS_LINK_UP 1).fput F.HOSTIF_STATUS_SPEED (speed.val + 1)).fput F.HOSTIF_STATUS_WIDTH
    ([1, 4, 8].getD width.val 1)
  .next (if s.power.tripped.isSome then s else s1.raiseIf (!s.fbit F.HOSTIF_STATUS_LINK_UP) F.HOSTIF_EVENT_LINK)

/-! ### The management port -/

/-- A destination address from a pair of registers: bytes 0 and 1 in the high one, 2 to 5 in the low one (R663). -/
def State.macBytes (s : State) (lo hi : Nat) : List Byte := beBytes 2 (s.rdN hi % 65536) ++ beBytes 4 (s.rdN lo)

/-- Whether the port passes a destination address (R661). -/
def State.macPass (s : State) (d : List Byte) : Bool :=
  d == s.macBytes R.MGMT_MAC_LO R.MGMT_MAC_HI || d == List.replicate 6 0xFF#8 || d == beBytes 6 0x011B19000000
    || d == beBytes 6 0x0180C200000E
    || (List.range 4).any (fun k => bitOf (s.rdN (R.MGMT_MCAST_HI k)) 31 && d == s.macBytes (R.MGMT_MCAST_LO k) (R.MGMT_MCAST_HI k))

/-- Whether a frame carries a VLAN tag, and the offset of its type field. -/
def vlanTagged (f : List Byte) : Bool := beNat ((f.drop 12).take 2) == 0x8100
def typeAt (f : List Byte) : Nat := if vlanTagged f then 16 else 12

/-- Whether a frame is a PTP event message: by type 0x88F7, or UDP port 319 over IPv4, with a messageType below 4 (R64, R65). -/
def ptpEvent (f : List Byte) : Bool :=
  let t := typeAt f
  let typ := beNat ((f.drop t).take 2)
  let ihl := imgN f (t + 2) 1 % 16 * 4
  (typ == 0x88F7 && decide (imgN f (t + 2) 1 % 16 < 4))
    || (typ == 0x0800 && imgN f (t + 11) 1 == 17 && beNat ((f.drop (t + 2 + ihl + 2)).take 2) == 319
        && decide (imgN f (t + 2 + ihl + 8) 1 % 16 < 4))

/-- Whether [a, a + 2048) lies in the shared SRAM (R662). -/
def ringAt (a : Nat) : Bool := decide (sramBase ≤ a) && decide (a + 2048 ≤ sramBase + 0x800000)

/-- Whether the port carries frames: enabled with its link up. -/
def State.mgmtUp (s : State) : Bool := s.fbit F.MGMT_CTRL_EN && s.fbit F.MGMT_STATUS_LINK

/-- The stamp of a frame: device time at its start-of-frame delimiter, integer ns and fraction. The delimiter passed `back` periods of the
management clock before the last tick: of 0.8 ns at 10GBASE-R, of 1 ns at 1000BASE-X (R65, R662). DEDUCED (log 205). -/
def State.stampBytes (s : State) (back : Nat) : List Byte :=
  let t := s.time.now.toNat - back * (if s.fget F.MGMT_STATUS_RATE = 1 then 8 else 10) * 2 ^ 32 / 10
  leBytes 8 (t / 2 ^ 32) ++ leBytes 4 (t % 2 ^ 32)

/-- MGMT_FRAME_RECEIVE: a frame without its FCS, whose start-of-frame delimiter came `r.back` periods ago (R65, R661, R662). -/
def execMgmtFrameReceive (f : List Byte) (r : FrameArrival) (s : State) : Host.Outcome State Fault Refusal :=
  let a := s.rdN R.MGMT_RX_BASE / 2048 * 2048 + 2048 * (s.rdN R.MGMT_RX_NEXT % 64)
  let st := ptpEvent f
  let pause := beNat ((f.drop 12).take 2) == 0x8808
  .next (if !s.mgmtUp then s
    else if !r.fcsOk then s.count R.MGMT_RX_FCS
    else if f.length + 4 < 64 ∨ 1522 < f.length + 4 ∨ pause ∨ !s.macPass (f.take 6) then s
    else
      let s1 := s.count R.MGMT_RX_FRAMES
      if !(ringAt a && bitOf (s.ldNat (a + 2) 1) 7) then (s1.count R.MGMT_RX_DROP).raise F.MGMT_EVENT_RX_DROP
      else
        let pre := leBytes 2 f.length ++ leBytes 1 (b2n st + 2 * b2n (vlanTagged f)) ++ [0#8] ++ (if st then s.stampBytes r.back else List.replicate 12 0#8)
        ((s1.stBytes a (pre ++ f)).wrN R.MGMT_RX_NEXT ((s.rdN R.MGMT_RX_NEXT + 1) % 64)).raise F.MGMT_EVENT_RX)

/-- TX_DOORBELL: the port begins to send the frames that it owns (R662). -/
def execTxDoorbell (s : State) : Host.Outcome State Fault Refusal := .next { s with host := { s.host with sending := true } }

/-- MGMT_FRAME_SENT: the frame of the next transmit buffer has left, stamped where STAMP_REQ asks for it. How many periods ago its
start-of-frame delimiter left is a free value (R65, R662; log 123). -/
def execMgmtFrameSent (s : State) : Host.Outcome State Fault Refusal :=
  let a := s.rdN R.MGMT_TX_BASE / 2048 * 2048 + 2048 * (s.rdN R.MGMT_TX_NEXT % 32)
  let fl := s.ldNat (a + 2) 1
  .next (if !(s.host.sending && s.mgmtUp) then s
    else if !(ringAt a && bitOf fl 7) then { s with host := { s.host with sending := false } }
    else
      let s1 := s.emit (.mgmt (s.ldBytes (a + 16) (min 2032 (s.ldNat a 2))))
      let req := bitOf fl 2
      let s2 := (s1.stNat (a + 2) 1 (if req then setBit (clearBit fl 7) 0 else clearBit fl 7)).doIf req (fun u =>
        (u.stBytes (a + 4) (s.stampBytes (Config.freeNat s.fresh))).tick1)
      ((s2.wrN R.MGMT_TX_NEXT ((s.rdN R.MGMT_TX_NEXT + 1) % 32)).count R.MGMT_TX_FRAMES).raise F.MGMT_EVENT_TX)

/-- MGMT_RATE_ALTERNATE: with automatic rate and no link for 1 s the port tries its other rate (R661). -/
def execMgmtRateAlternate (s : State) : Host.Outcome State Fault Refusal :=
  .next (if s.fget F.MGMT_CTRL_RATE = 0 ∧ s.fbit F.MGMT_CTRL_EN ∧ !s.fbit F.MGMT_STATUS_LINK then
      { s with host := { s.host with tryRate := 3 - s.host.tryRate } }
    else s)

/-- MGMT_LINK: the link of the management port comes up or goes down; the corrections of the line rate are shown (R65, R661, R664). -/
def execMgmtLink (up : Bool) (s : State) : Host.Outcome State Fault Refusal :=
  let r := if s.fget F.MGMT_CTRL_RATE = 0 then s.host.tryRate else s.fget F.MGMT_CTRL_RATE
  .next (if s.fbit F.MGMT_STATUS_LINK = up ∨ (up ∧ !s.fbit F.MGMT_CTRL_EN) then s
    else
      let s1 := ((s.fput F.MGMT_STATUS_LINK (b2n up)).fput F.MGMT_STATUS_RATE (if up then r else 0)).raise F.MGMT_EVENT_LINK
      if up then (s1.wrN R.TIME_PTP_RXCORR (if r = 1 then 41600 else 312000)).wrN R.TIME_PTP_TXCORR (if r = 1 then 25600 else 184000)
      else { s1 with host := { s1.host with tryRate := 1 } })

end Sys2Proof.Machine
end

