-- ==== Sys2Proof/Machine/Registers.lean ====
section
/-!
DEFINITION. Machine/Registers.lean: reads and writes of registers: the access codes of R11, the command bits of control registers,
the pairs whose low word latches the high one, and the registers that a read changes (R10, R11, R454, R650, R655, R689).
-/
namespace Sys2Proof.Machine

/-- The state after a command that ended in a next state; the state before it otherwise. -/
def ran (o : Host.Outcome State Fault Refusal) (s : State) : State :=
  match o with
  | .next t => t
  | _ => s

/-- The index of `a` in an array of `n` registers `st` apart from `base`. -/
def elemOf (base st n a : Nat) : Option Nat :=
  if base ≤ a ∧ (a - base) % st = 0 ∧ (a - base) / st < n then some ((a - base) / st) else none

/-- Does the commands of a word's set bits, in the order given. -/
def State.bits (s : State) (v : Word) (l : List (Nat × (State → State))) : State :=
  s.forEach l (fun u e => u.doIf (bitOf v.toNat e.1) e.2)

/-- Stores the bits of `v` under `mask` in the register at `a`. -/
def State.put (s : State) (a mask : Nat) (v : Word) : State :=
  s.wr a ((s.rd a &&& ~~~(BitVec.ofNat 32 mask)) ||| (v &&& BitVec.ofNat 32 mask))

/-- REMAP_WRITE: MATRIX.CTRL is written (R453, R454). -/
def execRemapWrite (v : Word) (s : State) : Host.Outcome State Fault Refusal := .next (s.put R.MATRIX_CTRL 3 v)

/-! ### Writes of control registers -/

/-- CAT.CTRL (R371). -/
def State.writeCatCtrl (s : State) (v : Word) : State :=
  (s.put R.CAT_CTRL 0xE000000 v).bits v
    [(1, fun u => ran (execLoad u) u), (2, fun u => ran (execVerify u) u), (3, fun u => ran (execSchedule u) u),
     (4, fun u => ran (execCancel u) u), (5, fun u => ran (execClear u) u), (6, fun u => ran (execStore u) u),
     (7, fun u => ran (execSetBoot u) u), (8, fun u => ran (execNoBoot u) u)]

/-- TIME registers whose writes do more than store (R50, R55, R58, R60, R68). -/
def State.writeTime (s : State) (a : Nat) (v : Word) : Option State :=
  if a = R.TIME_CTRL then some ((s.put a 2 v).bits v [(0, fun u => ran (execReacquire u) u)])
  else if a = R.TIME_NEXT_SEC_HI then some (ran (execNextSecWrite v s) s)
  else if a = R.TIME_VREF_OFFSET then some (ran (execVrefOffset v s) s)
  else if a = R.TIME_CHAIN_OFFSET then some (ran (execChainOffset v s) s)
  else if a = R.TIME_PRIO then some ((s.put a 0x83838383 v).reselect false)
  else if a = R.TIME_OUT then some (squelchNote s (s.put a 0xFFFF1F v))
  else none

/-- LANE[n].CTRL: test settings count as written where they change (R110, R116). -/
def State.writeLaneCtrl (s : State) (n : Nat) (v : Word) : State :=
  let k := Fin.ofNat 192 n
  let s1 := s.put (R.LANE_CTRL n) 2 v
  let s2 := s1.doIf ((v &&& 0xFC#32) != (s.rd (R.LANE_CTRL n) &&& 0xFC#32)) (fun u =>
    ran (execLaneTestSet k (BitVec.ofNat 2 (extractBits v 6 2)) (BitVec.ofNat 3 (extractBits v 3 3)) (bitOf v.toNat 2) u) u)
  s2.bits v [(0, fun u => ran (execLaneRetrain k u) u)]

/-- ARRAY, INGEST, ACCUM and BEAM registers whose writes do more than store (R159, R227, R229, R277, R300, R301, R322). -/
def State.writeStream (s : State) (a : Nat) (v : Word) : Option State :=
  if a = R.INGEST_CTRL then some (s.bits v [(0, fun u => ran (execMonRestart u) u)])
  else if a = R.ARRAY_CTRL then some ((s.put a 5 v).bits v [(1, fun u => ran (execCheckNow u) u)])
  else if a = R.BEAM_CTRL then some (s.bits v [(0, fun u => ran (execSearchRestart u) u)])
  else if a = R.BEAM_SWITCH_CTRL then
    some ((s.put a 2 v).bits v [(0, fun u => ran (execSwitchRequest (Fin.ofNat 2 (extractBits v 1 1)) u) u)])
  else match elemOf (R.ARRAY_RETIRE_REQ 0) 4 13 a with
    | some j => some (ran (execRetireReq (Fin.ofNat 13 j) v s) s)
    | none => match elemOf (R.ACCUM_STAGE_CTRL 0) 32 8 a with
      | some k => some (s.bits v [(0, fun u => ran (execStageRelease (Fin.ofNat 8 k) u) u)])
      | none => (elemOf (R.BEAM_WLOAD 0) 4 2 a).map (fun p => ran (execWloadSet (Fin.ofNat 2 p) v s) s)

/-- CHAIN registers whose writes do more than store (R377, R401, R413). -/
def State.writeChain (s : State) (a : Nat) (v : Word) : Option State :=
  let modes := BitVec.ofNat 8 (extractBits v 16 8)
  let typ := extractBits v 24 8
  if a = R.CHAIN_CTRL then
    some (s.bits v [(0, fun u => ran (execChainEnum u) u), (1, fun u => ran (execChainForce u) u), (2, fun u => ran (execClearAddr u) u)])
  else if a = R.CHAIN_CMD then
    some ((s.put a 0xFFFF0000 v).bits v
      [(0, fun u =>
        if typ = 0x20 then ran (execChainAccede modes u) u
        else if typ = 0x21 then ran (execChainSnap modes u) u
        else if typ = 0x22 then ran (execChainCancel modes u) u
        else u),
       (1, fun u => ran (execChainRepeat u) u)])
  else if a = R.CHAIN_CHAIN_ID then some (s.put a 0xFFFF v).helloSync
  else if a = R.CHAIN_RXQ_CTRL then some (s.bits v [(8, fun u => ran (execRxqPop u) u)])
  else if a = R.CHAIN_TXQ_CTRL then
    some ((s.put a 0x40000000 v).bits v [(0, fun u => ran (execTxqSend (Fin.ofNat 2 (extractBits v 30 1)) u) u)])
  else none

/-- HBMC, MATRIX and DMA registers whose writes do more than store (R419, R440, R445, R454, R483, R498, R499). -/
def State.writeMem (s : State) (a : Nat) (v : Word) : Option State :=
  if a = R.HBMC_CTRL then some (s.bits v [(0, fun u => ran (execMapApply u) u), (2, fun u => ran (execScrubNow u) u)])
  else if a = R.HBMC_RATE then some (ran (execRateChange v s) s)
  else if a = R.MATRIX_CTRL then some (ran (execRemapWrite v s) s)
  else if 0x130100 ≤ a ∧ a < 0x130900 then
    let n := Fin.ofNat 32 ((a - 0x130100) / 0x40)
    let off := (a - 0x130100) % 0x40
    if off = 0x00 then some (ran (execDmaCfgWrite n 0 v s) s)
    else if off = 0x14 then some (ran (execDmaCfgWrite n 1 v s) s)
    else if off = 0x18 then some (ran (execDmaCfgWrite n 2 v s) s)
    else if off = 0x04 then
      let s1 := ran (execDmaEnable n (bitOf v.toNat 0) s) s
      some (s1.bits v [(1, fun u => ran (execDmaStop n u) u), (2, fun u => ran (execDmaResume n u) u)])
    else if off = 0x20 then some (ran (execDoorbell n s) s)
    else none
  else none

/-- MBOX registers whose writes do more than store (R521, R523, R528, R537). -/
def State.writeMbox (s : State) (m a : Nat) (v : Word) : Option State :=
  if 0x140100 ≤ a ∧ a < 0x143100 then
    let k := (a - 0x140100) / 0x100
    let kf := Fin.ofNat 48 k
    let mf := Fin.ofNat 32 m
    let off := (a - 0x140100) % 0x100
    let d := Fin.ofNat 2 ((off - 0x40) / 0x40)
    if off = 0 ∧ 44 ≤ k then some (s.put a 0xFFFF1F1F v)
    else if off = 0x48 ∨ off = 0x88 then some (ran (execPost kf d mf v s) s)
    else if off = 0x4C ∨ off = 0x8C then some (if v = 0#32 then ran (execLockRelease kf d mf s) s else s)
    else if off = 0x60 ∨ off = 0xA0 then some (ran (execAck kf d mf v s) s)
    else none
  else none

/-- IRQ and MSI-X registers whose writes do more than store (R581, R594, R595). -/
def State.writeIrq (s : State) (a : Nat) (v : Word) : Option State :=
  if a = R.IRQ_HOST_ACK then some (ran (execHostAck (Fin.ofNat 256 (v.toNat % 256)) s) s)
  else match elemOf (R.IRQ_SRC_CFG 0) 4 640 a with
    | some k => some (s.reroute k (fun u => u.put a 0xFF8F00FF v))
    | none => match elemOf (R.IRQ_HMBOX 0) 4 16 a with
      | some k => some (s.reroute (640 + k) (fun u => u.put a 0x800000FF v))
      | none => (elemOf (R.HOSTIF_MSIX_CTRL 0) 16 256 a).map (fun n => (s.put a 1 v).sendVec n)

/-- POWER.CTRL; ignored while the THERMTRIP latch holds (R604, R607, R609, R632, R638). -/
def State.writePower (s : State) (v : Word) : State :=
  if s.power.tripped.isSome then s
  else ((s.put R.POWER_CTRL 0xF v).applyStep).bits v
    [(5, fun u => ran (execSleep u) u), (6, fun u => ran (execWake true u) u), (7, fun u => ran (execWarm u) u),
     (8, fun u => ran (execCold false u) u)]

/-- CORE registers whose writes do more than store, written by master `m` (R506, R510, R512 to R514, R516, R518). -/
def State.writeCore (s : State) (m a : Nat) (v : Word) : Option State :=
  let mf := Fin.ofNat 32 m
  if a = R.CORE_CTRL then
    some ((s.put a 0x80 v).bits v
      [(0, fun u => ran (execCuratorHold 0 u) u), (1, fun u => ran (execCuratorHold 1 u) u),
       (4, fun u => ran (execCuratorRelease 0 u) u), (5, fun u => ran (execCuratorRelease 1 u) u),
       (8, fun u => ran (execYield mf u) u), (9, fun u => ran (execFailoverDone mf u) u)])
  else if a = R.CORE_LEASE_RENEW then some (ran (execLeaseRenew mf v s) s)
  else if a = R.CORE_LEASE_CLAIM then some (ran (execLeaseClaim mf v s) s)
  else if a = R.CORE_HEALTH 0 then some (ran (execHealthWrite mf 0 v s) s)
  else if a = R.CORE_HEALTH 1 then some (ran (execHealthWrite mf 1 v s) s)
  else if a = R.CORE_CKPT then some (ran (execCkptWrite mf v s) s)
  else if a = R.CORE_HEALTH_MAXAGE then some (((s.put a 0xFFFFF v).showGood 0).showGood 1)
  else none

/-- HOSTIF, MGMT and SNAP registers whose writes do more than store (R653, R658 to R660, R662). -/
def State.writeHost (s : State) (a : Nat) (v : Word) : Option State :=
  if a = R.HOSTIF_FW_CTRL then
    some ((s.put a 0x100 v).bits v
      [(0, fun u => ran (execFwCommit u) u), (1, fun u => ran (execFwDone u) u), (2, fun u => ran (execFwStore u) u),
       (3, fun u => ran (execSetFirst u) u), (16, fun u => ran (execBumpRollback u) u)])
  else if a = R.MGMT_TX_DOORBELL then some (ran (execTxDoorbell s) s)
  else if a = R.SNAP_CTRL then
    some ((s.put a 2 v).bits v [(0, fun u => ran (execSnapshotRequest (bitOf v.toNat 1) u) u)])
  else none

/-- CLOVE[e].CTRL, and CLOVE[e].ENTRY, which only OFF lets be written (R569, R574, R575). -/
def State.writeClove (s : State) (a : Nat) (v : Word) : Option State :=
  match elemOf (R.CLOVE_CTRL 0) 0x80000 16 a with
  | some e =>
    let k := Fin.ofNat 16 e
    some (s.bits v [(0, fun u => ran (execCloveRun k u) u), (1, fun u => ran (execCloveHalt k u) u),
      (2, fun u => ran (execCloveReset k u) u), (3, fun u => ran (execKick k u) u)])
  | none => match elemOf (R.CLOVE_ENTRY 0) 0x80000 16 a with
    | some e => if s.cloveState e = 0 then none else some s
    | none => none

/-- The effect of a write to a register that has commands or conditions of its own; none for a plain one. -/
def State.writeSpecial (s : State) (m a : Nat) (v : Word) : Option State :=
  if a = R.CAT_CTRL then some (s.writeCatCtrl v)
  else if a < 0x40000 then s.writeTime a v
  else if a < 0x80000 then (elemOf (R.LANE_CTRL 0) 0x400 192 a).map (fun n => s.writeLaneCtrl n v)
  else if a < 0xE0000 then s.writeStream a v
  else if a < 0x100000 then s.writeChain a v
  else if a < 0x140000 then s.writeMem a v
  else if a < 0x150000 then s.writeMbox m a v
  else if a < 0x160000 then s.writeIrq a v
  else if a = R.POWER_CTRL then some (s.writePower v)
  else if 0x170000 ≤ a ∧ a < 0x180000 then s.writeCore m a v
  else if 0x188000 ≤ a ∧ a < 0x189000 then s.writeIrq a v
  else if a < 0x200000 then s.writeHost a v
  else s.writeClove a v

/-- A write of `v` by master `m` to the register at BAR0 offset `at'`; none where no register stands there (R10, R11, R114, R459). -/
def State.regWrite (s : State) (m at' : Nat) (v : Word) : Option State :=
  let a := canonReg at'
  if 0x1B0000 ≤ a ∧ a < 0x1C0000 then some s
  else match regRow a with
    | none => none
    | some r =>
      match r.acc with
      | .rwa => some (ran (execRwaWrite a v s) s)
      | _ => match s.writeSpecial m a v with
        | some t => some t
        | none =>
          let kept := (s.rd a &&& ~~~r.store) ||| (v &&& r.store)
          some (s.wr a ((kept &&& ~~~(v &&& r.clr)) ||| (v &&& r.set1)))

/-! ### Reads -/

/-- The low words whose read latches the word after them (R228, R285, R326, R370, R447, R533, R640, R663). -/
def latchLow (a : Nat) : Bool :=
  [R.ARRAY_WINDOW_LO, R.ACCUM_ACC_BASE_LO, R.ACCUM_BANK_STRIDE_LO, R.ACCUM_SEQ_LO, R.BEAM_DONE_SI_LO, R.BEAM_LVL_LO, R.CAT_EFFECT_SI_LO,
    R.CAT_RESUME_SI_LO, R.HBMC_ERR_ADDR_LO, R.CORE_TRANSFER_SI_LO, R.POWER_STEP_SI_LO, R.SNAP_DONE_SI_LO, R.SNAP_RESOLVED_SI_LO].contains a
    || (elemOf (R.ACCUM_STAGE_ADDR_LO 0) 32 8 a).isSome || (elemOf (R.ACCUM_STAGE_LEN_LO 0) 32 8 a).isSome
    || (elemOf (R.ACCUM_STAGE_SI_LO 0) 32 8 a).isSome

/-- The level state that BEAM.LVL_SEL selects (R326, R327). -/
def State.selLevel (s : State) : LevelSt :=
  let v := s.rd R.BEAM_LVL_SEL
  tget {} s.beam.levels (16 * extractBits v 0 10 + extractBits v 16 4)

/-- The word that snapshot image `k` holds at an offset (R651, R655). -/
def State.snapWord (s : State) (k off : Nat) : Word := BitVec.ofNat 32 (s.ldNat (archiveBase + 0xBF8000000 + k * 0x200000 + off) 4)

/-- Whether the register at `a` belongs to an input at or above N or to a staging slot at or above STAGE_SLOTS, and so reads zero
(R166, R285). -/
def State.hidden (s : State) (a : Nat) : Bool :=
  (decide (R.INGEST_IN_LEVEL 0 ≤ a) && decide (a < R.INGEST_IN_UPFLAG 4096) && decide (s.nIn ≤ (a - R.INGEST_IN_LEVEL 0) / 4 % 4096))
    || (decide (R.ACCUM_STAGE_STATE 0 ≤ a) && decide (a < R.ACCUM_STAGE_STATE 8)
      && decide (s.fget F.ACCUM_STATUS_STAGE_SLOTS ≤ (a - R.ACCUM_STAGE_STATE 0) / 32))

/-- What the register at `a` shows where more than the stored word makes it up (R166, R285, R322, R327, R502, R650). -/
def State.regView (s : State) (a : Nat) : Word :=
  if s.hidden a then 0#32
  else if a = R.BEAM_CTRL ∨ a = R.BEAM_STATUS then s.beamWord a
  else if a = R.BEAM_LVL_SEL then insertBits (s.rd a) 31 1 (b2n s.selLevel.valid)
  else if a = R.BEAM_LVL_LO then BitVec.ofNat 32 s.selLevel.level
  else if a = R.BEAM_LVL_HI then BitVec.ofNat 32 (s.selLevel.level / 2 ^ 32)
  else if 0x189000 ≤ a ∧ a < 0x189020 then s.rd (R.IRQ_MSIX_PEND ((a - 0x189000) / 4))
  else match elemOf (R.DMA_CH_STATUS 0) 0x40 32 a with
    | some n => insertBits (s.rd a) 28 1 (b2n (s.reqLevel n))
    | none => s.rd a

/-- A read of the register at BAR0 offset `at'` by master `m`; none where no register stands there (R11, R49, R69, R114, R522, R528,
R575, R655). -/
def State.regRead (s : State) (m at' : Nat) : Option (State × Word) :=
  let a := canonReg at'
  let took := fun (o : Host.Outcome State Fault Refusal) => { ran o s with out := s.out }
  if 0x1B0000 ≤ a ∧ a < 0x1C0000 then
    some (s, s.snapWord (s.fget F.SNAP_STATUS_IMAGE) (s.rdN R.SNAP_PAGE % 32 * 0x10000 + (a - 0x1B0000)))
  else match regRow a with
    | none => none
    | some r =>
      if s.hidden a && r.acc == .rc then some (s, 0#32)
      else if r.acc = .rc then some (s.clr a, s.rd a)
      else if r.acc = .wo then some (s, 0#32)
      else if a = R.TIME_NOW_NS_LO then (let t := took (execTimeNowRead s); some (t, t.rd a))
      else if a = R.TIME_SI_NOW_LO then (let t := took (execSiNowRead s); some (t, t.rd a))
      else if a = R.TIME_SI_EXPECT_LO then (let t := took (execSiExpectRead s); some (t, t.rd a))
      else if latchLow a then some ({ s with hiLatch := tset 0#32 s.hiLatch (a + 4) (s.regView (a + 4)) }, s.regView a)
      else if latchLow (a - 4) && decide (4 ≤ a) then some (s, tget 0#32 s.hiLatch a)
      else if 0x140100 ≤ a ∧ a < 0x143100 then
        (let k := (a - 0x140100) / 0x100
         let off := (a - 0x140100) % 0x100
         let d := (off - 0x40) / 0x40
         if off = 0x4C ∨ off = 0x8C then
           some (took (execLockRead (Fin.ofNat 48 k) (Fin.ofNat 2 d) (Fin.ofNat 32 m) s), BitVec.ofNat 32 (s.lockValue k d m))
         else if a = R.MBOX_D_NOTICE k d 3 then some (took (execNoticeRead (Fin.ofNat 48 k) (Fin.ofNat 2 d) s), s.rd a)
         else some (s, s.rd a))
      else match elemOf (R.CLOVE_PC 0) 0x80000 16 a with
        | some e => if s.cloveState e = 1 then some (s.tick1, Config.freeWord s.fresh) else some (s, s.rd a)
        | none => some (s, s.regView a)

/-- The registers as the bus reaches them. -/
def busRegs : RegBus := ⟨State.regRead, State.regWrite⟩

/-! ### Commands -/

/-- Whether the register at `a` can be reached at all: the core has its supply, and in SLEEP only some blocks answer (R606, R638). -/
def State.regOpen (s : State) (a : Nat) : Bool := !s.boot.off && (s.mode != 0 || asleepOk a)

/-- REGISTER_WRITE: master `m` writes `v` to the register at BAR0 offset `a` (R11, R454, R689); a write where no register stands has no
effect. -/
def execRegisterWrite (m : Fin 21) (a : Nat) (v : Word) (s : State) : Host.Outcome State Fault Refusal :=
  .next (if s.regOpen a then (s.regWrite m.val a v).getD s else s)

/-- RC_READ: master `m` reads the register at BAR0 offset `a`; a read-clear counter returns its value and clears (R11). -/
def execRcRead (m : Fin 21) (a : Nat) (s : State) : Host.Outcome State Fault Refusal :=
  .next (if s.regOpen a then
      match s.regRead m.val a with
      | some (t, v) => t.emit (.read a v.toNat)
      | none => s
    else s)

end Sys2Proof.Machine
end

