-- ==== Sys2Proof/Machine/Operands.lean ====
section
/-!
DEFINITION. Machine/Operands.lean: a Mace processor's registers and operand forms, its step from one instruction to the next with the
loops and waits that hold it, and taking an exception or a fault (R540 to R544, R553, R554, R558, R561, R562, R566, R568, R569).
-/
namespace Sys2Proof.Machine

/-- The number of a processor: 0 and 1 the Curators, 2 + e Clove engine e; it is also its matrix master number (R450, R564). -/
def ix : Proc → Nat
  | .cur c => c.val
  | .clove e => 2 + e.val

/-- Whether a processor is a Curator, which runs the subset (R563). -/
def isCur : Proc → Bool
  | .cur _ => true
  | .clove _ => false

/-! ### Registers -/

/-- The bank in use: in a Curator the fast bank while a fast handler runs (R585). -/
def MaceSt.cur (p : MaceSt) : Bank := if p.inFast then p.fast else p.bank

/-- Changes the bank in use. -/
def MaceSt.modCur (p : MaceSt) (f : Bank → Bank) : MaceSt := if p.inFast then { p with fast := f p.fast } else { p with bank := f p.bank }

/-- Register gn; g0 reads zero (R540). -/
def State.getG (s : State) (pr : Proc) (n : Fin 32) : Word := if n = 0 then 0#32 else tget 0#32 (s.mp (ix pr)).cur.g n.val

/-- Writes gn; a write to g0 is discarded (R540). -/
def State.setG (s : State) (pr : Proc) (n : Fin 32) (v : Word) : State :=
  if n = 0 then s else s.mpMod (ix pr) (fun p => p.modCur (fun b => { b with g := tset 0#32 b.g n.val v }))

/-- Whether gn names a pair (R541). -/
def pairOk (n : Fin 32) : Bool := n.val % 2 == 0 && n.val != 0

/-- The value of a pair: gn holds bits [31:0] and the next register bits [63:32] (R541). -/
def State.getPair (s : State) (pr : Proc) (n : Fin 32) : Nat := (s.getG pr n).toNat + 2 ^ 32 * (s.getG pr (n + 1)).toNat

/-- Writes a pair. -/
def State.setPair (s : State) (pr : Proc) (n : Fin 32) (v : Nat) : State :=
  (s.setG pr n (BitVec.ofNat 32 v)).setG pr (n + 1) (BitVec.ofNat 32 (v / 2 ^ 32))

/-- Address register an and modifier register mn (R540). -/
def State.getA (s : State) (pr : Proc) (n : Nat) : BitVec 40 := tget 0#40 (s.mp (ix pr)).cur.a n
def State.setA (s : State) (pr : Proc) (n : Nat) (v : BitVec 40) : State :=
  s.mpMod (ix pr) (fun p => p.modCur (fun b => { b with a := tset 0#40 b.a n v }))
def State.getM (s : State) (pr : Proc) (n : Nat) : Word := tget 0#32 (s.mp (ix pr)).cur.m n
def State.setM (s : State) (pr : Proc) (n : Nat) (v : Word) : State :=
  s.mpMod (ix pr) (fun p => p.modCur (fun b => { b with m := tset 0#32 b.m n v }))

/-- Accumulator n: its parts RE and IM (R540). -/
def State.getAcc (s : State) (pr : Proc) (n : Fin 4) : Int × Int := tget (0, 0) (s.mp (ix pr)).acc n.val
def State.setAcc (s : State) (pr : Proc) (n : Fin 4) (v : Int × Int) : State :=
  s.mpMod (ix pr) (fun p => { p with acc := tset (0, 0) p.acc n.val v })

/-- QoS value LS of the processor's loads and stores, and selector Bk of its moves (R558, R559). -/
def State.qosLS (s : State) (pr : Proc) : Nat := (s.mp (ix pr)).cur.qos.toNat % 16
def State.qosB (s : State) (pr : Proc) (k : Fin 4) : Nat := (s.mp (ix pr)).cur.qos.toNat / 2 ^ (16 + 4 * k.val) % 16

/-! ### Loops and the program counter -/

/-- The loops, innermost first, that a taken branch to `t` leaves running: one whose body it leaves ends with every loop inside it
(R554). -/
def keepLoops (t : Nat) : List LoopSt → List LoopSt
  | [] => []
  | l :: ls =>
    let r := keepLoops t ls
    if r.length < ls.length then r else if l.start ≤ t ∧ t < l.stop then l :: r else r

/-- The instruction address after the present one. -/
def State.nextPc (s : State) (pr : Proc) : Nat := ((s.mp (ix pr)).pc + 4#32).toNat

/-- Goes on at `n` in sequence (R554). -/
def State.seqTo (s : State) (pr : Proc) (n : Nat) : State :=
  s.mpMod (ix pr) (fun p =>
    let r := loopNext p.loops n
    { p with loops := r.1, pc := BitVec.ofNat 32 r.2, wait := .run })

/-- Goes on with the next instruction. -/
def State.advance (s : State) (pr : Proc) : State := s.seqTo pr (s.nextPc pr)

/-- A taken branch or jump. -/
def State.jump (s : State) (pr : Proc) (t : Word) : State :=
  s.mpMod (ix pr) (fun p => { p with loops := keepLoops t.toNat p.loops, pc := t })

/-! ### When a processor executes -/

/-- Whether the processor can execute an instruction now: it runs, waits for nothing, and has no error of an earlier store to take first
(R506, R556, R557, R561, R566, R569, R588). -/
def State.executes (s : State) (pr : Proc) : Bool :=
  !s.boot.off && (s.mp (ix pr)).wait == .run && (s.mp (ix pr)).storeErr.isNone && (match pr with
    | .cur c => s.curRuns c.val && !s.exiting c.val
    | .clove e => s.cloveState e.val == 1 && !s.cloveResetting e.val && s.mode != 0)

/-! ### Exceptions and faults -/

/-- Causes of exceptions and faults (R561, R568). -/
def causeIllegal : Nat := 1
def causeAlign : Nat := 2
def causeFetch : Nat := 3
def causeLoad : Nat := 4
def causeStore : Nat := 5
def causeTrap : Nat := 6
def causeParity : Nat := 8
def causeMap : Nat := 9

/-- Takes an exception with a faulting address: a Curator saves PC, cause and address in the bank in use, sets EXC and goes on at
EBASE + 16 × cause, or stops inside an exception; a Clove engine records the fault and stops (R561, R562, R568, R569). -/
def State.take (s : State) (pr : Proc) (cause addr : Nat) : State :=
  match pr with
  | .cur c =>
    s.mpMod c.val (fun p =>
      if p.cur.ecause.getLsbD 31 then { p with stopped := true }
      else
        { p.modCur (fun b => { b with epc := p.pc, ecause := BitVec.ofNat 32 (2 ^ 31 + cause), eaddr := BitVec.ofNat 40 addr }) with
          pc := (p.ebase &&& 0xFFFFFF00#32) + BitVec.ofNat 32 (16 * cause), wait := .run })
  | .clove e =>
    let s1 := ((s.wr (R.CLOVE_FAULT_PC e.val) (s.mp (2 + e.val)).pc).wr64 (R.CLOVE_FAULT_ADDR_LO e.val) (R.CLOVE_FAULT_ADDR_HI e.val)
      (addr % 2 ^ 40)).fput (F.CLOVE_STATUS_CAUSE e.val) cause
    s1.cloveStop e.val 3

/-- An ILLEGAL instruction; the spec gives it no faulting address, so that is a free value (R561). -/
def State.illegal (s : State) (pr : Proc) : State := s.tick1.take pr causeIllegal (Config.freeNat s.fresh)

/-- The memory of a Clove engine that a local address lies in: 0 P, 1 X, 2 Y, 3 C, 4 its registers, 5 reserved (R564). -/
def localMem (a : Nat) : Nat :=
  if a < 0x10000 then 0 else if a < 0x30000 then 1 else if a < 0x50000 then 2 else if a < 0x60000 then 3 else if a < 0x7F000 then 5 else 4

/-- Why the fetch of the instruction at PC is an exception: a PC that is no multiple of 4, and an address of a Clove engine that holds no
instructions (R542, R544, R564). -/
def State.fetchFault (s : State) (pr : Proc) : Option Nat :=
  let pc := (s.mp (ix pr)).pc.toNat
  if pc % 4 ≠ 0 then some causeAlign
  else if !isCur pr && decide (pc < 0x80000) && decide (4 ≤ localMem pc) then some causeMap
  else none

/-- One instruction of a processor that can execute; nothing happens otherwise. -/
def State.instr (s : State) (pr : Proc) (f : State → State) : State :=
  if s.executes pr then
    match s.fetchFault pr with
    | some cause => s.take pr cause (s.mp (ix pr)).pc.toNat
    | none => f s
  else s

/-! ### Waits that other commands end -/

/-- Whether a matrix transaction of master `m` is unanswered. -/
def State.txnOpen (s : State) (m : Nat) : Bool := s.matrix.txns.any (fun t => t.m == m && !t.late)

/-- Ends FENCE and BWAIT of processor `pr` once nothing of it is outstanding (R557, R566). -/
def State.wakeFence (s : State) (pr : Proc) : State :=
  let p := s.mp (ix pr)
  if p.wait = .fence ∧ p.moves.isEmpty ∧ !s.txnOpen (ix pr) then s.advance pr
  else if p.wait = .moves ∧ p.moves.isEmpty then s.advance pr
  else s

/-- The processor that is matrix master `m`. -/
def procOf (m : Nat) : Option Proc :=
  if m < 2 then some (.cur (Fin.ofNat 2 m)) else if m < 18 then some (.clove (Fin.ofNat 16 (m - 2))) else none

/-- Looks at the waits of master `m` again. -/
def State.wakeMaster (s : State) (m : Nat) : State :=
  match procOf m with
  | some (.cur c) => s.wakeFence (.cur c)
  | some (.clove e) => (s.wakeFence (.clove e)).showClove e.val
  | none => s

/-! ### Operand forms -/

/-- An immediate of 16 bits, sign-extended and zero-extended to 32. -/
def sext16 (i : BitVec 16) : Word := i.signExtend 32
def zext16 (i : BitVec 16) : Word := i.setWidth 32

/-- An address register plus a signed offset, modulo 2^40 (R540). -/
def addA (a : BitVec 40) (d : Word) : BitVec 40 := a + d.signExtend 40

/-- The address of an M-format access and what the address register holds afterwards; none where the instruction is ILLEGAL (R543). -/
def State.mForm (s : State) (pr : Proc) (mode : Fin 4) (a : Fin 8) (imm : BitVec 16) : Option (BitVec 40 × BitVec 40) :=
  let v := s.getA pr a.val
  match mode with
  | 0 => some (addA v (sext16 imm), v)
  | 1 => if imm.toNat < 8 then some (v, addA v (s.getM pr imm.toNat)) else none
  | 2 => some (v, addA v (sext16 imm))
  | 3 => none

/-- The target of a B-format branch, and of a J-format jump (R542). -/
def State.branchTo (s : State) (pr : Proc) (disp : BitVec 16) : Word := (s.mp (ix pr)).pc + 4#32 + (sext16 disp <<< 2)
def State.jumpTo (s : State) (pr : Proc) (disp : BitVec 26) : Word := (s.mp (ix pr)).pc + 4#32 + ((disp.signExtend 32) <<< 2)

/-! ### Local memories and the matrix -/

/-- Where local address `a` of engine `e` lies in the matrix (R564). -/
def cloveAt (e a : Nat) : Nat := 0x2800000 + 0x80000 * e + a

/-- Whether an address is local to the processor: a Clove engine's space, and a Curator's own TCM (R560, R564). -/
def State.isLocal (s : State) (pr : Proc) (a : Nat) : Bool :=
  match pr with
  | .cur c => (s.window0 c.val a).map targetOf == some (Target.tcm c.val)
  | .clove _ => decide (a < 0x80000)

/-- A load of `n` bytes: the state, and the bytes or the cause of the exception (R544, R559 to R561, R564, R568). -/
def State.load (s : State) (pr : Proc) (a n : Nat) : State × Except Nat (List Byte) :=
  if a % n ≠ 0 then (s, .error causeAlign)
  else if s.isLocal pr a then
    match pr with
    | .cur c => (s, .ok (s.ldBytes ((s.window0 c.val a).getD a) n))
    | .clove e =>
      match localMem a with
      | 5 => (s, .error causeMap)
      | 4 =>
        let r := State.bridgeRead busRegs (2 + e.val) (ceilDiv (a % 4 + n) 4) (0x800000 + 0x80000 * e.val + a / 4 * 4) s
        (r.1, match r.2.2 with
          | some _ => .error causeLoad
          | none => .ok ((r.2.1.drop (a % 4)).take n))
      | _ => (s, .ok (s.ldBytes (cloveAt e.val a) n))
  else
    let b := s.served ⟨ix pr, 0, s.qosLS pr⟩ a n
    let r := b.1.readAt busRegs b.2 a n
    (r.1, if r.2.2 then .ok r.2.1 else .error causeLoad)

/-- Why a store of `n` bytes is an exception before it is made (R544, R564). -/
def storeFault (pr : Proc) (a n : Nat) : Option Nat :=
  if a % n ≠ 0 then some causeAlign
  else if isCur pr then none
  else if a < 0x80000 ∧ (localMem a = 0 ∨ localMem a = 5) then some causeMap
  else none

/-- Records an error response to a store, which the processor takes at its next instruction boundary; inside an exception it is not
reported (R561). -/
def State.noteStoreErr (s : State) (pr : Proc) (a : Nat) : State :=
  s.mpMod (ix pr) (fun p => if (isCur pr && p.cur.ecause.getLsbD 31) || p.storeErr.isSome then p else { p with storeErr := some a })

/-- Makes a store that is no exception (R559, R561, R564). -/
def State.store (s : State) (pr : Proc) (a : Nat) (bs : List Byte) : State :=
  let en := bs.map some
  if s.isLocal pr a then
    match pr with
    | .cur c => s.stEnabled ((s.window0 c.val a).getD a) en
    | .clove e =>
      if localMem a = 4 then
        let off := 0x800000 + 0x80000 * e.val + a
        if off % 4 ≠ 0 ∨ bs.length % 4 ≠ 0 then s.noteStoreErr pr a
        else
          let r := State.bridgeWrite busRegs (2 + e.val) off en s
          if r.2.isSome then r.1.noteStoreErr pr a else r.1
      else s.stEnabled (cloveAt e.val a) en
  else
    let b := s.served ⟨ix pr, 0, s.qosLS pr⟩ a bs.length
    let r := b.1.writeAt busRegs b.2 a en
    if r.2 then r.1 else r.1.noteStoreErr pr a

end Sys2Proof.Machine
end

