-- ==== Sys2Proof/Machine/Flags.lean ====
section
/-!
DEFINITION. Machine/Flags.lean: the arithmetic of Mace that saturates or rounds and what it sets in DSPSTAT: products, accumulation, scaled
moves (R546 to R549).
-/
namespace Sys2Proof.Machine

/-- Sets bits of DSPSTAT: 0 ASAT, 1 MSAT (R548, R549, R558). -/
def State.dspFlag (s : State) (pr : Proc) (bit : Nat) (c : Bool) : State :=
  if c then s.mpMod (ix pr) (fun p => { p with dspstat := insertBits p.dspstat bit 1 1 }) else s

/-- A signed sum or difference that saturates (R546). -/
def satWord (i : Int) : Word := BitVec.ofInt 32 (max (-(2 ^ 31)) (min i (2 ^ 31 - 1)))

/-- The real part [31:16] and the imaginary part [15:0] of a complex word, and the real value of a halfword (R547). -/
def cre (w : Word) : Int := toSigned 16 (w.toNat / 2 ^ 16)
def cim (w : Word) : Int := toSigned 16 w.toNat

/-- An operand of a product: complex, or real. -/
inductive Opnd where
  | cplx (re im : Int)
  | real (v : Int)
  deriving DecidableEq, Repr

/-- A word as an operand: complex where `c`, else its low half. -/
def opnd (c : Bool) (w : Word) : Opnd := if c then .cplx (cre w) (cim w) else .real (cim w)

/-- What RE and IM receive of a product; none where IM receives nothing (R547). -/
def product (x o : Opnd) (conj : Bool) : Int × Option Int :=
  match x, o with
  | .cplx xr xi, .cplx or' oi => if conj then (xr * or' + xi * oi, some (xi * or' - xr * oi)) else (xr * or' - xi * oi, some (xr * oi + xi * or'))
  | .cplx xr xi, .real v => (xr * v, some (xi * v))
  | .real v, .cplx or' oi => (v * or', some (if conj then -(v * oi) else v * oi))
  | .real v, .real u => (v * u, none)

/-- The power of an operand (R547, R551). -/
def power : Opnd → Int
  | .cplx re im => re * re + im * im
  | .real v => v * v

/-- A part after an addition, and whether it had to saturate (R548). -/
def accAdd (part d : Int) : Int × Bool := satSym (2 ^ 39 - 1) (part + d)

/-- Adds a product to an accumulator: NEG subtracts it, Z writes it instead (R547, R548). -/
def State.accumulate (s : State) (pr : Proc) (n : Fin 4) (p : Int × Option Int) (neg z : Bool) : State :=
  let v := s.getAcc pr n
  let sg := fun (i : Int) => if neg then -i else i
  let re := if z then (sg p.1, false) else accAdd v.1 (sg p.1)
  let im := match p.2 with
    | some i => if z then (sg i, false) else accAdd v.2 (sg i)
    | none => (if z then 0 else v.2, false)
  (s.setAcc pr n (re.1, im.1)).dspFlag pr 0 (re.2 || im.2)

/-- Adds a power to RE of an accumulator, or writes it there (R547, R548, R551). -/
def State.addPower (s : State) (pr : Proc) (n : Fin 4) (d : Int) (z : Bool) : State :=
  let v := s.getAcc pr n
  let re := if z then (d, false) else accAdd v.1 d
  (s.setAcc pr n (re.1, v.2)).dspFlag pr 0 re.2

/-- A part of an accumulator scaled by sc (R549). -/
def State.scaled (s : State) (pr : Proc) (v : Int) : Int :=
  let sc := (s.mp (ix pr)).cur.sc
  let sh := min 39 (extractBits sc 0 6)
  if sh = 0 then v else if sc.getLsbD 8 then (v + 2 ^ (sh - 1)) / 2 ^ sh else v / 2 ^ sh

/-- What APACK writes, and whether it saturated (R549). -/
def State.packAcc (s : State) (pr : Proc) (n : Fin 4) : Word × Bool :=
  let v := s.getAcc pr n
  let re := satSym 32767 (s.scaled pr v.1)
  let im := satSym 32767 (s.scaled pr v.2)
  (BitVec.ofNat 32 (fromSigned 16 re.1 * 2 ^ 16 + fromSigned 16 im.1), re.2 || im.2)

/-- What AMOVRE or AMOVIM writes of a part, and whether it saturated (R549). -/
def State.movePart (s : State) (pr : Proc) (v : Int) : Word × Bool :=
  let r := satSym (2 ^ 31 - 1) (s.scaled pr v)
  (BitVec.ofInt 32 r.1, r.2)

end Sys2Proof.Machine
end

