-- ==== Sys2Proof/Machine/AccOps.lean ====
section
/-!
DEFINITION. Machine/AccOps.lean: the accumulator operations of Mace (R547 to R549).
-/
namespace Sys2Proof.Machine

/-- MAC: adds, subtracts or writes a product of rs1 and rs2, both complex or both real (R547, R548). -/
def execMac (p : Proc) (n : Fin 4) (rs1 rs2 : Fin 32) (conj neg cplx z : Bool) (s : State) : Host.Outcome State Fault Refusal :=
  .next (s.instr p (fun u =>
    (u.accumulate p n (product (opnd cplx (u.getG p rs1)) (opnd cplx (u.getG p rs2)) conj) neg z).advance p))

/-- POW: adds the power of rs1 to RE (R547, R548). -/
def execPow (p : Proc) (n : Fin 4) (rs1 : Fin 32) (cplx : Bool) (s : State) : Host.Outcome State Fault Refusal :=
  .next (s.instr p (fun u => (u.addPower p n (power (opnd cplx (u.getG p rs1))) false).advance p))

/-- ACLR: both parts of an accumulator become zero (R547). -/
def execAclr (p : Proc) (n : Fin 4) (s : State) : Host.Outcome State Fault Refusal :=
  .next (s.instr p (fun u => (u.setAcc p n (0, 0)).advance p))

/-- ALD: RE takes rs1 and IM takes rs2, sign-extended (R547). -/
def execAld (p : Proc) (n : Fin 4) (rs1 rs2 : Fin 32) (s : State) : Host.Outcome State Fault Refusal :=
  .next (s.instr p (fun u => (u.setAcc p n ((u.getG p rs1).toInt, (u.getG p rs2).toInt)).advance p))

/-- A move out of an accumulator: rd takes the value, MSAT a saturation (R549). -/
def State.moveAcc (s : State) (pr : Proc) (rd : Fin 32) (v : Word × Bool) : State :=
  ((s.setG pr rd v.1).dspFlag pr 1 v.2).advance pr

/-- APACK: both parts, scaled and saturated, in one register (R549). -/
def execApack (p : Proc) (rd : Fin 32) (n : Fin 4) (s : State) : Host.Outcome State Fault Refusal :=
  .next (s.instr p (fun u => u.moveAcc p rd (u.packAcc p n)))

/-- AMOVRE: the real part, scaled and saturated (R549). -/
def execAmovre (p : Proc) (rd : Fin 32) (n : Fin 4) (s : State) : Host.Outcome State Fault Refusal :=
  .next (s.instr p (fun u => u.moveAcc p rd (u.movePart p (u.getAcc p n).1)))

/-- AMOVIM: the imaginary part, scaled and saturated (R549). -/
def execAmovim (p : Proc) (rd : Fin 32) (n : Fin 4) (s : State) : Host.Outcome State Fault Refusal :=
  .next (s.instr p (fun u => u.moveAcc p rd (u.movePart p (u.getAcc p n).2)))

end Sys2Proof.Machine
end

