-- ==== Sys2Proof/Machine/Accession.lean ====
section
/-!
DEFINITION. Machine/Accession.lean: an accession taking effect, light or heavy, the remap, and the end of the gap (R225, R240, R304, R305,
R352, R362 to R366, R390, R403, R572, R636).
-/
namespace Sys2Proof.Machine

/-- Puts the shadow's registers and image into force as the live Catalogue (R350, R362, R363, R374, R376, R390, R403). -/
def State.putInForce (s : State) : State :=
  let img := s.cat.shadow
  let a := s.chainAddr
  let s1 := ((s.catView img a).catReport img a).catMod (fun c => { c with live := img })
  let s2 := (s1.fput F.CAT_STATUS_FALLBACK 0).fput F.CAT_BOOT_LIVE_SRC s.cat.shadowSrc
  let s3 := s2.doIf ((List.range 8).all (fun k => s2.rd (R.CAT_LIVE_DIGEST k) == s2.rd (R.CHAIN_CHAIN_DIGEST k)))
    (fun u => u.fput F.CAT_STATUS_MISMATCH 0)
  s3.showPending.takeRole

/-- The monitors restart at `x` where the accession changes what R159 names; `o` is the outgoing Catalogue. -/
def State.monAccede (s o : State) (x : Nat) : State :=
  let ch := fun (rs : List Nat) => rs.any (fun r => o.rd r != s.rd r)
  if ch [R.INGEST_MON_CFG, R.INGEST_MON_BAND] then s.ingMod (fun g => { g with restarts := g.restarts ++ [(x, true)] })
  else if ch [R.INGEST_MON_HIGH, R.INGEST_MON_LOW] then s.ingMod (fun g => { g with restarts := g.restarts ++ [(x, false)] })
  else s

/-- Whether the accession changes what clears the levels of the search (R322). -/
def searchChanged (o v : State) : Bool :=
  searchRegs.any (fun r => o.rd r != v.rd r)

/-- The lanes act on their changed entries, and the quires with them; `o` holds the registers of the outgoing Catalogue (R81, R113). -/
def State.lanesAccede (s o : State) : State :=
  (s.forEach (List.range 192) (fun u n =>
    u.laneAccede n (o.rd (R.LANE_CFG n)) (o.rd (R.LANE_IDENT n)) (o.rd (R.LANE_EXPECT n)) (o.egressRefused n))).forEach (List.range 24)
    State.quireAccede

/-- The plan of the live image with the registers of its Catalogue (R341, R366). -/
def State.livePlan (s : State) : Plan := { planOf (sectBytes s.cat.live s.catAddr 4) with cfg := s.regs }

/-- What every accession does at `x` once the live integration has closed: the shadow in force, the monitors, the throttle, the
retire-pending tiles and the beam unit (R15, R16, R159, R225, R314, R322, R636). -/
def State.accedeCommon (s : State) (x y : Nat) : State :=
  let o := ({ s with oldRegs := s.regs, accSi := x }).catMod (fun c => { c with
    next := [], olds := (x, regDiff (s.catView c.shadow s.chainAddr).regs s.regs) :: c.olds })
  let s1 := o.putInForce
  let allocNew := (planOf (sectBytes s.cat.live s.catAddr 4)).recs != (planOf (sectBytes s1.cat.live s1.catAddr 4)).recs
  ((((s1.monAccede o x).throttleAccede x).retireAtAcc x).beamAccede x y (searchChanged o s1) allocNew).raise F.CAT_EVENT_ACCEDED

/-- A light accession at `x` (R362). -/
def State.accedeLight (s : State) (x : Nat) : State :=
  let s1 := (s.closeInteg x).accedeCommon x x
  let s2 := (s1.arrMod (fun a => { a with plan := { a.plan with cfg := s1.regs } })).showRegions.lanesAccede { s with regs := s1.oldRegs }
  let s3 := (s2.openInteg x false).count R.CAT_ACCESSIONS
  ((s3.fput F.CAT_STATUS_HEAVY 0).setShadow 0).catMod (fun c => { c with acc := none })

/-- Staging in the gap [x, y): blocks that lie in it are freed, and their frames counted (R365). -/
def State.gapStaging (s : State) (x y : Nat) : State :=
  let inside := fun (c : ChanBlk) => decide (x ≤ c.b * 128) && decide (c.b * 128 < y)
  let n := ((s.ingest.blks.filter inside).map (fun c => c.frames.length)).sum
  (s.ingMod (fun g => { g with
    blks := g.blks.filter (fun c => !inside c), eraOld := g.era, era := { first := y / 128 }, eraX := x,
    gaps := g.gaps ++ [(x, y)] })).countBy R.CAT_GAP_FRAMES n |>.showStage

/-- CAT.GAP_IN: spectra that each input in use loses to the gap (R150, R365). -/
def State.countGapIn (s : State) (x y : Nat) : State :=
  s.forEach ((List.range s.nIn).filter (fun i => !s.inputOff i)) (fun u i =>
    u.countBy (R.CAT_GAP_IN i) (y - x))

/-- Clears RETIRING once no integration of an earlier Catalogue is left (R363). -/
def State.retireDone (s : State) : State :=
  s.doIf (!s.accum.integs.any (fun i => decide (i.a < s.accSi))) (fun u =>
    (u.fput F.CAT_STATUS_RETIRING 0).catMod (fun c => { c with retiring := [] }))

/-- A heavy accession at `x`, to resume at `y` (R363, R365). -/
def State.accedeHeavy (s : State) (x y : Nat) : State :=
  let old := s.cat.live
  let s1 := (s.closeInteg x).accedeCommon x y
  let s2 := ((s1.gapStaging x y).countGapIn x y).catMod (fun c => { c with retiring := old, remapped := false })
  ((s2.count R.CAT_ACCESSIONS).fput F.CAT_STATUS_RETIRING 1).setShadow 6

/-- Whether a weight switch of a smaller SI has not been made: the accession at `x` comes after it (R15, R302). -/
def State.weightsBefore (s : State) (x : Nat) : Bool :=
  s.beam.switches.any (fun w => decide (w.1 < x)) || s.beam.pendAt.any (fun p => decide (p.2 < x))

/-- ACCEDED: the index has reached the SI of the scheduled accession, which takes effect, or is refused there and the shadow is
VERIFIED again. The parts of a snapshot due by then keep the words of before (R16, R352, R362, R363). -/
def execAcceded (s : State) : Host.Outcome State Fault Refusal :=
  .next (match s.cat.acc with
    | none => s
    | some (x, y) =>
      if s.shadowSt ≠ 5 ∨ s.accReached = false ∨ s.weightsBefore x then s
      else
        let v := s.shadowView
        let heavy := s.fbit F.CAT_STATUS_HEAVY
        let code := if s.modeRefused v then 0x25 else if s.placeRefused v || (heavy && s.overlapRefused v) then 0x26 else 0
        if code ≠ 0 then (((s.setShadow 4).fput F.CAT_STATUS_HEAVY 0).catMod (fun c => { c with acc := none, next := [] })).refuse code
        else s.latchChanged ((if heavy then s.accedeHeavy x y else s.accedeLight x).helloSync) x)

/-- R of the remap in progress, in units of 2^-32 ns (R358). -/
def State.remapTime (s : State) : Nat :=
  let d := ([4, 5].map (fun t =>
    let b := sectBytes s.cat.live s.catAddr t
    if sectBytes s.cat.retiring s.catAddr t = b then 0 else b.length)).sum
  500000 * 2 ^ 32 + d * 2 ^ 29

/-- Whether the work of R364 is done: no window of the retiring copy is under way or still due, and no integration of it is left. -/
def State.retiringDone (s : State) : Bool :=
  s.array.runs.all (fun r => s.runDone r) && s.array.ready.isEmpty && s.ingest.eraOld.win.isEmpty
    && !s.ingest.blks.any (fun c => !c.released && s.oldEra c.b) && !s.accum.integs.any (fun i => decide (i.a < s.accSi))

/-- Abandons what is left of the retiring copy's windows (R215, R364). -/
def State.abandonRetiring (s : State) (x : Nat) : State :=
  let s1 := s.forEach s.array.runs (fun u r => if u.runDone r then u else u.abandonRun r)
  let due := (s1.ingest.eraOld.win.map Prod.fst).filter (fun m => !s1.array.ready.contains (m, true))
  let s2 := (s1.arrMod (fun a => { a with ready := a.ready ++ due.map (fun m => (m, true)) })).dropReady
  let s3 := s2.ingMod (fun g => { g with eraOld := { g.eraOld with win := [] } })
  (s3.arrMod (fun a => { a with till := max a.till x })).drainIssue

/-- Loads the roles, the plan and the beam allocation of the live Catalogue into the sequencer (R366). -/
def State.loadPlan (s : State) : State :=
  let p := s.livePlan
  let s1 := s.arrMod (fun a => { a with
    plan := p
    tiles := a.tiles.map (fun e => (e.1, ({ e.2 with
      todo := e.2.todo.filter (fun o => o.op == 4), run := 0, round := none, issRound := 0, issIdx := 0, chain := none,
      readable := [] } : TileSt))) })
  let s2 := s1.forEach (List.range 400) (fun u q =>
    let l := u.fget (F.ARRAY_PMAP_LOGICAL q)
    u.fput (F.ARRAY_PMAP_ROLE q) (if u.serving q && decide (l < 400) then u.roleOf l else 0))
  (s2.refreshMissing s2.residentPlan).showSets

/-- REMAP: the work of the retiring copy is done, or t′(y) − R has come: the plan, the Clove code, the lanes and the regions are those
of the live Catalogue from now (R364, R366, R572). -/
def execRemap (s : State) : Host.Outcome State Fault Refusal :=
  .next (match s.cat.acc with
    | none => s
    | some (x, y) =>
      if s.shadowSt ≠ 6 ∨ s.cat.remapped = true then s
      else if !s.retiringDone && decide (s.time.now.toNat + s.remapTime < s.tOf y) then s
      else
        let s1 := (s.abandonRetiring x).loadPlan.cloveReload s.cat.retiring s.cat.live s.catAddr s.catAddr
        s.latchChanged ((s1.lanesAccede { s with regs := s.oldRegs }).showRegions.catMod (fun c => { c with remapped := true })).retireDone x)

/-- REMAP_END: the remap of a heavy accession is complete; the reloaded Clove engines enter RUN, once their earlier moves
are answered (R569, R570, R572). -/
def execRemapEnd (s : State) : Host.Outcome State Fault Refusal :=
  .next (match s.cat.acc with
    | none => s
    | some (x, _) => if s.shadowSt = 6 ∧ s.cat.remapped = true ∧ !s.cloveHeld then s.cloveLoaded x else s)

/-- RESUMED: the index has reached the resume SI; an integration opens after the gap, and the shadow is EMPTY (R240, R366). -/
def execResumed (s : State) : Host.Outcome State Fault Refusal :=
  .next (match s.cat.acc with
    | none => s
    | some (_, y) =>
      if s.shadowSt = 6 ∧ s.cat.remapped = true ∧ y ≤ s.siNow then
        let s1 := ((s.openInteg y true).raise F.CAT_EVENT_RESUMED).retireDone
        ((s1.fput F.CAT_STATUS_HEAVY 0).setShadow 0).catMod (fun c => { c with acc := none, remapped := false })
      else s)

end Sys2Proof.Machine
end

