-- ==== Sys2Proof/Machine/Alu.lean ====
section
/-!
DEFINITION. Machine/Alu.lean: the arithmetic instructions of Mace on general registers (R545, R546).
-/
namespace Sys2Proof.Machine

/-- An instruction that writes rd with a value and goes on. -/
def State.setOn (s : State) (pr : Proc) (rd : Fin 32) (v : Word) : State := s.instr pr (fun u => (u.setG pr rd v).advance pr)

/-- An R-format instruction: rd ← f rs1 rs2. -/
def State.aluR (s : State) (pr : Proc) (f : Word → Word → Word) (rd rs1 rs2 : Fin 32) : State :=
  s.setOn pr rd (f (s.getG pr rs1) (s.getG pr rs2))

/-- A truth value as a word. -/
def ofBool (b : Bool) : Word := if b then 1#32 else 0#32

/-- The amount of a shift, bits [4:0] (R546). -/
def shamt (w : Word) : Nat := w.toNat % 32

/-- Quotients and remainders truncate toward zero; division by zero gives all ones and the dividend (R546). -/
def divS (a b : Word) : Word := if b = 0#32 then 0xFFFFFFFF#32 else BitVec.ofInt 32 (a.toInt.tdiv b.toInt)
def remS (a b : Word) : Word := if b = 0#32 then a else BitVec.ofInt 32 (a.toInt.tmod b.toInt)
def divU (a b : Word) : Word := if b = 0#32 then 0xFFFFFFFF#32 else BitVec.ofNat 32 (a.toNat / b.toNat)
def remU (a b : Word) : Word := if b = 0#32 then a else BitVec.ofNat 32 (a.toNat % b.toNat)

/-- ADD: the wrapped sum (R545, R546). -/
def execAdd (p : Proc) (rd rs1 rs2 : Fin 32) (s : State) : Host.Outcome State Fault Refusal := .next (s.aluR p (fun a b => a + b) rd rs1 rs2)

/-- SUB: the wrapped difference (R545, R546). -/
def execSub (p : Proc) (rd rs1 rs2 : Fin 32) (s : State) : Host.Outcome State Fault Refusal := .next (s.aluR p (fun a b => a - b) rd rs1 rs2)

/-- AND: bitwise AND (R545). -/
def execAnd (p : Proc) (rd rs1 rs2 : Fin 32) (s : State) : Host.Outcome State Fault Refusal := .next (s.aluR p (fun a b => a &&& b) rd rs1 rs2)

/-- OR: bitwise OR (R545, R546). -/
def execOr (p : Proc) (rd rs1 rs2 : Fin 32) (s : State) : Host.Outcome State Fault Refusal := .next (s.aluR p (fun a b => a ||| b) rd rs1 rs2)

/-- XOR: bitwise exclusive-or (R545, R546). -/
def execXor (p : Proc) (rd rs1 rs2 : Fin 32) (s : State) : Host.Outcome State Fault Refusal := .next (s.aluR p (fun a b => a ^^^ b) rd rs1 rs2)

/-- SLL: shift left (R545, R546). -/
def execSll (p : Proc) (rd rs1 rs2 : Fin 32) (s : State) : Host.Outcome State Fault Refusal := .next (s.aluR p (fun a b => a <<< shamt b) rd rs1 rs2)

/-- SRL: logical shift right (R545, R546). -/
def execSrl (p : Proc) (rd rs1 rs2 : Fin 32) (s : State) : Host.Outcome State Fault Refusal := .next (s.aluR p (fun a b => a >>> shamt b) rd rs1 rs2)

/-- SRA: arithmetic shift right (R545, R546). -/
def execSra (p : Proc) (rd rs1 rs2 : Fin 32) (s : State) : Host.Outcome State Fault Refusal := .next (s.aluR p (fun a b => a.sshiftRight (shamt b)) rd rs1 rs2)

/-- SLT: signed less than (R545, R546). -/
def execSlt (p : Proc) (rd rs1 rs2 : Fin 32) (s : State) : Host.Outcome State Fault Refusal := .next (s.aluR p (fun a b => ofBool (a.slt b)) rd rs1 rs2)

/-- SLTU: unsigned less than (R545, R546). -/
def execSltu (p : Proc) (rd rs1 rs2 : Fin 32) (s : State) : Host.Outcome State Fault Refusal := .next (s.aluR p (fun a b => ofBool (a.ult b)) rd rs1 rs2)

/-- MUL: the low 32 bits of the product (R545, R546). -/
def execMul (p : Proc) (rd rs1 rs2 : Fin 32) (s : State) : Host.Outcome State Fault Refusal := .next (s.aluR p (fun a b => a * b) rd rs1 rs2)

/-- MULH: the high 32 bits of the signed product (R545, R546). -/
def execMulh (p : Proc) (rd rs1 rs2 : Fin 32) (s : State) : Host.Outcome State Fault Refusal := .next (s.aluR p (fun a b => BitVec.ofInt 32 (a.toInt * b.toInt / 2 ^ 32)) rd rs1 rs2)

/-- MULHU: the high 32 bits of the unsigned product (R545, R546). -/
def execMulhu (p : Proc) (rd rs1 rs2 : Fin 32) (s : State) : Host.Outcome State Fault Refusal := .next (s.aluR p (fun a b => BitVec.ofNat 32 (a.toNat * b.toNat / 2 ^ 32)) rd rs1 rs2)

/-- DIV: the signed quotient (R545, R546). -/
def execDiv (p : Proc) (rd rs1 rs2 : Fin 32) (s : State) : Host.Outcome State Fault Refusal := .next (s.aluR p (fun a b => divS a b) rd rs1 rs2)

/-- DIVU: the unsigned quotient (R545, R546). -/
def execDivu (p : Proc) (rd rs1 rs2 : Fin 32) (s : State) : Host.Outcome State Fault Refusal := .next (s.aluR p (fun a b => divU a b) rd rs1 rs2)

/-- REM: the signed remainder (R545, R546). -/
def execRem (p : Proc) (rd rs1 rs2 : Fin 32) (s : State) : Host.Outcome State Fault Refusal := .next (s.aluR p (fun a b => remS a b) rd rs1 rs2)

/-- REMU: the unsigned remainder (R545, R546). -/
def execRemu (p : Proc) (rd rs1 rs2 : Fin 32) (s : State) : Host.Outcome State Fault Refusal := .next (s.aluR p (fun a b => remU a b) rd rs1 rs2)

/-- MIN: the smaller, signed (R545, R546). -/
def execMin (p : Proc) (rd rs1 rs2 : Fin 32) (s : State) : Host.Outcome State Fault Refusal := .next (s.aluR p (fun a b => if a.slt b then a else b) rd rs1 rs2)

/-- MAX: the larger, signed (R545, R546). -/
def execMax (p : Proc) (rd rs1 rs2 : Fin 32) (s : State) : Host.Outcome State Fault Refusal := .next (s.aluR p (fun a b => if a.slt b then b else a) rd rs1 rs2)

/-- ADDS: the saturated sum (R545, R546). -/
def execAdds (p : Proc) (rd rs1 rs2 : Fin 32) (s : State) : Host.Outcome State Fault Refusal := .next (s.aluR p (fun a b => satWord (a.toInt + b.toInt)) rd rs1 rs2)

/-- SUBS: the saturated difference (R545, R546). -/
def execSubs (p : Proc) (rd rs1 rs2 : Fin 32) (s : State) : Host.Outcome State Fault Refusal := .next (s.aluR p (fun a b => satWord (a.toInt - b.toInt)) rd rs1 rs2)

/-- ADDI: sum with the sign-extended immediate (R545, R546). -/
def execAddi (p : Proc) (rd rs1 : Fin 32) (imm : BitVec 16) (s : State) : Host.Outcome State Fault Refusal :=
  .next (s.setOn p rd (let a := s.getG p rs1; a + sext16 imm))

/-- ANDI: AND with the sign-extended immediate (R545, R546). -/
def execAndi (p : Proc) (rd rs1 : Fin 32) (imm : BitVec 16) (s : State) : Host.Outcome State Fault Refusal :=
  .next (s.setOn p rd (let a := s.getG p rs1; a &&& sext16 imm))

/-- ORI: OR with the sign-extended immediate (R545, R546). -/
def execOri (p : Proc) (rd rs1 : Fin 32) (imm : BitVec 16) (s : State) : Host.Outcome State Fault Refusal :=
  .next (s.setOn p rd (let a := s.getG p rs1; a ||| sext16 imm))

/-- XORI: exclusive-or with the zero-extended immediate (R545, R546). -/
def execXori (p : Proc) (rd rs1 : Fin 32) (imm : BitVec 16) (s : State) : Host.Outcome State Fault Refusal :=
  .next (s.setOn p rd (let a := s.getG p rs1; a ^^^ zext16 imm))

/-- SLTI: signed less than the immediate (R545, R546). -/
def execSlti (p : Proc) (rd rs1 : Fin 32) (imm : BitVec 16) (s : State) : Host.Outcome State Fault Refusal :=
  .next (s.setOn p rd (let a := s.getG p rs1; ofBool (a.slt (sext16 imm))))

/-- SLTIU: unsigned less than the sign-extended immediate (R545, R546). -/
def execSltiu (p : Proc) (rd rs1 : Fin 32) (imm : BitVec 16) (s : State) : Host.Outcome State Fault Refusal :=
  .next (s.setOn p rd (let a := s.getG p rs1; ofBool (a.ult (sext16 imm))))

/-- LUI: the immediate shifted left by 16 (R545). -/
def execLui (p : Proc) (rd : Fin 32) (imm : BitVec 16) (s : State) : Host.Outcome State Fault Refusal := .next (s.setOn p rd (zext16 imm <<< 16))

/-- SLLI: shift by an immediate amount (R545). -/
def execSlli (p : Proc) (rd rs1 sh : Fin 32) (s : State) : Host.Outcome State Fault Refusal :=
  .next (s.setOn p rd (let a := s.getG p rs1; a <<< sh.val))

/-- SRLI: shift by an immediate amount (R545). -/
def execSrli (p : Proc) (rd rs1 sh : Fin 32) (s : State) : Host.Outcome State Fault Refusal :=
  .next (s.setOn p rd (let a := s.getG p rs1; a >>> sh.val))

/-- SRAI: shift by an immediate amount (R545). -/
def execSrai (p : Proc) (rd rs1 sh : Fin 32) (s : State) : Host.Outcome State Fault Refusal :=
  .next (s.setOn p rd (let a := s.getG p rs1; a.sshiftRight sh.val))

end Sys2Proof.Machine
end

