-- ==== Sys2Proof/Machine/Boot.lean ====
section
/-!
DEFINITION. Machine/Boot.lean: a start and its fifteen steps (R220, R221, R350, R367, R385, R388, R507, R611, R613 to R622, R657 to R659).
-/
namespace Sys2Proof.Machine

/-- Changes the start beside its registers. -/
def State.bootMod (s : State) (f : BootSt → BootSt) : State := { s with boot := f s.boot }

/-- Whether the start is a warm one. -/
def State.warmStart (s : State) : Bool := s.fbit F.BOOT_STATUS_KIND

/-- The step in progress. -/
def State.bootStep (s : State) : Nat := s.fget F.BOOT_STATUS_STEP

/-- Whether a start is running and step `n` is in progress. -/
def State.inStep (s : State) (n : Nat) : Bool := s.boot.begun && s.inStart && s.power.tripped.isNone && s.bootStep == n

/-- Records warning 0x10 + `w`; CODE keeps the first (R619). -/
def State.warn (s : State) (w : Nat) : State :=
  let s1 := s.fput ⟨R.BOOT_STATUS, 8 + w, 1⟩ 1
  s1.doIf (s.fget F.BOOT_STATUS_CODE == 0) (fun u => u.fput F.BOOT_STATUS_CODE (0x10 + w))

/-- Records warning 0x10 + `w` where `c` holds. -/
def State.warnIf (s : State) (c : Bool) (w : Nat) : State := if c then s.warn w else s

/-- Counts a failed start (R616). -/
def State.countFail (s : State) : State := s.fput ⟨R.BOOT_COUNT, 24, 8⟩ (satN 8 (s.fget ⟨R.BOOT_COUNT, 24, 8⟩ + 1))

/-! ### The boot block -/

/-- An entry of the power record (R620). -/
def recEntry (b : List Byte) (k : Nat) : List Byte := (b.drop (16 * k)).take 16

/-- The ORDER values of the entries that switch rail `r`. -/
def railOrders (b : List Byte) (n r : Nat) : List Nat :=
  ((List.range n).filter (fun k => bitOf (imgN (recEntry b k) 0 1) 0 && !bitOf (imgN (recEntry b k) 0 1) 2 && imgN (recEntry b k) 3 1 == r)).map
    (fun k => imgN (recEntry b k) 6 1)

/-- Whether the values of the first list all lie below those of the second. -/
def allBelow (p q : List Nat) : Bool := p.all (fun x => q.all (fun y => decide (x < y)))

/-- Whether a record of `n` entries obeys R621: rails in strictly rising order, one AVS entry at most, of rail 0, and VDD_IO only measured. -/
def recordOk (b : List Byte) (n : Nat) : Bool :=
  let os := [7, 0, 1, 2, 3, 4, 5].map (railOrders b n)
  let avs := (List.range n).filter (fun k => bitOf (imgN (recEntry b k) 0 1) 1)
  decide (n ≤ 16) && os.all (fun o => !o.isEmpty) && (os.zip (os.drop 1)).all (fun p => allBelow p.1 p.2)
    && decide (avs.length ≤ 1) && avs.all (fun k => imgN (recEntry b k) 3 1 == 0)
    && (List.range n).all (fun k => imgN (recEntry b k) 3 1 != 6 || bitOf (imgN (recEntry b k) 0 1) 2)

/-- Shows the entries of a record in POWER.REG (R640). -/
def State.showRecord (s : State) (b : List Byte) (n : Nat) : State :=
  s.forEach (List.range n) (fun u k =>
    let e := recEntry b k
    let fl := imgN e 0 1
    let u1 := ((u.fput (F.POWER_REG_EN k) (fl % 2)).fput (F.POWER_REG_AVS k) (fl / 2 % 2)).fput (F.POWER_REG_MEASURE_ONLY k) (fl / 4 % 2)
    (((u1.fput (F.POWER_REG_ADDR k) (imgN e 1 1)).fput (F.POWER_REG_PAGE k) (imgN e 2 1)).fput (F.POWER_REG_RAIL k) (imgN e 3 1)).fput
      (F.POWER_REG_ORDER k) (imgN e 6 1))

/-- Takes the boot block: waits, power record, and the warnings on either (R611, R621, R624). -/
def State.takeBoot (s : State) : State :=
  let b := s.bootBlk
  let none' := s.bootLatest.isNone
  let ok := decide (0 < b.records) && recordOk b.power b.records
  let s1 := (s.wrN R.BOOT_CFG (b.refWait % 65536 + b.hostWait % 65536 * 65536)).warnIf none' 6
  let s2 := (s1.warnIf (decide (0 < b.records) && !ok) 7).powMod (fun p => { p with entries := if ok then b.records else 0 })
  ((s2.fput F.POWER_STATUS_TELEMETRY (b2n ok)).doIf ok (fun u => u.showRecord b.power b.records)).bootMod
    (fun t => { t with noBlock := none' }) |>.showBootSlot

/-- Seconds that steps 11 and 12 may wait (R615). -/
def State.refWait (s : State) : Nat := s.rdN R.BOOT_CFG % 65536

/-! ### The end of a start -/

/-- What every start does at its end: the reference Catalogue stays in force under CHAIN.ADDR, and its plan, which has no roles (R367,
R390). -/
def State.endUnderReference (s : State) : State :=
  let s1 := (s.fput F.CAT_ADDR_VALID (b2n s.hasAddr)).fput F.CAT_ADDR_ADDRESS (if s.hasAddr then s.chAddr else 0)
  s1.showPending.loadPlan

/-- Ends a start that failed at steps 3, 4, 6 or 7, in HOLD under the reference Catalogue (R616). -/
def State.bootFails (s : State) (code : Nat) : State :=
  let s1 := (((s.fput F.BOOT_STATUS_STATE 3).fput F.BOOT_STATUS_CODE code).countFail.bootMod (fun b => { b with failed := code })).endUnderReference
  s1.raise ⟨R.BOOT_EVENT, 1, 1⟩

/-- Switches the regulators on at a cold start with a power record: those of the first ORDER level, or all others in their order. DESIGN
CHOICE (log 208): the first level is written as the step begins, the others are shown at its end (R621, R624). -/
def State.railsUp (s : State) (first : Bool) : State :=
  let lo := (s.railEntries.map (fun k => s.fget (F.POWER_REG_ORDER k))).head?
  let es := s.railEntries.filter (fun k => (lo == some (s.fget (F.POWER_REG_ORDER k))) == first)
  if s.warmStart then s
  else s.forEach es (fun u k => u.emit (.regulator (s.fget (F.POWER_REG_ADDR k)) (s.fget (F.POWER_REG_PAGE k))
    (some (imgN (recEntry s.bootBlk.power k) 4 2)) 0x80))

/-- Fails step 1 or 2: the rails go off, and 100 ms later the start runs once more; a second failure is final (R616, R622). -/
def State.railsFail (s : State) (code : Nat) : State :=
  let again := !s.boot.retried
  let s0 := if again then s else (s.countFail.fput F.BOOT_STATUS_STATE 3).raise ⟨R.BOOT_EVENT, 1, 1⟩
  let s1 := (s0.railsDown.unpowered.wr R.BOOT_STATUS (s0.rd R.BOOT_STATUS)).fput F.BOOT_STATUS_CODE code
  let s2 := ((s1.wr R.BOOT_COUNT (s0.rd R.BOOT_COUNT)).wr R.BOOT_EVENT (s0.rd R.BOOT_EVENT)).chMod (fun c => { c with strap := s.chain.strap })
  s2.bootMod (fun b => { b with failed := code, retried := s.boot.retried, sel := s.boot.sel })

/-- Schedules a start-up Catalogue whose FLAGS.AUTO is set (R367). -/
def State.autoAccede (s : State) : State :=
  let img := s.cat.shadow
  if s.shadowSt = 4 ∧ bitOf (imgN img 56 4) 0 then
    let r := s.requestAcc (s.boundaryAt (s.siNow + imgN (sectBytes img s.chainAddr 8) 16 4 + 1)) 0
    if r.2 = 0 then r.1 else r.1.refuse r.2
  else s

/-- Ends a start that did not fail (R367, R616, R619). -/
def State.bootEnds (s : State) : State :=
  let warned := s.fget F.BOOT_STATUS_WARN != 0
  let s1 := (s.endUnderReference.fput ⟨R.BOOT_COUNT, 24, 8⟩ 0).fput F.BOOT_STATUS_STATE (if warned then 2 else 1)
  ((s1.raise ⟨R.BOOT_EVENT, 0, 1⟩).raiseIf warned ⟨R.BOOT_EVENT, 2, 1⟩).autoAccede

/-! ### Entering the steps -/

/-- Puts a step in progress. -/
def State.atStep (s : State) (n : Nat) : State := s.fput F.BOOT_STATUS_STEP n

/-- Marks a step skipped. -/
def State.skips (s : State) (n : Nat) : State := s.fput ⟨R.BOOT_SKIPPED, n, 1⟩ 1

/-- Step 13: the head sweeps, and on a warm start skips it; a member waits for its address, and skips it where R388 resumed one. -/
def State.enterStep13 (s : State) : State :=
  if s.isHead then (if s.warmStart then (s.skips 13).atStep 14 else (s.atStep 13).startSweep 0)
  else if s.warmStart && s.hasAddr && s.enumState == 1 then (s.skips 13).atStep 14
  else s.atStep 13

/-- Step 12: skipped on a warm start, and not waited for with a REF_WAIT of 0 (R59, R615). -/
def State.enterStep12 (s : State) : State :=
  if s.warmStart then (s.skips 12).enterStep13 else if s.refWait = 0 then s.enterStep13 else s.atStep 12

/-- Step 11: not waited for on a warm start or with a REF_WAIT of 0 (R615). -/
def State.enterStep11 (s : State) : State := if s.warmStart || s.refWait == 0 then s.enterStep12 else s.atStep 11

/-- Step 10: the Carrels are zeroed, and on a cold start the initialising scrub begins (R441). -/
def State.enterStep10 (s : State) : State :=
  ((s.atStep 10).carrelLose 0).doIf (!s.warmStart) State.startInitScrub

/-- What stands after step 9: the free spares, and the logical tiles that are MISSING. DESIGN CHOICE (log 199): the reference Catalogue,
which has no plan, counts as a plan that is not resident (R226, R230, R619). -/
def State.afterBist (s : State) : State :=
  let s1 := (s.fput F.ARRAY_STATUS_FREE_SPARES (((List.range 4).map (fun w => (s.spares w).length)).sum)).refreshMissing s.residentPlan
  s1.warnIf ((List.range 384).any (fun t => s1.isMissing t)) 1

/-- Step 9: skipped on a warm start unless BIST_ON_WARM was set (R221). -/
def State.enterStep9 (s : State) : State :=
  if s.warmStart && !s.boot.bist then (s.skips 9).afterBist.enterStep10 else s.atStep 9

/-- Step 8: the lanes' bring-up may begin, and the chain ports leave OFF (R102, R375, R377). -/
def State.enterStep8 (s : State) : State :=
  (s.atStep 8).forEach ([0, 1].filter (fun p => s.portState p == 0)) (fun u p => u.portDetect p)

/-- Step 7: training runs from INIT (R442, R443). -/
def State.enterStep7 (s : State) : State := (s.atStep 7).startTraining

/-- Awaits the host's image where it is the next source (R658). -/
def State.offerHost (s : State) : State := s.doIf (s.boot.sources.head? == some 2) (fun u => u.fput F.HOSTIF_FW_STATUS_STATE 1)

/-- Step 6: the sources in their order, a warm start with reuse trying the device region first (R443, R613, R614). -/
def State.enterStep6 (s : State) : State :=
  let f := s.bootBlk.fwFirst % 2
  let store := [f, 1 - f]
  let src := match s.boot.sel with
    | 0 => store
    | 1 => [2]
    | _ => store ++ [2]
  let all := if s.warmStart && s.reusable s.rateWanted then 3 :: src else src
  ((s.atStep 6).bootMod (fun b => { b with sources := all, image := none })).offerHost

/-- Step 4: Curator A enters BOOT (R506, R507). -/
def State.enterStep4 (s : State) : State := (s.atStep 4).enterBoot 0 false

/-- Step 3: skipped on a warm start (R614). -/
def State.enterStep3 (s : State) : State := if s.warmStart then (s.skips 3).enterStep4 else s.atStep 3

/-- START: the start begins at step 1 with the boot block read; `sel` is BOOT_SEL and `head` the CHAIN_HEAD strap (R376, R611, R613, R614). -/
def execStart (sel : Fin 4) (head : Bool) (s : State) : Host.Outcome State Fault Refusal :=
  .next (if s.boot.begun || !s.inStart || s.power.tripped.isSome then s
    else
      let s1 := s.bootMod (fun b => { b with begun := true, sel := sel.val })
      (((s1.chMod (fun c => { c with strap := head })).takeRole.takeBoot).railsUp true).atStep 1)

/-! ### What ends the steps -/

/-- Fuses into the shadow, with the calibration of the chain (R396, R657, R663, R688). -/
def State.loadFuses (s : State) : State :=
  let s1 := ((s.wrN R.DEVICE_BIN (Config.fusedBin % 256)).wr64 R.DEVICE_SERIAL_LO R.DEVICE_SERIAL_HI Config.fusedSerial).wrN
    R.HOSTIF_FW_ROLLBACK s.host.fuses
  let s2 := (s1.wrN R.MGMT_MAC_LO Config.fusedMac).wrN R.MGMT_MAC_HI (Config.fusedMac / 2 ^ 32 % 65536)
  (s2.wrN R.CHAIN_RXCORR Config.chainRxCorr).wrN R.CHAIN_TXCORR Config.chainTxCorr

/-- The firmware image of a source that is not the host. -/
def State.sourceImage (s : State) (k : Nat) : List Byte :=
  if k = 3 then s.arcBytes deviceRegion (min 6291456 (fwLength (s.arcBytes deviceRegion 16))) else s.slotImage k

/-- Whether the image of a source passes (R439, R657). -/
def State.sourceOk (s : State) (k : Nat) : Bool :=
  (k != 3 || s.arcReadable deviceRegion (s.sourceImage 3).length) && fwCheck (s.rdN R.HOSTIF_FW_ROLLBACK) (s.sourceImage k) == 0

/-- Step 6 tries its next source; none left, it fails and, as no firmware runs, the host may still load one (R613, R616, R658). -/
def State.trySource (s : State) : State :=
  match s.boot.sources with
  | [] => s
  | 2 :: _ => if s.boot.image = some 2 then s.enterStep7 else s
  | k :: rest =>
    if s.sourceOk k then ((s.stBytes sramBase (s.sourceImage k)).fwTake k (fwVersion (s.sourceImage k))).enterStep7
    else if rest.isEmpty then (s.fput F.HOSTIF_FW_STATUS_STATE 1).bootFails 0x06
    else (s.bootMod (fun b => { b with sources := rest })).offerHost

/-- The BIST found physical tile `p` bad, or with `carrel` its Carrel alone (R174, R175, R220, R229 to R231). -/
def State.bistBad (s : State) (p : Nat) (carrel : Bool) : State :=
  let s1 := ((s.fput (F.ARRAY_PMAP_CAUSE p) 5).lastErr 4 p).raise F.ARRAY_EVENT_BIST_FAIL
  match s.fget (F.ARRAY_PMAP_STATE p) with
  | 0 => (s1.takeOut p 3).nameSpares (p / 100) s.siNow
  | 1 | 5 =>
    if carrel && (s.spares (p / 100)).isEmpty then s1.fput (F.ARRAY_PMAP_STATE p) 5
    else s1.moveTile (s.fget (F.ARRAY_PMAP_LOGICAL p)) p 3 s.siNow
  | _ => s

/-- The results of the BIST: bad spares leave the free set first, then tiles with bad cells are replaced, then those with a bad Carrel
(R220). -/
def State.takeBist (s : State) (bad : List (Nat × Bool)) : State :=
  let b := bad.filter (fun e => decide (e.1 < 400))
  let s1 := s.forEach (b.filter (fun e => s.freeSpare e.1)) (fun u e => u.bistBad e.1 e.2)
  let s2 := s1.forEach (b.filter (fun e => !s.freeSpare e.1 && !e.2)) (fun u e => u.bistBad e.1 false)
  s2.forEach (b.filter (fun e => !s.freeSpare e.1 && e.2)) (fun u e => u.bistBad e.1 true)

/-- Step 10 ends: the firmware image is copied into the device region unless it came from there (R659). -/
def State.keepImage (s : State) : State :=
  if s.boot.image = some 3 then s else s.arcPut deviceRegion s.sramImage

/-- Step 13 ends (R619). -/
def State.leaveStep13 (s : State) : State := (s.warnIf (!s.hasAddr) 4).atStep 14

/-- Step 14: the store slot that the boot block names is loaded and verified; a failure, of the load too, leaves the reference
Catalogue with FALLBACK; `ok` says that the store could be read (R350, R353, R611). -/
def State.verifyBoot (s : State) (ok : Bool) : State :=
  let k := s.bootBlk.catSlot
  if k ≠ 1 ∧ k ≠ 2 then s
  else
    let at' := catSlotAt (k - 1)
    let len := leNat (s.storeBytes (at' + 8) 4)
    let s1 := if !ok then s.loadFails 0x30
      else if len = 0 ∨ imgMax < len then s.loadFails 0x03
      else (s.catMod (fun c => { c with shadow := s.storeBytes at' len, shadowSrc := k })).judgeShadow
    if s1.shadowSt = 4 then s1
    else ((s1.fput F.CAT_STATUS_FALLBACK 1).raise F.CAT_EVENT_FALLBACK).warn 5

/-- START_STEP_DONE: the step in progress has taken `us` µs and its hardware is done; `ok` is what steps 1 to 3 report of rails, PLLs and
fuses, and step 14 of its read of the store, `bad` the tiles that the BIST of step 9 found bad, with true where only the Carrel is. A step whose condition does not hold
yet goes on (R614 to R616). -/
def execStartStepDone (us : Nat) (ok : Bool) (bad : List (Nat × Bool)) (s : State) : Host.Outcome State Fault Refusal :=
  .next (if !s.inStep s.bootStep then s
    else
      let t := s.wrN (R.BOOT_STEP_TIME s.bootStep) (satN 28 us)
      match s.bootStep with
      | 1 => if ok then (t.railsUp false).atStep 2 else t.railsFail 0x01
      | 2 => if !ok then t.railsFail 0x02
        else (if s.warmStart then t else { t with time := { t.time with now := 0 } }).enterStep3
      | 3 => if ok then t.loadFuses.enterStep4 else t.bootFails 0x03
      | 4 => if s.activeCur.isSome then t.atStep 5 else s
      | 5 =>
        if s.boot.sel = 3 then t
        else (t.fput (if s.activeCur = some 1 then F.MATRIX_CTRL_REMAP_B else F.MATRIX_CTRL_REMAP_A) 1).enterStep6
      | 6 => t.trySource
      | 7 =>
        if s.phase = 5 then t.enterStep8
        else if s.phase = 4 ∧ s.hbm.done.length = 64 then t.bootFails 0x08 else s
      | 8 => t.enterStep9
      | 9 => (t.takeBist bad).afterBist.enterStep10
      | 10 => if s.hbm.initScrub then s else t.keepImage.enterStep11
      | 11 => if (List.range 4).any (fun n => s.qualified n) then t.enterStep12 else s
      | 12 => if s.time.stepped then t.enterStep13 else s
      | 13 => if (if s.isHead then s.fbit F.CHAIN_STATUS_SWEEP else !s.hasAddr) then s else t.leaveStep13
      | 14 => (t.verifyBoot ok).atStep 15
      | _ => t.bootEnds)

/-- BOOT_ROM_SELFTEST: the boot ROM's self-test of Curator `c` ends in step 4. The lease passes to the first Curator that passes; Curator A,
failing, is held and Curator B boots in its place (R507, R617). -/
def execBootRomSelftest (c : Fin 2) (pass : Bool) (s : State) : Host.Outcome State Fault Refusal :=
  .next (if !s.inStep 4 || s.role c.val != 1 || s.activeCur.isSome then s
    else if pass then
      let s1 := s.giveLease c.val
      if c.val = 0 then s1.enterBoot 1 false else (s1.fput F.BOOT_STATUS_CURATOR 1).warn 0
    else
      let s1 := (s.enterHeld c.val false).bootMod (fun b => { b with romFail := b.romFail ++ [c.val] })
      if c.val = 0 then s1.enterBoot 1 false else s1.bootFails 0x04)

/-- RAIL_TIMEOUT: a level of the power record has not reached power-good within 10 ms (R616, R621). -/
def execRailTimeout (s : State) : Host.Outcome State Fault Refusal :=
  .next (if s.inStep 1 then s.railsFail 0x01 else s)

/-- START_RETRY: 100 ms after a first failure of step 1 or 2 the start runs once more from step 1, as a cold one since nothing kept its
supply (R616). -/
def execStartRetry (s : State) : Host.Outcome State Fault Refusal :=
  .next (if s.boot.off && s.boot.failed != 0 && !s.boot.retried && s.power.tripped.isNone then
      let s1 := s.bootMod (fun b => { b with off := false, failed := 0, retried := true, begun := true })
      (((s1.wr R.BOOT_STATUS 0#32).takeRole.takeBoot).railsUp true).atStep 1
    else s)

/-- REF_WAIT_TIMEOUT: steps 11 and 12 have waited REF_WAIT seconds; the start goes on with the warning of the step in progress (R615). -/
def execRefWaitTimeout (s : State) : Host.Outcome State Fault Refusal :=
  .next (if s.inStep 11 then (s.warn 2).enterStep13 else if s.inStep 12 then (s.warn 3).enterStep13 else s)

/-- HOST_WAIT_TIMEOUT: HOST_WAIT has expired. Step 6 fails where it awaits the host; a load offered after a failure ends (R616, R658). -/
def execHostWaitTimeout (s : State) : Host.Outcome State Fault Refusal :=
  .next (if s.fwState ≠ 1 then s
    else
      let s1 := s.fput F.HOSTIF_FW_STATUS_STATE 0
      if s.inStep 6 then s1.bootFails 0x07 else s1)

/-- CHAIN_ENUM_WAIT_TIMEOUT: a member has waited 1 s at step 13 and ends it without an address (R388, R619). -/
def execChainEnumWaitTimeout (s : State) : Host.Outcome State Fault Refusal :=
  .next (if s.inStep 13 && !s.isHead then s.leaveStep13 else s)

end Sys2Proof.Machine
end

