-- ==== Sys2Proof/Machine/Branch.lean ====
section
/-!
DEFINITION. Machine/Branch.lean: branches, jumps and the address operations of Mace (R542, R545, R554).
-/
namespace Sys2Proof.Machine

/-- A B-format branch on a condition of two registers (R542, R545). -/
def State.branchOp (s : State) (pr : Proc) (f : Word → Word → Bool) (rs1 rs2 : Fin 32) (disp : BitVec 16) : State :=
  s.instr pr (fun u => if f (u.getG pr rs1) (u.getG pr rs2) then u.jump pr (u.branchTo pr disp) else u.advance pr)

/-- BEQ: branches on equal (R545). -/
def execBeq (p : Proc) (rs1 rs2 : Fin 32) (disp : BitVec 16) (s : State) : Host.Outcome State Fault Refusal :=
  .next (s.branchOp p (fun a b => a == b) rs1 rs2 disp)

/-- BNE: branches on not equal (R545). -/
def execBne (p : Proc) (rs1 rs2 : Fin 32) (disp : BitVec 16) (s : State) : Host.Outcome State Fault Refusal :=
  .next (s.branchOp p (fun a b => a != b) rs1 rs2 disp)

/-- BLT: branches on signed less than (R545). -/
def execBlt (p : Proc) (rs1 rs2 : Fin 32) (disp : BitVec 16) (s : State) : Host.Outcome State Fault Refusal :=
  .next (s.branchOp p (fun a b => a.slt b) rs1 rs2 disp)

/-- BGE: branches on signed greater or equal (R545). -/
def execBge (p : Proc) (rs1 rs2 : Fin 32) (disp : BitVec 16) (s : State) : Host.Outcome State Fault Refusal :=
  .next (s.branchOp p (fun a b => !a.slt b) rs1 rs2 disp)

/-- BLTU: branches on unsigned less than (R545). -/
def execBltu (p : Proc) (rs1 rs2 : Fin 32) (disp : BitVec 16) (s : State) : Host.Outcome State Fault Refusal :=
  .next (s.branchOp p (fun a b => a.ult b) rs1 rs2 disp)

/-- BGEU: branches on unsigned greater or equal (R545). -/
def execBgeu (p : Proc) (rs1 rs2 : Fin 32) (disp : BitVec 16) (s : State) : Host.Outcome State Fault Refusal :=
  .next (s.branchOp p (fun a b => !a.ult b) rs1 rs2 disp)

/-- J: jumps by a displacement (R545). -/
def execJ (p : Proc) (disp : BitVec 26) (s : State) : Host.Outcome State Fault Refusal :=
  .next (s.instr p (fun u => u.jump p (u.jumpTo p disp)))

/-- JAL: jumps and writes the return address to g31 (R545). -/
def execJal (p : Proc) (disp : BitVec 26) (s : State) : Host.Outcome State Fault Refusal :=
  .next (s.instr p (fun u => (u.setG p 31 ((u.mp (ix p)).pc + 4#32)).jump p (u.jumpTo p disp)))

/-- JR: jumps to the address in rs1 (R545). -/
def execJr (p : Proc) (rs1 : Fin 32) (s : State) : Host.Outcome State Fault Refusal :=
  .next (s.instr p (fun u => u.jump p (u.getG p rs1)))

/-- JALR: jumps to the address in rs1 and writes the return address to rd (R545). -/
def execJalr (p : Proc) (rd rs1 : Fin 32) (s : State) : Host.Outcome State Fault Refusal :=
  .next (s.instr p (fun u => (u.setG p rd ((u.mp (ix p)).pc + 4#32)).jump p (u.getG p rs1)))

/-! ### Address and modifier registers -/

/-- SETA: a_i takes {rs2[7:0], rs1} (R545). -/
def execSeta (p : Proc) (i : Fin 8) (rs1 rs2 : Fin 32) (s : State) : Host.Outcome State Fault Refusal :=
  .next (s.instr p (fun u => (u.setA p i.val (((u.getG p rs2).setWidth 8).append (u.getG p rs1))).advance p))

/-- GETA: bits [31:0] of a_i (R545). -/
def execGeta (p : Proc) (rd : Fin 32) (i : Fin 8) (s : State) : Host.Outcome State Fault Refusal :=
  .next (s.instr p (fun u => (u.setG p rd ((u.getA p i.val).setWidth 32)).advance p))

/-- GETAH: bits [39:32] of a_i (R545). -/
def execGetah (p : Proc) (rd : Fin 32) (i : Fin 8) (s : State) : Host.Outcome State Fault Refusal :=
  .next (s.instr p (fun u => (u.setG p rd (((u.getA p i.val) >>> 32).setWidth 32)).advance p))

/-- SETM: m_i takes rs1 (R545). -/
def execSetm (p : Proc) (i : Fin 8) (rs1 : Fin 32) (s : State) : Host.Outcome State Fault Refusal :=
  .next (s.instr p (fun u => (u.setM p i.val (u.getG p rs1)).advance p))

/-- GETM: m_i (R545). -/
def execGetm (p : Proc) (rd : Fin 32) (i : Fin 8) (s : State) : Host.Outcome State Fault Refusal :=
  .next (s.instr p (fun u => (u.setG p rd (u.getM p i.val)).advance p))

/-- ADDA: a_i grows by rs1, sign-extended, modulo 2^40 (R540, R545). -/
def execAdda (p : Proc) (i : Fin 8) (rs1 : Fin 32) (s : State) : Host.Outcome State Fault Refusal :=
  .next (s.instr p (fun u => (u.setA p i.val (addA (u.getA p i.val) (u.getG p rs1))).advance p))

end Sys2Proof.Machine
end

