-- ==== Sys2Proof/Machine/Matrix.lean ====
section
/-!
DEFINITION. Machine/Matrix.lean: transactions of the matrix from their presentation to their response: legality, QoS values, the Saffron
budget, ordering, the response buffers, timeouts, the accesses of its targets, and the requests of the PCIe endpoint (R450 to R472, R564,
R565, R645, R646, R649).
-/
namespace Sys2Proof.Machine

/-! ### Order and room -/

/-- The port of a transaction, 6 for the default target. -/
def Txn.port (t : Txn) : Nat := (targetOf t.tgt).port.getD 6

/-- How many bytes a transaction covers. -/
def Txn.size (t : Txn) : Nat := t.data.length

/-- Whether two transactions are kept in order (R466). -/
def sameGroup (t u : Txn) : Bool := t.m == u.m && t.id == u.id && decide (t.qos = 15) == decide (u.qos = 15)

/-- What holds transaction `t` behind the unanswered ones `done`: 1 order, 2 room in the response buffer, 0 nothing (R467, R468). -/
def holdOf (done : List Txn) (t : Txn) : Nat :=
  let open' := done.filter (fun u => !u.late)
  if open'.any (fun u => sameGroup t u && (u.port != t.port || u.hold != 0)) then 1
  else if !t.wr && decide (4096 < ((open'.filter (fun u => u.m == t.m && !u.wr && u.hold == 0)).map Txn.size).sum + t.size) then 2
  else 0

/-- Brings a transaction to its target if nothing holds it, counting each hold once. -/
def State.place (s : State) (done : List Txn) (t : Txn) : State × Txn :=
  let h := holdOf done t
  if h = 0 then
    (let r := s.portTake t.port (beatsOf t.addr t.size) t.qos
     if t.port = 6 then (s, { t with hold := 0 }) else (r.1, { t with hold := 0, qos := r.2 }))
  else
    (s.doIf (h != t.hold && h == 1) (fun u => u.count R.MATRIX_HOLD_ORDER) |>.doIf (h != t.hold && h == 2) (fun u => u.count R.MATRIX_HOLD_CYCLE),
      { t with hold := h })

/-- Brings every held transaction that nothing holds any more to its target, oldest first. -/
def State.placeAll (s : State) : List Txn → List Txn → State × List Txn
  | done, [] => (s, done)
  | done, t :: rest =>
    if t.hold = 0 then s.placeAll (done ++ [t]) rest
    else
      let r := s.place done t
      r.1.placeAll (done ++ [r.2]) rest

/-- Looks at the held transactions again. -/
def State.release (s : State) : State :=
  let r := s.placeAll [] s.matrix.txns
  r.1.matMod (fun x => { x with txns := r.2 })

/-! ### Presentation -/

/-- Answers a PCIe request: status 0 a successful completion, 1 UR, 4 CA; a posted write has no completion, and an error of it is an
advisory one (R646). -/
def State.answerHost (s : State) (tag : Nat) (wr : Bool) (status : Nat) (bs : List Byte) : State :=
  let s1 := if status = 0 then s else (s.count R.HOSTIF_INBOUND_ERR).raise F.HOSTIF_EVENT_INBOUND_ERR
  if wr then (if status = 0 then s1 else s1.emit (.aer status)) else s1.emit (.completion tag status bs)

/-- The error of one peripheral access, as MATRIX.ERR_INFO codes it; 0 one of the target's own (R459, R564, R565, R606). -/
def State.wordErr (s : State) (off : Nat) (wr : Bool) : Option Nat :=
  if s.mode = 0 ∧ !asleepOk off then some 0
  else match cloveSpace off with
    | some (e, loc) =>
      if loc < 0x60000 then (if s.cloveRefused e loc wr then some 0 else none)
      else if loc < 0x7F000 then some 1
      else if (regRow off).isNone then some 1 else none
    | none => if (regRow off).isNone && !(decide (0x1B0000 ≤ off) && decide (off < 0x1C0000)) then some 1 else none

/-- Whether an error response to an access is one that R646 reports as UR. -/
def State.urAt (s : State) (tgt n : Nat) (wr : Bool) : Bool :=
  match targetOf tgt with
  | .none' => true
  | .archive off => decide (archiveEnd < off + n)
  | .bridge off =>
    !(wr && (off % 4 != 0 || n % 4 != 0))
      && (((List.range (ceilDiv (off % 4 + n) 4)).filterMap (fun k => s.wordErr (off / 4 * 4 + 4 * k) wr)).head? == some 1)
  | _ => false

/-- Answers a transaction to the master that made it. -/
def State.answer (s : State) (t : Txn) (ok ur : Bool) (bs : List Byte) : State :=
  match t.pcie with
  | some tag => s.answerHost tag t.wr (if ok then 0 else if ur then 1 else 4) bs
  | none => if t.m = 20 then s else s.emit (.response t.m t.id (!ok) bs)

/-- A master presents a transaction (R451, R461 to R463, R466 to R468). -/
def State.present (s : State) (t : Txn) : State :=
  let n := t.size
  let q := s.capQos t.m t.qos
  if n = 0 ∨ 4096 < n ∨ 4096 < t.addr % 4096 + n then
    (s.busErr ⟨t.m, t.id, q⟩ t.wr t.addr 1).answer t false true (List.replicate (if t.wr then 0 else n) 0#8)
  else
    let tgt := (s.window0 t.m t.addr).getD t.addr
    let long := decide (q = 15) && decide (64 < n)
    let t1 := { t with tgt := tgt, qos := if long then 14 else q }
    let s1 := s.doIf (long && t1.port != 6) (fun u => u.noteOver t1.port)
    let r := s1.place s1.matrix.txns t1
    r.1.matMod (fun x => { x with txns := x.txns ++ [r.2] })

/-- MATRIX_TRANSACTION: master `m` presents a transaction: `data` holds a write's enabled bytes, of a read one entry per byte (R451). -/
def execMatrixTransaction (m : Fin 20) (id : Fin 32) (qos : BitVec 4) (hint wr : Bool) (addr : BitVec 40) (data : List (Option Byte))
    (s : State) : Host.Outcome State Fault Refusal :=
  .next (s.present
    { m := m.val, id := id.val, qos := qos.toNat, hint := hint, wr := wr, addr := addr.toNat, tgt := addr.toNat, data := data })

/-! ### Response -/

/-- Carries out a transaction at its target: the state, the bytes of a read, and whether the response is no error. -/
def State.carryOut (s : State) (t : Txn) : State × List Byte × Bool :=
  let b : By := ⟨t.m, t.id, t.qos⟩
  if t.wr then
    let r := s.busWrite busRegs b t.addr t.tgt t.data
    (r.1, [], r.2)
  else s.busRead busRegs b t.addr t.tgt t.size

/-- How many masters after the one last served `m` comes at a port (R464). -/
def turnOf (last m : Nat) : Nat := (m + 21 - last) % 21

/-- Whether a port serves `t` before `u`, which was presented earlier (R464). -/
def servesBefore (last : Nat) (t u : Txn) : Bool :=
  let cls := fun (x : Txn) => if x.qos = 15 then 0 else if x.promoted then 1 else if 8 ≤ x.qos then 2 else if 4 ≤ x.qos then 3 else 4
  if cls t ≠ cls u then decide (cls t < cls u)
  else if cls t = 1 then false
  else if t.qos ≠ u.qos then decide (u.qos < t.qos)
  else decide (turnOf last t.m < turnOf last u.m)

/-- Whether the `k`-th transaction is the first unanswered one of its ordering group (R466). -/
def firstOfGroup (ts : List Txn) (k : Nat) : Bool :=
  match ts[k]? with
  | some t => !(ts.take k).any (fun u => !u.late && sameGroup t u)
  | none => false

/-- The transactions that a port could serve now, by their places. -/
def State.servable (s : State) (p : Nat) : List (Nat × Txn) :=
  let ts := s.matrix.txns
  (List.range ts.length).filterMap (fun k => match ts[k]? with
    | some t => if t.port = p ∧ t.hold = 0 ∧ !t.late ∧ firstOfGroup ts k then some (k, t) else none
    | none => none)

/-- The place of the transaction that port `p` serves next (R464). -/
def State.nextServed (s : State) (p : Nat) : Option Nat :=
  ((s.servable p).foldl (fun best e => match best with
    | none => some e
    | some w => if servesBefore (tget 0 s.matrix.last p) e.2 w.2 then some e else some w) none).map Prod.fst

/-- Whether the `k`-th transaction may be answered now: a late one always; at the Archive and the default target the first of its group;
elsewhere the one that the port serves next; none at the Archive while its requests are held (R419, R445, R450, R464, R466). -/
def State.mayAnswer (s : State) (k : Nat) (t : Txn) : Bool :=
  (t.port != 3 || s.hbm.hold == 0) && (t.late || (t.hold == 0 && firstOfGroup s.matrix.txns k && (t.port == 3 || t.port == 6 || s.nextServed t.port == some k)))

/-- MATRIX_RESPONSE: the target of the `k`-th transaction carries it out and answers; a late response is discarded (R464, R466 to R471). -/
def execMatrixResponse (k : Nat) (s : State) : Host.Outcome State Fault Refusal :=
  .next (match s.matrix.txns[k]? with
    | none => s
    | some t =>
      if !s.mayAnswer k t then s
      else
        let s1 := s.matMod (fun x => { x with txns := x.txns.eraseIdx k, last := tset 0 x.last t.port (t.m + 1) })
        let r := s1.carryOut t
        if t.late then ((r.1.count R.MATRIX_LATE_RESP).raise F.MATRIX_EVENT_LATE_RESP)
        else ((r.1.answer t r.2.2 (s1.urAt t.tgt t.size t.wr) r.2.1).release).wakeMaster t.m)

/-- TIMEOUT: the `k`-th transaction has not been answered within MATRIX.TIMEOUT; the timer does not run at the Archive while requests are
held (R471). -/
def execTimeout (k : Nat) (s : State) : Host.Outcome State Fault Refusal :=
  .next (match s.matrix.txns[k]? with
    | none => s
    | some t =>
      if t.late || t.hold != 0 || s.rdN R.MATRIX_TIMEOUT % 2 ^ 24 == 0 || (t.port == 3 && s.fbit F.HBMC_STATUS_HELD) then s
      else
        let s1 := (s.busErr ⟨t.m, t.id, t.qos⟩ t.wr t.addr 2).count R.MATRIX_TIMEOUTS
        let s2 := s1.matMod (fun x => { x with txns := x.txns.set k { t with late := true } })
        ((s2.answer t false false (List.replicate (if t.wr then 0 else t.size) 0#8)).release).wakeMaster t.m)

/-- MATRIX_AGE_PROMOTE: the `k`-th transaction has waited MATRIX.AGE_LIMIT cycles at its port (R464). -/
def execMatrixAgePromote (k : Nat) (s : State) : Host.Outcome State Fault Refusal :=
  .next (match s.matrix.txns[k]? with
    | none => s
    | some t =>
      if t.late || t.hold != 0 || t.promoted || t.qos == 15 then s
      else (s.matMod (fun x => { x with txns := x.txns.set k { t with promoted := true } })).count R.MATRIX_AGE_PROMOTED)

/-- SAFFRON_WINDOW: a window of 1,024 cycles ends at every port (R465, R474). -/
def execSaffronWindow (s : State) : Host.Outcome State Fault Refusal :=
  .next ((s.fput F.MATRIX_STATUS_OVER s.matrix.over').matMod (fun x => { x with saffron := [], over' := 0 }))

/-! ### Accesses of single targets -/

/-- An access by a master that is carried out and answered at once. -/
def State.accessNow (s : State) (t : Txn) : State :=
  let b := s.served ⟨t.m, t.id, t.qos⟩ t.addr t.size
  let u := { t with qos := b.2.qos }
  if t.size = 0 ∨ 4096 < t.addr % 4096 + t.size then
    (s.busErr ⟨t.m, t.id, s.capQos t.m t.qos⟩ t.wr t.addr 1).answer t false true (List.replicate (if t.wr then 0 else t.size) 0#8)
  else
    let r := b.1.carryOut u
    r.1.answer u r.2.2 (b.1.urAt t.tgt t.size t.wr) r.2.1

/-- CARREL_WINDOW_ACCESS: an access to offset `off` of window `j` (R456, R458). -/
def execCarrelWindowAccess (m : Fin 20) (id : Fin 32) (qos : BitVec 4) (j : Fin 400) (off : Fin 0x40000) (wr : Bool) (data : List (Option Byte))
    (s : State) : Host.Outcome State Fault Refusal :=
  let a := 0x400000000 + 0x40000 * j.val + off.val
  .next (s.accessNow { m := m.val, id := id.val, qos := qos.toNat, hint := false, wr := wr, addr := a, tgt := a, data := data })

/-- ALIAS_WRITE: a write at offset `off` of the alias of set `k` (R457). -/
def execAliasWrite (m : Fin 20) (id : Fin 32) (qos : BitVec 4) (k : Fin 32) (off : Fin 0x40000) (data : List (Option Byte)) (s : State) :
    Host.Outcome State Fault Refusal :=
  let a := 0x410000000 + 0x40000 * k.val + off.val
  .next (s.accessNow { m := m.val, id := id.val, qos := qos.toNat, hint := false, wr := true, addr := a, tgt := a, data := data })

/-- REGISTER_BRIDGE_ACCESS: an access at BAR0 offset `off` (R459). -/
def execRegisterBridgeAccess (m : Fin 20) (id : Fin 32) (qos : BitVec 4) (off : Fin 0x1000000) (wr : Bool) (data : List (Option Byte))
    (s : State) : Host.Outcome State Fault Refusal :=
  let a := 0x2000000 + off.val
  .next (s.accessNow { m := m.val, id := id.val, qos := qos.toNat, hint := false, wr := wr, addr := a, tgt := a, data := data })

/-- CLOVE_OUTSIDE_ACCESS: an access from outside to local address `loc` of engine `e`; `parity` says that a read finds a parity error
(R564, R565). -/
def execCloveOutsideAccess (m : Fin 20) (id : Fin 32) (qos : BitVec 4) (e : Fin 16) (loc : Fin 0x60000) (wr parity : Bool)
    (data : List (Option Byte)) (s : State) : Host.Outcome State Fault Refusal :=
  let a := 0x2800000 + 0x80000 * e.val + loc.val
  let t : Txn := { m := m.val, id := id.val, qos := qos.toNat, hint := false, wr := wr, addr := a, tgt := a, data := data }
  .next (if parity && !wr && s.mode != 0 then
      ((s.busErr ⟨m.val, id.val, qos.toNat⟩ false a 0).count (R.CLOVE_PARITY e.val)).answer t false false (List.replicate t.size 0#8)
    else s.accessNow t)

/-! ### Requests of the host -/

/-- PCIE_INBOUND_REQUEST: a memory request of the host at an offset of BAR0 or BAR2 with a tag (R644 to R646, R649). Outside D0, or with
the memory space not enabled, it is answered with UR. -/
def execPcieInboundRequest (bar2 : Bool) (off : BitVec 36) (wr relaxed : Bool) (tag : BitVec 10) (data : List (Option Byte)) (s : State) :
    Host.Outcome State Fault Refusal :=
  let a := if bar2 then archiveBase + off.toNat else 0x2000000 + off.toNat
  let id := if bar2 && relaxed && !wr then s.host.rot % 15 + 1 else 0
  let s1 := if id = 0 then s else { s with host := { s.host with rot := id } }
  .next (if !s.fbit F.HOSTIF_STATUS_LINK_UP || s.boot.off || s.host.cold || data.isEmpty then s
    else if s.fget F.HOSTIF_STATUS_DSTATE ≠ 0 ∨ !s.fbit F.HOSTIF_STATUS_MSE ∨ (!bar2 ∧ 2 ^ 24 ≤ off.toNat) then
      (if wr then s.emit (.aer 1) else s.emit (.completion tag.toNat 1 []))
    else s1.present
      { m := 20, id := id, qos := 0, hint := s.fbit (F.MATRIX_MASTER_CFG_KEEP_OPEN 20), wr := wr, addr := a, tgt := a, data := data,
        pcie := some tag.toNat })

end Sys2Proof.Machine
end

