-- ==== Sys2Proof/Machine/DmaRun.lean ====
section
/-!
DEFINITION. Machine/DmaRun.lean: the run of a descriptor: its fetch and checks, the three loops, the reads and writes of the two engines,
the buffer, the fence and errors (R476 to R479, R481 to R483, R485 to R490, R492 to R497, R647).
-/
namespace Sys2Proof.Machine

/-! ### Descriptors -/

/-- A loop count: 0 encodes the largest (R481). -/
def loopCount (n top : Nat) : Nat := if n = 0 then top else n

/-- The descriptor that 32 bytes at `place` spell (R481). -/
def dmaDesc (place : Nat) (b : List Byte) : DmaDesc :=
  let w := imgN b 28 4
  { place := place, ctl := imgN b 0 1, src := imgN b 4 4 + 2 ^ 32 * imgN b 2 1, dst := imgN b 8 4 + 2 ^ 32 * imgN b 3 1, len := imgN b 12 3,
    step1 := toSigned 32 (imgN b 16 4), step2 := toSigned 32 (imgN b 20 4), step3 := toSigned 32 (imgN b 24 4),
    cnt1 := loopCount (w % 4096) 4096, cnt2 := loopCount (w / 4096 % 4096) 4096, cnt3 := loopCount (w / 2 ^ 24) 256 }

/-- FENCE, IRQ and SCATTER of a descriptor (R482). -/
def DmaDesc.fence (d : DmaDesc) : Bool := bitOf d.ctl 6
def DmaDesc.irq (d : DmaDesc) : Bool := bitOf d.ctl 5
def DmaDesc.scatter (d : DmaDesc) : Bool := bitOf d.ctl 4

/-- The bytes that a descriptor moves (R485). -/
def DmaDesc.total (d : DmaDesc) : Nat := d.len * d.cnt1 * d.cnt2 * d.cnt3

/-- The looped address of the byte that comes `o`-th in loop order, from `base` (R485). -/
def DmaDesc.looped (d : DmaDesc) (base o : Nat) : Nat :=
  let e := o / d.len
  let k1 : Int := (e % d.cnt1 : Nat)
  let k2 : Int := (e / d.cnt1 % d.cnt2 : Nat)
  let k3 : Int := (e / (d.cnt1 * d.cnt2) : Nat)
  ((base : Int) + k3 * d.step3 + k2 * d.step2 + k1 * d.step1 + (o % d.len : Nat)).toNat

/-- Where the `o`-th byte is read and where it is written (R485). -/
def DmaDesc.srcAt (d : DmaDesc) (o : Nat) : Nat := if d.scatter then d.src + o else d.looped d.src o
def DmaDesc.dstAt (d : DmaDesc) (o : Nat) : Nat := if d.scatter then d.looped d.dst o else d.dst + o

/-- The hull of the looped side from `base`, exactly (R487). -/
def DmaDesc.loopHull (d : DmaDesc) (base : Nat) : Int × Int :=
  let spans : List Int := [((d.cnt1 : Int) - 1) * d.step1, ((d.cnt2 : Int) - 1) * d.step2, ((d.cnt3 : Int) - 1) * d.step3]
  ((base : Int) + (spans.map (min 0)).sum, (base : Int) + (spans.map (max 0)).sum + d.len)

/-- The hulls of source and destination (R487). -/
def DmaDesc.srcHull (d : DmaDesc) : Int × Int := if d.scatter then (d.src, d.src + d.total) else d.loopHull d.src
def DmaDesc.dstHull (d : DmaDesc) : Int × Int := if d.scatter then d.loopHull d.dst else (d.dst, d.dst + d.total)

/-- Whether a base, the steps and the length are multiples of 4 (R488). -/
def DmaDesc.words (d : DmaDesc) (base : Nat) : Bool :=
  base % 4 == 0 && d.len % 4 == 0 && d.step1 % 4 == 0 && d.step2 % 4 == 0 && d.step3 % 4 == 0

/-- The code of the first check that a descriptor fails, 0 where it passes (R487, R488). -/
def State.dmaCheck (s : State) (d : DmaDesc) : Nat :=
  let a := d.srcHull
  let b := d.dstHull
  let out := fun (h : Int × Int) => decide (h.1 < 0) || decide (2 ^ 40 < h.2)
  if d.len = 0 then 1
  else if out a || out b then 6
  else match s.dmaRegion a.1.toNat, s.dmaRegion b.1.toNat with
    | some ra, some rb =>
      if ra.2 < a.2.toNat ∨ rb.2 < b.2.toNat then 3
      else if !s.dmaAllowed a.1.toNat a.2.toNat false (d.words d.src) || !s.dmaAllowed b.1.toNat b.2.toNat true (d.words d.dst) then 4
      else if a.1 < b.2 ∧ b.1 < a.2 then 5
      else 0
    | _, _ => 2

/-! ### Errors and the end of a descriptor -/

/-- A descriptor completes: counted, DONE raised with IRQ, and its writeback due (R493, R494). -/
def State.dmaComplete (s : State) (n : Nat) : State :=
  match (s.ch n).desc with
  | none => s
  | some d =>
    let s1 := ((s.count (R.DMA_CH_DESCS n)).raiseIf d.irq (F.DMA_CH_EVENT_DONE n)).chMod' n (fun c => { c with complete := true })
    (s1.setCh n 5).settle n

/-- An error response to a beat of channel `n`: the first is recorded, each is counted; with ON_ERR = 0 the channel issues no more
(R495 to R497). -/
def State.dmaFail (s : State) (n code beat addr : Nat) : State :=
  let c := s.ch n
  match c.desc with
  | none => s.count (R.DMA_CH_ERRS n)
  | some d =>
    let s1 := (s.count (R.DMA_CH_ERRS n)).raise (F.DMA_CH_EVENT_ERR n)
    let s2 := if c.err.isSome then s1
      else (s1.chMod' n (fun x => { x with err := some (code, decide (d.total ≤ c.wr), beat) })).wr64 (R.DMA_CH_ERR_ADDR_LO n)
        (R.DMA_CH_ERR_ADDR_HI n) addr
    if !s.fbit (F.DMA_CH_CFG_ON_ERR n) && (s.chState n == 3 || s.chState n == 4) then s2.setCh n 6 else s2

/-- In FENCE with every response in: the read behind posted host writes, or completion (R494). -/
def State.fenceCheck (s : State) (n : Nat) : State :=
  let c := s.ch n
  match c.desc with
  | none => s
  | some d =>
    let a := d.dstAt (d.total - 1) / 4 * 4
    if s.chState n ≠ 4 ∨ !c.writes.isEmpty ∨ c.fenceRead then s
    else if hostWin ≤ a then (s.emit (.hostRead (s.hostAddr a) 4)).chMod' n (fun x => { x with fenceRead := true })
    else s.dmaComplete n

/-! ### The write engine -/

/-- How many bytes from the `o`-th on are contiguous under `f`, at most the fuel. -/
def runFrom (f : Nat → Nat) (o : Nat) : Nat → Nat → Nat
  | k, 0 => k
  | k, fuel + 1 => if f (o + k) = f o + k then runFrom f o (k + 1) fuel else k

/-- The bytes of the transaction that begins with the `o`-th byte and ends before the `lim`-th (R486). -/
def chunk (f : Nat → Nat) (o lim : Nat) : Nat := runFrom f o 0 (min (512 - f o % 512) (lim - o))

/-- Transactions in flight of each engine (R476). -/
def State.readsOut (s : State) : Nat := (s.dma.chs.map (fun e => e.2.reads.length)).sum
def State.writesOut (s : State) : Nat := (s.dma.chs.map (fun e => e.2.writes.length + e.2.orphans.length)).sum

/-- Whether the pacing of channel `n` permits a burst of `b` beats at an engine where it has `tokens`; a SHARE of 0 is no limit (R490). -/
def State.paced (s : State) (n tokens b : Nat) : Bool := s.fget (F.DMA_CH_CFG_SHARE n) == 0 || decide (256 * b ≤ tokens)

/-- The channel that an engine serves of those that are ready: the highest priority, then in turn from the one after `last` (R477). -/
def State.arbitrate (s : State) (last : Nat) (ready : Nat → Bool) : Option Nat :=
  (((List.range 32).map (fun k => (last + 1 + k) % 32)).filter ready).foldl (fun best n => match best with
    | none => some n
    | some m => if s.fget (F.DMA_CH_CFG_PRIO m) < s.fget (F.DMA_CH_CFG_PRIO n) then some n else some m) none

/-- What channel `n` could write now, in bytes and beats: its bytes have come and its pacing permits the burst; a channel that stops
writes what it has read (R477, R478, R486, R490). -/
def State.nextWrite (s : State) (n : Nat) : Option (Nat × Nat) :=
  let c := s.ch n
  match c.desc with
  | none => none
  | some d =>
    if s.chState n ≠ 3 ∧ s.chState n ≠ 6 then none
    else
      let lim := if s.chState n = 6 then c.rd else d.total
      let k := chunk d.dstAt c.wr lim
      let b := beatsOf (d.dstAt c.wr) k
      if lim ≤ c.wr ∨ c.buf.length < k ∨ k = 0 ∨ !s.paced n c.wtokens b then none else some (k, b)

/-- The write engine issues a write of `k` bytes in `b` beats of channel `n` (R478, R486, R490). -/
def State.issueWrite (s : State) (n k b : Nat) : State :=
  let c := s.ch n
  match c.desc with
  | none => s
  | some d =>
    let units := c.bytes + k
    (((s.countBy (R.DMA_CH_BYTES n) (units / 1024)).chMod' n (fun x => { x with
      writes := x.writes ++ [(d.dstAt x.wr, x.buf.take k)], buf := x.buf.drop k, wr := x.wr + k, bytes := units % 1024,
      wtokens := x.wtokens - 256 * b, slots := x.slots.filter (fun e => decide (c.wr + k < e.1)) })).dmaMod (fun x =>
        { x with lastW := n })).showBuf

/-- What follows once writes have been issued: the last one leaves (R493, R494, R498). -/
def State.afterWrites (s : State) (n : Nat) : State :=
  let c := s.ch n
  match c.desc with
  | none => s
  | some d =>
    if s.chState n = 3 ∧ d.total ≤ c.wr then (if d.fence then s.setCh n 4 else s.dmaComplete n) else s.settle n

/-- The write engine serves the channels in turn until none is ready or 64 writes are in flight (R476, R477). -/
def State.serveWrites (s : State) : Nat → State
  | 0 => s
  | fuel + 1 =>
    if 64 ≤ s.writesOut then s
    else match s.arbitrate s.dma.lastW (fun n => (s.nextWrite n).isSome) with
      | none => s
      | some n => match s.nextWrite n with
        | none => s
        | some (k, b) => ((s.issueWrite n k b).afterWrites n).serveWrites fuel

/-- The write engine writes what it can: at most 64 writes are in flight (R476). -/
def State.pump (s : State) : State := s.serveWrites 64

/-! ### The read engine -/

/-- Reads are rounded outward to this many bytes (R486). -/
def roundTo (a : Nat) : Nat :=
  match targetOf a with
  | .bridge _ => 4
  | _ => 32

/-- The rounded extent of a read (R486). -/
def readSpan (a n : Nat) : Nat × Nat :=
  let g := roundTo a
  (a / g * g, ceilDiv (a + n) g * g)

/-- The 64-byte beats of [lo, hi): index, address, length. -/
def beats (lo hi : Nat) : List (Nat × Nat × Nat) :=
  (List.range (beatsOf lo (hi - lo))).map (fun k =>
    let b := max lo (lo / 64 * 64 + 64 * k)
    (k, b, min hi (lo / 64 * 64 + 64 * (k + 1)) - b))

/-- Carries out the beats of a read of [a, a + n): the bytes, with none for those of a beat in error, and the beats in error (R495). -/
def State.dmaRead (s : State) (n a len : Nat) (forced : Option Nat) : State × List (Option Byte) × List (Nat × Nat) :=
  let e := readSpan a len
  let b := s.served (s.dmaBy 18 n) e.1 (e.2 - e.1)
  let r := (beats e.1 e.2).foldl (fun (acc : State × List (Option Byte) × List (Nat × Nat)) x =>
    if forced = some x.1 then (acc.1.busErr b.2 false x.2.1 0, acc.2.1 ++ List.replicate x.2.2 none, acc.2.2 ++ [(x.1, x.2.1)])
    else
      let g := acc.1.readAt busRegs b.2 x.2.1 x.2.2
      if g.2.2 then (g.1, acc.2.1 ++ g.2.1.map some, acc.2.2) else (g.1, acc.2.1 ++ List.replicate x.2.2 none, acc.2.2 ++ [(x.1, x.2.1)]))
    (b.1, [], [])
  (r.1, (r.2.1.drop (a - e.1)).take len, r.2.2)

/-- The response to the oldest read of channel `n`: from the host window the endpoint's bytes, elsewhere those of the matrix. -/
def State.dmaReadBack (s : State) (n : Nat) (host : List Byte) (ok : Bool) (forced : Option Nat) : State :=
  let c := s.ch n
  match c.reads, c.desc with
  | (o, len) :: rest, some d =>
    let a := d.srcAt o
    let r := if hostWin ≤ a then
        (if ok && forced.isNone then (s, (((host ++ List.replicate 512 0#8).drop (a - (readSpan a len).1)).take len).map some, [])
         else (s, List.replicate len none, [(forced.getD 0, a)]))
      else s.dmaRead n a len forced
    let s1 := r.1.chMod' n (fun x => { x with reads := rest, buf := x.buf ++ r.2.1 })
    ((s1.forEach r.2.2 (fun u e => u.dmaFail n 7 e.1 e.2)).pump).settle n
  | _, _ =>
    if c.fenceRead then
      let s1 := s.chMod' n (fun x => { x with fenceRead := false })
      let s2 := s1.doIf (!ok || forced.isSome) (fun u => u.dmaFail n 7 (forced.getD 0) (match c.desc with
        | some d => d.dstAt (d.total - 1) / 4 * 4
        | none => 0))
      if s2.chState n = 4 then s2.dmaComplete n else s2.settle n
    else s

/-- Whether channel `n` holds a read of the host window. -/
def State.hostReading (s : State) (n : Nat) : Bool :=
  let c := s.ch n
  c.fenceRead || (match c.reads, c.desc with
    | (o, _) :: _, some d => decide (hostWin ≤ d.srcAt o)
    | _, _ => false)

/-- Carries out the beats of a write; the beats in error. -/
def State.dmaWrite (s : State) (n a : Nat) (bs : List (Option Byte)) (forced : Option Nat) : State × List (Nat × Nat) :=
  if hostWin ≤ a then
    let r := s.dmaPut busRegs n a bs (bs.any Option.isNone)
    if forced.isSome then (s, [(forced.getD 0, a)]) else (r.1, if r.2 then [] else [(0, a)])
  else
    let b := s.served (s.dmaBy 19 n) a bs.length
    (beats a (a + bs.length)).foldl (fun (acc : State × List (Nat × Nat)) x =>
      if forced = some x.1 then (acc.1.busErr b.2 true x.2.1 0, acc.2 ++ [(x.1, x.2.1)])
      else
        let w := acc.1.writeAt busRegs b.2 x.2.1 ((bs.drop (x.2.1 - a)).take x.2.2)
        (w.1, if w.2 then acc.2 else acc.2 ++ [(x.1, x.2.1)])) (b.1, [])

/-- The response to the oldest write of channel `n`; one of a descriptor whose fence has timed out is ignored (R494). -/
def State.dmaWritten (s : State) (n : Nat) (forced : Option Nat) : State :=
  let c := s.ch n
  match c.orphans with
  | (a, bs) :: rest => ((s.dmaWrite n a bs forced).1.chMod' n (fun x => { x with orphans := rest })).pump
  | [] =>
    match c.writes with
    | [] => s
    | (a, bs) :: rest =>
      let r := s.dmaWrite n a bs forced
      let s1 := r.1.chMod' n (fun x => { x with writes := rest })
      (((s1.forEach r.2 (fun u e => u.dmaFail n 8 e.1 e.2)).pump).fenceCheck n).settle n

/-! ### Arbitration -/

/-- What channel `n` would read next: its offset, length, beats and slots (R478, R486). -/
def State.nextRead (s : State) (n : Nat) : Option (Nat × Nat × Nat × Nat) :=
  let c := s.ch n
  match c.desc with
  | none => none
  | some d =>
    if d.total ≤ c.rd then none
    else
      let k := chunk d.srcAt c.rd d.total
      let e := readSpan (d.srcAt c.rd) k
      some (c.rd, k, beatsOf e.1 (e.2 - e.1), ceilDiv (e.2 - e.1) 64)

/-- Whether channel `n` may issue a burst (R477, R478, R490, R492). -/
def State.dmaReady (s : State) (n : Nat) : Bool :=
  let c := s.ch n
  let lim := loopCount (s.fget (F.DMA_CH_CFG_BUF n)) 256 * 64
  s.chState n == 3 && s.reqLevel n && (match s.nextRead n with
    | none => false
    | some (_, _, b, k) =>
      s.paced n c.tokens b && decide ((c.slots.map Prod.snd).sum + k ≤ lim)
        && decide (((s.dma.chs.map (fun e => (e.2.slots.map Prod.snd).sum)).sum) + k ≤ 16384))

/-- The channel that the read engine serves (R476, R477). -/
def State.dmaPick (s : State) : Option Nat := if 64 ≤ s.readsOut then none else s.arbitrate s.dma.last s.dmaReady

/-- Each channel's tokens at both engines after `cyc` cycles (R490). -/
def State.accrue (s : State) (cyc : Nat) : State :=
  s.forEach (List.range 32) (fun u n =>
    let gain := loopCount (u.fget (F.DMA_CH_CFG_SHARE n)) 256 * cyc
    u.chMod' n (fun c => { c with tokens := min 2048 (c.tokens + gain), wtokens := min 2048 (c.wtokens + gain) }))

/-! ### Commands -/

/-- DESCRIPTOR_FETCH: channel `n` in FETCH reads the descriptor at HEAD; `host` is what the endpoint returns of a ring in the host window,
and `ok` says that it returns it (R483, R487, R489, R498). -/
def execDescriptorFetch (n : Fin 32) (host : List Byte) (ok : Bool) (s : State) : Host.Outcome State Fault Refusal :=
  let a := (s.ring n.val).1 + 32 * (s.rdN (R.DMA_CH_HEAD n.val) % (s.ring n.val).2)
  .next (if s.chState n.val ≠ 1 then s
    else
      let r : State × List Byte × Bool := if hostWin ≤ a then
          (s.emit (.hostRead (s.hostAddr a) 32), (host ++ List.replicate 32 0#8).take 32, ok && s.hostOpen)
        else
          let b := s.served (s.dmaBy 18 n.val) a 32
          b.1.readAt busRegs b.2 a 32
      let ctl := imgN r.2.1 0 1
      if !r.2.2 then
        ((((r.1.count (R.DMA_CH_ERRS n.val)).raise (F.DMA_CH_EVENT_ERR n.val)).wr64 (R.DMA_CH_ERR_ADDR_LO n.val) (R.DMA_CH_ERR_ADDR_HI n.val)
          a).fput (F.DMA_CH_STATUS_CODE n.val) 7).setCh n.val 7
      else if ctl + imgN r.2.1 1 1 ≠ 255 then
        ((r.1.count (R.DMA_CH_OWN_BAD n.val)).raise (F.DMA_CH_EVENT_OWN_BAD n.val)).setCh n.val 2
      else if !bitOf ctl 7 then r.1.setCh n.val 2
      else
        let d := dmaDesc a r.2.1
        let code := r.1.dmaCheck d
        let s1 := r.1.chMod' n.val (fun c =>
          { desc := some d, tokens := c.tokens, wtokens := c.wtokens, orphans := c.orphans, bytes := c.bytes,
            err := if code = 0 then none else some (code, false, 0) })
        if code = 0 then s1.setCh n.val 3
        else (((s1.raise (F.DMA_CH_EVENT_ERR n.val)).setCh n.val 5).settle n.val))

/-- DMA_BURST: `cyc` cycles after the last burst the write engine issues what its pacing held, and the read engine a burst of the channel
that it serves (R476 to R478, R486, R490, R492). -/
def execDmaBurst (cyc : Nat) (s : State) : Host.Outcome State Fault Refusal :=
  let s0 := (s.accrue cyc).pump
  .next (match s0.dmaPick with
    | none => s0
    | some n => match s0.nextRead n, (s0.ch n).desc with
      | some (o, k, b, slots), some d =>
        let a := d.srcAt o
        let e := readSpan a k
        let s1 := s0.chMod' n (fun c =>
          { c with rd := o + k, reads := c.reads ++ [(o, k)], slots := c.slots ++ [(o + k, slots)], tokens := c.tokens - 256 * b })
        ((s1.dmaMod (fun x => { x with last := n })).showBuf).doIf (decide (hostWin ≤ a)) (fun u =>
          u.emit (.hostRead (u.hostAddr e.1) (e.2 - e.1)))
      | _, _ => s0)

/-- DMA_READ_RESPONSE: the oldest read of channel `n` returns (R486, R489, R494, R647). -/
def execDmaReadResponse (n : Fin 32) (host : List Byte) (ok : Bool) (s : State) : Host.Outcome State Fault Refusal :=
  .next (s.dmaReadBack n.val host (ok && s.hostOpen || !s.hostReading n.val) none)

/-- DMA_WRITE_RESPONSE: the oldest write of channel `n` is answered (R484, R486, R494). -/
def execDmaWriteResponse (n : Fin 32) (s : State) : Host.Outcome State Fault Refusal := .next (s.dmaWritten n.val none)

/-- FENCE_TIMEOUT: the responses of channel `n` have not all arrived within DMA.FENCE_TIMEOUT (R494). -/
def execFenceTimeout (n : Fin 32) (s : State) : Host.Outcome State Fault Refusal :=
  .next (if s.chState n.val ≠ 4 then s
    else
      let e := (s.ch n.val).err.getD (9, false, 0)
      (s.raise (F.DMA_CH_EVENT_ERR n.val)).writeback n.val e.1 e.2.1 e.2.2 false)

/-- DMA_ERR: beat `beat` of the oldest read or write of channel `n` is answered with an error (R495 to R497). -/
def execDmaErr (n : Fin 32) (wr : Bool) (beat : Fin 8) (s : State) : Host.Outcome State Fault Refusal :=
  .next (if wr then s.dmaWritten n.val (some beat.val) else s.dmaReadBack n.val [] true (some beat.val))

/-- CPL_TIMEOUT: the completion of the oldest host read of channel `n` has not come within HOSTIF.CPL_TIMEOUT (R495, R647). -/
def execCplTimeout (n : Fin 32) (s : State) : Host.Outcome State Fault Refusal :=
  .next (if !s.hostReading n.val then s
    else (((s.count R.HOSTIF_CPL_TIMEOUTS).raise F.HOSTIF_EVENT_CPL_TIMEOUT).emit (.aer 2)).dmaReadBack n.val [] false none)

end Sys2Proof.Machine
end

