-- ==== Sys2Proof/Machine/Dsp.lean ====
section
/-!
DEFINITION. Machine/Dsp.lean: the three-bus instructions and LOOP of the Clove engines (R550 to R554, R563).
-/
namespace Sys2Proof.Machine

/-- The address registers of the X, Y and C buses, and their modifiers (R550). -/
def dXa (d : DBits) : Nat := d.ax.val
def dYa (d : DBits) : Nat := 4 + d.ay.val
def dCa (d : DBits) : Nat := 6 + d.ac.val
def dXm (d : DBits) : Nat := d.mx.val
def dYm (d : DBits) : Nat := 4 + d.my.val
def dCm (d : DBits) : Nat := 6 + d.mc.val

/-- The size of an element: a complex one is a word, a real one a halfword (R551). -/
def elemSize (cplx : Bool) : Nat := if cplx then 4 else 2

/-- Why an access of `n` bytes at `a` on a bus is a fault: `mem` is the bus's memory as `localMem` codes it (R544, R553). -/
def busFault (mem a n : Nat) : Option (Nat × Nat) :=
  if a % n ≠ 0 then some (causeAlign, a)
  else if 0x80000 ≤ a ∨ localMem a ≠ mem then some (causeMap, a)
  else none

/-- The first fault of a list. -/
def firstFault : List (Option (Nat × Nat)) → Option (Nat × Nat)
  | [] => none
  | some f :: _ => some f
  | none :: rest => firstFault rest

/-- The word or halfword at a local address as an operand (R551). -/
def State.elemAt (s : State) (e a : Nat) (cplx : Bool) : Opnd := opnd cplx (BitVec.ofNat 32 (s.ldNat (cloveAt e a) (elemSize cplx)))

/-- Post-modifies an address register (R551). -/
def State.postMod (s : State) (pr : Proc) (a m : Nat) : State := s.setA pr a (addA (s.getA pr a) (s.getM pr m))

/-- What a three-bus operation does beside the Y move: whether it accesses X, Y and C, whether it moves the X element along the delay line,
and whether it only post-modifies X and C. -/
structure DOp where
  useY : Bool
  useC : Bool
  tap : Bool
  move : Bool
  deriving DecidableEq, Repr

/-- A three-bus instruction (R550 to R553): every read precedes every write; `f` makes the accumulator's update from the operands at X and
at the second bus. A fault leaves everything as it was. -/
def State.threeBus (s : State) (p : Proc) (d : DBits) (op : DOp) (f : State → Opnd → Opnd → State) : State :=
  s.instr p (fun u => match p with
    | .cur _ => u.illegal p
    | .clove e =>
      if d.yen && op.useY then u.illegal p
      else
        let x := (u.getA p (dXa d)).toNat
        let y := (u.getA p (dYa d)).toNat
        let c := (u.getA p (dCa d)).toNat
        let nx := elemSize d.xcplx
        let no := elemSize d.ocplx
        let fault := firstFault
          [if op.move then none else busFault 1 x nx, if op.tap then busFault 1 ((x + nx) % 2 ^ 40) nx else none,
           if op.useY then busFault 2 y no else none, if op.useC then busFault 3 c no else none, if d.yen then busFault 2 y 4 else none]
        match fault with
        | some g => u.take p g.1 g.2
        | none =>
          let xv := u.elemAt e.val x d.xcplx
          let ov := if op.useY then u.elemAt e.val y d.ocplx else u.elemAt e.val c d.ocplx
          let raw := u.ldBytes (cloveAt e.val x) nx
          let yv := BitVec.ofNat 32 (u.ldNat (cloveAt e.val y) 4)
          let gv := u.getG p d.g
          let s1 := f u xv ov
          let s2 := s1.doIf op.tap (fun v => v.stBytes (cloveAt e.val (x + nx)) raw)
          let s3 := if !d.yen then s2 else if d.ydir then s2.stNat (cloveAt e.val y) 4 gv.toNat else s2.setG p d.g yv
          let s4 := s3.postMod p (dXa d) (dXm d)
          let s5 := s4.doIf (op.useY || d.yen) (fun v => v.postMod p (dYa d) (dYm d))
          let s6 := s5.doIf (op.useC || op.move) (fun v => v.postMod p (dCa d) (dCm d))
          s6.advance p)

/-- A product of the operands into the accumulator (R547, R551). -/
def dMul (p : Proc) (d : DBits) (z : Bool) (s : State) (x o : Opnd) : State := s.accumulate p d.acc (product x o d.conj) d.neg z

/-- D_MAC: acc ← acc ± X × C (R551, R553). -/
def execDMac (p : Proc) (d : DBits) (s : State) : Host.Outcome State Fault Refusal :=
  .next (s.threeBus p d ⟨false, true, false, false⟩ (dMul p d false))

/-- D_MACZ: acc ← ± X × C (R551, R553). -/
def execDMacz (p : Proc) (d : DBits) (s : State) : Host.Outcome State Fault Refusal :=
  .next (s.threeBus p d ⟨false, true, false, false⟩ (dMul p d true))

/-- D_MACY: acc ← acc ± X × Y (R551, R553). -/
def execDMacy (p : Proc) (d : DBits) (s : State) : Host.Outcome State Fault Refusal :=
  .next (s.threeBus p d ⟨true, false, false, false⟩ (dMul p d false))

/-- D_MACYZ: acc ← ± X × Y (R551, R553). -/
def execDMacyz (p : Proc) (d : DBits) (s : State) : Host.Outcome State Fault Refusal :=
  .next (s.threeBus p d ⟨true, false, false, false⟩ (dMul p d true))

/-- FTAP: acc ← acc ± X × C, and the X element moves one place along the delay line (R551, R552, R553). -/
def execFtap (p : Proc) (d : DBits) (s : State) : Host.Outcome State Fault Refusal :=
  .next (s.threeBus p d ⟨false, true, true, false⟩ (dMul p d false))

/-- FTAPZ: acc ← ± X × C, and the X element moves one place along the delay line (R551, R552, R553). -/
def execFtapz (p : Proc) (d : DBits) (s : State) : Host.Outcome State Fault Refusal :=
  .next (s.threeBus p d ⟨false, true, true, false⟩ (dMul p d true))

/-- D_POW: RE ← RE + the power of X (R551). -/
def execDPow (p : Proc) (d : DBits) (s : State) : Host.Outcome State Fault Refusal :=
  .next (s.threeBus p d ⟨false, false, false, false⟩ (fun u x _ => u.addPower p d.acc (power x) false))

/-- D_POWZ: RE ← 0 + the power of X (R551). -/
def execDPowz (p : Proc) (d : DBits) (s : State) : Host.Outcome State Fault Refusal :=
  .next (s.threeBus p d ⟨false, false, false, false⟩ (fun u x _ => u.addPower p d.acc (power x) true))

/-- D_MOVE: post-modifies the X and C registers without access, and makes any Y move (R551, R553). -/
def execDMove (p : Proc) (d : DBits) (s : State) : Host.Outcome State Fault Refusal :=
  .next (s.threeBus p d ⟨false, false, false, true⟩ (fun u _ _ => u))

/-- LOOP: the `len` instructions that follow run COUNT times; a register's count of 0 skips them (R554). -/
def execLoop (p : Proc) (imm : Bool) (count : BitVec 13) (rc : Fin 32) (len : BitVec 12) (s : State) : Host.Outcome State Fault Refusal :=
  .next (s.instr p (fun u => match p with
    | .cur _ => u.illegal p
    | .clove e =>
      let n := if imm then count.toNat else (u.getG p rc).toNat
      let start := u.nextPc p
      let stop := start + 4 * len.toNat
      if len = 0#12 ∨ (imm ∧ n = 0) ∨ 2 ≤ (u.mp (2 + e.val)).loops.length then u.illegal p
      else if n = 0 then u.seqTo p stop
      else u.mpMod (2 + e.val) (fun x => { x with loops := ⟨start, stop, n⟩ :: x.loops, pc := x.pc + 4#32 })))

end Sys2Proof.Machine
end

