-- ==== Sys2Proof/Machine/Jtag.lean ====
section
/-!
DEFINITION. Machine/Jtag.lean: the balls of the signals and the instructions of the boundary-scan TAP (R668, R670 to R672, R687). `tdi`
holds the bits shifted in through TDI during one scan of the data register, first bit first; as many come out at TDO. `pins` holds
what the 1,368 cells capture, the cell nearest TDI first.
-/
namespace Sys2Proof.Machine

/-! ### The signals and their balls -/

/-- The signals that have boundary cells; a differential pair is one (R670 to R672, R687). -/
inductive Signal where
  | laneRx (n : Nat)
  | laneTx (n : Nat)
  | quireRefclk (q : Nat)
  | pcieRx (j : Nat)
  | pcieTx (j : Nat)
  | pcieRefclk
  | perstN
  | chainRx (port : Nat)
  | chainTx (port : Nat)
  | mgmtRx
  | mgmtTx
  | mgmtRefclk
  | ref (k : Nat)
  | clkOut
  | pps (k : Nat)
  | ppsOut
  | pmScl
  | pmSda
  | pmAlertN
  | avsClk
  | avsMdata
  | avsSdata
  | qspiClk
  | qspiCsN
  | qspiIo (k : Nat)
  | bootSel (k : Nat)
  | rstN
  | chainHead
  | thermtripN
  deriving DecidableEq, Repr

/-- A ball: row index and column (R668). -/
abbrev Ball := Nat × Nat

/-- The ball of quire `q` at depth `d` from the package edge and position `p` along it (R670). -/
def quireBall (q d p : Nat) : Ball :=
  let i := q % 6
  match q / 6 with
  | 0 => (1 + d, 7 + 9 * i + p)
  | 1 => (7 + 9 * i + p, 66 - d)
  | 2 => (66 - d, 60 - 9 * i - p)
  | _ => (60 - 9 * i - p, 1 + d)

/-- The P balls of lane position `k` of quire `q`, of its receiver or of its transmitter (R670). -/
def lanePBall (q k : Nat) (tx : Bool) : Ball := quireBall q (3 * b2n tx + k / 3) (1 + 3 * (k % 3))

/-- The signals of quire `q` with their P balls (R670). -/
def quireSignals (q : Nat) : List (Ball × Signal) :=
  (quireBall q 2 7, .quireRefclk q)
    :: (List.range 8).flatMap (fun k => [(lanePBall q k false, .laneRx (8 * q + k)), (lanePBall q k true, .laneTx (8 * q + k))])

/-- The P ball of triplet `j` of row G, or of row J (R671). -/
def bandBall (rowJ : Bool) (j : Nat) : Ball := (if rowJ then 9 else 7, 8 + 3 * j)

/-- The signals of the inner band with their P balls (R671). -/
def bandSignals : List (Ball × Signal) :=
  (List.range 8).flatMap (fun j => [(bandBall false j, .pcieRx j), (bandBall true j, .pcieTx j)])
    ++ [.pcieRefclk, .chainRx 0, .chainTx 0, .chainRx 1, .chainTx 1, .mgmtRx, .mgmtTx, .mgmtRefclk, .ref 0, .ref 1].zipIdx.map
      (fun e => (bandBall false (8 + e.2), e.1))
    ++ [(bandBall true 8, .perstN), (bandBall true 9, .clkOut)]

/-- The signals of the corners with their balls, but those of the TAP (R672). -/
def cornerSignals : List (Ball × Signal) :=
  [((3, 3), .pps 0), ((3, 4), .pps 1), ((4, 3), .ppsOut), ((3, 63), .pmScl), ((3, 64), .pmSda), ((4, 63), .pmAlertN), ((4, 64), .avsClk),
   ((5, 63), .avsMdata), ((5, 64), .avsSdata), ((62, 63), .qspiClk), ((62, 64), .qspiCsN), ((63, 63), .qspiIo 0), ((63, 64), .qspiIo 1),
   ((64, 63), .qspiIo 2), ((64, 64), .qspiIo 3), ((61, 3), .bootSel 0), ((61, 4), .bootSel 1), ((64, 4), .rstN), ((65, 3), .chainHead),
   ((65, 4), .thermtripN)]

/-- Whether a ball comes before another in the order of R687: by row index, then by column. -/
def Ball.before (x y : Ball) : Bool := decide (x.1 < y.1) || (x.1 == y.1 && decide (x.2 < y.2))

/-- The signals with boundary cells, with their balls, the one nearest TDI first (R687). -/
def boundary : List (Ball × Signal) :=
  sortBy (fun x y => x.1.before y.1) ((List.range 24).flatMap quireSignals ++ bandSignals ++ cornerSignals)

/-- Whether a signal is input-only: its output and enable cells have no effect (R684, R687). -/
def Signal.inputOnly : Signal → Bool
  | .laneRx _ | .quireRefclk _ | .pcieRx _ | .pcieRefclk | .perstN | .chainRx _ | .mgmtRx | .mgmtRefclk | .ref _ | .pps _ | .pmAlertN
  | .avsSdata | .bootSel _ | .rstN | .chainHead => true
  | .laneTx _ | .pcieTx _ | .chainTx _ | .mgmtTx | .clkOut | .ppsOut | .pmScl | .pmSda | .avsClk | .avsMdata | .qspiClk | .qspiCsN
  | .qspiIo _ | .thermtripN => false

/-- Whether a signal is open drain, which a 1 leaves alone (R684). -/
def Signal.openDrain (g : Signal) : Bool := [.pmScl, .pmSda, .thermtripN].contains g

/-- The levels that boundary cells drive: of the three cells of each signal, input, output and enable, the output's where the enable
holds 1 (R687). PRESUMED (log 206): an enable cell that holds 1 enables. -/
def drivenBalls (cells : List Bool) : List (Ball × Bool) :=
  boundary.zipIdx.filterMap (fun e =>
    let v := cells.getD (3 * e.2 + 1) false
    if cells.getD (3 * e.2 + 2) false && !e.1.2.inputOnly && !(e.1.2.openDrain && v) then some (e.1.1, v) else none)

/-! ### The instructions -/

/-- Changes the TAP. -/
def State.tapMod (s : State) (f : TapSt → TapSt) : State := { s with tap := f s.tap }

/-- The bits of `n`, least significant first. -/
def bitList (w n : Nat) : List Bool := (List.range w).map (fun k => bitOf n k)

/-- Scans a register that holds `reg`, the bit nearest TDO first: `tdi` goes in and as many bits come out. -/
def State.scan (s : State) (reg tdi : List Bool) : State := s.emit (.shift ((reg ++ tdi).take tdi.length))

/-- Selects an instruction that leaves the balls to the core, as its code in TapSt. -/
def State.tapSelect (s : State) (k : Nat) (drives highz : Bool) : State :=
  s.tapMod (fun t => { t with instr := k, drives := drives, highz := highz })

/-- What the cells drive appears at the balls. -/
def State.driveBalls (s : State) : State := s.emit (.balls (drivenBalls s.tap.cells))

/-- Captures the cells, scans the boundary register, and holds what was shifted in. -/
def State.scanCells (s : State) (pins tdi : List Bool) : State :=
  let held := ((pins ++ List.replicate 1368 false).take 1368).reverse
  (s.scan held tdi).tapMod (fun t => { t with cells := ((held ++ tdi).drop tdi.length).reverse })

/-- BYPASS: the one-bit bypass register, which captures 0 (R687). -/
def execBypassInstruction (tdi : List Bool) (s : State) : Host.Outcome State Fault Refusal :=
  .next ((s.tapSelect 0 false false).scan [false] tdi)

/-- IDCODE: 0x1204_8A6F comes out, least significant bit first (R687). -/
def execIdcode (tdi : List Bool) (s : State) : Host.Outcome State Fault Refusal :=
  .next ((s.tapSelect 1 false false).scan (bitList 32 0x12048A6F) tdi)

/-- SAMPLE/PRELOAD: the cells are sampled and preloaded; the core keeps the balls (R687). -/
def execSamplePreload (pins tdi : List Bool) (s : State) : Host.Outcome State Fault Refusal :=
  .next ((s.tapSelect 2 false false).scanCells pins tdi)

/-- EXTEST: the boundary register drives the balls (R687). -/
def execExtest (pins tdi : List Bool) (s : State) : Host.Outcome State Fault Refusal :=
  .next ((s.tapSelect 3 true false).scanCells pins tdi).driveBalls

/-- CLAMP: the boundary register holds the outputs, with the bypass register selected (R687). -/
def execClamp (tdi : List Bool) (s : State) : Host.Outcome State Fault Refusal :=
  .next ((s.tapSelect 4 true false).scan [false] tdi).driveBalls

/-- HIGHZ: the outputs are in high impedance, with the bypass register selected (R687). -/
def execHighz (tdi : List Bool) (s : State) : Host.Outcome State Fault Refusal :=
  .next ((s.tapSelect 5 false true).scan [false] tdi)

/-- EXTEST_PULSE: as EXTEST, with a pulse on the AC-coupled differential pins (R687). -/
def execExtestPulse (pins tdi : List Bool) (s : State) : Host.Outcome State Fault Refusal :=
  .next ((s.tapSelect 6 true false).scanCells pins tdi).driveBalls

/-- EXTEST_TRAIN: as EXTEST, with a pulse train on the AC-coupled differential pins (R687). -/
def execExtestTrain (pins tdi : List Bool) (s : State) : Host.Outcome State Fault Refusal :=
  .next ((s.tapSelect 7 true false).scanCells pins tdi).driveBalls

/-- BOOT_READ: BOOT.STATUS comes out, then the 4-bit THERMTRIP cause, each least significant bit first (R616, R638, R687). -/
def execBootRead (tdi : List Bool) (s : State) : Host.Outcome State Fault Refusal :=
  .next ((s.tapSelect 8 false false).scan (bitList 32 (s.rdN R.BOOT_STATUS) ++ bitList 4 (s.power.tripped.getD 0)) tdi)

end Sys2Proof.Machine
end

