-- ==== Sys2Proof/Machine/LoadStore.lean ====
section
/-!
DEFINITION. Machine/LoadStore.lean: loads and stores of Mace (R541, R543, R544, R559 to R561, R564, R568).
-/
namespace Sys2Proof.Machine

/-- A load of `n` bytes into g, or into a pair for 8 bytes; `f` extends what is loaded. An exception leaves g and the address register
as they were (R543, R544, R561). -/
def State.loadOp (s : State) (pr : Proc) (n : Nat) (f : Nat → Nat) (g : Fin 32) (mode : Fin 4) (a : Fin 8) (imm : BitVec 16) : State :=
  s.instr pr (fun u =>
    if n = 8 ∧ !pairOk g then u.illegal pr
    else match u.mForm pr mode a imm with
      | none => u.illegal pr
      | some (at', after) =>
        let r := u.load pr at'.toNat n
        match r.2 with
        | .error cause => r.1.take pr cause at'.toNat
        | .ok bs =>
          let s1 := r.1.setA pr a.val after
          let v := f (leNat bs)
          (if n = 8 then s1.setPair pr g v else s1.setG pr g (BitVec.ofNat 32 v)).advance pr)

/-- A store of the low `n` bytes of g, or of a pair (R543, R544, R561). -/
def State.storeOp (s : State) (pr : Proc) (n : Nat) (g : Fin 32) (mode : Fin 4) (a : Fin 8) (imm : BitVec 16) : State :=
  s.instr pr (fun u =>
    if n = 8 ∧ !pairOk g then u.illegal pr
    else match u.mForm pr mode a imm with
      | none => u.illegal pr
      | some (at', after) =>
        match storeFault pr at'.toNat n with
        | some cause => u.take pr cause at'.toNat
        | none =>
          let v := if n = 8 then u.getPair pr g else (u.getG pr g).toNat
          ((u.setA pr a.val after).advance pr).store pr at'.toNat (leBytes n v))

/-- The sign extension of a number of `w` bits to 32. -/
def sextN (w n : Nat) : Nat := fromSigned 32 (toSigned w n)

/-- LB: loads a sign-extended byte (R541, R543, R544, R545). -/
def execLb (p : Proc) (g : Fin 32) (mode : Fin 4) (a : Fin 8) (imm : BitVec 16) (s : State) : Host.Outcome State Fault Refusal :=
  .next (s.loadOp p 1 (sextN 8) g mode a imm)

/-- LBU: loads a zero-extended byte (R541, R543, R544, R545). -/
def execLbu (p : Proc) (g : Fin 32) (mode : Fin 4) (a : Fin 8) (imm : BitVec 16) (s : State) : Host.Outcome State Fault Refusal :=
  .next (s.loadOp p 1 id g mode a imm)

/-- LH: loads a sign-extended halfword (R541, R543, R544, R545). -/
def execLh (p : Proc) (g : Fin 32) (mode : Fin 4) (a : Fin 8) (imm : BitVec 16) (s : State) : Host.Outcome State Fault Refusal :=
  .next (s.loadOp p 2 (sextN 16) g mode a imm)

/-- LHU: loads a zero-extended halfword (R541, R543, R544, R545). -/
def execLhu (p : Proc) (g : Fin 32) (mode : Fin 4) (a : Fin 8) (imm : BitVec 16) (s : State) : Host.Outcome State Fault Refusal :=
  .next (s.loadOp p 2 id g mode a imm)

/-- LW: loads a word (R541, R543, R544, R545). -/
def execLw (p : Proc) (g : Fin 32) (mode : Fin 4) (a : Fin 8) (imm : BitVec 16) (s : State) : Host.Outcome State Fault Refusal :=
  .next (s.loadOp p 4 id g mode a imm)

/-- LD: loads a 64-bit value into a pair (R541, R543, R544, R545). -/
def execLd (p : Proc) (g : Fin 32) (mode : Fin 4) (a : Fin 8) (imm : BitVec 16) (s : State) : Host.Outcome State Fault Refusal :=
  .next (s.loadOp p 8 id g mode a imm)

/-- SB: stores a byte (R541, R543, R544, R545). -/
def execSb (p : Proc) (g : Fin 32) (mode : Fin 4) (a : Fin 8) (imm : BitVec 16) (s : State) : Host.Outcome State Fault Refusal :=
  .next (s.storeOp p 1 g mode a imm)

/-- SH: stores a halfword (R541, R543, R544, R545). -/
def execSh (p : Proc) (g : Fin 32) (mode : Fin 4) (a : Fin 8) (imm : BitVec 16) (s : State) : Host.Outcome State Fault Refusal :=
  .next (s.storeOp p 2 g mode a imm)

/-- SW: stores a word (R541, R543, R544, R545). -/
def execSw (p : Proc) (g : Fin 32) (mode : Fin 4) (a : Fin 8) (imm : BitVec 16) (s : State) : Host.Outcome State Fault Refusal :=
  .next (s.storeOp p 4 g mode a imm)

/-- SD: stores a pair (R541, R543, R544, R545). -/
def execSd (p : Proc) (g : Fin 32) (mode : Fin 4) (a : Fin 8) (imm : BitVec 16) (s : State) : Host.Outcome State Fault Refusal :=
  .next (s.storeOp p 8 g mode a imm)

end Sys2Proof.Machine
end

