-- ==== Sys2Proof/Machine/Snap.lean ====
section
/-!
DEFINITION. Machine/Snap.lean: the latching of a snapshot and its switch into force (R16, R17, R651 to R655).
-/
namespace Sys2Proof.Machine

/-- The register blocks below 0x1A_0000, in the order of R666. -/
def snapBlocks : List (List RegRow) :=
  [rowsDevice, rowsCat, rowsTime, rowsLane, rowsQuire, rowsIngest, rowsArray, rowsAccum, rowsBeam, rowsChain, rowsHbmc, rowsMatrix, rowsDma,
   rowsMbox, rowsIrq, rowsPower, rowsBoot, rowsCore, rowsHostif, rowsMgmt]

/-- The addresses that a row's dimensions span from `a`. -/
def dimAddrs : List (Nat × Nat) → Nat → List Nat
  | [], a => [a]
  | (st, n) :: rest, a => (List.range n).flatMap (fun k => dimAddrs rest (a + k * st))

/-- Whether registers of an access code are latched (R651). -/
def Acc.latched (c : Acc) : Bool := c == .ro || c == .rc || c == .rs || c == .w1c

/-- What a read would show of device time, TIME.SI_NOW and TIME.SI_EXPECT, in the registers themselves (R49, R69). -/
def State.timesShown (s : State) : State :=
  let took := fun (o : Host.Outcome State Fault Refusal) (u : State) => ran o u
  let s1 := took (execTimeNowRead s) s
  let s2 := took (execSiNowRead s1) s1
  took (execSiExpectRead s2) s2

/-- The word latched of the register at `a`; TIME.SNAP_NS and SNAP_FRAC latch the device time of the latch itself (R69, R652). -/
def State.latchWord (s : State) (a : Nat) : Word :=
  let now := s.time.now.toNat
  if a = R.TIME_SNAP_NS_LO then BitVec.ofNat 32 (now / 2 ^ 32)
  else if a = R.TIME_SNAP_NS_HI then BitVec.ofNat 32 (now / 2 ^ 64)
  else if a = R.TIME_SNAP_FRAC then BitVec.ofNat 32 now
  else s.timesShown.regView a

/-- The addresses at which the register at `a` stands: a quire register stands in the windows of all eight lanes (R114). -/
def shownAt (b a : Nat) : List Nat := if b = 4 then (List.range 8).map (fun k => a + 0x400 * k) else [a]

/-- The words of block `b` by image offset: of blocks 0 to 19 the registers that R651 names, of 20 the Clove registers. A word that an
event at or after the snapshot SI has changed is latched as it stood before (R16). The PC of an engine in RUN is undefined (R574). -/
def State.latchBlock (s : State) (b : Nat) : State × List (Nat × Word) :=
  if b < 20 then
    let as' := ((snapBlocks.getD b []).filter (fun r => r.acc.latched)).flatMap (fun r => dimAddrs r.dims r.base)
    (s, as'.flatMap (fun a =>
      let w := ((s.snap.early.find? (fun e => e.1 == a)).map Prod.snd).getD (s.latchWord a)
      (shownAt b a).map (fun d => (d, w))))
  else
    (s.tick1, (List.range 16).flatMap (fun e => (List.range 12).map (fun k =>
      (0x1A0000 + 0x40 * e + 4 * k,
       if k = 5 ∧ s.cloveState e = 1 then Config.freeWord (s.fresh + 2 ^ 32 * e) else s.regView (R.CLOVE_CTRL e + 4 * k)))))

/-- The SI up to which work must be done for all work below `x` to be done: none lies in an accession gap (R365). -/
def State.workEnd (s : State) (x : Nat) : Nat :=
  match s.ingest.gaps.find? (fun g => decide (g.1 < x) && decide (x ≤ g.2)) with
  | some g => g.1
  | none => x

/-- Whether the array has done every window of work below `x`. -/
def State.arrayReached (s : State) (x : Nat) : Bool :=
  !s.pv.corrRole || (decide (x ≤ s.array.till) && s.array.runs.all (fun r => decide (x ≤ r.m * s.pv.dwell) || s.runDone r))

/-- Whether the processing of block `b` has reached SI `x`: INGEST, ARRAY, ACCUM and BEAM by their own work, the others, which process no
samples, by TIME.SI_NOW (R17). DEDUCED (log 204): the accumulators have reached it once the spills of the array's work have been
written, the beams once every block below it has been read. -/
def State.blockReached (s : State) (b x : Nat) : Bool :=
  let e := s.workEnd x
  decide (x ≤ s.siNow) && (match b with
    | 5 => (List.range s.nChan).all (fun c => decide (e ≤ 128 * s.nextRel c ((e - 1) / 128)))
    | 6 => s.arrayReached e
    | 7 => s.arrayReached e && s.array.wbs.isEmpty && s.array.paths.all (fun p => p.2.isEmpty)
    | 8 => s.ingest.blks.all (fun c => decide (e ≤ 128 * c.b) || s.allRead c)
    | _ => true)

/-- SNAPSHOT_LATCH: the processing of block `b` has reached the snapshot SI and its part of the set is latched; with TIME, device time is,
which source 19 of its group signals (R17, R72, R651, R652). -/
def execSnapshotLatch (b : Fin 21) (s : State) : Host.Outcome State Fault Refusal :=
  .next (if !s.fbit F.SNAP_STATUS_PENDING || s.snap.blocks.contains b.val
      || !s.blockReached b.val (s.rd64 R.SNAP_RESOLVED_SI_LO R.SNAP_RESOLVED_SI_HI) then s
    else
      let r := s.latchBlock b.val
      { r.1 with snap := { s.snap with
          blocks := s.snap.blocks ++ [b.val], words := r.2.foldl (fun (t : Tab Word) (e : Nat × Word) => tset 0#32 t e.1 e.2) s.snap.words } : State }.doIf
        (b.val == 2) (fun u => u.emit (.pulse 515)))

/-- Archive offset of snapshot image `k` (R651). -/
def snapImage (k : Nat) : Nat := 0xBF8000000 + k * 0x200000

/-- Writes the latched set into image `k`: its words, and zero everywhere else (R651, R654). -/
def State.writeImage (s : State) (k : Nat) (ws : Tab Word) : State :=
  let lo := archiveBase + snapImage k
  let u := snapImage k / 32
  let s1 := { s with
    mem := s.mem.filter (fun c => !(decide (lo ≤ c.1) && decide (c.1 < lo + 0x200000)))
    poison := s.poison.filter (fun p => !(decide (u ≤ p) && decide (p < u + 0x10000))) }
  s1.forEach ws (fun t e => t.stNat (lo + e.1) 4 e.2.toNat)

/-- SNAP_DONE: the set is complete and comes into force at once (R654). -/
def execSnapDone (s : State) : Host.Outcome State Fault Refusal :=
  .next (if !s.fbit F.SNAP_STATUS_PENDING || !(List.range 21).all (fun b => s.snap.blocks.contains b) then s
    else
      let k := 1 - s.fget F.SNAP_STATUS_IMAGE
      let s1 := s.writeImage k s.snap.words
      let s2 := s1.forEach [R.TIME_SNAP_NS_LO, R.TIME_SNAP_NS_HI, R.TIME_SNAP_FRAC] (fun u a => u.wr a (tget 0#32 s.snap.words a))
      let s3 := s2.wr64 R.SNAP_DONE_SI_LO R.SNAP_DONE_SI_HI (s.rd64 R.SNAP_RESOLVED_SI_LO R.SNAP_RESOLVED_SI_HI)
      let s4 := (s3.fput F.SNAP_STATUS_IMAGE k).fput F.SNAP_STATUS_SEQ (s.fget F.SNAP_STATUS_SEQ + 1)
      let s5 := ((s4.fput F.SNAP_STATUS_PENDING 0).fput F.SNAP_STATUS_COMPLETE 1).raise F.HOSTIF_EVENT_SNAP_DONE
      { s5 with snap := {} })

end Sys2Proof.Machine
end

