-- ==== Sys2Proof/Machine/SysOps.lean ====
section
/-!
DEFINITION. Machine/SysOps.lean: control and status registers, time, waiting, exceptions and moves of Mace (R555 to R559, R561, R562, R566
to R569, R587).
-/
namespace Sys2Proof.Machine

/-! ### Control and status registers -/

/-- FLAGS of Clove engine `e`: KICK, and its mailbox flag (R539, R557). -/
def State.flagsOf (s : State) (e : Nat) : Word :=
  BitVec.ofNat 32 (b2n (s.maskEvent (R.MBOX_EVENT (16 + e)) (R.MBOX_EVENT_EN (16 + e)) xEvents) + 2 * b2n (s.mp (2 + e)).kick)

/-- The remaining count of loop level `k`; level 0 is the outer one (R554, R558). -/
def loopCountOf (ls : List LoopSt) (k : Nat) : Word := BitVec.ofNat 32 ((ls.reverse[k]?).elim 0 LoopSt.count)

/-- ID of a processor (R558). -/
def idOf : Proc → Word
  | .cur c => BitVec.ofNat 32 (0x100 + c.val)
  | .clove e => BitVec.ofNat 32 e.val

/-- What a control and status register reads; none where the processor lacks it (R558). -/
def State.csrRead (s : State) (pr : Proc) (csr : Nat) : Option Word :=
  let p := s.mp (ix pr)
  if csr = 0x000 then some p.cur.sc
  else if csr = 0x001 then some p.dspstat
  else if csr = 0x004 then some p.cur.qos
  else if csr = 0x009 then some p.cycHi
  else if csr = 0x00A then some (idOf pr)
  else match pr with
    | .cur _ =>
      if csr = 0x010 then some p.ebase
      else if csr = 0x011 then some p.cur.epc
      else if csr = 0x012 then some p.cur.ecause
      else if csr = 0x013 then some (p.cur.eaddr.setWidth 32)
      else if csr = 0x014 then some ((p.cur.eaddr >>> 32).setWidth 32)
      else none
    | .clove e =>
      if csr = 0x002 then some (loopCountOf p.loops 0)
      else if csr = 0x003 then some (loopCountOf p.loops 1)
      else if csr = 0x020 then some (s.flagsOf e.val)
      else if csr = 0x021 then some (BitVec.ofNat 32 (s.fget (F.CLOVE_STATUS_DMAREQ e.val)))
      else none

/-- What a write of a control and status register does; none where the processor lacks it. DSPSTAT and KICK keep a bit written 1 and 0
(R558). -/
def State.csrWrite (s : State) (pr : Proc) (csr : Nat) (v : Word) : Option State :=
  let bank := fun (f : Bank → Bank) => some (s.mpMod (ix pr) (fun p => p.modCur f))
  if csr = 0x000 then bank (fun b => { b with sc := v &&& 0x13F#32 })
  else if csr = 0x001 then some (s.mpMod (ix pr) (fun p => { p with dspstat := p.dspstat &&& v }))
  else if csr = 0x004 then bank (fun b => { b with qos := v &&& 0xFFFF000F#32 })
  else if csr = 0x008 ∨ csr = 0x009 ∨ csr = 0x00A then some s
  else match pr with
    | .cur _ =>
      if csr = 0x010 then some (s.mpMod (ix pr) (fun p => { p with ebase := v &&& 0xFFFFFF00#32 }))
      else if csr = 0x011 then bank (fun b => { b with epc := v })
      else if csr = 0x012 ∨ csr = 0x013 ∨ csr = 0x014 then some s
      else none
    | .clove e =>
      if csr = 0x002 ∨ csr = 0x003 then some s
      else if csr = 0x020 then some (s.mpMod (ix pr) (fun p => { p with kick := p.kick && !v.getLsbD 1 }))
      else if csr = 0x021 then some (s.fput (F.CLOVE_STATUS_DMAREQ e.val) (v.toNat % 2))
      else none

/-- RDCSR: reads a control and status register; the cycle counter is a free value, of which a read of the low word latches the high one
(R558). -/
def execRdcsr (p : Proc) (rd : Fin 32) (csr : BitVec 12) (s : State) : Host.Outcome State Fault Refusal :=
  .next (s.instr p (fun u =>
    if csr = 0x008#12 then
      (((u.tick1.tick1).mpMod (ix p) (fun x => { x with cycHi := Config.freeWord (u.fresh + 1) })).setG p rd (Config.freeWord u.fresh)).advance p
    else match u.csrRead p csr.toNat with
      | some v => (u.setG p rd v).advance p
      | none => u.illegal p))

/-- WRCSR: writes a control and status register (R558). -/
def execWrcsr (p : Proc) (rs1 : Fin 32) (csr : BitVec 12) (s : State) : Host.Outcome State Fault Refusal :=
  .next (s.instr p (fun u => match u.csrWrite p csr.toNat (u.getG p rs1) with
    | some t => t.advance p
    | none => u.illegal p))

/-! ### Time and waiting -/

/-- RDTIME: the pair takes the integer nanoseconds of device time at the latest tick, plus 2 (R555, R690). -/
def execRdtime (p : Proc) (rd : Fin 32) (s : State) : Host.Outcome State Fault Refusal :=
  .next (s.instr p (fun u => if pairOk rd then (u.setPair p rd (u.time.now.toNat / 2 ^ 32 + 2)).advance p else u.illegal p))

/-- RDSI: the pair takes TIME.SI_NOW (R556). -/
def execRdsi (p : Proc) (rd : Fin 32) (s : State) : Host.Outcome State Fault Refusal :=
  .next (s.instr p (fun u => if pairOk rd then (u.setPair p rd u.siNow).advance p else u.illegal p))

/-- Shows a processor's waiting: a Curator's idleness, an engine's STATUS (R575, R593). -/
def State.showWait (s : State) : Proc → State
  | .cur c => s.showIdle c.val
  | .clove e => s.showClove e.val

/-- A processor begins to wait with its PC at the waiting instruction. -/
def State.waitFor (s : State) (pr : Proc) (w : Wait) : State := (s.mpMod (ix pr) (fun p => { p with wait := w })).showWait pr

/-- WAITSI: stalls until TIME.SI_NOW is at least the pair rs1 (R556, R593). -/
def execWaitsi (p : Proc) (rs1 : Fin 32) (s : State) : Host.Outcome State Fault Refusal :=
  .next (s.instr p (fun u =>
    if !pairOk rs1 then u.illegal p
    else if u.getPair p rs1 ≤ u.siNow then u.advance p
    else u.waitFor p (.si (u.getPair p rs1))))

/-- Whether a waiting processor is in a state in which its wait can end. -/
def State.awake (s : State) : Proc → Bool
  | .cur c => s.curRuns c.val
  | .clove e => s.cloveState e.val == 1 && s.mode != 0

/-- WAITSI_END: TIME.SI_NOW has reached the target of a WAITSI (R556, R593). -/
def execWaitsiEnd (p : Proc) (s : State) : Host.Outcome State Fault Refusal :=
  .next (match (s.mp (ix p)).wait with
    | .si t => if t ≤ s.siNow && s.awake p then (s.advance p).showWait p else s
    | _ => s)

/-- WFE: stalls a Clove engine until a selected bit of FLAGS is set (R557, R563). -/
def execWfe (p : Proc) (rs1 : Fin 32) (s : State) : Host.Outcome State Fault Refusal :=
  .next (s.instr p (fun u => match p with
    | .cur _ => u.illegal p
    | .clove e =>
      if u.flagsOf e.val &&& u.getG p rs1 ≠ 0#32 then u.advance p
      else u.waitFor p (.flags (u.getG p rs1).toNat)))

/-- WFE_END: a selected bit of FLAGS has become set (R557). -/
def execWfeEnd (e : Fin 16) (s : State) : Host.Outcome State Fault Refusal :=
  .next (match (s.mp (2 + e.val)).wait with
    | .flags m =>
      if s.flagsOf e.val &&& BitVec.ofNat 32 m ≠ 0#32 ∧ s.awake (.clove e) then (s.advance (.clove e)).showClove e.val else s
    | _ => s)

/-- FENCE: stalls until every earlier matrix transaction of the processor has been answered (R557). -/
def execFence (p : Proc) (s : State) : Host.Outcome State Fault Refusal :=
  .next (s.instr p (fun u => (u.waitFor p .fence).wakeFence p))

/-! ### Exceptions -/

/-- TRAP: an exception with the code as its address (R561, R568). -/
def execTrap (p : Proc) (code : BitVec 12) (s : State) : Host.Outcome State Fault Refusal :=
  .next (s.instr p (fun u => u.take p causeTrap code.toNat))

/-- ILLEGAL_INSTRUCTION: the word at PC spells no instruction of the processor (R541 to R545, R547, R550, R551, R563); `why` 1 says that its
fetch is answered with an error, 2 that a Clove engine's own access to `addr` finds a parity error (R561, R565, R568). -/
def execIllegalInstruction (p : Proc) (why : Fin 3) (addr : BitVec 40) (s : State) : Host.Outcome State Fault Refusal :=
  .next (s.instr p (fun u =>
    if why = 1 then u.take p causeFetch (u.mp (ix p)).pc.toNat
    else if why = 2 ∧ !isCur p then u.take p causeParity addr.toNat
    else u.illegal p))

/-- STORE_ERR: the error response to an earlier store is taken at an instruction boundary, PC being the instruction about to execute
(R561, R568). -/
def execStoreErr (p : Proc) (s : State) : Host.Outcome State Fault Refusal :=
  .next (match (s.mp (ix p)).storeErr with
    | none => s
    | some a =>
      if !s.awake p then s
      else ((s.mpMod (ix p) (fun x => { x with storeErr := none })).take p causeStore a).showWait p)

/-- ERET: returns from an exception, or from the running handler; elsewhere, and on a Clove engine, ILLEGAL (R545, R561, R587, R588). -/
def execEret (p : Proc) (s : State) : Host.Outcome State Fault Refusal :=
  .next (s.instr p (fun u => match p with
    | .clove _ => u.illegal p
    | .cur c =>
      if (u.mp c.val).cur.ecause.getLsbD 31 then
        u.mpMod c.val (fun x => { x.modCur (fun b => { b with ecause := b.ecause &&& 0x7FFFFFFF#32 }) with pc := x.cur.epc })
      else if (u.mp c.val).inFast || u.fbit (F.IRQ_CUR_STATUS_IN_NORMAL c.val) then u.returnHandler c.val
      else u.illegal p))

/-- STOP: a Clove engine goes to HALTED, and a RUN goes on after it (R545, R563, R569). -/
def execStop (p : Proc) (s : State) : Host.Outcome State Fault Refusal :=
  .next (s.instr p (fun u => match p with
    | .cur _ => u.illegal p
    | .clove e => (u.advance p).cloveStop e.val 2))

/-! ### Moves -/

/-- Begins a move and advances the address registers (R566). -/
def State.startMove (s : State) (e : Fin 16) (mv : Move) : State :=
  let p : Proc := .clove e
  let used := (s.mp (2 + e.val)).moves.map Move.id
  let id := (([8, 9, 10, 11] : List Nat).find? (fun k => !used.contains k)).getD 8
  let d := BitVec.ofNat 40 mv.len
  let s1 := (s.setA p mv.aL (s.getA p mv.aL + d)).setA p mv.aR (s.getA p mv.aR + d)
  ((s1.mpMod (2 + e.val) (fun x => { x with moves := x.moves ++ [{ mv with id := id }] })).advance p).showClove e.val

/-- BMOV: starts a move between a local memory and a matrix address; a fifth one waits with PC at it (R566, R568). -/
def execBmov (p : Proc) (rd : Fin 32) (aL aR : Fin 8) (inward : Bool) (sel : Fin 4) (s : State) : Host.Outcome State Fault Refusal :=
  .next (s.instr p (fun u => match p with
    | .cur _ => u.illegal p
    | .clove e =>
      let n := (u.getG p rd).toNat
      let l := (u.getA p aL.val).toNat
      let m := (u.getA p aR.val).toNat
      if 4096 < n then u.illegal p
      else if n % 4 ≠ 0 ∨ l % 4 ≠ 0 then u.take p causeAlign l
      else if m % 4 ≠ 0 then u.take p causeAlign m
      else if n = 0 then u.advance p
      else if 0x80000 ≤ l ∨ !([1, 2, 3].contains (localMem l)) ∨ localMem (l + n - 1) ≠ localMem l then u.take p causeMap l
      else
        let mv : Move := ⟨l, m, n, inward, u.qosB p sel, 8, aL.val, aR.val⟩
        if (u.mp (2 + e.val)).moves.length < 4 then u.startMove e mv
        else (u.mpMod (2 + e.val) (fun x => { x with waiting := some mv })).waitFor p .room))

/-- The transactions of a move: offset and length of each, none across a 512-byte boundary of the matrix address, none longer than 64 bytes
where the QoS value is 15 (R463, R566). -/
def moveParts (mat lim : Nat) : Nat → Nat → Nat → List (Nat × Nat)
  | _, _, 0 => []
  | off, len, fuel + 1 =>
    if len ≤ off then []
    else
      let k := min (min (len - off) lim) (512 - (mat + off) % 512)
      (off, k) :: moveParts mat lim (off + k) len fuel

/-- Carries out the transactions of a move: the state, and the matrix address of the first that is answered with an error. The data of an
inward move are dropped where `drop'` (R566, R568, R569). -/
def State.runMove (s : State) (e : Nat) (mv : Move) (drop' : Bool) : State × Option Nat :=
  (moveParts mv.mat (if mv.qos = 15 then 64 else 512) 0 mv.len 1024).foldl (fun acc x =>
    let b := acc.1.served ⟨2 + e, mv.id, mv.qos⟩ (mv.mat + x.1) x.2
    let r : State × Bool := if mv.inward then
        (let g := b.1.readAt busRegs b.2 (mv.mat + x.1) x.2
         (if g.2.2 && !drop' then g.1.stBytes (cloveAt e (mv.loc + x.1)) g.2.1 else g.1, g.2.2))
      else b.1.writeAt busRegs b.2 (mv.mat + x.1) ((b.1.ldBytes (cloveAt e (mv.loc + x.1)) x.2).map some)
    (r.1, if r.2 then acc.2 else some (acc.2.getD (mv.mat + x.1)))) (s, none)

/-- BMOV_COMPLETE: every response of the `k`-th outstanding move of engine `e` has come; an error is a fault of an engine in RUN, a reset that
waited for the moves is carried out, a waiting BMOV proceeds and a BWAIT or FENCE may end (R557, R566, R568, R569). -/
def execBmovComplete (e : Fin 16) (k : Fin 4) (s : State) : Host.Outcome State Fault Refusal :=
  let p : Proc := .clove e
  .next (match (s.mp (2 + e.val)).moves[k.val]? with
    | none => s
    | some mv =>
      let r := s.runMove e.val mv (s.cloveResetting e.val)
      let s1 := r.1.mpMod (2 + e.val) (fun x => { x with moves := x.moves.eraseIdx k.val })
      if s1.cloveResetting e.val then
        (if (s1.mp (2 + e.val)).moves.isEmpty then s1.cloveMovesDone e.val else s1.showClove e.val)
      else match r.2 with
        | some a => if s1.cloveState e.val = 1 then s1.take p (if mv.inward then causeLoad else causeStore) a else s1.showClove e.val
        | none =>
          if s1.cloveState e.val ≠ 1 then s1.showClove e.val
          else match (s1.mp (2 + e.val)).waiting with
            | some w => (s1.mpMod (2 + e.val) (fun x => { x with waiting := none, wait := .run })).startMove e w
            | none => (s1.wakeFence p).showClove e.val)

/-- BWAIT: stalls until every outstanding move has received all its responses (R563, R566, R567). -/
def execBwait (p : Proc) (s : State) : Host.Outcome State Fault Refusal :=
  .next (s.instr p (fun u => match p with
    | .cur _ => u.illegal p
    | .clove e => if (u.mp (2 + e.val)).moves.isEmpty then u.advance p else u.waitFor p .moves))

end Sys2Proof.Machine
end

