-- ==== Sys2Proof/Machine/Dispatch.lean ====
section
/-!
DEFINITION. Machine/Dispatch.lean: one arm per command, each one direct call of that command's meaning.
-/
namespace Sys2Proof.Machine

def exec (i : Instr) (s : State) : Host.Outcome State Fault Refusal :=
  match i with
  | .registerWrite m a v => Sys2Proof.Machine.execRegisterWrite m a v s
  | .rcRead m a => Sys2Proof.Machine.execRcRead m a s
  | .rwaWrite r v => Sys2Proof.Machine.execRwaWrite r v s
  | .timeNowRead => Sys2Proof.Machine.execTimeNowRead s
  | .siNowRead => Sys2Proof.Machine.execSiNowRead s
  | .siExpectRead => Sys2Proof.Machine.execSiExpectRead s
  | .blockDeadline b => Sys2Proof.Machine.execBlockDeadline b s
  | .slewEnd => Sys2Proof.Machine.execSlewEnd s
  | .reacquire => Sys2Proof.Machine.execReacquire s
  | .nextSecWrite v => Sys2Proof.Machine.execNextSecWrite v s
  | .ppsEdge n edge => Sys2Proof.Machine.execPpsEdge n edge s
  | .vrefOffset v => Sys2Proof.Machine.execVrefOffset v s
  | .chainOffset v => Sys2Proof.Machine.execChainOffset v s
  | .sourceClockLoss n => Sys2Proof.Machine.execSourceClockLoss n s
  | .ppsTimeout n => Sys2Proof.Machine.execPpsTimeout n s
  | .vrefTimeout n => Sys2Proof.Machine.execVrefTimeout n s
  | .qualGain n => Sys2Proof.Machine.execQualGain n s
  | .qualWindowEnd n => Sys2Proof.Machine.execQualWindowEnd n s
  | .revertWait => Sys2Proof.Machine.execRevertWait s
  | .frequencyLockHeld => Sys2Proof.Machine.execFrequencyLockHeld s
  | .acqTimeout => Sys2Proof.Machine.execAcqTimeout s
  | .holdLimit => Sys2Proof.Machine.execHoldLimit s
  | .ppsOutRise => Sys2Proof.Machine.execPpsOutRise s
  | .ppsOutFall => Sys2Proof.Machine.execPpsOutFall s
  | .quirePllLoss q => Sys2Proof.Machine.execQuirePllLoss q s
  | .quirePllLock q => Sys2Proof.Machine.execQuirePllLock q s
  | .detectPulse n => Sys2Proof.Machine.execDetectPulse n s
  | .detectExit n => Sys2Proof.Machine.execDetectExit n s
  | .tsbSwitch n fom => Sys2Proof.Machine.execTsbSwitch n fom s
  | .trainDone n => Sys2Proof.Machine.execTrainDone n s
  | .trainTimeout n => Sys2Proof.Machine.execTrainTimeout n s
  | .lockTimeout n => Sys2Proof.Machine.execLockTimeout n s
  | .exchTimeout n => Sys2Proof.Machine.execExchTimeout n s
  | .trainingSequence n tsb body => Sys2Proof.Machine.execTrainingSequence n tsb body s
  | .capabilitySet n flags body crc errs => Sys2Proof.Machine.execCapabilitySet n flags body crc errs s
  | .characterReceive n g mark => Sys2Proof.Machine.execCharacterReceive n g mark s
  | .signalLoss n => Sys2Proof.Machine.execSignalLoss n s
  | .bitLockLoss n => Sys2Proof.Machine.execBitLockLoss n s
  | .frameReceive n => Sys2Proof.Machine.execFrameReceive n s
  | .runaway n => Sys2Proof.Machine.execRunaway n s
  | .elastic n => Sys2Proof.Machine.execElastic n s
  | .margin n fom => Sys2Proof.Machine.execMargin n fom s
  | .adaptStep n fom ctle t1 t2 t3 t4 t5 => Sys2Proof.Machine.execAdaptStep n fom ctle t1 t2 t3 t4 t5 s
  | .laneRetrain n => Sys2Proof.Machine.execLaneRetrain n s
  | .laneTestSet n loop pat chk => Sys2Proof.Machine.execLaneTestSet n loop pat chk s
  | .simplexPhaseEnd n => Sys2Proof.Machine.execSimplexPhaseEnd n s
  | .egressFrameSent n => Sys2Proof.Machine.execEgressFrameSent n s
  | .samplesFrame q => Sys2Proof.Machine.execSamplesFrame q s
  | .skewExpiry slot b => Sys2Proof.Machine.execSkewExpiry slot b s
  | .channelBlockRelease slot b => Sys2Proof.Machine.execChannelBlockRelease slot b s
  | .stagingFree slot b => Sys2Proof.Machine.execStagingFree slot b s
  | .monRestart => Sys2Proof.Machine.execMonRestart s
  | .monitorRestart => Sys2Proof.Machine.execMonitorRestart s
  | .dwellWindowReady m old => Sys2Proof.Machine.execDwellWindowReady m old s
  | .arrayWindowStart => Sys2Proof.Machine.execArrayWindowStart s
  | .roundReadStart => Sys2Proof.Machine.execRoundReadStart s
  | .orderIssue t waited => Sys2Proof.Machine.execOrderIssue t waited s
  | .tileRoundStart t waited => Sys2Proof.Machine.execTileRoundStart t waited s
  | .orderExecute t parity stalled => Sys2Proof.Machine.execOrderExecute t parity stalled s
  | .passEnd t => Sys2Proof.Machine.execPassEnd t s
  | .shadowDrain t stalled => Sys2Proof.Machine.execShadowDrain t stalled s
  | .writebackRetire t stalled => Sys2Proof.Machine.execWritebackRetire t stalled s
  | .spill w waited => Sys2Proof.Machine.execSpill w waited s
  | .spillAck w => Sys2Proof.Machine.execSpillAck w s
  | .fenceRetire t => Sys2Proof.Machine.execFenceRetire t s
  | .drainRetire t => Sys2Proof.Machine.execDrainRetire t s
  | .checkPeriod => Sys2Proof.Machine.execCheckPeriod s
  | .checkNow => Sys2Proof.Machine.execCheckNow s
  | .check t pass => Sys2Proof.Machine.execCheck t pass s
  | .parity p off => Sys2Proof.Machine.execParity p off s
  | .retireReq j bits => Sys2Proof.Machine.execRetireReq j bits s
  | .integrationBoundary x => Sys2Proof.Machine.execIntegrationBoundary x s
  | .bankTablesRewritten k => Sys2Proof.Machine.execBankTablesRewritten k s
  | .drainStart => Sys2Proof.Machine.execDrainStart s
  | .folioDone => Sys2Proof.Machine.execFolioDone s
  | .folioEgressDone k => Sys2Proof.Machine.execFolioEgressDone k s
  | .stageRelease k => Sys2Proof.Machine.execStageRelease k s
  | .beamReadout t => Sys2Proof.Machine.execBeamReadout t s
  | .late t slot b => Sys2Proof.Machine.execLate t slot b s
  | .vbeamFrameStart n => Sys2Proof.Machine.execVbeamFrameStart n s
  | .vdrop => Sys2Proof.Machine.execVdrop s
  | .dbeamSend => Sys2Proof.Machine.execDbeamSend s
  | .cand => Sys2Proof.Machine.execCand s
  | .switchRequest p => Sys2Proof.Machine.execSwitchRequest p s
  | .weightSwitch => Sys2Proof.Machine.execWeightSwitch s
  | .wloadSet p bits => Sys2Proof.Machine.execWloadSet p bits s
  | .pendingSwitch => Sys2Proof.Machine.execPendingSwitch s
  | .searchRestart => Sys2Proof.Machine.execSearchRestart s
  | .load => Sys2Proof.Machine.execLoad s
  | .loadComplete ok => Sys2Proof.Machine.execLoadComplete ok s
  | .verify => Sys2Proof.Machine.execVerify s
  | .verifyComplete => Sys2Proof.Machine.execVerifyComplete s
  | .store => Sys2Proof.Machine.execStore s
  | .storeComplete readBack => Sys2Proof.Machine.execStoreComplete readBack s
  | .setBoot => Sys2Proof.Machine.execSetBoot s
  | .noBoot => Sys2Proof.Machine.execNoBoot s
  | .schedule => Sys2Proof.Machine.execSchedule s
  | .cancel => Sys2Proof.Machine.execCancel s
  | .clear => Sys2Proof.Machine.execClear s
  | .acceded => Sys2Proof.Machine.execAcceded s
  | .remap => Sys2Proof.Machine.execRemap s
  | .resumed => Sys2Proof.Machine.execResumed s
  | .helloSend p => Sys2Proof.Machine.execHelloSend p s
  | .hello p b => Sys2Proof.Machine.execHello p b s
  | .helloTimeout p => Sys2Proof.Machine.execHelloTimeout p s
  | .chainLinkLoss p to' => Sys2Proof.Machine.execChainLinkLoss p to' s
  | .enum b => Sys2Proof.Machine.execEnum b s
  | .enumEnd b => Sys2Proof.Machine.execEnumEnd b s
  | .enumTimeout => Sys2Proof.Machine.execEnumTimeout s
  | .versionSet b => Sys2Proof.Machine.execVersionSet b s
  | .chainEnum => Sys2Proof.Machine.execChainEnum s
  | .chainForce => Sys2Proof.Machine.execChainForce s
  | .clearAddr => Sys2Proof.Machine.execClearAddr s
  | .chainEnumWaitTimeout => Sys2Proof.Machine.execChainEnumWaitTimeout s
  | .sync pos b => Sys2Proof.Machine.execSync pos b s
  | .syncFu b => Sys2Proof.Machine.execSyncFu b s
  | .dreq pos b => Sys2Proof.Machine.execDreq pos b s
  | .dresp b => Sys2Proof.Machine.execDresp b s
  | .stampSend pos => Sys2Proof.Machine.execStampSend pos s
  | .txqSend p => Sys2Proof.Machine.execTxqSend p s
  | .rxqPop => Sys2Proof.Machine.execRxqPop s
  | .chainAccede modes => Sys2Proof.Machine.execChainAccede modes s
  | .chainSnap modes => Sys2Proof.Machine.execChainSnap modes s
  | .chainCancel modes => Sys2Proof.Machine.execChainCancel modes s
  | .chainRepeat => Sys2Proof.Machine.execChainRepeat s
  | .accede b => Sys2Proof.Machine.execAccede b s
  | .snap b => Sys2Proof.Machine.execSnap b s
  | .chainCancelReceive b => Sys2Proof.Machine.execChainCancelReceive b s
  | .report b => Sys2Proof.Machine.execReport b s
  | .cmdTimeout => Sys2Proof.Machine.execCmdTimeout s
  | .mbox p b => Sys2Proof.Machine.execMbox p b s
  | .mboxAck p b => Sys2Proof.Machine.execMboxAck p b s
  | .mapApply => Sys2Proof.Machine.execMapApply s
  | .initialisingScrubDone => Sys2Proof.Machine.execInitialisingScrubDone s
  | .hbmRequest cls src tag hint wr off data => Sys2Proof.Machine.execHbmRequest cls src tag hint wr off data s
  | .hbmRequestComplete k fault => Sys2Proof.Machine.execHbmRequestComplete k fault s
  | .hbmAgePromote k => Sys2Proof.Machine.execHbmAgePromote k s
  | .pageTimeout pc bank => Sys2Proof.Machine.execPageTimeout pc bank s
  | .refreshDue pc bank put => Sys2Proof.Machine.execRefreshDue pc bank put s
  | .hbmTemperatureRead t0 t1 => Sys2Proof.Machine.execHbmTemperatureRead t0 t1 s
  | .scrubPeriod => Sys2Proof.Machine.execScrubPeriod s
  | .scrubNow => Sys2Proof.Machine.execScrubNow s
  | .scrubDone fixed bad => Sys2Proof.Machine.execScrubDone fixed bad s
  | .rateChange v => Sys2Proof.Machine.execRateChange v s
  | .rateChanged => Sys2Proof.Machine.execRateChanged s
  | .trainingPhaseDone pc pass rfm moved => Sys2Proof.Machine.execTrainingPhaseDone pc pass rfm moved s
  | .matrixTransaction m id qos hint wr addr data => Sys2Proof.Machine.execMatrixTransaction m id qos hint wr addr data s
  | .matrixResponse k => Sys2Proof.Machine.execMatrixResponse k s
  | .timeout k => Sys2Proof.Machine.execTimeout k s
  | .matrixAgePromote k => Sys2Proof.Machine.execMatrixAgePromote k s
  | .saffronWindow => Sys2Proof.Machine.execSaffronWindow s
  | .remapWrite v => Sys2Proof.Machine.execRemapWrite v s
  | .carrelWindowAccess m id qos j off wr data => Sys2Proof.Machine.execCarrelWindowAccess m id qos j off wr data s
  | .aliasWrite m id qos k off data => Sys2Proof.Machine.execAliasWrite m id qos k off data s
  | .registerBridgeAccess m id qos off wr data => Sys2Proof.Machine.execRegisterBridgeAccess m id qos off wr data s
  | .dmaEnable n on => Sys2Proof.Machine.execDmaEnable n on s
  | .dmaStop n => Sys2Proof.Machine.execDmaStop n s
  | .dmaResume n => Sys2Proof.Machine.execDmaResume n s
  | .doorbell n => Sys2Proof.Machine.execDoorbell n s
  | .dmaCfgWrite n which v => Sys2Proof.Machine.execDmaCfgWrite n which v s
  | .descriptorFetch n host ok => Sys2Proof.Machine.execDescriptorFetch n host ok s
  | .dmaBurst cyc => Sys2Proof.Machine.execDmaBurst cyc s
  | .dmaReadResponse n host ok => Sys2Proof.Machine.execDmaReadResponse n host ok s
  | .dmaWriteResponse n => Sys2Proof.Machine.execDmaWriteResponse n s
  | .fenceTimeout n => Sys2Proof.Machine.execFenceTimeout n s
  | .dmaErr n wr beat => Sys2Proof.Machine.execDmaErr n wr beat s
  | .leaseRenew m v => Sys2Proof.Machine.execLeaseRenew m v s
  | .leaseClaim m v => Sys2Proof.Machine.execLeaseClaim m v s
  | .leaseExpiry => Sys2Proof.Machine.execLeaseExpiry s
  | .yield m => Sys2Proof.Machine.execYield m s
  | .curatorHold c => Sys2Proof.Machine.execCuratorHold c s
  | .curatorRelease c => Sys2Proof.Machine.execCuratorRelease c s
  | .failoverDone m => Sys2Proof.Machine.execFailoverDone m s
  | .failoverSlow => Sys2Proof.Machine.execFailoverSlow s
  | .healthWrite m c v => Sys2Proof.Machine.execHealthWrite m c v s
  | .healthBad c => Sys2Proof.Machine.execHealthBad c s
  | .tcmUe c => Sys2Proof.Machine.execTcmUe c s
  | .ckptWrite m v => Sys2Proof.Machine.execCkptWrite m v s
  | .bootRomSelftest c pass => Sys2Proof.Machine.execBootRomSelftest c pass s
  | .post k d m v => Sys2Proof.Machine.execPost k d m v s
  | .lockRead k d m => Sys2Proof.Machine.execLockRead k d m s
  | .lockRelease k d m => Sys2Proof.Machine.execLockRelease k d m s
  | .noticeRead k d => Sys2Proof.Machine.execNoticeRead k d s
  | .ack k d m v => Sys2Proof.Machine.execAck k d m v s
  | .mailboxTimeout k d => Sys2Proof.Machine.execMailboxTimeout k d s
  | .cross k => Sys2Proof.Machine.execCross k s
  | .add p rd rs1 rs2 => Sys2Proof.Machine.execAdd p rd rs1 rs2 s
  | .sub p rd rs1 rs2 => Sys2Proof.Machine.execSub p rd rs1 rs2 s
  | .and p rd rs1 rs2 => Sys2Proof.Machine.execAnd p rd rs1 rs2 s
  | .or p rd rs1 rs2 => Sys2Proof.Machine.execOr p rd rs1 rs2 s
  | .xor p rd rs1 rs2 => Sys2Proof.Machine.execXor p rd rs1 rs2 s
  | .sll p rd rs1 rs2 => Sys2Proof.Machine.execSll p rd rs1 rs2 s
  | .srl p rd rs1 rs2 => Sys2Proof.Machine.execSrl p rd rs1 rs2 s
  | .sra p rd rs1 rs2 => Sys2Proof.Machine.execSra p rd rs1 rs2 s
  | .slt p rd rs1 rs2 => Sys2Proof.Machine.execSlt p rd rs1 rs2 s
  | .sltu p rd rs1 rs2 => Sys2Proof.Machine.execSltu p rd rs1 rs2 s
  | .mul p rd rs1 rs2 => Sys2Proof.Machine.execMul p rd rs1 rs2 s
  | .mulh p rd rs1 rs2 => Sys2Proof.Machine.execMulh p rd rs1 rs2 s
  | .mulhu p rd rs1 rs2 => Sys2Proof.Machine.execMulhu p rd rs1 rs2 s
  | .div p rd rs1 rs2 => Sys2Proof.Machine.execDiv p rd rs1 rs2 s
  | .divu p rd rs1 rs2 => Sys2Proof.Machine.execDivu p rd rs1 rs2 s
  | .rem p rd rs1 rs2 => Sys2Proof.Machine.execRem p rd rs1 rs2 s
  | .remu p rd rs1 rs2 => Sys2Proof.Machine.execRemu p rd rs1 rs2 s
  | .min p rd rs1 rs2 => Sys2Proof.Machine.execMin p rd rs1 rs2 s
  | .max p rd rs1 rs2 => Sys2Proof.Machine.execMax p rd rs1 rs2 s
  | .adds p rd rs1 rs2 => Sys2Proof.Machine.execAdds p rd rs1 rs2 s
  | .subs p rd rs1 rs2 => Sys2Proof.Machine.execSubs p rd rs1 rs2 s
  | .addi p rd rs1 imm => Sys2Proof.Machine.execAddi p rd rs1 imm s
  | .andi p rd rs1 imm => Sys2Proof.Machine.execAndi p rd rs1 imm s
  | .ori p rd rs1 imm => Sys2Proof.Machine.execOri p rd rs1 imm s
  | .xori p rd rs1 imm => Sys2Proof.Machine.execXori p rd rs1 imm s
  | .slti p rd rs1 imm => Sys2Proof.Machine.execSlti p rd rs1 imm s
  | .sltiu p rd rs1 imm => Sys2Proof.Machine.execSltiu p rd rs1 imm s
  | .lui p rd imm => Sys2Proof.Machine.execLui p rd imm s
  | .slli p rd rs1 sh => Sys2Proof.Machine.execSlli p rd rs1 sh s
  | .srli p rd rs1 sh => Sys2Proof.Machine.execSrli p rd rs1 sh s
  | .srai p rd rs1 sh => Sys2Proof.Machine.execSrai p rd rs1 sh s
  | .lb p g mode a imm => Sys2Proof.Machine.execLb p g mode a imm s
  | .lbu p g mode a imm => Sys2Proof.Machine.execLbu p g mode a imm s
  | .lh p g mode a imm => Sys2Proof.Machine.execLh p g mode a imm s
  | .lhu p g mode a imm => Sys2Proof.Machine.execLhu p g mode a imm s
  | .lw p g mode a imm => Sys2Proof.Machine.execLw p g mode a imm s
  | .ld p g mode a imm => Sys2Proof.Machine.execLd p g mode a imm s
  | .sb p g mode a imm => Sys2Proof.Machine.execSb p g mode a imm s
  | .sh p g mode a imm => Sys2Proof.Machine.execSh p g mode a imm s
  | .sw p g mode a imm => Sys2Proof.Machine.execSw p g mode a imm s
  | .sd p g mode a imm => Sys2Proof.Machine.execSd p g mode a imm s
  | .beq p rs1 rs2 disp => Sys2Proof.Machine.execBeq p rs1 rs2 disp s
  | .bne p rs1 rs2 disp => Sys2Proof.Machine.execBne p rs1 rs2 disp s
  | .blt p rs1 rs2 disp => Sys2Proof.Machine.execBlt p rs1 rs2 disp s
  | .bge p rs1 rs2 disp => Sys2Proof.Machine.execBge p rs1 rs2 disp s
  | .bltu p rs1 rs2 disp => Sys2Proof.Machine.execBltu p rs1 rs2 disp s
  | .bgeu p rs1 rs2 disp => Sys2Proof.Machine.execBgeu p rs1 rs2 disp s
  | .j p disp => Sys2Proof.Machine.execJ p disp s
  | .jal p disp => Sys2Proof.Machine.execJal p disp s
  | .jr p rs1 => Sys2Proof.Machine.execJr p rs1 s
  | .jalr p rd rs1 => Sys2Proof.Machine.execJalr p rd rs1 s
  | .seta p k rs1 rs2 => Sys2Proof.Machine.execSeta p k rs1 rs2 s
  | .geta p rd k => Sys2Proof.Machine.execGeta p rd k s
  | .getah p rd k => Sys2Proof.Machine.execGetah p rd k s
  | .setm p k rs1 => Sys2Proof.Machine.execSetm p k rs1 s
  | .getm p rd k => Sys2Proof.Machine.execGetm p rd k s
  | .adda p k rs1 => Sys2Proof.Machine.execAdda p k rs1 s
  | .mac p n rs1 rs2 conj neg cplx z => Sys2Proof.Machine.execMac p n rs1 rs2 conj neg cplx z s
  | .pow p n rs1 cplx => Sys2Proof.Machine.execPow p n rs1 cplx s
  | .aclr p n => Sys2Proof.Machine.execAclr p n s
  | .apack p rd n => Sys2Proof.Machine.execApack p rd n s
  | .amovre p rd n => Sys2Proof.Machine.execAmovre p rd n s
  | .amovim p rd n => Sys2Proof.Machine.execAmovim p rd n s
  | .ald p n rs1 rs2 => Sys2Proof.Machine.execAld p n rs1 rs2 s
  | .rdcsr p rd csr => Sys2Proof.Machine.execRdcsr p rd csr s
  | .wrcsr p rs1 csr => Sys2Proof.Machine.execWrcsr p rs1 csr s
  | .rdtime p rd => Sys2Proof.Machine.execRdtime p rd s
  | .rdsi p rd => Sys2Proof.Machine.execRdsi p rd s
  | .waitsi p rs1 => Sys2Proof.Machine.execWaitsi p rs1 s
  | .waitsiEnd p => Sys2Proof.Machine.execWaitsiEnd p s
  | .wfe p rs1 => Sys2Proof.Machine.execWfe p rs1 s
  | .wfeEnd e => Sys2Proof.Machine.execWfeEnd e s
  | .fence p => Sys2Proof.Machine.execFence p s
  | .trap p code => Sys2Proof.Machine.execTrap p code s
  | .storeErr p => Sys2Proof.Machine.execStoreErr p s
  | .eret p => Sys2Proof.Machine.execEret p s
  | .stop p => Sys2Proof.Machine.execStop p s
  | .bmov p rd aL aR inward sel => Sys2Proof.Machine.execBmov p rd aL aR inward sel s
  | .bmovComplete e k => Sys2Proof.Machine.execBmovComplete e k s
  | .bwait p => Sys2Proof.Machine.execBwait p s
  | .dMac p d => Sys2Proof.Machine.execDMac p d s
  | .dMacz p d => Sys2Proof.Machine.execDMacz p d s
  | .dMacy p d => Sys2Proof.Machine.execDMacy p d s
  | .dMacyz p d => Sys2Proof.Machine.execDMacyz p d s
  | .ftap p d => Sys2Proof.Machine.execFtap p d s
  | .ftapz p d => Sys2Proof.Machine.execFtapz p d s
  | .dPow p d => Sys2Proof.Machine.execDPow p d s
  | .dPowz p d => Sys2Proof.Machine.execDPowz p d s
  | .dMove p d => Sys2Proof.Machine.execDMove p d s
  | .loop p imm count rc len => Sys2Proof.Machine.execLoop p imm count rc len s
  | .cloveRun e => Sys2Proof.Machine.execCloveRun e s
  | .cloveHalt e => Sys2Proof.Machine.execCloveHalt e s
  | .cloveReset e => Sys2Proof.Machine.execCloveReset e s
  | .kick e => Sys2Proof.Machine.execKick e s
  | .cloveOutsideAccess m id qos e loc wr parity data => Sys2Proof.Machine.execCloveOutsideAccess m id qos e loc wr parity data s
  | .sourceRise k => Sys2Proof.Machine.execSourceRise k s
  | .sourceFall k => Sys2Proof.Machine.execSourceFall k s
  | .fastEntry c during => Sys2Proof.Machine.execFastEntry c during s
  | .normalEntry c => Sys2Proof.Machine.execNormalEntry c s
  | .normalExit c => Sys2Proof.Machine.execNormalExit c s
  | .moderationRelease g => Sys2Proof.Machine.execModerationRelease g s
  | .hostAck v => Sys2Proof.Machine.execHostAck v s
  | .msixUnmask v => Sys2Proof.Machine.execMsixUnmask v s
  | .pcieDstateChange d bme mse msix fmask pmeEn => Sys2Proof.Machine.execPcieDstateChange d bme mse msix fmask pmeEn s
  | .sleep => Sys2Proof.Machine.execSleep s
  | .wake written => Sys2Proof.Machine.execWake written s
  | .cold vddIo => Sys2Proof.Machine.execCold vddIo s
  | .warm => Sys2Proof.Machine.execWarm s
  | .rstNPulse => Sys2Proof.Machine.execRstNPulse s
  | .start sel head => Sys2Proof.Machine.execStart sel head s
  | .startStepDone us ok bad => Sys2Proof.Machine.execStartStepDone us ok bad s
  | .railTimeout => Sys2Proof.Machine.execRailTimeout s
  | .startRetry => Sys2Proof.Machine.execStartRetry s
  | .refWaitTimeout => Sys2Proof.Machine.execRefWaitTimeout s
  | .hostWaitTimeout => Sys2Proof.Machine.execHostWaitTimeout s
  | .vddIoLoss => Sys2Proof.Machine.execVddIoLoss s
  | .pcieReset => Sys2Proof.Machine.execPcieReset s
  | .testReset => Sys2Proof.Machine.execTestReset s
  | .slowRound diodes mv iout est avs => Sys2Proof.Machine.execSlowRound diodes mv iout est avs s
  | .fastRound diodes ps => Sys2Proof.Machine.execFastRound diodes ps s
  | .pmAlert bad => Sys2Proof.Machine.execPmAlert bad s
  | .thermtrip d => Sys2Proof.Machine.execThermtrip d s
  | .generatorDelivery slot b => Sys2Proof.Machine.execGeneratorDelivery slot b s
  | .snapshotRequest next => Sys2Proof.Machine.execSnapshotRequest next s
  | .snapshotLatch b => Sys2Proof.Machine.execSnapshotLatch b s
  | .snapDone => Sys2Proof.Machine.execSnapDone s
  | .pcieInboundRequest bar2 off wr relaxed tag data => Sys2Proof.Machine.execPcieInboundRequest bar2 off wr relaxed tag data s
  | .cplTimeout n => Sys2Proof.Machine.execCplTimeout n s
  | .fwCommit => Sys2Proof.Machine.execFwCommit s
  | .fwDone => Sys2Proof.Machine.execFwDone s
  | .fwStore => Sys2Proof.Machine.execFwStore s
  | .fwStoreComplete readBack => Sys2Proof.Machine.execFwStoreComplete readBack s
  | .setFirst => Sys2Proof.Machine.execSetFirst s
  | .bumpRollback => Sys2Proof.Machine.execBumpRollback s
  | .mgmtFrameReceive f arrival => Sys2Proof.Machine.execMgmtFrameReceive f arrival s
  | .txDoorbell => Sys2Proof.Machine.execTxDoorbell s
  | .mgmtFrameSent => Sys2Proof.Machine.execMgmtFrameSent s
  | .mgmtRateAlternate => Sys2Proof.Machine.execMgmtRateAlternate s
  | .bypassInstruction tdi => Sys2Proof.Machine.execBypassInstruction tdi s
  | .idcode tdi => Sys2Proof.Machine.execIdcode tdi s
  | .samplePreload pins tdi => Sys2Proof.Machine.execSamplePreload pins tdi s
  | .extest pins tdi => Sys2Proof.Machine.execExtest pins tdi s
  | .clamp tdi => Sys2Proof.Machine.execClamp tdi s
  | .highz tdi => Sys2Proof.Machine.execHighz tdi s
  | .extestPulse pins tdi => Sys2Proof.Machine.execExtestPulse pins tdi s
  | .extestTrain pins tdi => Sys2Proof.Machine.execExtestTrain pins tdi s
  | .bootRead tdi => Sys2Proof.Machine.execBootRead tdi s
  | .bitLock n => Sys2Proof.Machine.execBitLock n s
  | .illegalInstruction p why addr => Sys2Proof.Machine.execIllegalInstruction p why addr s
  | .remapEnd => Sys2Proof.Machine.execRemapEnd s
  | .forwardedMessage p b => Sys2Proof.Machine.execForwardedMessage p b s
  | .pcieLinkUp speed width => Sys2Proof.Machine.execPcieLinkUp speed width s
  | .mgmtLink up => Sys2Proof.Machine.execMgmtLink up s

end Sys2Proof.Machine
end

