-- ==== Sys2Proof/Machine/Tick.lean ====
section
/-!
DEFINITION. Machine/Tick.lean: what one 250 MHz tick of the time domain does (R18, R45, R46, R58, R67, R509, R516, R574, R690).
-/
namespace Sys2Proof.Machine

/-- Moves the offset still to be slewed one tick nearer to zero (R46). -/
def slewStep (left gain : Int) : Int :=
  if 0 ≤ left then max 0 (left + gain) else min 0 (left + gain)

/-- Whether TIME.HOLD_SECONDS counts: in LOST, and in HOLDOVER until it reaches TIME.HOLD_LIMIT (R58). -/
def State.holdCounts (s : State) : Bool :=
  s.fget F.TIME_STATE_STATE == 4 || (s.fget F.TIME_STATE_STATE == 3 && decide (s.rdN R.TIME_HOLD_SECONDS < s.holdLimit))

/-- One tick: a slew whose offset has reached zero is over; device time grows by TIME.INCR and a step that is due; a slew removes its part
of the offset; a pulse on PPS_OUT has one tick less left; TIME.HOLD_SECONDS counts (250,000,000 ticks to the second), and so do the lease,
the ages of the health words and the cycles of the Clove engines. -/
def idleTick (s : State) : State :=
  let s0 := s.slewDone
  let gain : Int := (s0.incr : Int) - 4 * 2 ^ 32
  let full := s0.holdCounts && s0.time.holdTicks + 1 == 250000000
  let s1 := { s0 with time := { s0.time with
    now := s0.time.now + BitVec.ofNat 96 s0.incr
    slewLeft := slewStep s0.time.slewLeft gain
    ppsLeft := s0.time.ppsLeft - 1
    holdTicks := if full then 0 else if s0.holdCounts then s0.time.holdTicks + 1 else s0.time.holdTicks } }
  (if full then s1.count R.TIME_HOLD_SECONDS else s1).stepTick.cloveTick.coreTick

end Sys2Proof.Machine
end

