-- ==== Sys2Proof/Machine/Step.lean ====
section
/-!
DEFINITION. Machine/Step.lean: one step takes the command at the front of the queue; with none waiting, one tick of the time
domain passes.
-/
namespace Sys2Proof.Machine

/-- One step: the front command's effect on the state with the queue's rest; on an empty queue, one 250 MHz tick (R45). -/
def step (s : State) : Host.Outcome State Fault Refusal :=
  match s.pending with
  | [] => .next (idleTick s)
  | c :: rest => exec c { s with pending := rest }

/-- `s` with the command that a table word spells at the front of its queue; the table gives no row any bits, so no word
spells one. -/
def State.withFetchWord (s : State) (nbits w : Nat) : State :=
  match Sys2Proof.decodeTableWord nbits w with
  | some c => { s with pending := c :: s.pending }
  | none => s

end Sys2Proof.Machine
end

