-- ==== Sys2Proof/Safety.lean ====
section
/-!
DEFINITION. Safety.lean: what claims are stated in: the canonical form of registers and memory, what every command leaves alone, and what
it is for a command to complete.
-/
namespace Sys2Proof.Machine

/-- The canonical form of memory: addresses rising, no byte listed that reads as its default. -/
def Memory.wf (s : State) : Bool := tabRising 0 s.mem && s.mem.all (fun c => decide (c.2 ≠ s.memDefault c.1))

/-- Registers and memory stand in their one canonical form, so that equal contents are equal data. -/
def State.Wf (s : State) : Prop := tabWf 0#32 s.regs = true ∧ Memory.wf s = true

/-- How `t` may come after `s` by a command's effect: the canonical form is kept, the queue is not touched, outputs are only added, and
free values are not used again. -/
def Follows (s t : State) : Prop :=
  (s.Wf → t.Wf) ∧ t.pending = s.pending ∧ (∃ l, t.out = s.out ++ l) ∧ s.fresh ≤ t.fresh

/-- Whether a next state, where an outcome has one, follows `s`. -/
def FollowsO (s : State) (o : Host.Outcome State Fault Refusal) : Prop := ∀ t, o = .next t → Follows s t

/-- Command `c` completes at `s` in a state that has property `P`. -/
def Completes (c : Instr) (s : State) (P : State → Prop) : Prop := ∃ t, exec c s = .next t ∧ P t

/-- Whether the next command of processor `p` is an instruction that it executes: it can execute, and its fetch is no exception. -/
def State.ready (s : State) (p : Proc) : Bool := s.executes p && (s.fetchFault p).isNone

/-- Every register but those listed reads as before. -/
def RegsKept (s t : State) (but : List Nat) : Prop := ∀ a, a ∉ but → t.rd a = s.rd a

/-- Every byte of memory reads as before. -/
def MemKept (s t : State) : Prop := ∀ a, t.ldb a = s.ldb a

/-- Every byte of memory outside [lo, lo + n) reads as before. -/
def MemKeptBut (s t : State) (lo n : Nat) : Prop := ∀ a, a < lo ∨ lo + n ≤ a → t.ldb a = s.ldb a

/-- The families of commands, by the parts of the device that they can change. -/
inductive Family where
  /-- Time sources, device time and its outputs (chapter 2). -/
  | time
  /-- Lanes and the chain ports (chapters 3, 9). -/
  | port
  /-- Frames, channel blocks and monitors (chapter 4). -/
  | ingest
  /-- The tiles and their sequencer (chapter 5). -/
  | array
  /-- Integrations, spills and folios (chapter 6). -/
  | accum
  /-- Beams, transients and egress (chapters 6, 7). -/
  | beam
  /-- Images, their checks and stores, and requests of accessions (chapter 8). -/
  | catalogue
  /-- Messages and commands of the Stack chain (chapter 9). -/
  | chain
  /-- The memory controller (chapter 10). -/
  | memory
  /-- Rounds of the power manager and temperatures (chapters 10, 16). -/
  | throttle
  /-- Transactions presented, promotion, budget windows and the remap (chapter 11). -/
  | matrix
  /-- Channel control and bursts (chapter 12). -/
  | dma
  /-- Mailboxes and locks (chapter 13). -/
  | mailbox
  /-- The lease and the health of the Curators (chapter 13). -/
  | lease
  /-- Mace: arithmetic, branches, accumulators, registers, LOOP, STOP and TRAP (chapter 14). -/
  | maceAlu
  /-- Mace: waits, returns, moves and illegal words (chapter 14). -/
  | maceWait
  /-- The three-bus instructions (chapter 14). -/
  | maceDsp
  /-- Run, halt, reset and kick of the engines (chapter 14). -/
  | clove
  /-- The interrupt controller (chapter 15). -/
  | interrupt
  /-- Firmware commands and the management port (chapter 17). -/
  | host
  /-- Snapshots (chapter 17). -/
  | snapshot
  /-- The test access port (chapter 18). -/
  | test
  /-- Commands that reach registers through the bus, change what is in force, or start and reset the device. -/
  | other
  deriving DecidableEq, Repr

/-- The family of a command. -/
def family : Instr → Family
  | .timeNowRead | .siNowRead | .siExpectRead | .slewEnd | .reacquire | .nextSecWrite .. | .ppsEdge .. | .vrefOffset ..
  | .sourceClockLoss .. | .ppsTimeout .. | .vrefTimeout .. | .qualGain .. | .qualWindowEnd .. | .revertWait | .frequencyLockHeld
  | .acqTimeout | .holdLimit | .ppsOutRise | .ppsOutFall => .time
  | .quirePllLoss .. | .quirePllLock .. | .detectPulse .. | .detectExit .. | .tsbSwitch .. | .trainDone .. | .trainTimeout ..
  | .lockTimeout .. | .exchTimeout .. | .trainingSequence .. | .capabilitySet .. | .characterReceive .. | .signalLoss ..
  | .bitLockLoss .. | .frameReceive .. | .runaway .. | .elastic .. | .margin .. | .adaptStep .. | .laneRetrain .. | .laneTestSet ..
  | .simplexPhaseEnd .. | .helloTimeout .. | .chainLinkLoss .. | .bitLock .. => .port
  | .blockDeadline .. | .samplesFrame .. | .skewExpiry .. | .channelBlockRelease .. | .stagingFree .. | .monRestart | .monitorRestart
  | .generatorDelivery .. => .ingest
  | .dwellWindowReady .. | .arrayWindowStart | .roundReadStart | .orderIssue .. | .tileRoundStart .. | .orderExecute .. | .passEnd ..
  | .shadowDrain .. | .writebackRetire .. | .fenceRetire .. | .drainRetire .. | .checkPeriod | .checkNow | .check .. | .parity ..
  | .retireReq .. => .array
  | .spill .. | .spillAck .. | .integrationBoundary .. | .bankTablesRewritten .. | .drainStart | .folioDone | .folioEgressDone ..
  | .stageRelease .. => .accum
  | .egressFrameSent .. | .beamReadout .. | .late .. | .vbeamFrameStart .. | .vdrop | .dbeamSend | .cand | .switchRequest ..
  | .weightSwitch | .wloadSet .. | .pendingSwitch | .searchRestart => .beam
  | .rwaWrite .. | .load | .loadComplete .. | .verify | .verifyComplete | .store | .storeComplete .. | .setBoot | .noBoot | .schedule
  | .cancel | .clear => .catalogue
  | .chainOffset .. | .helloSend .. | .hello .. | .enum .. | .enumEnd .. | .enumTimeout | .versionSet .. | .chainEnum | .chainForce
  | .clearAddr | .sync .. | .syncFu .. | .dreq .. | .dresp .. | .stampSend .. | .txqSend .. | .rxqPop | .chainAccede .. | .chainSnap ..
  | .chainCancel .. | .chainRepeat | .accede .. | .snap .. | .chainCancelReceive .. | .report .. | .cmdTimeout | .forwardedMessage .. => .chain
  | .mapApply | .initialisingScrubDone | .hbmRequest .. | .hbmRequestComplete .. | .hbmAgePromote .. | .pageTimeout .. | .refreshDue ..
  | .scrubPeriod | .scrubNow | .scrubDone .. | .rateChange .. | .rateChanged | .trainingPhaseDone .. => .memory
  | .hbmTemperatureRead .. | .slowRound .. | .fastRound .. | .pmAlert .. => .throttle
  | .matrixTransaction .. | .matrixAgePromote .. | .saffronWindow | .remapWrite .. => .matrix
  | .dmaResume .. | .doorbell .. | .dmaCfgWrite .. => .dma
  | .mbox .. | .mboxAck .. | .post .. | .lockRead .. | .lockRelease .. | .noticeRead .. | .ack .. | .mailboxTimeout .. | .cross .. => .mailbox
  | .leaseRenew .. | .leaseClaim .. | .leaseExpiry | .yield .. | .curatorHold .. | .curatorRelease .. | .failoverDone .. | .failoverSlow
  | .healthWrite .. | .healthBad .. | .tcmUe .. | .ckptWrite .. => .lease
  | .add .. | .sub .. | .and .. | .or .. | .xor .. | .sll .. | .srl .. | .sra .. | .slt .. | .sltu .. | .mul .. | .mulh .. | .mulhu ..
  | .div .. | .divu .. | .rem .. | .remu .. | .min .. | .max .. | .adds .. | .subs .. | .addi .. | .andi .. | .ori .. | .xori ..
  | .slti .. | .sltiu .. | .lui .. | .slli .. | .srli .. | .srai .. | .beq .. | .bne .. | .blt .. | .bge .. | .bltu .. | .bgeu .. | .j ..
  | .jal .. | .jr .. | .jalr .. | .seta .. | .geta .. | .getah .. | .setm .. | .getm .. | .adda .. | .mac .. | .pow .. | .aclr ..
  | .apack .. | .amovre .. | .amovim .. | .ald .. | .rdcsr .. | .wrcsr .. | .rdtime .. | .rdsi .. | .trap .. | .stop .. | .loop .. => .maceAlu
  | .waitsi .. | .waitsiEnd .. | .wfe .. | .wfeEnd .. | .fence .. | .storeErr .. | .eret .. | .bmov .. | .bwait ..
  | .illegalInstruction .. => .maceWait
  | .dMac .. | .dMacz .. | .dMacy .. | .dMacyz .. | .ftap .. | .ftapz .. | .dPow .. | .dPowz .. | .dMove .. => .maceDsp
  | .cloveRun .. | .cloveHalt .. | .cloveReset .. | .kick .. => .clove
  | .sourceRise .. | .sourceFall .. | .fastEntry .. | .normalEntry .. | .normalExit .. | .moderationRelease .. | .hostAck ..
  | .msixUnmask .. | .pcieDstateChange .. => .interrupt
  | .fwCommit | .fwDone | .fwStore | .fwStoreComplete .. | .setFirst | .bumpRollback | .mgmtFrameReceive .. | .txDoorbell
  | .mgmtFrameSent .. | .mgmtRateAlternate | .pcieLinkUp .. | .mgmtLink .. => .host
  | .snapshotRequest .. | .snapshotLatch .. | .snapDone => .snapshot
  | .testReset | .bypassInstruction .. | .idcode .. | .samplePreload .. | .extest .. | .clamp .. | .highz .. | .extestPulse ..
  | .extestTrain .. | .bootRead .. => .test
  | .registerWrite .. | .rcRead .. | .acceded | .remap | .resumed | .chainEnumWaitTimeout | .matrixResponse .. | .timeout ..
  | .carrelWindowAccess .. | .aliasWrite .. | .registerBridgeAccess .. | .dmaEnable .. | .dmaStop .. | .descriptorFetch .. | .dmaBurst ..
  | .dmaReadResponse .. | .dmaWriteResponse .. | .fenceTimeout .. | .dmaErr .. | .bootRomSelftest .. | .lb .. | .lbu .. | .lh ..
  | .lhu .. | .lw .. | .ld .. | .sb .. | .sh .. | .sw .. | .sd .. | .bmovComplete .. | .cloveOutsideAccess .. | .sleep | .wake ..
  | .cold .. | .warm | .rstNPulse | .start .. | .startStepDone .. | .railTimeout | .startRetry | .refWaitTimeout | .hostWaitTimeout
  | .vddIoLoss | .pcieReset | .thermtrip .. | .pcieInboundRequest .. | .cplTimeout .. | .remapEnd => .other

/-- The processor of an instruction of the family `maceAlu`. -/
def aluProc : Instr → Option Proc
  | .add p _ _ _ | .sub p _ _ _ | .and p _ _ _ | .or p _ _ _ | .xor p _ _ _ | .sll p _ _ _ | .srl p _ _ _ | .sra p _ _ _ | .slt p _ _ _
  | .sltu p _ _ _ | .mul p _ _ _ | .mulh p _ _ _ | .mulhu p _ _ _ | .div p _ _ _ | .divu p _ _ _ | .rem p _ _ _ | .remu p _ _ _
  | .min p _ _ _ | .max p _ _ _ | .adds p _ _ _ | .subs p _ _ _ | .addi p _ _ _ | .andi p _ _ _ | .ori p _ _ _ | .xori p _ _ _
  | .slti p _ _ _ | .sltiu p _ _ _ | .lui p _ _ | .slli p _ _ _ | .srli p _ _ _ | .srai p _ _ _ | .beq p _ _ _ | .bne p _ _ _
  | .blt p _ _ _ | .bge p _ _ _ | .bltu p _ _ _ | .bgeu p _ _ _ | .j p _ | .jal p _ | .jr p _ | .jalr p _ _ | .seta p _ _ _
  | .geta p _ _ | .getah p _ _ | .setm p _ _ | .getm p _ _ | .adda p _ _ | .mac p _ _ _ _ _ _ _ | .pow p _ _ _ | .aclr p _
  | .apack p _ _ | .amovre p _ _ | .amovim p _ _ | .ald p _ _ _ | .rdcsr p _ _ | .wrcsr p _ _ | .rdtime p _ | .rdsi p _ | .trap p _
  | .stop p | .loop p _ _ _ _ => some p
  | _ => none

end Sys2Proof.Machine
end

