-- ==== Sys2Proof/Certificates/Slice0/Obligations.lean ====
section
/-! DEFINITION. The statements for the provers: what the commands of the block do, what they leave as it was, and that every
one of them completes. Each docstring names the rules of the spec that the statement rests on; a clause that rests on a
choice of the model names its entry of the assumption log. `Completes c s P` says that `exec c s` answers a next state that
`P` holds of; `RegsKept s t l` that every register but those of `l` reads in `t` as in `s`; `MemKept s t` that every byte of
memory does. -/

open Sys2Proof Sys2Proof.Machine
set_option Elab.async false
set_option maxRecDepth 4000

/-- REGISTER_WRITE by any master to an open register outside the snapshot page that is not RWA and has no command of its own
replaces the bits that the register stores, clears the write-one-to-clear bits and sets the write-one-to-set bits where the
word has ones, and changes nothing else. RC_READ of an open read-clear register outside the snapshot page gives its value as
an output, clears it, and changes nothing else; one that the Catalogue in force does not have (an input at or above N, a
staging slot at or above STAGE_SLOTS) gives 0 and is left (log entry 224). `canonReg` takes the windows of a quire register
to the one under which it is held (R114). Each of these commands completes there: exec answers a next state, as given, under
conditions on the state and the operands alone. (R11, R114) -/
def Obligations.RegisterAccessByCode : Prop :=
  (∀ (m : Fin 21) (a : Nat) (v : Word) (r : RegRow) (s : State), s.regOpen a = true → ¬ (0x1B0000 ≤ canonReg a ∧
      canonReg a < 0x1C0000) → regRow (canonReg a) = some r → r.acc ≠ .rwa → s.writeSpecial m.val (canonReg a) v = none →
      exec (.registerWrite m a v) s = .next (s.wr (canonReg a) ((((s.rd (canonReg a) &&& ~~~r.store) ||| (v &&& r.store)) &&& ~~~(v &&& r.clr)) ||| (v &&& r.set1))))
  ∧ (∀ (m : Fin 21) (a : Nat) (s : State), s.regOpen a = true → ¬ (0x1B0000 ≤ canonReg a ∧ canonReg a < 0x1C0000) →
      (regRow (canonReg a)).map RegRow.acc = some .rc → s.hidden (canonReg a) = false →
      exec (.rcRead m a) s = .next ((s.clr (canonReg a)).emit (.read a (s.rd (canonReg a)).toNat)))
  ∧ (∀ (m : Fin 21) (a : Nat) (s : State), s.regOpen a = true → ¬ (0x1B0000 ≤ canonReg a ∧ canonReg a < 0x1C0000) →
      (regRow (canonReg a)).map RegRow.acc = some .rc → s.hidden (canonReg a) = true →
      exec (.rcRead m a) s = .next (s.emit (.read a 0)))

/-- TIME_NOW_READ leaves TIME.NOW_NS_LO, NOW_NS_HI and NOW_FRAC holding the three words of device time of one tick and gives the
low word as an output. SI_NOW_READ and SI_EXPECT_READ do the same with TIME.SI_NOW and with the largest SI whose start has
passed, in two words. No other register, and no other part of the state, changes. Each of these commands completes there:
exec answers a next state, as given, under conditions on the state and the operands alone. (R49, R69) -/
def Obligations.TimeReadsLatchWholeValue : Prop :=
  (∀ (s : State), Completes (.timeNowRead) s (fun t => t.rdN R.TIME_NOW_NS_LO = s.time.now.toNat / 2 ^ 32 % 2 ^ 32 ∧
      t.rdN R.TIME_NOW_NS_HI = s.time.now.toNat / 2 ^ 64 ∧ t.rdN R.TIME_NOW_FRAC = s.time.now.toNat % 2 ^ 32 ∧
      t.out = s.out ++ [.read R.TIME_NOW_NS_LO (s.time.now.toNat / 2 ^ 32 % 2 ^ 32)] ∧
      t = { s with regs := t.regs, out := t.out } ∧ RegsKept s t [R.TIME_NOW_NS_LO, R.TIME_NOW_NS_HI, R.TIME_NOW_FRAC]))
  ∧ (∀ (s : State), Completes (.siNowRead) s (fun t => t.rd64 R.TIME_SI_NOW_LO R.TIME_SI_NOW_HI = s.siNow ∧
      t.out = s.out ++ [.read R.TIME_SI_NOW_LO (s.siNow % 2 ^ 32)] ∧ t = { s with regs := t.regs, out := t.out } ∧
      RegsKept s t [R.TIME_SI_NOW_LO, R.TIME_SI_NOW_HI]))
  ∧ (∀ (s : State), Completes (.siExpectRead) s (fun t => t.rd64 R.TIME_SI_EXPECT_LO R.TIME_SI_EXPECT_HI = s.siExpect ∧
      t.out = s.out ++ [.read R.TIME_SI_EXPECT_LO (s.siExpect % 2 ^ 32)] ∧ t = { s with regs := t.regs, out := t.out } ∧
      RegsKept s t [R.TIME_SI_EXPECT_LO, R.TIME_SI_EXPECT_HI]))

/-- NEXT_SEC_WRITE stores the high word and sets NEXT_VALID. SLEW_END of a slew with no offset left ends it: TIME.INCR stands at
4.0 ns and SLEWING is clear, in the time-quality word too. REACQUIRE leaves ACQUIRING (the state word 1), unarmed and
unstepped, HOLD_SECONDS zero and the bit clear. FREQUENCY_LOCK_HELD in ACQUIRING, not in SLEEP, arms the step and changes
nothing else. HOLD_LIMIT in HOLDOVER with HOLD_SECONDS at the limit leaves LOST and raises HOLD_LIMIT and STATE.
QUAL_WINDOW_END clears the hit count of its source. ACQ_TIMEOUT in ACQUIRING with no other usable source ends in FREE_RUN
with no active source. REVERT_WAIT with a candidate in a lower slot than the active source and REVERTIVE set, not in SLEEP,
selects again. Each of these commands completes there: exec answers a next state, as given, under conditions on the state
and the operands alone. (R46, R52, R55, R58, R60) -/
def Obligations.TimeCommandsSteer : Prop :=
  (∀ (v : Word) (s : State),
      exec (.nextSecWrite v) s = .next ((s.wr R.TIME_NEXT_SEC_HI v).fput F.TIME_STATE_NEXT_VALID 1))
  ∧ (∀ (s : State), s.fbit F.TIME_STATE_SLEWING = true → s.time.slewLeft = 0 → Completes (.slewEnd) s (fun t =>
      t.time.slewLeft = 0 ∧ t.time.slewPpb = 0 ∧ t.rd R.TIME_INCR_INT = 4#32 ∧ t.rd R.TIME_INCR_FRAC = 0#32 ∧
      t.fbit F.TIME_STATE_SLEWING = false ∧ t = { s with regs := t.regs, time := t.time } ∧
      RegsKept s t [R.TIME_INCR_INT, R.TIME_INCR_FRAC, R.TIME_STATE, R.TIME_QUALITY]))
  ∧ (∀ (s : State), Completes (.reacquire) s (fun t => t.fget F.TIME_STATE_STATE = 1 ∧ t.time.armed = false ∧
      t.time.stepped = false ∧ t.rd R.TIME_HOLD_SECONDS = 0#32 ∧ t.fget F.TIME_CTRL_REACQUIRE = 0))
  ∧ (∀ (s : State), s.fget F.TIME_STATE_STATE = 1 → s.asleep = false →
      exec (.frequencyLockHeld) s = .next ({ s with time := { s.time with armed := true } }))
  ∧ (∀ (s : State), s.fget F.TIME_STATE_STATE = 3 → s.holdLimit ≤ s.rdN R.TIME_HOLD_SECONDS →
      Completes (.holdLimit) s (fun t => t.fget F.TIME_STATE_STATE = 4 ∧ t.fbit F.TIME_EVENT_HOLD_LIMIT = true ∧
      t.fbit F.TIME_EVENT_STATE = true ∧ RegsKept s t [R.TIME_STATE, R.TIME_EVENT, R.TIME_QUALITY]))
  ∧ (∀ (n : Fin 4) (s : State), exec (.qualWindowEnd n) s = .next (s.fput (F.TIME_SRC_STATUS_HITS n.val) 0))
  ∧ (∀ (s : State), s.fget F.TIME_STATE_STATE = 1 → s.nextUsable s.activeSrc = none → Completes (.acqTimeout) s (fun t =>
      t.fget F.TIME_STATE_STATE = 0 ∧ t.fbit F.TIME_STATE_ACTIVE_VALID = false ∧ t.fbit F.TIME_EVENT_ACQ_TIMEOUT = true))
  ∧ (∀ (c a : Nat) (s : State), s.candidate = some c → s.activeSrc = some a → s.fbit F.TIME_CTRL_REVERTIVE = true →
      s.slotOf c < s.slotOf a → s.asleep = false → exec (.revertWait) s = .next (s.reselect true))

/-- PPS_EDGE of SRC0 or SRC1, where it is the edge that PPS_FALL selects, gives one sample against the nearest whole second,
corrected by the source delay, with device time at the edge; a rising edge gives its interrupt pulse, selected or not;
VREF_OFFSET gives one sample of SRC3. SOURCE_CLOCK_LOSS, PPS_TIMEOUT and VREF_TIMEOUT disqualify their source as a loss of
signal, but in SLEEP. QUAL_GAIN of a present, disqualified source, not in SLEEP, sets QUALIFIED, clears LOS (log entry 211),
raises the event and selects again. PPS_OUT_RISE where PPS_OUT is driven and low and device time plus PPS_OFFSET has crossed
a whole second makes it high for PPS_WIDTH us of 250 ticks and gives its pulse; PPS_OUT_FALL with no tick of the pulse left
makes it low and changes nothing else. Each of these commands completes there: exec answers a next state, as given, under
conditions on the state and the operands alone. (R50, R51, R53, R67, R68, R72, R74) -/
def Obligations.TimeSourcesSampled : Prop :=
  (∀ (n : Fin 2) (phase : Fin 32) (fall : Bool) (s : State), s.fbit (F.TIME_SRC_CFG_PPS_FALL n.val) = fall →
      exec (.ppsEdge n ⟨phase, fall⟩) s = .next (let t := s.offsetSample n.val (nearestDiff ((s.time.now.toNat + phase.val * 2 ^ 29) / 2 ^ 29) 8000000000 - 8 * s.srcDelay n.val) ((s.time.now.toNat + phase.val * 2 ^ 29 : Nat)); if fall then t else t.emit (.pulse (512 + n.val))))
  ∧ (∀ (n : Fin 2) (phase : Fin 32) (fall : Bool) (s : State), s.fbit (F.TIME_SRC_CFG_PPS_FALL n.val) = !fall →
      exec (.ppsEdge n ⟨phase, fall⟩) s = .next (if fall then s else s.emit (.pulse (512 + n.val))))
  ∧ (∀ (v : Word) (s : State), exec (.vrefOffset v) s = .next (s.offsetSample 3 (v.toInt - 8 * s.srcDelay 3) 0))
  ∧ (∀ (n : Fin 2) (s : State), s.asleep = false → exec (.sourceClockLoss n) s = .next (s.disqualify n.val true))
  ∧ (∀ (n : Fin 2) (s : State), s.asleep = false → exec (.ppsTimeout n) s = .next (s.disqualify n.val true))
  ∧ (∀ (n : Fin 2) (s : State), s.asleep = false → exec (.vrefTimeout n) s = .next (s.disqualify (n.val + 2) true))
  ∧ (∀ (n : Fin 4) (s : State), s.qualified n.val = false → (tget {} s.time.srcs n.val).present = true → s.asleep = false →
      exec (.qualGain n) s = .next ((((s.fput (F.TIME_SRC_STATUS_QUALIFIED n.val) 1).fput (F.TIME_SRC_STATUS_LOS n.val) 0).raise F.TIME_EVENT_QUAL_GAIN).showChainTime.reselect false))
  ∧ (∀ (s : State), s.ppsDriven = true → s.ppsCrossed = true → s.time.ppsOut = false →
      exec (.ppsOutRise) s = .next ({ s with time := { s.time with ppsOut := true, ppsLeft := 250 * max 1 (s.fget F.TIME_OUT_PPS_WIDTH) } }.emit (.pulse 514)))
  ∧ (∀ (s : State), s.time.ppsLeft = 0 → exec (.ppsOutFall) s = .next ({ s with time := { s.time with ppsOut := false } }))

/-- For a lane (0 to 191) or a chain port (192, 193) in the state that the rule names: DETECT_PULSE in DETECT sends a
receiver-detection pulse; DETECT_EXIT in DETECT enters TRAIN, a lane at its start rate; TSB_SWITCH in TRAIN with the FOM at
ADAPT_MIN or above records the FOM and sends TSB; TRAIN_DONE in TRAIN sending TSB enters LOCK; TRAIN_TIMEOUT in TRAIN enters
TRAIN again, a lane at the next rate; LOCK_TIMEOUT in LOCK enters TRAIN, a lane raising LOCK_FAIL; BIT_LOCK in LOCK sets bit
lock; SIGNAL_LOSS in LOCK enters DETECT. A transmit-only lane is left out where the rule leaves it out. Each of these
commands completes there: exec answers a next state, as given, under conditions on the state and the operands alone. (R102,
R103, R104, R377) -/
def Obligations.BringUpMovesOn : Prop :=
  (∀ (n : Fin 194) (s : State), (n.val < 192 → s.laneState n.val = 1) → (192 ≤ n.val → s.portState (n.val - 192) = 1) →
      exec (.detectPulse n) s = .next (s.emit (.detectPulse n.val)))
  ∧ (∀ (n : Fin 194) (s : State), (n.val < 192 → s.laneState n.val = 1) → (192 ≤ n.val → s.portState (n.val - 192) = 1) →
      exec (.detectExit n) s = .next (State.portOr n (fun p => s.portTrain p) (fun k =>
      s.enterTrain k (s.startRate k) false)))
  ∧ (∀ (n : Fin 194) (fom : Byte) (s : State), (n.val < 192 → s.laneState n.val = 2) → (192 ≤ n.val →
      s.portState (n.val - 192) = 2) → s.fbit (F.LANE_CFG_SIMPLEX_TX n.val) = false →
      s.fget (F.LANE_FOM_CFG_ADAPT_MIN n.val) ≤ fom.toNat → exec (.tsbSwitch n fom) s = .next (State.portOr n (fun p =>
      (s.laneMod (192 + p) (fun l => { l with tsb := true, fom := fom.toNat })).portSequenceOut p true) (fun k =>
      ((s.setFom k fom).laneMod k (fun l => { l with tsb := true })).sendSequence k true)))
  ∧ (∀ (n : Fin 194) (s : State), (n.val < 192 → s.laneState n.val = 2) → (192 ≤ n.val → s.portState (n.val - 192) = 2) →
      (s.lane n.val).tsb = true → s.fbit (F.LANE_CFG_SIMPLEX_TX n.val) = false →
      exec (.trainDone n) s = .next (State.portOr n (fun p => s.portLock p false) (fun k =>
      (s.enterLock k false false).fput (F.LANE_STATE_BIT_LOCK k) 0)))
  ∧ (∀ (n : Fin 194) (s : State), (n.val < 192 → s.laneState n.val = 2) → (192 ≤ n.val → s.portState (n.val - 192) = 2) →
      s.fbit (F.LANE_CFG_SIMPLEX_TX n.val) = false → exec (.trainTimeout n) s = .next (State.portOr n (fun p =>
      s.portTrain p) (fun k =>
      (s.enterTrain k (s.nextRate k (s.lane k).rate) false).raiseIf (s.nextRate k (s.lane k).rate == s.startRate k) (F.LANE_EVENT_TRAIN_FAIL k))))
  ∧ (∀ (n : Fin 194) (s : State), (n.val < 192 → s.laneState n.val = 3) → (192 ≤ n.val → s.portState (n.val - 192) = 3) →
      exec (.lockTimeout n) s = .next (State.portOr n (fun p => s.portTrain p) (fun k =>
      (s.enterTrain k (s.lane k).rate false).raise (F.LANE_EVENT_LOCK_FAIL k))))
  ∧ (∀ (n : Fin 194) (s : State), (n.val < 192 → s.laneState n.val = 3) → (192 ≤ n.val → s.portState (n.val - 192) = 3) →
      exec (.bitLock n) s = .next (State.portOr n (fun p => s.laneMod (192 + p) (fun l =>
      { l with bitLock := true })) (fun k => s.fput (F.LANE_STATE_BIT_LOCK k) 1)))
  ∧ (∀ (n : Fin 194) (s : State), (n.val < 192 → s.laneState n.val = 3) → (192 ≤ n.val → s.portState (n.val - 192) = 3) →
      s.fbit (F.LANE_CFG_SIMPLEX_TX n.val) = false → exec (.signalLoss n) s = .next (State.portOr n (fun p =>
      s.portDetect p) (fun k => s.enterDetect k false)))

/-- BIT_LOCK_LOSS of a lane in LOCK to ACTIVE with bit lock, or of a port in LOCK or later with bit lock, enters TRAIN at the
rate in use. TRAINING_SEQUENCE and CHARACTER_RECEIVE are taken by the port or lane they name. CAPABILITY_SET in EXCHANGE
counts its invalid characters and ends a run of training sequences; where the lane then still stands in EXCHANGE, a set of
24 clean bytes with a right check word is taken and a damaged one ends the run of identical sets. FRAME_RECEIVE passes the
open frame of an ACTIVE lane, of fewer than 4,096 characters, to its quire. RUNAWAY closes one of 4,096 or more as BAD and
counts. ELASTIC on a receiving lane closes an open frame as BAD, counts and raises ELASTIC. EXCH_TIMEOUT in EXCHANGE of a
lane not held raises EXCH_FAIL and enters TRAIN at the same rate. Each of these commands completes there: exec answers a
next state, as given, under conditions on the state and the operands alone. (R82, R87, R88, R91, R94, R101, R102, R104) -/
def Obligations.ReceptionOnLanes : Prop :=
  (∀ (n : Fin 194) (s : State), (n.val < 192 → 3 ≤ s.laneState n.val ∧ s.laneState n.val ≤ 5 ∧
      s.fbit (F.LANE_STATE_BIT_LOCK n.val) = true) → (192 ≤ n.val → 3 ≤ s.portState (n.val - 192) ∧
      (s.lane n.val).bitLock = true) → exec (.bitLockLoss n) s = .next (State.portOr n (fun p => s.portTrain p) (fun k =>
      s.enterTrain k (s.lane k).rate false)))
  ∧ (∀ (n : Fin 194) (tsb : Bool) (fom : Byte) (errs : List (Fin 3)) (s : State),
      exec (.trainingSequence n tsb ⟨fom, errs⟩) s = .next (State.portOr n (fun p =>
      s.portSequence p tsb errs.length) (fun k => s.laneTrainingSequence k tsb fom errs)))
  ∧ (∀ (n : Fin 194) (g : BitVec 10) (mark : Fin 3) (s : State),
      exec (.characterReceive n g mark) s = .next (State.portOr n (fun p => s.portGroup p g.toNat) (fun k =>
      s.receiveGroup k g.toNat mark.val)))
  ∧ (∀ (n : Fin 192) (flags : Byte) (body : List Byte) (crc : Word) (errs : List (Fin 3)) (s : State),
      s.laneState n.val = 4 → s.fbit (F.LANE_CFG_SIMPLEX_TX n.val) = false →
      exec (.capabilitySet n flags body crc errs) s = .next (let s0 := (s.takeErrs n.val 32 errs).laneMod n.val (fun l => { l with tsaRun := 0, tsbRun := 0 }); if s0.laneState n.val ≠ 4 then s0 else if errs.isEmpty && body.length == 24 && crc32c (0xC3#8 :: flags :: body) == crc then s0.takeSet n.val flags body else s0.laneMod n.val (fun l => { l with lastSet := [], setRun := 0, ackRun := 0 })))
  ∧ (∀ (n : Fin 192) (f : RxFrame) (s : State), (s.lane n.val).frame = some f → s.laneState n.val = 5 → f.len < 4096 →
      exec (.frameReceive n) s = .next (s.laneDeliver n.val f))
  ∧ (∀ (n : Fin 192) (f : RxFrame) (s : State), s.laneState n.val = 5 → (s.lane n.val).frame = some f → 4096 ≤ f.len →
      exec (.runaway n) s = .next ((s.closeBad n.val).count (R.LANE_RUNAWAY n.val)))
  ∧ (∀ (n : Fin 192) (s : State), s.fbit (F.LANE_CFG_SIMPLEX_TX n.val) = false → 2 ≤ s.laneState n.val →
      exec (.elastic n) s = .next (((s.closeBad n.val).count (R.LANE_ELASTIC_COUNT n.val)).raise (F.LANE_EVENT_ELASTIC n.val)))
  ∧ (∀ (n : Fin 192) (s : State), s.laneState n.val = 4 → s.fbit (F.LANE_STATE_HOLDING n.val) = false →
      s.fbit (F.LANE_CFG_SIMPLEX_TX n.val) = false →
      exec (.exchTimeout n) s = .next ((s.enterTrain n.val (s.lane n.val).rate false).raise (F.LANE_EVENT_EXCH_FAIL n.val)))

/-- QUIRE_PLL_LOSS of a locked PLL clears the lock, counts, and puts the eight lanes OFF, each raising PLL_LOSS. QUIRE_PLL_LOCK
with enabled lanes, not in SLEEP, sets the lock, and enabled lanes in OFF enter DETECT. MARGIN in ACTIVE of a lane that
receives below LANE.FOM_CFG.MARGIN records the FOM, raises MARGIN once, and disarms it. ADAPT_STEP in ACTIVE of a lane that
receives leaves the FOM as given, and with FREEZE set records the FOM alone. LANE_RETRAIN enters TRAIN from ACTIVE, and
elsewhere leaves the bit set. LANE_TEST_SET outside SELFTEST on an enabled lane is refused with CTRL_REFUSED; with EN = 0 or
in SELFTEST a loop setting enters PATTERN, its pattern starting at a free place, and without a pattern and a far-end loop
the lane sends pairs. SIMPLEX_PHASE_END of a transmit-only lane in TRAIN sends TSB, then enters EXCHANGE. Each of these
commands completes there: exec answers a next state, as given, under conditions on the state and the operands alone. (R81,
R102, R104, R105, R106, R107, R108, R110) -/
def Obligations.LaneControlAndPll : Prop :=
  (∀ (q : Fin 24) (s : State), s.fbit (F.QUIRE_STATUS_PLL_LOCK q.val) = true →
      exec (.quirePllLoss q) s = .next (((s.fput (F.QUIRE_STATUS_PLL_LOCK q.val) 0).count (R.QUIRE_PLL_LOSS_COUNT q.val)).forEach (List.range 8) (fun u k =>
      (u.enterOff (8 * q.val + k) false).raise (F.LANE_EVENT_PLL_LOSS (8 * q.val + k)))))
  ∧ (∀ (q : Fin 24) (s : State), (s.enabledLanes q.val).isEmpty = false → s.mode ≠ 0 →
      exec (.quirePllLock q) s = .next ((s.fput (F.QUIRE_STATUS_PLL_LOCK q.val) 1).forEach (s.enabledLanes q.val) (fun u n =>
      if u.laneState n = 0 then u.enterDetect n false else u)))
  ∧ (∀ (n : Fin 192) (fom : Byte) (s : State), s.laneState n.val = 5 → fom.toNat < s.fget (F.LANE_FOM_CFG_MARGIN n.val) →
      s.fbit (F.LANE_CFG_SIMPLEX_TX n.val) = false →
      exec (.margin n fom) s = .next (((s.setFom n.val fom).raiseIf (!(s.lane n.val).marginOff) (F.LANE_EVENT_MARGIN n.val)).laneMod n.val (fun l =>
      { l with marginOff := true })))
  ∧ (∀ (n : Fin 192) (fom : Byte) (ctle : BitVec 4) (t1 t2 t3 t4 t5 : BitVec 5) (s : State), s.laneState n.val = 5 →
      s.fbit (F.LANE_CFG_SIMPLEX_TX n.val) = false → Completes (.adaptStep n fom ctle t1 t2 t3 t4 t5) s (fun t =>
      t.fget (F.LANE_FOM_FOM n.val) = fom.toNat ∧ (s.fbit (F.LANE_CTRL_FREEZE n.val) = true → t = s.setFom n.val fom)))
  ∧ (∀ (n : Fin 192) (s : State), exec (.laneRetrain n) s = .next (if s.laneState n.val = 5 then
      s.enterTrain n.val (s.lane n.val).rate false else s.fput (F.LANE_CTRL_RETRAIN n.val) 1))
  ∧ (∀ (n : Fin 192) (loop : BitVec 2) (pat : BitVec 3) (chk : Bool) (s : State), (s.mode = 5 ∨
      s.fbit (F.LANE_CFG_EN n.val) = false) → loop.toNat ≠ 0 →
      exec (.laneTestSet n loop pat chk) s = .next (let p := if 5 ≤ pat.toNat then 0 else pat.toNat; let s2 := ((((((s.fput (F.LANE_CTRL_LOOP n.val) loop.toNat).fput (F.LANE_CTRL_PAT n.val) pat.toNat).fput (F.LANE_CTRL_PAT_CHK n.val) (b2n chk)).leaveActive n.val false).dropLocks n.val).laneSet n.val 6).laneMod n.val (fun l => { l with prbs := 0, txPrbs := Config.freeNat s.fresh % (2 ^ (prbsTaps p).1 - 1) + 1 }); (if p = 0 ∧ loop.toNat ≠ 2 then s2.send n.val pairChars true else s2).tick1))
  ∧ (∀ (n : Fin 192) (loop : BitVec 2) (pat : BitVec 3) (chk : Bool) (s : State), s.mode ≠ 5 →
      s.fbit (F.LANE_CFG_EN n.val) = true →
      exec (.laneTestSet n loop pat chk) s = .next (s.raise (F.LANE_EVENT_CTRL_REFUSED n.val)))
  ∧ (∀ (n : Fin 192) (s : State), s.fbit (F.LANE_CFG_SIMPLEX_TX n.val) = true → s.laneState n.val = 2 →
      exec (.simplexPhaseEnd n) s = .next (if (s.lane n.val).tsb then s.enterExchange n.val else (s.laneMod n.val (fun l =>
      { l with tsb := true })).sendSequence n.val true))

/-- LOAD of an EMPTY, LOADED or VERIFIED shadow from a source other than the reserved one leaves it LOADING, with no image and
the source, address and length of the copy held; in any other state it is refused with INVALID. LOAD_COMPLETE of a copy of a
store slot of lawful length without an error makes it LOADED with the bytes of the slot and raises LOADED; with an error it
ends EMPTY with SOURCE_ERROR. VERIFY of a LOADED shadow leaves it VERIFYING. VERIFY_COMPLETE shows the digest, and then
leaves it VERIFIED with REJECT clear and VERIFIED raised where every check passes, and rejects it with what the failing
check reports where one fails. CLEAR leaves it EMPTY with no image. A write of an RWA register is staged in the image of a
LOADED or VERIFIED shadow, which stands LOADED, and is refused in any other state. Each of these commands completes there:
exec answers a next state, as given, under conditions on the state and the operands alone. (R347, R349, R352, R353, R354) -/
def Obligations.ShadowImageLoadsAndIsJudged : Prop :=
  (∀ (s : State), [0, 2, 4].contains s.shadowSt = true → s.fget F.CAT_CTRL_SRC ≠ 3 → Completes (.load) s (fun t =>
      t.shadowSt = 1 ∧ t.cat.shadow = [] ∧
      t.cat.load = some (s.fget F.CAT_CTRL_SRC, s.rd64 R.CAT_LOAD_ADDR_LO R.CAT_LOAD_ADDR_HI, if s.fget F.CAT_CTRL_SRC = 0 then
      s.rdN R.CAT_LOAD_LEN % 2 ^ 24 else leNat (s.storeBytes (catSlotAt (s.fget F.CAT_CTRL_SRC - 1) + 8) 4)) ∧
      RegsKept s t [R.CAT_STATUS]))
  ∧ (∀ (s : State), [0, 2, 4].contains s.shadowSt = false → exec (.load) s = .next (s.refuse 0x31))
  ∧ (∀ (off len src : Nat) (s : State), s.shadowSt = 1 → s.cat.load = some (src, off, len) → src ≠ 0 → (¬ (len = 0 ∨
      imgMax < len)) → Completes (.loadComplete true) s (fun t => t.shadowSt = 2 ∧
      t.cat.shadow = s.storeBytes (catSlotAt (src - 1)) len ∧ t.cat.load = none ∧ t.fbit F.CAT_EVENT_LOADED = true))
  ∧ (∀ (off len src : Nat) (s : State), s.shadowSt = 1 → s.cat.load = some (src, off, len) → src ≠ 0 → (¬ (len = 0 ∨
      imgMax < len)) → Completes (.loadComplete false) s (fun t => t.shadowSt = 0 ∧ t.cat.shadow = [] ∧ t.cat.load = none ∧
      t.fget F.CAT_STATUS_REASON = 0x30))
  ∧ (∀ (s : State), s.shadowSt = 2 → exec (.verify) s = .next (s.fput F.CAT_STATUS_SHADOW 3))
  ∧ (∀ (s : State), s.shadowSt = 3 →
      exec (.verifyComplete) s = .next (match s.verify s.cat.shadow s.chainAddr with | some f => (s.showShadowDigest (imgDigest s.cat.shadow)).reject f | none => (((s.showShadowDigest (imgDigest s.cat.shadow)).fput F.CAT_STATUS_REJECT 0).fput F.CAT_STATUS_SHADOW 4).raise F.CAT_EVENT_VERIFIED))
  ∧ (∀ (s : State), [0, 2, 4].contains s.shadowSt = true → Completes (.clear) s (fun t => t.shadowSt = 0 ∧
      t.cat.shadow = [] ∧ t.cat.load = none ∧ RegsKept s t [R.CAT_STATUS]))
  ∧ (∀ (r : Nat) (v : Word) (s : State) (xs : List SectSrc), isRwa r = true → [2, 4].contains s.shadowSt = true →
      imgReadable s.cat.shadow = true → stagedSects s.cat.shadow s.chainAddr r v.toNat = some xs →
      (layImage (if bitOf (imgN s.cat.shadow 56 4) 1 then imgN s.cat.shadow 56 4 - 2 else
      imgN s.cat.shadow 56 4) (imgN s.cat.shadow 60 4) xs).length ≤ imgMax → Completes (.rwaWrite r v) s (fun t =>
      t.shadowSt = 2 ∧ t.cat.shadow = layImage (if bitOf (imgN s.cat.shadow 56 4) 1 then imgN s.cat.shadow 56 4 - 2 else
      imgN s.cat.shadow 56 4) (imgN s.cat.shadow 60 4) xs ∧ RegsKept s t [R.CAT_STATUS]))
  ∧ (∀ (r : Nat) (v : Word) (s : State), isRwa r = true → [2, 4].contains s.shadowSt = false →
      exec (.rwaWrite r v) s = .next ((s.refuse 0x31).raise F.CAT_EVENT_WRITE_REFUSED))

/-- With no store write in progress and POWER.STATUS.PROG_OK: STORE of a VERIFIED image begins the write of the image to
STORE_SLOT; SET_BOOT begins the write of a boot block that names STORE_SLOT, NO_BOOT of one that names none; each sets
STORE_BUSY. STORE_COMPLETE ends the write in progress: STORE_BUSY clears and STORE_DONE is raised where the read back equals
what was written, else STORE_FAIL. SCHEDULE with no image VERIFIED is refused with NOT_VERIFIED; of a VERIFIED image it
requests the accession at the pass boundary at or above CAT.ACC_SI, and is refused with the code of the request where that
is not zero. CANCEL before x is reached leaves the shadow VERIFIED with no accession, CANCELLED raised and the code 0x28;
once x is reached it is refused and CANCEL_LATE is raised. Each of these commands completes there: exec answers a next
state, as given, under conditions on the state and the operands alone. (R355, R356, R360, R361, R612, R639) -/
def Obligations.CatalogueStoreAndSchedule : Prop :=
  (∀ (s : State), s.shadowSt = 4 → s.storeBlocked = false → Completes (.store) s (fun t =>
      t.cat.storing = some { off := catSlotAt (s.fget F.CAT_CTRL_STORE_SLOT), bytes := s.cat.shadow, kind := 0 } ∧
      t.fbit F.CAT_STATUS_STORE_BUSY = true ∧ RegsKept s t [R.CAT_STATUS]))
  ∧ (∀ (s : State), s.storeBlocked = false → exec (.setBoot) s = .next (s.startBoot 1 (fun b =>
      { b with catSlot := s.fget F.CAT_CTRL_STORE_SLOT + 1 })))
  ∧ (∀ (s : State), s.storeBlocked = false → exec (.noBoot) s = .next (s.startBoot 1 (fun b => { b with catSlot := 0 })))
  ∧ (∀ (l : List Byte) (w : StoreWrite) (s : State), s.cat.storing = some w → w.kind < 2 →
      exec (.storeComplete l) s = .next ((s.endStore w l).1.raise (if l.take w.bytes.length == w.bytes && !w.stopped then
      F.CAT_EVENT_STORE_DONE else F.CAT_EVENT_STORE_FAIL)))
  ∧ (∀ (s : State), s.shadowSt < 4 → exec (.schedule) s = .next (s.refuse 0x23))
  ∧ (∀ (s : State), s.shadowSt = 4 →
      exec (.schedule) s = .next (let r := s.requestAcc (s.boundaryAt (s.rd64 R.CAT_ACC_SI_LO R.CAT_ACC_SI_HI)) 0; if r.2 = 0 then r.1 else r.1.refuse r.2))
  ∧ (∀ (s : State), s.shadowSt = 5 → s.accReached = false → Completes (.cancel) s (fun t => t.shadowSt = 4 ∧
      t.cat.acc = none ∧ t.fget F.CAT_STATUS_REASON = 0x28 ∧ t.fbit F.CAT_EVENT_CANCELLED = true ∧
      RegsKept s t [R.CAT_STATUS, R.CAT_EVENT]))
  ∧ (∀ (s : State), s.shadowSt = 5 → s.accReached = true →
      exec (.cancel) s = .next ((s.refuse 0x31).raise F.CAT_EVENT_CANCEL_LATE))

/-- EGRESS_FRAME_SENT of a lane that carries a frame gives the frame as an output in the UIP version of the lane and its
characters with one pair after it, counts it for the lane and for its type, and the lane takes the next frame of its stream,
or sends pairs where there is none. VBEAM_FRAME_START puts on a free lane the ready VBEAM frame of the earliest deadline
that it can still meet and removes it from those ready. VDROP removes the first ready VBEAM frame that no lane of its stream
can start in time, counts it and raises VDROP. Each of these commands completes there: exec answers a next state, as given,
under conditions on the state and the operands alone. (R20, R278, R310) -/
def Obligations.EgressFramesLeaveByTheirStream : Prop :=
  (∀ (n : Fin 192) (f : EgressFrame) (s : State), (s.lane n.val).tx = some f →
      exec (.egressFrameSent n) s = .next (let s2 := (((((s.laneMod n.val (fun l => { l with tx := none })).emit (.frame n.val (f.bytes (s.fget (F.LANE_STATE_UIP n.val))) f.errs)).send n.val (frameChars (f.bytes (s.fget (F.LANE_STATE_UIP n.val))) f.errs) false).count (R.LANE_TX_FRAMES n.val)).count (sentCounter f.typ)).laneTake n.val; if (s2.lane n.val).tx.isNone then s2.send n.val pairChars true else s2))
  ∧ (∀ (n : Fin 192) (v : VFrame) (s : State), (s.lane n.val).tx.isSome = false → s.egressOk n.val = true →
      s.vbeamFor n.val = some v → exec (.vbeamFrameStart n) s = .next ((s.startFrame n.val v.frame).beamMod (fun b =>
      { b with vready := dropFirst (· == v) b.vready })))
  ∧ (∀ (v : VFrame) (s : State), s.beam.vready.find? (fun v => (s.laneSet' v.frame.stream 0x40).all (fun n =>
      !s.inLimit n v.deadline)) = some v → exec (.vdrop) s = .next (((s.beamMod (fun b =>
      { b with vready := dropFirst (· == v) b.vready })).count R.BEAM_VDROP).raise F.BEAM_EVENT_VDROP))

/-- SAMPLES_FRAME takes the oldest frame of the first lane, in round robin, of its quire that holds one, moves the round robin
past that lane, and passes the frame through the checker. SKEW_EXPIRY of an open channel block counts and raises SHORT and
closes it. BLOCK_DEADLINE of a block outside a gap, once its deadline has passed, closes each open block with DEADLINE,
closes those never opened without room, and leaves closed ones. CHANNEL_BLOCK_RELEASE releases a closed block that is next
of its slot. STAGING_FREE drops a released block that every position that must read it has read. Each of these commands
completes there: exec answers the next state given, under conditions on the state and the operands alone. MON_RESTART sets
its bit and resolves the restart SI to the next pass boundary; MONITOR_RESTART clears it once the index has reached that SI.
GENERATOR_DELIVERY of a slot and a block that is neither closed nor open, outside a gap and below the last sample index,
while the registers in force at the block make the generator deliver, opens a block of the generator and closes it complete
where there is room, and else counts STAGE_FULL and closes it empty. (R82, R141, R144, R159, R603) -/
def Obligations.ChannelBlocksOpenCloseAndRelease : Prop :=
  (∀ (q : Fin 24) (n : Nat) (f : RxFrame) (l : List RxFrame) (s : State), s.quirePick q.val = some n →
      (tget {} s.lanes n).rx = f :: l →
      exec (.samplesFrame q) s = .next ({ s with lanes := tmod {} s.lanes n (fun e => { e with rx := l }), quireNext := tset 0 s.quireNext q.val ((n + 1) % 8) }.takeFrame n f))
  ∧ (∀ (slot b : Nat) (c : ChanBlk) (s : State), s.blkOf slot b = some c → c.closed = false →
      exec (.skewExpiry slot b) s = .next (((s.count R.INGEST_SHORT).raise F.INGEST_EVENT_SHORT).closeBlk c))
  ∧ (∀ (b : Nat) (s : State), b * 128 < siEnd → (s.at (b * 128)).blockDeadline (b * 128) ≤ s.time.now.toNat →
      s.inGap (b * 128) = false → (s.at (b * 128)).nChan ≠ 0 →
      exec (.blockDeadline b) s = .next (s.forEach (List.range (s.at (b * 128)).nChan) (fun u slot =>
      if u.isClosed slot b then u else
      match u.blkOf slot b with | some c => ((u.count R.INGEST_DEADLINE).raise F.INGEST_EVENT_DEADLINE).closeBlk c | none => u.closeEmpty slot b)))
  ∧ (∀ (slot b : Nat) (c : ChanBlk) (s : State), s.blkOf slot b = some c → c.closed = true → c.released = false →
      s.nextRel slot b = b → exec (.channelBlockRelease slot b) s = .next (s.releaseBlk c))
  ∧ (∀ (slot b : Nat) (c : ChanBlk) (s : State), s.blkOf slot b = some c → c.released = true → s.allRead c = true →
      exec (.stagingFree slot b) s = .next ((s.dropBlk slot b).showStage))
  ∧ (∀ (s : State), exec (.monRestart) s = .next ((s.fput F.INGEST_CTRL_MON_RESTART 1).ingMod (fun g =>
      { g with restartReq := some s.nextBoundary, restarts := g.restarts ++ [(s.nextBoundary, true)] })))
  ∧ (∀ (x : Nat) (s : State), s.ingest.restartReq = some x → x ≤ s.siNow →
      exec (.monitorRestart) s = .next ((s.fput F.INGEST_CTRL_MON_RESTART 0).ingMod (fun g =>
      { g with restartReq := none })))
  ∧ (∀ (slot b : Nat) (s : State), (s.at (b * 128)).generating = true → s.isClosed slot b = false →
      slot < (s.at (b * 128)).nChan → s.inGap (b * 128) = false → s.blkOf slot b = none → b * 128 < siEnd →
      exec (.generatorDelivery slot b) s = .next (if s.openBytes + s.blkBytes b ≤ 12 * 2 ^ 20 then
      ((s.addBlk { slot := slot, b := b, gen := true, alloc := s.blkBytes b }).fput F.INGEST_STATUS_FULL 0).closeBlk { slot := slot, b := b, gen := true, alloc := s.blkBytes b } else
      ((s.count R.INGEST_STAGE_FULL).fput F.INGEST_STATUS_FULL 1).closeEmpty slot b))

/-- DWELL_WINDOW_READY of a window whose channel blocks have all been written takes its count away, abandons every run not
finished and every ready window not started, puts the window in the list of those ready, and issues the drains now due.
ARRAY_WINDOW_START with no unfinished run and no due retirement held takes the oldest ready window: due tiles retire, the
list of ready windows loses it, a run of the next number with the parts of the window and the sheds of the throttle joins
the runs not done, every tile starts on it, the dwells it sheds are noted, ARRAY.WINDOW names it, and the drains now due are
issued. ROUND_READ_START of the next live round u, its buffer free, a plan that is not resident and no uncorrectable unit in
what it reads, notes that u has been read and writes the group spans of every correlation tile that is not MISSING into
operand buffer u mod 2. TILE_ROUND_START of a correlation tile of the run, whose round before is released and whose next
round has been read, makes it the round of the tile and shows its channel and round in ARRAY.POS. Each of these commands
completes there: exec answers the next state given, under conditions on the state and the operands alone. (R165, R191, R192,
R193, R194) -/
def Obligations.WindowsAndRoundsStart : Prop :=
  (∀ (m : Nat) (old : Bool) (s : State), 0 < tget 0 (if old then s.ingest.eraOld else s.ingest.era).win m →
      s.eraBlocks m old ≤ tget 0 (if old then s.ingest.eraOld else s.ingest.era).win m →
      exec (.dwellWindowReady m old) s = .next (let s0 := s.ingMod (fun g => if old then { g with eraOld := { g.eraOld with win := terase g.eraOld.win m } } else { g with era := { g.era with win := terase g.era.win m } }); (((s0.forEach s0.array.runs (fun u r => if u.runDone r then u else u.abandonRun r)).dropReady).arrMod (fun a => { a with ready := a.ready ++ [(m, old)] })).drainIssue))
  ∧ (∀ (m : Nat) (old : Bool) (l : List (Nat × Bool)) (s : State), s.array.ready = (m, old) :: l →
      s.array.runs.any (fun r => !s.runDone r) = false → s.dueHeld (s.eraSpan m old).1 = false →
      exec (.arrayWindowStart) s = .next (let s0 := s.retireDue (s.eraSpan m old).1; let sh := s0.shedAt (m * s.pv.dwell); let r : WinRun := { id := s.array.nextRun, m := m, parts := s0.partsOf m (s.eraSpan m old).1 (s.eraSpan m old).2, till := (s.eraSpan m old).2, shedC := sh.slots, shedG := sh.groups }; let s1 := s0.arrMod (fun a => { a with ready := l, runs := a.runs.filter (fun q => s0.runHeld q.id) ++ [r], nextRun := a.nextRun + 1, till := max a.till (s.eraSpan m old).2, parity := [], tiles := a.tiles.map (fun e => (e.1, { e.2 with run := r.id, round := none, issRound := 0, issIdx := 0 })) }); let s2 := s1.forEach s1.corrTiles (fun u t => u.tileMod t (fun q => { q with run := r.id, round := none, issRound := 0, issIdx := 0 })); let s3 := s2.forEach (sh.slots.filter (fun c => decide (c < s.pv.nChan))) (fun u _ => u.noteShedDwell r); ((s3.wr64 R.ARRAY_WINDOW_LO R.ARRAY_WINDOW_HI m).showRunning).drainIssue))
  ∧ (∀ (u : Nat) (r : WinRun) (s : State), s.curRun = some r → s.nextRound r r.readU = some u → ((∀ x,
      (s.allRounds.filter (fun x => decide (x < u) && x % 2 == u % 2)).getLast? = some x → s.corrTiles.any (fun t =>
      !s.released r t x) = false)) → s.residentPlan = false →
      s.arcPoisoned (s.pv.cornerOffset (r.m % 2) (u / s.pv.rpd) (u % s.pv.rpd * s.pv.passLen) 0) (s.pv.nIn * s.pv.passLen * s.pv.sampleBytes) = false →
      exec (.roundReadStart) s = .next (let s1 := s.runMod r.id (fun q => { q with readU := u + 1 }); s1.forEach (s1.corrTiles.filter (fun t => !s.isMissing t)) (fun w t => (w.tileMod t (fun q => { q with badBuf := q.badBuf.filter (fun x => x != u % 2) })).forEach ((s.spans r t u).zipIdx) (fun w g => w.forEach (List.range s.pv.passLen) (fun w sp => w.stBytes (carrelAddr (s.phys t) + (u % 2) * s.bufBytes + g.2 * (32 * s.pv.passLen * s.pv.sampleBytes) + sp * (32 * s.pv.sampleBytes)) (s.arcBytes (s.pv.cornerOffset (r.m % 2) (u / s.pv.rpd) (u % s.pv.rpd * s.pv.passLen + sp) (32 * g.1)) (32 * s.pv.sampleBytes)))))))
  ∧ (∀ (t : Fin 400) (w u : Nat) (r : WinRun) (s : State), s.curRun = some r →
      s.nextRound r (match (s.tile t.val).round with | some x => x + 1 | none => 0) = some u → (s.tile t.val).run = r.id →
      s.corrTiles.contains t.val = true → ((∀ x, (s.tile t.val).round = some x → s.released r t.val x = true)) →
      u < r.readU →
      exec (.tileRoundStart t w) s = .next (((((s.countBy R.ARRAY_OPERAND_WAIT (units s.array.waitAcc w).1).arrMod (fun a =>
      { a with waitAcc := (units a.waitAcc w).2 })).tileMod t.val (fun q =>
      { q with round := some u })).fput F.ARRAY_POS_CHANNEL (u / s.pv.rpd)).fput F.ARRAY_POS_ROUND (u % s.pv.rpd)))

/-- ORDER_ISSUE to a position with a physical tile that is not MISSING and room in its queue: a CHECK that is due by CHECK_NOW,
or by the period with CHECK_EN, goes in at an idle queue; else an order that the sequencer holds; else, of a correlation
tile, the next PASS of the plan. ORDER_EXECUTE of a position with a physical tile and no order in progress: an order with a
parity error, or whose OP is 0 or above 6, is an order error; a PASS, with its cells free and its round that of the tile (or
a resident plan, or an abandoned dwell), becomes the order in progress; a BPASS runs into its sum buffer, counting a stall
only where it has fewer than 64 cycles; a SPILL is taken or stalls; a DRAIN leaves the queue; a FENCE or a CHECK becomes the
order in progress. PASS_END of a PASS in progress computes its sums, counts a tile that saturated, and moves the sums to the
shadow, or keeps them in the cells while the shadow is full. SHADOW_DRAIN of a shadow whose write-back has retired empties
it, and sums that waited move in. Each of these commands completes there: exec answers the next state given, under
conditions on the state and the operands alone. (R181, R182, R195, R203, R205, R209) -/
def Obligations.OrdersIssueAndExecute : Prop :=
  (∀ (t : Fin 400) (w : Bool) (s : State), (s.physOf t.val).isNone = false → s.isMissing t.val = false →
      (s.tile t.val).queue = [] →
      ((s.tile t.val).nowDue == 1 || (s.tile t.val).checkDue && s.fbit F.ARRAY_CTRL_CHECK_EN) = true →
      exec (.orderIssue t w) s = .next ((s.tileMod t.val (fun q =>
      { q with queue := checkOrder :: q.queue, checkDue := false, nowDue := if q.nowDue = 0 then 0 else 2 })).showQueue t.val))
  ∧ (∀ (t : Fin 400) (w : Bool) (o : QOrd) (l : List QOrd) (s : State), (s.physOf t.val).isNone = false →
      s.isMissing t.val = false → (s.tile t.val).queue.length < 16 →
      ((s.tile t.val).nowDue == 1 || (s.tile t.val).checkDue && s.fbit F.ARRAY_CTRL_CHECK_EN) = false →
      (s.tile t.val).todo = o :: l → exec (.orderIssue t w) s = .next (s.issueHeld t.val o l))
  ∧ (∀ (t : Fin 400) (w : Bool) (u i e : Nat) (r : WinRun) (s : State), (s.physOf t.val).isNone = false →
      s.isMissing t.val = false → (s.tile t.val).queue.length < 16 →
      ((s.tile t.val).nowDue == 1 || (s.tile t.val).checkDue && s.fbit F.ARRAY_CTRL_CHECK_EN) = false →
      (s.tile t.val).todo = [] → s.roleOf t.val = 1 → s.curRun = some r → s.nextPass r t.val = some (u, i, e) →
      exec (.orderIssue t w) s = .next ((s.tileMod t.val (fun q =>
      { q with queue := q.queue ++ [s.passOrder r t.val u e], issRound := u, issIdx := i + 1 })).showQueue t.val))
  ∧ (∀ (t : Fin 400) (p : Bool) (n : Nat) (o : QOrd) (l : List QOrd) (s : State), (s.physOf t.val).isNone = false →
      (s.tile t.val).queue = o :: l → (s.tile t.val).cur = none → (p || o.op == 0 || decide (6 < o.op)) = true →
      exec (.orderExecute t p n) s = .next (s.orderError t.val o))
  ∧ (∀ (t : Fin 400) (n : Nat) (o : QOrd) (l : List QOrd) (s : State), (s.physOf t.val).isNone = false →
      (s.tile t.val).queue = o :: l → (s.tile t.val).cur = none → o.op = 1 → (s.tile t.val).cells = none →
      (!s.dwellAbandoned o && !s.residentPlan && (s.tile t.val).round != some (s.ordRound o)) = false →
      exec (.orderExecute t false n) s = .next ((s.popOrder t.val).tileMod t.val (fun q => { q with cur := some o })))
  ∧ (∀ (t : Fin 400) (n : Nat) (o : QOrd) (l : List QOrd) (s : State), (s.physOf t.val).isNone = false →
      (s.tile t.val).queue = o :: l → (s.tile t.val).cur = none → o.op = 2 →
      (bitOf o.word.toNat 123 && (s.tile t.val).readable.any (fun r => r.2 == (s.tile t.val).buf)) = false →
      exec (.orderExecute t false n) s = .next (((((s.countWstall (if o.len * (if s.pv.w8 then 4 else 1) < 64 then n else
      0)).runBpass t.val o).popOrder t.val).bpassDone t.val o).countOrder t.val))
  ∧ (∀ (t : Fin 400) (n : Nat) (o : QOrd) (l : List QOrd) (s : State), (s.physOf t.val).isNone = false →
      (s.tile t.val).queue = o :: l → (s.tile t.val).cur = none → 3 ≤ o.op → o.op ≤ 6 →
      exec (.orderExecute t false n) s = .next (if o.op = 3 then s.takeSpill t.val n o else if o.op = 4 then
      s.popOrder t.val else (s.popOrder t.val).tileMod t.val (fun q => { q with cur := some o })))
  ∧ (∀ (t : Fin 400) (o : QOrd) (s : State), (s.tile t.val).cur = some o → o.op = 1 →
      exec (.passEnd t) s = .next (let u := (s.tileMod t.val (fun q => { q with cur := none })).doIf (s.passSums t.val o).sat (fun u => u.count (R.ARRAY_TILE_SAT (s.phys t.val))); if (s.tile t.val).shadow.isSome then u.tileMod t.val (fun q => { q with cells := some (s.passSums t.val o) }) else u.toShadow t.val (s.passSums t.val o)))
  ∧ (∀ (t : Fin 400) (n : Nat) (x : Sums) (s : State), (s.tile t.val).shadow = some x → s.array.wbs.any (fun w =>
      w.tile == t.val) = false → bitOf x.ord.word.toNat 120 = false →
      exec (.shadowDrain t n) s = .next (match (s.tile t.val).cells with | none => s.tileMod t.val (fun q => { q with shadow := none }) | some y => ((s.tileMod t.val (fun q => { q with shadow := none })).countBy (R.ARRAY_TILE_SHADOW_STALL (s.phys t.val)) n).toShadow t.val y))

/-- WRITEBACK_RETIRE of a write-back that is next in tag order takes it off the list, adds or writes its sums into its slot and
issues the drains now due. FENCE_RETIRE with no sums held, no write-back of its own outstanding and none of a lower tag into
its slot, and with SPILLS = 1 no spill of the tile in the path of its wing, ends the FENCE and counts the order.
DRAIN_RETIRE of the oldest DRAIN of a tile with nothing outstanding takes it off and counts the order. CHECK_PERIOD with
CHECK_EN counts every CHECK that found no moment and makes one due at each position; CHECK_NOW sets its bit and makes one
due at each, and the bit clears at once where none remains. CHECK of a CHECK in progress that passes ends it, counts it,
records the pass, and clears CHECK_NOW where none that it asked for remains. PARITY counts the error, raises it for the
logical tile that the physical one holds and records it in LAST_ERR; the second in one window makes the tile retire-pending.
RETIRE_REQ marks the tiles of the bits written 1, and leaves those that serve nothing. Each of these commands completes
there: exec answers the next state given, under conditions on the state and the operands alone. (R206, R207, R208, R210,
R211, R222, R223, R227) -/
def Obligations.ArrayRetiresChecksAndRetirement : Prop :=
  (∀ (t : Fin 400) (n : Nat) (x : Sums) (s : State), s.array.wbs.find? (fun w => w.tile == t.val) = some x →
      s.nextTag (x.ord.bits 119 111) (x.ord.bits 110 106) x.ord = true →
      exec (.writebackRetire t n) s = .next (((s.arrMod (fun a =>
      { a with wbs := a.wbs.filter (fun w => w.tile != t.val) })).retireWb x).drainIssue))
  ∧ (∀ (t : Fin 400) (n : Nat) (x : Sums) (s : State), s.array.wbs.find? (fun w => w.tile == t.val) = some x →
      s.nextTag (x.ord.bits 119 111) (x.ord.bits 110 106) x.ord = false →
      exec (.writebackRetire t n) s = .next ((s.slotStall t.val n (!x.noted)).arrMod (fun a =>
      { a with wbs := a.wbs.map (fun w => if w.tile == t.val then { w with noted := true } else w) })))
  ∧ (∀ (t : Fin 400) (o : QOrd) (s : State), (s.tile t.val).cur = some o → o.op = 5 → s.array.wbs.any (fun w =>
      w.tile == t.val || (w.ord.into t.val (o.bits 110 106) && tagBefore (w.ord.bits 31 16) (o.bits 31 16))) = false →
      (s.tile t.val).cells = none → (bitOf o.word.toNat 123 && (s.path (wingOf t.val)).any (fun x =>
      x.tile == t.val)) = false → exec (.fenceRetire t) s = .next ((s.tileMod t.val (fun q =>
      { q with cur := none })).countOrder t.val))
  ∧ (∀ (t : Fin 400) (d : Nat × Nat) (s : State), s.array.drains.find? (fun d => d.1 == t.val) = some d →
      s.drainHeld t.val d.2 = false → exec (.drainRetire t) s = .next ((s.arrMod (fun a =>
      { a with drains := a.drains.filter (fun x => x != d) })).countOrder t.val))
  ∧ (∀ (s : State), s.fbit F.ARRAY_CTRL_CHECK_EN = true → exec (.checkPeriod) s = .next (s.forEach s.positions (fun u t =>
      (u.doIf (u.tile t).checkDue (fun x => x.count R.ARRAY_CHECK_MISSED)).tileMod t (fun q =>
      { q with checkDue := true }))))
  ∧ (∀ (s : State), exec (.checkNow) s = .next (((s.fput F.ARRAY_CTRL_CHECK_NOW 1).forEach s.positions (fun u t =>
      u.tileMod t (fun q => { q with nowDue := 1 }))).checkNowDone))
  ∧ (∀ (p : Fin 400) (o : QOrd) (s : State), (s.tile p.val).cur = some o → o.op = 6 →
      exec (.check p true) s = .next (let u := (((((s.tileMod p.val (fun q => { q with cur := none, nowDue := if q.nowDue = 2 then 0 else q.nowDue })).countOrder p.val).count R.ARRAY_CHECKS).fput (F.ARRAY_TILE_CHECK_LAST_PASS (s.phys p.val)) 1).fput (F.ARRAY_TILE_CHECK_LAST_FAIL (s.phys p.val)) 0); (u.fput (F.ARRAY_TILE_CHECK_PASSED (s.phys p.val)) (satN 16 (u.fget (F.ARRAY_TILE_CHECK_PASSED (s.phys p.val)) + 1))).checkNowDone))
  ∧ (∀ (p : Fin 400) (off : Fin 0x40000) (s : State), s.array.parity.contains p.val = true →
      s.roleOf (s.fget (F.ARRAY_PMAP_LOGICAL p.val)) ≠ 1 →
      exec (.parity p off) s = .next ((((s.count (R.ARRAY_TILE_PARITY p.val)).doIf (decide (s.fget (F.ARRAY_PMAP_LOGICAL p.val) < 400)) (fun u =>
      u.raiseTev (s.fget (F.ARRAY_PMAP_LOGICAL p.val)) 1)).lastErr 2 p.val).retirePend p.val 2))
  ∧ (∀ (j : Fin 13) (bits : Word) (s : State),
      exec (.retireReq j bits) s = .next (s.forEach ((List.range 32).filter (fun b =>
      bitOf bits.toNat b && decide (32 * j.val + b < 400))) (fun u b => if u.serving (32 * j.val + b) then
      (u.setFlag R.ARRAY_RETIRE_REQ (32 * j.val + b) true).retirePend (32 * j.val + b) 4 else u)))

/-- INTEGRATION_BOUNDARY at an SI that the index has reached, the start of a window at which an integration opens, while one
that began before it is open and no accession is due at or below it, closes that one at it and opens the next; where a
snapshot is pending for an SI at or below it, the registers this changed keep their earlier values for the snapshot.
BANK_TABLES_REWRITTEN of the bank of an integration whose tables have not been rewritten fills its valid counts with zero
and its mark words with EMPTY, marks its tables rewritten and shows in WAITING the wings whose spill still waits. SPILL of
the oldest spill not yet written: where the tables of its bank have been rewritten it is written into its block and marked
written; where not, its wait is counted and BANK_WAIT raised; WAITING shows whether a spill of any wing still waits.
SPILL_ACK of a written spill at the head of the path takes it off, counts the order of its tile, and counts spills in units
of 1,024. Each of these commands completes there: exec answers the next state given, under conditions on the state and the
operands alone. (R240, R245, R246, R247, R248) -/
def Obligations.IntegrationsAndSpills : Prop :=
  (∀ (x : Nat) (s : State), s.corrRole = true → 0 < s.dwell → x % s.dwell = 0 → x ≤ s.siNow →
      s.opensAt (x / s.dwell) = true → s.accum.integs.any (fun i => i.e.isNone && decide (i.a < x)) = true →
      s.accDue.any (fun x0 => decide (x0 ≤ x)) = false →
      exec (.integrationBoundary x) s = .next (s.latchChanged ((s.closeInteg x).openInteg x false) x))
  ∧ (∀ (k : Fin 2) (i : Integ) (s : State), s.accum.integs.find? (fun i => i.bank == k.val) = some i → i.tables = false →
      exec (.bankTablesRewritten k) s = .next (let v := s.under i; ((((s.arcRenew (validOff v k.val 0 0) (List.replicate (4 * v.nIn * v.nChan) 0#8)).arcRenew (markOff v k.val 0 (blkFirst v)) ((List.replicate (v.nChan * blkCount v) (leBytes 4 0x80)).flatten)).integMod i.id (fun j => { j with tables := true })).showWaiting s.accum.waiting)))
  ∧ (∀ (w : Fin 4) (n : Nat) (x : Sums) (i : Integ) (s : State), (s.path w.val).find? (fun x => !x.written) = some x →
      s.integOf x.ord = some i → i.tables = true → exec (.spill w n) s = .next (((s.writeSpill i x).pathMod w.val (fun l =>
      l.map (fun y => if y == x then { y with written := true } else y))).showWaiting s.accum.waiting))
  ∧ (∀ (w : Fin 4) (n : Nat) (x : Sums) (i : Integ) (s : State), (s.path w.val).find? (fun x => !x.written) = some x →
      s.integOf x.ord = some i → i.tables = false →
      exec (.spill w n) s = .next (((s.countBankWait n).raise F.ACCUM_EVENT_BANK_WAIT).showWaiting (w.val :: s.accum.waiting)))
  ∧ (∀ (w : Fin 4) (x : Sums) (l : List Sums) (s : State), s.path w.val = x :: l → x.written = true →
      exec (.spillAck w) s = .next (((((s.pathMod w.val (fun _ =>
      l)).ackSpill x).countOrder x.tile).countBy R.ACCUM_SPILLS (units s.accum.spillAcc 1).1).accMod (fun a =>
      { a with spillAcc := (units a.spillAcc 1).2 })))

/-- DRAIN_START of the oldest closed integration whose DRAINs and spills have all retired, none draining: with a free staging
slot, the slot takes the address of its place, its WRITING bit, DRAINING, DRAIN_BANK and DRAIN_START are set; with none the
integration is lost, counted and its bank released. FOLIO_DONE writes the folio into its slot: DRAINING clears, the length
and start SI of the slot are those of the folio, and then the bank is released, the slots are shown and free lanes take what
waits. FOLIO_EGRESS_DONE once no frame of the folio is left clears SENDING, sets EGRESS_DONE and raises its event;
STAGE_RELEASE of a slot whose folio the host holds lets it go; each frees the slot once no route holds it. Each of these
commands completes there: exec answers the next state given, under conditions on the state and the operands alone. (R24,
R261, R262, R270, R277) -/
def Obligations.FoliosDrainAndRelease : Prop :=
  (∀ (i : Integ) (k : Nat) (s : State), s.accum.integs.find? (fun i => i.e.isSome && i.drain.isNone) = some i →
      i.drainIssued = true → s.array.drains.any (fun d => d.2 == i.id) = false → s.spillsLeft i.id = false →
      s.fbit F.ACCUM_STATUS_DRAINING = false → s.freeStage (s.under i) = some k → Completes (.drainStart) s (fun t =>
      ∃ u : State, t = (((u.fput (F.ACCUM_STAGE_STATE_WRITING k) 1).fput F.ACCUM_STATUS_DRAINING 1).fput F.ACCUM_STATUS_DRAIN_BANK i.bank).raise F.ACCUM_EVENT_DRAIN_START ∧
      u = (((s.wr64 (R.ACCUM_STAGE_ADDR_LO k) (R.ACCUM_STAGE_ADDR_HI k) (stageOff (s.under i) k)).accMod (fun a =>
      { a with stageSpan := tset 0 a.stageSpan k (slotUnits (s.under i)) })).integMod i.id (fun j =>
      { j with drain := some (k, s.nowNs) }))))
  ∧ (∀ (i : Integ) (s : State), s.accum.integs.find? (fun i => i.e.isSome && i.drain.isNone) = some i →
      i.drainIssued = true → s.array.drains.any (fun d => d.2 == i.id) = false → s.spillsLeft i.id = false →
      s.fbit F.ACCUM_STATUS_DRAINING = false → s.freeStage (s.under i) = none →
      exec (.drainStart) s = .next ((((s.count R.ACCUM_LOST).raise F.ACCUM_EVENT_FOLIO_LOST).accMod (fun a =>
      { a with lostSince := a.lostSince + 1 })).releaseBank i.id))
  ∧ (∀ (i : Integ) (k ns e : Nat) (s : State), s.accum.integs.find? (fun i => i.drain.isSome) = some i →
      i.drain = some (k, ns) → i.e = some e → k < 8 → Completes (.folioDone) s (fun t =>
      ∃ u : State, t = ((u.releaseBank i.id).showStages).kick ∧ u.fbit F.ACCUM_STATUS_DRAINING = false ∧
      u.rdN (R.ACCUM_STAGE_LEN_LO k) = (s.folio i e ns).1.length % 2 ^ 32 ∧ u.rdN (R.ACCUM_STAGE_SI_LO k) = i.a % 2 ^ 32 ∧
      u.fbit F.ACCUM_EVENT_FOLIO_DONE = true))
  ∧ (∀ (k : Fin 8) (s : State), s.accum.holdEgress.contains k.val = true → s.accum.sending.any (fun x =>
      x.1 == k.val) = false → s.lanes.any (fun e =>
      match e.2.tx with | some f => f.typ == 0x50 && f.slot == k.val | none => false) = false →
      exec (.folioEgressDone k) s = .next (((((s.accMod (fun a =>
      { a with holdEgress := a.holdEgress.filter (fun x => x != k.val) })).fput (F.ACCUM_STAGE_STATE_SENDING k.val) 0).fput (F.ACCUM_STAGE_STATE_EGRESS_DONE k.val) 1).raise F.ACCUM_EVENT_EGRESS_DONE).stageCheck k.val))
  ∧ (∀ (k : Fin 8) (s : State), s.accum.holdPcie.contains k.val = true →
      exec (.stageRelease k) s = .next ((s.accMod (fun a =>
      { a with holdPcie := a.holdPcie.filter (fun x => x != k.val) })).stageCheck k.val))

/-- BEAM_READOUT of a position of a set with a physical tile takes its oldest finished chain off the list of those readable and
reads it out, as late where the deadline is under 3 us away. LATE of a block that the position still owes, 3 us before the
deadline, takes the block from its queue, its chains and its readable sums, notes it as read, reads it out as late and shows
the queue. DBEAM_SEND takes the span that was full first: with no stream routed it drops it; with one it queues a frame of
type 0x41 with the slot, start SI and stream, and free lanes take it. CAND at the end of the period, the blocks of the band
done, with no stream routed and no gap beginning there, drops the events of the period, raises CAND where there was one, and
begins the next period. SWITCH_REQUEST that no rule refuses stores the page, clears REASON and accepts the switch for its
pass boundary; one in the past is refused. WEIGHT_SWITCH of the accepted switch of the lowest SI, once the index has reached
it and no accession is due at or below it, gives the page to the loaded sets, leaves the others pending, shows DONE_SI and
raises SWITCH. WLOAD_SET sets the bits of the sets whose active page is another. PENDING_SWITCH gives pending sets whose
boundary has come the page. SEARCH_RESTART is noted and has every level cleared at the next pass boundary. Each of these
commands completes there: exec answers the next state given, under conditions on the state and the operands alone. (R300,
R301, R302, R303, R309, R313, R321, R322) -/
def Obligations.BeamWorkIsReadOutAndSwitched : Prop :=
  (∀ (p : Fin 400) (h : HeldBlk) (buf n : Nat) (l : List (HeldBlk × Nat)) (s : State),
      (s.tile p.val).readable = (h, buf) :: l → s.setOf p.val = some n → (s.physOf p.val).isNone = false →
      exec (.beamReadout p) s = .next ((s.tileMod p.val (fun q =>
      { q with readable := l })).readOut p.val n h buf (s.voltIn n h.b && decide (s.vDeadline h < s.nowNs + 3000)) true))
  ∧ (∀ (p : Fin 400) (slot b n : Nat) (h : HeldBlk) (s : State), s.setOf p.val = some n → s.owed p.val n slot b = some h →
      s.voltIn n b = true → s.vDeadline h ≤ s.nowNs + 3000 →
      exec (.late p slot b) s = .next (let s0 := s.tileMod p.val (fun q => { q with queue := q.queue.filter (fun o => !(o.op == 2 && o.chan == slot && o.blk == b)), readable := q.readable.filter (fun r => !(r.1.slot == slot && r.1.b == b)), chain := q.chain.filter (fun x => !(x.1 == slot && x.2.1 == b)) }); let s1 := (match s.blkOf slot b with | some c => s0.putBlk { c with readBy := if c.readBy.contains p.val then c.readBy else c.readBy ++ [p.val] } | none => s0.doIf (s.cancelled p.val slot b) (fun u => u.beamMod (fun g => { g with lateDone := g.lateDone ++ [(p.val, slot, b)] }))); (s1.readOut p.val n h 0 true (!s.cancelled p.val slot b)).showQueue p.val))
  ∧ (∀ (d : DSpan) (u : State) (s : State), u = s.takeCancelled → (sortBy (fun (x y : DSpan) =>
      decide (x.fullAt < y.fullAt)) (u.beam.spans.filter (fun d => d.fullAt != 0))).head? = some d →
      (u.at d.lo).fget F.BEAM_ROUTE_DSTREAM = 0 → exec (.dbeamSend) s = .next (u.beamMod (fun b =>
      { b with spans := dropFirst (· == d) b.spans })))
  ∧ (∀ (d : DSpan) (u : State) (s : State), u = s.takeCancelled → (sortBy (fun (x y : DSpan) =>
      decide (x.fullAt < y.fullAt)) (u.beam.spans.filter (fun d => d.fullAt != 0))).head? = some d →
      (u.at d.lo).fget F.BEAM_ROUTE_DSTREAM ≠ 0 → Completes (.dbeamSend) s (fun t => ∃ f : EgressFrame, f.typ = 0x41 ∧
      f.stream = (u.at d.lo).fget F.BEAM_ROUTE_DSTREAM ∧ f.chan = d.slot ∧ f.si = d.a ∧
      f.payload = (List.range 1024).flatMap (fun k => leBytes 2 (tget 0xFFFF d.vals k)) ∧ t = ((((u.beamMod (fun b =>
      { b with spans := dropFirst (· == d) b.spans })).noteSat (bitOf d.flags 11)).queueFrame f).kick)))
  ∧ (∀ (u : State) (p e : Nat) (s : State), u = s.takeCancelled → p = u.openPeriod → e = (u.periodEnd p).1 →
      (u.at p).searching = true → u.bandDone (u.at p) e = true → (u.ingest.gaps ++ u.cat.acc.toList).find? (fun g =>
      g.1 == e && g.1 != g.2) = none → (u.at p).fget F.BEAM_ROUTE_CSTREAM = 0 → exec (.cand) s = .next ((u.beamMod (fun b =>
      { b with events := b.events.filter (fun x => decide (e ≤ x.si)), gens := b.gens.filter (fun x => decide (e ≤ x)), period := e, cut := false })).raiseIf (!(u.beam.events.filter (fun x =>
      decide (x.si < e))).isEmpty) F.BEAM_EVENT_CAND))
  ∧ (∀ (p : Fin 2) (s : State), s.siRefused (s.rd64 R.BEAM_SWITCH_SI_LO R.BEAM_SWITCH_SI_HI) = false →
      s.siRefused (s.boundaryAt (s.rd64 R.BEAM_SWITCH_SI_LO R.BEAM_SWITCH_SI_HI)) = false → s.rdN R.BEAM_SWITCH_PEND = 0 →
      s.beamRole = true →
      exec (.switchRequest p) s = .next (((s.fput F.BEAM_SWITCH_CTRL_PAGE p.val).fput F.BEAM_SWITCH_CTRL_REASON 0).beamMod (fun b =>
      { b with switches := b.switches ++ [(s.boundaryAt (s.rd64 R.BEAM_SWITCH_SI_LO R.BEAM_SWITCH_SI_HI), p.val)] })))
  ∧ (∀ (p : Fin 2) (s : State), s.siRefused (s.rd64 R.BEAM_SWITCH_SI_LO R.BEAM_SWITCH_SI_HI) = true →
      exec (.switchRequest p) s = .next ((s.fput F.BEAM_SWITCH_CTRL_PAGE p.val).refuseSwitch 1))
  ∧ (∀ (x p : Nat) (l : List (Nat × Nat)) (s : State), s.dueSwitches = (x, p) :: l → x ≤ s.siNow → s.accDue.any (fun x0 =>
      decide (x0 ≤ x)) = false →
      exec (.weightSwitch) s = .next (let sets := (List.range 32).filter (fun n => s.setEnabled n && s.pageNow n != some p); ((((s.forEach sets (fun u n => if bitOf (s.rdN (R.BEAM_WLOAD p)) n then u.activatePage n p x else (u.fput ⟨R.BEAM_SWITCH_PEND, n, 1⟩ 1).beamMod (fun b => { b with late := tmod [] b.late n (fun l => (x, none) :: l) }))).beamMod (fun b => { b with switches := dropFirst (· == (x, p)) b.switches, pendPage := p })).wr64 R.BEAM_DONE_SI_LO R.BEAM_DONE_SI_HI x).raise F.BEAM_EVENT_SWITCH).raiseIf (sets.any (fun n => !bitOf (s.rdN (R.BEAM_WLOAD p)) n)) F.BEAM_EVENT_WEIGHT_LATE))
  ∧ (∀ (p : Fin 2) (bits : Word) (s : State),
      exec (.wloadSet p bits) s = .next (s.forEach ((List.range 32).filter (fun n =>
      bitOf bits.toNat n && s.pageNow n != some p.val)) (fun u n =>
      let u1 := u.fput ⟨R.BEAM_WLOAD p.val, n, 1⟩ 1; if bitOf (u.rdN R.BEAM_SWITCH_PEND) n && u.beam.pendPage == p.val && !u.beam.pendAt.any (fun e => e.1 == n) then u1.beamMod (fun b => { b with pendAt := b.pendAt ++ [(n, s.nextBoundary)] }) else u1)))
  ∧ (∀ (s : State), exec (.pendingSwitch) s = .next (s.forEach (s.beam.pendAt.filter (fun e =>
      decide (e.2 ≤ s.siNow))) (fun u e =>
      ((u.activatePage e.1 u.beam.pendPage e.2).fput ⟨R.BEAM_SWITCH_PEND, e.1, 1⟩ 0).beamMod (fun b =>
      { b with pendAt := b.pendAt.filter (fun x => x != e) }))))
  ∧ (∀ (s : State), exec (.searchRestart) s = .next (s.beamMod (fun b =>
      { b with clears := b.clears ++ [s.nextBoundary], restartAt := s.nextBoundary })))

/-- On a port that is UP, a message that passes every check and is of the type of the command: SYNC on CHAIN_UP raises stamp
source 0 with its exchange number and position, DREQ on CHAIN_DN stamp source 2, and each is queued for firmware; SYNC_FU
and DRESP are queued. RXQ_POP drops the oldest queued message and shows the next. TXQ_SEND of a permitted message with the
queue empty holds a SYNC or DREQ until it leaves, and sends SYNC_FU and DRESP at once. STAMP_SEND of the held message on a
port that is UP (a SYNC only outside SLEEP, where time stands) sends it and raises stamp source 1 for a SYNC, 3 for a DREQ.
CHAIN_OFFSET stores the offset, gives one sample of SRC2, and judges the time of the chain. Each of these commands completes
there, for every such message: exec answers the next state given, under conditions on the state and the operands alone.
(R50, R394, R395, R396, R409, R413) -/
def Obligations.ChainFirmwareMessagesQueueAndStamp : Prop :=
  (∀ (pos : Fin 4) (b : List Byte) (m : Msg) (s : State), s.portUp 0 = true → s.msgCheck 0 b = some m → m.typ = 0x10 →
      exec (.sync pos b) s = .next ((s.stamp 0 (imgN m.body 0 2) pos.val).queueRx 0 m))
  ∧ (∀ (b : List Byte) (m : Msg) (s : State), s.portUp 0 = true → s.msgCheck 0 b = some m → m.typ = 0x11 →
      exec (.syncFu b) s = .next (s.queueRx 0 m))
  ∧ (∀ (pos : Fin 4) (b : List Byte) (m : Msg) (s : State), s.portUp 1 = true → s.msgCheck 1 b = some m → m.typ = 0x12 →
      exec (.dreq pos b) s = .next ((s.stamp 2 (imgN m.body 0 2) pos.val).queueRx 1 m))
  ∧ (∀ (b : List Byte) (m : Msg) (s : State), s.portUp 0 = true → s.msgCheck 0 b = some m → m.typ = 0x13 →
      exec (.dresp b) s = .next (s.queueRx 0 m))
  ∧ (∀ (s : State), exec (.rxqPop) s = .next ((s.chMod (fun c => { c with rxq := c.rxq.drop 1 })).showRxq))
  ∧ (∀ (p : Fin 2) (b : List Byte) (s : State), s.chain.txq = none → b = (List.range 8).flatMap (fun k =>
      leBytes 4 (s.rdN (R.CHAIN_TXQ k))) → [0x10, 0x11, 0x12, 0x13].contains (imgN b 1 1) = true →
      msgLenOk (imgN b 1 1) (imgN b 8 2) = true → exec (.txqSend p) s = .next (if imgN b 1 1 = 0x10 ∨ imgN b 1 1 = 0x12 then
      ((s.fput F.CHAIN_TXQ_CTRL_PORT p.val).chMod (fun c =>
      { c with txq := some (p.val, b) })).fput F.CHAIN_TXQ_CTRL_FULL 1 else
      (s.fput F.CHAIN_TXQ_CTRL_PORT p.val).txLeave p.val b))
  ∧ (∀ (pos : Fin 4) (p : Nat) (b : List Byte) (s : State), s.chain.txq = some (p, b) → s.portUp p = true →
      ¬ (imgN b 1 1 = 0x10 ∧ s.mode = 0) → exec (.stampSend pos) s = .next ((s.txLeave p b).stamp (if imgN b 1 1 = 0x10 then
      1 else 3) (imgN b 16 2) pos.val))
  ∧ (∀ (v : Word) (s : State),
      exec (.chainOffset v) s = .next (((s.wr R.TIME_CHAIN_OFFSET v).offsetSample 2 (v.toInt - 8 * s.srcDelay 2) 0).judgeChainTime))

/-- HELLO_SEND of a port in HELLO or UP sends a HELLO. HELLO whose address word and complement agree is recorded, with the run
of identical ones; on CHAIN_DN, a port not in HELLO does no more. HELLO_TIMEOUT of a port in HELLO enters TRAIN.
CHAIN_LINK_LOSS of a port that is UP takes it to DETECT, TRAIN or LOCK. ENUM with a lawful address word, of a device neither
head nor addressed, the address below 1,024, is accepted. ENUM_END at a head that sweeps records the sweep, ends it and
raises ENUM_DONE. ENUM_TIMEOUT while the head sweeps ends the sweep with cause 0xFF and ENUM_FAIL. VERSION_SET of an
addressed member stores the version and passes the message on. CHAIN_ENUM and CHAIN_FORCE start a KEEP and a FORCE sweep at
the head. CLEAR_ADDR of a member drops its address. FORWARDED_MESSAGE for another device, at one that has an address and
whose sweep is done, and not from above a head in conflict, goes up for a lower address and down for a higher. Each of these
commands completes there: exec answers a next state, as given, under conditions on the state and the operands alone. (R377,
R382, R384, R385, R386, R387, R389, R413) -/
def Obligations.ChainEnumerationAndLinks : Prop :=
  (∀ (p : Fin 2) (s : State), 4 ≤ s.portState p.val → exec (.helloSend p) s = .next (s.sendHello p.val))
  ∧ (∀ (b : List Byte) (m : Msg) (s : State), s.checkAddr.portUp 1 = true → s.checkAddr.msgCheck 1 b = some m →
      m.typ = 0x01 → imgN m.body 4 2 + imgN m.body 6 2 = 65535 → exec (.hello 1 b) s = .next ((s.checkAddr.chMod (fun c =>
      { c with peers := tset [] c.peers 1 m.body, runs := tset 0 c.runs 1 (if s.checkAddr.peer 1 = m.body then tget 0 s.checkAddr.chain.runs 1 + 1 else 1) })).helloSync))
  ∧ (∀ (p : Fin 2) (s : State), s.portState p.val = 4 → exec (.helloTimeout p) s = .next (s.portTrain p.val))
  ∧ (∀ (p : Fin 2) (k : Fin 3) (s : State), s.portUp p.val = true →
      exec (.chainLinkLoss p k) s = .next (match k.val with | 0 => s.portDetect p.val | 1 => s.portTrain p.val | _ => s.portLock p.val false))
  ∧ (∀ (b : List Byte) (m : Msg) (s : State), s.checkAddr.portUp 0 = true → s.checkAddr.msgCheck 0 b = some m →
      m.typ = 0x02 → imgN m.body 0 2 + imgN m.body 2 2 = 65535 → s.checkAddr.isHead = false → s.checkAddr.enumState = 0 →
      imgN m.body 0 2 < 1024 → exec (.enum b) s = .next ((s.checkAddr.enumAccept m (imgN m.body 0 2)).helloSync))
  ∧ (∀ (b : List Byte) (m : Msg) (s : State), s.portUp 1 = true → s.msgCheck 1 b = some m → m.typ = 0x03 →
      s.isHead = true → imgN m.body 3 1 ≠ 4 → imgN m.body 3 1 ≠ 0 → s.fbit F.CHAIN_STATUS_SWEEP = true →
      exec (.enumEnd b) s = .next (((s.recordSweep (imgN m.body 0 2) (imgN m.body 3 1) (imgN m.body 4 2 % 1024)).fput F.CHAIN_STATUS_SWEEP 0).raise F.CHAIN_EVENT_ENUM_DONE))
  ∧ (∀ (s : State), s.fbit F.CHAIN_STATUS_SWEEP = true →
      exec (.enumTimeout) s = .next (((s.fput F.CHAIN_STATUS_SWEEP 0).fput F.CHAIN_COUNT_CAUSE 0xFF).raise F.CHAIN_EVENT_ENUM_FAIL))
  ∧ (∀ (b : List Byte) (m : Msg) (s : State), s.portUp 0 = true → s.msgCheck 0 b = some m → m.typ = 0x04 →
      s.enumState = 1 → exec (.versionSet b) s = .next ((s.fput F.CHAIN_VERSION_VERSION (imgN m.body 0 1 % 4)).forward 1 m))
  ∧ (∀ (s : State), s.isHead = true → exec (.chainEnum) s = .next (s.startSweep 0))
  ∧ (∀ (s : State), s.isHead = true → exec (.chainForce) s = .next (s.startSweep 1))
  ∧ (∀ (s : State), s.isHead = false → exec (.clearAddr) s = .next (s.dropAddr.helloSync))
  ∧ (∀ (p : Fin 2) (b : List Byte) (m : Msg) (s : State), s.portUp p.val = true → s.msgCheck p.val b = some m →
      linkType m.typ = false → m.typ ≠ 2 → m.dest ≠ 0xFFFF → s.hasAddr = true → m.dest ≠ s.chAddr → s.enumState ≠ 2 →
      s.enumState ≠ 0 → (p.val == 0 && s.isHead && s.fbit F.CHAIN_STATUS_HEAD_CONFLICT) = false →
      exec (.forwardedMessage p b) s = .next (s.forward (if m.dest < s.chAddr then 0 else 1) m))

/-- ACCEDE, SNAP and CANCEL received on CHAIN_UP, passing every check, are taken as member commands. CHAIN_ACCEDE, CHAIN_SNAP
and CHAIN_CANCEL give the head command of their type with the body that the rule lays out. CHAIN_REPEAT at a head with a
version, not busy, resends the last command with its SEQ and collects reports. REPORT at the head while CMD_BUSY, of the SEQ
of the command and a lawful SRC, is noted, with its code where it is a refusal, and the collection is checked. CMD_TIMEOUT
while CMD_BUSY clears it and raises CMD_TIMEOUT. Each of these commands completes there: exec answers a next state, as
given, under conditions on the state and the operands alone. (R401, R402, R405, R406, R407, R408) -/
def Obligations.ChainCommandsAndReports : Prop :=
  (∀ (b : List Byte) (m : Msg) (s : State), s.portUp 0 = true → s.msgCheck 0 b = some m → m.typ = 0x20 →
      exec (.accede b) s = .next (s.memberCmd m))
  ∧ (∀ (b : List Byte) (m : Msg) (s : State), s.portUp 0 = true → s.msgCheck 0 b = some m → m.typ = 0x21 →
      exec (.snap b) s = .next (s.memberCmd m))
  ∧ (∀ (b : List Byte) (m : Msg) (s : State), s.portUp 0 = true → s.msgCheck 0 b = some m → m.typ = 0x22 →
      exec (.chainCancelReceive b) s = .next (s.memberCmd m))
  ∧ (∀ (b : List Byte) (m : Msg) (s : State), s.portUp 1 = true → s.msgCheck 1 b = some m → m.typ = 0x28 →
      s.isHead = true → s.fbit F.CHAIN_STATUS_CMD_BUSY = true → imgN m.body 20 2 = s.rdN R.CHAIN_CMD_SEQ → m.src ≤ 1023 →
      exec (.report b) s = .next ((s.noteReport m.src (imgN m.body 2 1) (if imgN m.body 1 1 = 0 then 0 else
      imgN m.body 3 1)).collectCheck))
  ∧ (∀ (s : State), s.fbit F.CHAIN_STATUS_CMD_BUSY = true →
      exec (.cmdTimeout) s = .next ((s.fput F.CHAIN_STATUS_CMD_BUSY 0).raise F.CHAIN_EVENT_CMD_TIMEOUT))
  ∧ (∀ (modes : Byte) (s : State),
      exec (.chainAccede modes) s = .next (s.headCmd 0x20 modes.toNat (leBytes 8 (s.rd64 R.CHAIN_CMD_SI_LO R.CHAIN_CMD_SI_HI) ++ leBytes 8 (if s.chVersion = 2 then
      s.rd64 R.CHAIN_CMD_RESUME_LO R.CHAIN_CMD_RESUME_HI else
      0) ++ s.digestAt R.CAT_SHADOW_DIGEST ++ s.digestAt R.CAT_LIVE_DIGEST ++ leBytes 1 modes.toNat ++ leBytes 7 0)))
  ∧ (∀ (modes : Byte) (s : State),
      exec (.chainSnap modes) s = .next (s.headCmd 0x21 modes.toNat (leBytes 8 (s.rd64 R.CHAIN_CMD_SI_LO R.CHAIN_CMD_SI_HI) ++ leBytes 4 0)))
  ∧ (∀ (modes : Byte) (s : State),
      exec (.chainCancel modes) s = .next (s.headCmd 0x22 modes.toNat (leBytes 8 (s.rd64 R.CHAIN_CMD_SI_LO R.CHAIN_CMD_SI_HI) ++ s.digestAt R.CAT_SHADOW_DIGEST)))
  ∧ (∀ (typ seq : Nat) (b : List Byte) (s : State), s.isHead = true → s.chVersion ≠ 0 →
      s.fbit F.CHAIN_STATUS_CMD_BUSY = false → s.chain.cmd = some (typ, seq, b) →
      exec (.chainRepeat) s = .next ((s.broadcastCmd typ seq b).collectCheck))

/-- POST that no rule refuses clears what was staged, gives up the lock of the poster and presents the notice with the pointer,
tag and SENDER; outbound in a remote mailbox it is sent. ACK by a receiver of a held notice, with code and complement that
agree and the code that a VOID notice asks for, completes it, and inbound in a remote mailbox sends the code back. LOCK_READ
gives the value of the lock, and makes a sender of a direction of two or more the owner of a free lock; LOCK_RELEASE frees
the lock that its master owns. NOTICE_READ gives NOTICE[3] and marks a posted notice READ. MAILBOX_TIMEOUT outside SLEEP,
where its time stands, frees a held notice with the status 0x8000FFFE, raises TIMEOUT and counts. CROSS of two held notices
not both flagged yet sets the CROSS flag of both, raises CROSS and counts. MBOX into a free inbound direction stores the
bytes in its receive buffer and presents the notice; MBOX_ACK of a held outbound notice completes it. (R521, R522, R523,
R524, R525, R528, R529) -/
def Obligations.MailboxesPostReadAndAcknowledge : Prop :=
  (∀ (k : Fin 48) (d : Fin 2) (m : Fin 32) (v : Word) (s : State), s.postRefusal k.val d.val m.val v = 0 →
      exec (.post k d m v) s = .next (let u := ((s.mbUnstage k.val d.val).mbUnlock k.val d.val m.val).mbPresent k.val d.val (s.rdN (R.MBOX_D_POST_LO k.val d.val) + v.toNat % 256 * 2 ^ 32) (v.toNat / 2 ^ 16) 0 (senderOf m.val); if isRemote k.val && d.val == 1 then u.mbOutbound k.val (v.toNat / 2 ^ 16) else u))
  ∧ (∀ (k : Fin 48) (d : Fin 2) (m : Fin 32) (v : Word) (s : State), (s.mbReceivers k.val d.val).contains m.val = true →
      v.toNat % 65536 + v.toNat / 65536 = 65535 → s.mbState k.val d.val ≠ 0 →
      (bitOf (s.mbGetFlags k.val d.val) 1 && v.toNat % 65536 != 0xFF00) = false →
      exec (.ack k d m v) s = .next (let u := s.mbComplete k.val d.val (v.toNat % 65536); if isRemote k.val && d.val == 0 then u.sendLink (remotePort k.val) 0x31 (leBytes 2 ((k.val - 36) % 4) ++ leBytes 2 (v.toNat % 65536)) else u))
  ∧ (∀ (k : Fin 48) (d : Fin 2) (m : Fin 32) (s : State), 2 ≤ (s.mbSenders k.val d.val).length →
      (s.mbSenders k.val d.val).contains m.val = true → s.fget (F.MBOX_D_STATE_LOCK_OWNER k.val d.val) = 0 →
      exec (.lockRead k d m) s = .next ((s.emit (.read (R.MBOX_D_LOCK k.val d.val) (s.lockValue k.val d.val m.val))).fput (F.MBOX_D_STATE_LOCK_OWNER k.val d.val) (m.val + 1)))
  ∧ (∀ (k : Fin 48) (d : Fin 2) (m : Fin 32) (s : State),
      exec (.lockRelease k d m) s = .next (if s.fget (F.MBOX_D_STATE_LOCK_OWNER k.val d.val) = m.val + 1 then
      s.fput (F.MBOX_D_STATE_LOCK_OWNER k.val d.val) 0 else s))
  ∧ (∀ (k : Fin 48) (d : Fin 2) (s : State),
      exec (.noticeRead k d) s = .next (let u := s.emit (.read (R.MBOX_D_NOTICE k.val d.val 3) (s.rdN (R.MBOX_D_NOTICE k.val d.val 3))); if s.mbState k.val d.val = 1 then u.fput (F.MBOX_D_STATE_STATE k.val d.val) 2 else u))
  ∧ (∀ (k : Fin 48) (d : Fin 2) (s : State), s.mode ≠ 0 → s.mbState k.val d.val ≠ 0 →
      s.fget (F.MBOX_CFG_ACK_TIMEOUT k.val) ≠ 0 →
      exec (.mailboxTimeout k d) s = .next ((((s.mbFree k.val d.val false).wrN (R.MBOX_D_ACK_STATUS k.val d.val) 0x8000FFFE).mbEvent k.val d.val 2).count R.MBOX_TIMEOUTS))
  ∧ (∀ (k : Fin 48) (s : State), s.mbBothHeld k.val = true → exec (.cross k) s = .next (((s.forEach [0, 1] (fun u d =>
      u.mbFlags k.val d (setBit (u.mbGetFlags k.val d) 2))).raise (F.MBOX_EVENT_CROSS k.val)).count R.MBOX_CROSSES))
  ∧ (∀ (b : List Byte) (m : Msg) (s : State), s.portUp 0 = true → s.msgCheck 0 b = some m → m.typ = 0x30 →
      s.mbState (36 + imgN m.body 0 1 % 4) 0 = 0 →
      exec (.mbox 0 b) s = .next ((s.stBytes (rxBuf (imgN m.body 0 1 % 4)) (m.body.drop 4)).mbPresent (36 + imgN m.body 0 1 % 4) 0 (rxBuf (imgN m.body 0 1 % 4)) (m.body.drop 4).length 8 (0x5000 + s.peerAddr 0)))
  ∧ (∀ (b : List Byte) (m : Msg) (s : State), s.portUp 1 = true → s.msgCheck 1 b = some m → m.typ = 0x31 →
      s.mbState (40 + imgN m.body 0 1 % 4) 1 ≠ 0 →
      exec (.mboxAck 1 b) s = .next (s.mbComplete (40 + imgN m.body 0 1 % 4) 1 (imgN m.body 2 2)))

/-- ACCEDED once the index has reached x and no weight switch below x waits: where no rule refuses it any more a heavy accession
begins its gap and a light one takes effect, and HELLO is brought up to date; a mode change no longer lawful refuses it with
0x25, a placement no longer lawful with 0x26, and leaves the shadow VERIFIED with no accession. REMAP in the gap, the work
of the retiring copy done or no time left for more of it, abandons what is left, loads the plan, reloads the Clove code,
brings the lanes and regions to the live Catalogue and marks the remap done. REMAP_END, no engine held any more, lets the
reloaded engines run. RESUMED once the index has reached y opens an integration after the gap, raises RESUMED, clears HEAVY
and leaves the shadow EMPTY with no accession. Each of these commands completes there: exec answers a next state, as given,
under conditions on the state and the operands alone. (R352, R362, R363, R364, R366, R570) -/
def Obligations.AccessionTakesEffect : Prop :=
  (∀ (x y : Nat) (s : State), s.cat.acc = some (x, y) → s.shadowSt = 5 → s.accReached = true →
      s.weightsBefore x = false →
      exec (.acceded) s = .next (let code := if s.modeRefused s.shadowView then 0x25 else if s.placeRefused s.shadowView || (s.fbit F.CAT_STATUS_HEAVY && s.overlapRefused s.shadowView) then 0x26 else 0; if code ≠ 0 then (((s.setShadow 4).fput F.CAT_STATUS_HEAVY 0).catMod (fun c => { c with acc := none, next := [] })).refuse code else s.latchChanged ((if s.fbit F.CAT_STATUS_HEAVY then s.accedeHeavy x y else s.accedeLight x).helloSync) x))
  ∧ (∀ (x y : Nat) (s : State), s.cat.acc = some (x, y) → s.shadowSt = 6 → s.cat.remapped = false →
      (s.retiringDone = true ∨ s.tOf y ≤ s.time.now.toNat + s.remapTime) →
      exec (.remap) s = .next (s.latchChanged ((((s.abandonRetiring x).loadPlan.cloveReload s.cat.retiring s.cat.live s.catAddr s.catAddr).lanesAccede { s with regs := s.oldRegs }).showRegions.catMod (fun c =>
      { c with remapped := true })).retireDone x))
  ∧ (∀ (x y : Nat) (s : State), s.cat.acc = some (x, y) → s.shadowSt = 6 → s.cat.remapped = true → s.cloveHeld = false →
      exec (.remapEnd) s = .next (s.cloveLoaded x))
  ∧ (∀ (x y : Nat) (s : State), s.cat.acc = some (x, y) → s.shadowSt = 6 → s.cat.remapped = true → y ≤ s.siNow →
      exec (.resumed) s = .next ((((((s.openInteg y true).raise F.CAT_EVENT_RESUMED).retireDone.fput F.CAT_STATUS_HEAVY 0).setShadow 0).catMod (fun c =>
      { c with acc := none, remapped := false }))))

/-- START of a start not begun, none tripped, notes that it has begun with BOOT_SEL as sampled and the strap, takes the role and
the boot block, begins to bring up the rails, and enters step 1. START_STEP_DONE of step 1 records the time of the step and
enters step 2, or fails with 0x01 where the rails do; of step 6 it tries the first source of firmware; of step 14 it
verifies the store slot, as read or not, and enters step 15; of step 15 it ends the start. BOOT_ROM_SELFTEST of Curator A
that passes in step 4 gives it the lease and boots Curator B. RAIL_TIMEOUT in step 1 fails the rails with 0x01. START_RETRY
after a first failure with the rails off runs the start again from step 1, as a retry. REF_WAIT_TIMEOUT in step 11 or 12
goes on with warning 2 or 3. HOST_WAIT_TIMEOUT while the host is awaited ends the wait, and in step 6 fails with 0x07.
CHAIN_ENUM_WAIT_TIMEOUT of a member in step 13 leaves it. Each of these commands completes there: exec answers a next state,
as given, under conditions on the state and the operands alone. (R388, R611, R613, R614, R615, R616, R617, R619) -/
def Obligations.TheStartRunsItsSteps : Prop :=
  (∀ (sel : Fin 4) (h : Bool) (s : State), s.boot.begun = false → s.inStart = true → s.power.tripped = none →
      exec (.start sel h) s = .next (((((s.bootMod (fun b => { b with begun := true, sel := sel.val })).chMod (fun c =>
      { c with strap := h })).takeRole.takeBoot).railsUp true).atStep 1))
  ∧ (∀ (us : Nat) (ok : Bool) (l : List (Nat × Bool)) (s : State), s.inStep 1 = true → s.bootStep = 1 →
      exec (.startStepDone us ok l) s = .next (let t := s.wrN (R.BOOT_STEP_TIME 1) (satN 28 us); if ok then (t.railsUp false).atStep 2 else t.railsFail 0x01))
  ∧ (∀ (us : Nat) (ok : Bool) (l : List (Nat × Bool)) (s : State), s.inStep 6 = true → s.bootStep = 6 →
      exec (.startStepDone us ok l) s = .next ((s.wrN (R.BOOT_STEP_TIME 6) (satN 28 us)).trySource))
  ∧ (∀ (us : Nat) (ok : Bool) (l : List (Nat × Bool)) (s : State), s.inStep 14 = true → s.bootStep = 14 →
      exec (.startStepDone us ok l) s = .next (((s.wrN (R.BOOT_STEP_TIME 14) (satN 28 us)).verifyBoot ok).atStep 15))
  ∧ (∀ (us : Nat) (ok : Bool) (l : List (Nat × Bool)) (s : State), s.inStep 15 = true → s.bootStep = 15 →
      exec (.startStepDone us ok l) s = .next ((s.wrN (R.BOOT_STEP_TIME 15) (satN 28 us)).bootEnds))
  ∧ (∀ (s : State), s.inStep 4 = true → s.role 0 = 1 → s.activeCur = none →
      exec (.bootRomSelftest 0 true) s = .next ((s.giveLease 0).enterBoot 1 false))
  ∧ (∀ (s : State), s.inStep 1 = true → exec (.railTimeout) s = .next (s.railsFail 0x01))
  ∧ (∀ (s : State), s.boot.off = true → s.boot.failed ≠ 0 → s.boot.retried = false → s.power.tripped = none →
      exec (.startRetry) s = .next (((((s.bootMod (fun b =>
      { b with off := false, failed := 0, retried := true, begun := true })).wr R.BOOT_STATUS 0#32).takeRole.takeBoot).railsUp true).atStep 1))
  ∧ (∀ (s : State), (s.inStep 11 = true ∨ s.inStep 12 = true) → exec (.refWaitTimeout) s = .next (if s.inStep 11 then
      (s.warn 2).enterStep13 else (s.warn 3).enterStep13))
  ∧ (∀ (s : State), s.fwState = 1 → exec (.hostWaitTimeout) s = .next (if s.inStep 6 then
      (s.fput F.HOSTIF_FW_STATUS_STATE 0).bootFails 0x07 else s.fput F.HOSTIF_FW_STATUS_STATE 0))
  ∧ (∀ (s : State), s.inStep 13 = true → s.isHead = false → exec (.chainEnumWaitTimeout) s = .next (s.leaveStep13))

/-- SLEEP refused by a rule shows the code in POWER.LAST_REFUSE and raises SLEEP_REFUSED; accepted it cancels a scheduled
accession, stops the DMA channels and puts lanes OFF, loses the contents of the Carrels, and leaves the mode SLEEP, counted.
WAKE from SLEEP, written or with a wake source pending, goes to HOLD, commands the core supply, trains the memory afresh
where what it holds cannot be used again, lets the held interrupt events through, sends enabled lanes of a locked PLL to
DETECT, loads the lease where a Curator is active, raises WOKE and selects a time source. COLD, WARM and a pulse of RST_N
restart the block, cold, warm, and cold where the rails are off; a tripped latch leaves the state as it is. VDD_IO_LOSS
takes every supply and releases the latch; THERMTRIP of a cause that holds takes the supplies, keeps BOOT.STATUS and the
TAP, and latches the cause. PCIE_RESET with no latch resets the function. TEST_RESET resets the TAP alone. FAST_ROUND in
fast rounds, outside SLEEP, is a measurement of 50 us; SLOW_ROUND takes the rails and currents, measures 1,000 us and trims
the core supply; PM_ALERT counts what failed and raises PMBUS_ERR. Each of these commands completes there: exec answers a
next state, as given, under conditions on the state and the operands alone. (R597, R605, R606, R607, R609, R625, R629, R637,
R638) -/
def Obligations.PowerStatesAndResets : Prop :=
  (∀ (s : State), s.sleepRefusal ≠ 0 →
      exec (.sleep) s = .next ((s.wrN R.POWER_LAST_REFUSE s.sleepRefusal).raise F.POWER_EVENT_SLEEP_REFUSED))
  ∧ (∀ (s : State), s.sleepRefusal = 0 →
      exec (.sleep) s = .next (let s2 := (s.doIf (s.shadowSt == 5) State.cancelAcc).forEach (List.range 32) (fun u n => let v := u.dmaStop n; if v.chState n = 6 ∨ v.chState n = 5 then v.setCh n 0 else v); let s3 := (s2.forEach ((List.range 192).filter (fun n => s2.laneState n != 0)) (fun u n => u.enterOff n false)).timeSleep; ((((((s3.hbmMod (fun h => { h with rows := [] })).carrelLose (s3.fresh + 1)).tick1.fput F.POWER_STATUS_MODE 0).commandCore 680).count R.POWER_SLEEPS).showIdle 0).showIdle 1))
  ∧ (∀ (w : Bool) (s : State), s.mode = 0 → (w || s.wakeSource) = true →
      exec (.wake w) s = .next (let s0 := s.fput F.POWER_STATUS_MODE 1; let s1 := (s0.commandCore s0.coreTrim).doIf (!s.reusable s.rateWanted) (fun u => u.enterPhase 3); let s2 := (((s1.unhold s1.irq.held).countBy R.IRQ_BYPASS s1.irq.held.length).showIdle 0).showIdle 1; let s3 := s2.forEach (List.range 24) (fun u q => if u.fbit (F.QUIRE_STATUS_PLL_LOCK q) then u.forEach (u.enabledLanes q) (fun v n => if v.laneState n = 0 then v.enterDetect n false else v) else u); let s4 := s3.doIf s3.activeCur.isSome State.loadLease; ((s4.chMod (fun c => { c with resume := !s4.isHead && s4.hasAddr })).raise F.POWER_EVENT_WOKE).reselect false))
  ∧ (∀ (v : Bool) (s : State), s.power.tripped = none → (s.boot.off = false ∨ v = true) →
      exec (.cold v) s = .next (s.restart true))
  ∧ (∀ (s : State), s.power.tripped = none → s.boot.off = false → exec (.warm) s = .next (s.restart false))
  ∧ (∀ (s : State), s.power.tripped = none → exec (.rstNPulse) s = .next (s.restart s.boot.off))
  ∧ (∀ (c : Nat) (s : State), s.power.tripped = some c → exec (.warm) s = .next (s))
  ∧ (∀ (s : State), exec (.vddIoLoss) s = .next ({ s.unpowered with power := {} }))
  ∧ (∀ (d : Fin 18) (s : State), s.power.tripped = none → (d.val < 16 → s.fbit (F.POWER_DIODE_FAILED d.val) = false) →
      (d.val = 16 → (List.range 64).any (fun i => decide (118 ≤ s.power.base + tget 0 s.power.rise i)) = true) →
      exec (.thermtrip d) s = .next ({ s.railsDown.unpowered.wr R.BOOT_STATUS (s.rd R.BOOT_STATUS) with power := { s.railsDown.unpowered.power with tripped := some (if d.val < 16 then 1 else if d.val = 16 then 2 else 3) }, tap := s.tap }))
  ∧ (∀ (s : State), s.power.tripped = none →
      exec (.pcieReset) s = .next (let s1 := (s.clr R.HOSTIF_STATUS).forEach (List.range 256) (fun u v => (((u.clr (R.HOSTIF_MSIX_ADDR_LO v)).clr (R.HOSTIF_MSIX_ADDR_HI v)).clr (R.HOSTIF_MSIX_DATA v)).wr (R.HOSTIF_MSIX_CTRL v) 1#32); let s2 := { s1 with host := { s1.host with rot := 0, cold := false }, matrix := { s1.matrix with txns := s1.matrix.txns.map (fun (x : Txn) => { x with pcie := none }) } }; ((s2.raiseIf (s.fbit F.HOSTIF_STATUS_LINK_UP) F.HOSTIF_EVENT_LINK).raiseIf s.inD3 F.HOSTIF_EVENT_DSTATE).mbResetX 20))
  ∧ (∀ (s : State), exec (.testReset) s = .next ({ s with tap := {} }))
  ∧ (∀ (ds : List (BitVec 16)) (ps : List Nat) (s : State), s.fbit F.POWER_STATUS_FAST = true → s.mode ≠ 0 →
      exec (.fastRound ds ps) s = .next (s.measure 50 (s.power.clock + 50) false ds ps))
  ∧ (∀ (ds mv : List (BitVec 16)) (io : List (Option Nat)) (est : List Nat) (avs : Option (BitVec 16)) (s : State),
      exec (.slowRound ds mv io est avs) s = .next (let out := railsOutOf mv; let fresh := (List.range 8).any (fun r => bitOf out r && !bitOf s.power.railsOut r); let past := s.fget F.BOOT_STATUS_STATE != 0 || decide (1 < s.fget F.BOOT_STATUS_STEP); let s1 := ((s.raiseIf (fresh && past) F.POWER_EVENT_RAIL).powMod (fun p => { p with railsOut := out })).takeIout io; let ps := if s1.fbit F.POWER_STATUS_TELEMETRY then (List.range 8).map (s1.railPower mv) else est; ((s1.showRails mv ps).measure 1000 ((s1.power.clock / 1000 + 1) * 1000) true ds ps).trimCore avs))
  ∧ (∀ (bad : Fin 17) (s : State),
      exec (.pmAlert bad) s = .next ((s.countBy R.POWER_PMBUS_ERR (1 + min bad.val s.power.entries)).raise F.POWER_EVENT_PMBUS_ERR))

/-- HBM_REQUEST of a lawful shape to an offset that no rule refuses is admitted with the pseudo-channel, bank and row of its
offset. HBM_AGE_PROMOTE of a request of class high or lower, not yet promoted, raises its rank to that of data at least, and
that of what stands before it where it must wait for it, marks it and counts. PAGE_TIMEOUT closes the row of its bank.
REFRESH_DUE that is not put off closes the row, forgets what was postponed for the bank and lowers its activation count.
HBM_REQUEST_COMPLETE of a read that no earlier request holds back, and that the ranking serves next on its pseudo-channel,
takes it off the queue, opens its row, and answers with the bytes of the Archive, with an error where a unit is
uncorrectable; then waiting requests and held work go on. HBM_TEMPERATURE_READ shows both temperatures and the refresh
doubling, with its event at a change. Each of these commands completes there: exec answers a next state, as given, under
conditions on the state and the operands alone. (R426, R428, R429, R432, R435, R437) -/
def Obligations.ControllerServesRequests : Prop :=
  (∀ (cls : Fin 5) (src tag : Nat) (hint wr : Bool) (off : Nat) (data : List (Option Byte)) (s : State),
      s.reqShape cls.val off data.length = true → s.arcRefuse off data.length = 0 →
      exec (.hbmRequest cls src tag hint wr off data) s = .next (State.admitWaiting [{ cls := cls.val, rank := cls.val, src := src, tag := tag, hint := hint, wr := wr, off := off, data := data, pc := s.pseudoOf off, bank := s.bankOf off, row := s.rowOf off }] s))
  ∧ (∀ (k : Nat) (r : HReq) (s : State), s.hbm.reqs[k]? = some r → 2 ≤ r.cls → r.promoted = false →
      exec (.hbmAgePromote k) s = .next ((s.hbmMod (fun h =>
      { h with reqs := inheritRanks (h.reqs.set k { r with rank := min r.rank 1, promoted := true }) })).count R.HBMC_AGE_PROMOTED))
  ∧ (∀ (pc : Fin 64) (b : Fin 48) (s : State), exec (.pageTimeout pc b) s = .next (s.closeRow pc.val b.val))
  ∧ (∀ (pc : Fin 64) (b : Fin 48) (s : State),
      exec (.refreshDue pc b false) s = .next ((s.closeRow pc.val b.val).hbmMod (fun h =>
      { h with postponed := terase h.postponed (bankKey pc.val b.val), acts := tmod 0 h.acts (bankKey pc.val b.val) (fun n => n - Config.rfmThreshold) })))
  ∧ (∀ (k : Nat) (r : HReq) (s : State), s.hbm.reqs[k]? = some r → servedNext s.hbm.reqs k r = true → r.wr = false →
      r.hint = true → r.cls ≠ 1 →
      exec (.hbmRequestComplete k 0) s = .next (let u := ((s.hbmMod (fun h => { h with reqs := h.reqs.eraseIdx k })).openRow r).noteFix 0 r.off; (((u.noteRead r.cls r.off r.data.length).emit (.response r.src r.tag (u.arcPoisoned r.off r.data.length) (u.arcBytes r.off r.data.length))).retryWaiting).holdDrained))
  ∧ (∀ (t0 t1 : Byte) (s : State),
      exec (.hbmTemperatureRead t0 t1) s = .next (let hi := max t0.toNat t1.toNat; let dbl := s.fbit F.HBMC_STATUS_REF_DOUBLE; let now := decide (85 < hi) || (dbl && decide (83 < hi)); let s2 := (((s.wrN R.HBMC_TEMP (t0.toNat + 256 * t1.toNat)).fput F.HBMC_STATUS_REF_DOUBLE (b2n now)).raiseIf (dbl != now) F.HBMC_EVENT_REF_DOUBLE).raiseIf (decide (95 ≤ hi) && !s.fbit F.HBMC_STATUS_HOT95) F.HBMC_EVENT_HOT95; ((s2.fput F.HBMC_STATUS_HOT95 (b2n (decide (95 ≤ hi)))).fput F.POWER_STATUS_HOT_FLOOR (b2n (decide (95 ≤ hi) || (s.fbit F.POWER_STATUS_HOT_FLOOR && decide (90 < hi))))).applyStep))

/-- MAP_APPLY with no change in progress: in HOLD with nothing held and lawful masks it sets its bit and holds requests until
those in flight are done; outside HOLD MAP_REFUSED is raised. INITIALISING_SCRUB_DONE of the scrub of a mapping change, with
no rate waiting, leaves the Archive zero, releases what was held, clears MAP_APPLY and raises MAP_APPLIED; of that of a cold
start it leaves the Archive zero. SCRUB_PERIOD with a period that is not zero, and SCRUB_NOW, start a patrol. SCRUB_DONE of
a running patrol that found nothing ends it, counts the pass, and raises SCRUB_DONE. RATE_CHANGE in training stores the rate
and keeps it for the end of the step. RATE_CHANGED with no request left in flight shows the rate, raises RATE_CHANGED, and
releases what was held; a mapping change that waited begins to hold. TRAINING_PHASE_DONE of a pseudo-channel in VERIFY that
passes, not the last and with no rate waiting, notes that it is done. Each of these commands completes there: exec answers a
next state, as given, under conditions on the state and the operands alone. (R418, R419, R440, R441, R444, R445) -/
def Obligations.ControllerMapsScrubsAndTrains : Prop :=
  (∀ (s : State), s.fbit F.HBMC_CTRL_MAP_APPLY = false → s.mode = 1 → s.hbm.hold = 0 → masksValid (maskSet (fun k =>
      s.rdN (R.HBMC_MAP_NEW k))) = true → exec (.mapApply) s = .next ((s.fput F.HBMC_CTRL_MAP_APPLY 1).beginHold 1))
  ∧ (∀ (s : State), s.fbit F.HBMC_CTRL_MAP_APPLY = false → s.mode ≠ 1 →
      exec (.mapApply) s = .next (s.raise F.HBMC_EVENT_MAP_REFUSED))
  ∧ (∀ (s : State), s.hbm.hold = 2 → s.hbm.rateReq = none →
      exec (.initialisingScrubDone) s = .next (((s.zeroArchive.releaseHold.hbmMod (fun h =>
      { h with rateReq := none })).fput F.HBMC_CTRL_MAP_APPLY 0).raise F.HBMC_EVENT_MAP_APPLIED))
  ∧ (∀ (s : State), s.hbm.hold ≠ 2 → s.hbm.initScrub = true →
      exec (.initialisingScrubDone) s = .next ((s.zeroArchive.hbmMod (fun h => { h with initScrub := false })).showHeld))
  ∧ (∀ (s : State), s.rdN R.HBMC_SCRUB_PERIOD % 256 ≠ 0 → exec (.scrubPeriod) s = .next (s.startPatrol))
  ∧ (∀ (s : State), exec (.scrubNow) s = .next (s.startPatrol))
  ∧ (∀ (s : State), s.hbm.patrol = true → s.poison = [] → exec (.scrubDone [] []) s = .next ((((s.hbmMod (fun h =>
      { h with patrol := false })).count R.HBMC_SCRUB_PASSES).raise F.HBMC_EVENT_SCRUB_DONE).showHeld))
  ∧ (∀ (v : Word) (s : State), 1 ≤ s.phase → s.phase ≤ 4 →
      exec (.rateChange v) s = .next ((s.fput F.HBMC_RATE_RATE (v.toNat % 4)).hbmMod (fun h =>
      { h with rateReq := some (v.toNat % 4) })))
  ∧ (∀ (s : State), s.hbm.hold = 3 → s.hbm.reqs = [] → s.phase = 5 →
      exec (.rateChanged) s = .next (let u := (((s.fput F.HBMC_STATUS_RATE s.rateWanted).showTrain.raise F.HBMC_EVENT_RATE_CHANGED).releaseHold).hbmMod (fun h => { h with rateReq := none }); if s.fbit F.HBMC_CTRL_MAP_APPLY then u.beginHold 1 else u))
  ∧ (∀ (pc : Fin 64) (rfm : Bool) (mv : Byte) (s : State), s.phase = 4 → s.hbm.done.contains pc.val = false →
      s.hbm.rateReq = none → s.hbm.done.length < 63 → exec (.trainingPhaseDone pc true rfm mv) s = .next (s.hbmMod (fun h =>
      { h with done := h.done ++ [pc.val] })))

/-- SOURCE_RISE of a source that is low, and whose input the spec does not hold low, makes it high and pends it at its targets.
SOURCE_FALL of an edge source lowers it and changes nothing more. FAST_ENTRY with a winner that may be taken delivers it in
the fast bank. NORMAL_ENTRY with a winner, no exit in progress and no fast winner that may be taken stores the frame unless
it stands and enters. NORMAL_EXIT of a running Curator loads the frame back. MODERATION_RELEASE outside SLEEP releases its
group. HOST_ACK completes the active sources of its vector, shows it, and sends it again where something waits. MSIX_UNMASK
clears the function mask, or the mask of one vector, and sends what waited. PCIE_DSTATE_CHANGE into D0 stores the bits of
configuration space and sends what waited. (R579, R586, R588, R589, R592, R594, R595, R596) -/
def Obligations.InterruptsRiseFallAndAreDelivered : Prop :=
  (∀ (k : Fin 656) (s : State), s.irq.level.contains k.val = false → s.sourceInput k.val ≠ some false →
      exec (.sourceRise k) s = .next (let u := s.irqMod (fun i => { i with level := i.level ++ [k.val] }); u.forEach (u.irqTargets k.val) (fun u t => u.irqPend k.val t)))
  ∧ (∀ (k : Fin 656) (s : State), s.irq.level.contains k.val = true → s.sourceInput k.val ≠ some true →
      s.irqEdge k.val = true → exec (.sourceFall k) s = .next (s.irqMod (fun i =>
      { i with level := i.level.filter (fun x => x != k.val) })))
  ∧ (∀ (c : Fin 2) (e : Nat × Nat) (s : State), s.winner c.val true = some e → s.mayFast c.val = true →
      exec (.fastEntry c false) s = .next ((s.setExit c.val false).enterFast c.val e))
  ∧ (∀ (c : Fin 2) (e : Nat × Nat) (s : State), s.winner c.val false = some e → s.mayNormal c.val = true →
      s.exiting c.val = false → s.winner c.val true = none →
      exec (.normalEntry c) s = .next ((s.doIf (!s.fbit (F.IRQ_CUR_STATUS_FRAME c.val)) (fun u =>
      u.pushFrame c.val)).enterNormal c.val e))
  ∧ (∀ (c : Fin 2) (s : State), s.exiting c.val = true → s.curRuns c.val = true →
      exec (.normalExit c) s = .next ((s.popFrame c.val).setExit c.val false))
  ∧ (∀ (g : Fin 12) (s : State), s.mode ≠ 0 → exec (.moderationRelease g) s = .next (s.releaseGroup g.val))
  ∧ (∀ (v : Fin 256) (s : State), exec (.hostAck v) s = .next (((s.forEach ((s.irq.st.filter (fun e =>
      e.1 % 4 == 2 && s.irqVec (e.1 / 4) == v.val)).map (fun e => e.1 / 4)) (fun u k =>
      u.irqComplete k 2)).showVec v.val).sendVec v.val))
  ∧ (∀ (s : State),
      exec (.msixUnmask none) s = .next ((s.fput F.HOSTIF_STATUS_FMASK 0).forEach (List.range 256) (fun u k => u.sendVec k)))
  ∧ (∀ (k : Fin 256) (s : State),
      exec (.msixUnmask (some k)) s = .next ((s.fput ⟨R.HOSTIF_MSIX_CTRL k.val, 0, 1⟩ 0).sendVec k.val))
  ∧ (∀ (a b c d e : Bool) (s : State),
      exec (.pcieDstateChange 0 a b c d e) s = .next (let s1 := ((((s.fput F.HOSTIF_STATUS_BME (b2n a)).fput F.HOSTIF_STATUS_MSE (b2n b)).fput F.HOSTIF_STATUS_MSIX_EN (b2n c)).fput F.HOSTIF_STATUS_FMASK (b2n d)).fput F.HOSTIF_STATUS_DSTATE 0; let s2 := { s1 with host := { s1.host with cold := false, pmeEn := e } }; let s3 := s2.raiseIf ((s.fget F.HOSTIF_STATUS_DSTATE, s.host.cold) != (s2.fget F.HOSTIF_STATUS_DSTATE, s2.host.cold)) F.HOSTIF_EVENT_DSTATE; if s3.inD3 then s3.doIf (!s.inD3) (fun u => u.becomeIdle [2]) else s3.forEach (List.range 256) (fun u k => u.sendVec k)))

/-- LEASE_RENEW by the owner with the lease word loads the lease; any other bad renewal is answered as the rule says.
LEASE_CLAIM of a free lease by a qualified Curator with its own word gives it the lease and raises TAKEOVER. LEASE_EXPIRY
outside SLEEP, the lease run out or its word damaged, takes it from its owner. YIELD by the owner to a qualified partner
passes it on. CURATOR_HOLD of the owner takes the lease; CURATOR_RELEASE of a held Curator boots it. FAILOVER_DONE by the
owner in a failover clears FAILOVER and raises its event; FAILOVER_SLOW in one raises its event. HEALTH_WRITE by its own
Curator stores the word, clears its age and takes it to SELFTEST from BOOT. HEALTH_BAD of a Curator whose health is older
than the limit shows it as not good, and raises the event where it was good and STANDBY. TCM_UE raises its bit, and with
UE_YIELD takes the lease of the owner. CKPT_WRITE by the owner stores the word. Each of these commands completes there: exec
answers the next state given, under conditions on the state and the operands alone. (R506, R509, R510, R512, R513, R514,
R516, R518) -/
def Obligations.LeaseAndHealthOfTheCurators : Prop :=
  (∀ (m : Fin 32) (s : State), s.activeCur = some m.val →
      exec (.leaseRenew m (s.rd R.CORE_LEASE)) s = .next (s.loadLease))
  ∧ (∀ (m : Fin 32) (v : Word) (s : State), s.activeCur = none → m.val < 2 → s.curQualified m.val = true →
      v.toNat = leaseWord (m.val + 1) → exec (.leaseClaim m v) s = .next ((s.giveLease m.val).raise F.CORE_EVENT_TAKEOVER))
  ∧ (∀ (c : Nat) (s : State), s.activeCur = some c → s.mode ≠ 0 → s.leaseOver = true →
      exec (.leaseExpiry) s = .next (s.leaveLease c))
  ∧ (∀ (m : Fin 32) (s : State), s.activeCur = some m.val → s.curQualified (1 - m.val) = true →
      exec (.yield m) s = .next (((((s.giveLease (1 - m.val)).completeKeys (s.activeKeys m.val)).enterBoot m.val true).noteTransfer)))
  ∧ (∀ (m : Fin 32) (s : State), s.activeCur = some m.val → s.curQualified (1 - m.val) = false →
      exec (.yield m) s = .next (s.raise F.CORE_EVENT_YIELD_REFUSED))
  ∧ (∀ (c : Fin 2) (s : State), s.activeCur = some c.val → exec (.curatorHold c) s = .next (s.leaveLease c.val))
  ∧ (∀ (c : Fin 2) (s : State), s.role c.val = 0 → exec (.curatorRelease c) s = .next (s.enterBoot c.val false))
  ∧ (∀ (m : Fin 32) (s : State), s.activeCur = some m.val → s.fbit F.CORE_STATUS_FAILOVER = true →
      exec (.failoverDone m) s = .next ((s.fput F.CORE_STATUS_FAILOVER 0).raise F.CORE_EVENT_FAILOVER_DONE))
  ∧ (∀ (s : State), s.fbit F.CORE_STATUS_FAILOVER = true →
      exec (.failoverSlow) s = .next (s.raise F.CORE_EVENT_FAILOVER_SLOW))
  ∧ (∀ (m : Fin 32) (c : Fin 2) (v : Word) (s : State), m.val = c.val → s.role c.val = 1 →
      exec (.healthWrite m c v) s = .next ((((({ s with time := { s.time with ageTicks := tset 0 s.time.ageTicks c.val 0 } }.wr (R.CORE_HEALTH c.val) (v &&& 0xFFFF1FFF#32)).clr (R.CORE_HEALTH_AGE c.val)).showGood c.val).setRole c.val 2)))
  ∧ (∀ (c : Fin 2) (s : State), s.maxAge < s.rdN (R.CORE_HEALTH_AGE c.val) →
      exec (.healthBad c) s = .next (s.showGood c.val))
  ∧ (∀ (c : Fin 2) (s : State), s.activeCur ≠ some c.val →
      exec (.tcmUe c) s = .next ((s.raise (tcmUeField c.val)).showGood c.val))
  ∧ (∀ (m : Fin 32) (v : Word) (s : State), s.activeCur = some m.val → exec (.ckptWrite m v) s = .next (s.wr R.CORE_CKPT v))

/-- CLOVE_RUN of an engine that is OFF, neither loading nor resetting, starts it at TIME.SI_NOW; of a halted one it sets RUN and
shows the engine. CLOVE_HALT of a running engine that is not resetting stops it, halted. CLOVE_RESET of an engine with no
move outstanding turns it OFF; with one, it ends its wait, drops the move that waited and leaves RESET set. KICK of an
engine that is not OFF sets its KICK flag. Each of these commands completes there: exec answers a next state, as given,
under conditions on the state and the operands alone. (R569, R570, R575) -/
def Obligations.ClovesStartHaltResetAndKick : Prop :=
  (∀ (e : Fin 16) (s : State), s.fbit (F.CLOVE_STATUS_LOADING e.val) = false → s.cloveResetting e.val = false →
      s.cloveState e.val = 0 → exec (.cloveRun e) s = .next (s.cloveStart e.val s.siNow))
  ∧ (∀ (e : Fin 16) (s : State), s.fbit (F.CLOVE_STATUS_LOADING e.val) = false → s.cloveResetting e.val = false →
      s.cloveState e.val = 2 → exec (.cloveRun e) s = .next ((s.fput (F.CLOVE_STATUS_STATE e.val) 1).showClove e.val))
  ∧ (∀ (e : Fin 16) (s : State), s.cloveState e.val = 1 → s.cloveResetting e.val = false →
      exec (.cloveHalt e) s = .next (s.cloveStop e.val 2))
  ∧ (∀ (e : Fin 16) (s : State), (s.mp (2 + e.val)).moves = [] → exec (.cloveReset e) s = .next (s.cloveOff e.val))
  ∧ (∀ (e : Fin 16) (x : Move) (l : List Move) (s : State), (s.mp (2 + e.val)).moves = x :: l →
      exec (.cloveReset e) s = .next ((s.mpMod (2 + e.val) (fun p =>
      { p with wait := .run, waiting := none })).raise (F.CLOVE_CTRL_RESET e.val)))
  ∧ (∀ (e : Fin 16) (s : State), s.cloveState e.val ≠ 0 → exec (.kick e) s = .next (s.mpMod (2 + e.val) (fun p =>
      { p with kick := true })))

/-- FW_COMMIT with no load awaited ends with code 9; with one it writes the chunk of FW_BUF, at most 16384 bytes and never past
the end, at its offset in the shared SRAM and raises FW_READY. FW_DONE with a load awaited ends with the code of a bad
image, and takes a good one, showing its version. FW_STORE and SET_FIRST in the wrong state end with code 9; where the store
takes no write they end with code 8; SET_FIRST otherwise starts a write of the boot block. FW_STORE_COMPLETE of a firmware
write that compares ends it with success. BUMP_ROLLBACK in the right state raises the fuses up to the version of the running
image, never lower, and shows them. Each of these commands completes there: exec answers a next state, as given, under
conditions on the state and the operands alone. (R639, R657, R658, R660) -/
def Obligations.FirmwareCommandsOfTheHost : Prop :=
  (∀ (s : State), s.fwState ≠ 1 → exec (.fwCommit) s = .next (s.fwResult 9))
  ∧ (∀ (s : State), s.fwState = 1 →
      exec (.fwCommit) s = .next (let n := min 16384 (s.rdN R.HOSTIF_FW_LEN % 2 ^ 24); let off := s.rdN R.HOSTIF_FW_OFFSET % 2 ^ 23; (s.stBytes (sramBase + off) (((List.range (ceilDiv n 4)).flatMap (fun k => leBytes 4 (s.rdN (R.HOSTIF_FW_BUF k)))).take (min n (0x800000 - off)))).raise F.HOSTIF_EVENT_FW_READY))
  ∧ (∀ (s : State), s.fwState = 1 →
      exec (.fwDone) s = .next (let code := fwCheck (s.rdN R.HOSTIF_FW_ROLLBACK) s.sramImage; if code ≠ 0 then s.fwResult code else ((s.fput F.HOSTIF_FW_STATUS_STATE 0).fwResult 0).fwTake 2 (fwVersion s.sramImage)))
  ∧ (∀ (s : State), s.fwWrong = true → exec (.fwStore) s = .next (s.fwResult 9))
  ∧ (∀ (s : State), s.fwWrong = false → s.storeBlocked = true → exec (.fwStore) s = .next (s.noteProg.fwResult 8))
  ∧ (∀ (w : StoreWrite) (b : List Byte) (s : State), s.cat.storing = some w → 2 ≤ w.kind →
      exec (.fwStoreComplete b) s = .next (let r := s.endStore w b; let s1 := r.1.fput F.HOSTIF_FW_STATUS_STATE 0; if r.2 then s1.fwResult 0 else ((s1.tick1.fput F.HOSTIF_FW_STATUS_STATE 3).fput F.HOSTIF_FW_STATUS_RESULT (Config.freeNat s1.fresh)).raise F.HOSTIF_EVENT_FW_FAIL))
  ∧ (∀ (s : State), s.fwWrong = false → s.storeBlocked = false → exec (.setFirst) s = .next ((s.startBoot 3 (fun b =>
      { b with fwFirst := s.fget F.HOSTIF_FW_CTRL_SLOT })).fput F.HOSTIF_FW_STATUS_STATE 2))
  ∧ (∀ (s : State), s.fwWrong = true → exec (.setFirst) s = .next (s.fwResult 9))
  ∧ (∀ (s : State), s.fwWrong = false → s.storeBlocked = false →
      exec (.bumpRollback) s = .next (let n := max s.host.fuses (min 64 (s.rdN R.HOSTIF_FW_VERSION)); ({ s with host := { s.host with fuses := n } }.wrN R.HOSTIF_FW_ROLLBACK n).fwResult 0))

/-- PCIE_LINK_UP in a device not tripped shows the link with its speed and width, with its event at a change. MGMT_FRAME_RECEIVE
with a bad FCS counts it; a lawful frame that no owned buffer can take is counted, dropped, and raises RX_DROP; one that an
owned buffer takes is stored there with its length, its flags and, of a PTP event message, its time stamp. TX_DOORBELL
begins sending. MGMT_FRAME_SENT while sending stops at a buffer that the port does not own, and else sends its frame, stamps
it where that was asked (how long before the last tick its start left is a free value, log entry 123), gives the buffer back
and counts. MGMT_RATE_ALTERNATE with automatic rate and no link tries the other rate. MGMT_LINK coming up shows link and
rate, raises its event, and shows the corrections of time of that rate; going down, it shows no rate. Each of these commands
completes there: exec answers a next state, as given, under conditions on the state and the operands alone. (R65, R643,
R661, R662, R664) -/
def Obligations.ManagementPortFramesAndLinks : Prop :=
  (∀ (a b : Fin 3) (s : State), s.power.tripped = none →
      exec (.pcieLinkUp a b) s = .next ((((s.fput F.HOSTIF_STATUS_LINK_UP 1).fput F.HOSTIF_STATUS_SPEED (a.val + 1)).fput F.HOSTIF_STATUS_WIDTH ([1, 4, 8].getD b.val 1)).raiseIf (!s.fbit F.HOSTIF_STATUS_LINK_UP) F.HOSTIF_EVENT_LINK))
  ∧ (∀ (f : List Byte) (back : Nat) (s : State), s.mgmtUp = true →
      exec (.mgmtFrameReceive f ⟨false, back⟩) s = .next (s.count R.MGMT_RX_FCS))
  ∧ (∀ (f : List Byte) (back : Nat) (s : State), s.mgmtUp = true → 60 ≤ f.length → f.length ≤ 1518 →
      (beNat ((f.drop 12).take 2) == 0x8808) = false → s.macPass (f.take 6) = true →
      exec (.mgmtFrameReceive f ⟨true, back⟩) s = .next (let a := s.rdN R.MGMT_RX_BASE / 2048 * 2048 + 2048 * (s.rdN R.MGMT_RX_NEXT % 64); let s1 := s.count R.MGMT_RX_FRAMES; if !(ringAt a && bitOf (s.ldNat (a + 2) 1) 7) then (s1.count R.MGMT_RX_DROP).raise F.MGMT_EVENT_RX_DROP else ((s1.stBytes a ((leBytes 2 f.length ++ leBytes 1 (b2n (ptpEvent f) + 2 * b2n (vlanTagged f)) ++ [0#8] ++ (if ptpEvent f then s.stampBytes back else List.replicate 12 0#8)) ++ f)).wrN R.MGMT_RX_NEXT ((s.rdN R.MGMT_RX_NEXT + 1) % 64)).raise F.MGMT_EVENT_RX))
  ∧ (∀ (s : State), exec (.txDoorbell) s = .next ({ s with host := { s.host with sending := true } }))
  ∧ (∀ (s : State), s.host.sending = true → s.mgmtUp = true →
      exec (.mgmtFrameSent) s = .next (let a := s.rdN R.MGMT_TX_BASE / 2048 * 2048 + 2048 * (s.rdN R.MGMT_TX_NEXT % 32); let fl := s.ldNat (a + 2) 1; if !(ringAt a && bitOf fl 7) then { s with host := { s.host with sending := false } } else let s2 := ((s.emit (.mgmt (s.ldBytes (a + 16) (min 2032 (s.ldNat a 2))))).stNat (a + 2) 1 (if bitOf fl 2 then setBit (clearBit fl 7) 0 else clearBit fl 7)).doIf (bitOf fl 2) (fun u => (u.stBytes (a + 4) (s.stampBytes (Config.freeNat s.fresh))).tick1); ((s2.wrN R.MGMT_TX_NEXT ((s.rdN R.MGMT_TX_NEXT + 1) % 32)).count R.MGMT_TX_FRAMES).raise F.MGMT_EVENT_TX))
  ∧ (∀ (s : State), s.fget F.MGMT_CTRL_RATE = 0 → s.fbit F.MGMT_CTRL_EN = true → s.fbit F.MGMT_STATUS_LINK = false →
      exec (.mgmtRateAlternate) s = .next ({ s with host := { s.host with tryRate := 3 - s.host.tryRate } }))
  ∧ (∀ (s : State), s.fbit F.MGMT_STATUS_LINK = false → s.fbit F.MGMT_CTRL_EN = true →
      exec (.mgmtLink true) s = .next (let r := if s.fget F.MGMT_CTRL_RATE = 0 then s.host.tryRate else s.fget F.MGMT_CTRL_RATE; ((((s.fput F.MGMT_STATUS_LINK 1).fput F.MGMT_STATUS_RATE r).raise F.MGMT_EVENT_LINK).wrN R.TIME_PTP_RXCORR (if r = 1 then 41600 else 312000)).wrN R.TIME_PTP_TXCORR (if r = 1 then 25600 else 184000)))
  ∧ (∀ (s : State), s.fbit F.MGMT_STATUS_LINK = true →
      exec (.mgmtLink false) s = .next (let s1 := ((s.fput F.MGMT_STATUS_LINK 0).fput F.MGMT_STATUS_RATE 0).raise F.MGMT_EVENT_LINK; { s1 with host := { s1.host with tryRate := 1 } }))

/-- Each instruction of the test access port selects its register, shifts as many bits as come in out of it, least significant
first, followed by what came in: BYPASS, CLAMP and HIGHZ a zero bit; IDCODE 0x12048A6F; BOOT_READ BOOT.STATUS and then the
four bits of the THERMTRIP cause; SAMPLE/PRELOAD and the three EXTEST instructions the boundary register, whose cells then
hold what remains in it. CLAMP and the EXTEST instructions drive the balls with what their cells hold; HIGHZ floats them;
the others leave them to the core. That BYPASS is the first of them in TapSt is the coding of the model. Each of these
commands completes there: exec answers a next state, as given, under conditions on the state and the operands alone. (R616,
R687) -/
def Obligations.TestPortScansItsRegisters : Prop :=
  (∀ (tdi : List Bool) (s : State), exec (.bypassInstruction tdi) s = .next ((s.tapMod (fun t =>
      { t with instr := 0, drives := false, highz := false })).emit (.shift (([false] ++ tdi).take tdi.length))))
  ∧ (∀ (tdi : List Bool) (s : State), exec (.idcode tdi) s = .next ((s.tapMod (fun t =>
      { t with instr := 1, drives := false, highz := false })).emit (.shift ((bitList 32 0x12048A6F ++ tdi).take tdi.length))))
  ∧ (∀ (pins tdi : List Bool) (s : State), exec (.samplePreload pins tdi) s = .next (((s.tapMod (fun t =>
      { t with instr := 2, drives := false, highz := false })).emit (.shift ((((pins ++ List.replicate 1368 false).take 1368).reverse ++ tdi).take tdi.length))).tapMod (fun t =>
      { t with cells := ((((pins ++ List.replicate 1368 false).take 1368).reverse ++ tdi).drop tdi.length).reverse })))
  ∧ (∀ (pins tdi : List Bool) (s : State),
      exec (.extest pins tdi) s = .next ((let u := ((s.tapMod (fun t => { t with instr := 3, drives := true, highz := false })).emit (.shift ((((pins ++ List.replicate 1368 false).take 1368).reverse ++ tdi).take tdi.length))).tapMod (fun t => { t with cells := ((((pins ++ List.replicate 1368 false).take 1368).reverse ++ tdi).drop tdi.length).reverse }); u.emit (.balls (drivenBalls u.tap.cells)))))
  ∧ (∀ (tdi : List Bool) (s : State),
      exec (.clamp tdi) s = .next ((let u := (s.tapMod (fun t => { t with instr := 4, drives := true, highz := false })).emit (.shift (([false] ++ tdi).take tdi.length)); u.emit (.balls (drivenBalls u.tap.cells)))))
  ∧ (∀ (tdi : List Bool) (s : State), exec (.highz tdi) s = .next ((s.tapMod (fun t =>
      { t with instr := 5, drives := false, highz := true })).emit (.shift (([false] ++ tdi).take tdi.length))))
  ∧ (∀ (pins tdi : List Bool) (s : State),
      exec (.extestPulse pins tdi) s = .next ((let u := ((s.tapMod (fun t => { t with instr := 6, drives := true, highz := false })).emit (.shift ((((pins ++ List.replicate 1368 false).take 1368).reverse ++ tdi).take tdi.length))).tapMod (fun t => { t with cells := ((((pins ++ List.replicate 1368 false).take 1368).reverse ++ tdi).drop tdi.length).reverse }); u.emit (.balls (drivenBalls u.tap.cells)))))
  ∧ (∀ (pins tdi : List Bool) (s : State),
      exec (.extestTrain pins tdi) s = .next ((let u := ((s.tapMod (fun t => { t with instr := 7, drives := true, highz := false })).emit (.shift ((((pins ++ List.replicate 1368 false).take 1368).reverse ++ tdi).take tdi.length))).tapMod (fun t => { t with cells := ((((pins ++ List.replicate 1368 false).take 1368).reverse ++ tdi).drop tdi.length).reverse }); u.emit (.balls (drivenBalls u.tap.cells)))))
  ∧ (∀ (tdi : List Bool) (s : State), exec (.bootRead tdi) s = .next ((s.tapMod (fun t =>
      { t with instr := 8, drives := false, highz := false })).emit (.shift ((bitList 32 (s.rdN R.BOOT_STATUS) ++ bitList 4 (s.power.tripped.getD 0) ++ tdi).take tdi.length))))

/-- SNAPSHOT_REQUEST stores its way of choosing, and with a snapshot pending refuses with code 0x22; with none pending it
refuses an SI that is past with 0x20 and one past the end of SIs with 0x21, each with SNAP_REFUSED; else it shows the
resolved SI as pending. SNAPSHOT_LATCH of a part not latched yet, of a pending snapshot whose SI its part has reached, holds
the words of its part, and that of the time part gives the pulse of the latch. SNAP_DONE before every part is latched
changes nothing; with all 21, it writes the set into the other image, shows its time, SI and number, ends the request, and
raises SNAP_DONE. Each of these commands completes there: exec answers a next state, as given, under conditions on the state
and the operands alone. (R651, R653, R654) -/
def Obligations.SnapshotsAreRequestedLatchedAndDone : Prop :=
  (∀ (n : Bool) (s : State), s.fbit F.SNAP_STATUS_PENDING = true →
      exec (.snapshotRequest n) s = .next (((s.fput F.SNAP_CTRL_NEXT (b2n n)).fput F.SNAP_STATUS_REASON 0x22).raise F.HOSTIF_EVENT_SNAP_REFUSED))
  ∧ (∀ (s : State), s.fbit F.SNAP_STATUS_PENDING = false → s.siNow < s.nextBoundary →
      (s.fput F.SNAP_CTRL_NEXT 1).boundaryAt s.nextBoundary ≤ siEnd →
      exec (.snapshotRequest true) s = .next (let u := s.fput F.SNAP_CTRL_NEXT 1; { (((u.fput F.SNAP_STATUS_PENDING 1).fput F.SNAP_STATUS_CHAIN 0).wr64 R.SNAP_RESOLVED_SI_LO R.SNAP_RESOLVED_SI_HI (u.boundaryAt s.nextBoundary)) with snap := {} }))
  ∧ (∀ (b : Fin 21) (s : State), s.fbit F.SNAP_STATUS_PENDING = true → s.snap.blocks.contains b.val = false →
      s.blockReached b.val (s.rd64 R.SNAP_RESOLVED_SI_LO R.SNAP_RESOLVED_SI_HI) = true →
      exec (.snapshotLatch b) s = .next (let r := s.latchBlock b.val; let u : State := { r.1 with snap := { s.snap with blocks := s.snap.blocks ++ [b.val], words := r.2.foldl (fun t e => tset 0#32 t e.1 e.2) s.snap.words } }; u.doIf (b.val == 2) (fun w => w.emit (.pulse 515))))
  ∧ (∀ (s : State), (s.fbit F.SNAP_STATUS_PENDING && (List.range 21).all (fun b => s.snap.blocks.contains b)) = false →
      exec (.snapDone) s = .next (s))
  ∧ (∀ (s : State), s.fbit F.SNAP_STATUS_PENDING = true → (List.range 21).all (fun b => s.snap.blocks.contains b) = true →
      exec (.snapDone) s = .next (let k := 1 - s.fget F.SNAP_STATUS_IMAGE; let s2 := (s.writeImage k s.snap.words).forEach [R.TIME_SNAP_NS_LO, R.TIME_SNAP_NS_HI, R.TIME_SNAP_FRAC] (fun u a => u.wr a (tget 0#32 s.snap.words a)); let s3 := s2.wr64 R.SNAP_DONE_SI_LO R.SNAP_DONE_SI_HI (s.rd64 R.SNAP_RESOLVED_SI_LO R.SNAP_RESOLVED_SI_HI); let s4 := (s3.fput F.SNAP_STATUS_IMAGE k).fput F.SNAP_STATUS_SEQ (s.fget F.SNAP_STATUS_SEQ + 1); { ((s4.fput F.SNAP_STATUS_PENDING 0).fput F.SNAP_STATUS_COMPLETE 1).raise F.HOSTIF_EVENT_SNAP_DONE with snap := {} }))

/-- DMA_ENABLE of an OFF channel with a valid ring puts it into FETCH; with a bad one it raises RING_BAD. Disabling a HALTED
channel puts it OFF. DMA_STOP of a channel OFF or HALTED clears STOP; of one in WAIT or RUN it goes through STOPPING.
DMA_RESUME of a HALTED channel with a valid ring puts it into FETCH. DOORBELL in WAIT does so too. DMA_CFG_WRITE in OFF or
HALTED stores CFG, RING_LO or RING_HI without their reserved bits; in any other state it raises CFG_REFUSED and changes
nothing more. Each of these commands completes there: exec answers a next state, as given, under conditions on the state and
the operands alone. (R483, R498, R499, R502) -/
def Obligations.DmaChannelsEnableStopResumeAndAreSet : Prop :=
  (∀ (n : Fin 32) (s : State), s.chState n.val = 0 → s.ringOk n.val = true →
      exec (.dmaEnable n true) s = .next ((s.fput (F.DMA_CH_CTRL_ENABLE n.val) 1).setCh n.val 1))
  ∧ (∀ (n : Fin 32) (s : State), s.chState n.val = 0 → s.ringOk n.val = false →
      exec (.dmaEnable n true) s = .next ((s.fput (F.DMA_CH_CTRL_ENABLE n.val) 1).raise (F.DMA_CH_EVENT_RING_BAD n.val)))
  ∧ (∀ (n : Fin 32) (s : State), s.chState n.val = 7 →
      exec (.dmaEnable n false) s = .next ((s.fput (F.DMA_CH_CTRL_ENABLE n.val) 0).setCh n.val 0))
  ∧ (∀ (n : Fin 32) (s : State), (s.chState n.val = 0 ∨ s.chState n.val = 7) →
      exec (.dmaStop n) s = .next (s.fput (F.DMA_CH_CTRL_STOP n.val) 0))
  ∧ (∀ (n : Fin 32) (s : State), (s.chState n.val = 2 ∨ s.chState n.val = 3) →
      exec (.dmaStop n) s = .next (((s.fput (F.DMA_CH_CTRL_STOP n.val) 1).setCh n.val 6).settle n.val))
  ∧ (∀ (n : Fin 32) (s : State), s.chState n.val = 7 → s.ringOk n.val = true →
      exec (.dmaResume n) s = .next (s.setCh n.val 1))
  ∧ (∀ (n : Fin 32) (s : State), s.chState n.val = 2 → exec (.doorbell n) s = .next (s.setCh n.val 1))
  ∧ (∀ (n : Fin 32) (v : Word) (s : State), (s.chState n.val = 0 ∨ s.chState n.val = 7) →
      exec (.dmaCfgWrite n 0 v) s = .next (s.wr (R.DMA_CH_CFG n.val) (v &&& 0xFFFFFFF3#32)))
  ∧ (∀ (n : Fin 32) (v : Word) (s : State), (s.chState n.val = 0 ∨ s.chState n.val = 7) →
      exec (.dmaCfgWrite n 1 v) s = .next (s.wr (R.DMA_CH_RING_LO n.val) (v &&& 0xFFFFFFE0#32)))
  ∧ (∀ (n : Fin 32) (v : Word) (s : State), (s.chState n.val = 0 ∨ s.chState n.val = 7) →
      exec (.dmaCfgWrite n 2 v) s = .next (s.wr (R.DMA_CH_RING_HI n.val) (v &&& 0x001F00FF#32)))
  ∧ (∀ (n : Fin 32) (k : Fin 3) (v : Word) (s : State), s.chState n.val ≠ 0 → s.chState n.val ≠ 7 →
      exec (.dmaCfgWrite n k v) s = .next (s.raise (F.DMA_CH_EVENT_CFG_REFUSED n.val)))

/-- DESCRIPTOR_FETCH of a channel in FETCH whose ring is in the host window, returned by the endpoint, reads it at HEAD: a
descriptor with its complement right and not owned leaves the channel in WAIT; an owned one that passes the checks is held
and puts it into RUN. DMA_BURST gives every channel its tokens, and the writes that they pay for go out; where one is
chosen, its next read is noted with its slots and pays its tokens. DMA_READ_RESPONSE of a host read puts its bytes into the
buffer and writes go out. DMA_WRITE_RESPONSE and DMA_ERR carry the oldest write out, or fail a beat of it. FENCE_TIMEOUT in
FENCE raises ERR and writes back code 9 or the earlier error. CPL_TIMEOUT counts and raises its event and fails the read.
Each of these commands completes there: exec answers a next state, as given, under conditions on the state and the operands
alone. (R477, R478, R483, R486, R487, R490, R494, R495, R496, R647) -/
def Obligations.DmaDescriptorsAreFetchedAndServed : Prop :=
  (∀ (n : Fin 32) (host : List Byte) (s : State), s.chState n.val = 1 →
      hostWin ≤ (s.ring n.val).1 + 32 * (s.rdN (R.DMA_CH_HEAD n.val) % (s.ring n.val).2) → s.hostOpen = true →
      host.length = 32 → imgN host 0 1 + imgN host 1 1 = 255 →
      exec (.descriptorFetch n host true) s = .next (let a := (s.ring n.val).1 + 32 * (s.rdN (R.DMA_CH_HEAD n.val) % (s.ring n.val).2); let u := s.emit (.hostRead (s.hostAddr a) 32); let d := dmaDesc a host; if bitOf (imgN host 0 1) 7 = false then u.setCh n.val 2 else let v := u.chMod' n.val (fun c => { desc := some d, tokens := c.tokens, wtokens := c.wtokens, orphans := c.orphans, bytes := c.bytes, err := if u.dmaCheck d = 0 then none else some (u.dmaCheck d, false, 0) }); if u.dmaCheck d = 0 then v.setCh n.val 3 else ((v.raise (F.DMA_CH_EVENT_ERR n.val)).setCh n.val 5).settle n.val))
  ∧ (∀ (cyc : Nat) (s : State), (s.accrue cyc).pump.dmaPick = none → exec (.dmaBurst cyc) s = .next ((s.accrue cyc).pump))
  ∧ (∀ (cyc n o k b slots : Nat) (d : DmaDesc) (s : State), (s.accrue cyc).pump.dmaPick = some n →
      (s.accrue cyc).pump.nextRead n = some (o, k, b, slots) → ((s.accrue cyc).pump.ch n).desc = some d →
      exec (.dmaBurst cyc) s = .next (let u := (s.accrue cyc).pump.chMod' n (fun c => { c with rd := o + k, reads := c.reads ++ [(o, k)], slots := c.slots ++ [(o + k, slots)], tokens := c.tokens - 256 * b }); ((u.dmaMod (fun x => { x with last := n })).showBuf).doIf (decide (hostWin ≤ d.srcAt o)) (fun w => w.emit (.hostRead (w.hostAddr (readSpan (d.srcAt o) k).1) ((readSpan (d.srcAt o) k).2 - (readSpan (d.srcAt o) k).1)))))
  ∧ (∀ (n : Fin 32) (host : List Byte) (o len : Nat) (rest : List (Nat × Nat)) (d : DmaDesc) (s : State),
      (s.ch n.val).reads = (o, len) :: rest → (s.ch n.val).desc = some d → hostWin ≤ d.srcAt o → s.hostOpen = true →
      exec (.dmaReadResponse n host true) s = .next (((s.chMod' n.val (fun x =>
      { x with reads := rest, buf := x.buf ++ ((((host ++ List.replicate 512 0#8).drop (d.srcAt o - (readSpan (d.srcAt o) len).1)).take len).map some) })).pump).settle n.val))
  ∧ (∀ (n : Fin 32) (a : Nat) (bs : List (Option Byte)) (rest : List (Nat × List (Option Byte))) (s : State),
      (s.ch n.val).orphans = [] → (s.ch n.val).writes = (a, bs) :: rest →
      exec (.dmaWriteResponse n) s = .next (let r := s.dmaWrite n.val a bs none; ((((r.1.chMod' n.val (fun x => { x with writes := rest })).forEach r.2 (fun u e => u.dmaFail n.val 8 e.1 e.2)).pump).fenceCheck n.val).settle n.val))
  ∧ (∀ (n : Fin 32) (s : State), s.chState n.val = 4 →
      exec (.fenceTimeout n) s = .next (let e := (s.ch n.val).err.getD (9, false, 0); (s.raise (F.DMA_CH_EVENT_ERR n.val)).writeback n.val e.1 e.2.1 e.2.2 false))
  ∧ (∀ (n : Fin 32) (b : Fin 8) (a : Nat) (bs : List (Option Byte)) (rest : List (Nat × List (Option Byte))) (s : State),
      (s.ch n.val).orphans = [] → (s.ch n.val).writes = (a, bs) :: rest →
      exec (.dmaErr n true b) s = .next (let r := s.dmaWrite n.val a bs (some b.val); ((((r.1.chMod' n.val (fun x => { x with writes := rest })).forEach r.2 (fun u e => u.dmaFail n.val 8 e.1 e.2)).pump).fenceCheck n.val).settle n.val))
  ∧ (∀ (n : Fin 32) (s : State), s.hostReading n.val = true →
      exec (.cplTimeout n) s = .next ((((s.count R.HOSTIF_CPL_TIMEOUTS).raise F.HOSTIF_EVENT_CPL_TIMEOUT).emit (.aer 2)).dmaReadBack n.val [] false none))

/-- MATRIX_TRANSACTION of no byte, of more than 4096 or across 4096 bytes is recorded with error 1 and answered with an error.
MATRIX_RESPONSE of a transaction that may be answered takes it away, notes its master, carries it out and answers it, and
looks at held ones again; a late one is counted and raises LATE_RESP. TIMEOUT of one that is accepted and not late, with the
timer on and not held at the Archive, records error 2, counts, marks it late and answers with an error. MATRIX_AGE_PROMOTE
of an accepted one, not at 15, promotes and counts. SAFFRON_WINDOW shows the ports over budget and starts a window.
REMAP_WRITE stores the two bits of MATRIX.CTRL. Each of these commands completes there: exec answers a next state, as given,
under conditions on the state and the operands alone. (R451, R454, R461, R464, R465, R471) -/
def Obligations.TransactionsArePresentedAndAnswered : Prop :=
  (∀ (m : Fin 20) (id : Fin 32) (qos : BitVec 4) (h wr : Bool) (addr : BitVec 40) (data : List (Option Byte)) (s : State),
      (data.length = 0 ∨ 4096 < data.length ∨ 4096 < addr.toNat % 4096 + data.length) →
      exec (.matrixTransaction m id qos h wr addr data) s = .next ((s.busErr ⟨m.val, id.val, s.capQos m.val qos.toNat⟩ wr addr.toNat 1).answer { m := m.val, id := id.val, qos := qos.toNat, hint := h, wr := wr, addr := addr.toNat, tgt := addr.toNat, data := data } false true (List.replicate (if wr then
      0 else data.length) 0#8)))
  ∧ (∀ (m : Fin 20) (id : Fin 32) (qos : BitVec 4) (h wr : Bool) (addr : BitVec 40) (data : List (Option Byte)) (s : State),
      0 < data.length → addr.toNat % 4096 + data.length ≤ 4096 → s.capQos m.val qos.toNat < 15 →
      exec (.matrixTransaction m id qos h wr addr data) s = .next (let r := s.place s.matrix.txns { m := m.val, id := id.val, qos := s.capQos m.val qos.toNat, hint := h, wr := wr, addr := addr.toNat, tgt := (s.window0 m.val addr.toNat).getD addr.toNat, data := data }; r.1.matMod (fun x => { x with txns := x.txns ++ [r.2] })))
  ∧ (∀ (k : Nat) (x : Txn) (s : State), s.matrix.txns[k]? = some x → s.mayAnswer k x = true → x.late = false →
      exec (.matrixResponse k) s = .next (let u := s.matMod (fun y => { y with txns := y.txns.eraseIdx k, last := tset 0 y.last x.port (x.m + 1) }); let r := u.carryOut x; ((r.1.answer x r.2.2 (u.urAt x.tgt x.size x.wr) r.2.1).release).wakeMaster x.m))
  ∧ (∀ (k : Nat) (x : Txn) (s : State), s.matrix.txns[k]? = some x → s.mayAnswer k x = true → x.late = true →
      exec (.matrixResponse k) s = .next (let u := s.matMod (fun y => { y with txns := y.txns.eraseIdx k, last := tset 0 y.last x.port (x.m + 1) }); (((u.carryOut x).1.count R.MATRIX_LATE_RESP).raise F.MATRIX_EVENT_LATE_RESP)))
  ∧ (∀ (k : Nat) (x : Txn) (s : State), s.matrix.txns[k]? = some x → x.late = false → x.hold = 0 →
      s.rdN R.MATRIX_TIMEOUT % 2 ^ 24 ≠ 0 → x.port ≠ 3 →
      exec (.timeout k) s = .next (let u := ((s.busErr ⟨x.m, x.id, x.qos⟩ x.wr x.addr 2).count R.MATRIX_TIMEOUTS).matMod (fun y => { y with txns := y.txns.set k { x with late := true } }); ((u.answer x false false (List.replicate (if x.wr then 0 else x.size) 0#8)).release).wakeMaster x.m))
  ∧ (∀ (k : Nat) (x : Txn) (s : State), s.matrix.txns[k]? = some x → x.late = false → x.hold = 0 → x.promoted = false →
      x.qos ≠ 15 → exec (.matrixAgePromote k) s = .next ((s.matMod (fun y =>
      { y with txns := y.txns.set k { x with promoted := true } })).count R.MATRIX_AGE_PROMOTED))
  ∧ (∀ (s : State), exec (.saffronWindow) s = .next ((s.fput F.MATRIX_STATUS_OVER s.matrix.over').matMod (fun x =>
      { x with saffron := [], over' := 0 })))
  ∧ (∀ (v : Word) (s : State),
      exec (.remapWrite v) s = .next (s.wr R.MATRIX_CTRL ((s.rd R.MATRIX_CTRL &&& ~~~3#32) ||| (v &&& 3#32))))

/-- An access at a Carrel window, a beam-set alias, the register bridge or the local store of an engine is carried out and
answered at once, at the window base and stride of the address map; a read that finds a parity error outside SLEEP is
recorded, counted at its engine and answered with an error. PCIE_INBOUND_REQUEST with the link up, out of D0 or with the
memory space not enabled, is answered with an unsupported request; in D0 with it enabled, a request of BAR2 becomes a
transaction of master 20 in the Archive, a read without relaxed order keeping identifier 0. That these accesses are one step
each is the model's choice. Each of these commands completes there: exec answers a next state, as given, under conditions on
the state and the operands alone. (R456, R457, R459, R564, R565, R645, R649) -/
def Obligations.AccessesReachTheirWindows : Prop :=
  (∀ (m : Fin 20) (id : Fin 32) (qos : BitVec 4) (j : Fin 400) (off : Fin 0x40000) (wr : Bool) (data : List (Option Byte)) (s : State),
      exec (.carrelWindowAccess m id qos j off wr data) s = .next (s.accessNow { m := m.val, id := id.val, qos := qos.toNat, hint := false, wr := wr, addr := 0x400000000 + 0x40000 * j.val + off.val, tgt := 0x400000000 + 0x40000 * j.val + off.val, data := data }))
  ∧ (∀ (m : Fin 20) (id : Fin 32) (qos : BitVec 4) (k : Fin 32) (off : Fin 0x40000) (data : List (Option Byte)) (s : State),
      exec (.aliasWrite m id qos k off data) s = .next (s.accessNow { m := m.val, id := id.val, qos := qos.toNat, hint := false, wr := true, addr := 0x410000000 + 0x40000 * k.val + off.val, tgt := 0x410000000 + 0x40000 * k.val + off.val, data := data }))
  ∧ (∀ (m : Fin 20) (id : Fin 32) (qos : BitVec 4) (off : Fin 0x1000000) (wr : Bool) (data : List (Option Byte)) (s : State),
      exec (.registerBridgeAccess m id qos off wr data) s = .next (s.accessNow { m := m.val, id := id.val, qos := qos.toNat, hint := false, wr := wr, addr := 0x2000000 + off.val, tgt := 0x2000000 + off.val, data := data }))
  ∧ (∀ (m : Fin 20) (id : Fin 32) (qos : BitVec 4) (e : Fin 16) (l : Fin 0x60000) (wr : Bool) (data : List (Option Byte)) (s : State),
      exec (.cloveOutsideAccess m id qos e l wr false data) s = .next (s.accessNow { m := m.val, id := id.val, qos := qos.toNat, hint := false, wr := wr, addr := 0x2800000 + 0x80000 * e.val + l.val, tgt := 0x2800000 + 0x80000 * e.val + l.val, data := data }))
  ∧ (∀ (m : Fin 20) (id : Fin 32) (qos : BitVec 4) (e : Fin 16) (l : Fin 0x60000) (data : List (Option Byte)) (s : State),
      s.mode ≠ 0 → m.val < 20 →
      exec (.cloveOutsideAccess m id qos e l false true data) s = .next (let a := 0x2800000 + 0x80000 * e.val + l.val; ((s.busErr ⟨m.val, id.val, qos.toNat⟩ false a 0).count (R.CLOVE_PARITY e.val)).emit (.response m.val id.val true (List.replicate data.length 0#8))))
  ∧ (∀ (b2 wr rx : Bool) (off : BitVec 36) (tag : BitVec 10) (data : List (Option Byte)) (s : State),
      s.fbit F.HOSTIF_STATUS_LINK_UP = true → s.boot.off = false → s.host.cold = false → data.isEmpty = false →
      s.fget F.HOSTIF_STATUS_DSTATE ≠ 0 → exec (.pcieInboundRequest b2 off wr rx tag data) s = .next (if wr then
      s.emit (.aer 1) else s.emit (.completion tag.toNat 1 [])))
  ∧ (∀ (wr : Bool) (off : BitVec 36) (tag : BitVec 10) (data : List (Option Byte)) (s : State),
      s.fbit F.HOSTIF_STATUS_LINK_UP = true → s.boot.off = false → s.host.cold = false → data.isEmpty = false →
      s.fget F.HOSTIF_STATUS_DSTATE = 0 → s.fbit F.HOSTIF_STATUS_MSE = true →
      exec (.pcieInboundRequest true off wr false tag data) s = .next (s.present { m := 20, id := 0, qos := 0, hint := s.fbit (F.MATRIX_MASTER_CFG_KEEP_OPEN 20), wr := wr, addr := archiveBase + off.toNat, tgt := archiveBase + off.toNat, data := data, pcie := some tag.toNat }))

/-- On a processor ready to execute, each instruction of major opcode 0x00 writes rd and goes on with the next instruction: ADD,
SUB and MUL wrap; AND, OR and XOR are bitwise; SLL, SRL and SRA shift by the low five bits of the second operand; SLT and
SLTU write 1 or 0; MULH and MULHU give the high half of the product; DIV and REM truncate toward zero and DIVU and REMU are
unsigned, with all ones and the dividend for a zero divisor; MIN and MAX are signed; ADDS and SUBS saturate. Each of these
commands completes there: exec answers a next state, as given, under conditions on the state and the operands alone. (R545,
R546) -/
def Obligations.RegisterArithmeticOfMace : Prop :=
  (∀ (p : Proc) (rd a b : Fin 32) (s : State), s.ready p = true →
      exec (.add p rd a b) s = .next ((s.setG p rd ((s.getG p a) + (s.getG p b))).advance p))
  ∧ (∀ (p : Proc) (rd a b : Fin 32) (s : State), s.ready p = true →
      exec (.sub p rd a b) s = .next ((s.setG p rd ((s.getG p a) - (s.getG p b))).advance p))
  ∧ (∀ (p : Proc) (rd a b : Fin 32) (s : State), s.ready p = true →
      exec (.and p rd a b) s = .next ((s.setG p rd ((s.getG p a) &&& (s.getG p b))).advance p))
  ∧ (∀ (p : Proc) (rd a b : Fin 32) (s : State), s.ready p = true →
      exec (.or p rd a b) s = .next ((s.setG p rd ((s.getG p a) ||| (s.getG p b))).advance p))
  ∧ (∀ (p : Proc) (rd a b : Fin 32) (s : State), s.ready p = true →
      exec (.xor p rd a b) s = .next ((s.setG p rd ((s.getG p a) ^^^ (s.getG p b))).advance p))
  ∧ (∀ (p : Proc) (rd a b : Fin 32) (s : State), s.ready p = true →
      exec (.sll p rd a b) s = .next ((s.setG p rd ((s.getG p a) <<< ((s.getG p b).toNat % 32))).advance p))
  ∧ (∀ (p : Proc) (rd a b : Fin 32) (s : State), s.ready p = true →
      exec (.srl p rd a b) s = .next ((s.setG p rd ((s.getG p a) >>> ((s.getG p b).toNat % 32))).advance p))
  ∧ (∀ (p : Proc) (rd a b : Fin 32) (s : State), s.ready p = true →
      exec (.sra p rd a b) s = .next ((s.setG p rd ((s.getG p a).sshiftRight ((s.getG p b).toNat % 32))).advance p))
  ∧ (∀ (p : Proc) (rd a b : Fin 32) (s : State), s.ready p = true →
      exec (.slt p rd a b) s = .next ((s.setG p rd (if (s.getG p a).toInt < (s.getG p b).toInt then 1#32 else
      0#32)).advance p))
  ∧ (∀ (p : Proc) (rd a b : Fin 32) (s : State), s.ready p = true →
      exec (.sltu p rd a b) s = .next ((s.setG p rd (if (s.getG p a).toNat < (s.getG p b).toNat then 1#32 else
      0#32)).advance p))
  ∧ (∀ (p : Proc) (rd a b : Fin 32) (s : State), s.ready p = true →
      exec (.mul p rd a b) s = .next ((s.setG p rd ((s.getG p a) * (s.getG p b))).advance p))
  ∧ (∀ (p : Proc) (rd a b : Fin 32) (s : State), s.ready p = true →
      exec (.mulh p rd a b) s = .next ((s.setG p rd (BitVec.ofInt 32 ((s.getG p a).toInt * (s.getG p b).toInt / 2 ^ 32))).advance p))
  ∧ (∀ (p : Proc) (rd a b : Fin 32) (s : State), s.ready p = true →
      exec (.mulhu p rd a b) s = .next ((s.setG p rd (BitVec.ofNat 32 ((s.getG p a).toNat * (s.getG p b).toNat / 2 ^ 32))).advance p))
  ∧ (∀ (p : Proc) (rd a b : Fin 32) (s : State), s.ready p = true →
      exec (.div p rd a b) s = .next ((s.setG p rd (if (s.getG p b) = 0#32 then 0xFFFFFFFF#32 else
      BitVec.ofInt 32 ((s.getG p a).toInt.tdiv (s.getG p b).toInt))).advance p))
  ∧ (∀ (p : Proc) (rd a b : Fin 32) (s : State), s.ready p = true →
      exec (.divu p rd a b) s = .next ((s.setG p rd (if (s.getG p b) = 0#32 then 0xFFFFFFFF#32 else
      BitVec.ofNat 32 ((s.getG p a).toNat / (s.getG p b).toNat))).advance p))
  ∧ (∀ (p : Proc) (rd a b : Fin 32) (s : State), s.ready p = true →
      exec (.rem p rd a b) s = .next ((s.setG p rd (if (s.getG p b) = 0#32 then (s.getG p a) else
      BitVec.ofInt 32 ((s.getG p a).toInt.tmod (s.getG p b).toInt))).advance p))
  ∧ (∀ (p : Proc) (rd a b : Fin 32) (s : State), s.ready p = true →
      exec (.remu p rd a b) s = .next ((s.setG p rd (if (s.getG p b) = 0#32 then (s.getG p a) else
      BitVec.ofNat 32 ((s.getG p a).toNat % (s.getG p b).toNat))).advance p))
  ∧ (∀ (p : Proc) (rd a b : Fin 32) (s : State), s.ready p = true →
      exec (.min p rd a b) s = .next ((s.setG p rd (if (s.getG p a).toInt < (s.getG p b).toInt then (s.getG p a) else
      (s.getG p b))).advance p))
  ∧ (∀ (p : Proc) (rd a b : Fin 32) (s : State), s.ready p = true →
      exec (.max p rd a b) s = .next ((s.setG p rd (if (s.getG p a).toInt < (s.getG p b).toInt then (s.getG p b) else
      (s.getG p a))).advance p))
  ∧ (∀ (p : Proc) (rd a b : Fin 32) (s : State), s.ready p = true →
      exec (.adds p rd a b) s = .next ((s.setG p rd (BitVec.ofInt 32 (max (-(2 ^ 31)) (min ((s.getG p a).toInt + (s.getG p b).toInt) (2 ^ 31 - 1))))).advance p))
  ∧ (∀ (p : Proc) (rd a b : Fin 32) (s : State), s.ready p = true →
      exec (.subs p rd a b) s = .next ((s.setG p rd (BitVec.ofInt 32 (max (-(2 ^ 31)) (min ((s.getG p a).toInt - (s.getG p b).toInt) (2 ^ 31 - 1))))).advance p))

/-- On a processor ready to execute: ADDI, ANDI, ORI, SLTI and SLTIU take the immediate sign-extended, XORI zero-extended; LUI
writes it shifted left by 16; SLLI, SRLI and SRAI shift by an amount of five bits. SETA writes an address register with the
low byte of rs2 above rs1; GETA and GETAH read its low 32 bits and its high 8; SETM and GETM write and read a modifier
register; ADDA adds rs1 sign-extended, modulo 2^40. Each goes on with the next instruction. Each of these commands completes
there: exec answers a next state, as given, under conditions on the state and the operands alone. (R540, R545) -/
def Obligations.ImmediateArithmeticAndAddressesOfMace : Prop :=
  (∀ (p : Proc) (rd a : Fin 32) (i : BitVec 16) (s : State), s.ready p = true →
      exec (.addi p rd a i) s = .next ((s.setG p rd ((s.getG p a) + i.signExtend 32)).advance p))
  ∧ (∀ (p : Proc) (rd a : Fin 32) (i : BitVec 16) (s : State), s.ready p = true →
      exec (.andi p rd a i) s = .next ((s.setG p rd ((s.getG p a) &&& i.signExtend 32)).advance p))
  ∧ (∀ (p : Proc) (rd a : Fin 32) (i : BitVec 16) (s : State), s.ready p = true →
      exec (.ori p rd a i) s = .next ((s.setG p rd ((s.getG p a) ||| i.signExtend 32)).advance p))
  ∧ (∀ (p : Proc) (rd a : Fin 32) (i : BitVec 16) (s : State), s.ready p = true →
      exec (.xori p rd a i) s = .next ((s.setG p rd ((s.getG p a) ^^^ i.setWidth 32)).advance p))
  ∧ (∀ (p : Proc) (rd a : Fin 32) (i : BitVec 16) (s : State), s.ready p = true →
      exec (.slti p rd a i) s = .next ((s.setG p rd (if (s.getG p a).toInt < (i.signExtend 32).toInt then 1#32 else
      0#32)).advance p))
  ∧ (∀ (p : Proc) (rd a : Fin 32) (i : BitVec 16) (s : State), s.ready p = true →
      exec (.sltiu p rd a i) s = .next ((s.setG p rd (if (s.getG p a).toNat < (i.signExtend 32).toNat then 1#32 else
      0#32)).advance p))
  ∧ (∀ (p : Proc) (rd : Fin 32) (i : BitVec 16) (s : State), s.ready p = true →
      exec (.lui p rd i) s = .next ((s.setG p rd (i.setWidth 32 <<< 16)).advance p))
  ∧ (∀ (p : Proc) (rd a : Fin 32) (i : Fin 32) (s : State), s.ready p = true →
      exec (.slli p rd a i) s = .next ((s.setG p rd ((s.getG p a) <<< i.val)).advance p))
  ∧ (∀ (p : Proc) (rd a : Fin 32) (i : Fin 32) (s : State), s.ready p = true →
      exec (.srli p rd a i) s = .next ((s.setG p rd ((s.getG p a) >>> i.val)).advance p))
  ∧ (∀ (p : Proc) (rd a : Fin 32) (i : Fin 32) (s : State), s.ready p = true →
      exec (.srai p rd a i) s = .next ((s.setG p rd ((s.getG p a).sshiftRight i.val)).advance p))
  ∧ (∀ (p : Proc) (i : Fin 8) (a b : Fin 32) (s : State), s.ready p = true →
      exec (.seta p i a b) s = .next ((s.setA p i.val (((s.getG p b).setWidth 8).append (s.getG p a))).advance p))
  ∧ (∀ (p : Proc) (rd : Fin 32) (i : Fin 8) (s : State), s.ready p = true →
      exec (.geta p rd i) s = .next ((s.setG p rd ((s.getA p i.val).setWidth 32)).advance p))
  ∧ (∀ (p : Proc) (rd : Fin 32) (i : Fin 8) (s : State), s.ready p = true →
      exec (.getah p rd i) s = .next ((s.setG p rd (((s.getA p i.val) >>> 32).setWidth 32)).advance p))
  ∧ (∀ (p : Proc) (i : Fin 8) (a : Fin 32) (s : State), s.ready p = true →
      exec (.setm p i a) s = .next ((s.setM p i.val (s.getG p a)).advance p))
  ∧ (∀ (p : Proc) (rd : Fin 32) (i : Fin 8) (s : State), s.ready p = true →
      exec (.getm p rd i) s = .next ((s.setG p rd (s.getM p i.val)).advance p))
  ∧ (∀ (p : Proc) (i : Fin 8) (a : Fin 32) (s : State), s.ready p = true →
      exec (.adda p i a) s = .next ((s.setA p i.val (s.getA p i.val + (s.getG p a).signExtend 40)).advance p))

/-- On a processor ready to execute, for an M-format address x that the addressing mode gives, with y what the address register
holds afterwards: LB and LH write the loaded byte or halfword sign-extended to rd, LBU and LHU zero-extended, LW the word;
LD, for an even register other than g0, the pair. SB, SH and SW store the low 1, 2 or 4 bytes of the register at x, least
significant first, and SD the pair. Each writes the address register with y and goes on. A load that is answered with an
error, and a store to a place that allows none, are exceptions and no case here. Each of these commands completes there:
exec answers a next state, as given, under conditions on the state and the operands alone. (R541, R543, R544, R545) -/
def Obligations.LoadsAndStoresOfMace : Prop :=
  (∀ (p : Proc) (g : Fin 32) (md : Fin 4) (a : Fin 8) (i : BitVec 16) (x y : BitVec 40) (u : State) (bs : List Byte) (s : State),
      s.ready p = true → s.mForm p md a i = some (x, y) → s.load p x.toNat 1 = (u, .ok bs) →
      exec (.lb p g md a i) s = .next (((u.setA p a.val y).setG p g (BitVec.ofNat 32 (fromSigned 32 (toSigned 8 (leNat bs))))).advance p))
  ∧ (∀ (p : Proc) (g : Fin 32) (md : Fin 4) (a : Fin 8) (i : BitVec 16) (x y : BitVec 40) (u : State) (bs : List Byte) (s : State),
      s.ready p = true → s.mForm p md a i = some (x, y) → s.load p x.toNat 1 = (u, .ok bs) →
      exec (.lbu p g md a i) s = .next (((u.setA p a.val y).setG p g (BitVec.ofNat 32 (leNat bs))).advance p))
  ∧ (∀ (p : Proc) (g : Fin 32) (md : Fin 4) (a : Fin 8) (i : BitVec 16) (x y : BitVec 40) (u : State) (bs : List Byte) (s : State),
      s.ready p = true → s.mForm p md a i = some (x, y) → s.load p x.toNat 2 = (u, .ok bs) →
      exec (.lh p g md a i) s = .next (((u.setA p a.val y).setG p g (BitVec.ofNat 32 (fromSigned 32 (toSigned 16 (leNat bs))))).advance p))
  ∧ (∀ (p : Proc) (g : Fin 32) (md : Fin 4) (a : Fin 8) (i : BitVec 16) (x y : BitVec 40) (u : State) (bs : List Byte) (s : State),
      s.ready p = true → s.mForm p md a i = some (x, y) → s.load p x.toNat 2 = (u, .ok bs) →
      exec (.lhu p g md a i) s = .next (((u.setA p a.val y).setG p g (BitVec.ofNat 32 (leNat bs))).advance p))
  ∧ (∀ (p : Proc) (g : Fin 32) (md : Fin 4) (a : Fin 8) (i : BitVec 16) (x y : BitVec 40) (u : State) (bs : List Byte) (s : State),
      s.ready p = true → s.mForm p md a i = some (x, y) → s.load p x.toNat 4 = (u, .ok bs) →
      exec (.lw p g md a i) s = .next (((u.setA p a.val y).setG p g (BitVec.ofNat 32 (leNat bs))).advance p))
  ∧ (∀ (p : Proc) (g : Fin 32) (md : Fin 4) (a : Fin 8) (i : BitVec 16) (x y : BitVec 40) (u : State) (bs : List Byte) (s : State),
      s.ready p = true → pairOk g = true → s.mForm p md a i = some (x, y) → s.load p x.toNat 8 = (u, .ok bs) →
      exec (.ld p g md a i) s = .next (((u.setA p a.val y).setPair p g (leNat bs)).advance p))
  ∧ (∀ (p : Proc) (g : Fin 32) (md : Fin 4) (a : Fin 8) (i : BitVec 16) (x y : BitVec 40) (s : State), s.ready p = true →
      s.mForm p md a i = some (x, y) → storeFault p x.toNat 1 = none →
      exec (.sb p g md a i) s = .next (((s.setA p a.val y).advance p).store p x.toNat (leBytes 1 (s.getG p g).toNat)))
  ∧ (∀ (p : Proc) (g : Fin 32) (md : Fin 4) (a : Fin 8) (i : BitVec 16) (x y : BitVec 40) (s : State), s.ready p = true →
      s.mForm p md a i = some (x, y) → storeFault p x.toNat 2 = none →
      exec (.sh p g md a i) s = .next (((s.setA p a.val y).advance p).store p x.toNat (leBytes 2 (s.getG p g).toNat)))
  ∧ (∀ (p : Proc) (g : Fin 32) (md : Fin 4) (a : Fin 8) (i : BitVec 16) (x y : BitVec 40) (s : State), s.ready p = true →
      s.mForm p md a i = some (x, y) → storeFault p x.toNat 4 = none →
      exec (.sw p g md a i) s = .next (((s.setA p a.val y).advance p).store p x.toNat (leBytes 4 (s.getG p g).toNat)))
  ∧ (∀ (p : Proc) (g : Fin 32) (md : Fin 4) (a : Fin 8) (i : BitVec 16) (x y : BitVec 40) (s : State), s.ready p = true →
      pairOk g = true → s.mForm p md a i = some (x, y) → storeFault p x.toNat 8 = none →
      exec (.sd p g md a i) s = .next (((s.setA p a.val y).advance p).store p x.toNat (leBytes 8 (s.getPair p g))))

/-- On a processor ready to execute: BEQ, BNE, BLT, BGE, BLTU and BGEU go to PC + 4 + 4 x the sign-extended displacement where
their condition holds, and otherwise on with the next instruction. J goes to PC + 4 + 4 x its displacement, JAL does so and
writes PC + 4 to g31. JR goes to rs1; JALR does so, with PC + 4 written to rd and rs1 read before that. Each of these
commands completes there: exec answers a next state, as given, under conditions on the state and the operands alone. (R542,
R545) -/
def Obligations.BranchesAndJumpsOfMace : Prop :=
  (∀ (p : Proc) (a b : Fin 32) (d : BitVec 16) (s : State), s.ready p = true →
      exec (.beq p a b d) s = .next (if (s.getG p a) = (s.getG p b) then
      s.jump p ((s.mp (ix p)).pc + 4#32 + (d.signExtend 32 <<< 2)) else s.advance p))
  ∧ (∀ (p : Proc) (a b : Fin 32) (d : BitVec 16) (s : State), s.ready p = true →
      exec (.bne p a b d) s = .next (if (s.getG p a) ≠ (s.getG p b) then
      s.jump p ((s.mp (ix p)).pc + 4#32 + (d.signExtend 32 <<< 2)) else s.advance p))
  ∧ (∀ (p : Proc) (a b : Fin 32) (d : BitVec 16) (s : State), s.ready p = true →
      exec (.blt p a b d) s = .next (if (s.getG p a).toInt < (s.getG p b).toInt then
      s.jump p ((s.mp (ix p)).pc + 4#32 + (d.signExtend 32 <<< 2)) else s.advance p))
  ∧ (∀ (p : Proc) (a b : Fin 32) (d : BitVec 16) (s : State), s.ready p = true →
      exec (.bge p a b d) s = .next (if (s.getG p b).toInt ≤ (s.getG p a).toInt then
      s.jump p ((s.mp (ix p)).pc + 4#32 + (d.signExtend 32 <<< 2)) else s.advance p))
  ∧ (∀ (p : Proc) (a b : Fin 32) (d : BitVec 16) (s : State), s.ready p = true →
      exec (.bltu p a b d) s = .next (if (s.getG p a).toNat < (s.getG p b).toNat then
      s.jump p ((s.mp (ix p)).pc + 4#32 + (d.signExtend 32 <<< 2)) else s.advance p))
  ∧ (∀ (p : Proc) (a b : Fin 32) (d : BitVec 16) (s : State), s.ready p = true →
      exec (.bgeu p a b d) s = .next (if (s.getG p b).toNat ≤ (s.getG p a).toNat then
      s.jump p ((s.mp (ix p)).pc + 4#32 + (d.signExtend 32 <<< 2)) else s.advance p))
  ∧ (∀ (p : Proc) (d : BitVec 26) (s : State), s.ready p = true →
      exec (.j p d) s = .next (s.jump p ((s.mp (ix p)).pc + 4#32 + (d.signExtend 32 <<< 2))))
  ∧ (∀ (p : Proc) (d : BitVec 26) (s : State), s.ready p = true →
      exec (.jal p d) s = .next ((s.setG p 31 ((s.mp (ix p)).pc + 4#32)).jump p ((s.mp (ix p)).pc + 4#32 + (d.signExtend 32 <<< 2))))
  ∧ (∀ (p : Proc) (a : Fin 32) (s : State), s.ready p = true → exec (.jr p a) s = .next (s.jump p (s.getG p a)))
  ∧ (∀ (p : Proc) (rd a : Fin 32) (s : State), s.ready p = true →
      exec (.jalr p rd a) s = .next ((s.setG p rd ((s.mp (ix p)).pc + 4#32)).jump p (s.getG p a)))

/-- On a processor ready to execute: MAC adds the product of rs1 and rs2 to the accumulator, subtracts it with NEG, or writes it
with Z; its operands are both complex or both the real low halves, and the part that receives nothing stays, or becomes 0
with Z. POW adds the power of rs1 to RE. ACLR clears both parts; ALD writes RE from rs1 and IM from rs2. APACK writes both
parts, scaled and saturated to 16 bits, and AMOVRE and AMOVIM one part scaled and saturated to 32 bits, each setting MSAT
where it saturated. Each goes on with the next instruction. Each of these commands completes there: exec answers a next
state, as given, under conditions on the state and the operands alone. (R547, R548, R549) -/
def Obligations.AccumulatorInstructionsOfMace : Prop :=
  (∀ (p : Proc) (n : Fin 4) (a b : Fin 32) (cj ng z : Bool) (s : State), s.ready p = true →
      exec (.mac p n a b cj ng true z) s = .next (let x := s.getG p a; let y := s.getG p b; (s.accumulate p n (if cj then (cre x * cre y + cim x * cim y, some (cim x * cre y - cre x * cim y)) else (cre x * cre y - cim x * cim y, some (cre x * cim y + cim x * cre y))) ng z).advance p))
  ∧ (∀ (p : Proc) (n : Fin 4) (a b : Fin 32) (cj ng z : Bool) (s : State), s.ready p = true →
      exec (.mac p n a b cj ng false z) s = .next ((s.accumulate p n (cim (s.getG p a) * cim (s.getG p b), none) ng z).advance p))
  ∧ (∀ (p : Proc) (n : Fin 4) (a : Fin 32) (s : State), s.ready p = true →
      exec (.pow p n a true) s = .next ((s.addPower p n (cre (s.getG p a) * cre (s.getG p a) + cim (s.getG p a) * cim (s.getG p a)) false).advance p))
  ∧ (∀ (p : Proc) (n : Fin 4) (a : Fin 32) (s : State), s.ready p = true →
      exec (.pow p n a false) s = .next ((s.addPower p n (cim (s.getG p a) * cim (s.getG p a)) false).advance p))
  ∧ (∀ (p : Proc) (n : Fin 4) (s : State), s.ready p = true → exec (.aclr p n) s = .next ((s.setAcc p n (0, 0)).advance p))
  ∧ (∀ (p : Proc) (n : Fin 4) (a b : Fin 32) (s : State), s.ready p = true →
      exec (.ald p n a b) s = .next ((s.setAcc p n ((s.getG p a).toInt, (s.getG p b).toInt)).advance p))
  ∧ (∀ (p : Proc) (rd : Fin 32) (n : Fin 4) (s : State), s.ready p = true →
      exec (.apack p rd n) s = .next (let v := s.getAcc p n; let re := satSym 32767 (s.scaled p v.1); let im := satSym 32767 (s.scaled p v.2); ((s.setG p rd (BitVec.ofNat 32 (fromSigned 16 re.1 * 2 ^ 16 + fromSigned 16 im.1))).dspFlag p 1 (re.2 || im.2)).advance p))
  ∧ (∀ (p : Proc) (rd : Fin 32) (n : Fin 4) (s : State), s.ready p = true →
      exec (.amovre p rd n) s = .next (let r := satSym (2 ^ 31 - 1) (s.scaled p (s.getAcc p n).1); ((s.setG p rd (BitVec.ofInt 32 r.1)).dspFlag p 1 r.2).advance p))
  ∧ (∀ (p : Proc) (rd : Fin 32) (n : Fin 4) (s : State), s.ready p = true →
      exec (.amovim p rd n) s = .next (let r := satSym (2 ^ 31 - 1) (s.scaled p (s.getAcc p n).2); ((s.setG p rd (BitVec.ofInt 32 r.1)).dspFlag p 1 r.2).advance p))

/-- On a processor ready to execute: RDCSR of a register that it has, CYCLE_LO apart, writes its value to rd; CYCLE_LO gives a
free value and latches CYCLE_HI (the model keeps no cycle count: log entry 149). WRCSR of one that it has writes it. RDTIME
gives the pair the nanoseconds of device time plus 2, RDSI TIME.SI_NOW. WAITSI goes on where TIME.SI_NOW has reached its
pair and otherwise waits; WAITSI_END ends that. WFE on an engine goes on where a selected flag is set and otherwise waits;
WFE_END ends that. FENCE waits until nothing is outstanding. Each of these commands completes there: exec answers a next
state, as given, under conditions on the state and the operands alone. (R554, R555, R556, R557, R558) -/
def Obligations.TimeWaitsAndCsrsOfMace : Prop :=
  (∀ (p : Proc) (rd : Fin 32) (c : BitVec 12) (v : Word) (s : State), s.ready p = true → c ≠ 8#12 →
      s.csrRead p c.toNat = some v → exec (.rdcsr p rd c) s = .next ((s.setG p rd v).advance p))
  ∧ (∀ (p : Proc) (rd : Fin 32) (s : State), s.ready p = true →
      exec (.rdcsr p rd 8#12) s = .next (((((s.tick1.tick1).mpMod (ix p) (fun x =>
      { x with cycHi := Config.freeWord (s.fresh + 1) })).setG p rd (Config.freeWord s.fresh)).advance p)))
  ∧ (∀ (p : Proc) (a : Fin 32) (c : BitVec 12) (t : State) (s : State), s.ready p = true →
      s.csrWrite p c.toNat (s.getG p a) = some t → exec (.wrcsr p a c) s = .next (t.advance p))
  ∧ (∀ (p : Proc) (a : Fin 32) (s : State), s.ready p = true → exec (.wrcsr p a 0#12) s = .next ((s.mpMod (ix p) (fun x =>
      x.modCur (fun b => { b with sc := s.getG p a &&& 0x13F#32 }))).advance p))
  ∧ (∀ (p : Proc) (rd : Fin 32) (s : State), s.ready p = true → pairOk rd = true →
      exec (.rdtime p rd) s = .next ((s.setPair p rd (s.time.now.toNat / 2 ^ 32 + 2)).advance p))
  ∧ (∀ (p : Proc) (rd : Fin 32) (s : State), s.ready p = true → pairOk rd = true →
      exec (.rdsi p rd) s = .next ((s.setPair p rd s.siNow).advance p))
  ∧ (∀ (p : Proc) (a : Fin 32) (s : State), s.ready p = true → pairOk a = true →
      exec (.waitsi p a) s = .next (if s.getPair p a ≤ s.siNow then s.advance p else s.waitFor p (.si (s.getPair p a))))
  ∧ (∀ (p : Proc) (n : Nat) (s : State), (s.mp (ix p)).wait = .si n → n ≤ s.siNow → s.awake p = true →
      exec (.waitsiEnd p) s = .next ((s.advance p).showWait p))
  ∧ (∀ (e : Fin 16) (a : Fin 32) (s : State), s.ready (.clove e) = true →
      exec (.wfe (.clove e) a) s = .next (if s.flagsOf e.val &&& s.getG (.clove e) a ≠ 0#32 then s.advance (.clove e) else
      s.waitFor (.clove e) (.flags (s.getG (.clove e) a).toNat)))
  ∧ (∀ (e : Fin 16) (m : Nat) (s : State), (s.mp (2 + e.val)).wait = .flags m →
      s.flagsOf e.val &&& BitVec.ofNat 32 m ≠ 0#32 → s.awake (.clove e) = true →
      exec (.wfeEnd e) s = .next ((s.advance (.clove e)).showClove e.val))
  ∧ (∀ (p : Proc) (s : State), s.ready p = true → exec (.fence p) s = .next ((s.waitFor p .fence).wakeFence p))

/-- On a Curator ready to execute and outside an exception, TRAP and ILLEGAL_INSTRUCTION save PC in EPC, set EXC with the cause
and the address, and go on at EBASE + 16 x cause: cause 6 with the code for TRAP, 3 with the PC for a fetch answered with an
error, 1 for a word that spells no instruction (its address is a free value: log entry 146). On a Clove engine TRAP records
PC, address and cause 6 and the engine faults. STORE_ERR takes cause 5 with the address of the store and clears it. ERET
inside an exception clears EXC and goes on at EPC; inside a handler it returns from that. STOP halts an engine after it.
Each of these commands completes there: exec answers a next state, as given, under conditions on the state and the operands
alone. (R545, R561, R568, R569, R587) -/
def Obligations.ExceptionsAndReturnsOfMace : Prop :=
  (∀ (c : Fin 2) (k : BitVec 12) (s : State), s.ready (.cur c) = true → (s.mp c.val).cur.ecause.getLsbD 31 = false →
      exec (.trap (.cur c) k) s = .next (s.mpMod c.val (fun p =>
      { p.modCur (fun b => { b with epc := p.pc, ecause := 0x80000006#32, eaddr := BitVec.ofNat 40 k.toNat }) with pc := (p.ebase &&& 0xFFFFFF00#32) + 96#32, wait := .run })))
  ∧ (∀ (e : Fin 16) (k : BitVec 12) (s : State), s.ready (.clove e) = true →
      exec (.trap (.clove e) k) s = .next (((((s.wr (R.CLOVE_FAULT_PC e.val) (s.mp (2 + e.val)).pc).wr64 (R.CLOVE_FAULT_ADDR_LO e.val) (R.CLOVE_FAULT_ADDR_HI e.val) (k.toNat % 2 ^ 40)).fput (F.CLOVE_STATUS_CAUSE e.val) 6).cloveStop e.val 3)))
  ∧ (∀ (c : Fin 2) (x : BitVec 40) (s : State), s.ready (.cur c) = true → (s.mp c.val).cur.ecause.getLsbD 31 = false →
      exec (.illegalInstruction (.cur c) 1 x) s = .next (s.mpMod c.val (fun p =>
      { p.modCur (fun b => { b with epc := p.pc, ecause := 0x80000003#32, eaddr := BitVec.ofNat 40 (s.mp c.val).pc.toNat }) with pc := (p.ebase &&& 0xFFFFFF00#32) + 48#32, wait := .run })))
  ∧ (∀ (p : Proc) (x : BitVec 40) (s : State), s.ready p = true →
      exec (.illegalInstruction p 0 x) s = .next (s.tick1.take p 1 (Config.freeNat s.fresh)))
  ∧ (∀ (e : Fin 16) (x : BitVec 40) (s : State), s.ready (.clove e) = true →
      exec (.illegalInstruction (.clove e) 2 x) s = .next (s.take (.clove e) 8 x.toNat))
  ∧ (∀ (p : Proc) (a : Nat) (s : State), (s.mp (ix p)).storeErr = some a → s.awake p = true →
      exec (.storeErr p) s = .next (((s.mpMod (ix p) (fun x => { x with storeErr := none })).take p 5 a).showWait p))
  ∧ (∀ (c : Fin 2) (s : State), s.ready (.cur c) = true → (s.mp c.val).cur.ecause.getLsbD 31 = true →
      exec (.eret (.cur c)) s = .next (s.mpMod c.val (fun x =>
      { x.modCur (fun b => { b with ecause := b.ecause &&& 0x7FFFFFFF#32 }) with pc := x.cur.epc })))
  ∧ (∀ (c : Fin 2) (s : State), s.ready (.cur c) = true → (s.mp c.val).cur.ecause.getLsbD 31 = false →
      (s.mp c.val).inFast = true → exec (.eret (.cur c)) s = .next (s.returnHandler c.val))
  ∧ (∀ (e : Fin 16) (s : State), s.ready (.clove e) = true →
      exec (.stop (.clove e)) s = .next ((s.advance (.clove e)).cloveStop e.val 2))

/-- BMOV on an engine ready to execute with a length of 1 to 4096 bytes, length and addresses multiples of 4, and the local
range within one of X, Y or C: with fewer than four moves outstanding it starts the move, advances both address registers
and goes on; with four it waits with its PC at it. A length of 0 does nothing. BMOV_COMPLETE of a move of a running engine
that is not resetting, answered without an error and with no move waiting, takes it off and looks at its waits again. BWAIT
goes on where no move is outstanding and otherwise waits. Each of these commands completes there: exec answers a next state,
as given, under conditions on the state and the operands alone. (R566, R568) -/
def Obligations.MovesOfTheClovesStartAndEnd : Prop :=
  (∀ (e : Fin 16) (rd : Fin 32) (l m : Fin 8) (inw : Bool) (k : Fin 4) (s : State), s.ready (.clove e) = true →
      0 < (s.getG (.clove e) rd).toNat → (s.getG (.clove e) rd).toNat ≤ 4096 → (s.getG (.clove e) rd).toNat % 4 = 0 →
      (s.getA (.clove e) l.val).toNat % 4 = 0 → (s.getA (.clove e) m.val).toNat % 4 = 0 →
      (s.getA (.clove e) l.val).toNat < 0x80000 → [1, 2, 3].contains (localMem (s.getA (.clove e) l.val).toNat) = true →
      localMem ((s.getA (.clove e) l.val).toNat + (s.getG (.clove e) rd).toNat - 1) = localMem (s.getA (.clove e) l.val).toNat →
      exec (.bmov (.clove e) rd l m inw k) s = .next (let mv : Move := ⟨(s.getA (.clove e) l.val).toNat, (s.getA (.clove e) m.val).toNat, (s.getG (.clove e) rd).toNat, inw, s.qosB (.clove e) k, 8, l.val, m.val⟩; if (s.mp (2 + e.val)).moves.length < 4 then s.startMove e mv else (s.mpMod (2 + e.val) (fun x => { x with waiting := some mv })).waitFor (.clove e) .room))
  ∧ (∀ (e : Fin 16) (rd : Fin 32) (l m : Fin 8) (inw : Bool) (k : Fin 4) (s : State), s.ready (.clove e) = true →
      (s.getG (.clove e) rd).toNat = 0 → (s.getA (.clove e) l.val).toNat % 4 = 0 → (s.getA (.clove e) m.val).toNat % 4 = 0 →
      exec (.bmov (.clove e) rd l m inw k) s = .next (s.advance (.clove e)))
  ∧ (∀ (e : Fin 16) (k : Fin 4) (mv : Move) (u : State) (s : State), (s.mp (2 + e.val)).moves[k.val]? = some mv →
      s.cloveResetting e.val = false → s.runMove e.val mv false = (u, none) → u.cloveResetting e.val = false ∧
      u.cloveState e.val = 1 ∧ (u.mp (2 + e.val)).waiting = none →
      exec (.bmovComplete e k) s = .next (((u.mpMod (2 + e.val) (fun x =>
      { x with moves := x.moves.eraseIdx k.val })).wakeFence (.clove e)).showClove e.val))
  ∧ (∀ (e : Fin 16) (s : State), s.ready (.clove e) = true →
      exec (.bwait (.clove e)) s = .next (if (s.mp (2 + e.val)).moves.isEmpty = true then s.advance (.clove e) else
      s.waitFor (.clove e) .moves))

/-- On an engine ready to execute, with the accesses aligned and each within the memory of its bus: D_MAC, D_MACZ, FTAP and
FTAPZ put the product of the elements at X and C into the accumulator, D_MACY and D_MACYZ of those at X and Y, D_POW and
D_POWZ the power of X; the Z forms write it. FTAP and FTAPZ write the X element one place further. Where YEN, a word moves
between Y and g (a form that reads Y as operand has none). The registers of X, of C where it is used, and of Y where it is
used, are post-modified; D_MOVE only does that. LOOP of a lawful body with a count runs its body; with a register count of 0
it skips it. Each of these commands completes there: exec answers a next state, as given, under conditions on the state and
the operands alone. (R550, R551, R552, R553, R554) -/
def Obligations.ThreeBusInstructionsOfTheCloves : Prop :=
  (∀ (e : Fin 16) (d : DBits) (s : State), s.ready (.clove e) = true →
      busFault 1 (s.getA (.clove e) (dXa d)).toNat (elemSize d.xcplx) = none →
      busFault 3 (s.getA (.clove e) (dCa d)).toNat (elemSize d.ocplx) = none → (d.yen = true →
      busFault 2 (s.getA (.clove e) (dYa d)).toNat 4 = none) →
      exec (.dMac (.clove e) d) s = .next (let u := s.accumulate (.clove e) d.acc (product (s.elemAt e.val (s.getA (.clove e) (dXa d)).toNat d.xcplx) (s.elemAt e.val (s.getA (.clove e) (dCa d)).toNat d.ocplx) d.conj) d.neg false; let v := u; let m := if d.yen = false then v else if d.ydir then v.stNat (cloveAt e.val (s.getA (.clove e) (dYa d)).toNat) 4 (s.getG (.clove e) d.g).toNat else v.setG (.clove e) d.g (BitVec.ofNat 32 (s.ldNat (cloveAt e.val (s.getA (.clove e) (dYa d)).toNat) 4)); let w := m.postMod (.clove e) (dXa d) (dXm d); let x := if d.yen then w.postMod (.clove e) (dYa d) (dYm d) else w; (x.postMod (.clove e) (dCa d) (dCm d)).advance (.clove e)))
  ∧ (∀ (e : Fin 16) (d : DBits) (s : State), s.ready (.clove e) = true →
      busFault 1 (s.getA (.clove e) (dXa d)).toNat (elemSize d.xcplx) = none →
      busFault 3 (s.getA (.clove e) (dCa d)).toNat (elemSize d.ocplx) = none → (d.yen = true →
      busFault 2 (s.getA (.clove e) (dYa d)).toNat 4 = none) →
      exec (.dMacz (.clove e) d) s = .next (let u := s.accumulate (.clove e) d.acc (product (s.elemAt e.val (s.getA (.clove e) (dXa d)).toNat d.xcplx) (s.elemAt e.val (s.getA (.clove e) (dCa d)).toNat d.ocplx) d.conj) d.neg true; let v := u; let m := if d.yen = false then v else if d.ydir then v.stNat (cloveAt e.val (s.getA (.clove e) (dYa d)).toNat) 4 (s.getG (.clove e) d.g).toNat else v.setG (.clove e) d.g (BitVec.ofNat 32 (s.ldNat (cloveAt e.val (s.getA (.clove e) (dYa d)).toNat) 4)); let w := m.postMod (.clove e) (dXa d) (dXm d); let x := if d.yen then w.postMod (.clove e) (dYa d) (dYm d) else w; (x.postMod (.clove e) (dCa d) (dCm d)).advance (.clove e)))
  ∧ (∀ (e : Fin 16) (d : DBits) (s : State), s.ready (.clove e) = true →
      busFault 1 (s.getA (.clove e) (dXa d)).toNat (elemSize d.xcplx) = none → d.yen = false →
      busFault 2 (s.getA (.clove e) (dYa d)).toNat (elemSize d.ocplx) = none →
      exec (.dMacy (.clove e) d) s = .next (let u := s.accumulate (.clove e) d.acc (product (s.elemAt e.val (s.getA (.clove e) (dXa d)).toNat d.xcplx) (s.elemAt e.val (s.getA (.clove e) (dYa d)).toNat d.ocplx) d.conj) d.neg false; let v := u; let w := v.postMod (.clove e) (dXa d) (dXm d); (w.postMod (.clove e) (dYa d) (dYm d)).advance (.clove e)))
  ∧ (∀ (e : Fin 16) (d : DBits) (s : State), s.ready (.clove e) = true →
      busFault 1 (s.getA (.clove e) (dXa d)).toNat (elemSize d.xcplx) = none → d.yen = false →
      busFault 2 (s.getA (.clove e) (dYa d)).toNat (elemSize d.ocplx) = none →
      exec (.dMacyz (.clove e) d) s = .next (let u := s.accumulate (.clove e) d.acc (product (s.elemAt e.val (s.getA (.clove e) (dXa d)).toNat d.xcplx) (s.elemAt e.val (s.getA (.clove e) (dYa d)).toNat d.ocplx) d.conj) d.neg true; let v := u; let w := v.postMod (.clove e) (dXa d) (dXm d); (w.postMod (.clove e) (dYa d) (dYm d)).advance (.clove e)))
  ∧ (∀ (e : Fin 16) (d : DBits) (s : State), s.ready (.clove e) = true →
      busFault 1 (s.getA (.clove e) (dXa d)).toNat (elemSize d.xcplx) = none →
      busFault 1 (((s.getA (.clove e) (dXa d)).toNat + (elemSize d.xcplx)) % 2 ^ 40) (elemSize d.xcplx) = none →
      busFault 3 (s.getA (.clove e) (dCa d)).toNat (elemSize d.ocplx) = none → (d.yen = true →
      busFault 2 (s.getA (.clove e) (dYa d)).toNat 4 = none) →
      exec (.ftap (.clove e) d) s = .next (let u := s.accumulate (.clove e) d.acc (product (s.elemAt e.val (s.getA (.clove e) (dXa d)).toNat d.xcplx) (s.elemAt e.val (s.getA (.clove e) (dCa d)).toNat d.ocplx) d.conj) d.neg false; let v := u.stBytes (cloveAt e.val ((s.getA (.clove e) (dXa d)).toNat + (elemSize d.xcplx))) (s.ldBytes (cloveAt e.val (s.getA (.clove e) (dXa d)).toNat) (elemSize d.xcplx)); let m := if d.yen = false then v else if d.ydir then v.stNat (cloveAt e.val (s.getA (.clove e) (dYa d)).toNat) 4 (s.getG (.clove e) d.g).toNat else v.setG (.clove e) d.g (BitVec.ofNat 32 (s.ldNat (cloveAt e.val (s.getA (.clove e) (dYa d)).toNat) 4)); let w := m.postMod (.clove e) (dXa d) (dXm d); let x := if d.yen then w.postMod (.clove e) (dYa d) (dYm d) else w; (x.postMod (.clove e) (dCa d) (dCm d)).advance (.clove e)))
  ∧ (∀ (e : Fin 16) (d : DBits) (s : State), s.ready (.clove e) = true →
      busFault 1 (s.getA (.clove e) (dXa d)).toNat (elemSize d.xcplx) = none →
      busFault 1 (((s.getA (.clove e) (dXa d)).toNat + (elemSize d.xcplx)) % 2 ^ 40) (elemSize d.xcplx) = none →
      busFault 3 (s.getA (.clove e) (dCa d)).toNat (elemSize d.ocplx) = none → (d.yen = true →
      busFault 2 (s.getA (.clove e) (dYa d)).toNat 4 = none) →
      exec (.ftapz (.clove e) d) s = .next (let u := s.accumulate (.clove e) d.acc (product (s.elemAt e.val (s.getA (.clove e) (dXa d)).toNat d.xcplx) (s.elemAt e.val (s.getA (.clove e) (dCa d)).toNat d.ocplx) d.conj) d.neg true; let v := u.stBytes (cloveAt e.val ((s.getA (.clove e) (dXa d)).toNat + (elemSize d.xcplx))) (s.ldBytes (cloveAt e.val (s.getA (.clove e) (dXa d)).toNat) (elemSize d.xcplx)); let m := if d.yen = false then v else if d.ydir then v.stNat (cloveAt e.val (s.getA (.clove e) (dYa d)).toNat) 4 (s.getG (.clove e) d.g).toNat else v.setG (.clove e) d.g (BitVec.ofNat 32 (s.ldNat (cloveAt e.val (s.getA (.clove e) (dYa d)).toNat) 4)); let w := m.postMod (.clove e) (dXa d) (dXm d); let x := if d.yen then w.postMod (.clove e) (dYa d) (dYm d) else w; (x.postMod (.clove e) (dCa d) (dCm d)).advance (.clove e)))
  ∧ (∀ (e : Fin 16) (d : DBits) (s : State), s.ready (.clove e) = true →
      busFault 1 (s.getA (.clove e) (dXa d)).toNat (elemSize d.xcplx) = none → (d.yen = true →
      busFault 2 (s.getA (.clove e) (dYa d)).toNat 4 = none) →
      exec (.dPow (.clove e) d) s = .next (let u := s.addPower (.clove e) d.acc (power (s.elemAt e.val (s.getA (.clove e) (dXa d)).toNat d.xcplx)) false; let v := u; let m := if d.yen = false then v else if d.ydir then v.stNat (cloveAt e.val (s.getA (.clove e) (dYa d)).toNat) 4 (s.getG (.clove e) d.g).toNat else v.setG (.clove e) d.g (BitVec.ofNat 32 (s.ldNat (cloveAt e.val (s.getA (.clove e) (dYa d)).toNat) 4)); let w := m.postMod (.clove e) (dXa d) (dXm d); let x := if d.yen then w.postMod (.clove e) (dYa d) (dYm d) else w; x.advance (.clove e)))
  ∧ (∀ (e : Fin 16) (d : DBits) (s : State), s.ready (.clove e) = true →
      busFault 1 (s.getA (.clove e) (dXa d)).toNat (elemSize d.xcplx) = none → (d.yen = true →
      busFault 2 (s.getA (.clove e) (dYa d)).toNat 4 = none) →
      exec (.dPowz (.clove e) d) s = .next (let u := s.addPower (.clove e) d.acc (power (s.elemAt e.val (s.getA (.clove e) (dXa d)).toNat d.xcplx)) true; let v := u; let m := if d.yen = false then v else if d.ydir then v.stNat (cloveAt e.val (s.getA (.clove e) (dYa d)).toNat) 4 (s.getG (.clove e) d.g).toNat else v.setG (.clove e) d.g (BitVec.ofNat 32 (s.ldNat (cloveAt e.val (s.getA (.clove e) (dYa d)).toNat) 4)); let w := m.postMod (.clove e) (dXa d) (dXm d); let x := if d.yen then w.postMod (.clove e) (dYa d) (dYm d) else w; x.advance (.clove e)))
  ∧ (∀ (e : Fin 16) (d : DBits) (s : State), s.ready (.clove e) = true → (d.yen = true →
      busFault 2 (s.getA (.clove e) (dYa d)).toNat 4 = none) →
      exec (.dMove (.clove e) d) s = .next (let u := s; let v := u; let m := if d.yen = false then v else if d.ydir then v.stNat (cloveAt e.val (s.getA (.clove e) (dYa d)).toNat) 4 (s.getG (.clove e) d.g).toNat else v.setG (.clove e) d.g (BitVec.ofNat 32 (s.ldNat (cloveAt e.val (s.getA (.clove e) (dYa d)).toNat) 4)); let w := m.postMod (.clove e) (dXa d) (dXm d); let x := if d.yen then w.postMod (.clove e) (dYa d) (dYm d) else w; (x.postMod (.clove e) (dCa d) (dCm d)).advance (.clove e)))
  ∧ (∀ (e : Fin 16) (n : BitVec 13) (r : Fin 32) (len : BitVec 12) (s : State), s.ready (.clove e) = true → len ≠ 0#12 →
      n.toNat ≠ 0 → (s.mp (2 + e.val)).loops.length < 2 →
      exec (.loop (.clove e) true n r len) s = .next (s.mpMod (2 + e.val) (fun x =>
      { x with loops := ⟨s.nextPc (.clove e), s.nextPc (.clove e) + 4 * len.toNat, n.toNat⟩ :: x.loops, pc := x.pc + 4#32 })))
  ∧ (∀ (e : Fin 16) (n : BitVec 13) (r : Fin 32) (len : BitVec 12) (s : State), s.ready (.clove e) = true → len ≠ 0#12 →
      (s.mp (2 + e.val)).loops.length < 2 →
      exec (.loop (.clove e) false n r len) s = .next (if (s.getG (.clove e) r).toNat = 0 then
      s.seqTo (.clove e) (s.nextPc (.clove e) + 4 * len.toNat) else s.mpMod (2 + e.val) (fun x =>
      { x with loops := ⟨s.nextPc (.clove e), s.nextPc (.clove e) + 4 * len.toNat, (s.getG (.clove e) r).toNat⟩ :: x.loops, pc := x.pc + 4#32 })))

/-- For every command c, queue rest l and state s, a step of s with c in front of l is exec of c on s with the queue l. On an
empty queue a step is one 250 MHz tick of the time domain, which is the model's choice (log entry 1). (R45, R46) -/
def Obligations.StepRunsTheFrontCommand : Prop :=
  (∀ (c : Instr) (l : List Instr) (s : State), step { s with pending := c :: l } = exec c { s with pending := l }) ∧
    (∀ s : State, s.pending = [] → step s = .next (idleTick s))

/-- State.reset has its registers and memory in canonical form, no command waiting and no output; and reads the reset values
that the register tables give, here one or two of each chapter: DEVICE_ID = 0xDE012048, DEVICE_STEP = 0xB0, TIME_SI_NUM_LO =
10240, TIME_SI_DEN_LO = 9, TIME_SLEW_RATE = 50, INGEST_SKEW = 10000, ARRAY_CHECK_PERIOD = 1000, ACCUM_INT_WINDOWS = 54,
BEAM_SEARCH = 0x606, CHAIN_REPLY_TIMEOUT = 5000, HBMC_SCRUB_PERIOD = 4, MATRIX_SAFFRON_BUDGET = 102, DMA_FENCE_TIMEOUT =
0x200000, CORE_LEASE_PERIOD = 1000, MBOX_CROSS_WAIT = 65536, POWER_PLIMIT = 340, HOSTIF_CPL_TIMEOUT = 50, MGMT_CTRL = 1.
(R14, R69, R166, R228, R285, R326, R412, R447, R473, R501, R533, R640) -/
def Obligations.ResetStandsInFormAndHoldsItsValues : Prop :=
  State.reset.Wf ∧ State.reset.pending = [] ∧ State.reset.out = [] ∧ State.reset.rdN R.DEVICE_ID = 0xDE012048 ∧
    State.reset.rdN R.DEVICE_STEP = 0xB0 ∧ State.reset.rdN R.TIME_SI_NUM_LO = 10240 ∧ State.reset.rdN R.TIME_SI_DEN_LO = 9 ∧
    State.reset.rdN R.TIME_SLEW_RATE = 50 ∧ State.reset.rdN R.INGEST_SKEW = 10000 ∧
    State.reset.rdN R.ARRAY_CHECK_PERIOD = 1000 ∧ State.reset.rdN R.ACCUM_INT_WINDOWS = 54 ∧
    State.reset.rdN R.BEAM_SEARCH = 0x606 ∧ State.reset.rdN R.CHAIN_REPLY_TIMEOUT = 5000 ∧
    State.reset.rdN R.HBMC_SCRUB_PERIOD = 4 ∧ State.reset.rdN R.MATRIX_SAFFRON_BUDGET = 102 ∧
    State.reset.rdN R.DMA_FENCE_TIMEOUT = 0x200000 ∧ State.reset.rdN R.CORE_LEASE_PERIOD = 1000 ∧
    State.reset.rdN R.MBOX_CROSS_WAIT = 65536 ∧ State.reset.rdN R.POWER_PLIMIT = 340 ∧
    State.reset.rdN R.HOSTIF_CPL_TIMEOUT = 50 ∧ State.reset.rdN R.MGMT_CTRL = 1

/-- For every state whose registers and memory stand in canonical form (addresses rising, no register listed at zero and no byte
listed at what an unlisted address reads as), a step that answers a next state leaves them in canonical form: equal contents
stay equal data, whatever command ran, a tick included. (R10, R45, R452) -/
def Obligations.EveryStepKeepsTheForm : Prop :=
  ∀ s t : State, s.Wf → step s = .next t → t.Wf

/-- For every command and every state, exec answers a next state: no command faults and none is refused, whatever the data. In
it the commands that wait are those that waited, the outputs are those there were followed by new ones, and the counter of
free values has not gone back. The queue, the outputs and the counter are the model's own fields. (R1, R10) -/
def Obligations.EveryCommandCompletesAndKeepsTheQueue : Prop :=
  ∀ (c : Instr) (s : State), ∃ t, exec c s = .next t ∧ t.pending = s.pending ∧ (∃ l, t.out = s.out ++ l) ∧
    s.fresh ≤ t.fresh

/-- A read or write that decodes to the default target is answered with an error; a read returns zeros; nothing of memory
changes. DECODE_ERR is raised and DECODE_ERRS counts; where ERR_INFO held no error yet, it is valid with kind 1 and ERR_ADDR
holds the address. (R469) -/
def Obligations.DefaultTargetAnswersWithAnError : Prop :=
  ∀ (s : State) (rb : RegBus) (b : By) (addr tgt n : Nat) (bs : List (Option Byte)) (w : Bool), targetOf tgt = .none' →
s.busRead rb b addr tgt n = (s.busErr b false addr 1, List.replicate n 0#8, false)
∧ s.busWrite rb b addr tgt bs = (s.busErr b true addr 1, false)
∧ MemKept s (s.busErr b w addr 1)
∧ (s.busErr b w addr 1).fbit F.MATRIX_EVENT_DECODE_ERR = true
∧ (s.busErr b w addr 1).rdN R.MATRIX_DECODE_ERRS = min (s.rdN R.MATRIX_DECODE_ERRS + 1) (2 ^ 32 - 1)
∧ (s.fbit F.MATRIX_ERR_INFO_VALID = false → b.m < 20 → addr < 2 ^ 40 →
(s.busErr b w addr 1).fbit F.MATRIX_ERR_INFO_VALID = true ∧
            (s.busErr b w addr 1).fget F.MATRIX_ERR_INFO_KIND = 1
∧ (s.busErr b w addr 1).rd64 R.MATRIX_ERR_ADDR_LO R.MATRIX_ERR_ADDR_HI = addr)

/-- Mode 00b uses a + imm16 and leaves a; 01b uses a and leaves a + m, where imm16 names m in [2:0] with its other bits zero,
and is ILLEGAL otherwise; 10b uses a and leaves a + imm16; 11b is ILLEGAL. Sums are of 40 bits with imm16 and m
sign-extended. Each load and store takes the ILLEGAL exception where there is no address. (R543) -/
def Obligations.AddressesOfLoadsAndStores : Prop :=
  (∀ (s : State) (p : Proc) (a : Fin 8) (i : BitVec 16),
    s.mForm p 0 a i = some (s.getA p a.val + (i.signExtend 32).signExtend 40, s.getA p a.val)
∧ s.mForm p 1 a i = (if i.toNat < 8 then
          some (s.getA p a.val, s.getA p a.val + (s.getM p i.toNat).signExtend 40) else none)
∧ s.mForm p 2 a i = some (s.getA p a.val, s.getA p a.val + (i.signExtend 32).signExtend 40)
∧ s.mForm p 3 a i = none)
∧ (∀ (p : Proc) (g : Fin 32) (md : Fin 4) (a : Fin 8) (i : BitVec 16) (s : State), s.ready p = true →
        s.mForm p md a i = none → exec (.lb p g md a i) s = .next (s.illegal p))
∧ (∀ (p : Proc) (g : Fin 32) (md : Fin 4) (a : Fin 8) (i : BitVec 16) (s : State), s.ready p = true →
        s.mForm p md a i = none → exec (.lbu p g md a i) s = .next (s.illegal p))
∧ (∀ (p : Proc) (g : Fin 32) (md : Fin 4) (a : Fin 8) (i : BitVec 16) (s : State), s.ready p = true →
        s.mForm p md a i = none → exec (.lh p g md a i) s = .next (s.illegal p))
∧ (∀ (p : Proc) (g : Fin 32) (md : Fin 4) (a : Fin 8) (i : BitVec 16) (s : State), s.ready p = true →
        s.mForm p md a i = none → exec (.lhu p g md a i) s = .next (s.illegal p))
∧ (∀ (p : Proc) (g : Fin 32) (md : Fin 4) (a : Fin 8) (i : BitVec 16) (s : State), s.ready p = true →
        s.mForm p md a i = none → exec (.lw p g md a i) s = .next (s.illegal p))
∧ (∀ (p : Proc) (g : Fin 32) (md : Fin 4) (a : Fin 8) (i : BitVec 16) (s : State), s.ready p = true →
        s.mForm p md a i = none → exec (.ld p g md a i) s = .next (s.illegal p))
∧ (∀ (p : Proc) (g : Fin 32) (md : Fin 4) (a : Fin 8) (i : BitVec 16) (s : State), s.ready p = true →
        s.mForm p md a i = none → exec (.sb p g md a i) s = .next (s.illegal p))
∧ (∀ (p : Proc) (g : Fin 32) (md : Fin 4) (a : Fin 8) (i : BitVec 16) (s : State), s.ready p = true →
        s.mForm p md a i = none → exec (.sh p g md a i) s = .next (s.illegal p))
∧ (∀ (p : Proc) (g : Fin 32) (md : Fin 4) (a : Fin 8) (i : BitVec 16) (s : State), s.ready p = true →
        s.mForm p md a i = none → exec (.sw p g md a i) s = .next (s.illegal p))
∧ (∀ (p : Proc) (g : Fin 32) (md : Fin 4) (a : Fin 8) (i : BitVec 16) (s : State), s.ready p = true →
        s.mForm p md a i = none → exec (.sd p g md a i) s = .next (s.illegal p))

/-- A pair is named by an even register gn other than g0: gn holds bits 31 to 0 and the next register bits 63 to 32, in a read
and in a write. Where LD, SD, RDTIME, RDSI or WAITSI names an odd register or g0 as a pair, the instruction takes the
ILLEGAL exception. (R541) -/
def Obligations.RegisterPairsAreEven : Prop :=
  (∀ g : Fin 32, pairOk g = true ↔ g.val % 2 = 0 ∧ g ≠ 0)
∧ (∀ (s : State) (p : Proc) (g : Fin 32), s.getPair p g = (s.getG p g).toNat + 2 ^ 32 * (s.getG p (g + 1)).toNat)
∧ (∀ (s : State) (p : Proc) (g : Fin 32) (v : Nat), pairOk g = true → v < 2 ^ 64 →
        (s.setPair p g v).getPair p g = v)
∧ (∀ (p : Proc) (g : Fin 32) (md : Fin 4) (a : Fin 8) (i : BitVec 16) (s : State), s.ready p = true →
        pairOk g = false → exec (.ld p g md a i) s = .next (s.illegal p))
∧ (∀ (p : Proc) (g : Fin 32) (md : Fin 4) (a : Fin 8) (i : BitVec 16) (s : State), s.ready p = true →
        pairOk g = false → exec (.sd p g md a i) s = .next (s.illegal p))
∧ (∀ (p : Proc) (g : Fin 32) (s : State), s.ready p = true → pairOk g = false →
        exec (.rdtime p g) s = .next (s.illegal p))
∧ (∀ (p : Proc) (g : Fin 32) (s : State), s.ready p = true → pairOk g = false →
        exec (.rdsi p g) s = .next (s.illegal p))
∧ (∀ (p : Proc) (g : Fin 32) (s : State), s.ready p = true → pairOk g = false →
        exec (.waitsi p g) s = .next (s.illegal p))

/-- After a write of a general register of a processor, that register reads the value, g0 reads zero, and every other general
register of that processor, and every register of the other processors, reads as before; the same for the address and
modifier registers and the accumulators, each kept apart from the others. (R540) -/
def Obligations.RegistersOfMaceReadBack : Prop :=
  ∀ (s : State) (p q : Proc) (n j : Fin 32) (v : Word) (i k : Nat) (x : BitVec 40) (m : Word) (c d : Fin 4) (e : Int × Int),
(s.setG p n v).getG q j = (if q = p ∧ j = n ∧ n ≠ 0 then v else s.getG q j) ∧ s.getG p 0 = 0#32
∧ (s.setA p i x).getA q k = (if q = p ∧ k = i then x else s.getA q k) ∧ (s.setA p i x).getG q j = s.getG q j
∧ (s.setM p i m).getM q k = (if q = p ∧ k = i then m else s.getM q k) ∧ (s.setM p i m).getA q k = s.getA q k
∧ (s.setAcc p c e).getAcc q d = (if q = p ∧ d = c then e else s.getAcc q d) ∧ (s.setAcc p c e).getG q j = s.getG q j

/-- A cell adds ac + bd to its real part and bc - ad to its imaginary part, for row operand a + jb and column operand c + jd,
where neither part passes 524287; a flagged sample is 0 + j0 and counts nothing. A pass of at most 5349 spectra of 4-bit
samples, components from -7 to 7, and one of at most 16 of 8-bit samples, from -127 to 127, never saturates: the cell holds
the exact sums. (R178, R179, R181, R255) -/
def Obligations.CellsOfAPassAddExactly : Prop :=
  (∀ (c : CellSum) (f : Bool) (x y : Int × Int × Bool), (c.re + (x.1 * y.1 + x.2.1 * y.2.1)).natAbs ≤ 524287 →
(c.im + (x.2.1 * y.1 - x.1 * y.2.1)).natAbs ≤ 524287 →
cellAdd (c, f) x y = (⟨c.re + (x.1 * y.1 + x.2.1 * y.2.1), c.im + (x.2.1 * y.1 - x.1 * y.2.1), c.n + b2n (!x.2.2 && !y.2.2)⟩, f))
∧ (∀ (l : List ((Int × Int × Bool) × (Int × Int × Bool))) (k : Nat), k = 7 ∧ l.length ≤ 5349 ∨ k = 127 ∧
        l.length ≤ 16 →
(∀ e ∈ l, e.1.1.natAbs ≤ k ∧ e.1.2.1.natAbs ≤ k ∧ e.2.1.natAbs ≤ k ∧ e.2.2.1.natAbs ≤ k) →
l.foldl (fun a e => cellAdd a e.1 e.2) ({}, false) = (⟨(l.map (fun e => e.1.1 * e.2.1 + e.1.2.1 * e.2.2.1)).sum,
(l.map (fun e => e.1.2.1 * e.2.1 - e.1.1 * e.2.2.1)).sum, (l.map (fun e =>
            b2n (!e.1.2.2 && !e.2.2.2))).sum⟩, false))

/-- An addition to a part gives the sum clamped to 2^39 - 1 in magnitude, and says whether it was clamped; accumulating or
adding a power sets DSPSTAT.ASAT exactly where a part was clamped, and otherwise leaves DSPSTAT. A product part of words is
at most 2^31 in magnitude, so 255 products of any operands accumulate into an empty part without saturating (the rule says
256, which 2^39 passes by one; log entry 188). (R547, R548) -/
def Obligations.AccumulatorsOfMaceSaturateAndRecordIt : Prop :=
  (∀ a d : Int, accAdd a d = (max (-(2 ^ 39 - 1)) (min (a + d) (2 ^ 39 - 1)), decide (2 ^ 39 - 1 < (a + d).natAbs)))
∧ (∀ (s : State) (p : Proc) (n : Fin 4) (x : Int × Option Int) (ng : Bool),
        ((s.accumulate p n x ng false).mp (ix p)).dspstat
= if decide (2 ^ 39 - 1 < ((s.getAcc p n).1 + (if ng then -x.1 else x.1)).natAbs)
|| x.2.any (fun i => decide (2 ^ 39 - 1 < ((s.getAcc p n).2 + (if ng then -i else i)).natAbs))
then insertBits (s.mp (ix p)).dspstat 0 1 1 else (s.mp (ix p)).dspstat)
∧ (∀ (u v : Word) (c d cj : Bool), (product (opnd c u) (opnd d v) cj).1.natAbs ≤ 2 ^ 31
∧ ∀ i, (product (opnd c u) (opnd d v) cj).2 = some i → i.natAbs ≤ 2 ^ 31)
∧ (∀ l : List Int, l.length ≤ 255 → (∀ i ∈ l, i.natAbs ≤ 2 ^ 31) →
l.foldl (fun a i => ((accAdd a.1 i).1, a.2 || (accAdd a.1 i).2)) (0, false) = (l.sum, false))

/-- Exec of a command of these families answers a next state, in every state, in which only the named parts may differ and every
other field is as it was: lanes and ports (registers, lanes, outputs, the chain, time, the counter of free values); ingest
(registers, ingest, lanes, time, the chain, memory); the array; accumulation; beams and egress. Where memory is not named,
every byte of memory reads as before. (R79, R127, R173, R236, R237, R300) -/
def Obligations.SignalPathCommandsKeepTheRest : Prop :=
  ∀ (c : Instr) (s : State), Completes c s (fun t =>
(family c = .port →
        t = { s with regs := t.regs, out := t.out, fresh := t.fresh, lanes := t.lanes, time := t.time, chain := t.chain } ∧
        MemKept s t)
∧ (family c = .ingest →
        t = { s with regs := t.regs, mem := t.mem, poison := t.poison, fresh := t.fresh, lanes := t.lanes, quireNext := t.quireNext, ingest := t.ingest, time := t.time, chain := t.chain })
∧ (family c = .array →
        t = { s with regs := t.regs, mem := t.mem, fresh := t.fresh, ingest := t.ingest, array := t.array, accum := t.accum, beam := t.beam })
∧ (family c = .accum →
        t = { s with regs := t.regs, mem := t.mem, poison := t.poison, fresh := t.fresh, lanes := t.lanes, egress := t.egress, array := t.array, accum := t.accum, beam := t.beam, snap := t.snap, hbm := t.hbm })
∧ (family c = .beam →
        t = { s with regs := t.regs, out := t.out, fresh := t.fresh, lanes := t.lanes, egress := t.egress, ingest := t.ingest, array := t.array, accum := t.accum, beam := t.beam } ∧
        MemKept s t))

/-- Exec of a command of these families answers a next state, in every state, in which only the named parts may differ and every
other field is as it was. No time, chain, Catalogue, throttle or test-port command changes a byte of memory; a test-port
command changes nothing but the test port and its outputs. (R45, R352, R378, R426, R630, R651, R687) -/
def Obligations.TimeChainAndControlCommandsKeepTheRest : Prop :=
  ∀ (c : Instr) (s : State), Completes c s (fun t =>
(family c = .time → t = { s with regs := t.regs, out := t.out, fresh := t.fresh, time := t.time } ∧ MemKept s t)
∧ (family c = .chain →
        t = { s with regs := t.regs, out := t.out, fresh := t.fresh, lanes := t.lanes, time := t.time, accum := t.accum, cat := t.cat, chain := t.chain, snap := t.snap } ∧
        MemKept s t)
∧ (family c = .catalogue → t = { s with regs := t.regs, fresh := t.fresh, cat := t.cat } ∧ MemKept s t)
∧ (family c = .memory →
        t = { s with regs := t.regs, mem := t.mem, poison := t.poison, out := t.out, fresh := t.fresh, hbm := t.hbm })
∧ (family c = .throttle →
        t = { s with regs := t.regs, out := t.out, fresh := t.fresh, sheds := t.sheds, cat := t.cat, power := t.power } ∧
        MemKept s t)
∧ (family c = .snapshot →
        t = { s with regs := t.regs, mem := t.mem, poison := t.poison, out := t.out, fresh := t.fresh, snap := t.snap })
∧ (family c = .test → t = { s with out := t.out, tap := t.tap } ∧ MemKept s t))

/-- Exec of a command of these families answers a next state, in every state, in which only the named parts may differ and every
other field is as it was; presenting a transaction and the lease change no byte of memory. (R451, R476, R508, R579, R658,
R661) -/
def Obligations.MatrixHostAndCuratorCommandsKeepTheRest : Prop :=
  ∀ (c : Instr) (s : State), Completes c s (fun t =>
(family c = .matrix → t = { s with regs := t.regs, out := t.out, matrix := t.matrix } ∧ MemKept s t)
∧ (family c = .dma → t = { s with regs := t.regs, dma := t.dma } ∧ MemKept s t)
∧ (family c = .mailbox →
        t = { s with regs := t.regs, mem := t.mem, out := t.out, fresh := t.fresh, lanes := t.lanes })
∧ (family c = .lease →
        t = { s with regs := t.regs, out := t.out, time := t.time, lastOwner := t.lastOwner, mace := t.mace, irq := t.irq, host := t.host } ∧
        MemKept s t)
∧ (family c = .interrupt →
        t = { s with regs := t.regs, mem := t.mem, out := t.out, mace := t.mace, irq := t.irq, host := t.host })
∧ (family c = .host →
        t = { s with regs := t.regs, mem := t.mem, out := t.out, fresh := t.fresh, cat := t.cat, boot := t.boot, host := t.host }))

/-- Exec of a Mace command of these families answers a next state, in every state, in which only the named parts may differ and
every other field is as it was; none but the three-bus instructions changes a byte of memory. An arithmetic, branch,
accumulator, register, LOOP, STOP or TRAP instruction of a processor leaves every other processor as it was, and one of a
Curator leaves every register of the device as it was. (R540, R545, R561, R569) -/
def Obligations.MaceInstructionsKeepTheRest : Prop :=
  ∀ (c : Instr) (s : State), Completes c s (fun t =>
(family c = .maceAlu → t = { s with regs := t.regs, fresh := t.fresh, mace := t.mace } ∧ MemKept s t)
∧ (family c = .maceWait →
        t = { s with regs := t.regs, out := t.out, fresh := t.fresh, mace := t.mace, irq := t.irq, host := t.host } ∧
        MemKept s t)
∧ (family c = .maceDsp → t = { s with regs := t.regs, mem := t.mem, fresh := t.fresh, mace := t.mace })
∧ (family c = .clove → t = { s with regs := t.regs, mace := t.mace } ∧ MemKept s t)
∧ (∀ p, aluProc c = some p → (∀ q, q ≠ ix p → t.mp q = s.mp q) ∧ (isCur p = true → t.regs = s.regs)))
end

