-- ==== Sys2Proof/Laws/Tab.lean ====
section
/-!
SUPPORT. Laws/Tab.lean: sparse tables: what a read gives after a write, and that every write keeps the canonical form.
-/
namespace Sys2Proof.Machine

variable {α : Type}

theorem tabRising_mono : ∀ {t : Tab α} {a b : Nat}, a ≤ b → tabRising b t = true → tabRising a t = true
  | [], _, _, _, _ => rfl
  | (j, _) :: _, a, b, h, hr => by
    simp only [tabRising, Bool.and_eq_true, decide_eq_true_eq] at hr ⊢
    exact ⟨Nat.le_trans h hr.1, hr.2⟩

/-- Below the first key of a rising table every key reads as absent. -/
theorem tget_below (d : α) : ∀ {t : Tab α} {lo k : Nat}, tabRising lo t = true → k < lo → tget d t k = d
  | [], _, _, _, _ => rfl
  | (j, v) :: rest, lo, k, hr, hk => by
    simp only [tabRising, Bool.and_eq_true, decide_eq_true_eq] at hr
    have hj : ¬ j = k := by omega
    simp only [tget, hj, if_false]
    exact tget_below d hr.2 (by omega)

theorem tinsert_rising : ∀ {t : Tab α} {lo k : Nat} (v : α), tabRising lo t = true → lo ≤ k → tabRising lo (tinsert t k v) = true
  | [], _, _, _, _, hk => by simp [tinsert, tabRising, hk]
  | (j, w) :: rest, lo, k, v, hr, hk => by
    simp only [tabRising, Bool.and_eq_true, decide_eq_true_eq] at hr
    by_cases h1 : k < j
    · simp only [tinsert, if_pos h1, tabRising, Bool.and_eq_true, decide_eq_true_eq]
      exact ⟨hk, Nat.succ_le_of_lt h1, hr.2⟩
    · by_cases h2 : k = j
      · subst h2
        simp only [tinsert, if_neg h1, if_true, tabRising, Bool.and_eq_true, decide_eq_true_eq]
        exact ⟨hk, hr.2⟩
      · simp only [tinsert, if_neg h1, if_neg h2, tabRising, Bool.and_eq_true, decide_eq_true_eq]
        exact ⟨hr.1, tinsert_rising v hr.2 (by omega)⟩

theorem terase_rising : ∀ {t : Tab α} {lo : Nat} (k : Nat), tabRising lo t = true → tabRising lo (terase t k) = true
  | [], _, _, _ => rfl
  | (j, v) :: rest, lo, k, hr => by
    simp only [tabRising, Bool.and_eq_true, decide_eq_true_eq] at hr
    by_cases h : j = k
    · simp only [terase, if_pos h]
      exact terase_rising k (tabRising_mono (by omega) hr.2)
    · simp only [terase, if_neg h, tabRising, Bool.and_eq_true, decide_eq_true_eq]
      exact ⟨hr.1, terase_rising k hr.2⟩

theorem filter_rising (p : Nat × α → Bool) : ∀ {t : Tab α} {lo : Nat}, tabRising lo t = true → tabRising lo (t.filter p) = true
  | [], _, _ => rfl
  | (j, v) :: rest, lo, hr => by
    simp only [tabRising, Bool.and_eq_true, decide_eq_true_eq] at hr
    by_cases h : p (j, v) = true
    · simp only [List.filter_cons, h, if_true, tabRising, Bool.and_eq_true, decide_eq_true_eq]
      exact ⟨hr.1, filter_rising p hr.2⟩
    · simp only [List.filter_cons, h]
      exact tabRising_mono (by omega) (filter_rising p hr.2)

theorem mem_of_mem_tinsert : ∀ {t : Tab α} {k : Nat} {v : α} {e : Nat × α}, e ∈ tinsert t k v → e = (k, v) ∨ e ∈ t
  | [], _, _, _, h => by
    simp only [tinsert, List.mem_singleton] at h
    exact Or.inl h
  | (j, w) :: rest, k, v, e, h => by
    by_cases h1 : k < j
    · simp only [tinsert, if_pos h1, List.mem_cons] at h ⊢
      exact h
    · by_cases h2 : k = j
      · simp only [tinsert, if_neg h1, if_pos h2, List.mem_cons] at h ⊢
        exact h.imp_right Or.inr
      · simp only [tinsert, if_neg h1, if_neg h2, List.mem_cons] at h ⊢
        rcases h with h | h
        · exact Or.inr (Or.inl h)
        · exact (mem_of_mem_tinsert h).imp_right Or.inr

theorem mem_of_mem_terase : ∀ {t : Tab α} {k : Nat} {e : Nat × α}, e ∈ terase t k → e ∈ t
  | [], _, _, h => h
  | (j, w) :: rest, k, e, h => by
    by_cases h1 : j = k
    · simp only [terase, if_pos h1] at h
      exact List.mem_cons_of_mem _ (mem_of_mem_terase h)
    · simp only [terase, if_neg h1, List.mem_cons] at h ⊢
      exact h.imp_right mem_of_mem_terase

/-- Every write keeps the canonical form. -/
theorem tabWf_tset [DecidableEq α] {d : α} {t : Tab α} (h : tabWf d t = true) (k : Nat) (v : α) : tabWf d (tset d t k v) = true := by
  simp only [tabWf, Bool.and_eq_true, List.all_eq_true, decide_eq_true_eq] at h ⊢
  by_cases hv : v = d
  · simp only [tset, if_pos hv]
    exact ⟨terase_rising k h.1, fun e he => h.2 e (mem_of_mem_terase he)⟩
  · simp only [tset, if_neg hv]
    refine ⟨tinsert_rising v h.1 (Nat.zero_le k), fun e he => ?_⟩
    rcases mem_of_mem_tinsert he with rfl | he
    · exact hv
    · exact h.2 e he

/-- A part of a canonical table is canonical. -/
theorem tabWf_filter [DecidableEq α] {d : α} {t : Tab α} (h : tabWf d t = true) (p : Nat × α → Bool) : tabWf d (t.filter p) = true := by
  simp only [tabWf, Bool.and_eq_true, List.all_eq_true, decide_eq_true_eq] at h ⊢
  exact ⟨filter_rising p h.1, fun e he => h.2 e (List.mem_of_mem_filter he)⟩

/-- Writing a list of entries one after another keeps the canonical form. -/
theorem tabWf_foldl [DecidableEq α] {d : α} : ∀ {l : List (Nat × α)} {t : Tab α}, tabWf d t = true →
    tabWf d (l.foldl (fun t e => tset d t e.1 e.2) t) = true
  | [], _, h => h
  | e :: rest, _, h => tabWf_foldl (l := rest) (tabWf_tset h e.1 e.2)

theorem tget_tinsert_same (d : α) : ∀ (t : Tab α) (k : Nat) (v : α), tget d (tinsert t k v) k = v
  | [], _, _ => by simp [tinsert, tget]
  | (j, w) :: rest, k, v => by
    by_cases h1 : k < j
    · simp [tinsert, tget, h1]
    · by_cases h2 : k = j
      · simp [tinsert, tget, h2]
      · have h3 : ¬ j = k := fun h => h2 h.symm
        simp [tinsert, tget, h1, h2, h3, tget_tinsert_same d rest k v]

theorem tget_tinsert_other (d : α) : ∀ (t : Tab α) {k j : Nat} (v : α), j ≠ k → tget d (tinsert t k v) j = tget d t j
  | [], k, j, v, h => by simp [tinsert, tget, Ne.symm h]
  | (i, w) :: rest, k, j, v, h => by
    have hk : ¬ k = j := fun e => h e.symm
    by_cases h1 : k < i
    · simp [tinsert, tget, h1, hk]
    · by_cases h2 : k = i
      · subst h2
        simp [tinsert, tget, hk]
      · simp only [tinsert, if_neg h1, if_neg h2, tget, tget_tinsert_other d rest v h]

theorem tget_terase_other (d : α) : ∀ (t : Tab α) {k j : Nat}, j ≠ k → tget d (terase t k) j = tget d t j
  | [], _, _, _ => rfl
  | (i, w) :: rest, k, j, h => by
    by_cases h1 : i = k
    · have h2 : ¬ i = j := fun e => h (e.symm.trans h1)
      simp only [terase, if_pos h1, tget, if_neg h2, tget_terase_other d rest h]
    · simp only [terase, if_neg h1, tget, tget_terase_other d rest h]

theorem tget_terase_same (d : α) : ∀ (t : Tab α) (k : Nat), tget d (terase t k) k = d
  | [], _ => rfl
  | (i, w) :: rest, k => by
    by_cases h1 : i = k
    · simp only [terase, if_pos h1, tget_terase_same d rest k]
    · simp only [terase, if_neg h1, tget, tget_terase_same d rest k]

/-- A read of another key is unchanged by a write. -/
theorem tget_tset_other [DecidableEq α] (d : α) (t : Tab α) {k j : Nat} (v : α) (h : j ≠ k) : tget d (tset d t k v) j = tget d t j := by
  unfold tset
  split
  · exact tget_terase_other d t h
  · exact tget_tinsert_other d t v h

/-- A read after a write to the same key gives the value written. -/
theorem tget_tset_same [DecidableEq α] (d : α) (t : Tab α) (k : Nat) (v : α) : tget d (tset d t k v) k = v := by
  unfold tset
  split
  · rename_i hv
    rw [hv]
    exact tget_terase_same d t k
  · exact tget_tinsert_same d t k v

end Sys2Proof.Machine
end

