-- ==== Sys2Proof/Laws/Follows.lean ====
section
/-!
SUPPORT. Laws/Follows.lean: what every shared operation can do, once: each gives a state that follows the one it is given (canonical form kept, queue
untouched, outputs only added, free values not used again). The files Laws/Follows1.lean on carry the same lemma for every operation and
every meaning of the model, named after it.
-/
namespace Sys2Proof.Machine

theorem Follows.rfl' (s : State) : Follows s s := ⟨id, rfl, ⟨[], (List.append_nil _).symm⟩, Nat.le_refl _⟩

theorem Follows.trans' {a b c : State} (h : Follows a b) (g : Follows b c) : Follows a c := by
  obtain ⟨l, hl⟩ := h.2.2.1
  obtain ⟨k, hk⟩ := g.2.2.1
  exact ⟨fun w => g.1 (h.1 w), g.2.1.trans h.2.1, ⟨l ++ k, by rw [hk, hl, List.append_assoc]⟩, Nat.le_trans h.2.2.2 g.2.2.2⟩

theorem followsO_next {s0 t : State} (h : Follows s0 t) : FollowsO s0 (.next t) := fun u hu => by
  cases hu
  exact h

theorem follows_ite {s0 a b : State} {c : Prop} [Decidable c] (ha : Follows s0 a) (hb : Follows s0 b) :
    Follows s0 (if c then a else b) := by split <;> assumption

theorem followsO_ite {s0 : State} {a b : Host.Outcome State Fault Refusal} {c : Prop} [Decidable c] (ha : FollowsO s0 a) (hb : FollowsO s0 b) :
    FollowsO s0 (if c then a else b) := by split <;> assumption

theorem follows_ite1 {α : Type} {s0 : State} {a b : State × α} {c : Prop} [Decidable c] (ha : Follows s0 a.1) (hb : Follows s0 b.1) :
    Follows s0 (if c then a else b).1 := by split <;> assumption

/-- A state that differs from `s` in nothing that `Follows` speaks of. -/
theorem follows_mk {s0 s : State} (h : Follows s0 s)
    {poison oldRegs hiLatch accSi lanes quireNext egress ingest time sheds array accum beam cat chain snap hbm power matrix dma lastOwner mace irq
      boot host tap} :
    Follows s0 (State.mk s.regs s.mem s.carrelEra poison oldRegs hiLatch accSi s.out s.fresh lanes quireNext egress ingest time sheds array accum
      beam cat chain snap hbm power matrix dma lastOwner mace irq boot host tap s.pending) := h

/-- As `follows_mk`, with more free values used. -/
theorem follows_mk_fresh {s0 s : State} (h : Follows s0 s)
    {poison oldRegs hiLatch accSi lanes quireNext egress ingest time sheds array accum beam cat chain snap hbm power matrix dma lastOwner mace irq
      boot host tap} :
    Follows s0 (State.mk s.regs s.mem s.carrelEra poison oldRegs hiLatch accSi s.out (s.fresh + 1) lanes quireNext egress ingest time sheds array
      accum beam cat chain snap hbm power matrix dma lastOwner mace irq boot host tap s.pending) :=
  ⟨h.1, h.2.1, h.2.2.1, Nat.le_trans h.2.2.2 (Nat.le_succ _)⟩

/-- As `follows_mk`, with memory filtered. -/
theorem follows_mk_filter {s0 s : State} (h : Follows s0 s) {p : Host.Cell → Bool}
    {poison oldRegs hiLatch accSi lanes quireNext egress ingest time sheds array accum beam cat chain snap hbm power matrix dma lastOwner mace irq
      boot host tap} :
    Follows s0 (State.mk s.regs (s.mem.filter p) s.carrelEra poison oldRegs hiLatch accSi s.out s.fresh lanes quireNext egress ingest time sheds
      array accum beam cat chain snap hbm power matrix dma lastOwner mace irq boot host tap s.pending) := by
  refine ⟨fun w => ⟨(h.1 w).1, ?_⟩, h.2.1, h.2.2.1, h.2.2.2⟩
  have hm := (h.1 w).2
  simp only [Memory.wf, Bool.and_eq_true, List.all_eq_true, decide_eq_true_eq] at hm ⊢
  exact ⟨filter_rising p hm.1, fun c hc => hm.2 c (List.mem_of_mem_filter hc)⟩

/-- The registers of the machine after reset are in canonical form. -/
theorem tabWf_resetRegs : tabWf 0#32 resetRegs = true := by decide +kernel

/-- The machine after reset is in canonical form. -/
theorem wf_reset : State.reset.Wf := ⟨tabWf_resetRegs, rfl⟩

theorem State.wr_follows {s0 s : State} (h : Follows s0 s) (a : Nat) (v : Word) : Follows s0 (s.wr a v) :=
  ⟨fun w => ⟨tabWf_tset (h.1 w).1 a v, (h.1 w).2⟩, h.2.1, h.2.2.1, h.2.2.2⟩

/-- Memory in canonical form stays so when one byte is stored. -/
theorem Memory.wf_stb {s : State} (h : Memory.wf s = true) (a : Nat) (b : Byte) : Memory.wf (s.stb a b) = true := by
  have hm := h
  simp only [Memory.wf, Bool.and_eq_true, List.all_eq_true, decide_eq_true_eq] at hm
  have hd : ∀ c, (s.stb a b).memDefault c = s.memDefault c := fun _ => rfl
  simp only [Memory.wf, Bool.and_eq_true, List.all_eq_true, decide_eq_true_eq, hd]
  show tabRising 0 (tset (s.memDefault a) s.mem a b) = true ∧ ∀ x ∈ tset (s.memDefault a) s.mem a b, x.2 ≠ s.memDefault x.1
  by_cases hv : b = s.memDefault a
  · simp only [tset, if_pos hv]
    exact ⟨terase_rising a hm.1, fun e he => hm.2 e (mem_of_mem_terase he)⟩
  · simp only [tset, if_neg hv]
    refine ⟨tinsert_rising b hm.1 (Nat.zero_le a), fun e he => ?_⟩
    rcases mem_of_mem_tinsert he with rfl | he
    · exact hv
    · exact hm.2 e he

theorem State.stb_follows {s0 s : State} (h : Follows s0 s) (a : Nat) (b : Byte) : Follows s0 (s.stb a b) :=
  ⟨fun w => ⟨(h.1 w).1, Memory.wf_stb (h.1 w).2 a b⟩, h.2.1, h.2.2.1, h.2.2.2⟩

/-- The Carrels losing their contents keeps memory in canonical form. -/
theorem Memory.wf_carrelLose {s : State} (h : Memory.wf s = true) (n : Nat) : Memory.wf (s.carrelLose n) = true := by
  simp only [Memory.wf, Bool.and_eq_true, List.all_eq_true, decide_eq_true_eq, State.carrelLose] at h ⊢
  refine ⟨filter_rising _ h.1, fun c hc => ?_⟩
  have hc' := List.mem_filter.mp hc
  have hn : inCarrel c.1 = false := by simpa using hc'.2
  have := h.2 c hc'.1
  simpa [State.memDefault, hn] using this

theorem State.carrelLose_follows {s0 s : State} (h : Follows s0 s) (n : Nat) : Follows s0 (s.carrelLose n) :=
  ⟨fun w => ⟨(h.1 w).1, Memory.wf_carrelLose (h.1 w).2 n⟩, h.2.1, h.2.2.1, h.2.2.2⟩

theorem State.emit_follows {s0 s : State} (h : Follows s0 s) (o : Out) : Follows s0 (s.emit o) := by
  obtain ⟨l, hl⟩ := h.2.2.1
  exact ⟨h.1, h.2.1, ⟨l ++ [o], by simp [State.emit, hl]⟩, h.2.2.2⟩

theorem State.tick1_follows {s0 s : State} (h : Follows s0 s) : Follows s0 s.tick1 :=
  ⟨h.1, h.2.1, h.2.2.1, Nat.le_trans h.2.2.2 (Nat.le_succ _)⟩

theorem State.forEach_follows {α : Type} {s0 : State} {f : State → α → State} (hf : ∀ u x, Follows s0 u → Follows s0 (f u x)) :
    ∀ {l : List α} {s : State}, Follows s0 s → Follows s0 (s.forEach l f)
  | [], _, h => h
  | x :: rest, _, h => State.forEach_follows hf (l := rest) (hf _ x h)

theorem State.doIf_follows {s0 s : State} {f : State → State} {c : Bool} (h : Follows s0 s) (hf : ∀ u, Follows s0 u → Follows s0 (f u)) :
    Follows s0 (s.doIf c f) := by
  unfold State.doIf
  split
  · exact hf s h
  · exact h

theorem State.stBytes_follows {s0 : State} : ∀ {l : List Byte} {s : State} (_ : Follows s0 s) (a : Nat), Follows s0 (s.stBytes a l)
  | [], _, h, _ => h
  | b :: rest, s, h, a => State.stBytes_follows (l := rest) (State.stb_follows h a b) (a + 1)

end Sys2Proof.Machine
end

