-- ==== Sys2Proof/Laws/FollowsOps.lean ====
section
/-!
SUPPORT. Laws/FollowsOps.lean: what every operation and meaning can do, for the shared operations, lanes and accession sets: one lemma
each, named after it. A state transformer keeps the registers and memory in canonical form, does not touch the queue, only adds outputs, and uses
no free value again.
-/
namespace Sys2Proof.Machine

theorem State.wrN_follows {s0 s : State} (h : Follows s0 s) (a n : Nat) : Follows s0 (State.wrN s a n) := by
  simp +contextual (maxDischargeDepth := 100) only [State.wrN, State.wr_follows, h]

theorem State.fput_follows {s0 s : State} (h : Follows s0 s) (f : Field) (n : Nat) : Follows s0 (State.fput s f n) := by
  simp +contextual (maxDischargeDepth := 100) only [State.fput, State.wr_follows, h]

theorem State.raise_follows {s0 s : State} (h : Follows s0 s) (f : Field) : Follows s0 (State.raise s f) := by
  simp +contextual (maxDischargeDepth := 100) only [State.raise, State.fput_follows, h]

theorem State.raiseIf_follows {s0 s : State} (h : Follows s0 s) (c : Bool) (f : Field) : Follows s0 (State.raiseIf s c f) := by
  simp +contextual (maxDischargeDepth := 100) only [State.raiseIf, State.raise_follows, follows_ite, h]

theorem State.countBy_follows {s0 s : State} (h : Follows s0 s) (a n : Nat) : Follows s0 (State.countBy s a n) := by
  simp +contextual (maxDischargeDepth := 100) only [State.countBy, State.wrN_follows, h]

theorem State.count_follows {s0 s : State} (h : Follows s0 s) (a : Nat) : Follows s0 (State.count s a) := by
  simp +contextual (maxDischargeDepth := 100) only [State.count, State.countBy_follows, h]

theorem State.wr64_follows {s0 s : State} (h : Follows s0 s) (lo hi n : Nat) : Follows s0 (State.wr64 s lo hi n) := by
  simp +contextual (maxDischargeDepth := 100) only [State.wr64, State.wrN_follows, h]

theorem State.setFlag_follows {s0 s : State} (h : Follows s0 s) (arr : Nat → Nat) (k : Nat) (b : Bool) : Follows s0 (State.setFlag s arr k b) := by
  simp +contextual (maxDischargeDepth := 100) only [State.setFlag, State.fput_follows, h]

theorem State.stNat_follows {s0 s : State} (h : Follows s0 s) (a n v : Nat) : Follows s0 (State.stNat s a n v) := by
  simp +contextual (maxDischargeDepth := 100) only [State.stNat, State.stBytes_follows, h]

theorem State.clr_follows {s0 s : State} (h : Follows s0 s) (a : Nat) : Follows s0 (State.clr s a) := by
  simp +contextual (maxDischargeDepth := 100) only [State.clr, State.wr_follows, h]

theorem State.latchChanged_follows {s0 t : State} (h : Follows s0 t) (s : State) (x : Nat) : Follows s0 (s.latchChanged t x) := by
  simp +contextual (maxDischargeDepth := 100) only [State.latchChanged, follows_mk, follows_ite, h]

theorem State.noteQuality_follows {s0 s : State} (h : Follows s0 s) : Follows s0 (State.noteQuality s) := by
  simp +contextual (maxDischargeDepth := 100) only [State.noteQuality, State.wrN_follows, follows_mk, follows_ite, h]

theorem State.qualityBlock_follows {s0 s : State} (h : Follows s0 s) (n : Nat) : Follows s0 (State.qualityBlock s n) := by
  simp +contextual (maxDischargeDepth := 100) only [State.qualityBlock, follows_mk, h]

theorem State.showQuality_follows {s0 s : State} (h : Follows s0 s) : Follows s0 (State.showQuality s) := by
  simp +contextual (maxDischargeDepth := 100) only [State.showQuality, State.wrN_follows, h]

theorem State.siJudgeFrame_follows {s0 s : State} (h : Follows s0 s) (slot n : Nat) (d : Int) (forceFail : Bool) :
    Follows s0 (State.siJudgeFrame s slot n d forceFail) := by
  simp +contextual (maxDischargeDepth := 100) only [State.siJudgeFrame, State.count_follows, State.raiseIf_follows, follows_mk, follows_ite, h]

theorem State.blockFails_follows {s0 s : State} (h : Follows s0 s) (n : Nat) (d : Int) : Follows s0 (State.blockFails s n d) := by
  simp +contextual (maxDischargeDepth := 100) only [State.blockFails, State.raise_follows, State.wrN_follows, follows_mk, follows_ite, h]

theorem State.blockPasses_follows {s0 s : State} (h : Follows s0 s) (n : Nat) : Follows s0 (State.blockPasses s n) := by
  unfold State.blockPasses
  repeat' split
  all_goals simp +contextual (maxDischargeDepth := 100) only [State.raise_follows, follows_mk, follows_ite, h]

theorem State.judgeBlock_follows {s0 s : State} (h : Follows s0 s) (n : Nat) : Follows s0 (State.judgeBlock s n) := by
  simp +contextual (maxDischargeDepth := 100) only [State.judgeBlock, State.blockFails_follows, State.blockPasses_follows, follows_mk,
      follows_ite, h]

theorem State.poisonUnit_follows {s0 s : State} (h : Follows s0 s) (u : Nat) : Follows s0 (State.poisonUnit s u) := by
  simp +contextual (maxDischargeDepth := 100) only [State.poisonUnit, follows_mk, h]

theorem State.logArc_follows {s0 s : State} (h : Follows s0 s) (kind cls off : Nat) : Follows s0 (State.logArc s kind cls off) := by
  simp +contextual (maxDischargeDepth := 100) only [State.logArc, State.tick1_follows, State.wr64_follows, State.wrN_follows, follows_ite, h]

theorem State.rangeErr_follows {s0 s : State} (h : Follows s0 s) (kind cls off : Nat) : Follows s0 (State.rangeErr s kind cls off) := by
  simp +contextual (maxDischargeDepth := 100) only [State.rangeErr, State.logArc_follows, State.raise_follows, h]

theorem State.noteUe_follows {s0 s : State} (h : Follows s0 s) (cls off : Nat) : Follows s0 (State.noteUe s cls off) := by
  simp +contextual (maxDischargeDepth := 100) only [State.noteUe, State.count_follows, State.logArc_follows, State.raise_follows, h]

theorem State.noteRead_follows {s0 s : State} (h : Follows s0 s) (cls off n : Nat) : Follows s0 (State.noteRead s cls off n) := by
  simp +contextual (maxDischargeDepth := 100) only [State.noteRead, State.forEach_follows, State.noteUe_follows, h, implies_true]

theorem State.arcWrite_follows {s0 s : State} (h : Follows s0 s) (cls off : Nat) (bs : List (Option Byte)) :
    Follows s0 (s.arcWrite cls off bs).1 := by
  unfold State.arcWrite
  dsimp only
  refine State.forEach_follows (fun u x hu => State.logArc_follows hu _ _ _) (State.countBy_follows (follows_mk ?_) _ _)
  refine State.forEach_follows (fun u x hu => ?_) h
  repeat' split
  all_goals first | exact hu | exact State.stb_follows hu _ _

theorem State.arcPut_follows {s0 s : State} (h : Follows s0 s) (off : Nat) (bs : List Byte) : Follows s0 (State.arcPut s off bs) := by
  simp +contextual (maxDischargeDepth := 100) only [State.arcPut, State.arcWrite_follows, h]

theorem State.arcRenew_follows {s0 s : State} (h : Follows s0 s) (off : Nat) (bs : List Byte) : Follows s0 (State.arcRenew s off bs) := by
  simp +contextual (maxDischargeDepth := 100) only [State.arcRenew, State.arcPut_follows, follows_mk, h]

theorem State.arcPutNat_follows {s0 s : State} (h : Follows s0 s) (off n v : Nat) : Follows s0 (State.arcPutNat s off n v) := by
  simp +contextual (maxDischargeDepth := 100) only [State.arcPutNat, State.arcPut_follows, h]

theorem State.laneMod_follows {s0 s : State} (h : Follows s0 s) (n : Nat) (f : LaneSt → LaneSt) : Follows s0 (State.laneMod s n f) := by
  simp +contextual (maxDischargeDepth := 100) only [State.laneMod, follows_mk, h]

theorem State.laneDeliver_follows {s0 s : State} (h : Follows s0 s) (n : Nat) (f : RxFrame) : Follows s0 (State.laneDeliver s n f) := by
  simp +contextual (maxDischargeDepth := 100) only [State.laneDeliver, State.count_follows, State.laneMod_follows, follows_ite, h]

theorem State.closeBad_follows {s0 s : State} (h : Follows s0 s) (n : Nat) : Follows s0 (State.closeBad s n) := by
  unfold State.closeBad
  split <;> simp +contextual (maxDischargeDepth := 100) only [State.laneDeliver_follows, h]

theorem State.send_follows {s0 s : State} (h : Follows s0 s) (n : Nat) (cs : List TxChar) (again : Bool) :
    Follows s0 (State.send s n cs again) := by
  simp +contextual (maxDischargeDepth := 100) only [State.send, State.emit_follows, State.laneMod_follows, h]

theorem State.txAbort_follows {s0 s : State} (h : Follows s0 s) (n : Nat) : Follows s0 (State.txAbort s n) := by
  unfold State.txAbort
  split <;> simp +contextual (maxDischargeDepth := 100) only [State.count_follows, State.emit_follows, State.laneMod_follows, State.send_follows, h]

theorem State.sendSequence_follows {s0 s : State} (h : Follows s0 s) (n : Nat) (tsb : Bool) : Follows s0 (State.sendSequence s n tsb) := by
  simp +contextual (maxDischargeDepth := 100) only [State.sendSequence, State.send_follows, h]

theorem State.quireMirror_follows {s0 s : State} (h : Follows s0 s) (n : Nat) (b : Bool) : Follows s0 (State.quireMirror s n b) := by
  simp +contextual (maxDischargeDepth := 100) only [State.quireMirror, State.fput_follows, h]

theorem State.leaveActive_follows {s0 s : State} (h : Follows s0 s) (n : Nat) (cat : Bool) : Follows s0 (State.leaveActive s n cat) := by
  simp +contextual (maxDischargeDepth := 100) only [State.leaveActive, State.closeBad_follows, State.fput_follows, State.quireMirror_follows,
      State.raiseIf_follows, State.txAbort_follows, follows_ite, h]

theorem State.laneSet_follows {s0 s : State} (h : Follows s0 s) (n st : Nat) : Follows s0 (State.laneSet s n st) := by
  simp +contextual (maxDischargeDepth := 100) only [State.laneSet, State.fput_follows, State.raiseIf_follows, h]

theorem State.dropLocks_follows {s0 s : State} (h : Follows s0 s) (n : Nat) : Follows s0 (State.dropLocks s n) := by
  simp +contextual (maxDischargeDepth := 100) only [State.dropLocks, State.fput_follows, h]

theorem State.enterOff_follows {s0 s : State} (h : Follows s0 s) (n : Nat) (cat : Bool) : Follows s0 (State.enterOff s n cat) := by
  simp +contextual (maxDischargeDepth := 100) only [State.enterOff, State.dropLocks_follows, State.fput_follows, State.laneMod_follows,
      State.laneSet_follows, State.leaveActive_follows, h]

theorem State.enterDetect_follows {s0 s : State} (h : Follows s0 s) (n : Nat) (cat : Bool) : Follows s0 (State.enterDetect s n cat) := by
  simp +contextual (maxDischargeDepth := 100) only [State.enterDetect, State.clr_follows, State.dropLocks_follows, State.emit_follows,
      State.forEach_follows, State.fput_follows, State.laneMod_follows, State.laneSet_follows, State.leaveActive_follows, h, implies_true]

theorem State.enterTrain_follows {s0 s : State} (h : Follows s0 s) (n r : Nat) (cat : Bool) : Follows s0 (State.enterTrain s n r cat) := by
  simp +contextual (maxDischargeDepth := 100) only [State.enterTrain, State.count_follows, State.dropLocks_follows, State.fput_follows,
      State.laneMod_follows, State.laneSet_follows, State.leaveActive_follows, State.sendSequence_follows, h]

theorem State.enterLock_follows {s0 s : State} (h : Follows s0 s) (n : Nat) (keep cat : Bool) : Follows s0 (State.enterLock s n keep cat) := by
  simp +contextual (maxDischargeDepth := 100) only [State.enterLock, State.fput_follows, State.laneMod_follows, State.laneSet_follows,
      State.leaveActive_follows, State.sendSequence_follows, follows_ite, h]

theorem State.enterExchange_follows {s0 s : State} (h : Follows s0 s) (n : Nat) : Follows s0 (State.enterExchange s n) := by
  simp +contextual (maxDischargeDepth := 100) only [State.enterExchange, State.laneMod_follows, State.laneSet_follows, State.send_follows,
      follows_ite, h]

theorem State.noteRefused_follows {s0 s : State} (h : Follows s0 s) (n : Nat) (was : Bool × Bool) : Follows s0 (State.noteRefused s n was) := by
  simp +contextual (maxDischargeDepth := 100) only [State.noteRefused, State.raiseIf_follows, h]

theorem State.enterActive_follows {s0 s : State} (h : Follows s0 s) (n v r : Nat) : Follows s0 (State.enterActive s n v r) := by
  simp +contextual (maxDischargeDepth := 100) only [State.enterActive, State.fput_follows, State.laneMod_follows, State.laneSet_follows,
      State.noteRefused_follows, State.quireMirror_follows, State.raiseIf_follows, State.send_follows, follows_ite, h]

theorem State.judgeSet_follows {s0 s : State} (h : Follows s0 s) (n : Nat) (body : List Byte) : Follows s0 (State.judgeSet s n body) := by
  simp +contextual (maxDischargeDepth := 100) only [State.judgeSet, State.fput_follows, State.raiseIf_follows, h]

theorem State.exchangeDone_follows {s0 s : State} (h : Follows s0 s) (n : Nat) (body : List Byte) : Follows s0 (State.exchangeDone s n body) := by
  simp +contextual (maxDischargeDepth := 100) only [State.exchangeDone, State.enterActive_follows, State.enterTrain_follows, State.fput_follows,
      State.judgeSet_follows, follows_ite, h]

theorem State.recordSet_follows {s0 s : State} (h : Follows s0 s) (n : Nat) (flags : Byte) (body : List Byte) :
    Follows s0 (State.recordSet s n flags body) := by
  simp +contextual (maxDischargeDepth := 100) only [State.recordSet, State.forEach_follows, State.fput_follows, State.wrN_follows, h, implies_true]

theorem State.takeSet_follows {s0 s : State} (h : Follows s0 s) (n : Nat) (flags : Byte) (body : List Byte) :
    Follows s0 (State.takeSet s n flags body) := by
  simp +contextual (maxDischargeDepth := 100) only [State.takeSet, State.exchangeDone_follows, State.judgeSet_follows, State.laneMod_follows,
      State.recordSet_follows, State.send_follows, follows_ite, h]

theorem State.invalidChar_follows {s0 s : State} (h : Follows s0 s) (n : Nat) (c : RxChar) : Follows s0 (State.invalidChar s n c) := by
  simp +contextual (maxDischargeDepth := 100) only [State.invalidChar, State.count_follows, State.enterLock_follows, State.laneMod_follows,
      follows_ite, h]

theorem State.takeErrs_follows {s0 s : State} (h : Follows s0 s) (n len : Nat) (errs : List (Fin 3)) :
    Follows s0 (State.takeErrs s n len errs) := by
  simp +contextual (maxDischargeDepth := 100) only [State.takeErrs, State.forEach_follows, State.invalidChar_follows, State.laneMod_follows, h,
      implies_true]

theorem State.errProp_follows {s0 s : State} (h : Follows s0 s) (n : Nat) : Follows s0 (State.errProp s n) := by
  simp +contextual (maxDischargeDepth := 100) only [State.errProp, State.count_follows, State.raise_follows, h]

theorem State.pairDone_follows {s0 s : State} (h : Follows s0 s) (n : Nat) : Follows s0 (State.pairDone s n) := by
  unfold State.pairDone
  split <;> simp +contextual (maxDischargeDepth := 100) only [State.count_follows, State.laneMod_follows, h]

theorem State.outsideChar_follows {s0 s : State} (h : Follows s0 s) (n : Nat) (c : RxChar) (frames : Bool) :
    Follows s0 (State.outsideChar s n c frames) := by
  unfold State.outsideChar
  split <;> simp +contextual (maxDischargeDepth := 100) only [State.count_follows, State.doIf_follows, State.errProp_follows,
      State.invalidChar_follows, State.laneMod_follows, State.pairDone_follows, follows_ite, h, implies_true]

theorem State.insideChar_follows {s0 s : State} (h : Follows s0 s) (n : Nat) (c : RxChar) : Follows s0 (State.insideChar s n c) := by
  unfold State.insideChar
  split <;> simp +contextual (maxDischargeDepth := 100) only [State.closeBad_follows, State.errProp_follows, State.invalidChar_follows,
      State.laneMod_follows, h]

theorem State.runaway_follows {s0 s : State} (h : Follows s0 s) (n : Nat) : Follows s0 (State.runaway s n) := by
  unfold State.runaway
  split <;> simp +contextual (maxDischargeDepth := 100) only [State.closeBad_follows, State.count_follows, follows_ite, h]

theorem State.frameChar_follows {s0 s : State} (h : Follows s0 s) (n : Nat) (c : RxChar) : Follows s0 (State.frameChar s n c) := by
  simp +contextual (maxDischargeDepth := 100) only [State.frameChar, State.insideChar_follows, State.laneMod_follows, State.outsideChar_follows,
      State.runaway_follows, follows_ite, h]

theorem State.patternGroup_follows {s0 s : State} (h : Follows s0 s) (n g : Nat) : Follows s0 (State.patternGroup s n g) := by
  simp +contextual (maxDischargeDepth := 100) only [State.patternGroup, State.countBy_follows, State.fput_follows, State.laneMod_follows,
      follows_ite, h]

theorem State.patternTime_follows {s0 s : State} (h : Follows s0 s) (n g : Nat) : Follows s0 (State.patternTime s n g) := by
  simp +contextual (maxDischargeDepth := 100) only [State.patternTime, State.emit_follows, State.laneMod_follows, State.patternGroup_follows,
      follows_ite, h]

theorem State.receiveGroup_follows {s0 s : State} (h : Follows s0 s) (n g mark : Nat) : Follows s0 (State.receiveGroup s n g mark) := by
  simp +contextual (maxDischargeDepth := 100) only [State.receiveGroup, State.doIf_follows, State.fput_follows, State.frameChar_follows,
      State.laneMod_follows, State.outsideChar_follows, State.patternTime_follows, follows_ite, h, implies_true]

theorem execQuirePllLoss_follows {s0 s : State} (h : Follows s0 s) (q : Fin 24) : FollowsO s0 (execQuirePllLoss q s) := by
  simp +contextual (maxDischargeDepth := 100) only [execQuirePllLoss, State.count_follows, State.enterOff_follows, State.forEach_follows,
      State.fput_follows, State.raise_follows, follows_ite, h, implies_true, followsO_next]

theorem execQuirePllLock_follows {s0 s : State} (h : Follows s0 s) (q : Fin 24) : FollowsO s0 (execQuirePllLock q s) := by
  simp +contextual (maxDischargeDepth := 100) only [execQuirePllLock, State.enterDetect_follows, State.forEach_follows, State.fput_follows,
      follows_ite, h, implies_true, followsO_next]

theorem State.laneDetectPulse_follows {s0 s : State} (h : Follows s0 s) (n : Nat) : Follows s0 (State.laneDetectPulse s n) := by
  simp +contextual (maxDischargeDepth := 100) only [State.laneDetectPulse, State.emit_follows, follows_ite, h]

theorem State.laneDetectExit_follows {s0 s : State} (h : Follows s0 s) (n : Nat) : Follows s0 (State.laneDetectExit s n) := by
  simp +contextual (maxDischargeDepth := 100) only [State.laneDetectExit, State.enterTrain_follows, follows_ite, h]

theorem State.setFom_follows {s0 s : State} (h : Follows s0 s) (n : Nat) (fom : Byte) : Follows s0 (State.setFom s n fom) := by
  simp +contextual (maxDischargeDepth := 100) only [State.setFom, State.fput_follows, State.laneMod_follows, h]

theorem State.laneTsbSwitch_follows {s0 s : State} (h : Follows s0 s) (n : Nat) (fom : Byte) : Follows s0 (State.laneTsbSwitch s n fom) := by
  simp +contextual (maxDischargeDepth := 100) only [State.laneTsbSwitch, State.laneMod_follows, State.sendSequence_follows, State.setFom_follows,
      follows_ite, h]

theorem State.laneTrainDone_follows {s0 s : State} (h : Follows s0 s) (n : Nat) : Follows s0 (State.laneTrainDone s n) := by
  simp +contextual (maxDischargeDepth := 100) only [State.laneTrainDone, State.enterLock_follows, State.fput_follows, follows_ite, h]

theorem State.laneTrainTimeout_follows {s0 s : State} (h : Follows s0 s) (n : Nat) : Follows s0 (State.laneTrainTimeout s n) := by
  simp +contextual (maxDischargeDepth := 100) only [State.laneTrainTimeout, State.enterTrain_follows, State.raiseIf_follows, follows_ite, h]

theorem State.laneLockTimeout_follows {s0 s : State} (h : Follows s0 s) (n : Nat) : Follows s0 (State.laneLockTimeout s n) := by
  simp +contextual (maxDischargeDepth := 100) only [State.laneLockTimeout, State.enterTrain_follows, State.raise_follows, follows_ite, h]

theorem execExchTimeout_follows {s0 s : State} (h : Follows s0 s) (n : Fin 192) : FollowsO s0 (execExchTimeout n s) := by
  simp +contextual (maxDischargeDepth := 100) only [execExchTimeout, State.enterTrain_follows, State.raise_follows, follows_ite, h, followsO_next]

theorem State.lockSequence_follows {s0 s : State} (h : Follows s0 s) (n : Nat) (tsb : Bool) : Follows s0 (State.lockSequence s n tsb) := by
  simp +contextual (maxDischargeDepth := 100) only [State.lockSequence, State.doIf_follows, State.enterExchange_follows, State.fput_follows,
      State.laneMod_follows, follows_ite, h, implies_true]

theorem State.laneTrainingSequence_follows {s0 s : State} (h : Follows s0 s) (n : Nat) (tsb : Bool) (fom : Byte) (errs : List (Fin 3)) :
    Follows s0 (State.laneTrainingSequence s n tsb fom errs) := by
  simp +contextual (maxDischargeDepth := 100) only [State.laneTrainingSequence, State.enterLock_follows, State.enterTrain_follows,
      State.fput_follows, State.laneMod_follows, State.lockSequence_follows, State.takeErrs_follows, follows_ite, h]

theorem execCapabilitySet_follows {s0 s : State} (h : Follows s0 s) (n : Fin 192) (flags : Byte) (body : List Byte) (crc : Word) (errs : List
    (Fin 3)) : FollowsO s0 (execCapabilitySet n flags body crc errs s) := by
  simp +contextual (maxDischargeDepth := 100) only [execCapabilitySet, State.laneMod_follows, State.takeErrs_follows, State.takeSet_follows,
      follows_ite, h, followsO_next]

theorem State.laneCharacterReceive_follows {s0 s : State} (h : Follows s0 s) (n : Nat) (g : BitVec 10) (mark : Fin 3) :
    Follows s0 (State.laneCharacterReceive s n g mark) := by
  simp +contextual (maxDischargeDepth := 100) only [State.laneCharacterReceive, State.receiveGroup_follows, h]

theorem State.laneSignalLoss_follows {s0 s : State} (h : Follows s0 s) (n : Nat) : Follows s0 (State.laneSignalLoss s n) := by
  simp +contextual (maxDischargeDepth := 100) only [State.laneSignalLoss, State.enterDetect_follows, follows_ite, h]

theorem State.laneBitLockLoss_follows {s0 s : State} (h : Follows s0 s) (n : Nat) : Follows s0 (State.laneBitLockLoss s n) := by
  simp +contextual (maxDischargeDepth := 100) only [State.laneBitLockLoss, State.enterTrain_follows, follows_ite, h]

theorem State.laneBitLock_follows {s0 s : State} (h : Follows s0 s) (n : Nat) : Follows s0 (State.laneBitLock s n) := by
  simp +contextual (maxDischargeDepth := 100) only [State.laneBitLock, State.fput_follows, follows_ite, h]

theorem execFrameReceive_follows {s0 s : State} (h : Follows s0 s) (n : Fin 192) : FollowsO s0 (execFrameReceive n s) := by
  unfold execFrameReceive
  split <;> simp +contextual (maxDischargeDepth := 100) only [State.laneDeliver_follows, State.runaway_follows, follows_ite, h, followsO_next]

theorem execRunaway_follows {s0 s : State} (h : Follows s0 s) (n : Fin 192) : FollowsO s0 (execRunaway n s) := by
  simp +contextual (maxDischargeDepth := 100) only [execRunaway, State.runaway_follows, follows_ite, h, followsO_next]

theorem execElastic_follows {s0 s : State} (h : Follows s0 s) (n : Fin 192) : FollowsO s0 (execElastic n s) := by
  simp +contextual (maxDischargeDepth := 100) only [execElastic, State.closeBad_follows, State.count_follows, State.raise_follows, follows_ite, h,
      followsO_next]

theorem execMargin_follows {s0 s : State} (h : Follows s0 s) (n : Fin 192) (fom : Byte) : FollowsO s0 (execMargin n fom s) := by
  simp +contextual (maxDischargeDepth := 100) only [execMargin, State.laneMod_follows, State.raiseIf_follows, State.setFom_follows, follows_ite,
      h, followsO_next]

theorem execAdaptStep_follows {s0 s : State} (h : Follows s0 s) (n : Fin 192) (fom : Byte) (ctle : BitVec 4) (t1 t2 t3 t4 t5 : BitVec 5) :
    FollowsO s0 (execAdaptStep n fom ctle t1 t2 t3 t4 t5 s) := by
  simp +contextual (maxDischargeDepth := 100) only [execAdaptStep, State.fput_follows, State.setFom_follows, follows_ite, h, followsO_next]

theorem execLaneRetrain_follows {s0 s : State} (h : Follows s0 s) (n : Fin 192) : FollowsO s0 (execLaneRetrain n s) := by
  simp +contextual (maxDischargeDepth := 100) only [execLaneRetrain, State.enterTrain_follows, State.fput_follows, follows_ite, h, followsO_next]

theorem execLaneTestSet_follows {s0 s : State} (h : Follows s0 s) (n : Fin 192) (loop : BitVec 2) (pat : BitVec 3) (chk : Bool) :
    FollowsO s0 (execLaneTestSet n loop pat chk s) := by
  simp +contextual (maxDischargeDepth := 100) only [execLaneTestSet, State.dropLocks_follows, State.enterDetect_follows, State.enterOff_follows,
      State.fput_follows, State.laneMod_follows, State.laneSet_follows, State.leaveActive_follows, State.raise_follows, State.send_follows,
      State.tick1_follows, follows_ite, h, followsO_next]

theorem execSimplexPhaseEnd_follows {s0 s : State} (h : Follows s0 s) (n : Fin 192) : FollowsO s0 (execSimplexPhaseEnd n s) := by
  simp +contextual (maxDischargeDepth := 100) only [execSimplexPhaseEnd, State.enterActive_follows, State.enterExchange_follows,
      State.laneMod_follows, State.sendSequence_follows, follows_ite, h, followsO_next]

theorem State.laneAccede_follows {s0 s : State} (h : Follows s0 s) (n : Nat) (cfg0 id0 ex0 : Word) (refused0 : Bool × Bool) :
    Follows s0 (State.laneAccede s n cfg0 id0 ex0 refused0) := by
  simp +contextual (maxDischargeDepth := 100) only [State.laneAccede, State.enterDetect_follows, State.enterLock_follows, State.enterOff_follows,
      State.enterTrain_follows, State.fput_follows, State.noteRefused_follows, follows_ite, h]

theorem State.quireAccede_follows {s0 s : State} (h : Follows s0 s) (q : Nat) : Follows s0 (State.quireAccede s q) := by
  simp +contextual (maxDischargeDepth := 100) only [State.quireAccede, State.fput_follows, follows_ite, h]

theorem State.showSets_follows {s0 s : State} (h : Follows s0 s) : Follows s0 (State.showSets s) := by
  simp +contextual (maxDischargeDepth := 100) only [State.showSets, State.forEach_follows, State.fput_follows, State.raiseIf_follows, h,
      implies_true]

end Sys2Proof.Machine
end

