-- ==== Sys2Proof/Laws/FollowsArray.lean ====
section
/-!
SUPPORT. Laws/FollowsArray.lean: what every operation and meaning can do, for ingest, the plan, the tiles of the array, and egress: one lemma
each, named after it. A state transformer keeps the registers and memory in canonical form, does not touch the queue, only adds outputs, and uses
no free value again.
-/
namespace Sys2Proof.Machine

theorem State.ingMod_follows {s0 s : State} (h : Follows s0 s) (f : IngestSt → IngestSt) : Follows s0 (State.ingMod s f) := by
  simp +contextual (maxDischargeDepth := 100) only [State.ingMod, follows_mk, h]

theorem State.discard_follows {s0 s : State} (h : Follows s0 s) (n c : Nat) : Follows s0 (State.discard s n c) := by
  simp +contextual (maxDischargeDepth := 100) only [State.discard, State.count_follows, State.fput_follows, State.raiseIf_follows,
      State.raise_follows, h]

theorem State.putBlk_follows {s0 s : State} (h : Follows s0 s) (c : ChanBlk) : Follows s0 (State.putBlk s c) := by
  simp +contextual (maxDischargeDepth := 100) only [State.putBlk, State.ingMod_follows, h]

theorem State.addBlk_follows {s0 s : State} (h : Follows s0 s) (c : ChanBlk) : Follows s0 (State.addBlk s c) := by
  simp +contextual (maxDischargeDepth := 100) only [State.addBlk, State.ingMod_follows, h]

theorem State.dropBlk_follows {s0 s : State} (h : Follows s0 s) (slot b : Nat) : Follows s0 (State.dropBlk s slot b) := by
  simp +contextual (maxDischargeDepth := 100) only [State.dropBlk, State.ingMod_follows, h]

theorem State.showStage_follows {s0 s : State} (h : Follows s0 s) : Follows s0 (State.showStage s) := by
  simp +contextual (maxDischargeDepth := 100) only [State.showStage, State.fput_follows, State.wrN_follows, h]

theorem State.judgeFrom_follows {s0 : State} : ∀ {n : Nat} {s : State}, Follows s0 s → Follows s0 (State.judgeFrom n s)
  | 0, _, h => h
  | n + 1, s, h => by
    unfold State.judgeFrom
    split
    · exact State.judgeFrom_follows (n := n) (follows_mk (State.judgeBlock_follows h _))
    · exact h

theorem State.recordDigest_follows {s0 s : State} (h : Follows s0 s) : Follows s0 (State.recordDigest s) := by
  unfold State.recordDigest
  split <;> simp +contextual (maxDischargeDepth := 100) only [State.forEach_follows, State.wrN_follows, follows_mk, follows_ite, h, implies_true]

theorem State.advanceSi_follows {s0 s : State} (h : Follows s0 s) (b : Nat) : Follows s0 (State.advanceSi s b) := by
  simp +contextual (maxDischargeDepth := 100) only [State.advanceSi, State.doIf_follows, State.judgeFrom_follows, State.qualityBlock_follows,
      State.recordDigest_follows, State.showQuality_follows, State.showSets_follows, follows_mk, h, implies_true]

theorem State.afterClose_follows {s0 s : State} (h : Follows s0 s) (b : Nat) : Follows s0 (State.afterClose s b) := by
  simp +contextual (maxDischargeDepth := 100) only [State.afterClose, State.advanceSi_follows, follows_ite, h]

theorem State.countCauses_follows {s0 s : State} (h : Follows s0 s) (c : ChanBlk) : Follows s0 (State.countCauses s c) := by
  simp +contextual (maxDischargeDepth := 100) only [State.countCauses, State.countBy_follows, State.forEach_follows, h, implies_true]

theorem State.closeBlk_follows {s0 s : State} (h : Follows s0 s) (c : ChanBlk) : Follows s0 (State.closeBlk s c) := by
  simp +contextual (maxDischargeDepth := 100) only [State.closeBlk, State.afterClose_follows, State.countCauses_follows, State.putBlk_follows,
      State.showStage_follows, h]

theorem State.closeEmpty_follows {s0 s : State} (h : Follows s0 s) (slot b : Nat) : Follows s0 (State.closeEmpty s slot b) := by
  simp +contextual (maxDischargeDepth := 100) only [State.closeEmpty, State.addBlk_follows, State.afterClose_follows, State.countCauses_follows, h]

theorem State.acceptFrame_follows {s0 s : State} (h : Follows s0 s) (c : ChanBlk) (f : AccFrame) (si : Nat) (force : Bool) :
    Follows s0 (State.acceptFrame s c f si force) := by
  simp +contextual (maxDischargeDepth := 100) only [State.acceptFrame, State.closeBlk_follows, State.count_follows, State.doIf_follows,
      State.putBlk_follows, State.raise_follows, State.showStage_follows, State.siJudgeFrame_follows, follows_ite, h, implies_true]

theorem State.stageFrame_follows {s0 s : State} (h : Follows s0 s) (n : Nat) (h : UipHead) (payload : List Byte) :
    Follows s0 (State.stageFrame s n h payload) := by
  unfold State.stageFrame
  dsimp only
  repeat' (first
      | with_reducible assumption
      | with_reducible apply follows_ite
      | with_reducible apply State.acceptFrame_follows
      | with_reducible apply State.addBlk_follows
      | with_reducible apply State.discard_follows
      | with_reducible apply State.fput_follows
      | (intro)
      | split
      | (simp +contextual (maxDischargeDepth := 100) only [*, State.acceptFrame_follows, State.addBlk_follows, State.discard_follows,
          State.fput_follows, follows_mk, follows_mk_fresh, follows_mk_filter, follows_ite, h, implies_true]; done))

theorem State.takeFrame_follows {s0 s : State} (h : Follows s0 s) (n : Nat) (f : RxFrame) : Follows s0 (State.takeFrame s n f) := by
  simp +contextual (maxDischargeDepth := 100) only [State.takeFrame, State.count_follows, State.discard_follows, State.doIf_follows,
      State.raise_follows, State.stageFrame_follows, follows_ite, h, implies_true]

theorem State.monCatchUp_follows {s0 s : State} (h : Follows s0 s) (i si : Nat) : Follows s0 (State.monCatchUp s i si) := by
  simp +contextual (maxDischargeDepth := 100) only [State.monCatchUp, State.clr_follows, State.forEach_follows, State.ingMod_follows, follows_ite,
      h, implies_true]

theorem State.monCompare_follows {s0 s : State} (h : Follows s0 s) (v : State) (i l : Nat) : Follows s0 (State.monCompare s v i l) := by
  simp +contextual (maxDischargeDepth := 100) only [State.monCompare, State.doIf_follows, State.ingMod_follows, State.setFlag_follows, h,
      implies_true]

theorem State.monAdd_follows {s0 s : State} (h : Follows s0 s) (v : State) (i sum : Nat) : Follows s0 (State.monAdd s v i sum) := by
  simp +contextual (maxDischargeDepth := 100) only [State.monAdd, State.fput_follows, State.ingMod_follows, State.monCompare_follows, follows_ite,
      h]

theorem monitorInput_follows {s0 s : State} (h : Follows s0 s) (c : ChanBlk) (i : Nat) : Follows s0 (monitorInput s c i).1 := by
  simp +contextual (maxDischargeDepth := 100) only [monitorInput, State.countBy_follows, State.monAdd_follows, State.monCatchUp_follows,
      State.raiseIf_follows, h, follows_ite1]

theorem monitorAll_follows {s0 s : State} (h : Follows s0 s) (c : ChanBlk) : Follows s0 (monitorAll s c).1 := by
  unfold monitorAll
  generalize List.range _ = l
  have : ∀ (l : List Nat) (p : State × ChanBlk), Follows s0 p.1 → Follows s0 (l.foldl (fun p i => monitorInput p.1 p.2 i) p).1 := by
    intro l
    induction l with
    | nil => exact fun _ h => h
    | cons x r ih => exact fun p h => ih _ (monitorInput_follows h _ _)
  exact this l (s, c) h

theorem State.addVcnt_follows {s0 s : State} (h : Follows s0 s) (c : ChanBlk) (m : Nat) : Follows s0 (State.addVcnt s c m) := by
  simp +contextual (maxDischargeDepth := 100) only [State.addVcnt, State.forEach_follows, State.ingMod_follows, follows_ite, h, implies_true]

theorem State.cornerWrite_follows {s0 s : State} (h : Follows s0 s) (c : ChanBlk) : Follows s0 (State.cornerWrite s c) := by
  simp +contextual (maxDischargeDepth := 100) only [State.cornerWrite, State.addVcnt_follows, State.arcPut_follows, State.ingMod_follows,
      follows_ite, h]

theorem State.bumpRel_follows {s0 s : State} (h : Follows s0 s) (slot b : Nat) : Follows s0 (State.bumpRel s slot b) := by
  simp +contextual (maxDischargeDepth := 100) only [State.bumpRel, State.ingMod_follows, follows_ite, h]

theorem execSamplesFrame_follows {s0 s : State} (h : Follows s0 s) (q : Fin 24) : FollowsO s0 (execSamplesFrame q s) := by
  unfold execSamplesFrame
  repeat' split
  all_goals simp +contextual (maxDischargeDepth := 100) only [State.takeFrame_follows, follows_mk, h, followsO_next]

theorem execBlockDeadline_follows {s0 s : State} (h : Follows s0 s) (b : Nat) : FollowsO s0 (execBlockDeadline b s) := by
  unfold execBlockDeadline
  dsimp only
  repeat' (first
      | with_reducible assumption
      | (simp +contextual (maxDischargeDepth := 100) only [*, State.closeBlk_follows, State.closeEmpty_follows, State.count_follows,
          State.raise_follows]; done)
      | with_reducible apply follows_ite
      | with_reducible apply followsO_next
      | with_reducible apply State.advanceSi_follows
      | with_reducible apply State.closeBlk_follows
      | with_reducible apply State.closeEmpty_follows
      | with_reducible apply State.count_follows
      | with_reducible apply State.forEach_follows
      | with_reducible apply State.raise_follows
      | (intro)
      | split)

theorem execSkewExpiry_follows {s0 s : State} (h : Follows s0 s) (slot b : Nat) : FollowsO s0 (execSkewExpiry slot b s) := by
  unfold execSkewExpiry
  split <;> simp +contextual (maxDischargeDepth := 100) only [State.closeBlk_follows, State.count_follows, State.raise_follows, follows_ite, h,
      followsO_next]

theorem execMonRestart_follows {s0 s : State} (h : Follows s0 s) : FollowsO s0 (execMonRestart s) := by
  simp +contextual (maxDischargeDepth := 100) only [execMonRestart, State.fput_follows, State.ingMod_follows, h, followsO_next]

theorem execMonitorRestart_follows {s0 s : State} (h : Follows s0 s) : FollowsO s0 (execMonitorRestart s) := by
  unfold execMonitorRestart
  split <;> simp +contextual (maxDischargeDepth := 100) only [State.fput_follows, State.ingMod_follows, follows_ite, h, followsO_next]

theorem execGeneratorDelivery_follows {s0 s : State} (h : Follows s0 s) (slot b : Nat) : FollowsO s0 (execGeneratorDelivery slot b s) := by
  simp +contextual (maxDischargeDepth := 100) only [execGeneratorDelivery, State.addBlk_follows, State.closeBlk_follows, State.closeEmpty_follows,
      State.count_follows, State.fput_follows, follows_ite, h, followsO_next]

theorem State.arrMod_follows {s0 s : State} (h : Follows s0 s) (f : ArraySt → ArraySt) : Follows s0 (State.arrMod s f) := by
  simp +contextual (maxDischargeDepth := 100) only [State.arrMod, follows_mk, h]

theorem State.accMod_follows {s0 s : State} (h : Follows s0 s) (f : AccumSt → AccumSt) : Follows s0 (State.accMod s f) := by
  simp +contextual (maxDischargeDepth := 100) only [State.accMod, follows_mk, h]

theorem State.tileMod_follows {s0 s : State} (h : Follows s0 s) (t : Nat) (f : TileSt → TileSt) : Follows s0 (State.tileMod s t f) := by
  simp +contextual (maxDischargeDepth := 100) only [State.tileMod, State.arrMod_follows, h]

theorem State.raiseTev_follows {s0 s : State} (h : Follows s0 s) (t k : Nat) : Follows s0 (State.raiseTev s t k) := by
  simp +contextual (maxDischargeDepth := 100) only [State.raiseTev, State.raise_follows, follows_ite, h]

theorem State.runMod_follows {s0 s : State} (h : Follows s0 s) (id : Nat) (f : WinRun → WinRun) : Follows s0 (State.runMod s id f) := by
  simp +contextual (maxDischargeDepth := 100) only [State.runMod, State.arrMod_follows, h]

theorem State.putQueue_follows {s0 s : State} (h : Follows s0 s) (p : Nat) (q : List QOrd) : Follows s0 (State.putQueue s p q) := by
  simp +contextual (maxDischargeDepth := 100) only [State.putQueue, State.forEach_follows, State.wrN_follows, h, implies_true]

theorem State.showQueue_follows {s0 s : State} (h : Follows s0 s) (t : Nat) : Follows s0 (State.showQueue s t) := by
  unfold State.showQueue
  split <;> simp +contextual (maxDischargeDepth := 100) only [State.putQueue_follows, h]

theorem State.integMod_follows {s0 s : State} (h : Follows s0 s) (id : Nat) (f : Integ → Integ) : Follows s0 (State.integMod s id f) := by
  simp +contextual (maxDischargeDepth := 100) only [State.integMod, State.accMod_follows, h]

theorem State.drainIssue_follows {s0 s : State} (h : Follows s0 s) : Follows s0 (State.drainIssue s) := by
  unfold State.drainIssue
  dsimp only
  repeat' (first
      | with_reducible assumption
      | with_reducible apply follows_ite
      | with_reducible apply State.arrMod_follows
      | with_reducible apply State.forEach_follows
      | with_reducible apply State.integMod_follows
      | with_reducible apply State.tileMod_follows
      | (intro)
      | split
      | (simp +contextual (maxDischargeDepth := 100) only [*, State.arrMod_follows, State.forEach_follows, State.integMod_follows,
          State.tileMod_follows, follows_mk, follows_mk_fresh, follows_mk_filter, follows_ite, h, implies_true]; done))

theorem State.showRunning_follows {s0 s : State} (h : Follows s0 s) : Follows s0 (State.showRunning s) := by
  simp +contextual (maxDischargeDepth := 100) only [State.showRunning, State.fput_follows, h]

theorem State.beamMod_follows {s0 s : State} (h : Follows s0 s) (f : BeamSt → BeamSt) : Follows s0 (State.beamMod s f) := by
  simp +contextual (maxDischargeDepth := 100) only [State.beamMod, follows_mk, h]

theorem State.countClamp_follows {s0 s : State} (h : Follows s0 s) (n : Nat) : Follows s0 (State.countClamp s n) := by
  simp +contextual (maxDischargeDepth := 100) only [State.countClamp, State.beamMod_follows, State.countBy_follows, h]

theorem State.countWstall_follows {s0 s : State} (h : Follows s0 s) (n : Nat) : Follows s0 (State.countWstall s n) := by
  simp +contextual (maxDischargeDepth := 100) only [State.countWstall, State.beamMod_follows, State.countBy_follows, h]

theorem State.addTrees_follows {s0 s : State} (h : Follows s0 s) (t : Nat) (o : QOrd) (c : ChanBlk) (ws : List (List (Int × Int × Bool)))
    (js : List Nat) : Follows s0 (State.addTrees s t o c ws js) := by
  simp +contextual (maxDischargeDepth := 100) only [State.addTrees, State.forEach_follows, State.stNat_follows, h, implies_true]

theorem State.runBpass_follows {s0 s : State} (h : Follows s0 s) (t : Nat) (o : QOrd) : Follows s0 (State.runBpass s t o) := by
  unfold State.runBpass
  split <;> simp +contextual (maxDischargeDepth := 100) only [State.addTrees_follows, State.countClamp_follows, State.forEach_follows,
      follows_ite, h, implies_true]

theorem State.bpassDone_follows {s0 s : State} (h : Follows s0 s) (t : Nat) (o : QOrd) : Follows s0 (State.bpassDone s t o) := by
  unfold State.bpassDone
  repeat' split
  all_goals simp +contextual (maxDischargeDepth := 100) only [State.putBlk_follows, State.tileMod_follows, h]

theorem State.nextBpass_follows {s0 s : State} (h : Follows s0 s) (t : Nat) : Follows s0 (State.nextBpass s t) := by
  unfold State.nextBpass
  dsimp only
  repeat' split
  all_goals simp +contextual (maxDischargeDepth := 100) only [State.showQueue_follows, State.tileMod_follows, h]

theorem execStagingFree_follows {s0 s : State} (h : Follows s0 s) (slot b : Nat) : FollowsO s0 (execStagingFree slot b s) := by
  unfold execStagingFree
  split <;> simp +contextual (maxDischargeDepth := 100) only [State.dropBlk_follows, State.showStage_follows, follows_ite, h, followsO_next]

theorem State.reserveShed_follows {s0 : State} : ∀ {n : Nat} {s : State}, Follows s0 s → Follows s0 (State.reserveShed n s)
  | 0, _, h => h
  | n + 1, s, h => by
    unfold State.reserveShed
    split
    · exact h
    · split
      · exact h
      · split
        · exact State.reserveShed_follows (n := n) (State.dropBlk_follows h _ _)
        · exact State.reserveShed_follows (n := n) (State.count_follows (State.ingMod_follows (State.dropBlk_follows h _ _) _) _)

theorem State.releaseBlk_follows {s0 s : State} (h : Follows s0 s) (c : ChanBlk) : Follows s0 (State.releaseBlk s c) := by
  simp +contextual (maxDischargeDepth := 100) only [State.releaseBlk, State.addBlk_follows, State.bumpRel_follows, State.cornerWrite_follows,
      State.doIf_follows, State.dropBlk_follows, State.reserveShed_follows, State.showStage_follows, monitorAll_follows, h, implies_true]

theorem execChannelBlockRelease_follows {s0 s : State} (h : Follows s0 s) (slot b : Nat) : FollowsO s0 (execChannelBlockRelease slot b s) := by
  unfold execChannelBlockRelease
  split <;> simp +contextual (maxDischargeDepth := 100) only [State.releaseBlk_follows, follows_ite, h, followsO_next]

theorem State.putSlot_follows {s0 s : State} (h : Follows s0 s) (t k : Nat) (cs : List CellSum) : Follows s0 (State.putSlot s t k cs) := by
  simp +contextual (maxDischargeDepth := 100) only [State.putSlot, State.doIf_follows, State.forEach_follows, State.stBytes_follows,
      State.stNat_follows, h, implies_true]

theorem State.slotMod_follows {s0 s : State} (h : Follows s0 s) (t k : Nat) (f : SlotSt → SlotSt) : Follows s0 (State.slotMod s t k f) := by
  simp +contextual (maxDischargeDepth := 100) only [State.slotMod, State.arrMod_follows, h]

theorem State.retirePend_follows {s0 s : State} (h : Follows s0 s) (p cause : Nat) : Follows s0 (State.retirePend s p cause) := by
  simp +contextual (maxDischargeDepth := 100) only [State.retirePend, State.arrMod_follows, State.fput_follows, State.raiseTev_follows,
      State.raise_follows, State.setFlag_follows, follows_ite, h]

theorem State.lastErr_follows {s0 s : State} (h : Follows s0 s) (kind p : Nat) : Follows s0 (State.lastErr s kind p) := by
  simp +contextual (maxDischargeDepth := 100) only [State.lastErr, State.fput_follows, h]

theorem State.noteShedDwell_follows {s0 s : State} (h : Follows s0 s) (r : WinRun) : Follows s0 (State.noteShedDwell s r) := by
  simp +contextual (maxDischargeDepth := 100) only [State.noteShedDwell, State.forEach_follows, State.integMod_follows, h, implies_true]

theorem State.abandonDwell_follows {s0 s : State} (h : Follows s0 s) (id c : Nat) : Follows s0 (State.abandonDwell s id c) := by
  unfold State.abandonDwell
  split <;> simp +contextual (maxDischargeDepth := 100) only [State.arrMod_follows, State.count_follows, State.drainIssue_follows,
      State.noteShedDwell_follows, State.raise_follows, State.runMod_follows, State.showRunning_follows, follows_ite, h]

theorem State.abandonRun_follows {s0 s : State} (h : Follows s0 s) (r : WinRun) : Follows s0 (State.abandonRun s r) := by
  simp +contextual (maxDischargeDepth := 100) only [State.abandonRun, State.abandonDwell_follows, State.forEach_follows, h, implies_true]

theorem State.dropWeights_follows {s0 s : State} (h : Follows s0 s) (n x : Nat) : Follows s0 (State.dropWeights s n x) := by
  simp +contextual (maxDischargeDepth := 100) only [State.dropWeights, State.beamMod_follows, State.fput_follows, h]

theorem State.leaveTile_follows {s0 s : State} (h : Follows s0 s) (t : Nat) : Follows s0 (State.leaveTile s t) := by
  simp +contextual (maxDischargeDepth := 100) only [State.leaveTile, State.ingMod_follows, State.tileMod_follows, h]

theorem State.nameSpares_follows {s0 s : State} (h : Follows s0 s) (w x : Nat) : Follows s0 (State.nameSpares s w x) := by
  simp +contextual (maxDischargeDepth := 100) only [State.nameSpares, State.beamMod_follows, State.dropWeights_follows, State.forEach_follows,
      State.fput_follows, State.leaveTile_follows, State.putQueue_follows, State.showQueue_follows, State.tileMod_follows, follows_ite, h,
      implies_true]

theorem State.setMissing_follows {s0 s : State} (h : Follows s0 s) (l : Nat) : Follows s0 (State.setMissing s l) := by
  simp +contextual (maxDischargeDepth := 100) only [State.setMissing, State.raise_follows, State.setFlag_follows, h]

theorem State.takeOut_follows {s0 s : State} (h : Follows s0 s) (p gone : Nat) : Follows s0 (State.takeOut s p gone) := by
  simp +contextual (maxDischargeDepth := 100) only [State.takeOut, State.arrMod_follows, State.fput_follows, State.putQueue_follows,
      State.setFlag_follows, h]

theorem State.moveTile_follows {s0 s : State} (h : Follows s0 s) (l p gone x : Nat) : Follows s0 (State.moveTile s l p gone x) := by
  unfold State.moveTile
  dsimp only
  repeat' split
  all_goals simp +contextual (maxDischargeDepth := 100) only [State.arrMod_follows, State.fput_follows, State.leaveTile_follows,
      State.nameSpares_follows, State.raiseTev_follows, State.raise_follows, State.setMissing_follows, State.showQueue_follows,
      State.takeOut_follows, h]

theorem State.retireTile_follows {s0 s : State} (h : Follows s0 s) (p x : Nat) : Follows s0 (State.retireTile s p x) := by
  unfold State.retireTile
  dsimp only
  repeat' (first
      | with_reducible assumption
      | with_reducible apply follows_ite
      | with_reducible apply State.accMod_follows
      | with_reducible apply State.integMod_follows
      | with_reducible apply State.moveTile_follows
      | with_reducible apply State.nameSpares_follows
      | with_reducible apply State.raise_follows
      | with_reducible apply State.takeOut_follows
      | (intro)
      | split
      | (simp +contextual (maxDischargeDepth := 100) only [*, State.accMod_follows, State.integMod_follows, State.moveTile_follows,
          State.nameSpares_follows, State.raise_follows, State.takeOut_follows, follows_mk, follows_mk_fresh, follows_mk_filter, follows_ite, h,
          implies_true]; done))

theorem State.checkNowDone_follows {s0 s : State} (h : Follows s0 s) : Follows s0 (State.checkNowDone s) := by
  simp +contextual (maxDischargeDepth := 100) only [State.checkNowDone, State.fput_follows, follows_ite, h]

theorem State.retireDue_follows {s0 s : State} (h : Follows s0 s) (x : Nat) : Follows s0 (State.retireDue s x) := by
  simp +contextual (maxDischargeDepth := 100) only [State.retireDue, State.checkNowDone_follows, State.forEach_follows, State.retireTile_follows,
      State.showSets_follows, follows_ite, h, implies_true]

theorem State.retireAtAcc_follows {s0 s : State} (h : Follows s0 s) (x : Nat) : Follows s0 (State.retireAtAcc s x) := by
  simp +contextual (maxDischargeDepth := 100) only [State.retireAtAcc, State.arrMod_follows, h]

theorem State.refreshMissing_follows {s0 s : State} (h : Follows s0 s) (resident : Bool) : Follows s0 (State.refreshMissing s resident) := by
  simp +contextual (maxDischargeDepth := 100) only [State.refreshMissing, State.forEach_follows, State.setFlag_follows, State.setMissing_follows,
      follows_ite, h, implies_true]

theorem State.dropReady_follows {s0 s : State} (h : Follows s0 s) : Follows s0 (State.dropReady s) := by
  simp +contextual (maxDischargeDepth := 100) only [State.dropReady, State.arrMod_follows, State.countBy_follows, State.forEach_follows,
      State.integMod_follows, State.raise_follows, follows_ite, h, implies_true]

theorem execDwellWindowReady_follows {s0 s : State} (h : Follows s0 s) (m : Nat) (old : Bool) : FollowsO s0 (execDwellWindowReady m old s) := by
  simp +contextual (maxDischargeDepth := 100) only [execDwellWindowReady, State.abandonRun_follows, State.arrMod_follows,
      State.drainIssue_follows, State.dropReady_follows, State.forEach_follows, State.ingMod_follows, follows_ite, h, implies_true, followsO_next]

theorem execArrayWindowStart_follows {s0 s : State} (h : Follows s0 s) : FollowsO s0 (execArrayWindowStart s) := by
  unfold execArrayWindowStart
  split <;> simp +contextual (maxDischargeDepth := 100) only [State.arrMod_follows, State.drainIssue_follows, State.forEach_follows,
      State.noteShedDwell_follows, State.retireDue_follows, State.showRunning_follows, State.tileMod_follows, State.wr64_follows, follows_ite, h,
      implies_true, followsO_next]

theorem execRoundReadStart_follows {s0 s : State} (h : Follows s0 s) : FollowsO s0 (execRoundReadStart s) := by
  unfold execRoundReadStart
  repeat' split
  all_goals simp +contextual (maxDischargeDepth := 100) only [State.abandonDwell_follows, State.forEach_follows, State.noteRead_follows,
      State.runMod_follows, State.stBytes_follows, State.tileMod_follows, follows_ite, h, implies_true, followsO_next]

theorem execTileRoundStart_follows {s0 s : State} (h : Follows s0 s) (t : Fin 400) (waited : Nat) :
    FollowsO s0 (execTileRoundStart t waited s) := by
  unfold execTileRoundStart
  dsimp only
  repeat' split
  all_goals simp +contextual (maxDischargeDepth := 100) only [State.arrMod_follows, State.countBy_follows, State.fput_follows,
      State.tileMod_follows, h, followsO_next]

theorem State.issueHeld_follows {s0 s : State} (h : Follows s0 s) (t : Nat) (o : QOrd) (rest : List QOrd) :
    Follows s0 (State.issueHeld s t o rest) := by
  simp +contextual (maxDischargeDepth := 100) only [State.issueHeld, State.drainIssue_follows, State.runMod_follows, State.showQueue_follows,
      State.showRunning_follows, State.tileMod_follows, follows_ite, h]

theorem execOrderIssue_follows {s0 s : State} (h : Follows s0 s) (t : Fin 400) (waited : Bool) : FollowsO s0 (execOrderIssue t waited s) := by
  unfold execOrderIssue
  dsimp only
  repeat' split
  all_goals simp +contextual (maxDischargeDepth := 100) only [State.issueHeld_follows, State.nextBpass_follows, State.showQueue_follows,
      State.tileMod_follows, h, followsO_next]

theorem State.countOrder_follows {s0 s : State} (h : Follows s0 s) (t : Nat) : Follows s0 (State.countOrder s t) := by
  unfold State.countOrder
  split <;> simp +contextual (maxDischargeDepth := 100) only [State.count_follows, h]

theorem State.popOrder_follows {s0 s : State} (h : Follows s0 s) (t : Nat) : Follows s0 (State.popOrder s t) := by
  simp +contextual (maxDischargeDepth := 100) only [State.popOrder, State.showQueue_follows, State.tileMod_follows, h]

theorem State.orderError_follows {s0 s : State} (h : Follows s0 s) (t : Nat) (o : QOrd) : Follows s0 (State.orderError s t o) := by
  simp +contextual (maxDischargeDepth := 100) only [State.orderError, State.abandonDwell_follows, State.count_follows, State.lastErr_follows,
      State.popOrder_follows, State.raiseTev_follows, State.raise_follows, State.retirePend_follows, State.tileMod_follows, follows_ite, h]

theorem State.slotStall_follows {s0 s : State} (h : Follows s0 s) (t cycles : Nat) (once : Bool) :
    Follows s0 (State.slotStall s t cycles once) := by
  simp +contextual (maxDischargeDepth := 100) only [State.slotStall, State.countBy_follows, State.count_follows, State.doIf_follows, h,
      implies_true]

theorem State.pathMod_follows {s0 s : State} (h : Follows s0 s) (w : Nat) (f : List Sums → List Sums) : Follows s0 (State.pathMod s w f) := by
  simp +contextual (maxDischargeDepth := 100) only [State.pathMod, State.arrMod_follows, h]

theorem State.takeSpill_follows {s0 s : State} (h : Follows s0 s) (t cycles : Nat) (o : QOrd) : Follows s0 (State.takeSpill s t cycles o) := by
  simp +contextual (maxDischargeDepth := 100) only [State.takeSpill, State.count_follows, State.doIf_follows, State.pathMod_follows,
      State.popOrder_follows, State.slotStall_follows, State.tileMod_follows, follows_ite, h, implies_true]

theorem execOrderExecute_follows {s0 s : State} (h : Follows s0 s) (t : Fin 400) (parity : Bool) (stalled : Nat) :
    FollowsO s0 (execOrderExecute t parity stalled s) := by
  unfold execOrderExecute
  dsimp only
  repeat' split
  all_goals simp +contextual (maxDischargeDepth := 100) only [State.bpassDone_follows, State.countOrder_follows, State.countWstall_follows,
      State.orderError_follows, State.popOrder_follows, State.runBpass_follows, State.takeSpill_follows, State.tileMod_follows, h, followsO_next]

theorem State.toShadow_follows {s0 s : State} (h : Follows s0 s) (t : Nat) (x : Sums) : Follows s0 (State.toShadow s t x) := by
  unfold State.toShadow
  repeat' split
  all_goals simp +contextual (maxDischargeDepth := 100) only [State.arrMod_follows, State.countOrder_follows, State.doIf_follows,
      State.tileMod_follows, h, implies_true]

theorem execPassEnd_follows {s0 s : State} (h : Follows s0 s) (t : Fin 400) : FollowsO s0 (execPassEnd t s) := by
  unfold execPassEnd
  dsimp only
  repeat' split
  all_goals simp +contextual (maxDischargeDepth := 100) only [State.count_follows, State.doIf_follows, State.tileMod_follows,
      State.toShadow_follows, h, implies_true, followsO_next]

theorem execShadowDrain_follows {s0 s : State} (h : Follows s0 s) (t : Fin 400) (stalled : Nat) : FollowsO s0 (execShadowDrain t stalled s) := by
  unfold execShadowDrain
  dsimp only
  repeat' split
  all_goals simp +contextual (maxDischargeDepth := 100) only [State.countBy_follows, State.tileMod_follows, State.toShadow_follows, h,
      followsO_next]

theorem State.retireWb_follows {s0 s : State} (h : Follows s0 s) (x : Sums) : Follows s0 (State.retireWb s x) := by
  unfold State.retireWb
  dsimp only
  repeat' split
  all_goals simp +contextual (maxDischargeDepth := 100) only [State.countOrder_follows, State.count_follows, State.doIf_follows,
      State.putSlot_follows, State.raiseTev_follows, State.raise_follows, State.slotMod_follows, State.tileMod_follows, h, implies_true]

theorem execWritebackRetire_follows {s0 s : State} (h : Follows s0 s) (t : Fin 400) (stalled : Nat) :
    FollowsO s0 (execWritebackRetire t stalled s) := by
  unfold execWritebackRetire
  split <;> simp +contextual (maxDischargeDepth := 100) only [State.arrMod_follows, State.drainIssue_follows, State.retireWb_follows,
      State.slotStall_follows, follows_ite, h, followsO_next]

theorem execFenceRetire_follows {s0 s : State} (h : Follows s0 s) (t : Fin 400) : FollowsO s0 (execFenceRetire t s) := by
  unfold execFenceRetire
  split <;> simp +contextual (maxDischargeDepth := 100) only [State.countOrder_follows, State.tileMod_follows, follows_ite, h, followsO_next]

theorem execDrainRetire_follows {s0 s : State} (h : Follows s0 s) (t : Fin 400) : FollowsO s0 (execDrainRetire t s) := by
  unfold execDrainRetire
  split <;> simp +contextual (maxDischargeDepth := 100) only [State.arrMod_follows, State.countOrder_follows, follows_ite, h, followsO_next]

theorem execCheckPeriod_follows {s0 s : State} (h : Follows s0 s) : FollowsO s0 (execCheckPeriod s) := by
  simp +contextual (maxDischargeDepth := 100) only [execCheckPeriod, State.count_follows, State.doIf_follows, State.forEach_follows,
      State.tileMod_follows, follows_ite, h, implies_true, followsO_next]

theorem execCheckNow_follows {s0 s : State} (h : Follows s0 s) : FollowsO s0 (execCheckNow s) := by
  simp +contextual (maxDischargeDepth := 100) only [execCheckNow, State.checkNowDone_follows, State.forEach_follows, State.fput_follows,
      State.tileMod_follows, h, implies_true, followsO_next]

theorem execCheck_follows {s0 s : State} (h : Follows s0 s) (t : Fin 400) (pass : Bool) : FollowsO s0 (execCheck t pass s) := by
  unfold execCheck
  split <;> simp +contextual (maxDischargeDepth := 100) only [State.arrMod_follows, State.checkNowDone_follows, State.countOrder_follows,
      State.count_follows, State.fput_follows, State.lastErr_follows, State.raiseTev_follows, State.raise_follows, State.retirePend_follows,
      State.tileMod_follows, follows_ite, h, followsO_next]

theorem State.corruptRound_follows {s0 s : State} (h : Follows s0 s) (t k : Nat) : Follows s0 (State.corruptRound s t k) := by
  unfold State.corruptRound
  repeat' split
  all_goals simp +contextual (maxDischargeDepth := 100) only [State.arrMod_follows, State.forEach_follows, State.slotMod_follows,
      State.tileMod_follows, h, implies_true]

theorem execParity_follows {s0 s : State} (h : Follows s0 s) (p : Fin 400) (off : Fin 0x40000) : FollowsO s0 (execParity p off s) := by
  simp +contextual (maxDischargeDepth := 100) only [execParity, State.arrMod_follows, State.corruptRound_follows, State.count_follows,
      State.doIf_follows, State.lastErr_follows, State.raiseTev_follows, State.retirePend_follows, State.slotMod_follows, follows_ite, h,
      implies_true, followsO_next]

theorem execRetireReq_follows {s0 s : State} (h : Follows s0 s) (j : Fin 13) (bits : Word) : FollowsO s0 (execRetireReq j bits s) := by
  simp +contextual (maxDischargeDepth := 100) only [execRetireReq, State.forEach_follows, State.retirePend_follows, State.setFlag_follows,
      follows_ite, h, implies_true, followsO_next]

theorem State.startFrame_follows {s0 s : State} (h : Follows s0 s) (n : Nat) (f : EgressFrame) : Follows s0 (State.startFrame s n f) := by
  simp +contextual (maxDischargeDepth := 100) only [State.startFrame, State.laneMod_follows, h]

theorem State.laneTake_follows {s0 s : State} (h : Follows s0 s) (n : Nat) : Follows s0 (State.laneTake s n) := by
  unfold State.laneTake
  repeat' split
  all_goals simp +contextual (maxDischargeDepth := 100) only [State.accMod_follows, State.beamMod_follows, State.noteRead_follows,
      State.startFrame_follows, follows_mk, h]

theorem State.kick_follows {s0 s : State} (h : Follows s0 s) : Follows s0 (State.kick s) := by
  simp +contextual (maxDischargeDepth := 100) only [State.kick, State.forEach_follows, State.laneTake_follows, h, implies_true]

theorem State.queueFrame_follows {s0 s : State} (h : Follows s0 s) (f : EgressFrame) : Follows s0 (State.queueFrame s f) := by
  simp +contextual (maxDischargeDepth := 100) only [State.queueFrame, follows_mk, h]

theorem execEgressFrameSent_follows {s0 s : State} (h : Follows s0 s) (n : Fin 192) : FollowsO s0 (execEgressFrameSent n s) := by
  unfold execEgressFrameSent
  split <;> simp +contextual (maxDischargeDepth := 100) only [State.count_follows, State.emit_follows, State.laneMod_follows,
      State.laneTake_follows, State.send_follows, follows_ite, h, followsO_next]

theorem execVbeamFrameStart_follows {s0 s : State} (h : Follows s0 s) (n : Fin 192) : FollowsO s0 (execVbeamFrameStart n s) := by
  unfold execVbeamFrameStart
  repeat' split
  all_goals simp +contextual (maxDischargeDepth := 100) only [State.beamMod_follows, State.startFrame_follows, h, followsO_next]

theorem execVdrop_follows {s0 s : State} (h : Follows s0 s) : FollowsO s0 (execVdrop s) := by
  unfold execVdrop
  split <;> simp +contextual (maxDischargeDepth := 100) only [State.beamMod_follows, State.count_follows, State.raise_follows, h, followsO_next]

end Sys2Proof.Machine
end

