-- ==== Sys2Proof/Laws/FollowsBeam.lean ====
section
/-!
SUPPORT. Laws/FollowsBeam.lean: what every operation and meaning can do, for accumulation, the beam unit, and the Catalogue: one lemma
each, named after it. A state transformer keeps the registers and memory in canonical form, does not touch the queue, only adds outputs, and uses
no free value again.
-/
namespace Sys2Proof.Machine

theorem State.closeInteg_follows {s0 s : State} (h : Follows s0 s) (x : Nat) : Follows s0 (State.closeInteg s x) := by
  unfold State.closeInteg
  split <;> simp +contextual (maxDischargeDepth := 100) only [State.accMod_follows, State.drainIssue_follows, State.integMod_follows,
      State.wr64_follows, follows_ite, h]

theorem State.openInteg_follows {s0 s : State} (h : Follows s0 s) (x : Nat) (gap : Bool) : Follows s0 (State.openInteg s x gap) := by
  simp +contextual (maxDischargeDepth := 100) only [State.openInteg, State.accMod_follows, State.fput_follows, follows_ite, h]

theorem execIntegrationBoundary_follows {s0 s : State} (h : Follows s0 s) (x : Nat) : FollowsO s0 (execIntegrationBoundary x s) := by
  simp +contextual (maxDischargeDepth := 100) only [execIntegrationBoundary, State.closeInteg_follows, State.latchChanged_follows,
      State.openInteg_follows, follows_ite, h, followsO_next]

theorem State.showWaiting_follows {s0 s : State} (h : Follows s0 s) (seen : List Nat) : Follows s0 (State.showWaiting s seen) := by
  simp +contextual (maxDischargeDepth := 100) only [State.showWaiting, State.accMod_follows, State.fput_follows, h]

theorem execBankTablesRewritten_follows {s0 s : State} (h : Follows s0 s) (k : Fin 2) : FollowsO s0 (execBankTablesRewritten k s) := by
  unfold execBankTablesRewritten
  split <;> simp +contextual (maxDischargeDepth := 100) only [State.arcRenew_follows, State.integMod_follows, State.showWaiting_follows,
      follows_ite, h, followsO_next]

theorem State.countBankWait_follows {s0 s : State} (h : Follows s0 s) (n : Nat) : Follows s0 (State.countBankWait s n) := by
  simp +contextual (maxDischargeDepth := 100) only [State.countBankWait, State.accMod_follows, State.countBy_follows, h]

theorem State.memErr_follows {s0 s : State} (h : Follows s0 s) : Follows s0 (State.memErr s) := by
  simp +contextual (maxDischargeDepth := 100) only [State.memErr, State.count_follows, State.raise_follows, h]

theorem State.writeSpill_follows {s0 s : State} (h : Follows s0 s) (i : Integ) (x : Sums) : Follows s0 (State.writeSpill s i x) := by
  simp +contextual (maxDischargeDepth := 100) only [State.writeSpill, State.arcRenew_follows, State.countBy_follows, State.doIf_follows,
      State.memErr_follows, State.noteRead_follows, State.raiseIf_follows, h, implies_true]

theorem execSpill_follows {s0 s : State} (h : Follows s0 s) (w : Fin 4) (waited : Nat) : FollowsO s0 (execSpill w waited s) := by
  unfold execSpill
  repeat' split
  all_goals simp +contextual (maxDischargeDepth := 100) only [State.countBankWait_follows, State.pathMod_follows, State.raise_follows,
      State.showWaiting_follows, State.writeSpill_follows, h, followsO_next]

theorem State.validAdd_follows {s0 s : State} (h : Follows s0 s) (i : Integ) (r : WinRun) (p c : Nat) : Follows s0 (State.validAdd s i r p c) := by
  simp +contextual (maxDischargeDepth := 100) only [State.validAdd, State.arcRenew_follows, State.doIf_follows, State.forEach_follows,
      State.integMod_follows, State.memErr_follows, State.noteRead_follows, h, implies_true]

theorem State.ackSpill_follows {s0 s : State} (h : Follows s0 s) (x : Sums) : Follows s0 (State.ackSpill s x) := by
  unfold State.ackSpill
  dsimp only
  repeat' split
  all_goals simp +contextual (maxDischargeDepth := 100) only [State.doIf_follows, State.runMod_follows, State.slotMod_follows,
      State.validAdd_follows, h, implies_true]

theorem execSpillAck_follows {s0 s : State} (h : Follows s0 s) (w : Fin 4) : FollowsO s0 (execSpillAck w s) := by
  unfold execSpillAck
  split <;> simp +contextual (maxDischargeDepth := 100) only [State.accMod_follows, State.ackSpill_follows, State.countBy_follows,
      State.countOrder_follows, State.pathMod_follows, follows_ite, h, followsO_next]

theorem State.showRegions_follows {s0 s : State} (h : Follows s0 s) : Follows s0 (State.showRegions s) := by
  simp +contextual (maxDischargeDepth := 100) only [State.showRegions, State.forEach_follows, State.fput_follows, State.wr64_follows,
      State.wrN_follows, follows_ite, h, implies_true]

theorem State.releaseBank_follows {s0 s : State} (h : Follows s0 s) (id : Nat) : Follows s0 (State.releaseBank s id) := by
  simp +contextual (maxDischargeDepth := 100) only [State.releaseBank, State.accMod_follows, State.doIf_follows, State.fput_follows, h,
      implies_true]

theorem execDrainStart_follows {s0 s : State} (h : Follows s0 s) : FollowsO s0 (execDrainStart s) := by
  unfold execDrainStart
  repeat' split
  all_goals simp +contextual (maxDischargeDepth := 100) only [State.accMod_follows, State.count_follows, State.fput_follows,
      State.integMod_follows, State.raise_follows, State.releaseBank_follows, State.wr64_follows, h, followsO_next]

theorem State.showStages_follows {s0 s : State} (h : Follows s0 s) : Follows s0 (State.showStages s) := by
  simp +contextual (maxDischargeDepth := 100) only [State.showStages, State.fput_follows, h]

theorem State.noteDrain_follows {s0 s : State} (h : Follows s0 s) (i : Integ) : Follows s0 (State.noteDrain s i) := by
  simp +contextual (maxDischargeDepth := 100) only [State.noteDrain, State.doIf_follows, State.forEach_follows, State.noteRead_follows, h,
      implies_true]

theorem execFolioDone_follows {s0 s : State} (h : Follows s0 s) : FollowsO s0 (execFolioDone s) := by
  unfold execFolioDone
  repeat' split
  all_goals simp +contextual (maxDischargeDepth := 100) only [State.accMod_follows, State.arcPut_follows, State.countBy_follows,
      State.count_follows, State.fput_follows, State.kick_follows, State.noteDrain_follows, State.raiseIf_follows, State.raise_follows,
      State.releaseBank_follows, State.showStages_follows, State.wr64_follows, State.wrN_follows, h, followsO_next]

theorem State.stageCheck_follows {s0 s : State} (h : Follows s0 s) (k : Nat) : Follows s0 (State.stageCheck s k) := by
  simp +contextual (maxDischargeDepth := 100) only [State.stageCheck, State.fput_follows, State.showStages_follows, State.wr64_follows,
      follows_ite, h]

theorem execFolioEgressDone_follows {s0 s : State} (h : Follows s0 s) (k : Fin 8) : FollowsO s0 (execFolioEgressDone k s) := by
  simp +contextual (maxDischargeDepth := 100) only [execFolioEgressDone, State.accMod_follows, State.fput_follows, State.raise_follows,
      State.stageCheck_follows, follows_ite, h, followsO_next]

theorem execStageRelease_follows {s0 s : State} (h : Follows s0 s) (k : Fin 8) : FollowsO s0 (execStageRelease k s) := by
  simp +contextual (maxDischargeDepth := 100) only [execStageRelease, State.accMod_follows, State.stageCheck_follows, follows_ite, h, followsO_next]

theorem State.noteSat_follows {s0 s : State} (h : Follows s0 s) (sat : Bool) : Follows s0 (State.noteSat s sat) := by
  simp +contextual (maxDischargeDepth := 100) only [State.noteSat, State.count_follows, State.doIf_follows, State.raise_follows, h, implies_true]

theorem State.readyV_follows {s0 s : State} (h : Follows s0 s) (f : EgressFrame) (deadline : Nat) : Follows s0 (State.readyV s f deadline) := by
  simp +contextual (maxDischargeDepth := 100) only [State.readyV, State.beamMod_follows, h]

theorem State.putSpan_follows {s0 s : State} (h : Follows s0 s) (d : DSpan) : Follows s0 (State.putSpan s d) := by
  simp +contextual (maxDischargeDepth := 100) only [State.putSpan, State.beamMod_follows, h]

theorem State.markFull_follows {s0 s : State} (h : Follows s0 s) : Follows s0 (State.markFull s) := by
  simp +contextual (maxDischargeDepth := 100) only [State.markFull, State.beamMod_follows, State.forEach_follows, h, implies_true]

theorem State.addSpan_follows {s0 s : State} (h : Follows s0 s) (t n o : Nat) (h : HeldBlk) (buf lo hi : Nat) (vals : Bool) :
    Follows s0 (State.addSpan s t n o h buf lo hi vals) := by
  unfold State.addSpan
  dsimp only
  repeat' (first
      | with_reducible assumption
      | with_reducible apply follows_ite
      | with_reducible apply State.markFull_follows
      | with_reducible apply State.putSpan_follows
      | (intro)
      | split
      | (simp +contextual (maxDischargeDepth := 100) only [*, State.markFull_follows, State.putSpan_follows, follows_mk, follows_mk_fresh,
          follows_mk_filter, follows_ite, h, implies_true]; done))

theorem State.levelMod_follows {s0 s : State} (h : Follows s0 s) (bm j : Nat) (f : LevelSt → LevelSt) : Follows s0 (State.levelMod s bm j f) := by
  simp +contextual (maxDischargeDepth := 100) only [State.levelMod, State.beamMod_follows, h]

theorem State.levelOut_follows {s0 s : State} (h : Follows s0 s) (v : State) (bm j si e marks : Nat) :
    Follows s0 (State.levelOut s v bm j si e marks) := by
  simp +contextual (maxDischargeDepth := 100) only [State.levelOut, State.beamMod_follows, State.count_follows, State.doIf_follows,
      State.levelMod_follows, State.raise_follows, h, implies_true]

theorem State.boxcar_follows {s0 : State} (v : State) (bm : Nat) :
    ∀ {n j k : Nat} {e : Option Nat} {m : Nat} {s : State}, Follows s0 s → Follows s0 (State.boxcar v bm n j k e m s)
  | 0, _, _, _, _, _, h => h
  | n + 1, j, k, e, m, s, h => by
    have ho : ∀ (e' : Option Nat), Follows s0 (match e' with
        | some x => s.levelOut v bm j (k * 2 ^ (v.fget F.BEAM_DCFG_DT + j)) x m
        | none => s) := fun e' => by
      split
      · exact State.levelOut_follows h _ _ _ _ _ _
      · exact h
    unfold State.boxcar
    dsimp only
    split
    · exact State.levelMod_follows (ho _) _ _ _
    · split <;> exact State.boxcar_follows v bm (n := n) (State.levelMod_follows (ho _) _ _ _)

theorem State.levelClear_follows {s0 s : State} (h : Follows s0 s) (x : Nat) : Follows s0 (State.levelClear s x) := by
  simp +contextual (maxDischargeDepth := 100) only [State.levelClear, State.beamMod_follows, follows_ite, h]

theorem State.showBts_follows {s0 s : State} (h : Follows s0 s) : Follows s0 (State.showBts s) := by
  simp +contextual (maxDischargeDepth := 100) only [State.showBts, State.fput_follows, h]

theorem State.completeBt_follows {s0 s : State} (h : Follows s0 s) (bt : BlockTime) : Follows s0 (State.completeBt s bt) := by
  simp +contextual (maxDischargeDepth := 100) only [State.completeBt, State.beamMod_follows, State.boxcar_follows, State.forEach_follows,
      State.levelClear_follows, State.showBts_follows, h, implies_true]

theorem State.btAdvance_follows {s0 : State} : ∀ {n : Nat} {s : State}, Follows s0 s → Follows s0 (State.btAdvance n s)
  | 0, _, h => h
  | n + 1, s, h => by
    unfold State.btAdvance
    split
    · split
      · exact State.btAdvance_follows (n := n) (State.completeBt_follows h _)
      · exact h
    · exact h

theorem State.cutBt_follows {s0 s : State} (h : Follows s0 s) : Follows s0 (State.cutBt s) := by
  unfold State.cutBt
  split <;> simp +contextual (maxDischargeDepth := 100) only [State.beamMod_follows, State.completeBt_follows, State.count_follows,
      State.forEach_follows, State.raise_follows, h, implies_true]

theorem State.openBt_follows {s0 s : State} (h : Follows s0 s) (b lo hi : Nat) (gen : Bool) : Follows s0 (State.openBt s b lo hi gen) := by
  unfold State.openBt
  repeat' split
  all_goals simp +contextual (maxDischargeDepth := 100) only [State.beamMod_follows, State.cutBt_follows, State.showBts_follows, follows_ite, h]

theorem State.deliver_follows {s0 s : State} (h : Follows s0 s) (t n : Nat) (h : HeldBlk) (buf lo hi : Nat) (vals : Bool) :
    Follows s0 (State.deliver s t n h buf lo hi vals) := by
  unfold State.deliver
  dsimp only
  repeat' (first
      | with_reducible assumption
      | with_reducible apply follows_ite
      | with_reducible apply State.beamMod_follows
      | with_reducible apply State.btAdvance_follows
      | with_reducible apply State.openBt_follows
      | (intro)
      | split
      | (simp +contextual (maxDischargeDepth := 100) only [*, State.beamMod_follows, State.btAdvance_follows, State.openBt_follows, follows_mk,
          follows_mk_fresh, follows_mk_filter, follows_ite, h, implies_true]; done))

theorem State.readOut_follows {s0 s : State} (h : Follows s0 s) (t n : Nat) (h : HeldBlk) (buf : Nat) (late rest : Bool) :
    Follows s0 (State.readOut s t n h buf late rest) := by
  unfold State.readOut
  dsimp only
  repeat' (first
      | with_reducible assumption
      | with_reducible apply follows_ite
      | with_reducible apply State.addSpan_follows
      | with_reducible apply State.count_follows
      | with_reducible apply State.deliver_follows
      | with_reducible apply State.forEach_follows
      | with_reducible apply State.noteSat_follows
      | with_reducible apply State.raise_follows
      | with_reducible apply State.readyV_follows
      | (intro)
      | split
      | (simp +contextual (maxDischargeDepth := 100) only [*, State.addSpan_follows, State.count_follows, State.deliver_follows,
          State.forEach_follows, State.noteSat_follows, State.raise_follows, State.readyV_follows, follows_mk, follows_mk_fresh,
          follows_mk_filter, follows_ite, h, implies_true]; done))

theorem execBeamReadout_follows {s0 s : State} (h : Follows s0 s) (t : Fin 400) : FollowsO s0 (execBeamReadout t s) := by
  unfold execBeamReadout
  split <;> simp +contextual (maxDischargeDepth := 100) only [State.readOut_follows, State.tileMod_follows, follows_ite, h, followsO_next]

theorem execLate_follows {s0 s : State} (h : Follows s0 s) (t : Fin 400) (slot b : Nat) : FollowsO s0 (execLate t slot b s) := by
  unfold execLate
  repeat' split
  all_goals simp +contextual (maxDischargeDepth := 100) only [State.beamMod_follows, State.doIf_follows, State.putBlk_follows,
      State.readOut_follows, State.showQueue_follows, State.tileMod_follows, h, implies_true, followsO_next]

theorem State.takeCancelled_follows {s0 s : State} (h : Follows s0 s) : Follows s0 (State.takeCancelled s) := by
  unfold State.takeCancelled
  dsimp only
  repeat' (first
      | with_reducible assumption
      | with_reducible apply follows_ite
      | with_reducible apply State.addSpan_follows
      | with_reducible apply State.beamMod_follows
      | with_reducible apply State.deliver_follows
      | with_reducible apply State.forEach_follows
      | with_reducible apply State.markFull_follows
      | (intro)
      | split
      | (simp +contextual (maxDischargeDepth := 100) only [*, State.addSpan_follows, State.beamMod_follows, State.deliver_follows,
          State.forEach_follows, State.markFull_follows, follows_mk, follows_mk_fresh, follows_mk_filter, follows_ite, h, implies_true]; done))

theorem execDbeamSend_follows {s0 s : State} (h : Follows s0 s) : FollowsO s0 (execDbeamSend s) := by
  unfold execDbeamSend
  dsimp only
  repeat' split
  all_goals simp +contextual (maxDischargeDepth := 100) only [State.beamMod_follows, State.kick_follows, State.noteSat_follows,
      State.queueFrame_follows, State.takeCancelled_follows, h, followsO_next]

theorem execCand_follows {s0 s : State} (h : Follows s0 s) : FollowsO s0 (execCand s) := by
  simp +contextual (maxDischargeDepth := 100) only [execCand, State.beamMod_follows, State.forEach_follows, State.kick_follows,
      State.queueFrame_follows, State.raiseIf_follows, State.takeCancelled_follows, follows_ite, h, implies_true, followsO_next]

theorem State.activatePage_follows {s0 s : State} (h : Follows s0 s) (n p x : Nat) : Follows s0 (State.activatePage s n p x) := by
  unfold State.activatePage
  split <;> simp +contextual (maxDischargeDepth := 100) only [State.beamMod_follows, State.fput_follows, h]

theorem State.refuseSwitch_follows {s0 s : State} (h : Follows s0 s) (r : Nat) : Follows s0 (State.refuseSwitch s r) := by
  simp +contextual (maxDischargeDepth := 100) only [State.refuseSwitch, State.fput_follows, State.raise_follows, h]

theorem execSwitchRequest_follows {s0 s : State} (h : Follows s0 s) (p : Fin 2) : FollowsO s0 (execSwitchRequest p s) := by
  simp +contextual (maxDischargeDepth := 100) only [execSwitchRequest, State.beamMod_follows, State.fput_follows, State.refuseSwitch_follows,
      follows_ite, h, followsO_next]

theorem execWeightSwitch_follows {s0 s : State} (h : Follows s0 s) : FollowsO s0 (execWeightSwitch s) := by
  unfold execWeightSwitch
  split <;> simp +contextual (maxDischargeDepth := 100) only [State.activatePage_follows, State.beamMod_follows, State.forEach_follows,
      State.fput_follows, State.raiseIf_follows, State.raise_follows, State.wr64_follows, follows_ite, h, implies_true, followsO_next]

theorem execWloadSet_follows {s0 s : State} (h : Follows s0 s) (p : Fin 2) (bits : Word) : FollowsO s0 (execWloadSet p bits s) := by
  simp +contextual (maxDischargeDepth := 100) only [execWloadSet, State.beamMod_follows, State.forEach_follows, State.fput_follows, follows_ite,
      h, implies_true, followsO_next]

theorem execPendingSwitch_follows {s0 s : State} (h : Follows s0 s) : FollowsO s0 (execPendingSwitch s) := by
  simp +contextual (maxDischargeDepth := 100) only [execPendingSwitch, State.activatePage_follows, State.beamMod_follows, State.forEach_follows,
      State.fput_follows, h, implies_true, followsO_next]

theorem execSearchRestart_follows {s0 s : State} (h : Follows s0 s) : FollowsO s0 (execSearchRestart s) := by
  simp +contextual (maxDischargeDepth := 100) only [execSearchRestart, State.beamMod_follows, h, followsO_next]

theorem State.beamAccede_follows {s0 s : State} (h : Follows s0 s) (x y : Nat) (searchNew allocNew : Bool) :
    Follows s0 (State.beamAccede s x y searchNew allocNew) := by
  simp +contextual (maxDischargeDepth := 100) only [State.beamAccede, State.beamMod_follows, State.doIf_follows, State.dropWeights_follows,
      State.forEach_follows, State.refuseSwitch_follows, State.wrN_follows, follows_ite, h, implies_true]

theorem rwaRegs_follows {t : Tab Word} (h : tabWf 0#32 t = true) (img : List Byte) (a : Nat) : tabWf 0#32 (rwaRegs t img a) = true :=
  tabWf_foldl (tabWf_foldl (tabWf_foldl (tabWf_filter h _)))

theorem follows_rwa {s0 s : State} (h : Follows s0 s) (img : List Byte) (a : Nat)
    {poison oldRegs hiLatch accSi lanes quireNext egress ingest time sheds array accum beam cat chain snap hbm power matrix dma lastOwner mace irq
      boot host tap} :
    Follows s0 (State.mk (rwaRegs s.regs img a) s.mem s.carrelEra poison oldRegs hiLatch accSi s.out s.fresh lanes quireNext egress ingest time sheds
      array accum beam cat chain snap hbm power matrix dma lastOwner mace irq boot host tap s.pending) :=
  ⟨fun w => ⟨rwaRegs_follows (h.1 w).1 img a, (h.1 w).2⟩, h.2⟩

theorem State.catView_follows {s0 s : State} (h : Follows s0 s) (img : List Byte) (a : Nat) : Follows s0 (s.catView img a) := by
  unfold State.catView
  refine State.fput_follows (State.fput_follows (State.fput_follows (State.fput_follows (State.wrN_follows (State.wrN_follows
    (State.wrN_follows (State.wrN_follows ?_ _ _) _ _) _ _) _ _) _ _) _ _) _ _) _ _
  exact follows_rwa h img a

theorem State.catReport_follows {s0 s : State} (h : Follows s0 s) (img : List Byte) (a : Nat) : Follows s0 (State.catReport s img a) := by
  simp +contextual (maxDischargeDepth := 100) only [State.catReport, State.forEach_follows, State.fput_follows, State.wrN_follows, h, implies_true]

theorem State.startStore_follows {s0 s : State} (h : Follows s0 s) (off kind : Nat) (bytes : List Byte) :
    Follows s0 (State.startStore s off kind bytes) := by
  simp +contextual (maxDischargeDepth := 100) only [State.startStore, State.fput_follows, follows_mk, h]

theorem State.noteProg_follows {s0 s : State} (h : Follows s0 s) : Follows s0 (State.noteProg s) := by
  simp +contextual (maxDischargeDepth := 100) only [State.noteProg, State.raiseIf_follows, h]

theorem State.startBoot_follows {s0 s : State} (h : Follows s0 s) (kind : Nat) (f : BootBlk → BootBlk) : Follows s0 (State.startBoot s kind f) := by
  simp +contextual (maxDischargeDepth := 100) only [State.startBoot, State.startStore_follows, h]

theorem State.showBootSlot_follows {s0 s : State} (h : Follows s0 s) : Follows s0 (State.showBootSlot s) := by
  simp +contextual (maxDischargeDepth := 100) only [State.showBootSlot, State.fput_follows, h]

theorem State.storePut_follows {s0 : State} : ∀ {l : List Byte} {s : State} (_ : Follows s0 s) (k : Nat), Follows s0 (s.storePut k l)
  | [], _, h, _ => h
  | b :: rest, s, h, k => by
    unfold State.storePut
    exact State.storePut_follows (l := rest) (follows_mk h) (k + 1)

theorem State.endStore_follows {s0 s : State} (h : Follows s0 s) (w : StoreWrite) (readBack : List Byte) :
    Follows s0 (State.endStore s w readBack).1 := by
  simp +contextual (maxDischargeDepth := 100) only [State.endStore, State.fput_follows, State.showBootSlot_follows, State.storePut_follows,
      follows_mk, h]

theorem State.catMod_follows {s0 s : State} (h : Follows s0 s) (f : CatSt → CatSt) : Follows s0 (State.catMod s f) := by
  simp +contextual (maxDischargeDepth := 100) only [State.catMod, follows_mk, h]

theorem State.setShadow_follows {s0 s : State} (h : Follows s0 s) (n : Nat) : Follows s0 (State.setShadow s n) := by
  simp +contextual (maxDischargeDepth := 100) only [State.setShadow, State.catMod_follows, State.doIf_follows, State.fput_follows, h, implies_true]

theorem State.refuse_follows {s0 s : State} (h : Follows s0 s) (code : Nat) : Follows s0 (State.refuse s code) := by
  simp +contextual (maxDischargeDepth := 100) only [State.refuse, State.count_follows, State.fput_follows, State.raise_follows, h]

theorem execLoad_follows {s0 s : State} (h : Follows s0 s) : FollowsO s0 (execLoad s) := by
  simp +contextual (maxDischargeDepth := 100) only [execLoad, State.catMod_follows, State.refuse_follows, State.setShadow_follows, follows_ite, h,
      followsO_next]

theorem State.loadFails_follows {s0 s : State} (h : Follows s0 s) (code : Nat) : Follows s0 (State.loadFails s code) := by
  simp +contextual (maxDischargeDepth := 100) only [State.loadFails, State.fput_follows, State.setShadow_follows, h]

theorem execLoadComplete_follows {s0 s : State} (h : Follows s0 s) (ok : Bool) : FollowsO s0 (execLoadComplete ok s) := by
  unfold execLoadComplete
  repeat' split
  all_goals simp +contextual (maxDischargeDepth := 100) only [State.catMod_follows, State.doIf_follows, State.loadFails_follows,
      State.noteRead_follows, State.raise_follows, State.setShadow_follows, State.tick1_follows, h, implies_true, followsO_next]

theorem execVerify_follows {s0 s : State} (h : Follows s0 s) : FollowsO s0 (execVerify s) := by
  simp +contextual (maxDischargeDepth := 100) only [execVerify, State.refuse_follows, State.setShadow_follows, follows_ite, h, followsO_next]

theorem State.showShadowDigest_follows {s0 s : State} (h : Follows s0 s) (d : List Byte) : Follows s0 (State.showShadowDigest s d) := by
  simp +contextual (maxDischargeDepth := 100) only [State.showShadowDigest, State.forEach_follows, State.wrN_follows, h, implies_true]

theorem State.reject_follows {s0 s : State} (h : Follows s0 s) (f : Fail) : Follows s0 (State.reject s f) := by
  simp +contextual (maxDischargeDepth := 100) only [State.reject, State.count_follows, State.fput_follows, State.raise_follows,
      State.setShadow_follows, State.wrN_follows, h]

theorem State.judgeShadow_follows {s0 s : State} (h : Follows s0 s) : Follows s0 (State.judgeShadow s) := by
  unfold State.judgeShadow
  split <;> simp +contextual (maxDischargeDepth := 100) only [State.fput_follows, State.raise_follows, State.reject_follows,
      State.setShadow_follows, State.showShadowDigest_follows, h]

theorem execVerifyComplete_follows {s0 s : State} (h : Follows s0 s) : FollowsO s0 (execVerifyComplete s) := by
  simp +contextual (maxDischargeDepth := 100) only [execVerifyComplete, State.judgeShadow_follows, follows_ite, h, followsO_next]

theorem execClear_follows {s0 s : State} (h : Follows s0 s) : FollowsO s0 (execClear s) := by
  simp +contextual (maxDischargeDepth := 100) only [execClear, State.refuse_follows, State.setShadow_follows, follows_ite, h, followsO_next]

theorem State.refuseWrite_follows {s0 s : State} (h : Follows s0 s) : Follows s0 (State.refuseWrite s) := by
  simp +contextual (maxDischargeDepth := 100) only [State.refuseWrite, State.raise_follows, State.refuse_follows, h]

theorem State.stageWrite_follows {s0 s : State} (h : Follows s0 s) (r v : Nat) : Follows s0 (State.stageWrite s r v) := by
  unfold State.stageWrite
  dsimp only
  repeat' split
  all_goals simp +contextual (maxDischargeDepth := 100) only [State.catMod_follows, State.refuseWrite_follows, State.setShadow_follows, h]

theorem execRwaWrite_follows {s0 s : State} (h : Follows s0 s) (r : Nat) (v : Word) : FollowsO s0 (execRwaWrite r v s) := by
  simp +contextual (maxDischargeDepth := 100) only [execRwaWrite, State.stageWrite_follows, follows_ite, h, followsO_next]

theorem execStore_follows {s0 s : State} (h : Follows s0 s) : FollowsO s0 (execStore s) := by
  simp +contextual (maxDischargeDepth := 100) only [execStore, State.noteProg_follows, State.refuse_follows, State.startStore_follows,
      follows_ite, h, followsO_next]

theorem execStoreComplete_follows {s0 s : State} (h : Follows s0 s) (readBack : List Byte) : FollowsO s0 (execStoreComplete readBack s) := by
  unfold execStoreComplete
  split <;> simp +contextual (maxDischargeDepth := 100) only [State.endStore_follows, State.raise_follows, follows_ite, h, followsO_next]

theorem execSetBoot_follows {s0 s : State} (h : Follows s0 s) : FollowsO s0 (execSetBoot s) := by
  simp +contextual (maxDischargeDepth := 100) only [execSetBoot, State.noteProg_follows, State.refuse_follows, State.startBoot_follows,
      follows_ite, h, followsO_next]

theorem execNoBoot_follows {s0 s : State} (h : Follows s0 s) : FollowsO s0 (execNoBoot s) := by
  simp +contextual (maxDischargeDepth := 100) only [execNoBoot, State.noteProg_follows, State.refuse_follows, State.startBoot_follows,
      follows_ite, h, followsO_next]

theorem State.shadowView_follows {s0 s : State} (h : Follows s0 s) : Follows s0 (State.shadowView s) := by
  simp +contextual (maxDischargeDepth := 100) only [State.shadowView, State.catView_follows, h]

theorem State.showRequest_follows {s0 s : State} (h : Follows s0 s) (x y kind : Nat) : Follows s0 (State.showRequest s x y kind) := by
  simp +contextual (maxDischargeDepth := 100) only [State.showRequest, State.wr64_follows, State.wrN_follows, h]

theorem State.requestAcc_follows {s0 s : State} (h : Follows s0 s) (x resume : Nat) : Follows s0 (State.requestAcc s x resume).1 := by
  simp +contextual (maxDischargeDepth := 100) only [State.requestAcc, State.catMod_follows, State.fput_follows, State.raise_follows,
      State.setShadow_follows, State.showRequest_follows, h, follows_ite1]

theorem execSchedule_follows {s0 s : State} (h : Follows s0 s) : FollowsO s0 (execSchedule s) := by
  simp +contextual (maxDischargeDepth := 100) only [execSchedule, State.refuse_follows, State.requestAcc_follows, follows_ite, h, followsO_next]

theorem State.cancelAcc_follows {s0 s : State} (h : Follows s0 s) : Follows s0 (State.cancelAcc s) := by
  simp +contextual (maxDischargeDepth := 100) only [State.cancelAcc, State.catMod_follows, State.fput_follows, State.raise_follows,
      State.setShadow_follows, h]

theorem execCancel_follows {s0 s : State} (h : Follows s0 s) : FollowsO s0 (execCancel s) := by
  simp +contextual (maxDischargeDepth := 100) only [execCancel, State.cancelAcc_follows, State.raise_follows, State.refuse_follows, follows_ite,
      h, followsO_next]

theorem State.chMod_follows {s0 s : State} (h : Follows s0 s) (f : ChainSt → ChainSt) : Follows s0 (State.chMod s f) := by
  simp +contextual (maxDischargeDepth := 100) only [State.chMod, follows_mk, h]

theorem State.setPort_follows {s0 s : State} (h : Follows s0 s) (p st : Nat) : Follows s0 (State.setPort s p st) := by
  simp +contextual (maxDischargeDepth := 100) only [State.setPort, State.fput_follows, follows_ite, h]

theorem State.showPending_follows {s0 s : State} (h : Follows s0 s) : Follows s0 (State.showPending s) := by
  simp +contextual (maxDischargeDepth := 100) only [State.showPending, State.fput_follows, h]

theorem State.setAddr_follows {s0 s : State} (h : Follows s0 s) (n : Nat) : Follows s0 (State.setAddr s n) := by
  simp +contextual (maxDischargeDepth := 100) only [State.setAddr, State.fput_follows, State.showPending_follows, h]

theorem State.dropAddr_follows {s0 s : State} (h : Follows s0 s) : Follows s0 (State.dropAddr s) := by
  simp +contextual (maxDischargeDepth := 100) only [State.dropAddr, State.fput_follows, State.showPending_follows, h]

theorem State.checkAddr_follows {s0 s : State} (h : Follows s0 s) : Follows s0 (State.checkAddr s) := by
  simp +contextual (maxDischargeDepth := 100) only [State.checkAddr, State.dropAddr_follows, State.raise_follows, follows_ite, h]

theorem State.takeRole_follows {s0 s : State} (h : Follows s0 s) : Follows s0 (State.takeRole s) := by
  simp +contextual (maxDischargeDepth := 100) only [State.takeRole, State.dropAddr_follows, State.fput_follows, State.setAddr_follows,
      follows_ite, h]

theorem State.msgErr_follows {s0 s : State} (h : Follows s0 s) : Follows s0 (State.msgErr s) := by
  simp +contextual (maxDischargeDepth := 100) only [State.msgErr, State.count_follows, State.raise_follows, h]

theorem State.takeMsg_follows {s0 s : State} (h : Follows s0 s) (p typ : Nat) (b : List Byte) (f : State → Msg → State)
    (hf : ∀ u x0, Follows s0 u → Follows s0 (f u x0)) : Follows s0 (State.takeMsg s p typ b f) := by
  unfold State.takeMsg
  repeat' split
  all_goals simp +contextual (maxDischargeDepth := 100) only [State.msgErr_follows, h, hf]

theorem State.putMsg_follows {s0 s : State} (h : Follows s0 s) (p : Nat) (b : List Byte) : Follows s0 (State.putMsg s p b) := by
  simp +contextual (maxDischargeDepth := 100) only [State.putMsg, State.emit_follows, State.send_follows, h]

theorem State.sendMsg_follows {s0 s : State} (h : Follows s0 s) (p typ dest seq : Nat) (body : List Byte) :
    Follows s0 (State.sendMsg s p typ dest seq body) := by
  simp +contextual (maxDischargeDepth := 100) only [State.sendMsg, State.putMsg_follows, follows_ite, h]

theorem State.sendTo_follows {s0 s : State} (h : Follows s0 s) (p typ dest : Nat) (body : List Byte) :
    Follows s0 (State.sendTo s p typ dest body) := by
  simp +contextual (maxDischargeDepth := 100) only [State.sendTo, State.sendMsg_follows, State.tick1_follows, h]

theorem State.sendLink_follows {s0 s : State} (h : Follows s0 s) (p typ : Nat) (body : List Byte) : Follows s0 (State.sendLink s p typ body) := by
  simp +contextual (maxDischargeDepth := 100) only [State.sendLink, State.sendTo_follows, State.tick1_follows, h]

theorem State.forward_follows {s0 s : State} (h : Follows s0 s) (p : Nat) (m : Msg) : Follows s0 (State.forward s p m) := by
  simp +contextual (maxDischargeDepth := 100) only [State.forward, State.count_follows, State.putMsg_follows, follows_ite, h]

theorem State.sendHello_follows {s0 s : State} (h : Follows s0 s) (p : Nat) : Follows s0 (State.sendHello s p) := by
  simp +contextual (maxDischargeDepth := 100) only [State.sendHello, State.chMod_follows, State.sendLink_follows, h]

theorem State.helloSync_follows {s0 s : State} (h : Follows s0 s) : Follows s0 (State.helloSync s) := by
  simp +contextual (maxDischargeDepth := 100) only [State.helloSync, State.forEach_follows, State.sendHello_follows, follows_ite, h, implies_true]

end Sys2Proof.Machine
end

