-- ==== Sys2Proof/Laws/FollowsUnits.lean ====
section
/-!
SUPPORT. Laws/FollowsUnits.lean: what every operation and meaning can do, for mailboxes, the throttle, the memory controller, interrupts, leases, the Clove engines' control and snapshot requests: one lemma
each, named after it. A state transformer keeps the registers and memory in canonical form, does not touch the queue, only adds outputs, and uses
no free value again.
-/
namespace Sys2Proof.Machine

theorem State.mbEvent_follows {s0 s : State} (h : Follows s0 s) (k d e : Nat) : Follows s0 (State.mbEvent s k d e) := by
  simp +contextual (maxDischargeDepth := 100) only [State.mbEvent, State.raise_follows, h]

theorem State.mbPending_follows {s0 s : State} (h : Follows s0 s) (k : Nat) : Follows s0 (State.mbPending s k) := by
  simp +contextual (maxDischargeDepth := 100) only [State.mbPending, State.setFlag_follows, h]

theorem State.mbFlags_follows {s0 s : State} (h : Follows s0 s) (k d fl : Nat) : Follows s0 (State.mbFlags s k d fl) := by
  simp +contextual (maxDischargeDepth := 100) only [State.mbFlags, State.fput_follows, h]

theorem State.mbUnstage_follows {s0 s : State} (h : Follows s0 s) (k d : Nat) : Follows s0 (State.mbUnstage s k d) := by
  simp +contextual (maxDischargeDepth := 100) only [State.mbUnstage, State.clr_follows, h]

theorem State.mbUnlock_follows {s0 s : State} (h : Follows s0 s) (k d m : Nat) : Follows s0 (State.mbUnlock s k d m) := by
  simp +contextual (maxDischargeDepth := 100) only [State.mbUnlock, State.fput_follows, follows_ite, h]

theorem State.mbRefuse_follows {s0 s : State} (h : Follows s0 s) (k d code : Nat) : Follows s0 (State.mbRefuse s k d code) := by
  simp +contextual (maxDischargeDepth := 100) only [State.mbRefuse, State.count_follows, State.fput_follows, State.mbEvent_follows, h]

theorem State.mbFree_follows {s0 s : State} (h : Follows s0 s) (k d : Nat) (cross : Bool) : Follows s0 (State.mbFree s k d cross) := by
  simp +contextual (maxDischargeDepth := 100) only [State.mbFree, State.clr_follows, State.doIf_follows, State.forEach_follows,
      State.fput_follows, State.mbFlags_follows, State.mbPending_follows, h, implies_true]

theorem State.mbComplete_follows {s0 s : State} (h : Follows s0 s) (k d code : Nat) : Follows s0 (State.mbComplete s k d code) := by
  simp +contextual (maxDischargeDepth := 100) only [State.mbComplete, State.mbEvent_follows, State.mbFree_follows, State.wrN_follows, h]

theorem State.mbPresent_follows {s0 s : State} (h : Follows s0 s) (k d ptr tag fl sender : Nat) :
    Follows s0 (State.mbPresent s k d ptr tag fl sender) := by
  simp +contextual (maxDischargeDepth := 100) only [State.mbPresent, State.fput_follows, State.mbEvent_follows, State.mbPending_follows,
      State.wrN_follows, h]

theorem State.mbOutbound_follows {s0 s : State} (h : Follows s0 s) (k tag : Nat) : Follows s0 (State.mbOutbound s k tag) := by
  simp +contextual (maxDischargeDepth := 100) only [State.mbOutbound, State.mbComplete_follows, State.sendLink_follows, follows_ite, h]

theorem State.mbLinkLost_follows {s0 s : State} (h : Follows s0 s) (p : Nat) : Follows s0 (State.mbLinkLost s p) := by
  simp +contextual (maxDischargeDepth := 100) only [State.mbLinkLost, State.count_follows, State.forEach_follows, State.fput_follows,
      State.mbComplete_follows, State.mbEvent_follows, State.mbFlags_follows, follows_ite, h, implies_true]

theorem execMbox_follows {s0 s : State} (h : Follows s0 s) (p : Fin 2) (b : List Byte) : FollowsO s0 (execMbox p b s) := by
  simp +contextual (maxDischargeDepth := 100) only [execMbox, State.mbPresent_follows, State.sendLink_follows, State.stBytes_follows,
      State.takeMsg_follows, follows_ite, h, implies_true, followsO_next]

theorem execMboxAck_follows {s0 s : State} (h : Follows s0 s) (p : Fin 2) (b : List Byte) : FollowsO s0 (execMboxAck p b s) := by
  simp +contextual (maxDischargeDepth := 100) only [execMboxAck, State.count_follows, State.mbComplete_follows, State.mbEvent_follows,
      State.mbRefuse_follows, State.takeMsg_follows, follows_ite, h, implies_true, followsO_next]

theorem execPost_follows {s0 s : State} (h : Follows s0 s) (k : Fin 48) (d : Fin 2) (m : Fin 32) (v : Word) : FollowsO s0 (execPost k d m v s) := by
  simp +contextual (maxDischargeDepth := 100) only [execPost, State.mbOutbound_follows, State.mbPresent_follows, State.mbRefuse_follows,
      State.mbUnlock_follows, State.mbUnstage_follows, follows_ite, h, followsO_next]

theorem execLockRead_follows {s0 s : State} (h : Follows s0 s) (k : Fin 48) (d : Fin 2) (m : Fin 32) : FollowsO s0 (execLockRead k d m s) := by
  simp +contextual (maxDischargeDepth := 100) only [execLockRead, State.emit_follows, State.fput_follows, follows_ite, h, followsO_next]

theorem execLockRelease_follows {s0 s : State} (h : Follows s0 s) (k : Fin 48) (d : Fin 2) (m : Fin 32) :
    FollowsO s0 (execLockRelease k d m s) := by
  simp +contextual (maxDischargeDepth := 100) only [execLockRelease, State.mbUnlock_follows, h, followsO_next]

theorem execNoticeRead_follows {s0 s : State} (h : Follows s0 s) (k : Fin 48) (d : Fin 2) : FollowsO s0 (execNoticeRead k d s) := by
  simp +contextual (maxDischargeDepth := 100) only [execNoticeRead, State.emit_follows, State.fput_follows, follows_ite, h, followsO_next]

theorem execAck_follows {s0 s : State} (h : Follows s0 s) (k : Fin 48) (d : Fin 2) (m : Fin 32) (v : Word) : FollowsO s0 (execAck k d m v s) := by
  simp +contextual (maxDischargeDepth := 100) only [execAck, State.count_follows, State.mbComplete_follows, State.mbEvent_follows,
      State.mbRefuse_follows, State.sendLink_follows, State.tick1_follows, follows_ite, h, followsO_next]

theorem execMailboxTimeout_follows {s0 s : State} (h : Follows s0 s) (k : Fin 48) (d : Fin 2) : FollowsO s0 (execMailboxTimeout k d s) := by
  simp +contextual (maxDischargeDepth := 100) only [execMailboxTimeout, State.count_follows, State.mbEvent_follows, State.mbFree_follows,
      State.wrN_follows, follows_ite, h, followsO_next]

theorem execCross_follows {s0 s : State} (h : Follows s0 s) (k : Fin 48) : FollowsO s0 (execCross k s) := by
  simp +contextual (maxDischargeDepth := 100) only [execCross, State.count_follows, State.forEach_follows, State.mbFlags_follows,
      State.raise_follows, follows_ite, h, implies_true, followsO_next]

theorem State.mbMark_follows {s0 s : State} (h : Follows s0 s) (k d bit : Nat) (again : Bool) : Follows s0 (State.mbMark s k d bit again) := by
  simp +contextual (maxDischargeDepth := 100) only [State.mbMark, State.fput_follows, State.mbEvent_follows, State.mbFlags_follows, follows_ite, h]

theorem State.mbStale_follows {s0 s : State} (h : Follows s0 s) (dirs : List (Nat × Nat)) : Follows s0 (State.mbStale s dirs) := by
  simp +contextual (maxDischargeDepth := 100) only [State.mbStale, State.count_follows, State.forEach_follows, State.mbMark_follows, h,
      implies_true]

theorem State.mbVoid_follows {s0 s : State} (h : Follows s0 s) (m : Nat) : Follows s0 (State.mbVoid s m) := by
  simp +contextual (maxDischargeDepth := 100) only [State.mbVoid, State.count_follows, State.forEach_follows, State.mbMark_follows,
      State.mbUnlock_follows, follows_ite, h, implies_true]

theorem State.mbResetX_follows {s0 s : State} (h : Follows s0 s) (m : Nat) : Follows s0 (State.mbResetX s m) := by
  simp +contextual (maxDischargeDepth := 100) only [State.mbResetX, State.mbStale_follows, State.mbVoid_follows, h]

theorem State.mbClear_follows {s0 s : State} (h : Follows s0 s) : Follows s0 (State.mbClear s) := by
  simp +contextual (maxDischargeDepth := 100) only [State.mbClear, State.clr_follows, State.forEach_follows, State.mbFree_follows, h, implies_true]

theorem State.powMod_follows {s0 s : State} (h : Follows s0 s) (f : PowerSt → PowerSt) : Follows s0 (State.powMod s f) := by
  simp +contextual (maxDischargeDepth := 100) only [State.powMod, follows_mk, h]

theorem State.putSheds_follows {s0 s : State} (h : Follows s0 s) (new : ShedRow) (pb wb : Nat) : Follows s0 (State.putSheds s new pb wb) := by
  simp +contextual (maxDischargeDepth := 100) only [State.putSheds, follows_mk, h]

theorem State.applyStep_follows {s0 s : State} (h : Follows s0 s) : Follows s0 (State.applyStep s) := by
  simp +contextual (maxDischargeDepth := 100) only [State.applyStep, State.count_follows, State.fput_follows, State.powMod_follows,
      State.putSheds_follows, State.raise_follows, State.wr64_follows, follows_ite, h]

theorem State.throttleAccede_follows {s0 s : State} (h : Follows s0 s) (x : Nat) : Follows s0 (State.throttleAccede s x) := by
  simp +contextual (maxDischargeDepth := 100) only [State.throttleAccede, State.putSheds_follows, h]

theorem State.modelStep_follows {s0 s : State} (h : Follows s0 s) (us : Nat) (ps : List Nat) : Follows s0 (State.modelStep s us ps) := by
  simp +contextual (maxDischargeDepth := 100) only [State.modelStep, State.powMod_follows, h]

theorem State.judgeDiodes_follows {s0 s : State} (h : Follows s0 s) : Follows s0 (State.judgeDiodes s) := by
  simp +contextual (maxDischargeDepth := 100) only [State.judgeDiodes, State.forEach_follows, State.fput_follows, State.powMod_follows,
      State.raiseIf_follows, State.raise_follows, follows_ite, h, implies_true]

theorem State.showHeat_follows {s0 s : State} (h : Follows s0 s) : Follows s0 (State.showHeat s) := by
  simp +contextual (maxDischargeDepth := 100) only [State.showHeat, State.forEach_follows, State.powMod_follows, State.raiseIf_follows,
      State.wrN_follows, h, implies_true]

theorem State.judgeProg_follows {s0 s : State} (h : Follows s0 s) : Follows s0 (State.judgeProg s) := by
  simp +contextual (maxDischargeDepth := 100) only [State.judgeProg, State.fput_follows, follows_mk, follows_ite, h]

theorem State.setFast_follows {s0 s : State} (h : Follows s0 s) (b : Bool) : Follows s0 (State.setFast s b) := by
  simp +contextual (maxDischargeDepth := 100) only [State.setFast, State.fput_follows, State.raise_follows, follows_ite, h]

theorem State.judgeFast_follows {s0 s : State} (h : Follows s0 s) : Follows s0 (State.judgeFast s) := by
  unfold State.judgeFast
  split <;> simp +contextual (maxDischargeDepth := 100) only [State.powMod_follows, State.setFast_follows, follows_ite, h]

theorem State.controlStep_follows {s0 s : State} (h : Follows s0 s) : Follows s0 (State.controlStep s) := by
  simp +contextual (maxDischargeDepth := 100) only [State.controlStep, State.fput_follows, State.powMod_follows, follows_ite, h]

theorem State.measure_follows {s0 s : State} (h : Follows s0 s) (us t : Nat) (slow : Bool) (diodes : List (BitVec 16)) (ps : List Nat) :
    Follows s0 (State.measure s us t slow diodes ps) := by
  simp +contextual (maxDischargeDepth := 100) only [State.measure, State.applyStep_follows, State.controlStep_follows, State.forEach_follows,
      State.fput_follows, State.judgeDiodes_follows, State.judgeFast_follows, State.judgeProg_follows, State.modelStep_follows,
      State.powMod_follows, State.showHeat_follows, State.wrN_follows, follows_ite, h, implies_true]

theorem execFastRound_follows {s0 s : State} (h : Follows s0 s) (diodes : List (BitVec 16)) (ps : List Nat) :
    FollowsO s0 (execFastRound diodes ps s) := by
  simp +contextual (maxDischargeDepth := 100) only [execFastRound, State.measure_follows, follows_ite, h, followsO_next]

theorem State.takeIout_follows {s0 s : State} (h : Follows s0 s) (ans : List (Option Nat)) : Follows s0 (State.takeIout s ans) := by
  unfold State.takeIout
  dsimp only
  repeat' (first
      | with_reducible assumption
      | with_reducible apply follows_ite
      | with_reducible apply State.count_follows
      | with_reducible apply State.forEach_follows
      | with_reducible apply State.powMod_follows
      | with_reducible apply State.raise_follows
      | (intro)
      | split
      | (simp +contextual (maxDischargeDepth := 100) only [*, State.count_follows, State.forEach_follows, State.powMod_follows,
          State.raise_follows, follows_mk, follows_mk_fresh, follows_mk_filter, follows_ite, h, implies_true]; done))

theorem State.showRails_follows {s0 s : State} (h : Follows s0 s) (mv : List (BitVec 16)) (ps : List Nat) :
    Follows s0 (State.showRails s mv ps) := by
  simp +contextual (maxDischargeDepth := 100) only [State.showRails, State.forEach_follows, State.tick1_follows, State.wrN_follows,
      State.wr_follows, follows_ite, h, implies_true]

theorem State.commandCore_follows {s0 s : State} (h : Follows s0 s) (c : Nat) : Follows s0 (State.commandCore s c) := by
  simp +contextual (maxDischargeDepth := 100) only [State.commandCore, State.emit_follows, State.fput_follows, h]

theorem State.trimCore_follows {s0 s : State} (h : Follows s0 s) (back : Option (BitVec 16)) : Follows s0 (State.trimCore s back) := by
  simp +contextual (maxDischargeDepth := 100) only [State.trimCore, State.commandCore_follows, State.count_follows, State.fput_follows,
      State.powMod_follows, State.raise_follows, follows_ite, h]

theorem execSlowRound_follows {s0 s : State} (h : Follows s0 s) (diodes mv : List (BitVec 16)) (iout : List (Option Nat)) (est : List Nat)
    (avs : Option (BitVec 16)) : FollowsO s0 (execSlowRound diodes mv iout est avs s) := by
  simp +contextual (maxDischargeDepth := 100) only [execSlowRound, State.measure_follows, State.powMod_follows, State.raiseIf_follows,
      State.showRails_follows, State.takeIout_follows, State.trimCore_follows, h, followsO_next]

theorem execPmAlert_follows {s0 s : State} (h : Follows s0 s) (bad : Fin 17) : FollowsO s0 (execPmAlert bad s) := by
  simp +contextual (maxDischargeDepth := 100) only [execPmAlert, State.countBy_follows, State.raise_follows, h, followsO_next]

theorem State.hbmMod_follows {s0 s : State} (h : Follows s0 s) (f : HbmSt → HbmSt) : Follows s0 (State.hbmMod s f) := by
  simp +contextual (maxDischargeDepth := 100) only [State.hbmMod, follows_mk, h]

theorem State.archRead_follows {s0 s : State} (h : Follows s0 s) (cls off n : Nat) : Follows s0 (State.archRead s cls off n).1 := by
  simp +contextual (maxDischargeDepth := 100) only [State.archRead, State.noteRead_follows, State.rangeErr_follows, h, follows_ite1]

theorem State.archWrite_follows {s0 s : State} (h : Follows s0 s) (cls off : Nat) (bs : List (Option Byte)) :
    Follows s0 (State.archWrite s cls off bs).1 := by
  simp +contextual (maxDischargeDepth := 100) only [State.archWrite, State.arcWrite_follows, State.rangeErr_follows, h, follows_ite1]

theorem State.takeIn_follows {s0 s : State} (h : Follows s0 s) (r : HReq) : Follows s0 (State.takeIn s r) := by
  simp +contextual (maxDischargeDepth := 100) only [State.takeIn, State.count_follows, State.doIf_follows, State.hbmMod_follows, h, implies_true]

theorem State.admitWaiting_follows {s0 : State} : ∀ {l : List HReq} {s : State}, Follows s0 s → Follows s0 (State.admitWaiting l s)
  | [], _, h => h
  | r :: rest, s, h => by
    unfold State.admitWaiting
    split
    · exact State.admitWaiting_follows (l := rest) (State.takeIn_follows h r)
    · exact State.admitWaiting_follows (l := rest) (State.hbmMod_follows h _)

theorem State.retryWaiting_follows {s0 s : State} (h : Follows s0 s) : Follows s0 (State.retryWaiting s) := by
  simp +contextual (maxDischargeDepth := 100) only [State.retryWaiting, State.admitWaiting_follows, State.hbmMod_follows, h]

theorem execHbmRequest_follows {s0 s : State} (h : Follows s0 s) (cls : Fin 5) (src tag : Nat) (hint wr : Bool) (off : Nat) (data : List
    (Option Byte)) : FollowsO s0 (execHbmRequest cls src tag hint wr off data s) := by
  simp +contextual (maxDischargeDepth := 100) only [execHbmRequest, State.admitWaiting_follows, State.emit_follows, State.rangeErr_follows,
      follows_ite, h, followsO_next]

theorem execHbmAgePromote_follows {s0 s : State} (h : Follows s0 s) (k : Nat) : FollowsO s0 (execHbmAgePromote k s) := by
  unfold execHbmAgePromote
  split <;> simp +contextual (maxDischargeDepth := 100) only [State.count_follows, State.hbmMod_follows, follows_ite, h, followsO_next]

theorem State.openRow_follows {s0 s : State} (h : Follows s0 s) (r : HReq) : Follows s0 (State.openRow s r) := by
  simp +contextual (maxDischargeDepth := 100) only [State.openRow, State.count_follows, State.doIf_follows, State.hbmMod_follows, follows_ite, h,
      implies_true]

theorem State.closeRow_follows {s0 s : State} (h : Follows s0 s) (pc bank : Nat) : Follows s0 (State.closeRow s pc bank) := by
  simp +contextual (maxDischargeDepth := 100) only [State.closeRow, State.hbmMod_follows, h]

theorem execPageTimeout_follows {s0 s : State} (h : Follows s0 s) (pc : Fin 64) (bank : Fin 48) : FollowsO s0 (execPageTimeout pc bank s) := by
  simp +contextual (maxDischargeDepth := 100) only [execPageTimeout, State.closeRow_follows, h, followsO_next]

theorem execRefreshDue_follows {s0 s : State} (h : Follows s0 s) (pc : Fin 64) (bank : Fin 48) (put : Bool) :
    FollowsO s0 (execRefreshDue pc bank put s) := by
  simp +contextual (maxDischargeDepth := 100) only [execRefreshDue, State.closeRow_follows, State.count_follows, State.hbmMod_follows,
      follows_ite, h, followsO_next]

theorem State.showHeld_follows {s0 s : State} (h : Follows s0 s) : Follows s0 (State.showHeld s) := by
  simp +contextual (maxDischargeDepth := 100) only [State.showHeld, State.fput_follows, h]

theorem State.showTrain_follows {s0 s : State} (h : Follows s0 s) : Follows s0 (State.showTrain s) := by
  unfold State.showTrain
  dsimp only
  repeat' split
  all_goals simp +contextual (maxDischargeDepth := 100) only [State.wrN_follows, h]

theorem State.enterPhase_follows {s0 s : State} (h : Follows s0 s) (p : Nat) : Follows s0 (State.enterPhase s p) := by
  simp +contextual (maxDischargeDepth := 100) only [State.enterPhase, State.fput_follows, State.hbmMod_follows, State.showTrain_follows, h]

theorem State.holdDrained_follows {s0 s : State} (h : Follows s0 s) : Follows s0 (State.holdDrained s) := by
  simp +contextual (maxDischargeDepth := 100) only [State.holdDrained, State.enterPhase_follows, State.forEach_follows, State.fput_follows,
      State.hbmMod_follows, State.showHeld_follows, State.wr_follows, follows_ite, h, implies_true]

theorem State.beginHold_follows {s0 s : State} (h : Follows s0 s) (k : Nat) : Follows s0 (State.beginHold s k) := by
  simp +contextual (maxDischargeDepth := 100) only [State.beginHold, State.hbmMod_follows, State.holdDrained_follows, State.showHeld_follows, h]

theorem execMapApply_follows {s0 s : State} (h : Follows s0 s) : FollowsO s0 (execMapApply s) := by
  simp +contextual (maxDischargeDepth := 100) only [execMapApply, State.beginHold_follows, State.fput_follows, State.raise_follows, follows_ite,
      h, followsO_next]

theorem State.zeroArchive_follows {s0 s : State} (h : Follows s0 s) : Follows s0 (State.zeroArchive s) := by
  simp +contextual (maxDischargeDepth := 100) only [State.zeroArchive, follows_mk_filter, h]

theorem State.releaseHold_follows {s0 s : State} (h : Follows s0 s) : Follows s0 (State.releaseHold s) := by
  simp +contextual (maxDischargeDepth := 100) only [State.releaseHold, State.hbmMod_follows, State.retryWaiting_follows, State.showHeld_follows, h]

theorem State.noteFix_follows {s0 s : State} (h : Follows s0 s) (kind off : Nat) : Follows s0 (State.noteFix s kind off) := by
  simp +contextual (maxDischargeDepth := 100) only [State.noteFix, State.count_follows, State.raise_follows, follows_ite, h]

theorem execHbmRequestComplete_follows {s0 s : State} (h : Follows s0 s) (k : Nat) (fault : Fin 4) :
    FollowsO s0 (execHbmRequestComplete k fault s) := by
  unfold execHbmRequestComplete
  split <;> simp +contextual (maxDischargeDepth := 100) only [State.arcWrite_follows, State.closeRow_follows, State.doIf_follows,
      State.emit_follows, State.hbmMod_follows, State.holdDrained_follows, State.noteFix_follows, State.noteRead_follows, State.openRow_follows,
      State.poisonUnit_follows, State.retryWaiting_follows, follows_ite, h, implies_true, followsO_next]

theorem State.startPatrol_follows {s0 s : State} (h : Follows s0 s) : Follows s0 (State.startPatrol s) := by
  simp +contextual (maxDischargeDepth := 100) only [State.startPatrol, State.fput_follows, State.hbmMod_follows, State.showHeld_follows, h]

theorem execScrubPeriod_follows {s0 s : State} (h : Follows s0 s) : FollowsO s0 (execScrubPeriod s) := by
  simp +contextual (maxDischargeDepth := 100) only [execScrubPeriod, State.startPatrol_follows, follows_ite, h, followsO_next]

theorem execScrubNow_follows {s0 s : State} (h : Follows s0 s) : FollowsO s0 (execScrubNow s) := by
  simp +contextual (maxDischargeDepth := 100) only [execScrubNow, State.startPatrol_follows, h, followsO_next]

theorem execScrubDone_follows {s0 s : State} (h : Follows s0 s) (fixed bad : List Nat) : FollowsO s0 (execScrubDone fixed bad s) := by
  simp +contextual (maxDischargeDepth := 100) only [execScrubDone, State.count_follows, State.doIf_follows, State.forEach_follows,
      State.hbmMod_follows, State.logArc_follows, State.noteFix_follows, State.poisonUnit_follows, State.raise_follows, State.showHeld_follows,
      follows_ite, h, implies_true, followsO_next]

theorem State.startInitScrub_follows {s0 s : State} (h : Follows s0 s) : Follows s0 (State.startInitScrub s) := by
  simp +contextual (maxDischargeDepth := 100) only [State.startInitScrub, State.hbmMod_follows, State.showHeld_follows, h]

theorem execHbmTemperatureRead_follows {s0 s : State} (h : Follows s0 s) (t0 t1 : Byte) : FollowsO s0 (execHbmTemperatureRead t0 t1 s) := by
  simp +contextual (maxDischargeDepth := 100) only [execHbmTemperatureRead, State.applyStep_follows, State.fput_follows, State.raiseIf_follows,
      State.wrN_follows, h, followsO_next]

theorem State.startTraining_follows {s0 s : State} (h : Follows s0 s) : Follows s0 (State.startTraining s) := by
  simp +contextual (maxDischargeDepth := 100) only [State.startTraining, State.enterPhase_follows, State.fput_follows, State.hbmMod_follows,
      State.wr64_follows, h]

theorem State.nextPhase_follows {s0 s : State} (h : Follows s0 s) (p : Nat) : Follows s0 (State.nextPhase s p) := by
  simp +contextual (maxDischargeDepth := 100) only [State.nextPhase, State.enterPhase_follows, State.fput_follows, State.hbmMod_follows,
      State.raise_follows, State.showTrain_follows, follows_ite, h]

theorem execTrainingPhaseDone_follows {s0 s : State} (h : Follows s0 s) (pc : Fin 64) (pass rfm : Bool) (moved : Byte) :
    FollowsO s0 (execTrainingPhaseDone pc pass rfm moved s) := by
  unfold execTrainingPhaseDone
  repeat' split
  all_goals simp +contextual (maxDischargeDepth := 100) only [State.enterPhase_follows, State.fput_follows, State.hbmMod_follows,
      State.nextPhase_follows, State.raise_follows, State.setFlag_follows, State.wr64_follows, follows_ite, h, followsO_next]

theorem execInitialisingScrubDone_follows {s0 s : State} (h : Follows s0 s) : FollowsO s0 (execInitialisingScrubDone s) := by
  simp +contextual (maxDischargeDepth := 100) only [execInitialisingScrubDone, State.beginHold_follows, State.fput_follows, State.hbmMod_follows,
      State.raise_follows, State.releaseHold_follows, State.showHeld_follows, State.zeroArchive_follows, follows_ite, h, followsO_next]

theorem execRateChange_follows {s0 s : State} (h : Follows s0 s) (v : Word) : FollowsO s0 (execRateChange v s) := by
  simp +contextual (maxDischargeDepth := 100) only [execRateChange, State.beginHold_follows, State.fput_follows, State.hbmMod_follows,
      follows_ite, h, followsO_next]

theorem execRateChanged_follows {s0 s : State} (h : Follows s0 s) : FollowsO s0 (execRateChanged s) := by
  simp +contextual (maxDischargeDepth := 100) only [execRateChanged, State.beginHold_follows, State.fput_follows, State.hbmMod_follows,
      State.raise_follows, State.releaseHold_follows, State.showTrain_follows, follows_ite, h, followsO_next]

theorem State.irqMod_follows {s0 s : State} (h : Follows s0 s) (f : IrqSt → IrqSt) : Follows s0 (State.irqMod s f) := by
  simp +contextual (maxDischargeDepth := 100) only [State.irqMod, follows_mk, h]

theorem State.mpMod_follows {s0 s : State} (h : Follows s0 s) (p : Nat) (f : MaceSt → MaceSt) : Follows s0 (State.mpMod s p f) := by
  simp +contextual (maxDischargeDepth := 100) only [State.mpMod, follows_mk, h]

theorem State.showVec_follows {s0 s : State} (h : Follows s0 s) (v : Nat) : Follows s0 (State.showVec s v) := by
  simp +contextual (maxDischargeDepth := 100) only [State.showVec, State.setFlag_follows, h]

theorem State.showSource_follows {s0 s : State} (h : Follows s0 s) (k : Nat) : Follows s0 (State.showSource s k) := by
  simp +contextual (maxDischargeDepth := 100) only [State.showSource, State.setFlag_follows, follows_ite, h]

theorem State.irqSet_follows {s0 s : State} (h : Follows s0 s) (k t st : Nat) : Follows s0 (State.irqSet s k t st) := by
  simp +contextual (maxDischargeDepth := 100) only [State.irqSet, State.doIf_follows, State.irqMod_follows, State.showSource_follows,
      State.showVec_follows, h, implies_true]

theorem State.sendVec_follows {s0 s : State} (h : Follows s0 s) (v : Nat) : Follows s0 (State.sendVec s v) := by
  simp +contextual (maxDischargeDepth := 100) only [State.sendVec, State.count_follows, State.emit_follows, State.forEach_follows,
      State.irqSet_follows, follows_ite, h, implies_true]

theorem State.signalPme_follows {s0 s : State} (h : Follows s0 s) : Follows s0 (State.signalPme s) := by
  simp +contextual (maxDischargeDepth := 100) only [State.signalPme, State.count_follows, State.doIf_follows, State.emit_follows,
      State.raise_follows, follows_mk, h, implies_true]

theorem State.vecRises_follows {s0 s : State} (h : Follows s0 s) (v : Nat) (before : Bool) : Follows s0 (State.vecRises s v before) := by
  simp +contextual (maxDischargeDepth := 100) only [State.vecRises, State.sendVec_follows, State.signalPme_follows, follows_ite, h]

theorem State.irqOffer_follows {s0 s : State} (h : Follows s0 s) (k t : Nat) (before : Bool) : Follows s0 (State.irqOffer s k t before) := by
  unfold State.irqOffer
  repeat' split
  all_goals simp +contextual (maxDischargeDepth := 100) only [State.count_follows, State.doIf_follows, State.raise_follows,
      State.vecRises_follows, h, implies_true]

theorem State.unhold_follows {s0 s : State} (h : Follows s0 s) (keys : List Nat) : Follows s0 (State.unhold s keys) := by
  simp +contextual (maxDischargeDepth := 100) only [State.unhold, State.forEach_follows, State.irqMod_follows, State.showVec_follows,
      State.vecRises_follows, h, implies_true]

theorem State.releaseGroup_follows {s0 s : State} (h : Follows s0 s) (g : Nat) : Follows s0 (State.releaseGroup s g) := by
  simp +contextual (maxDischargeDepth := 100) only [State.releaseGroup, State.count_follows, State.unhold_follows, follows_ite, h]

theorem State.becomePending_follows {s0 s : State} (h : Follows s0 s) (k t : Nat) : Follows s0 (State.becomePending s k t) := by
  simp +contextual (maxDischargeDepth := 100) only [State.becomePending, State.count_follows, State.irqMod_follows, State.irqOffer_follows,
      State.irqSet_follows, State.raiseIf_follows, State.releaseGroup_follows, follows_ite, h]

theorem State.irqPend_follows {s0 s : State} (h : Follows s0 s) (k t : Nat) : Follows s0 (State.irqPend s k t) := by
  unfold State.irqPend
  split <;> simp +contextual (maxDischargeDepth := 100) only [State.becomePending_follows, State.irqSet_follows, h]

theorem State.irqComplete_follows {s0 s : State} (h : Follows s0 s) (k t : Nat) : Follows s0 (State.irqComplete s k t) := by
  unfold State.irqComplete
  split <;> simp +contextual (maxDischargeDepth := 100) only [State.becomePending_follows, State.irqSet_follows, follows_ite, h]

theorem State.becomeIdle_follows {s0 s : State} (h : Follows s0 s) (ts : List Nat) : Follows s0 (State.becomeIdle s ts) := by
  simp +contextual (maxDischargeDepth := 100) only [State.becomeIdle, State.countBy_follows, State.unhold_follows, h]

theorem State.showIdle_follows {s0 s : State} (h : Follows s0 s) (c : Nat) : Follows s0 (State.showIdle s c) := by
  simp +contextual (maxDischargeDepth := 100) only [State.showIdle, State.becomeIdle_follows, State.doIf_follows, State.fput_follows, h,
      implies_true]

theorem State.reroute_follows {s0 s : State} (h : Follows s0 s) (k : Nat) (f : State → State) (hf : ∀ u, Follows s0 u → Follows s0 (f u)) :
    Follows s0 (State.reroute s k f) := by
  simp +contextual (maxDischargeDepth := 100) only [State.reroute, State.forEach_follows, State.irqPend_follows, State.irqSet_follows,
      State.sendVec_follows, State.showVec_follows, h, implies_true, hf]

theorem State.pushFrame_follows {s0 s : State} (h : Follows s0 s) (c : Nat) : Follows s0 (State.pushFrame s c) := by
  simp +contextual (maxDischargeDepth := 100) only [State.pushFrame, State.raise_follows, State.stBytes_follows, h]

theorem State.popFrame_follows {s0 s : State} (h : Follows s0 s) (c : Nat) : Follows s0 (State.popFrame s c) := by
  simp +contextual (maxDischargeDepth := 100) only [State.popFrame, State.fput_follows, State.mpMod_follows, h]

theorem State.enterNormal_follows {s0 s : State} (h : Follows s0 s) (c : Nat) (e : Nat × Nat) : Follows s0 (State.enterNormal s c e) := by
  simp +contextual (maxDischargeDepth := 100) only [State.enterNormal, State.count_follows, State.fput_follows, State.irqSet_follows,
      State.mpMod_follows, State.raise_follows, State.showIdle_follows, h]

theorem State.enterFast_follows {s0 s : State} (h : Follows s0 s) (c : Nat) (e : Nat × Nat) : Follows s0 (State.enterFast s c e) := by
  simp +contextual (maxDischargeDepth := 100) only [State.enterFast, State.count_follows, State.fput_follows, State.irqSet_follows,
      State.mpMod_follows, State.raise_follows, State.showIdle_follows, h]

theorem State.setExit_follows {s0 s : State} (h : Follows s0 s) (c : Nat) (on : Bool) : Follows s0 (State.setExit s c on) := by
  simp +contextual (maxDischargeDepth := 100) only [State.setExit, State.irqMod_follows, h]

theorem State.chainOrExit_follows {s0 s : State} (h : Follows s0 s) (c : Nat) : Follows s0 (State.chainOrExit s c) := by
  unfold State.chainOrExit
  repeat' split
  all_goals simp +contextual (maxDischargeDepth := 100) only [State.enterNormal_follows, State.setExit_follows, h]

theorem State.returnHandler_follows {s0 s : State} (h : Follows s0 s) (c : Nat) : Follows s0 (State.returnHandler s c) := by
  simp +contextual (maxDischargeDepth := 100) only [State.returnHandler, State.chainOrExit_follows, State.forEach_follows, State.fput_follows,
      State.irqComplete_follows, State.mpMod_follows, follows_ite, h, implies_true]

theorem State.completeKeys_follows {s0 s : State} (h : Follows s0 s) (keys : List Nat) : Follows s0 (State.completeKeys s keys) := by
  simp +contextual (maxDischargeDepth := 100) only [State.completeKeys, State.forEach_follows, State.irqComplete_follows, h, implies_true]

theorem execSourceRise_follows {s0 s : State} (h : Follows s0 s) (k : Fin 656) : FollowsO s0 (execSourceRise k s) := by
  simp +contextual (maxDischargeDepth := 100) only [execSourceRise, State.forEach_follows, State.irqMod_follows, State.irqPend_follows,
      follows_ite, h, implies_true, followsO_next]

theorem execSourceFall_follows {s0 s : State} (h : Follows s0 s) (k : Fin 656) : FollowsO s0 (execSourceFall k s) := by
  simp +contextual (maxDischargeDepth := 100) only [execSourceFall, State.forEach_follows, State.irqMod_follows, State.irqSet_follows,
      follows_ite, h, implies_true, followsO_next]

theorem execModerationRelease_follows {s0 s : State} (h : Follows s0 s) (g : Fin 12) : FollowsO s0 (execModerationRelease g s) := by
  simp +contextual (maxDischargeDepth := 100) only [execModerationRelease, State.releaseGroup_follows, follows_ite, h, followsO_next]

theorem execHostAck_follows {s0 s : State} (h : Follows s0 s) (v : Fin 256) : FollowsO s0 (execHostAck v s) := by
  simp +contextual (maxDischargeDepth := 100) only [execHostAck, State.forEach_follows, State.irqComplete_follows, State.sendVec_follows,
      State.showVec_follows, h, implies_true, followsO_next]

theorem execMsixUnmask_follows {s0 s : State} (h : Follows s0 s) (v : Option (Fin 256)) : FollowsO s0 (execMsixUnmask v s) := by
  unfold execMsixUnmask
  split <;> simp +contextual (maxDischargeDepth := 100) only [State.forEach_follows, State.fput_follows, State.sendVec_follows, h, implies_true,
      followsO_next]

theorem execPcieDstateChange_follows {s0 s : State} (h : Follows s0 s) (d : Fin 3) (bme mse msix fmask pmeEn : Bool) :
    FollowsO s0 (execPcieDstateChange d bme mse msix fmask pmeEn s) := by
  simp +contextual (maxDischargeDepth := 100) only [execPcieDstateChange, State.becomeIdle_follows, State.doIf_follows, State.forEach_follows,
      State.fput_follows, State.raiseIf_follows, State.sendVec_follows, follows_mk, follows_ite, h, implies_true, followsO_next]

theorem execFastEntry_follows {s0 s : State} (h : Follows s0 s) (c : Fin 2) (during : Bool) : FollowsO s0 (execFastEntry c during s) := by
  unfold execFastEntry
  split <;> simp +contextual (maxDischargeDepth := 100) only [State.doIf_follows, State.enterFast_follows, State.pushFrame_follows,
      State.setExit_follows, follows_ite, h, implies_true, followsO_next]

theorem execNormalEntry_follows {s0 s : State} (h : Follows s0 s) (c : Fin 2) : FollowsO s0 (execNormalEntry c s) := by
  unfold execNormalEntry
  split <;> simp +contextual (maxDischargeDepth := 100) only [State.doIf_follows, State.enterNormal_follows, State.pushFrame_follows, follows_ite,
      h, implies_true, followsO_next]

theorem execNormalExit_follows {s0 s : State} (h : Follows s0 s) (c : Fin 2) : FollowsO s0 (execNormalExit c s) := by
  simp +contextual (maxDischargeDepth := 100) only [execNormalExit, State.popFrame_follows, State.setExit_follows, follows_ite, h, followsO_next]

theorem State.showGood_follows {s0 s : State} (h : Follows s0 s) (c : Nat) : Follows s0 (State.showGood s c) := by
  simp +contextual (maxDischargeDepth := 100) only [State.showGood, State.fput_follows, State.raiseIf_follows, h]

theorem State.setRole_follows {s0 s : State} (h : Follows s0 s) (c r : Nat) : Follows s0 (State.setRole s c r) := by
  simp +contextual (maxDischargeDepth := 100) only [State.setRole, State.fput_follows, State.showGood_follows, h]

theorem State.loadLease_follows {s0 s : State} (h : Follows s0 s) : Follows s0 (State.loadLease s) := by
  simp +contextual (maxDischargeDepth := 100) only [State.loadLease, State.wrN_follows, h]

theorem State.giveLease_follows {s0 s : State} (h : Follows s0 s) (c : Nat) : Follows s0 (State.giveLease s c) := by
  simp +contextual (maxDischargeDepth := 100) only [State.giveLease, State.becomeIdle_follows, State.doIf_follows, State.fput_follows,
      State.loadLease_follows, State.setRole_follows, State.wrN_follows, h, implies_true]

theorem State.vacate_follows {s0 s : State} (h : Follows s0 s) : Follows s0 (State.vacate s) := by
  simp +contextual (maxDischargeDepth := 100) only [State.vacate, State.clr_follows, State.fput_follows, State.wrN_follows, h]

theorem State.resetCur_follows {s0 s : State} (h : Follows s0 s) (c : Nat) : Follows s0 (State.resetCur s c) := by
  simp +contextual (maxDischargeDepth := 100) only [State.resetCur, State.mpMod_follows, State.setExit_follows, State.showIdle_follows,
      State.wr_follows, h]

theorem State.enterHeld_follows {s0 s : State} (h : Follows s0 s) (c : Nat) (active : Bool) : Follows s0 (State.enterHeld s c active) := by
  simp +contextual (maxDischargeDepth := 100) only [State.enterHeld, State.fput_follows, State.mbStale_follows, State.mbVoid_follows,
      State.resetCur_follows, State.setRole_follows, h]

theorem State.enterBoot_follows {s0 s : State} (h : Follows s0 s) (c : Nat) (active : Bool) : Follows s0 (State.enterBoot s c active) := by
  simp +contextual (maxDischargeDepth := 100) only [State.enterBoot, State.fput_follows, State.mbStale_follows, State.mbVoid_follows,
      State.resetCur_follows, State.setRole_follows, h]

theorem State.noteTransfer_follows {s0 s : State} (h : Follows s0 s) : Follows s0 (State.noteTransfer s) := by
  simp +contextual (maxDischargeDepth := 100) only [State.noteTransfer, State.wr64_follows, h]

theorem State.leaveLease_follows {s0 s : State} (h : Follows s0 s) (c : Nat) : Follows s0 (State.leaveLease s c) := by
  simp +contextual (maxDischargeDepth := 100) only [State.leaveLease, State.completeKeys_follows, State.count_follows, State.enterHeld_follows,
      State.giveLease_follows, State.noteTransfer_follows, State.raiseIf_follows, State.raise_follows, State.vacate_follows, follows_mk,
      follows_ite, h]

theorem State.renewBad_follows {s0 s : State} (h : Follows s0 s) : Follows s0 (State.renewBad s) := by
  simp +contextual (maxDischargeDepth := 100) only [State.renewBad, State.count_follows, State.raise_follows, h]

theorem execLeaseRenew_follows {s0 s : State} (h : Follows s0 s) (m : Fin 32) (v : Word) : FollowsO s0 (execLeaseRenew m v s) := by
  simp +contextual (maxDischargeDepth := 100) only [execLeaseRenew, State.count_follows, State.loadLease_follows, State.raise_follows,
      State.renewBad_follows, follows_ite, h, followsO_next]

theorem execLeaseClaim_follows {s0 s : State} (h : Follows s0 s) (m : Fin 32) (v : Word) : FollowsO s0 (execLeaseClaim m v s) := by
  simp +contextual (maxDischargeDepth := 100) only [execLeaseClaim, State.giveLease_follows, State.raise_follows, State.renewBad_follows,
      follows_ite, h, followsO_next]

theorem execLeaseExpiry_follows {s0 s : State} (h : Follows s0 s) : FollowsO s0 (execLeaseExpiry s) := by
  unfold execLeaseExpiry
  split <;> simp +contextual (maxDischargeDepth := 100) only [State.leaveLease_follows, follows_ite, h, followsO_next]

theorem execYield_follows {s0 s : State} (h : Follows s0 s) (m : Fin 32) : FollowsO s0 (execYield m s) := by
  simp +contextual (maxDischargeDepth := 100) only [execYield, State.completeKeys_follows, State.enterBoot_follows, State.giveLease_follows,
      State.noteTransfer_follows, State.raise_follows, follows_ite, h, followsO_next]

theorem execCuratorHold_follows {s0 s : State} (h : Follows s0 s) (c : Fin 2) : FollowsO s0 (execCuratorHold c s) := by
  simp +contextual (maxDischargeDepth := 100) only [execCuratorHold, State.completeKeys_follows, State.enterHeld_follows,
      State.leaveLease_follows, follows_ite, h, followsO_next]

theorem execCuratorRelease_follows {s0 s : State} (h : Follows s0 s) (c : Fin 2) : FollowsO s0 (execCuratorRelease c s) := by
  simp +contextual (maxDischargeDepth := 100) only [execCuratorRelease, State.enterBoot_follows, follows_ite, h, followsO_next]

theorem execFailoverDone_follows {s0 s : State} (h : Follows s0 s) (m : Fin 32) : FollowsO s0 (execFailoverDone m s) := by
  simp +contextual (maxDischargeDepth := 100) only [execFailoverDone, State.fput_follows, State.raise_follows, follows_ite, h, followsO_next]

theorem execFailoverSlow_follows {s0 s : State} (h : Follows s0 s) : FollowsO s0 (execFailoverSlow s) := by
  simp +contextual (maxDischargeDepth := 100) only [execFailoverSlow, State.raiseIf_follows, h, followsO_next]

theorem execHealthWrite_follows {s0 s : State} (h : Follows s0 s) (m : Fin 32) (c : Fin 2) (v : Word) : FollowsO s0 (execHealthWrite m c v s) := by
  simp +contextual (maxDischargeDepth := 100) only [execHealthWrite, State.clr_follows, State.setRole_follows, State.showGood_follows,
      State.wr_follows, follows_mk, follows_ite, h, followsO_next]

theorem execHealthBad_follows {s0 s : State} (h : Follows s0 s) (c : Fin 2) : FollowsO s0 (execHealthBad c s) := by
  simp +contextual (maxDischargeDepth := 100) only [execHealthBad, State.showGood_follows, follows_ite, h, followsO_next]

theorem State.ageTick_follows {s0 s : State} (h : Follows s0 s) (c : Nat) : Follows s0 (State.ageTick s c) := by
  simp +contextual (maxDischargeDepth := 100) only [State.ageTick, State.wrN_follows, follows_mk, follows_ite, h]

theorem State.coreTick_follows {s0 s : State} (h : Follows s0 s) : Follows s0 (State.coreTick s) := by
  simp +contextual (maxDischargeDepth := 100) only [State.coreTick, State.ageTick_follows, State.wrN_follows, follows_mk, follows_ite, h]

theorem execTcmUe_follows {s0 s : State} (h : Follows s0 s) (c : Fin 2) : FollowsO s0 (execTcmUe c s) := by
  simp +contextual (maxDischargeDepth := 100) only [execTcmUe, State.leaveLease_follows, State.raise_follows, State.showGood_follows, follows_ite,
      h, followsO_next]

theorem execCkptWrite_follows {s0 s : State} (h : Follows s0 s) (m : Fin 32) (v : Word) : FollowsO s0 (execCkptWrite m v s) := by
  simp +contextual (maxDischargeDepth := 100) only [execCkptWrite, State.wr_follows, follows_ite, h, followsO_next]

theorem State.showClove_follows {s0 s : State} (h : Follows s0 s) (e : Nat) : Follows s0 (State.showClove s e) := by
  simp +contextual (maxDischargeDepth := 100) only [State.showClove, State.fput_follows, h]

theorem State.cloveOff_follows {s0 s : State} (h : Follows s0 s) (e : Nat) : Follows s0 (State.cloveOff s e) := by
  simp +contextual (maxDischargeDepth := 100) only [State.cloveOff, State.fput_follows, State.mbResetX_follows, State.mpMod_follows,
      State.showClove_follows, h]

theorem State.cloveStart_follows {s0 s : State} (h : Follows s0 s) (e si : Nat) : Follows s0 (State.cloveStart s e si) := by
  simp +contextual (maxDischargeDepth := 100) only [State.cloveStart, State.fput_follows, State.mpMod_follows, State.showClove_follows, h]

theorem State.cloveStop_follows {s0 s : State} (h : Follows s0 s) (e st : Nat) : Follows s0 (State.cloveStop s e st) := by
  simp +contextual (maxDischargeDepth := 100) only [State.cloveStop, State.fput_follows, State.mpMod_follows, State.raise_follows,
      State.showClove_follows, State.wr_follows, h]

theorem State.countCycles_follows {s0 s : State} (h : Follows s0 s) (e k n : Nat) : Follows s0 (State.countCycles s e k n) := by
  simp +contextual (maxDischargeDepth := 100) only [State.countCycles, State.countBy_follows, follows_mk, h]

theorem State.cloveTick_follows {s0 s : State} (h : Follows s0 s) : Follows s0 (State.cloveTick s) := by
  simp +contextual (maxDischargeDepth := 100) only [State.cloveTick, State.countCycles_follows, State.doIf_follows, State.forEach_follows,
      follows_ite, h, implies_true]

theorem State.cloveLoad_follows {s0 s : State} (h : Follows s0 s) (e : Nat) (is : List (Nat × Nat × List Byte)) :
    Follows s0 (State.cloveLoad s e is) := by
  unfold State.cloveLoad
  split <;> simp +contextual (maxDischargeDepth := 100) only [State.forEach_follows, State.fput_follows, State.raise_follows,
      State.stBytes_follows, State.wrN_follows, follows_mk_filter, h, implies_true]

theorem State.cloveRenew_follows {s0 s : State} (h : Follows s0 s) (e : Nat) (is : List (Nat × Nat × List Byte)) :
    Follows s0 (State.cloveRenew s e is) := by
  simp +contextual (maxDischargeDepth := 100) only [State.cloveRenew, State.cloveLoad_follows, State.cloveOff_follows, State.fput_follows,
      State.mpMod_follows, State.raise_follows, follows_ite, h]

theorem State.cloveReload_follows {s0 s : State} (h : Follows s0 s) (old new : List Byte) (aOld aNew : Nat) :
    Follows s0 (State.cloveReload s old new aOld aNew) := by
  simp +contextual (maxDischargeDepth := 100) only [State.cloveReload, State.cloveRenew_follows, State.forEach_follows, h, implies_true]

theorem State.cloveMovesDone_follows {s0 s : State} (h : Follows s0 s) (e : Nat) : Follows s0 (State.cloveMovesDone s e) := by
  simp +contextual (maxDischargeDepth := 100) only [State.cloveMovesDone, State.cloveOff_follows, State.cloveRenew_follows, follows_ite, h]

theorem State.cloveLoaded_follows {s0 s : State} (h : Follows s0 s) (x : Nat) : Follows s0 (State.cloveLoaded s x) := by
  simp +contextual (maxDischargeDepth := 100) only [State.cloveLoaded, State.cloveStart_follows, State.forEach_follows, State.fput_follows, h,
      implies_true]

theorem execCloveRun_follows {s0 s : State} (h : Follows s0 s) (e : Fin 16) : FollowsO s0 (execCloveRun e s) := by
  unfold execCloveRun
  repeat' split
  all_goals simp +contextual (maxDischargeDepth := 100) only [State.cloveStart_follows, State.fput_follows, State.showClove_follows, h,
      followsO_next]

theorem execCloveHalt_follows {s0 s : State} (h : Follows s0 s) (e : Fin 16) : FollowsO s0 (execCloveHalt e s) := by
  simp +contextual (maxDischargeDepth := 100) only [execCloveHalt, State.cloveStop_follows, follows_ite, h, followsO_next]

theorem execCloveReset_follows {s0 s : State} (h : Follows s0 s) (e : Fin 16) : FollowsO s0 (execCloveReset e s) := by
  simp +contextual (maxDischargeDepth := 100) only [execCloveReset, State.cloveOff_follows, State.mpMod_follows, State.raise_follows, follows_ite,
      h, followsO_next]

theorem execKick_follows {s0 s : State} (h : Follows s0 s) (e : Fin 16) : FollowsO s0 (execKick e s) := by
  simp +contextual (maxDischargeDepth := 100) only [execKick, State.mpMod_follows, follows_ite, h, followsO_next]

theorem State.snapRequest_follows {s0 s : State} (h : Follows s0 s) (req : Nat) (fromChain : Bool) :
    Follows s0 (State.snapRequest s req fromChain).1 := by
  simp +contextual (maxDischargeDepth := 100) only [State.snapRequest, State.fput_follows, State.raise_follows, State.wr64_follows, follows_mk, h,
      follows_ite1]

theorem execSnapshotRequest_follows {s0 s : State} (h : Follows s0 s) (next : Bool) : FollowsO s0 (execSnapshotRequest next s) := by
  simp +contextual (maxDischargeDepth := 100) only [execSnapshotRequest, State.fput_follows, State.snapRequest_follows, h, followsO_next]

end Sys2Proof.Machine
end

