-- ==== Sys2Proof/Laws/FollowsTime.lean ====
section
/-!
SUPPORT. Laws/FollowsTime.lean: what every operation and meaning can do, for time, its ticks, the chain and the lane ports: one lemma
each, named after it. A state transformer keeps the registers and memory in canonical form, does not touch the queue, only adds outputs, and uses
no free value again.
-/
namespace Sys2Proof.Machine

theorem squelchNote_follows {s0 s1 : State} (s : State) (h : Follows s0 s1) : Follows s0 (squelchNote s s1) := by
  simp only [squelchNote, State.raiseIf_follows, follows_mk, h]

theorem State.setIncr_follows {s0 s : State} (h : Follows s0 s) (e : Int) : Follows s0 (State.setIncr s e) := by
  simp +contextual (maxDischargeDepth := 100) only [State.setIncr, State.wrN_follows, h]

theorem State.slewStop_follows {s0 s : State} (h : Follows s0 s) : Follows s0 (State.slewStop s) := by
  simp +contextual (maxDischargeDepth := 100) only [State.slewStop, State.fput_follows, State.setIncr_follows, follows_mk, h]

theorem State.slewStart_follows {s0 s : State} (h : Follows s0 s) (off : Int) : Follows s0 (State.slewStart s off) := by
  simp +contextual (maxDischargeDepth := 100) only [State.slewStart, State.fput_follows, State.raiseIf_follows, State.setIncr_follows,
      State.slewStop_follows, follows_mk, follows_ite, h]

theorem State.steer_follows {s0 s : State} (h : Follows s0 s) : Follows s0 (State.steer s) := by
  simp +contextual (maxDischargeDepth := 100) only [State.steer, State.raiseIf_follows, follows_mk_fresh, h]

theorem State.timeState_follows {s0 s : State} (h : Follows s0 s) (st : Nat) : Follows s0 (State.timeState s st) := by
  simp +contextual (maxDischargeDepth := 100) only [State.timeState, State.fput_follows, State.noteQuality_follows, State.raiseIf_follows,
      squelchNote_follows, h]

theorem State.showSources_follows {s0 s : State} (h : Follows s0 s) : Follows s0 (State.showSources s) := by
  simp +contextual (maxDischargeDepth := 100) only [State.showSources, State.forEach_follows, State.fput_follows, h, implies_true]

theorem State.activate_follows {s0 s : State} (h : Follows s0 s) (n : Nat) : Follows s0 (State.activate s n) := by
  simp +contextual (maxDischargeDepth := 100) only [State.activate, State.fput_follows, State.raiseIf_follows, h]

theorem State.acqStart_follows {s0 s : State} (h : Follows s0 s) : Follows s0 (State.acqStart s) := by
  simp +contextual (maxDischargeDepth := 100) only [State.acqStart, State.slewStop_follows, follows_mk, h]

theorem State.enterFreeRun_follows {s0 s : State} (h : Follows s0 s) : Follows s0 (State.enterFreeRun s) := by
  simp +contextual (maxDischargeDepth := 100) only [State.enterFreeRun, State.slewStop_follows, State.timeState_follows, follows_mk, h]

theorem State.enterHoldover_follows {s0 s : State} (h : Follows s0 s) : Follows s0 (State.enterHoldover s) := by
  simp +contextual (maxDischargeDepth := 100) only [State.enterHoldover, State.clr_follows, State.slewStop_follows, State.timeState_follows,
      follows_mk_fresh, h]

theorem State.enterLocked_follows {s0 s : State} (h : Follows s0 s) : Follows s0 (State.enterLocked s) := by
  simp +contextual (maxDischargeDepth := 100) only [State.enterLocked, State.clr_follows, State.timeState_follows, follows_mk, h]

theorem State.trySwitch_follows {s0 s : State} (h : Follows s0 s) (c : Nat) : Follows s0 (State.trySwitch s c) := by
  simp +contextual (maxDischargeDepth := 100) only [State.trySwitch, State.activate_follows, State.enterHoldover_follows,
      State.enterLocked_follows, State.noteQuality_follows, State.raise_follows, State.slewStart_follows, follows_mk, follows_ite, h]

theorem State.reselect_follows {s0 s : State} (h : Follows s0 s) (revert : Bool) : Follows s0 (State.reselect s revert) := by
  unfold State.reselect
  repeat' split
  all_goals simp +contextual (maxDischargeDepth := 100) only [State.acqStart_follows, State.activate_follows, State.enterHoldover_follows,
      State.showSources_follows, State.timeState_follows, State.trySwitch_follows, follows_mk, follows_ite, h]

theorem State.showChainTime_follows {s0 s : State} (h : Follows s0 s) : Follows s0 (State.showChainTime s) := by
  simp +contextual (maxDischargeDepth := 100) only [State.showChainTime, State.fput_follows, follows_ite, h]

theorem State.disqualify_follows {s0 s : State} (h : Follows s0 s) (n : Nat) (los : Bool) : Follows s0 (State.disqualify s n los) := by
  simp +contextual (maxDischargeDepth := 100) only [State.disqualify, State.fput_follows, State.raiseIf_follows, State.reselect_follows,
      State.showChainTime_follows, follows_mk, follows_ite, h]

theorem State.lose_follows {s0 s : State} (h : Follows s0 s) (n : Nat) : Follows s0 (State.lose s n) := by
  simp +contextual (maxDischargeDepth := 100) only [State.lose, State.disqualify_follows, follows_ite, h]

theorem State.showOffset_follows {s0 s : State} (h : Follows s0 s) (n : Nat) (off : Int) : Follows s0 (State.showOffset s n off) := by
  simp +contextual (maxDischargeDepth := 100) only [State.showOffset, State.wrN_follows, State.wr_follows, follows_mk_fresh, follows_ite, h]

theorem State.takeHit_follows {s0 s : State} (h : Follows s0 s) (n : Nat) : Follows s0 (State.takeHit s n) := by
  simp +contextual (maxDischargeDepth := 100) only [State.takeHit, State.disqualify_follows, State.fput_follows, follows_ite, h]

theorem State.acqStep_follows {s0 s : State} (h : Follows s0 s) (n : Nat) (off edge : Int) : Follows s0 (State.acqStep s n off edge) := by
  simp +contextual (maxDischargeDepth := 100) only [State.acqStep, State.fput_follows, State.raise_follows, follows_mk, follows_ite, h]

theorem State.stepTick_follows {s0 s : State} (h : Follows s0 s) : Follows s0 (State.stepTick s) := by
  unfold State.stepTick
  split <;> simp +contextual (maxDischargeDepth := 100) only [State.noteQuality_follows, State.raise_follows, follows_mk, h]

theorem State.activeSample_follows {s0 s : State} (h : Follows s0 s) (n : Nat) (off edge : Int) : Follows s0 (State.activeSample s n off edge) := by
  unfold State.activeSample
  split <;> simp +contextual (maxDischargeDepth := 100) only [State.acqStep_follows, State.enterLocked_follows, State.steer_follows, follows_mk,
      follows_ite, h]

theorem State.offsetSample_follows {s0 s : State} (h : Follows s0 s) (n : Nat) (off edge : Int) : Follows s0 (State.offsetSample s n off edge) := by
  simp +contextual (maxDischargeDepth := 100) only [State.offsetSample, State.activeSample_follows, State.fput_follows, State.showOffset_follows,
      State.takeHit_follows, follows_mk, follows_ite, h]

theorem execTimeNowRead_follows {s0 s : State} (h : Follows s0 s) : FollowsO s0 (execTimeNowRead s) := by
  simp +contextual (maxDischargeDepth := 100) only [execTimeNowRead, State.emit_follows, State.wrN_follows, h, followsO_next]

theorem execSiNowRead_follows {s0 s : State} (h : Follows s0 s) : FollowsO s0 (execSiNowRead s) := by
  simp +contextual (maxDischargeDepth := 100) only [execSiNowRead, State.emit_follows, State.wr64_follows, h, followsO_next]

theorem execSiExpectRead_follows {s0 s : State} (h : Follows s0 s) : FollowsO s0 (execSiExpectRead s) := by
  simp +contextual (maxDischargeDepth := 100) only [execSiExpectRead, State.emit_follows, State.wr64_follows, h, followsO_next]

theorem State.slewDone_follows {s0 s : State} (h : Follows s0 s) : Follows s0 (State.slewDone s) := by
  simp +contextual (maxDischargeDepth := 100) only [State.slewDone, State.noteQuality_follows, State.slewStop_follows, follows_ite, h]

theorem execSlewEnd_follows {s0 s : State} (h : Follows s0 s) : FollowsO s0 (execSlewEnd s) := by
  simp +contextual (maxDischargeDepth := 100) only [execSlewEnd, State.slewDone_follows, h, followsO_next]

theorem execReacquire_follows {s0 s : State} (h : Follows s0 s) : FollowsO s0 (execReacquire s) := by
  unfold execReacquire
  split <;> simp +contextual (maxDischargeDepth := 100) only [State.acqStart_follows, State.activate_follows, State.clr_follows,
      State.fput_follows, State.showSources_follows, State.timeState_follows, h, followsO_next]

theorem execNextSecWrite_follows {s0 s : State} (h : Follows s0 s) (v : Word) : FollowsO s0 (execNextSecWrite v s) := by
  simp +contextual (maxDischargeDepth := 100) only [execNextSecWrite, State.fput_follows, State.wr_follows, h, followsO_next]

theorem execPpsEdge_follows {s0 s : State} (h : Follows s0 s) (n : Fin 2) (e : PpsEdge) :
    FollowsO s0 (execPpsEdge n e s) := by
  simp +contextual (maxDischargeDepth := 100) only [execPpsEdge, State.emit_follows, State.offsetSample_follows, follows_ite, h, followsO_next]

theorem execVrefOffset_follows {s0 s : State} (h : Follows s0 s) (v : Word) : FollowsO s0 (execVrefOffset v s) := by
  simp +contextual (maxDischargeDepth := 100) only [execVrefOffset, State.offsetSample_follows, h, followsO_next]

theorem execSourceClockLoss_follows {s0 s : State} (h : Follows s0 s) (n : Fin 2) : FollowsO s0 (execSourceClockLoss n s) := by
  simp +contextual (maxDischargeDepth := 100) only [execSourceClockLoss, State.lose_follows, h, followsO_next]

theorem execPpsTimeout_follows {s0 s : State} (h : Follows s0 s) (n : Fin 2) : FollowsO s0 (execPpsTimeout n s) := by
  simp +contextual (maxDischargeDepth := 100) only [execPpsTimeout, State.lose_follows, h, followsO_next]

theorem execVrefTimeout_follows {s0 s : State} (h : Follows s0 s) (n : Fin 2) : FollowsO s0 (execVrefTimeout n s) := by
  simp +contextual (maxDischargeDepth := 100) only [execVrefTimeout, State.lose_follows, h, followsO_next]

theorem execQualGain_follows {s0 s : State} (h : Follows s0 s) (n : Fin 4) : FollowsO s0 (execQualGain n s) := by
  simp +contextual (maxDischargeDepth := 100) only [execQualGain, State.fput_follows, State.raise_follows, State.reselect_follows,
      State.showChainTime_follows, follows_ite, h, followsO_next]

theorem execQualWindowEnd_follows {s0 s : State} (h : Follows s0 s) (n : Fin 4) : FollowsO s0 (execQualWindowEnd n s) := by
  simp +contextual (maxDischargeDepth := 100) only [execQualWindowEnd, State.fput_follows, h, followsO_next]

theorem execRevertWait_follows {s0 s : State} (h : Follows s0 s) : FollowsO s0 (execRevertWait s) := by
  unfold execRevertWait
  split <;> simp +contextual (maxDischargeDepth := 100) only [State.reselect_follows, follows_ite, h, followsO_next]

theorem execFrequencyLockHeld_follows {s0 s : State} (h : Follows s0 s) : FollowsO s0 (execFrequencyLockHeld s) := by
  simp +contextual (maxDischargeDepth := 100) only [execFrequencyLockHeld, follows_mk, follows_ite, h, followsO_next]

theorem execAcqTimeout_follows {s0 s : State} (h : Follows s0 s) : FollowsO s0 (execAcqTimeout s) := by
  unfold execAcqTimeout
  repeat' split
  all_goals simp +contextual (maxDischargeDepth := 100) only [State.acqStart_follows, State.activate_follows, State.enterFreeRun_follows,
      State.fput_follows, State.noteQuality_follows, State.raise_follows, State.showSources_follows, h, followsO_next]

theorem execHoldLimit_follows {s0 s : State} (h : Follows s0 s) : FollowsO s0 (execHoldLimit s) := by
  simp +contextual (maxDischargeDepth := 100) only [execHoldLimit, State.raise_follows, State.timeState_follows, follows_ite, h, followsO_next]

theorem execPpsOutRise_follows {s0 s : State} (h : Follows s0 s) : FollowsO s0 (execPpsOutRise s) := by
  simp +contextual (maxDischargeDepth := 100) only [execPpsOutRise, State.emit_follows, follows_mk, follows_ite, h, followsO_next]

theorem execPpsOutFall_follows {s0 s : State} (h : Follows s0 s) : FollowsO s0 (execPpsOutFall s) := by
  simp +contextual (maxDischargeDepth := 100) only [execPpsOutFall, follows_mk, follows_ite, h, followsO_next]

theorem idleTick_follows {s0 s : State} (h : Follows s0 s) : Follows s0 (idleTick s) := by
  simp +contextual (maxDischargeDepth := 100) only [idleTick, State.cloveTick_follows, State.coreTick_follows, State.count_follows,
      State.slewDone_follows, State.stepTick_follows, follows_mk, follows_ite, h]

theorem State.judgeChainTime_follows {s0 s : State} (h : Follows s0 s) : Follows s0 (State.judgeChainTime s) := by
  simp +contextual (maxDischargeDepth := 100) only [State.judgeChainTime, State.chMod_follows, State.fput_follows, State.raise_follows,
      follows_ite, h]

theorem execChainOffset_follows {s0 s : State} (h : Follows s0 s) (v : Word) : FollowsO s0 (execChainOffset v s) := by
  simp +contextual (maxDischargeDepth := 100) only [execChainOffset, State.judgeChainTime_follows, State.offsetSample_follows, State.wr_follows,
      h, followsO_next]

theorem State.stamp_follows {s0 s : State} (h : Follows s0 s) (n exchange pos : Nat) : Follows s0 (State.stamp s n exchange pos) := by
  simp +contextual (maxDischargeDepth := 100) only [State.stamp, State.count_follows, State.doIf_follows, State.emit_follows, State.wrN_follows,
      h, implies_true]

theorem State.showRxq_follows {s0 s : State} (h : Follows s0 s) : Follows s0 (State.showRxq s) := by
  simp +contextual (maxDischargeDepth := 100) only [State.showRxq, State.forEach_follows, State.fput_follows, State.wrN_follows, h, implies_true]

theorem State.queueRx_follows {s0 s : State} (h : Follows s0 s) (p : Nat) (m : Msg) : Follows s0 (State.queueRx s p m) := by
  simp +contextual (maxDischargeDepth := 100) only [State.queueRx, State.chMod_follows, State.doIf_follows, State.showRxq_follows, h, implies_true]

theorem execSync_follows {s0 s : State} (h : Follows s0 s) (pos : Fin 4) (b : List Byte) : FollowsO s0 (execSync pos b s) := by
  simp +contextual (maxDischargeDepth := 100) only [execSync, State.queueRx_follows, State.stamp_follows, State.takeMsg_follows, h, implies_true,
      followsO_next]

theorem execSyncFu_follows {s0 s : State} (h : Follows s0 s) (b : List Byte) : FollowsO s0 (execSyncFu b s) := by
  simp +contextual (maxDischargeDepth := 100) only [execSyncFu, State.queueRx_follows, State.takeMsg_follows, h, implies_true, followsO_next]

theorem execDreq_follows {s0 s : State} (h : Follows s0 s) (pos : Fin 4) (b : List Byte) : FollowsO s0 (execDreq pos b s) := by
  simp +contextual (maxDischargeDepth := 100) only [execDreq, State.queueRx_follows, State.stamp_follows, State.takeMsg_follows, h, implies_true,
      followsO_next]

theorem execDresp_follows {s0 s : State} (h : Follows s0 s) (b : List Byte) : FollowsO s0 (execDresp b s) := by
  simp +contextual (maxDischargeDepth := 100) only [execDresp, State.queueRx_follows, State.takeMsg_follows, h, implies_true, followsO_next]

theorem execRxqPop_follows {s0 s : State} (h : Follows s0 s) : FollowsO s0 (execRxqPop s) := by
  simp +contextual (maxDischargeDepth := 100) only [execRxqPop, State.chMod_follows, State.showRxq_follows, h, followsO_next]

theorem State.txLeave_follows {s0 s : State} (h : Follows s0 s) (p : Nat) (b : List Byte) : Follows s0 (State.txLeave s p b) := by
  simp +contextual (maxDischargeDepth := 100) only [State.txLeave, State.chMod_follows, State.fput_follows, State.putMsg_follows, follows_ite, h]

theorem execTxqSend_follows {s0 s : State} (h : Follows s0 s) (p : Fin 2) : FollowsO s0 (execTxqSend p s) := by
  simp +contextual (maxDischargeDepth := 100) only [execTxqSend, State.chMod_follows, State.fput_follows, State.txLeave_follows, follows_ite, h,
      followsO_next]

theorem execStampSend_follows {s0 s : State} (h : Follows s0 s) (pos : Fin 4) : FollowsO s0 (execStampSend pos s) := by
  unfold execStampSend
  split <;> simp +contextual (maxDischargeDepth := 100) only [State.stamp_follows, State.txLeave_follows, follows_ite, h, followsO_next]

theorem State.sendEnumEnd_follows {s0 s : State} (h : Follows s0 s) (count mask cause : Nat) :
    Follows s0 (State.sendEnumEnd s count mask cause) := by
  simp +contextual (maxDischargeDepth := 100) only [State.sendEnumEnd, State.sendTo_follows, h]

theorem State.sendEnumStop_follows {s0 s : State} (h : Follows s0 s) (mask cause : Nat) : Follows s0 (State.sendEnumStop s mask cause) := by
  simp +contextual (maxDischargeDepth := 100) only [State.sendEnumStop, State.sendEnumEnd_follows, State.tick1_follows, h]

theorem State.recordSweep_follows {s0 s : State} (h : Follows s0 s) (count cause addr : Nat) :
    Follows s0 (State.recordSweep s count cause addr) := by
  simp +contextual (maxDischargeDepth := 100) only [State.recordSweep, State.fput_follows, h]

theorem State.startSweep_follows {s0 s : State} (h : Follows s0 s) (sweep : Nat) : Follows s0 (State.startSweep s sweep) := by
  simp +contextual (maxDischargeDepth := 100) only [State.startSweep, State.fput_follows, State.sendLink_follows, h]

theorem execChainEnum_follows {s0 s : State} (h : Follows s0 s) : FollowsO s0 (execChainEnum s) := by
  simp +contextual (maxDischargeDepth := 100) only [execChainEnum, State.startSweep_follows, follows_ite, h, followsO_next]

theorem execChainForce_follows {s0 s : State} (h : Follows s0 s) : FollowsO s0 (execChainForce s) := by
  simp +contextual (maxDischargeDepth := 100) only [execChainForce, State.startSweep_follows, follows_ite, h, followsO_next]

theorem State.takeMask_follows {s0 s : State} (h : Follows s0 s) (mask : Nat) : Follows s0 (State.takeMask s mask) := by
  simp +contextual (maxDischargeDepth := 100) only [State.takeMask, State.fput_follows, State.raiseIf_follows, State.sendTo_follows, h]

theorem execEnumEnd_follows {s0 s : State} (h : Follows s0 s) (b : List Byte) : FollowsO s0 (execEnumEnd b s) := by
  simp +contextual (maxDischargeDepth := 100) only [execEnumEnd, State.doIf_follows, State.fput_follows, State.raise_follows,
      State.recordSweep_follows, State.startSweep_follows, State.takeMask_follows, State.takeMsg_follows, follows_ite, h, implies_true,
      followsO_next]

theorem execEnumTimeout_follows {s0 s : State} (h : Follows s0 s) : FollowsO s0 (execEnumTimeout s) := by
  simp +contextual (maxDischargeDepth := 100) only [execEnumTimeout, State.fput_follows, State.raise_follows, follows_ite, h, followsO_next]

theorem State.enumAccept_follows {s0 s : State} (h : Follows s0 s) (m : Msg) (next : Nat) : Follows s0 (State.enumAccept s m next) := by
  simp +contextual (maxDischargeDepth := 100) only [State.enumAccept, State.chMod_follows, State.forward_follows, State.fput_follows,
      State.sendEnumEnd_follows, State.setAddr_follows, State.wrN_follows, follows_ite, h]

theorem execEnum_follows {s0 s : State} (h : Follows s0 s) (b : List Byte) : FollowsO s0 (execEnum b s) := by
  simp +contextual (maxDischargeDepth := 100) only [execEnum, State.checkAddr_follows, State.enumAccept_follows, State.fput_follows,
      State.helloSync_follows, State.raiseIf_follows, State.raise_follows, State.sendEnumStop_follows, State.takeMsg_follows, follows_ite, h,
      implies_true, followsO_next]

theorem execVersionSet_follows {s0 s : State} (h : Follows s0 s) (b : List Byte) : FollowsO s0 (execVersionSet b s) := by
  simp +contextual (maxDischargeDepth := 100) only [execVersionSet, State.forward_follows, State.fput_follows, State.takeMsg_follows, follows_ite,
      h, implies_true, followsO_next]

theorem execClearAddr_follows {s0 s : State} (h : Follows s0 s) : FollowsO s0 (execClearAddr s) := by
  simp +contextual (maxDischargeDepth := 100) only [execClearAddr, State.dropAddr_follows, State.helloSync_follows, follows_ite, h, followsO_next]

theorem State.portEnterUp_follows {s0 s : State} (h : Follows s0 s) (p : Nat) : Follows s0 (State.portEnterUp s p) := by
  simp +contextual (maxDischargeDepth := 100) only [State.portEnterUp, State.sendHello_follows, State.sendLink_follows, State.setPort_follows,
      follows_ite, h]

theorem State.helloMember_follows {s0 s : State} (h : Follows s0 s) (b : List Byte) : Follows s0 (State.helloMember s b) := by
  simp +contextual (maxDischargeDepth := 100) only [State.helloMember, State.chMod_follows, State.dropAddr_follows, State.fput_follows,
      follows_ite, h]

theorem execHello_follows {s0 s : State} (h : Follows s0 s) (p : Fin 2) (b : List Byte) : FollowsO s0 (execHello p b s) := by
  simp +contextual (maxDischargeDepth := 100) only [execHello, State.chMod_follows, State.checkAddr_follows, State.fput_follows,
      State.helloMember_follows, State.helloSync_follows, State.portEnterUp_follows, State.raise_follows, State.takeMsg_follows, follows_ite, h,
      implies_true, followsO_next]

theorem execHelloSend_follows {s0 s : State} (h : Follows s0 s) (p : Fin 2) : FollowsO s0 (execHelloSend p s) := by
  simp +contextual (maxDischargeDepth := 100) only [execHelloSend, State.sendHello_follows, follows_ite, h, followsO_next]

theorem State.portHello_follows {s0 s : State} (h : Follows s0 s) (p : Nat) : Follows s0 (State.portHello s p) := by
  simp +contextual (maxDischargeDepth := 100) only [State.portHello, State.chMod_follows, State.send_follows, State.setPort_follows, h]

theorem State.portLost_follows {s0 s : State} (h : Follows s0 s) (p to' : Nat) : Follows s0 (State.portLost s p to') := by
  simp +contextual (maxDischargeDepth := 100) only [State.portLost, State.chMod_follows, State.count_follows, State.fput_follows,
      State.helloSync_follows, State.lose_follows, State.mbLinkLost_follows, State.raise_follows, State.recordSweep_follows,
      State.sendEnumEnd_follows, State.setPort_follows, follows_ite, h]

theorem execForwardedMessage_follows {s0 s : State} (h : Follows s0 s) (p : Fin 2) (b : List Byte) : FollowsO s0 (execForwardedMessage p b s) := by
  unfold execForwardedMessage
  repeat' split
  all_goals simp +contextual (maxDischargeDepth := 100) only [State.forward_follows, State.msgErr_follows, h, followsO_next]

theorem State.setMismatch_follows {s0 s : State} (h : Follows s0 s) (x : Nat) (live : List Byte) : Follows s0 (State.setMismatch s x live) := by
  simp +contextual (maxDischargeDepth := 100) only [State.setMismatch, State.accMod_follows, State.chMod_follows, State.fput_follows,
      State.raise_follows, State.recordDigest_follows, h]

theorem State.actAccede_follows {s0 s : State} (h : Follows s0 s) (b : List Byte) : Follows s0 (State.actAccede s b).1 := by
  simp +contextual (maxDischargeDepth := 100) only [State.actAccede, State.refuse_follows, State.requestAcc_follows, State.setMismatch_follows, h,
      follows_ite1]

theorem State.actSnap_follows {s0 s : State} (h : Follows s0 s) (b : List Byte) : Follows s0 (State.actSnap s b).1 := by
  simp +contextual (maxDischargeDepth := 100) only [State.actSnap, State.snapRequest_follows, h, follows_ite1]

theorem State.actCancel_follows {s0 s : State} (h : Follows s0 s) (b : List Byte) : Follows s0 (State.actCancel s b).1 := by
  simp +contextual (maxDischargeDepth := 100) only [State.actCancel, State.cancelAcc_follows, State.raise_follows, State.refuse_follows, h,
      follows_ite1]

theorem State.actCmd_follows {s0 s : State} (h : Follows s0 s) (typ : Nat) (b : List Byte) : Follows s0 (State.actCmd s typ b).1 := by
  simp +contextual (maxDischargeDepth := 100) only [State.actCmd, State.actAccede_follows, State.actCancel_follows, State.actSnap_follows, h,
      follows_ite1]

theorem State.memberCmd_follows {s0 s : State} (h : Follows s0 s) (m : Msg) : Follows s0 (State.memberCmd s m) := by
  unfold State.memberCmd
  dsimp only
  repeat' split
  all_goals simp +contextual (maxDischargeDepth := 100) only [State.actCmd_follows, State.chMod_follows, State.forward_follows,
      State.sendTo_follows, h]

theorem execAccede_follows {s0 s : State} (h : Follows s0 s) (b : List Byte) : FollowsO s0 (execAccede b s) := by
  simp +contextual (maxDischargeDepth := 100) only [execAccede, State.memberCmd_follows, State.takeMsg_follows, h, implies_true, followsO_next]

theorem execSnap_follows {s0 s : State} (h : Follows s0 s) (b : List Byte) : FollowsO s0 (execSnap b s) := by
  simp +contextual (maxDischargeDepth := 100) only [execSnap, State.memberCmd_follows, State.takeMsg_follows, h, implies_true, followsO_next]

theorem execChainCancelReceive_follows {s0 s : State} (h : Follows s0 s) (b : List Byte) : FollowsO s0 (execChainCancelReceive b s) := by
  simp +contextual (maxDischargeDepth := 100) only [execChainCancelReceive, State.memberCmd_follows, State.takeMsg_follows, h, implies_true,
      followsO_next]

theorem State.noteReport_follows {s0 s : State} (h : Follows s0 s) (a code chain : Nat) : Follows s0 (State.noteReport s a code chain) := by
  simp +contextual (maxDischargeDepth := 100) only [State.noteReport, State.doIf_follows, State.setFlag_follows, State.wrN_follows, h, implies_true]

theorem State.collectCheck_follows {s0 s : State} (h : Follows s0 s) : Follows s0 (State.collectCheck s) := by
  simp +contextual (maxDischargeDepth := 100) only [State.collectCheck, State.fput_follows, State.raise_follows, follows_ite, h]

theorem execReport_follows {s0 s : State} (h : Follows s0 s) (b : List Byte) : FollowsO s0 (execReport b s) := by
  simp +contextual (maxDischargeDepth := 100) only [execReport, State.collectCheck_follows, State.noteReport_follows, State.takeMsg_follows,
      follows_ite, h, implies_true, followsO_next]

theorem execCmdTimeout_follows {s0 s : State} (h : Follows s0 s) : FollowsO s0 (execCmdTimeout s) := by
  simp +contextual (maxDischargeDepth := 100) only [execCmdTimeout, State.fput_follows, State.raise_follows, follows_ite, h, followsO_next]

theorem State.refuseCmd_follows {s0 s : State} (h : Follows s0 s) (code : Nat) : Follows s0 (State.refuseCmd s code) := by
  simp +contextual (maxDischargeDepth := 100) only [State.refuseCmd, State.raise_follows, State.wrN_follows, h]

theorem State.broadcastCmd_follows {s0 s : State} (h : Follows s0 s) (typ seq : Nat) (b : List Byte) :
    Follows s0 (State.broadcastCmd s typ seq b) := by
  simp +contextual (maxDischargeDepth := 100) only [State.broadcastCmd, State.fput_follows, State.sendMsg_follows, h]

theorem State.headCmd_follows {s0 s : State} (h : Follows s0 s) (typ modes : Nat) (b : List Byte) : Follows s0 (State.headCmd s typ modes b) := by
  simp +contextual (maxDischargeDepth := 100) only [State.headCmd, State.actCmd_follows, State.broadcastCmd_follows, State.chMod_follows,
      State.clr_follows, State.collectCheck_follows, State.forEach_follows, State.fput_follows, State.noteReport_follows, State.refuseCmd_follows,
      State.wrN_follows, follows_ite, h, implies_true]

theorem execChainAccede_follows {s0 s : State} (h : Follows s0 s) (modes : Byte) : FollowsO s0 (execChainAccede modes s) := by
  simp +contextual (maxDischargeDepth := 100) only [execChainAccede, State.headCmd_follows, h, followsO_next]

theorem execChainSnap_follows {s0 s : State} (h : Follows s0 s) (modes : Byte) : FollowsO s0 (execChainSnap modes s) := by
  simp +contextual (maxDischargeDepth := 100) only [execChainSnap, State.headCmd_follows, h, followsO_next]

theorem execChainCancel_follows {s0 s : State} (h : Follows s0 s) (modes : Byte) : FollowsO s0 (execChainCancel modes s) := by
  simp +contextual (maxDischargeDepth := 100) only [execChainCancel, State.headCmd_follows, h, followsO_next]

theorem execChainRepeat_follows {s0 s : State} (h : Follows s0 s) : FollowsO s0 (execChainRepeat s) := by
  unfold execChainRepeat
  repeat' split
  all_goals simp +contextual (maxDischargeDepth := 100) only [State.broadcastCmd_follows, State.collectCheck_follows, State.refuseCmd_follows, h,
      followsO_next]

theorem State.portSequenceOut_follows {s0 s : State} (h : Follows s0 s) (p : Nat) (tsb : Bool) : Follows s0 (State.portSequenceOut s p tsb) := by
  simp +contextual (maxDischargeDepth := 100) only [State.portSequenceOut, State.send_follows, h]

theorem State.portTrain_follows {s0 s : State} (h : Follows s0 s) (p : Nat) : Follows s0 (State.portTrain s p) := by
  simp +contextual (maxDischargeDepth := 100) only [State.portTrain, State.laneMod_follows, State.portLost_follows, State.portSequenceOut_follows,
      h]

theorem State.portLock_follows {s0 s : State} (h : Follows s0 s) (p : Nat) (keep : Bool) : Follows s0 (State.portLock s p keep) := by
  simp +contextual (maxDischargeDepth := 100) only [State.portLock, State.laneMod_follows, State.portLost_follows, State.portSequenceOut_follows, h]

theorem State.portDetect_follows {s0 s : State} (h : Follows s0 s) (p : Nat) : Follows s0 (State.portDetect s p) := by
  simp +contextual (maxDischargeDepth := 100) only [State.portDetect, State.emit_follows, State.laneMod_follows, State.portLost_follows, h]

theorem execHelloTimeout_follows {s0 s : State} (h : Follows s0 s) (p : Fin 2) : FollowsO s0 (execHelloTimeout p s) := by
  simp +contextual (maxDischargeDepth := 100) only [execHelloTimeout, State.portTrain_follows, follows_ite, h, followsO_next]

theorem execChainLinkLoss_follows {s0 s : State} (h : Follows s0 s) (p : Fin 2) (to' : Fin 3) : FollowsO s0 (execChainLinkLoss p to' s) := by
  unfold execChainLinkLoss
  repeat' split
  all_goals simp +contextual (maxDischargeDepth := 100) only [State.portDetect_follows, State.portLock_follows, State.portTrain_follows, h,
      followsO_next]

theorem State.portComma_follows {s0 s : State} (h : Follows s0 s) (p : Nat) : Follows s0 (State.portComma s p) := by
  simp +contextual (maxDischargeDepth := 100) only [State.portComma, State.laneMod_follows, follows_ite, h]

theorem State.portInvalid_follows {s0 s : State} (h : Follows s0 s) (p len k : Nat) : Follows s0 (State.portInvalid s p len k) := by
  simp +contextual (maxDischargeDepth := 100) only [State.portInvalid, State.laneMod_follows, State.portLock_follows, follows_ite, h]

theorem State.portSequence_follows {s0 s : State} (h : Follows s0 s) (p : Nat) (tsb : Bool) (k : Nat) :
    Follows s0 (State.portSequence s p tsb k) := by
  simp +contextual (maxDischargeDepth := 100) only [State.portSequence, State.laneMod_follows, State.portComma_follows, State.portHello_follows,
      State.portInvalid_follows, State.portLock_follows, State.portTrain_follows, follows_ite, h]

theorem State.portGroup_follows {s0 s : State} (h : Follows s0 s) (p g : Nat) : Follows s0 (State.portGroup s p g) := by
  simp +contextual (maxDischargeDepth := 100) only [State.portGroup, State.laneMod_follows, State.portComma_follows, State.portInvalid_follows,
      follows_ite, h]

theorem State.portOr_follows {s0 : State} {f g : Nat → State} (hf : ∀ p, Follows s0 (f p)) (hg : ∀ p, Follows s0 (g p)) (n : Fin 194) :
    Follows s0 (State.portOr n f g) := by
  unfold State.portOr
  split
  · exact hf _
  · exact hg _

theorem execDetectPulse_follows {s0 s : State} (h : Follows s0 s) (n : Fin 194) : FollowsO s0 (execDetectPulse n s) := by
  simp +contextual (maxDischargeDepth := 100) only [execDetectPulse, State.emit_follows, State.laneDetectPulse_follows, State.portOr_follows,
      follows_ite, h, implies_true, followsO_next]

theorem execDetectExit_follows {s0 s : State} (h : Follows s0 s) (n : Fin 194) : FollowsO s0 (execDetectExit n s) := by
  simp +contextual (maxDischargeDepth := 100) only [execDetectExit, State.laneDetectExit_follows, State.portOr_follows, State.portTrain_follows,
      follows_ite, h, implies_true, followsO_next]

theorem execTsbSwitch_follows {s0 s : State} (h : Follows s0 s) (n : Fin 194) (fom : Byte) : FollowsO s0 (execTsbSwitch n fom s) := by
  simp +contextual (maxDischargeDepth := 100) only [execTsbSwitch, State.laneMod_follows, State.laneTsbSwitch_follows, State.portOr_follows,
      State.portSequenceOut_follows, follows_ite, h, implies_true, followsO_next]

theorem execTrainDone_follows {s0 s : State} (h : Follows s0 s) (n : Fin 194) : FollowsO s0 (execTrainDone n s) := by
  simp +contextual (maxDischargeDepth := 100) only [execTrainDone, State.laneTrainDone_follows, State.portLock_follows, State.portOr_follows,
      follows_ite, h, implies_true, followsO_next]

theorem execTrainTimeout_follows {s0 s : State} (h : Follows s0 s) (n : Fin 194) : FollowsO s0 (execTrainTimeout n s) := by
  simp +contextual (maxDischargeDepth := 100) only [execTrainTimeout, State.laneTrainTimeout_follows, State.portOr_follows,
      State.portTrain_follows, follows_ite, h, implies_true, followsO_next]

theorem execLockTimeout_follows {s0 s : State} (h : Follows s0 s) (n : Fin 194) : FollowsO s0 (execLockTimeout n s) := by
  simp +contextual (maxDischargeDepth := 100) only [execLockTimeout, State.laneLockTimeout_follows, State.portOr_follows, State.portTrain_follows,
      follows_ite, h, implies_true, followsO_next]

theorem execTrainingSequence_follows {s0 s : State} (h : Follows s0 s) (n : Fin 194) (tsb : Bool) (b : SequenceBody) :
    FollowsO s0 (execTrainingSequence n tsb b s) := by
  simp +contextual (maxDischargeDepth := 100) only [execTrainingSequence, State.laneTrainingSequence_follows, State.portOr_follows,
      State.portSequence_follows, h, implies_true, followsO_next]

theorem execCharacterReceive_follows {s0 s : State} (h : Follows s0 s) (n : Fin 194) (g : BitVec 10) (mark : Fin 3) :
    FollowsO s0 (execCharacterReceive n g mark s) := by
  simp +contextual (maxDischargeDepth := 100) only [execCharacterReceive, State.laneCharacterReceive_follows, State.portGroup_follows,
      State.portOr_follows, h, implies_true, followsO_next]

theorem execSignalLoss_follows {s0 s : State} (h : Follows s0 s) (n : Fin 194) : FollowsO s0 (execSignalLoss n s) := by
  simp +contextual (maxDischargeDepth := 100) only [execSignalLoss, State.laneSignalLoss_follows, State.portDetect_follows, State.portOr_follows,
      follows_ite, h, implies_true, followsO_next]

theorem execBitLockLoss_follows {s0 s : State} (h : Follows s0 s) (n : Fin 194) : FollowsO s0 (execBitLockLoss n s) := by
  simp +contextual (maxDischargeDepth := 100) only [execBitLockLoss, State.laneBitLockLoss_follows, State.portOr_follows, State.portTrain_follows,
      follows_ite, h, implies_true, followsO_next]

theorem execBitLock_follows {s0 s : State} (h : Follows s0 s) (n : Fin 194) : FollowsO s0 (execBitLock n s) := by
  simp +contextual (maxDischargeDepth := 100) only [execBitLock, State.laneBitLock_follows, State.laneMod_follows, State.portOr_follows,
      follows_ite, h, implies_true, followsO_next]

end Sys2Proof.Machine
end

