-- ==== Sys2Proof/Laws/FollowsBus.lean ====
section
/-!
SUPPORT. Laws/FollowsBus.lean: what every operation and meaning can do, for accesses of the matrix, the DMA channels' control, power modes and the host interface: one lemma
each, named after it. A state transformer keeps the registers and memory in canonical form, does not touch the queue, only adds outputs, and uses
no free value again.
-/
namespace Sys2Proof.Machine

theorem State.busErr_follows {s0 s : State} (h : Follows s0 s) (b : By) (wr : Bool) (addr kind : Nat) :
    Follows s0 (State.busErr s b wr addr kind) := by
  simp +contextual (maxDischargeDepth := 100) only [State.busErr, State.count_follows, State.doIf_follows, State.raise_follows,
      State.wr64_follows, State.wrN_follows, follows_ite, h, implies_true]

theorem State.noteWerr_follows {s0 s : State} (h : Follows s0 s) : Follows s0 (State.noteWerr s) := by
  simp +contextual (maxDischargeDepth := 100) only [State.noteWerr, State.count_follows, State.raise_follows, h]

theorem State.stEnabled_follows {s0 : State} : ∀ {l : List (Option Byte)} {s : State} (_ : Follows s0 s) (a : Nat), Follows s0 (s.stEnabled a l)
  | [], _, h, _ => h
  | some b :: rest, s, h, a => State.stEnabled_follows (l := rest) (State.stb_follows h a b) (a + 1)
  | none :: rest, s, h, a => State.stEnabled_follows (l := rest) h (a + 1)

/-- What is asked of a register bus: its reads and writes follow. -/
def RbOk (s0 : State) (rb : RegBus) : Prop :=
  (∀ s m a r, Follows s0 s → rb.rd s m a = some r → Follows s0 r.1) ∧ (∀ s m a v t, Follows s0 s → rb.wr s m a v = some t → Follows s0 t)

theorem noRegs_follows {s0 : State} : RbOk s0 noRegs :=
  ⟨fun _ _ _ _ _ h => (Option.some_ne_none _ h.symm).elim, fun _ _ _ _ _ _ h => (Option.some_ne_none _ h.symm).elim⟩

theorem State.busRd32_follows {s0 s : State} {rb : RegBus} {m off : Nat} {r : State × Word} (h : Follows s0 s) (hrb : RbOk s0 rb)
    (he : s.busRd32 rb m off = .ok r) : Follows s0 r.1 := by
  unfold State.busRd32 at he
  repeat' split at he
  all_goals first
    | (cases he; exact h)
    | (rename_i hr; cases he; exact hrb.1 _ _ _ _ h hr)
    | (rename_i hr _; cases he; exact hrb.1 _ _ _ _ h hr)
    | cases he

theorem State.busWr32_follows {s0 s t : State} {rb : RegBus} {m off : Nat} {v : Word} (h : Follows s0 s) (hrb : RbOk s0 rb)
    (he : s.busWr32 rb m off v = .ok t) : Follows s0 t := by
  unfold State.busWr32 at he
  repeat' split at he
  all_goals first
    | (cases he; exact State.stNat_follows h _ _ _)
    | (rename_i hr; cases he; exact hrb.2 _ _ _ _ _ h hr)
    | cases he

theorem State.bridgeRead_follows {s0 : State} {rb : RegBus} (hrb : RbOk s0 rb) (m : Nat) :
    ∀ {k off : Nat} {s : State}, Follows s0 s → Follows s0 (State.bridgeRead rb m k off s).1
  | 0, _, _, h => h
  | k + 1, off, s, h => by
    unfold State.bridgeRead
    split
    · rename_i he
      exact State.bridgeRead_follows hrb m (k := k) (State.busRd32_follows h hrb he)
    · exact State.bridgeRead_follows hrb m (k := k) h

theorem State.bridgeWrite_follows {s0 : State} {rb : RegBus} (hrb : RbOk s0 rb) (m : Nat) (off : Nat) (l : List (Option Byte)) (s : State)
    (h : Follows s0 s) : Follows s0 (State.bridgeWrite rb m off l s).1 := by
  fun_induction State.bridgeWrite rb m off l s with
  | case1 off a b c d rest s s1 he ih => exact ih (State.busWr32_follows h hrb he)
  | case2 off a b c d rest s e he r ih => exact ih h
  | case3 => exact h

theorem State.busRead_follows {s0 s : State} (h : Follows s0 s) (rb : RegBus) (b : By) (addr tgt n : Nat) (hrb : RbOk s0 rb) :
    Follows s0 (State.busRead s rb b addr tgt n).1 := by
  unfold State.busRead
  dsimp only
  repeat' split
  all_goals simp +contextual (maxDischargeDepth := 100) only [State.archRead_follows, State.bridgeRead_follows, State.busErr_follows, h, hrb]

theorem State.busWrite_follows {s0 s : State} (h : Follows s0 s) (rb : RegBus) (b : By) (addr tgt : Nat) (bs : List (Option Byte))
    (hrb : RbOk s0 rb) : Follows s0 (State.busWrite s rb b addr tgt bs).1 := by
  unfold State.busWrite
  dsimp only
  repeat' split
  all_goals simp +contextual (maxDischargeDepth := 100) only [State.archWrite_follows, State.bridgeWrite_follows, State.busErr_follows,
      State.doIf_follows, State.forEach_follows, State.noteWerr_follows, State.rangeErr_follows, State.stEnabled_follows, h, implies_true, hrb]

theorem State.readAt_follows {s0 s : State} (h : Follows s0 s) (rb : RegBus) (b : By) (addr n : Nat) (hrb : RbOk s0 rb) :
    Follows s0 (State.readAt s rb b addr n).1 := by
  unfold State.readAt
  split <;> simp +contextual (maxDischargeDepth := 100) only [State.busErr_follows, State.busRead_follows, h, hrb]

theorem State.writeAt_follows {s0 s : State} (h : Follows s0 s) (rb : RegBus) (b : By) (addr : Nat) (bs : List (Option Byte)) (hrb : RbOk s0 rb) :
    Follows s0 (State.writeAt s rb b addr bs).1 := by
  unfold State.writeAt
  split <;> simp +contextual (maxDischargeDepth := 100) only [State.busErr_follows, State.busWrite_follows, h, hrb]

theorem State.matMod_follows {s0 s : State} (h : Follows s0 s) (f : MatrixSt → MatrixSt) : Follows s0 (State.matMod s f) := by
  simp +contextual (maxDischargeDepth := 100) only [State.matMod, follows_mk, h]

theorem State.noteOver_follows {s0 s : State} (h : Follows s0 s) (p : Nat) : Follows s0 (State.noteOver s p) := by
  simp +contextual (maxDischargeDepth := 100) only [State.noteOver, State.count_follows, State.matMod_follows, State.raise_follows, h]

theorem State.noteBeats_follows {s0 s : State} (h : Follows s0 s) (p b : Nat) : Follows s0 (State.noteBeats s p b) := by
  simp +contextual (maxDischargeDepth := 100) only [State.noteBeats, State.countBy_follows, State.matMod_follows, h]

theorem State.portTake_follows {s0 s : State} (h : Follows s0 s) (p b q : Nat) : Follows s0 (State.portTake s p b q).1 := by
  simp +contextual (maxDischargeDepth := 100) only [State.portTake, State.matMod_follows, State.noteBeats_follows, State.noteOver_follows,
      State.wrN_follows, h, follows_ite1]

theorem State.served_follows {s0 s : State} (h : Follows s0 s) (b : By) (addr n : Nat) : Follows s0 (State.served s b addr n).1 := by
  unfold State.served
  split <;> simp +contextual (maxDischargeDepth := 100) only [State.noteOver_follows, State.portTake_follows, h, follows_ite1]

theorem State.dmaMod_follows {s0 s : State} (h : Follows s0 s) (f : DmaSt → DmaSt) : Follows s0 (State.dmaMod s f) := by
  simp +contextual (maxDischargeDepth := 100) only [State.dmaMod, follows_mk, h]

theorem State.chMod'_follows {s0 s : State} (h : Follows s0 s) (n : Nat) (f : DmaCh → DmaCh) : Follows s0 (State.chMod' s n f) := by
  simp +contextual (maxDischargeDepth := 100) only [State.chMod', State.dmaMod_follows, h]

theorem State.showBuf_follows {s0 s : State} (h : Follows s0 s) : Follows s0 (State.showBuf s) := by
  simp +contextual (maxDischargeDepth := 100) only [State.showBuf, State.wrN_follows, h]

theorem State.setCh_follows {s0 s : State} (h : Follows s0 s) (n st : Nat) : Follows s0 (State.setCh s n st) := by
  simp +contextual (maxDischargeDepth := 100) only [State.setCh, State.chMod'_follows, State.clr_follows, State.fput_follows, State.raise_follows,
      State.showBuf_follows, follows_ite, h]

theorem State.stopCh_follows {s0 s : State} (h : Follows s0 s) (n : Nat) : Follows s0 (State.stopCh s n) := by
  simp +contextual (maxDischargeDepth := 100) only [State.stopCh, State.setCh_follows, h]

theorem State.dmaPut_follows {s0 s : State} (h : Follows s0 s) (rb : RegBus) (n a : Nat) (bs : List (Option Byte)) (ep : Bool) (hrb : RbOk s0 rb) :
    Follows s0 (State.dmaPut s rb n a bs ep).1 := by
  simp +contextual (maxDischargeDepth := 100) only [State.dmaPut, State.emit_follows, State.writeAt_follows, h, follows_ite1, hrb]

theorem State.writeback_follows {s0 s : State} (h : Follows s0 s) (n : Nat) (code : Nat) (last : Bool) (beat : Nat) (stop : Bool) :
    Follows s0 (State.writeback s n code last beat stop) := by
  unfold State.writeback
  split <;> simp +contextual (maxDischargeDepth := 100) only [State.chMod'_follows, State.dmaPut_follows, State.fput_follows, State.setCh_follows,
      State.showBuf_follows, State.stopCh_follows, State.wrN_follows, noRegs_follows, follows_ite, h]

theorem State.settle_follows {s0 s : State} (h : Follows s0 s) (n : Nat) : Follows s0 (State.settle s n) := by
  unfold State.settle
  dsimp only
  repeat' split
  all_goals simp +contextual (maxDischargeDepth := 100) only [State.stopCh_follows, State.writeback_follows, h]

theorem State.dmaStop_follows {s0 s : State} (h : Follows s0 s) (n : Nat) : Follows s0 (State.dmaStop s n) := by
  unfold State.dmaStop
  split <;> simp +contextual (maxDischargeDepth := 100) only [State.chMod'_follows, State.fput_follows, State.setCh_follows, State.settle_follows,
      h]

theorem execDmaEnable_follows {s0 s : State} (h : Follows s0 s) (n : Fin 32) (on : Bool) : FollowsO s0 (execDmaEnable n on s) := by
  simp +contextual (maxDischargeDepth := 100) only [execDmaEnable, State.dmaStop_follows, State.fput_follows, State.raise_follows,
      State.setCh_follows, follows_ite, h, followsO_next]

theorem execDmaStop_follows {s0 s : State} (h : Follows s0 s) (n : Fin 32) : FollowsO s0 (execDmaStop n s) := by
  simp +contextual (maxDischargeDepth := 100) only [execDmaStop, State.dmaStop_follows, h, followsO_next]

theorem execDmaResume_follows {s0 s : State} (h : Follows s0 s) (n : Fin 32) : FollowsO s0 (execDmaResume n s) := by
  simp +contextual (maxDischargeDepth := 100) only [execDmaResume, State.raise_follows, State.setCh_follows, follows_ite, h, followsO_next]

theorem execDoorbell_follows {s0 s : State} (h : Follows s0 s) (n : Fin 32) : FollowsO s0 (execDoorbell n s) := by
  simp +contextual (maxDischargeDepth := 100) only [execDoorbell, State.setCh_follows, follows_ite, h, followsO_next]

theorem execDmaCfgWrite_follows {s0 s : State} (h : Follows s0 s) (n : Fin 32) (which : Fin 3) (v : Word) :
    FollowsO s0 (execDmaCfgWrite n which v s) := by
  unfold execDmaCfgWrite
  repeat' split
  all_goals simp +contextual (maxDischargeDepth := 100) only [State.raise_follows, State.wr_follows, h, followsO_next]

theorem State.coldState_follows {s0 s : State} (h : Follows s0 s) : Follows s0 s.coldState :=
  ⟨fun _ => ⟨tabWf_resetRegs, rfl⟩, h.2⟩

theorem State.timeSleep_follows {s0 s : State} (h : Follows s0 s) : Follows s0 (State.timeSleep s) := by
  unfold State.timeSleep
  split <;> simp +contextual (maxDischargeDepth := 100) only [State.enterFreeRun_follows, State.enterHoldover_follows, follows_ite, h]

theorem State.warmState_follows {s0 s : State} (h : Follows s0 s) : Follows s0 s.warmState := by
  unfold State.warmState
  dsimp only
  have ho := State.timeSleep_follows h
  refine State.fput_follows (State.fput_follows (State.noteQuality_follows (State.showSources_follows (State.fput_follows (State.forEach_follows (fun u e hu => State.setFlag_follows hu _ _ _)
    (State.forEach_follows (fun u d hu => State.fput_follows hu _ _) (State.forEach_follows (fun u a hu => State.wr_follows hu _ _) ?_))) _ _))) _ _) _ _
  refine ⟨fun w => ⟨tabWf_resetRegs, ?_⟩, h.2.1, h.2.2.1, ho.2.2.2⟩
  have hm := (h.1 w).2
  simp only [Memory.wf, Bool.and_eq_true, List.all_eq_true, decide_eq_true_eq] at hm ⊢
  refine ⟨filter_rising _ hm.1, fun c hc => ?_⟩
  have hc' := List.mem_filter.mp hc
  have hn : inCarrel c.1 = false := by
    have h1 : archiveBase ≤ c.1 := of_decide_eq_true (Bool.and_eq_true_iff.mp hc'.2).1
    simp only [archiveBase] at h1
    simp only [inCarrel, Bool.and_eq_false_iff, decide_eq_false_iff_not]
    omega
  have := hm.2 c hc'.1
  simpa [State.memDefault, hn] using this

theorem State.restart_follows {s0 s : State} (h : Follows s0 s) (cold : Bool) : Follows s0 (State.restart s cold) := by
  simp +contextual (maxDischargeDepth := 100) only [State.restart, State.coldState_follows, State.fput_follows, State.warmState_follows,
      follows_ite, h]

theorem execCold_follows {s0 s : State} (h : Follows s0 s) (vddIo : Bool) : FollowsO s0 (execCold vddIo s) := by
  simp +contextual (maxDischargeDepth := 100) only [execCold, State.restart_follows, follows_ite, h, followsO_next]

theorem execWarm_follows {s0 s : State} (h : Follows s0 s) : FollowsO s0 (execWarm s) := by
  simp +contextual (maxDischargeDepth := 100) only [execWarm, State.restart_follows, follows_ite, h, followsO_next]

theorem execRstNPulse_follows {s0 s : State} (h : Follows s0 s) : FollowsO s0 (execRstNPulse s) := by
  simp +contextual (maxDischargeDepth := 100) only [execRstNPulse, State.restart_follows, follows_ite, h, followsO_next]

theorem State.railsDown_follows {s0 s : State} (h : Follows s0 s) : Follows s0 (State.railsDown s) := by
  simp +contextual (maxDischargeDepth := 100) only [State.railsDown, State.emit_follows, State.forEach_follows, h, implies_true]

theorem State.unpowered_follows {s0 s : State} (h : Follows s0 s) : Follows s0 (State.unpowered s) := by
  simp +contextual (maxDischargeDepth := 100) only [State.unpowered, State.coldState_follows, follows_mk, h]

theorem execVddIoLoss_follows {s0 s : State} (h : Follows s0 s) : FollowsO s0 (execVddIoLoss s) := by
  simp +contextual (maxDischargeDepth := 100) only [execVddIoLoss, State.unpowered_follows, follows_mk, h, followsO_next]

theorem execThermtrip_follows {s0 s : State} (h : Follows s0 s) (d : Fin 18) : FollowsO s0 (execThermtrip d s) := by
  simp +contextual (maxDischargeDepth := 100) only [execThermtrip, State.railsDown_follows, State.unpowered_follows, State.wr_follows, follows_mk,
      follows_ite, h, followsO_next]

theorem execPcieReset_follows {s0 s : State} (h : Follows s0 s) : FollowsO s0 (execPcieReset s) := by
  simp +contextual (maxDischargeDepth := 100) only [execPcieReset, State.clr_follows, State.forEach_follows, State.mbResetX_follows,
      State.raiseIf_follows, State.wr_follows, follows_mk, follows_ite, h, implies_true, followsO_next]

theorem execTestReset_follows {s0 s : State} (h : Follows s0 s) : FollowsO s0 (execTestReset s) := by
  simp +contextual (maxDischargeDepth := 100) only [execTestReset, follows_mk, h, followsO_next]

theorem execSleep_follows {s0 s : State} (h : Follows s0 s) : FollowsO s0 (execSleep s) := by
  simp +contextual (maxDischargeDepth := 100) only [execSleep, State.cancelAcc_follows, State.carrelLose_follows, State.commandCore_follows,
      State.count_follows, State.dmaStop_follows, State.doIf_follows, State.enterOff_follows, State.forEach_follows, State.fput_follows,
      State.hbmMod_follows, State.raise_follows, State.setCh_follows, State.showIdle_follows, State.tick1_follows, State.timeSleep_follows,
      State.wrN_follows, follows_ite, h, implies_true, followsO_next]

theorem execWake_follows {s0 s : State} (h : Follows s0 s) (written : Bool) : FollowsO s0 (execWake written s) := by
  simp +contextual (maxDischargeDepth := 100) only [execWake, State.chMod_follows, State.commandCore_follows, State.countBy_follows,
      State.doIf_follows, State.enterDetect_follows, State.enterPhase_follows, State.forEach_follows, State.fput_follows, State.loadLease_follows,
      State.raise_follows, State.reselect_follows, State.showIdle_follows, State.unhold_follows, follows_ite, h, implies_true, followsO_next]

theorem State.fwResult_follows {s0 s : State} (h : Follows s0 s) (code : Nat) : Follows s0 (State.fwResult s code) := by
  simp +contextual (maxDischargeDepth := 100) only [State.fwResult, State.fput_follows, State.raise_follows, h]

theorem State.fwTake_follows {s0 s : State} (h : Follows s0 s) (src version : Nat) : Follows s0 (State.fwTake s src version) := by
  simp +contextual (maxDischargeDepth := 100) only [State.fwTake, State.wrN_follows, follows_mk, h]

theorem execFwCommit_follows {s0 s : State} (h : Follows s0 s) : FollowsO s0 (execFwCommit s) := by
  simp +contextual (maxDischargeDepth := 100) only [execFwCommit, State.fwResult_follows, State.raise_follows, State.stBytes_follows, follows_ite,
      h, followsO_next]

theorem execFwDone_follows {s0 s : State} (h : Follows s0 s) : FollowsO s0 (execFwDone s) := by
  simp +contextual (maxDischargeDepth := 100) only [execFwDone, State.fput_follows, State.fwResult_follows, State.fwTake_follows, follows_ite, h,
      followsO_next]

theorem execFwStore_follows {s0 s : State} (h : Follows s0 s) : FollowsO s0 (execFwStore s) := by
  simp +contextual (maxDischargeDepth := 100) only [execFwStore, State.archRead_follows, State.fput_follows, State.fwResult_follows,
      State.noteProg_follows, State.startStore_follows, follows_ite, h, followsO_next]

theorem execFwStoreComplete_follows {s0 s : State} (h : Follows s0 s) (readBack : List Byte) : FollowsO s0 (execFwStoreComplete readBack s) := by
  unfold execFwStoreComplete
  split <;> simp +contextual (maxDischargeDepth := 100) only [State.endStore_follows, State.fput_follows, State.fwResult_follows,
      State.raise_follows, State.tick1_follows, follows_ite, h, followsO_next]

theorem execSetFirst_follows {s0 s : State} (h : Follows s0 s) : FollowsO s0 (execSetFirst s) := by
  simp +contextual (maxDischargeDepth := 100) only [execSetFirst, State.fput_follows, State.fwResult_follows, State.noteProg_follows,
      State.startBoot_follows, follows_ite, h, followsO_next]

theorem execBumpRollback_follows {s0 s : State} (h : Follows s0 s) : FollowsO s0 (execBumpRollback s) := by
  simp +contextual (maxDischargeDepth := 100) only [execBumpRollback, State.fwResult_follows, State.noteProg_follows, State.wrN_follows,
      follows_mk, follows_ite, h, followsO_next]

theorem execPcieLinkUp_follows {s0 s : State} (h : Follows s0 s) (speed width : Fin 3) : FollowsO s0 (execPcieLinkUp speed width s) := by
  simp +contextual (maxDischargeDepth := 100) only [execPcieLinkUp, State.fput_follows, State.raiseIf_follows, follows_ite, h, followsO_next]

theorem execMgmtFrameReceive_follows {s0 s : State} (h : Follows s0 s) (f : List Byte) (r : FrameArrival) :
    FollowsO s0 (execMgmtFrameReceive f r s) := by
  simp +contextual (maxDischargeDepth := 100) only [execMgmtFrameReceive, State.count_follows, State.raise_follows, State.stBytes_follows,
      State.wrN_follows, follows_ite, h, followsO_next]

theorem execTxDoorbell_follows {s0 s : State} (h : Follows s0 s) : FollowsO s0 (execTxDoorbell s) := by
  simp +contextual (maxDischargeDepth := 100) only [execTxDoorbell, follows_mk, h, followsO_next]

theorem execMgmtFrameSent_follows {s0 s : State} (h : Follows s0 s) : FollowsO s0 (execMgmtFrameSent s) := by
  simp +contextual (maxDischargeDepth := 100) only [execMgmtFrameSent, State.count_follows, State.doIf_follows, State.emit_follows,
      State.raise_follows, State.stBytes_follows, State.stNat_follows, State.tick1_follows, State.wrN_follows, follows_mk, follows_ite, h,
      implies_true, followsO_next]

theorem execMgmtRateAlternate_follows {s0 s : State} (h : Follows s0 s) : FollowsO s0 (execMgmtRateAlternate s) := by
  simp +contextual (maxDischargeDepth := 100) only [execMgmtRateAlternate, follows_mk, follows_ite, h, followsO_next]

theorem execMgmtLink_follows {s0 s : State} (h : Follows s0 s) (up : Bool) : FollowsO s0 (execMgmtLink up s) := by
  simp +contextual (maxDischargeDepth := 100) only [execMgmtLink, State.fput_follows, State.raise_follows, State.wrN_follows, follows_mk,
      follows_ite, h, followsO_next]

end Sys2Proof.Machine
end

