-- ==== Sys2Proof/Laws/FollowsRegisters.lean ====
section
/-!
SUPPORT. Laws/FollowsRegisters.lean: what every operation and meaning can do, for reads and writes of registers: one lemma
each, named after it. A state transformer keeps the registers and memory in canonical form, does not touch the queue, only adds outputs, and uses
no free value again.
-/
namespace Sys2Proof.Machine

theorem ran_follows {s0 s : State} {o : Host.Outcome State Fault Refusal} (h : Follows s0 s) (ho : FollowsO s0 o) : Follows s0 (ran o s) := by
  unfold ran
  split
  · exact ho _ rfl
  · exact h

theorem State.bits_follows {s0 : State} (v : Word) : (∀ s : State, Follows s0 s → Follows s0 (s.bits v [])) ∧
    ∀ (s : State) (e : Nat × (State → State)) (l : List (Nat × (State → State))),
      Follows s0 ((s.doIf (bitOf v.toNat e.1) e.2).bits v l) → Follows s0 (s.bits v (e :: l)) :=
  ⟨fun _ h => h, fun _ _ _ h => h⟩

theorem State.put_follows {s0 s : State} (h : Follows s0 s) (a mask : Nat) (v : Word) : Follows s0 (State.put s a mask v) := by
  simp +contextual (maxDischargeDepth := 100) only [State.put, State.wr_follows, h]

theorem execRemapWrite_follows {s0 s : State} (h : Follows s0 s) (v : Word) : FollowsO s0 (execRemapWrite v s) := by
  simp +contextual (maxDischargeDepth := 100) only [execRemapWrite, State.put_follows, h, followsO_next]

theorem State.writeCatCtrl_follows {s0 s : State} (h : Follows s0 s) (v : Word) : Follows s0 (State.writeCatCtrl s v) := by
  simp +contextual (maxDischargeDepth := 100) only [State.writeCatCtrl, State.bits_follows, State.doIf_follows, State.put_follows,
      execCancel_follows, execClear_follows, execLoad_follows, execNoBoot_follows, execSchedule_follows, execSetBoot_follows, execStore_follows,
      execVerify_follows, ran_follows, h, implies_true]

theorem State.writeTime_follows {s0 s : State} (h : Follows s0 s) (a : Nat) (v : Word) : ∀ t, State.writeTime s a v = some t → Follows s0 t := by
  intro t ht
  unfold State.writeTime at ht
  (repeat' split at ht) <;> simp only [Option.some.injEq, reduceCtorEq] at ht
  all_goals (subst ht; simp +contextual (maxDischargeDepth := 100) only [State.bits_follows, State.doIf_follows, State.put_follows,
      State.reselect_follows, execChainOffset_follows, execNextSecWrite_follows, execReacquire_follows, execVrefOffset_follows, ran_follows,
      squelchNote_follows, h, implies_true])

theorem State.writeLaneCtrl_follows {s0 s : State} (h : Follows s0 s) (n : Nat) (v : Word) : Follows s0 (State.writeLaneCtrl s n v) := by
  simp +contextual (maxDischargeDepth := 100) only [State.writeLaneCtrl, State.bits_follows, State.doIf_follows, State.put_follows,
      execLaneRetrain_follows, execLaneTestSet_follows, ran_follows, h, implies_true]

theorem State.writeStream_follows {s0 s : State} (h : Follows s0 s) (a : Nat) (v : Word) : ∀ t, s.writeStream a v = some t → Follows s0 t := by
  intro t ht
  unfold State.writeStream at ht
  repeat' split at ht
  all_goals simp only [Option.some.injEq, Option.map_eq_some_iff] at ht
  · subst ht
    exact (State.bits_follows v).2 _ _ _ (State.doIf_follows h (fun u hu => ran_follows hu (execMonRestart_follows hu)))
  · subst ht
    exact (State.bits_follows v).2 _ _ _ (State.doIf_follows (State.put_follows h _ _ _) (fun u hu => ran_follows hu (execCheckNow_follows hu)))
  · subst ht
    exact (State.bits_follows v).2 _ _ _ (State.doIf_follows h (fun u hu => ran_follows hu (execSearchRestart_follows hu)))
  · subst ht
    exact (State.bits_follows v).2 _ _ _ (State.doIf_follows (State.put_follows h _ _ _) (fun u hu => ran_follows hu (execSwitchRequest_follows hu _)))
  · subst ht
    exact ran_follows h (execRetireReq_follows h _ _)
  · subst ht
    exact (State.bits_follows v).2 _ _ _ (State.doIf_follows h (fun u hu => ran_follows hu (execStageRelease_follows hu _)))
  · obtain ⟨_, _, rfl⟩ := ht
    exact ran_follows h (execWloadSet_follows h _ _)

theorem State.writeChain_follows {s0 s : State} (h : Follows s0 s) (a : Nat) (v : Word) : ∀ t, State.writeChain s a v = some t → Follows s0 t := by
  intro t ht
  unfold State.writeChain at ht
  dsimp only at ht
  (repeat' split at ht) <;> simp only [Option.some.injEq, reduceCtorEq] at ht
  all_goals first
      | (subst ht; simp +contextual (maxDischargeDepth := 100) only [State.bits_follows, State.doIf_follows, State.helloSync_follows,
          State.put_follows, execChainAccede_follows, execChainCancel_follows, execChainEnum_follows, execChainForce_follows,
          execChainRepeat_follows, execChainSnap_follows, execClearAddr_follows, execRxqPop_follows, execTxqSend_follows, ran_follows, h,
          implies_true])
      | (obtain ⟨_, _, rfl⟩ := ht; simp +contextual (maxDischargeDepth := 100) only [State.bits_follows, State.doIf_follows,
          State.helloSync_follows, State.put_follows, execChainAccede_follows, execChainCancel_follows, execChainEnum_follows,
          execChainForce_follows, execChainRepeat_follows, execChainSnap_follows, execClearAddr_follows, execRxqPop_follows, execTxqSend_follows,
          ran_follows, follows_mk, follows_mk_fresh, follows_mk_filter, follows_ite, h, implies_true])
      | simp_all only

theorem State.writeMem_follows {s0 s : State} (h : Follows s0 s) (a : Nat) (v : Word) : ∀ t, State.writeMem s a v = some t → Follows s0 t := by
  intro t ht
  unfold State.writeMem at ht
  dsimp only at ht
  (repeat' split at ht) <;> simp only [Option.some.injEq, reduceCtorEq] at ht
  all_goals first
      | (subst ht; simp +contextual (maxDischargeDepth := 100) only [State.bits_follows, State.doIf_follows, execDmaCfgWrite_follows,
          execDmaEnable_follows, execDmaResume_follows, execDmaStop_follows, execDoorbell_follows, execMapApply_follows, execRateChange_follows,
          execRemapWrite_follows, execScrubNow_follows, ran_follows, h, implies_true])
      | (obtain ⟨_, _, rfl⟩ := ht; simp +contextual (maxDischargeDepth := 100) only [State.bits_follows, State.doIf_follows,
          execDmaCfgWrite_follows, execDmaEnable_follows, execDmaResume_follows, execDmaStop_follows, execDoorbell_follows, execMapApply_follows,
          execRateChange_follows, execRemapWrite_follows, execScrubNow_follows, ran_follows, follows_mk, follows_mk_fresh, follows_mk_filter,
          follows_ite, h, implies_true])
      | simp_all only

theorem State.writeMbox_follows {s0 s : State} (h :
    Follows s0 s) (m a : Nat) (v : Word) : ∀ t, State.writeMbox s m a v = some t → Follows s0 t := by
  intro t ht
  unfold State.writeMbox at ht
  dsimp only at ht
  (repeat' split at ht) <;> simp only [Option.some.injEq, reduceCtorEq] at ht
  all_goals first
      | (subst ht; simp +contextual (maxDischargeDepth := 100) only [State.put_follows, execAck_follows, execLockRelease_follows,
          execPost_follows, ran_follows, h])
      | (obtain ⟨_, _, rfl⟩ := ht; simp +contextual (maxDischargeDepth := 100) only [State.put_follows, execAck_follows, execLockRelease_follows,
          execPost_follows, ran_follows, follows_mk, follows_mk_fresh, follows_mk_filter, follows_ite, h, implies_true])
      | simp_all only

theorem State.writeIrq_follows {s0 s : State} (h : Follows s0 s) (a : Nat) (v : Word) : ∀ t, s.writeIrq a v = some t → Follows s0 t := by
  intro t ht
  unfold State.writeIrq at ht
  repeat' split at ht
  all_goals simp only [Option.some.injEq, Option.map_eq_some_iff] at ht
  · subst ht
    exact ran_follows h (execHostAck_follows h _)
  · subst ht
    exact State.reroute_follows h _ _ (fun u hu => State.put_follows hu _ _ _)
  · subst ht
    exact State.reroute_follows h _ _ (fun u hu => State.put_follows hu _ _ _)
  · obtain ⟨_, _, rfl⟩ := ht
    exact State.sendVec_follows (State.put_follows h _ _ _) _

theorem State.writePower_follows {s0 s : State} (h : Follows s0 s) (v : Word) : Follows s0 (State.writePower s v) := by
  simp +contextual (maxDischargeDepth := 100) only [State.writePower, State.applyStep_follows, State.bits_follows, State.doIf_follows,
      State.put_follows, execCold_follows, execSleep_follows, execWake_follows, execWarm_follows, ran_follows, follows_ite, h, implies_true]

theorem State.writeCore_follows {s0 s : State} (h :
    Follows s0 s) (m a : Nat) (v : Word) : ∀ t, State.writeCore s m a v = some t → Follows s0 t := by
  intro t ht
  unfold State.writeCore at ht
  dsimp only at ht
  (repeat' split at ht) <;> simp only [Option.some.injEq, reduceCtorEq] at ht
  all_goals first
      | (subst ht; simp +contextual (maxDischargeDepth := 100) only [State.bits_follows, State.doIf_follows, State.put_follows,
          State.showGood_follows, execCkptWrite_follows, execCuratorHold_follows, execCuratorRelease_follows, execFailoverDone_follows,
          execHealthWrite_follows, execLeaseClaim_follows, execLeaseRenew_follows, execYield_follows, ran_follows, h, implies_true])
      | (obtain ⟨_, _, rfl⟩ := ht; simp +contextual (maxDischargeDepth := 100) only [State.bits_follows, State.doIf_follows, State.put_follows,
          State.showGood_follows, execCkptWrite_follows, execCuratorHold_follows, execCuratorRelease_follows, execFailoverDone_follows,
          execHealthWrite_follows, execLeaseClaim_follows, execLeaseRenew_follows, execYield_follows, ran_follows, follows_mk, follows_mk_fresh,
          follows_mk_filter, follows_ite, h, implies_true])
      | simp_all only

theorem State.writeHost_follows {s0 s : State} (h : Follows s0 s) (a : Nat) (v : Word) : ∀ t, State.writeHost s a v = some t → Follows s0 t := by
  intro t ht
  unfold State.writeHost at ht
  (repeat' split at ht) <;> simp only [Option.some.injEq, reduceCtorEq] at ht
  all_goals (subst ht; simp +contextual (maxDischargeDepth := 100) only [State.bits_follows, State.doIf_follows, State.put_follows,
      execBumpRollback_follows, execFwCommit_follows, execFwDone_follows, execFwStore_follows, execSetFirst_follows, execSnapshotRequest_follows,
      execTxDoorbell_follows, ran_follows, h, implies_true])

theorem State.writeClove_follows {s0 s : State} (h : Follows s0 s) (a : Nat) (v : Word) : ∀ t, State.writeClove s a v = some t → Follows s0 t := by
  intro t ht
  unfold State.writeClove at ht
  dsimp only at ht
  (repeat' split at ht) <;> simp only [Option.some.injEq, reduceCtorEq] at ht
  all_goals first
      | (subst ht; simp +contextual (maxDischargeDepth := 100) only [State.bits_follows, State.doIf_follows, execCloveHalt_follows,
          execCloveReset_follows, execCloveRun_follows, execKick_follows, ran_follows, h, implies_true])
      | (obtain ⟨_, _, rfl⟩ := ht; simp +contextual (maxDischargeDepth := 100) only [State.bits_follows, State.doIf_follows,
          execCloveHalt_follows, execCloveReset_follows, execCloveRun_follows, execKick_follows, ran_follows, follows_mk, follows_mk_fresh,
          follows_mk_filter, follows_ite, h, implies_true])
      | simp_all only

/-- A write, where it gives one, gives a state that follows `s0`. -/
def WriteFollows (s0 : State) (o : Option State) : Prop := ∀ t, o = some t → Follows s0 t

theorem writeFollows_ite {s0 : State} {a b : Option State} {c : Prop} [Decidable c] (ha : WriteFollows s0 a) (hb : WriteFollows s0 b) :
    WriteFollows s0 (if c then a else b) := by split <;> assumption

theorem writeFollows_some {s0 t : State} (h : Follows s0 t) : WriteFollows s0 (some t) := fun r hr => by
  rw [← Option.some.inj hr]
  exact h

theorem writeFollows_map {α : Type} {s0 : State} {o : Option α} {f : α → State} (h : ∀ x, Follows s0 (f x)) : WriteFollows s0 (o.map f) :=
  fun r hr => by
    rw [Option.map_eq_some_iff] at hr
    obtain ⟨x, _, rfl⟩ := hr
    exact h x

theorem State.writeSpecial_follows {s0 s : State} (h : Follows s0 s) (m a : Nat) (v : Word) : WriteFollows s0 (s.writeSpecial m a v) := by
  have h1 : WriteFollows s0 (some (s.writeCatCtrl v)) := writeFollows_some (State.writeCatCtrl_follows h v)
  have h2 : WriteFollows s0 (some (s.writePower v)) := writeFollows_some (State.writePower_follows h v)
  have h3 : WriteFollows s0 ((elemOf (R.LANE_CTRL 0) 0x400 192 a).map (fun n => s.writeLaneCtrl n v)) :=
    writeFollows_map (fun n => State.writeLaneCtrl_follows h n v)
  have h4 : WriteFollows s0 (s.writeTime a v) := State.writeTime_follows h a v
  have h5 : WriteFollows s0 (s.writeStream a v) := State.writeStream_follows h a v
  have h6 : WriteFollows s0 (s.writeChain a v) := State.writeChain_follows h a v
  have h7 : WriteFollows s0 (s.writeMem a v) := State.writeMem_follows h a v
  have h8 : WriteFollows s0 (s.writeMbox m a v) := State.writeMbox_follows h m a v
  have h9 : WriteFollows s0 (s.writeIrq a v) := State.writeIrq_follows h a v
  have h10 : WriteFollows s0 (s.writeCore m a v) := State.writeCore_follows h m a v
  have h11 : WriteFollows s0 (s.writeHost a v) := State.writeHost_follows h a v
  have h12 : WriteFollows s0 (s.writeClove a v) := State.writeClove_follows h a v
  unfold State.writeSpecial
  refine writeFollows_ite h1 (writeFollows_ite h4 (writeFollows_ite h3 (writeFollows_ite h5 (writeFollows_ite h6 (writeFollows_ite h7
    (writeFollows_ite h8 (writeFollows_ite h9 (writeFollows_ite h2 (writeFollows_ite h10 (writeFollows_ite h9 (writeFollows_ite h11 h12)))))))))))

theorem State.regWrite_follows {s0 s : State} (h : Follows s0 s) (m a : Nat) (v : Word) : ∀ t, s.regWrite m a v = some t → Follows s0 t := by
  intro t ht
  unfold State.regWrite at ht
  dsimp only at ht
  generalize canonReg a = a at ht
  by_cases hs : 0x1B0000 ≤ a ∧ a < 0x1C0000
  · rw [if_pos hs] at ht
    rw [← Option.some.inj ht]
    exact h
  · rw [if_neg hs] at ht
    cases hr : regRow a with
    | none =>
      rw [hr] at ht
      exact (Option.some_ne_none _ ht.symm).elim
    | some r =>
      rw [hr] at ht
      dsimp only at ht
      split at ht
      · rw [← Option.some.inj ht]
        exact ran_follows h (execRwaWrite_follows h _ _)
      · cases hw : s.writeSpecial m a v with
        | none =>
          rw [hw] at ht
          rw [← Option.some.inj ht]
          exact State.wr_follows h _ _
        | some u =>
          rw [hw] at ht
          rw [← Option.some.inj ht]
          exact State.writeSpecial_follows h _ _ _ _ hw

/-- A read, where it gives one, gives a state that follows `s0`. -/
def ReadFollows (s0 : State) (o : Option (State × Word)) : Prop := ∀ r, o = some r → Follows s0 r.1

theorem readFollows_ite {s0 : State} {a b : Option (State × Word)} {c : Prop} [Decidable c] (ha : ReadFollows s0 a) (hb : ReadFollows s0 b) :
    ReadFollows s0 (if c then a else b) := by split <;> assumption

theorem readFollows_some {s0 t : State} {w : Word} (h : Follows s0 t) : ReadFollows s0 (some (t, w)) := fun r hr => by
  rw [← Option.some.inj hr]
  exact h

theorem State.regRead_follows {s0 s : State} (h : Follows s0 s) (m a : Nat) : ReadFollows s0 (s.regRead m a) := by
  have hran : ∀ o, FollowsO s0 o → Follows s0 ({ ran o s with out := s.out } : State) := fun o ho =>
    ⟨(ran_follows h ho).1, (ran_follows h ho).2.1, h.2.2.1, (ran_follows h ho).2.2.2⟩
  unfold State.regRead
  refine readFollows_ite (readFollows_some h) ?_
  split
  · exact fun r hr => (Option.some_ne_none _ hr.symm).elim
  · refine readFollows_ite (readFollows_some h) (readFollows_ite (readFollows_some (State.clr_follows h _)) (readFollows_ite (readFollows_some h)
      (readFollows_ite (readFollows_some (hran _ (execTimeNowRead_follows h))) (readFollows_ite (readFollows_some (hran _ (execSiNowRead_follows h)))
      (readFollows_ite (readFollows_some (hran _ (execSiExpectRead_follows h))) (readFollows_ite (readFollows_some (follows_mk h))
      (readFollows_ite (readFollows_some h) (readFollows_ite (readFollows_ite (readFollows_some (hran _ (execLockRead_follows h _ _ _)))
      (readFollows_ite (readFollows_some (hran _ (execNoticeRead_follows h _ _))) (readFollows_some h))) ?_))))))))
    split
    · exact readFollows_ite (readFollows_some (State.tick1_follows h)) (readFollows_some h)
    · exact readFollows_some h

theorem busRegs_follows {s0 : State} : RbOk s0 busRegs :=
  ⟨fun _ m a _ h hr => State.regRead_follows h m a _ hr, fun _ m a v _ h ht => State.regWrite_follows h m a v _ ht⟩

theorem execRegisterWrite_follows {s0 s : State} (h : Follows s0 s) (m : Fin 21) (a : Nat) (v : Word) :
    FollowsO s0 (execRegisterWrite m a v s) := by
  refine followsO_next (follows_ite ?_ h)
  cases hw : s.regWrite m.val a v with
  | none => exact h
  | some t => exact State.regWrite_follows h _ _ _ _ hw

theorem execRcRead_follows {s0 s : State} (h : Follows s0 s) (m : Fin 21) (a : Nat) : FollowsO s0 (execRcRead m a s) := by
  refine followsO_next (follows_ite ?_ h)
  split
  · rename_i hr
    exact State.emit_follows (State.regRead_follows h _ _ _ hr) _
  · exact h

end Sys2Proof.Machine
end

