-- ==== Sys2Proof/Laws/FollowsOperands.lean ====
section
/-!
SUPPORT. Laws/FollowsOperands.lean: what every operation and meaning can do, for a Mace processor's operand forms, arithmetic and branches: one lemma
each, named after it. A state transformer keeps the registers and memory in canonical form, does not touch the queue, only adds outputs, and uses
no free value again.
-/
namespace Sys2Proof.Machine

theorem State.setG_follows {s0 s : State} (h : Follows s0 s) (pr : Proc) (n : Fin 32) (v : Word) : Follows s0 (State.setG s pr n v) := by
  simp +contextual (maxDischargeDepth := 100) only [State.setG, State.mpMod_follows, follows_ite, h]

theorem State.setPair_follows {s0 s : State} (h : Follows s0 s) (pr : Proc) (n : Fin 32) (v : Nat) : Follows s0 (State.setPair s pr n v) := by
  simp +contextual (maxDischargeDepth := 100) only [State.setPair, State.setG_follows, h]

theorem State.setA_follows {s0 s : State} (h : Follows s0 s) (pr : Proc) (n : Nat) (v : BitVec 40) : Follows s0 (State.setA s pr n v) := by
  simp +contextual (maxDischargeDepth := 100) only [State.setA, State.mpMod_follows, h]

theorem State.setM_follows {s0 s : State} (h : Follows s0 s) (pr : Proc) (n : Nat) (v : Word) : Follows s0 (State.setM s pr n v) := by
  simp +contextual (maxDischargeDepth := 100) only [State.setM, State.mpMod_follows, h]

theorem State.setAcc_follows {s0 s : State} (h : Follows s0 s) (pr : Proc) (n : Fin 4) (v : Int × Int) : Follows s0 (State.setAcc s pr n v) := by
  simp +contextual (maxDischargeDepth := 100) only [State.setAcc, State.mpMod_follows, h]

theorem State.seqTo_follows {s0 s : State} (h : Follows s0 s) (pr : Proc) (n : Nat) : Follows s0 (State.seqTo s pr n) := by
  simp +contextual (maxDischargeDepth := 100) only [State.seqTo, State.mpMod_follows, h]

theorem State.advance_follows {s0 s : State} (h : Follows s0 s) (pr : Proc) : Follows s0 (State.advance s pr) := by
  simp +contextual (maxDischargeDepth := 100) only [State.advance, State.seqTo_follows, h]

theorem State.jump_follows {s0 s : State} (h : Follows s0 s) (pr : Proc) (t : Word) : Follows s0 (State.jump s pr t) := by
  simp +contextual (maxDischargeDepth := 100) only [State.jump, State.mpMod_follows, h]

theorem State.take_follows {s0 s : State} (h : Follows s0 s) (pr : Proc) (cause addr : Nat) : Follows s0 (State.take s pr cause addr) := by
  unfold State.take
  split <;> simp +contextual (maxDischargeDepth := 100) only [State.cloveStop_follows, State.fput_follows, State.mpMod_follows,
      State.wr64_follows, State.wr_follows, h]

theorem State.illegal_follows {s0 s : State} (h : Follows s0 s) (pr : Proc) : Follows s0 (State.illegal s pr) := by
  simp +contextual (maxDischargeDepth := 100) only [State.illegal, State.take_follows, State.tick1_follows, h]

theorem State.instr_follows {s0 s : State} (h : Follows s0 s) (pr : Proc) (f : State → State) (hf : ∀ u, Follows s0 u → Follows s0 (f u)) :
    Follows s0 (State.instr s pr f) := by
  unfold State.instr
  repeat' split
  all_goals simp +contextual (maxDischargeDepth := 100) only [State.take_follows, h, hf]

theorem State.wakeFence_follows {s0 s : State} (h : Follows s0 s) (pr : Proc) : Follows s0 (State.wakeFence s pr) := by
  simp +contextual (maxDischargeDepth := 100) only [State.wakeFence, State.advance_follows, follows_ite, h]

theorem State.wakeMaster_follows {s0 s : State} (h : Follows s0 s) (m : Nat) : Follows s0 (State.wakeMaster s m) := by
  unfold State.wakeMaster
  split <;> simp +contextual (maxDischargeDepth := 100) only [State.showClove_follows, State.wakeFence_follows, h]

theorem State.load_follows {s0 s : State} (h : Follows s0 s) (pr : Proc) (a n : Nat) : Follows s0 (State.load s pr a n).1 := by
  unfold State.load
  repeat' split
  all_goals simp +contextual (maxDischargeDepth := 100) only [State.bridgeRead_follows, State.readAt_follows, State.served_follows,
      busRegs_follows, h]

theorem State.noteStoreErr_follows {s0 s : State} (h : Follows s0 s) (pr : Proc) (a : Nat) : Follows s0 (State.noteStoreErr s pr a) := by
  simp +contextual (maxDischargeDepth := 100) only [State.noteStoreErr, State.mpMod_follows, h]

theorem State.store_follows {s0 s : State} (h : Follows s0 s) (pr : Proc) (a : Nat) (bs : List Byte) : Follows s0 (State.store s pr a bs) := by
  unfold State.store
  repeat' split
  all_goals simp +contextual (maxDischargeDepth := 100) only [State.bridgeWrite_follows, State.noteStoreErr_follows, State.served_follows,
      State.stEnabled_follows, State.writeAt_follows, busRegs_follows, follows_ite, h]

theorem State.dspFlag_follows {s0 s : State} (h : Follows s0 s) (pr : Proc) (bit : Nat) (c : Bool) : Follows s0 (State.dspFlag s pr bit c) := by
  simp +contextual (maxDischargeDepth := 100) only [State.dspFlag, State.mpMod_follows, follows_ite, h]

theorem State.accumulate_follows {s0 s : State} (h : Follows s0 s) (pr : Proc) (n : Fin 4) (p : Int × Option Int) (neg z : Bool) :
    Follows s0 (State.accumulate s pr n p neg z) := by
  simp +contextual (maxDischargeDepth := 100) only [State.accumulate, State.dspFlag_follows, State.setAcc_follows, h]

theorem State.addPower_follows {s0 s : State} (h : Follows s0 s) (pr : Proc) (n : Fin 4) (d : Int) (z : Bool) :
    Follows s0 (State.addPower s pr n d z) := by
  simp +contextual (maxDischargeDepth := 100) only [State.addPower, State.dspFlag_follows, State.setAcc_follows, h]

theorem execMac_follows {s0 s : State} (h : Follows s0 s) (p : Proc) (n : Fin 4) (rs1 rs2 : Fin 32) (conj neg cplx z : Bool) :
    FollowsO s0 (execMac p n rs1 rs2 conj neg cplx z s) := by
  simp +contextual (maxDischargeDepth := 100) only [execMac, State.accumulate_follows, State.advance_follows, State.instr_follows, h,
      implies_true, followsO_next]

theorem execPow_follows {s0 s : State} (h : Follows s0 s) (p : Proc) (n : Fin 4) (rs1 : Fin 32) (cplx : Bool) :
    FollowsO s0 (execPow p n rs1 cplx s) := by
  simp +contextual (maxDischargeDepth := 100) only [execPow, State.addPower_follows, State.advance_follows, State.instr_follows, h, implies_true,
      followsO_next]

theorem execAclr_follows {s0 s : State} (h : Follows s0 s) (p : Proc) (n : Fin 4) : FollowsO s0 (execAclr p n s) := by
  simp +contextual (maxDischargeDepth := 100) only [execAclr, State.advance_follows, State.instr_follows, State.setAcc_follows, h, implies_true,
      followsO_next]

theorem execAld_follows {s0 s : State} (h : Follows s0 s) (p : Proc) (n : Fin 4) (rs1 rs2 : Fin 32) : FollowsO s0 (execAld p n rs1 rs2 s) := by
  simp +contextual (maxDischargeDepth := 100) only [execAld, State.advance_follows, State.instr_follows, State.setAcc_follows, h, implies_true,
      followsO_next]

theorem State.moveAcc_follows {s0 s : State} (h : Follows s0 s) (pr : Proc) (rd : Fin 32) (v : Word × Bool) :
    Follows s0 (State.moveAcc s pr rd v) := by
  simp +contextual (maxDischargeDepth := 100) only [State.moveAcc, State.advance_follows, State.dspFlag_follows, State.setG_follows, h]

theorem execApack_follows {s0 s : State} (h : Follows s0 s) (p : Proc) (rd : Fin 32) (n : Fin 4) : FollowsO s0 (execApack p rd n s) := by
  simp +contextual (maxDischargeDepth := 100) only [execApack, State.instr_follows, State.moveAcc_follows, h, implies_true, followsO_next]

theorem execAmovre_follows {s0 s : State} (h : Follows s0 s) (p : Proc) (rd : Fin 32) (n : Fin 4) : FollowsO s0 (execAmovre p rd n s) := by
  simp +contextual (maxDischargeDepth := 100) only [execAmovre, State.instr_follows, State.moveAcc_follows, h, implies_true, followsO_next]

theorem execAmovim_follows {s0 s : State} (h : Follows s0 s) (p : Proc) (rd : Fin 32) (n : Fin 4) : FollowsO s0 (execAmovim p rd n s) := by
  simp +contextual (maxDischargeDepth := 100) only [execAmovim, State.instr_follows, State.moveAcc_follows, h, implies_true, followsO_next]

theorem State.setOn_follows {s0 s : State} (h : Follows s0 s) (pr : Proc) (rd : Fin 32) (v : Word) : Follows s0 (State.setOn s pr rd v) := by
  simp +contextual (maxDischargeDepth := 100) only [State.setOn, State.advance_follows, State.instr_follows, State.setG_follows, h, implies_true]

theorem State.aluR_follows {s0 s : State} (h : Follows s0 s) (pr : Proc) (f : Word → Word → Word) (rd rs1 rs2 : Fin 32) :
    Follows s0 (State.aluR s pr f rd rs1 rs2) := by
  simp +contextual (maxDischargeDepth := 100) only [State.aluR, State.setOn_follows, h]

theorem execAdd_follows {s0 s : State} (h : Follows s0 s) (p : Proc) (rd rs1 rs2 : Fin 32) : FollowsO s0 (execAdd p rd rs1 rs2 s) := by
  simp +contextual (maxDischargeDepth := 100) only [execAdd, State.aluR_follows, h, followsO_next]

theorem execSub_follows {s0 s : State} (h : Follows s0 s) (p : Proc) (rd rs1 rs2 : Fin 32) : FollowsO s0 (execSub p rd rs1 rs2 s) := by
  simp +contextual (maxDischargeDepth := 100) only [execSub, State.aluR_follows, h, followsO_next]

theorem execAnd_follows {s0 s : State} (h : Follows s0 s) (p : Proc) (rd rs1 rs2 : Fin 32) : FollowsO s0 (execAnd p rd rs1 rs2 s) := by
  simp +contextual (maxDischargeDepth := 100) only [execAnd, State.aluR_follows, h, followsO_next]

theorem execOr_follows {s0 s : State} (h : Follows s0 s) (p : Proc) (rd rs1 rs2 : Fin 32) : FollowsO s0 (execOr p rd rs1 rs2 s) := by
  simp +contextual (maxDischargeDepth := 100) only [execOr, State.aluR_follows, h, followsO_next]

theorem execXor_follows {s0 s : State} (h : Follows s0 s) (p : Proc) (rd rs1 rs2 : Fin 32) : FollowsO s0 (execXor p rd rs1 rs2 s) := by
  simp +contextual (maxDischargeDepth := 100) only [execXor, State.aluR_follows, h, followsO_next]

theorem execSll_follows {s0 s : State} (h : Follows s0 s) (p : Proc) (rd rs1 rs2 : Fin 32) : FollowsO s0 (execSll p rd rs1 rs2 s) := by
  simp +contextual (maxDischargeDepth := 100) only [execSll, State.aluR_follows, h, followsO_next]

theorem execSrl_follows {s0 s : State} (h : Follows s0 s) (p : Proc) (rd rs1 rs2 : Fin 32) : FollowsO s0 (execSrl p rd rs1 rs2 s) := by
  simp +contextual (maxDischargeDepth := 100) only [execSrl, State.aluR_follows, h, followsO_next]

theorem execSra_follows {s0 s : State} (h : Follows s0 s) (p : Proc) (rd rs1 rs2 : Fin 32) : FollowsO s0 (execSra p rd rs1 rs2 s) := by
  simp +contextual (maxDischargeDepth := 100) only [execSra, State.aluR_follows, h, followsO_next]

theorem execSlt_follows {s0 s : State} (h : Follows s0 s) (p : Proc) (rd rs1 rs2 : Fin 32) : FollowsO s0 (execSlt p rd rs1 rs2 s) := by
  simp +contextual (maxDischargeDepth := 100) only [execSlt, State.aluR_follows, h, followsO_next]

theorem execSltu_follows {s0 s : State} (h : Follows s0 s) (p : Proc) (rd rs1 rs2 : Fin 32) : FollowsO s0 (execSltu p rd rs1 rs2 s) := by
  simp +contextual (maxDischargeDepth := 100) only [execSltu, State.aluR_follows, h, followsO_next]

theorem execMul_follows {s0 s : State} (h : Follows s0 s) (p : Proc) (rd rs1 rs2 : Fin 32) : FollowsO s0 (execMul p rd rs1 rs2 s) := by
  simp +contextual (maxDischargeDepth := 100) only [execMul, State.aluR_follows, h, followsO_next]

theorem execMulh_follows {s0 s : State} (h : Follows s0 s) (p : Proc) (rd rs1 rs2 : Fin 32) : FollowsO s0 (execMulh p rd rs1 rs2 s) := by
  simp +contextual (maxDischargeDepth := 100) only [execMulh, State.aluR_follows, h, followsO_next]

theorem execMulhu_follows {s0 s : State} (h : Follows s0 s) (p : Proc) (rd rs1 rs2 : Fin 32) : FollowsO s0 (execMulhu p rd rs1 rs2 s) := by
  simp +contextual (maxDischargeDepth := 100) only [execMulhu, State.aluR_follows, h, followsO_next]

theorem execDiv_follows {s0 s : State} (h : Follows s0 s) (p : Proc) (rd rs1 rs2 : Fin 32) : FollowsO s0 (execDiv p rd rs1 rs2 s) := by
  simp +contextual (maxDischargeDepth := 100) only [execDiv, State.aluR_follows, h, followsO_next]

theorem execDivu_follows {s0 s : State} (h : Follows s0 s) (p : Proc) (rd rs1 rs2 : Fin 32) : FollowsO s0 (execDivu p rd rs1 rs2 s) := by
  simp +contextual (maxDischargeDepth := 100) only [execDivu, State.aluR_follows, h, followsO_next]

theorem execRem_follows {s0 s : State} (h : Follows s0 s) (p : Proc) (rd rs1 rs2 : Fin 32) : FollowsO s0 (execRem p rd rs1 rs2 s) := by
  simp +contextual (maxDischargeDepth := 100) only [execRem, State.aluR_follows, h, followsO_next]

theorem execRemu_follows {s0 s : State} (h : Follows s0 s) (p : Proc) (rd rs1 rs2 : Fin 32) : FollowsO s0 (execRemu p rd rs1 rs2 s) := by
  simp +contextual (maxDischargeDepth := 100) only [execRemu, State.aluR_follows, h, followsO_next]

theorem execMin_follows {s0 s : State} (h : Follows s0 s) (p : Proc) (rd rs1 rs2 : Fin 32) : FollowsO s0 (execMin p rd rs1 rs2 s) := by
  simp +contextual (maxDischargeDepth := 100) only [execMin, State.aluR_follows, h, followsO_next]

theorem execMax_follows {s0 s : State} (h : Follows s0 s) (p : Proc) (rd rs1 rs2 : Fin 32) : FollowsO s0 (execMax p rd rs1 rs2 s) := by
  simp +contextual (maxDischargeDepth := 100) only [execMax, State.aluR_follows, h, followsO_next]

theorem execAdds_follows {s0 s : State} (h : Follows s0 s) (p : Proc) (rd rs1 rs2 : Fin 32) : FollowsO s0 (execAdds p rd rs1 rs2 s) := by
  simp +contextual (maxDischargeDepth := 100) only [execAdds, State.aluR_follows, h, followsO_next]

theorem execSubs_follows {s0 s : State} (h : Follows s0 s) (p : Proc) (rd rs1 rs2 : Fin 32) : FollowsO s0 (execSubs p rd rs1 rs2 s) := by
  simp +contextual (maxDischargeDepth := 100) only [execSubs, State.aluR_follows, h, followsO_next]

theorem execAddi_follows {s0 s : State} (h : Follows s0 s) (p : Proc) (rd rs1 : Fin 32) (imm : BitVec 16) :
    FollowsO s0 (execAddi p rd rs1 imm s) := by
  simp +contextual (maxDischargeDepth := 100) only [execAddi, State.setOn_follows, h, followsO_next]

theorem execAndi_follows {s0 s : State} (h : Follows s0 s) (p : Proc) (rd rs1 : Fin 32) (imm : BitVec 16) :
    FollowsO s0 (execAndi p rd rs1 imm s) := by
  simp +contextual (maxDischargeDepth := 100) only [execAndi, State.setOn_follows, h, followsO_next]

theorem execOri_follows {s0 s : State} (h : Follows s0 s) (p : Proc) (rd rs1 : Fin 32) (imm : BitVec 16) :
    FollowsO s0 (execOri p rd rs1 imm s) := by
  simp +contextual (maxDischargeDepth := 100) only [execOri, State.setOn_follows, h, followsO_next]

theorem execXori_follows {s0 s : State} (h : Follows s0 s) (p : Proc) (rd rs1 : Fin 32) (imm : BitVec 16) :
    FollowsO s0 (execXori p rd rs1 imm s) := by
  simp +contextual (maxDischargeDepth := 100) only [execXori, State.setOn_follows, h, followsO_next]

theorem execSlti_follows {s0 s : State} (h : Follows s0 s) (p : Proc) (rd rs1 : Fin 32) (imm : BitVec 16) :
    FollowsO s0 (execSlti p rd rs1 imm s) := by
  simp +contextual (maxDischargeDepth := 100) only [execSlti, State.setOn_follows, h, followsO_next]

theorem execSltiu_follows {s0 s : State} (h : Follows s0 s) (p : Proc) (rd rs1 : Fin 32) (imm : BitVec 16) :
    FollowsO s0 (execSltiu p rd rs1 imm s) := by
  simp +contextual (maxDischargeDepth := 100) only [execSltiu, State.setOn_follows, h, followsO_next]

theorem execLui_follows {s0 s : State} (h : Follows s0 s) (p : Proc) (rd : Fin 32) (imm : BitVec 16) : FollowsO s0 (execLui p rd imm s) := by
  simp +contextual (maxDischargeDepth := 100) only [execLui, State.setOn_follows, h, followsO_next]

theorem execSlli_follows {s0 s : State} (h : Follows s0 s) (p : Proc) (rd rs1 sh : Fin 32) : FollowsO s0 (execSlli p rd rs1 sh s) := by
  simp +contextual (maxDischargeDepth := 100) only [execSlli, State.setOn_follows, h, followsO_next]

theorem execSrli_follows {s0 s : State} (h : Follows s0 s) (p : Proc) (rd rs1 sh : Fin 32) : FollowsO s0 (execSrli p rd rs1 sh s) := by
  simp +contextual (maxDischargeDepth := 100) only [execSrli, State.setOn_follows, h, followsO_next]

theorem execSrai_follows {s0 s : State} (h : Follows s0 s) (p : Proc) (rd rs1 sh : Fin 32) : FollowsO s0 (execSrai p rd rs1 sh s) := by
  simp +contextual (maxDischargeDepth := 100) only [execSrai, State.setOn_follows, h, followsO_next]

theorem State.branchOp_follows {s0 s : State} (h : Follows s0 s) (pr : Proc) (f : Word → Word → Bool) (rs1 rs2 : Fin 32) (disp : BitVec 16) :
    Follows s0 (State.branchOp s pr f rs1 rs2 disp) := by
  simp +contextual (maxDischargeDepth := 100) only [State.branchOp, State.advance_follows, State.instr_follows, State.jump_follows, follows_ite,
      h, implies_true]

theorem execBeq_follows {s0 s : State} (h : Follows s0 s) (p : Proc) (rs1 rs2 : Fin 32) (disp : BitVec 16) :
    FollowsO s0 (execBeq p rs1 rs2 disp s) := by
  simp +contextual (maxDischargeDepth := 100) only [execBeq, State.branchOp_follows, h, followsO_next]

theorem execBne_follows {s0 s : State} (h : Follows s0 s) (p : Proc) (rs1 rs2 : Fin 32) (disp : BitVec 16) :
    FollowsO s0 (execBne p rs1 rs2 disp s) := by
  simp +contextual (maxDischargeDepth := 100) only [execBne, State.branchOp_follows, h, followsO_next]

theorem execBlt_follows {s0 s : State} (h : Follows s0 s) (p : Proc) (rs1 rs2 : Fin 32) (disp : BitVec 16) :
    FollowsO s0 (execBlt p rs1 rs2 disp s) := by
  simp +contextual (maxDischargeDepth := 100) only [execBlt, State.branchOp_follows, h, followsO_next]

theorem execBge_follows {s0 s : State} (h : Follows s0 s) (p : Proc) (rs1 rs2 : Fin 32) (disp : BitVec 16) :
    FollowsO s0 (execBge p rs1 rs2 disp s) := by
  simp +contextual (maxDischargeDepth := 100) only [execBge, State.branchOp_follows, h, followsO_next]

theorem execBltu_follows {s0 s : State} (h : Follows s0 s) (p : Proc) (rs1 rs2 : Fin 32) (disp : BitVec 16) :
    FollowsO s0 (execBltu p rs1 rs2 disp s) := by
  simp +contextual (maxDischargeDepth := 100) only [execBltu, State.branchOp_follows, h, followsO_next]

theorem execBgeu_follows {s0 s : State} (h : Follows s0 s) (p : Proc) (rs1 rs2 : Fin 32) (disp : BitVec 16) :
    FollowsO s0 (execBgeu p rs1 rs2 disp s) := by
  simp +contextual (maxDischargeDepth := 100) only [execBgeu, State.branchOp_follows, h, followsO_next]

theorem execJ_follows {s0 s : State} (h : Follows s0 s) (p : Proc) (disp : BitVec 26) : FollowsO s0 (execJ p disp s) := by
  simp +contextual (maxDischargeDepth := 100) only [execJ, State.instr_follows, State.jump_follows, h, implies_true, followsO_next]

theorem execJal_follows {s0 s : State} (h : Follows s0 s) (p : Proc) (disp : BitVec 26) : FollowsO s0 (execJal p disp s) := by
  simp +contextual (maxDischargeDepth := 100) only [execJal, State.instr_follows, State.jump_follows, State.setG_follows, h, implies_true,
      followsO_next]

theorem execJr_follows {s0 s : State} (h : Follows s0 s) (p : Proc) (rs1 : Fin 32) : FollowsO s0 (execJr p rs1 s) := by
  simp +contextual (maxDischargeDepth := 100) only [execJr, State.instr_follows, State.jump_follows, h, implies_true, followsO_next]

theorem execJalr_follows {s0 s : State} (h : Follows s0 s) (p : Proc) (rd rs1 : Fin 32) : FollowsO s0 (execJalr p rd rs1 s) := by
  simp +contextual (maxDischargeDepth := 100) only [execJalr, State.instr_follows, State.jump_follows, State.setG_follows, h, implies_true,
      followsO_next]

theorem execSeta_follows {s0 s : State} (h : Follows s0 s) (p : Proc) (i : Fin 8) (rs1 rs2 : Fin 32) : FollowsO s0 (execSeta p i rs1 rs2 s) := by
  simp +contextual (maxDischargeDepth := 100) only [execSeta, State.advance_follows, State.instr_follows, State.setA_follows, h, implies_true,
      followsO_next]

theorem execGeta_follows {s0 s : State} (h : Follows s0 s) (p : Proc) (rd : Fin 32) (i : Fin 8) : FollowsO s0 (execGeta p rd i s) := by
  simp +contextual (maxDischargeDepth := 100) only [execGeta, State.advance_follows, State.instr_follows, State.setG_follows, h, implies_true,
      followsO_next]

theorem execGetah_follows {s0 s : State} (h : Follows s0 s) (p : Proc) (rd : Fin 32) (i : Fin 8) : FollowsO s0 (execGetah p rd i s) := by
  simp +contextual (maxDischargeDepth := 100) only [execGetah, State.advance_follows, State.instr_follows, State.setG_follows, h, implies_true,
      followsO_next]

theorem execSetm_follows {s0 s : State} (h : Follows s0 s) (p : Proc) (i : Fin 8) (rs1 : Fin 32) : FollowsO s0 (execSetm p i rs1 s) := by
  simp +contextual (maxDischargeDepth := 100) only [execSetm, State.advance_follows, State.instr_follows, State.setM_follows, h, implies_true,
      followsO_next]

theorem execGetm_follows {s0 s : State} (h : Follows s0 s) (p : Proc) (rd : Fin 32) (i : Fin 8) : FollowsO s0 (execGetm p rd i s) := by
  simp +contextual (maxDischargeDepth := 100) only [execGetm, State.advance_follows, State.instr_follows, State.setG_follows, h, implies_true,
      followsO_next]

theorem execAdda_follows {s0 s : State} (h : Follows s0 s) (p : Proc) (i : Fin 8) (rs1 : Fin 32) : FollowsO s0 (execAdda p i rs1 s) := by
  simp +contextual (maxDischargeDepth := 100) only [execAdda, State.advance_follows, State.instr_follows, State.setA_follows, h, implies_true,
      followsO_next]

end Sys2Proof.Machine
end

