-- ==== Sys2Proof/Laws/FollowsMatrix.lean ====
section
/-!
SUPPORT. Laws/FollowsMatrix.lean: what every operation and meaning can do, for the matrix's transactions and the run of DMA descriptors: one lemma
each, named after it. A state transformer keeps the registers and memory in canonical form, does not touch the queue, only adds outputs, and uses
no free value again.
-/
namespace Sys2Proof.Machine

theorem State.place_follows {s0 s : State} (h : Follows s0 s) (done : List Txn) (t : Txn) : Follows s0 (State.place s done t).1 := by
  simp +contextual (maxDischargeDepth := 100) only [State.place, State.count_follows, State.doIf_follows, State.portTake_follows, h, implies_true,
      follows_ite1]

theorem State.placeAll_follows {s0 : State} : ∀ {l done : List Txn} {s : State}, Follows s0 s → Follows s0 (s.placeAll done l).1
  | [], _, _, h => h
  | t :: rest, done, s, h => by
    unfold State.placeAll
    split
    · exact State.placeAll_follows (l := rest) h
    · exact State.placeAll_follows (l := rest) (State.place_follows h _ _)

theorem State.release_follows {s0 s : State} (h : Follows s0 s) : Follows s0 (State.release s) := by
  simp +contextual (maxDischargeDepth := 100) only [State.release, State.matMod_follows, State.placeAll_follows, h]

theorem State.answerHost_follows {s0 s : State} (h : Follows s0 s) (tag : Nat) (wr : Bool) (status : Nat) (bs : List Byte) :
    Follows s0 (State.answerHost s tag wr status bs) := by
  simp +contextual (maxDischargeDepth := 100) only [State.answerHost, State.count_follows, State.emit_follows, State.raise_follows, follows_ite, h]

theorem State.answer_follows {s0 s : State} (h : Follows s0 s) (t : Txn) (ok ur : Bool) (bs : List Byte) :
    Follows s0 (State.answer s t ok ur bs) := by
  unfold State.answer
  split <;> simp +contextual (maxDischargeDepth := 100) only [State.answerHost_follows, State.emit_follows, follows_ite, h]

theorem State.present_follows {s0 s : State} (h : Follows s0 s) (t : Txn) : Follows s0 (State.present s t) := by
  simp +contextual (maxDischargeDepth := 100) only [State.present, State.answer_follows, State.busErr_follows, State.doIf_follows,
      State.matMod_follows, State.noteOver_follows, State.place_follows, follows_ite, h, implies_true]

theorem execMatrixTransaction_follows {s0 s : State} (h : Follows s0 s) (m : Fin 20) (id : Fin 32) (qos : BitVec 4) (hint wr : Bool)
    (addr : BitVec 40) (data : List (Option Byte)) : FollowsO s0 (execMatrixTransaction m id qos hint wr addr data s) := by
  simp +contextual (maxDischargeDepth := 100) only [execMatrixTransaction, State.present_follows, h, followsO_next]

theorem State.carryOut_follows {s0 s : State} (h : Follows s0 s) (t : Txn) : Follows s0 (State.carryOut s t).1 := by
  simp +contextual (maxDischargeDepth := 100) only [State.carryOut, State.busRead_follows, State.busWrite_follows, busRegs_follows, h, follows_ite1]

theorem execMatrixResponse_follows {s0 s : State} (h : Follows s0 s) (k : Nat) : FollowsO s0 (execMatrixResponse k s) := by
  unfold execMatrixResponse
  split <;> simp +contextual (maxDischargeDepth := 100) only [State.answer_follows, State.carryOut_follows, State.count_follows,
      State.matMod_follows, State.raise_follows, State.release_follows, State.wakeMaster_follows, follows_ite, h, followsO_next]

theorem execTimeout_follows {s0 s : State} (h : Follows s0 s) (k : Nat) : FollowsO s0 (execTimeout k s) := by
  unfold execTimeout
  split <;> simp +contextual (maxDischargeDepth := 100) only [State.answer_follows, State.busErr_follows, State.count_follows,
      State.matMod_follows, State.release_follows, State.wakeMaster_follows, follows_ite, h, followsO_next]

theorem execMatrixAgePromote_follows {s0 s : State} (h : Follows s0 s) (k : Nat) : FollowsO s0 (execMatrixAgePromote k s) := by
  unfold execMatrixAgePromote
  split <;> simp +contextual (maxDischargeDepth := 100) only [State.count_follows, State.matMod_follows, follows_ite, h, followsO_next]

theorem execSaffronWindow_follows {s0 s : State} (h : Follows s0 s) : FollowsO s0 (execSaffronWindow s) := by
  simp +contextual (maxDischargeDepth := 100) only [execSaffronWindow, State.fput_follows, State.matMod_follows, h, followsO_next]

theorem State.accessNow_follows {s0 s : State} (h : Follows s0 s) (t : Txn) : Follows s0 (State.accessNow s t) := by
  simp +contextual (maxDischargeDepth := 100) only [State.accessNow, State.answer_follows, State.busErr_follows, State.carryOut_follows,
      State.served_follows, follows_ite, h]

theorem execCarrelWindowAccess_follows {s0 s : State} (h : Follows s0 s) (m : Fin 20) (id : Fin 32) (qos : BitVec 4) (j : Fin 400)
    (off : Fin 0x40000) (wr : Bool) (data : List (Option Byte)) : FollowsO s0 (execCarrelWindowAccess m id qos j off wr data s) := by
  simp +contextual (maxDischargeDepth := 100) only [execCarrelWindowAccess, State.accessNow_follows, h, followsO_next]

theorem execAliasWrite_follows {s0 s : State} (h : Follows s0 s) (m : Fin 20) (id : Fin 32) (qos : BitVec 4) (k : Fin 32) (off : Fin 0x40000)
    (data : List (Option Byte)) : FollowsO s0 (execAliasWrite m id qos k off data s) := by
  simp +contextual (maxDischargeDepth := 100) only [execAliasWrite, State.accessNow_follows, h, followsO_next]

theorem execRegisterBridgeAccess_follows {s0 s : State} (h : Follows s0 s) (m : Fin 20) (id : Fin 32) (qos : BitVec 4) (off : Fin 0x1000000)
    (wr : Bool) (data : List (Option Byte)) : FollowsO s0 (execRegisterBridgeAccess m id qos off wr data s) := by
  simp +contextual (maxDischargeDepth := 100) only [execRegisterBridgeAccess, State.accessNow_follows, h, followsO_next]

theorem execCloveOutsideAccess_follows {s0 s : State} (h : Follows s0 s) (m : Fin 20) (id : Fin 32) (qos : BitVec 4) (e : Fin 16)
    (loc : Fin 0x60000) (wr parity : Bool) (data : List (Option Byte)) : FollowsO s0 (execCloveOutsideAccess m id qos e loc wr parity data s) := by
  simp +contextual (maxDischargeDepth := 100) only [execCloveOutsideAccess, State.accessNow_follows, State.answer_follows, State.busErr_follows,
      State.count_follows, follows_ite, h, followsO_next]

theorem execPcieInboundRequest_follows {s0 s : State} (h : Follows s0 s) (bar2 : Bool) (off : BitVec 36) (wr relaxed : Bool) (tag : BitVec 10)
    (data : List (Option Byte)) : FollowsO s0 (execPcieInboundRequest bar2 off wr relaxed tag data s) := by
  simp +contextual (maxDischargeDepth := 100) only [execPcieInboundRequest, State.emit_follows, State.present_follows, follows_mk, follows_ite, h,
      followsO_next]

theorem State.dmaComplete_follows {s0 s : State} (h : Follows s0 s) (n : Nat) : Follows s0 (State.dmaComplete s n) := by
  unfold State.dmaComplete
  split <;> simp +contextual (maxDischargeDepth := 100) only [State.chMod'_follows, State.count_follows, State.raiseIf_follows,
      State.setCh_follows, State.settle_follows, h]

theorem State.dmaFail_follows {s0 s : State} (h : Follows s0 s) (n code beat addr : Nat) : Follows s0 (State.dmaFail s n code beat addr) := by
  unfold State.dmaFail
  dsimp only
  repeat' split
  all_goals simp +contextual (maxDischargeDepth := 100) only [State.chMod'_follows, State.count_follows, State.raise_follows, State.setCh_follows,
      State.wr64_follows, h]

theorem State.fenceCheck_follows {s0 s : State} (h : Follows s0 s) (n : Nat) : Follows s0 (State.fenceCheck s n) := by
  unfold State.fenceCheck
  dsimp only
  repeat' split
  all_goals simp +contextual (maxDischargeDepth := 100) only [State.chMod'_follows, State.dmaComplete_follows, State.emit_follows, h]

theorem State.issueWrite_follows {s0 s : State} (h : Follows s0 s) (n k b : Nat) : Follows s0 (State.issueWrite s n k b) := by
  unfold State.issueWrite
  dsimp only
  repeat' split
  all_goals simp +contextual (maxDischargeDepth := 100) only [State.chMod'_follows, State.countBy_follows, State.dmaMod_follows,
      State.showBuf_follows, h]

theorem State.afterWrites_follows {s0 s : State} (h : Follows s0 s) (n : Nat) : Follows s0 (State.afterWrites s n) := by
  unfold State.afterWrites
  dsimp only
  repeat' split
  all_goals simp +contextual (maxDischargeDepth := 100) only [State.dmaComplete_follows, State.setCh_follows, State.settle_follows, h]

theorem State.serveWrites_follows {s0 : State} : ∀ {n : Nat} {s : State}, Follows s0 s → Follows s0 (s.serveWrites n)
  | 0, _, h => h
  | n + 1, s, h => by
    unfold State.serveWrites
    split
    · exact h
    · split
      · exact h
      · split
        · exact h
        · exact State.serveWrites_follows (n := n) (State.afterWrites_follows (State.issueWrite_follows h _ _ _) _)

theorem State.pump_follows {s0 s : State} (h : Follows s0 s) : Follows s0 (State.pump s) := by
  simp +contextual (maxDischargeDepth := 100) only [State.pump, State.serveWrites_follows, h]

theorem foldl_follows {α β : Type} {s0 : State} {f : State × β → α → State × β} (hf : ∀ p x, Follows s0 p.1 → Follows s0 (f p x).1) :
    ∀ {l : List α} {p : State × β}, Follows s0 p.1 → Follows s0 (l.foldl f p).1
  | [], _, h => h
  | x :: rest, p, h => foldl_follows hf (l := rest) (hf p x h)

theorem State.dmaRead_follows {s0 s : State} (h : Follows s0 s) (n a len : Nat) (forced : Option Nat) :
    Follows s0 (s.dmaRead n a len forced).1 := by
  unfold State.dmaRead
  refine foldl_follows (fun p x hp => ?_) (State.served_follows h _ _ _)
  dsimp only
  repeat' split
  · exact State.busErr_follows hp _ _ _ _
  all_goals exact State.readAt_follows hp _ _ _ _ busRegs_follows

theorem State.dmaReadBack_follows {s0 s : State} (h : Follows s0 s) (n : Nat) (host : List Byte) (ok : Bool) (forced : Option Nat) :
    Follows s0 (s.dmaReadBack n host ok forced) := by
  unfold State.dmaReadBack
  extract_lets c
  split
  · extract_lets a r s1
    refine State.settle_follows (State.pump_follows (State.forEach_follows (fun u e hu => State.dmaFail_follows hu _ _ _ _)
      (State.chMod'_follows ?_ _ _))) _
    simp only [r]
    split
    · split <;> exact h
    · exact State.dmaRead_follows h _ _ _ _
  · split
    · have hs : ∀ b f, (∀ u, Follows s0 u → Follows s0 (f u)) → Follows s0 ((s.chMod' n (fun x => { x with fenceRead := false })).doIf b f) :=
        fun b f hf => State.doIf_follows (State.chMod'_follows h _ _) hf
      have hd := hs (!ok || forced.isSome) _ (fun u hu => State.dmaFail_follows hu n 7 (forced.getD 0) (match c.desc with
        | some d => d.dstAt (d.total - 1) / 4 * 4
        | none => 0))
      exact follows_ite (State.dmaComplete_follows hd n) (State.settle_follows hd n)
    · exact h

theorem State.dmaWrite_follows {s0 s : State} (h : Follows s0 s) (n a : Nat) (bs : List (Option Byte)) (forced : Option Nat) :
    Follows s0 (s.dmaWrite n a bs forced).1 := by
  unfold State.dmaWrite
  split
  · split
    · exact h
    · exact State.dmaPut_follows h _ _ _ _ _ busRegs_follows
  · refine foldl_follows (fun p x hp => ?_) (State.served_follows h _ _ _)
    dsimp only
    split
    · exact State.busErr_follows hp _ _ _ _
    · exact State.writeAt_follows hp _ _ _ _ busRegs_follows

theorem State.dmaWritten_follows {s0 s : State} (h : Follows s0 s) (n : Nat) (forced : Option Nat) : Follows s0 (State.dmaWritten s n forced) := by
  unfold State.dmaWritten
  dsimp only
  repeat' split
  all_goals simp +contextual (maxDischargeDepth := 100) only [State.chMod'_follows, State.dmaFail_follows, State.dmaWrite_follows,
      State.fenceCheck_follows, State.forEach_follows, State.pump_follows, State.settle_follows, h, implies_true]

theorem State.accrue_follows {s0 s : State} (h : Follows s0 s) (cyc : Nat) : Follows s0 (State.accrue s cyc) := by
  simp +contextual (maxDischargeDepth := 100) only [State.accrue, State.chMod'_follows, State.forEach_follows, h, implies_true]

theorem execDescriptorFetch_follows {s0 s : State} (h : Follows s0 s) (n : Fin 32) (host : List Byte) (ok : Bool) :
    FollowsO s0 (execDescriptorFetch n host ok s) := by
  unfold execDescriptorFetch
  dsimp only
  repeat' split
  all_goals simp +contextual (maxDischargeDepth := 100) only [State.chMod'_follows, State.count_follows, State.emit_follows, State.fput_follows,
      State.raise_follows, State.readAt_follows, State.served_follows, State.setCh_follows, State.settle_follows, State.wr64_follows,
      busRegs_follows, h, followsO_next]

theorem execDmaBurst_follows {s0 s : State} (h : Follows s0 s) (cyc : Nat) : FollowsO s0 (execDmaBurst cyc s) := by
  unfold execDmaBurst
  dsimp only
  repeat' split
  all_goals simp +contextual (maxDischargeDepth := 100) only [State.accrue_follows, State.chMod'_follows, State.dmaMod_follows,
      State.doIf_follows, State.emit_follows, State.pump_follows, State.showBuf_follows, h, implies_true, followsO_next]

theorem execDmaReadResponse_follows {s0 s : State} (h : Follows s0 s) (n : Fin 32) (host : List Byte) (ok : Bool) :
    FollowsO s0 (execDmaReadResponse n host ok s) := by
  simp +contextual (maxDischargeDepth := 100) only [execDmaReadResponse, State.dmaReadBack_follows, h, followsO_next]

theorem execDmaWriteResponse_follows {s0 s : State} (h : Follows s0 s) (n : Fin 32) : FollowsO s0 (execDmaWriteResponse n s) := by
  simp +contextual (maxDischargeDepth := 100) only [execDmaWriteResponse, State.dmaWritten_follows, h, followsO_next]

theorem execFenceTimeout_follows {s0 s : State} (h : Follows s0 s) (n : Fin 32) : FollowsO s0 (execFenceTimeout n s) := by
  simp +contextual (maxDischargeDepth := 100) only [execFenceTimeout, State.raise_follows, State.writeback_follows, follows_ite, h, followsO_next]

theorem execDmaErr_follows {s0 s : State} (h : Follows s0 s) (n : Fin 32) (wr : Bool) (beat : Fin 8) : FollowsO s0 (execDmaErr n wr beat s) := by
  simp +contextual (maxDischargeDepth := 100) only [execDmaErr, State.dmaReadBack_follows, State.dmaWritten_follows, follows_ite, h, followsO_next]

theorem execCplTimeout_follows {s0 s : State} (h : Follows s0 s) (n : Fin 32) : FollowsO s0 (execCplTimeout n s) := by
  simp +contextual (maxDischargeDepth := 100) only [execCplTimeout, State.count_follows, State.dmaReadBack_follows, State.emit_follows,
      State.raise_follows, follows_ite, h, followsO_next]

end Sys2Proof.Machine
end

