-- ==== Sys2Proof/Laws/FollowsMace.lean ====
section
/-!
SUPPORT. Laws/FollowsMace.lean: what every operation and meaning can do, for a Mace processor's loads and stores, system instructions, moves and DSP instructions: one lemma
each, named after it. A state transformer keeps the registers and memory in canonical form, does not touch the queue, only adds outputs, and uses
no free value again.
-/
namespace Sys2Proof.Machine

theorem State.loadOp_follows {s0 s : State} (h : Follows s0 s) (pr : Proc) (n : Nat) (f : Nat → Nat) (g : Fin 32) (mode : Fin 4) (a : Fin 8)
    (imm : BitVec 16) : Follows s0 (State.loadOp s pr n f g mode a imm) := by
  unfold State.loadOp
  dsimp only
  repeat' (first
      | with_reducible assumption
      | with_reducible apply follows_ite
      | with_reducible apply State.advance_follows
      | with_reducible apply State.illegal_follows
      | with_reducible apply State.instr_follows
      | with_reducible apply State.load_follows
      | with_reducible apply State.setA_follows
      | with_reducible apply State.setG_follows
      | with_reducible apply State.setPair_follows
      | with_reducible apply State.take_follows
      | (intro)
      | split
      | (simp +contextual (maxDischargeDepth := 100) only [*, State.advance_follows, State.illegal_follows, State.instr_follows,
          State.load_follows, State.setA_follows, State.setG_follows, State.setPair_follows, State.take_follows, follows_mk, follows_mk_fresh,
          follows_mk_filter, follows_ite, h, implies_true]; done))

theorem State.storeOp_follows {s0 s : State} (h : Follows s0 s) (pr : Proc) (n : Nat) (g : Fin 32) (mode : Fin 4) (a : Fin 8) (imm : BitVec 16) :
    Follows s0 (State.storeOp s pr n g mode a imm) := by
  unfold State.storeOp
  dsimp only
  repeat' (first
      | with_reducible assumption
      | with_reducible apply follows_ite
      | with_reducible apply State.advance_follows
      | with_reducible apply State.illegal_follows
      | with_reducible apply State.instr_follows
      | with_reducible apply State.setA_follows
      | with_reducible apply State.store_follows
      | with_reducible apply State.take_follows
      | (intro)
      | split
      | (simp +contextual (maxDischargeDepth := 100) only [*, State.advance_follows, State.illegal_follows, State.instr_follows,
          State.setA_follows, State.store_follows, State.take_follows, follows_mk, follows_mk_fresh, follows_mk_filter, follows_ite, h,
          implies_true]; done))

theorem execLb_follows {s0 s : State} (h : Follows s0 s) (p : Proc) (g : Fin 32) (mode : Fin 4) (a : Fin 8) (imm : BitVec 16) :
    FollowsO s0 (execLb p g mode a imm s) := by
  simp +contextual (maxDischargeDepth := 100) only [execLb, State.loadOp_follows, h, followsO_next]

theorem execLbu_follows {s0 s : State} (h : Follows s0 s) (p : Proc) (g : Fin 32) (mode : Fin 4) (a : Fin 8) (imm : BitVec 16) :
    FollowsO s0 (execLbu p g mode a imm s) := by
  simp +contextual (maxDischargeDepth := 100) only [execLbu, State.loadOp_follows, h, followsO_next]

theorem execLh_follows {s0 s : State} (h : Follows s0 s) (p : Proc) (g : Fin 32) (mode : Fin 4) (a : Fin 8) (imm : BitVec 16) :
    FollowsO s0 (execLh p g mode a imm s) := by
  simp +contextual (maxDischargeDepth := 100) only [execLh, State.loadOp_follows, h, followsO_next]

theorem execLhu_follows {s0 s : State} (h : Follows s0 s) (p : Proc) (g : Fin 32) (mode : Fin 4) (a : Fin 8) (imm : BitVec 16) :
    FollowsO s0 (execLhu p g mode a imm s) := by
  simp +contextual (maxDischargeDepth := 100) only [execLhu, State.loadOp_follows, h, followsO_next]

theorem execLw_follows {s0 s : State} (h : Follows s0 s) (p : Proc) (g : Fin 32) (mode : Fin 4) (a : Fin 8) (imm : BitVec 16) :
    FollowsO s0 (execLw p g mode a imm s) := by
  simp +contextual (maxDischargeDepth := 100) only [execLw, State.loadOp_follows, h, followsO_next]

theorem execLd_follows {s0 s : State} (h : Follows s0 s) (p : Proc) (g : Fin 32) (mode : Fin 4) (a : Fin 8) (imm : BitVec 16) :
    FollowsO s0 (execLd p g mode a imm s) := by
  simp +contextual (maxDischargeDepth := 100) only [execLd, State.loadOp_follows, h, followsO_next]

theorem execSb_follows {s0 s : State} (h : Follows s0 s) (p : Proc) (g : Fin 32) (mode : Fin 4) (a : Fin 8) (imm : BitVec 16) :
    FollowsO s0 (execSb p g mode a imm s) := by
  simp +contextual (maxDischargeDepth := 100) only [execSb, State.storeOp_follows, h, followsO_next]

theorem execSh_follows {s0 s : State} (h : Follows s0 s) (p : Proc) (g : Fin 32) (mode : Fin 4) (a : Fin 8) (imm : BitVec 16) :
    FollowsO s0 (execSh p g mode a imm s) := by
  simp +contextual (maxDischargeDepth := 100) only [execSh, State.storeOp_follows, h, followsO_next]

theorem execSw_follows {s0 s : State} (h : Follows s0 s) (p : Proc) (g : Fin 32) (mode : Fin 4) (a : Fin 8) (imm : BitVec 16) :
    FollowsO s0 (execSw p g mode a imm s) := by
  simp +contextual (maxDischargeDepth := 100) only [execSw, State.storeOp_follows, h, followsO_next]

theorem execSd_follows {s0 s : State} (h : Follows s0 s) (p : Proc) (g : Fin 32) (mode : Fin 4) (a : Fin 8) (imm : BitVec 16) :
    FollowsO s0 (execSd p g mode a imm s) := by
  simp +contextual (maxDischargeDepth := 100) only [execSd, State.storeOp_follows, h, followsO_next]

theorem State.csrWrite_follows {s0 s : State} (h :
    Follows s0 s) (pr : Proc) (csr : Nat) (v : Word) : ∀ t, State.csrWrite s pr csr v = some t → Follows s0 t := by
  intro t ht
  unfold State.csrWrite at ht
  dsimp only at ht
  (repeat' split at ht) <;> simp only [Option.some.injEq, reduceCtorEq] at ht
  all_goals first
      | (subst ht; simp +contextual (maxDischargeDepth := 100) only [State.fput_follows, State.mpMod_follows, h])
      | (obtain ⟨_, _, rfl⟩ := ht; simp +contextual (maxDischargeDepth := 100) only [State.fput_follows, State.kick_follows, State.mpMod_follows,
          follows_mk, follows_mk_fresh, follows_mk_filter, follows_ite, h, implies_true])
      | simp_all only

theorem execRdcsr_follows {s0 s : State} (h : Follows s0 s) (p : Proc) (rd : Fin 32) (csr : BitVec 12) : FollowsO s0 (execRdcsr p rd csr s) := by
  refine followsO_next (State.instr_follows h _ _ (fun u hu => follows_ite ?_ ?_))
  · exact State.advance_follows (State.setG_follows (State.mpMod_follows (State.tick1_follows (State.tick1_follows hu)) _ _) _ _ _) _
  · split
    · exact State.advance_follows (State.setG_follows hu _ _ _) _
    · exact State.illegal_follows hu _

theorem execWrcsr_follows {s0 s : State} (h : Follows s0 s) (p : Proc) (rs1 : Fin 32) (csr : BitVec 12) : FollowsO s0 (execWrcsr p rs1 csr s) := by
  refine followsO_next (State.instr_follows h _ _ (fun u hu => ?_))
  split
  · rename_i ht
    exact State.advance_follows (State.csrWrite_follows hu _ _ _ _ ht) _
  · exact State.illegal_follows hu _

theorem execRdtime_follows {s0 s : State} (h : Follows s0 s) (p : Proc) (rd : Fin 32) : FollowsO s0 (execRdtime p rd s) := by
  simp +contextual (maxDischargeDepth := 100) only [execRdtime, State.advance_follows, State.illegal_follows, State.instr_follows,
      State.setPair_follows, follows_ite, h, implies_true, followsO_next]

theorem execRdsi_follows {s0 s : State} (h : Follows s0 s) (p : Proc) (rd : Fin 32) : FollowsO s0 (execRdsi p rd s) := by
  simp +contextual (maxDischargeDepth := 100) only [execRdsi, State.advance_follows, State.illegal_follows, State.instr_follows,
      State.setPair_follows, follows_ite, h, implies_true, followsO_next]

theorem State.showWait_follows {s0 s : State} (h : Follows s0 s) (p : Proc) : Follows s0 (s.showWait p) := by
  unfold State.showWait
  split
  · exact State.showIdle_follows h _
  · exact State.showClove_follows h _

theorem State.waitFor_follows {s0 s : State} (h : Follows s0 s) (pr : Proc) (w : Wait) : Follows s0 (State.waitFor s pr w) := by
  simp +contextual (maxDischargeDepth := 100) only [State.waitFor, State.mpMod_follows, State.showWait_follows, h]

theorem execWaitsi_follows {s0 s : State} (h : Follows s0 s) (p : Proc) (rs1 : Fin 32) : FollowsO s0 (execWaitsi p rs1 s) := by
  simp +contextual (maxDischargeDepth := 100) only [execWaitsi, State.advance_follows, State.illegal_follows, State.instr_follows,
      State.waitFor_follows, follows_ite, h, implies_true, followsO_next]

theorem execWaitsiEnd_follows {s0 s : State} (h : Follows s0 s) (p : Proc) : FollowsO s0 (execWaitsiEnd p s) := by
  unfold execWaitsiEnd
  split <;> simp +contextual (maxDischargeDepth := 100) only [State.advance_follows, State.showWait_follows, follows_ite, h, followsO_next]

theorem execWfe_follows {s0 s : State} (h : Follows s0 s) (p : Proc) (rs1 : Fin 32) : FollowsO s0 (execWfe p rs1 s) := by
  unfold execWfe
  split <;> simp +contextual (maxDischargeDepth := 100) only [State.advance_follows, State.illegal_follows, State.instr_follows,
      State.waitFor_follows, follows_ite, h, implies_true, followsO_next]

theorem execWfeEnd_follows {s0 s : State} (h : Follows s0 s) (e : Fin 16) : FollowsO s0 (execWfeEnd e s) := by
  unfold execWfeEnd
  split <;> simp +contextual (maxDischargeDepth := 100) only [State.advance_follows, State.showClove_follows, follows_ite, h, followsO_next]

theorem execFence_follows {s0 s : State} (h : Follows s0 s) (p : Proc) : FollowsO s0 (execFence p s) := by
  simp +contextual (maxDischargeDepth := 100) only [execFence, State.instr_follows, State.waitFor_follows, State.wakeFence_follows, h,
      implies_true, followsO_next]

theorem execTrap_follows {s0 s : State} (h : Follows s0 s) (p : Proc) (code : BitVec 12) : FollowsO s0 (execTrap p code s) := by
  simp +contextual (maxDischargeDepth := 100) only [execTrap, State.instr_follows, State.take_follows, h, implies_true, followsO_next]

theorem execIllegalInstruction_follows {s0 s : State} (h : Follows s0 s) (p : Proc) (why : Fin 3) (addr : BitVec 40) :
    FollowsO s0 (execIllegalInstruction p why addr s) := by
  simp +contextual (maxDischargeDepth := 100) only [execIllegalInstruction, State.illegal_follows, State.instr_follows, State.take_follows,
      follows_ite, h, implies_true, followsO_next]

theorem execStoreErr_follows {s0 s : State} (h : Follows s0 s) (p : Proc) : FollowsO s0 (execStoreErr p s) := by
  unfold execStoreErr
  split <;> simp +contextual (maxDischargeDepth := 100) only [State.mpMod_follows, State.showWait_follows, State.take_follows, follows_ite, h,
      followsO_next]

theorem execEret_follows {s0 s : State} (h : Follows s0 s) (p : Proc) : FollowsO s0 (execEret p s) := by
  unfold execEret
  split <;> simp +contextual (maxDischargeDepth := 100) only [State.illegal_follows, State.instr_follows, State.mpMod_follows,
      State.returnHandler_follows, follows_ite, h, implies_true, followsO_next]

theorem execStop_follows {s0 s : State} (h : Follows s0 s) (p : Proc) : FollowsO s0 (execStop p s) := by
  unfold execStop
  split <;> simp +contextual (maxDischargeDepth := 100) only [State.advance_follows, State.cloveStop_follows, State.illegal_follows,
      State.instr_follows, h, implies_true, followsO_next]

theorem State.startMove_follows {s0 s : State} (h : Follows s0 s) (e : Fin 16) (mv : Move) : Follows s0 (State.startMove s e mv) := by
  simp +contextual (maxDischargeDepth := 100) only [State.startMove, State.advance_follows, State.mpMod_follows, State.setA_follows,
      State.showClove_follows, h]

theorem execBmov_follows {s0 s : State} (h : Follows s0 s) (p : Proc) (rd : Fin 32) (aL aR : Fin 8) (inward : Bool) (sel : Fin 4) :
    FollowsO s0 (execBmov p rd aL aR inward sel s) := by
  unfold execBmov
  split <;> simp +contextual (maxDischargeDepth := 100) only [State.advance_follows, State.illegal_follows, State.instr_follows,
      State.mpMod_follows, State.startMove_follows, State.take_follows, State.waitFor_follows, follows_ite, h, implies_true, followsO_next]

theorem State.runMove_follows {s0 s : State} (h : Follows s0 s) (e : Nat) (mv : Move) (drop' : Bool) : Follows s0 (s.runMove e mv drop').1 := by
  unfold State.runMove
  refine foldl_follows (fun p x hp => ?_) h
  have hb := State.served_follows hp ⟨2 + e, mv.id, mv.qos⟩ (mv.mat + x.1) x.2
  dsimp only
  split
  · dsimp only
    split
    · exact State.stBytes_follows (State.readAt_follows hb _ _ _ _ busRegs_follows) _
    · exact State.readAt_follows hb _ _ _ _ busRegs_follows
  · exact State.writeAt_follows hb _ _ _ _ busRegs_follows

theorem execBmovComplete_follows {s0 s : State} (h : Follows s0 s) (e : Fin 16) (k : Fin 4) : FollowsO s0 (execBmovComplete e k s) := by
  unfold execBmovComplete
  dsimp only
  repeat' split
  all_goals simp +contextual (maxDischargeDepth := 100) only [State.cloveMovesDone_follows, State.mpMod_follows, State.runMove_follows,
      State.showClove_follows, State.startMove_follows, State.take_follows, State.wakeFence_follows, h, followsO_next]

theorem execBwait_follows {s0 s : State} (h : Follows s0 s) (p : Proc) : FollowsO s0 (execBwait p s) := by
  unfold execBwait
  split <;> simp +contextual (maxDischargeDepth := 100) only [State.advance_follows, State.illegal_follows, State.instr_follows,
      State.waitFor_follows, follows_ite, h, implies_true, followsO_next]

theorem State.postMod_follows {s0 s : State} (h : Follows s0 s) (pr : Proc) (a m : Nat) : Follows s0 (State.postMod s pr a m) := by
  simp +contextual (maxDischargeDepth := 100) only [State.postMod, State.setA_follows, h]

theorem State.threeBus_follows {s0 s : State} (h : Follows s0 s) (p : Proc) (d : DBits) (op : DOp) (f : State → Opnd → Opnd → State)
    (hf : ∀ u x0 x1, Follows s0 u → Follows s0 (f u x0 x1)) : Follows s0 (State.threeBus s p d op f) := by
  unfold State.threeBus
  dsimp only
  repeat' (first
      | with_reducible assumption
      | with_reducible apply follows_ite
      | with_reducible apply State.advance_follows
      | with_reducible apply State.doIf_follows
      | with_reducible apply State.illegal_follows
      | with_reducible apply State.instr_follows
      | with_reducible apply State.postMod_follows
      | with_reducible apply State.setG_follows
      | with_reducible apply State.stBytes_follows
      | with_reducible apply State.stNat_follows
      | with_reducible apply State.take_follows
      | (intro)
      | split
      | (simp +contextual (maxDischargeDepth := 100) only [*]; done))

theorem dMul_follows {s0 s : State} (h : Follows s0 s) (p : Proc) (d : DBits) (z : Bool) (x o : Opnd) : Follows s0 (dMul p d z s x o) := by
  simp +contextual (maxDischargeDepth := 100) only [dMul, State.accumulate_follows, h]

theorem execDMac_follows {s0 s : State} (h : Follows s0 s) (p : Proc) (d : DBits) : FollowsO s0 (execDMac p d s) := by
  simp +contextual (maxDischargeDepth := 100) only [execDMac, State.threeBus_follows, dMul_follows, h, implies_true, followsO_next]

theorem execDMacz_follows {s0 s : State} (h : Follows s0 s) (p : Proc) (d : DBits) : FollowsO s0 (execDMacz p d s) := by
  simp +contextual (maxDischargeDepth := 100) only [execDMacz, State.threeBus_follows, dMul_follows, h, implies_true, followsO_next]

theorem execDMacy_follows {s0 s : State} (h : Follows s0 s) (p : Proc) (d : DBits) : FollowsO s0 (execDMacy p d s) := by
  simp +contextual (maxDischargeDepth := 100) only [execDMacy, State.threeBus_follows, dMul_follows, h, implies_true, followsO_next]

theorem execDMacyz_follows {s0 s : State} (h : Follows s0 s) (p : Proc) (d : DBits) : FollowsO s0 (execDMacyz p d s) := by
  simp +contextual (maxDischargeDepth := 100) only [execDMacyz, State.threeBus_follows, dMul_follows, h, implies_true, followsO_next]

theorem execFtap_follows {s0 s : State} (h : Follows s0 s) (p : Proc) (d : DBits) : FollowsO s0 (execFtap p d s) := by
  simp +contextual (maxDischargeDepth := 100) only [execFtap, State.threeBus_follows, dMul_follows, h, implies_true, followsO_next]

theorem execFtapz_follows {s0 s : State} (h : Follows s0 s) (p : Proc) (d : DBits) : FollowsO s0 (execFtapz p d s) := by
  simp +contextual (maxDischargeDepth := 100) only [execFtapz, State.threeBus_follows, dMul_follows, h, implies_true, followsO_next]

theorem execDPow_follows {s0 s : State} (h : Follows s0 s) (p : Proc) (d : DBits) : FollowsO s0 (execDPow p d s) := by
  simp +contextual (maxDischargeDepth := 100) only [execDPow, State.addPower_follows, State.threeBus_follows, h, implies_true, followsO_next]

theorem execDPowz_follows {s0 s : State} (h : Follows s0 s) (p : Proc) (d : DBits) : FollowsO s0 (execDPowz p d s) := by
  simp +contextual (maxDischargeDepth := 100) only [execDPowz, State.addPower_follows, State.threeBus_follows, h, implies_true, followsO_next]

theorem execDMove_follows {s0 s : State} (h : Follows s0 s) (p : Proc) (d : DBits) : FollowsO s0 (execDMove p d s) := by
  simp +contextual (maxDischargeDepth := 100) only [execDMove, State.threeBus_follows, h, implies_true, followsO_next]

theorem execLoop_follows {s0 s : State} (h : Follows s0 s) (p : Proc) (imm : Bool) (count : BitVec 13) (rc : Fin 32) (len : BitVec 12) :
    FollowsO s0 (execLoop p imm count rc len s) := by
  unfold execLoop
  split <;> simp +contextual (maxDischargeDepth := 100) only [State.illegal_follows, State.instr_follows, State.mpMod_follows,
      State.seqTo_follows, follows_ite, h, implies_true, followsO_next]

end Sys2Proof.Machine
end

