-- ==== Sys2Proof/Laws/FollowsStart.lean ====
section
/-!
SUPPORT. Laws/FollowsStart.lean: what every operation and meaning can do, for accessions taking effect, the start, snapshots and the test port: one lemma
each, named after it. A state transformer keeps the registers and memory in canonical form, does not touch the queue, only adds outputs, and uses
no free value again.
-/
namespace Sys2Proof.Machine

theorem State.putInForce_follows {s0 s : State} (h : Follows s0 s) : Follows s0 (State.putInForce s) := by
  simp +contextual (maxDischargeDepth := 100) only [State.putInForce, State.catMod_follows, State.catReport_follows, State.catView_follows,
      State.doIf_follows, State.fput_follows, State.showPending_follows, State.takeRole_follows, h, implies_true]

theorem State.monAccede_follows {s0 s : State} (h : Follows s0 s) (o : State) (x : Nat) : Follows s0 (State.monAccede s o x) := by
  simp +contextual (maxDischargeDepth := 100) only [State.monAccede, State.ingMod_follows, follows_ite, h]

theorem State.lanesAccede_follows {s0 s : State} (h : Follows s0 s) (o : State) : Follows s0 (State.lanesAccede s o) := by
  simp +contextual (maxDischargeDepth := 100) only [State.lanesAccede, State.forEach_follows, State.laneAccede_follows, State.quireAccede_follows,
      h, implies_true]

theorem State.accedeCommon_follows {s0 s : State} (h : Follows s0 s) (x y : Nat) : Follows s0 (State.accedeCommon s x y) := by
  simp +contextual (maxDischargeDepth := 100) only [State.accedeCommon, State.beamAccede_follows, State.catMod_follows, State.monAccede_follows,
      State.putInForce_follows, State.raise_follows, State.retireAtAcc_follows, State.throttleAccede_follows, follows_mk, h]

theorem State.accedeLight_follows {s0 s : State} (h : Follows s0 s) (x : Nat) : Follows s0 (State.accedeLight s x) := by
  simp +contextual (maxDischargeDepth := 100) only [State.accedeLight, State.accedeCommon_follows, State.arrMod_follows, State.catMod_follows,
      State.closeInteg_follows, State.count_follows, State.fput_follows, State.lanesAccede_follows, State.openInteg_follows,
      State.setShadow_follows, State.showRegions_follows, h]

theorem State.gapStaging_follows {s0 s : State} (h : Follows s0 s) (x y : Nat) : Follows s0 (State.gapStaging s x y) := by
  simp +contextual (maxDischargeDepth := 100) only [State.gapStaging, State.countBy_follows, State.ingMod_follows, State.showStage_follows, h]

theorem State.countGapIn_follows {s0 s : State} (h : Follows s0 s) (x y : Nat) : Follows s0 (State.countGapIn s x y) := by
  simp +contextual (maxDischargeDepth := 100) only [State.countGapIn, State.countBy_follows, State.forEach_follows, h, implies_true]

theorem State.retireDone_follows {s0 s : State} (h : Follows s0 s) : Follows s0 (State.retireDone s) := by
  simp +contextual (maxDischargeDepth := 100) only [State.retireDone, State.catMod_follows, State.doIf_follows, State.fput_follows, h, implies_true]

theorem State.accedeHeavy_follows {s0 s : State} (h : Follows s0 s) (x y : Nat) : Follows s0 (State.accedeHeavy s x y) := by
  simp +contextual (maxDischargeDepth := 100) only [State.accedeHeavy, State.accedeCommon_follows, State.catMod_follows, State.closeInteg_follows,
      State.countGapIn_follows, State.count_follows, State.fput_follows, State.gapStaging_follows, State.setShadow_follows, h]

theorem execAcceded_follows {s0 s : State} (h : Follows s0 s) : FollowsO s0 (execAcceded s) := by
  unfold execAcceded
  split <;> simp +contextual (maxDischargeDepth := 100) only [State.accedeHeavy_follows, State.accedeLight_follows, State.catMod_follows,
      State.fput_follows, State.helloSync_follows, State.latchChanged_follows, State.refuse_follows, State.setShadow_follows, follows_ite, h,
      followsO_next]

theorem State.abandonRetiring_follows {s0 s : State} (h : Follows s0 s) (x : Nat) : Follows s0 (State.abandonRetiring s x) := by
  simp +contextual (maxDischargeDepth := 100) only [State.abandonRetiring, State.abandonRun_follows, State.arrMod_follows,
      State.drainIssue_follows, State.dropReady_follows, State.forEach_follows, State.ingMod_follows, follows_ite, h, implies_true]

theorem State.loadPlan_follows {s0 s : State} (h : Follows s0 s) : Follows s0 (State.loadPlan s) := by
  simp +contextual (maxDischargeDepth := 100) only [State.loadPlan, State.arrMod_follows, State.forEach_follows, State.fput_follows,
      State.refreshMissing_follows, State.showSets_follows, h, implies_true]

theorem execRemap_follows {s0 s : State} (h : Follows s0 s) : FollowsO s0 (execRemap s) := by
  unfold execRemap
  split <;> simp +contextual (maxDischargeDepth := 100) only [State.abandonRetiring_follows, State.catMod_follows, State.cloveReload_follows,
      State.lanesAccede_follows, State.latchChanged_follows, State.loadPlan_follows, State.retireDone_follows, State.showRegions_follows,
      follows_ite, h, followsO_next]

theorem execRemapEnd_follows {s0 s : State} (h : Follows s0 s) : FollowsO s0 (execRemapEnd s) := by
  unfold execRemapEnd
  split <;> simp +contextual (maxDischargeDepth := 100) only [State.cloveLoaded_follows, follows_ite, h, followsO_next]

theorem execResumed_follows {s0 s : State} (h : Follows s0 s) : FollowsO s0 (execResumed s) := by
  unfold execResumed
  split <;> simp +contextual (maxDischargeDepth := 100) only [State.catMod_follows, State.fput_follows, State.openInteg_follows,
      State.raise_follows, State.retireDone_follows, State.setShadow_follows, follows_ite, h, followsO_next]

theorem State.bootMod_follows {s0 s : State} (h : Follows s0 s) (f : BootSt → BootSt) : Follows s0 (State.bootMod s f) := by
  simp +contextual (maxDischargeDepth := 100) only [State.bootMod, follows_mk, h]

theorem State.warn_follows {s0 s : State} (h : Follows s0 s) (w : Nat) : Follows s0 (State.warn s w) := by
  simp +contextual (maxDischargeDepth := 100) only [State.warn, State.doIf_follows, State.fput_follows, h, implies_true]

theorem State.warnIf_follows {s0 s : State} (h : Follows s0 s) (c : Bool) (w : Nat) : Follows s0 (State.warnIf s c w) := by
  simp +contextual (maxDischargeDepth := 100) only [State.warnIf, State.warn_follows, follows_ite, h]

theorem State.countFail_follows {s0 s : State} (h : Follows s0 s) : Follows s0 (State.countFail s) := by
  simp +contextual (maxDischargeDepth := 100) only [State.countFail, State.fput_follows, h]

theorem State.showRecord_follows {s0 s : State} (h : Follows s0 s) (b : List Byte) (n : Nat) : Follows s0 (State.showRecord s b n) := by
  simp +contextual (maxDischargeDepth := 100) only [State.showRecord, State.forEach_follows, State.fput_follows, h, implies_true]

theorem State.takeBoot_follows {s0 s : State} (h : Follows s0 s) : Follows s0 (State.takeBoot s) := by
  simp +contextual (maxDischargeDepth := 100) only [State.takeBoot, State.bootMod_follows, State.doIf_follows, State.fput_follows,
      State.powMod_follows, State.showBootSlot_follows, State.showRecord_follows, State.warnIf_follows, State.wrN_follows, h, implies_true]

theorem State.endUnderReference_follows {s0 s : State} (h : Follows s0 s) : Follows s0 (State.endUnderReference s) := by
  simp +contextual (maxDischargeDepth := 100) only [State.endUnderReference, State.fput_follows, State.loadPlan_follows,
      State.showPending_follows, h]

theorem State.bootFails_follows {s0 s : State} (h : Follows s0 s) (code : Nat) : Follows s0 (State.bootFails s code) := by
  simp +contextual (maxDischargeDepth := 100) only [State.bootFails, State.bootMod_follows, State.countFail_follows,
      State.endUnderReference_follows, State.fput_follows, State.raise_follows, h]

theorem State.railsUp_follows {s0 s : State} (h : Follows s0 s) (first : Bool) : Follows s0 (State.railsUp s first) := by
  simp +contextual (maxDischargeDepth := 100) only [State.railsUp, State.emit_follows, State.forEach_follows, follows_ite, h, implies_true]

theorem State.railsFail_follows {s0 s : State} (h : Follows s0 s) (code : Nat) : Follows s0 (State.railsFail s code) := by
  simp +contextual (maxDischargeDepth := 100) only [State.railsFail, State.bootMod_follows, State.chMod_follows, State.countFail_follows,
      State.fput_follows, State.railsDown_follows, State.raise_follows, State.unpowered_follows, State.wr_follows, follows_ite, h]

theorem State.autoAccede_follows {s0 s : State} (h : Follows s0 s) : Follows s0 (State.autoAccede s) := by
  simp +contextual (maxDischargeDepth := 100) only [State.autoAccede, State.refuse_follows, State.requestAcc_follows, follows_ite, h]

theorem State.bootEnds_follows {s0 s : State} (h : Follows s0 s) : Follows s0 (State.bootEnds s) := by
  simp +contextual (maxDischargeDepth := 100) only [State.bootEnds, State.autoAccede_follows, State.endUnderReference_follows, State.fput_follows,
      State.raiseIf_follows, State.raise_follows, h]

theorem State.atStep_follows {s0 s : State} (h : Follows s0 s) (n : Nat) : Follows s0 (State.atStep s n) := by
  simp +contextual (maxDischargeDepth := 100) only [State.atStep, State.fput_follows, h]

theorem State.skips_follows {s0 s : State} (h : Follows s0 s) (n : Nat) : Follows s0 (State.skips s n) := by
  simp +contextual (maxDischargeDepth := 100) only [State.skips, State.fput_follows, h]

theorem State.enterStep13_follows {s0 s : State} (h : Follows s0 s) : Follows s0 (State.enterStep13 s) := by
  simp +contextual (maxDischargeDepth := 100) only [State.enterStep13, State.atStep_follows, State.skips_follows, State.startSweep_follows,
      follows_ite, h]

theorem State.enterStep12_follows {s0 s : State} (h : Follows s0 s) : Follows s0 (State.enterStep12 s) := by
  simp +contextual (maxDischargeDepth := 100) only [State.enterStep12, State.atStep_follows, State.enterStep13_follows, State.skips_follows,
      follows_ite, h]

theorem State.enterStep11_follows {s0 s : State} (h : Follows s0 s) : Follows s0 (State.enterStep11 s) := by
  simp +contextual (maxDischargeDepth := 100) only [State.enterStep11, State.atStep_follows, State.enterStep12_follows, follows_ite, h]

theorem State.enterStep10_follows {s0 s : State} (h : Follows s0 s) : Follows s0 (State.enterStep10 s) := by
  simp +contextual (maxDischargeDepth := 100) only [State.enterStep10, State.atStep_follows, State.carrelLose_follows, State.doIf_follows,
      State.startInitScrub_follows, h, implies_true]

theorem State.afterBist_follows {s0 s : State} (h : Follows s0 s) : Follows s0 (State.afterBist s) := by
  simp +contextual (maxDischargeDepth := 100) only [State.afterBist, State.fput_follows, State.refreshMissing_follows, State.warnIf_follows, h]

theorem State.enterStep9_follows {s0 s : State} (h : Follows s0 s) : Follows s0 (State.enterStep9 s) := by
  simp +contextual (maxDischargeDepth := 100) only [State.enterStep9, State.afterBist_follows, State.atStep_follows, State.enterStep10_follows,
      State.skips_follows, follows_ite, h]

theorem State.enterStep8_follows {s0 s : State} (h : Follows s0 s) : Follows s0 (State.enterStep8 s) := by
  simp +contextual (maxDischargeDepth := 100) only [State.enterStep8, State.atStep_follows, State.forEach_follows, State.portDetect_follows, h,
      implies_true]

theorem State.enterStep7_follows {s0 s : State} (h : Follows s0 s) : Follows s0 (State.enterStep7 s) := by
  simp +contextual (maxDischargeDepth := 100) only [State.enterStep7, State.atStep_follows, State.startTraining_follows, h]

theorem State.offerHost_follows {s0 s : State} (h : Follows s0 s) : Follows s0 (State.offerHost s) := by
  simp +contextual (maxDischargeDepth := 100) only [State.offerHost, State.doIf_follows, State.fput_follows, h, implies_true]

theorem State.enterStep6_follows {s0 s : State} (h : Follows s0 s) : Follows s0 (State.enterStep6 s) := by
  simp +contextual (maxDischargeDepth := 100) only [State.enterStep6, State.atStep_follows, State.bootMod_follows, State.offerHost_follows, h]

theorem State.enterStep4_follows {s0 s : State} (h : Follows s0 s) : Follows s0 (State.enterStep4 s) := by
  simp +contextual (maxDischargeDepth := 100) only [State.enterStep4, State.atStep_follows, State.enterBoot_follows, h]

theorem State.enterStep3_follows {s0 s : State} (h : Follows s0 s) : Follows s0 (State.enterStep3 s) := by
  simp +contextual (maxDischargeDepth := 100) only [State.enterStep3, State.atStep_follows, State.enterStep4_follows, State.skips_follows,
      follows_ite, h]

theorem execStart_follows {s0 s : State} (h : Follows s0 s) (sel : Fin 4) (head : Bool) : FollowsO s0 (execStart sel head s) := by
  simp +contextual (maxDischargeDepth := 100) only [execStart, State.atStep_follows, State.bootMod_follows, State.chMod_follows,
      State.railsUp_follows, State.takeBoot_follows, State.takeRole_follows, follows_ite, h, followsO_next]

theorem State.loadFuses_follows {s0 s : State} (h : Follows s0 s) : Follows s0 (State.loadFuses s) := by
  simp +contextual (maxDischargeDepth := 100) only [State.loadFuses, State.wr64_follows, State.wrN_follows, h]

theorem State.trySource_follows {s0 s : State} (h : Follows s0 s) : Follows s0 (State.trySource s) := by
  unfold State.trySource
  split <;> simp +contextual (maxDischargeDepth := 100) only [State.bootFails_follows, State.bootMod_follows, State.enterStep7_follows,
      State.fput_follows, State.fwTake_follows, State.offerHost_follows, State.stBytes_follows, follows_ite, h]

theorem State.bistBad_follows {s0 s : State} (h : Follows s0 s) (p : Nat) (carrel : Bool) : Follows s0 (State.bistBad s p carrel) := by
  unfold State.bistBad
  split <;> simp +contextual (maxDischargeDepth := 100) only [State.fput_follows, State.lastErr_follows, State.moveTile_follows,
      State.nameSpares_follows, State.raise_follows, State.takeOut_follows, follows_ite, h]

theorem State.takeBist_follows {s0 s : State} (h : Follows s0 s) (bad : List (Nat × Bool)) : Follows s0 (State.takeBist s bad) := by
  simp +contextual (maxDischargeDepth := 100) only [State.takeBist, State.bistBad_follows, State.forEach_follows, h, implies_true]

theorem State.keepImage_follows {s0 s : State} (h : Follows s0 s) : Follows s0 (State.keepImage s) := by
  simp +contextual (maxDischargeDepth := 100) only [State.keepImage, State.arcPut_follows, follows_ite, h]

theorem State.leaveStep13_follows {s0 s : State} (h : Follows s0 s) : Follows s0 (State.leaveStep13 s) := by
  simp +contextual (maxDischargeDepth := 100) only [State.leaveStep13, State.atStep_follows, State.warnIf_follows, h]

theorem State.verifyBoot_follows {s0 s : State} (h : Follows s0 s) (ok : Bool) : Follows s0 (State.verifyBoot s ok) := by
  simp +contextual (maxDischargeDepth := 100) only [State.verifyBoot, State.catMod_follows, State.fput_follows, State.judgeShadow_follows,
      State.loadFails_follows, State.raise_follows, State.warn_follows, follows_ite, h]

theorem execStartStepDone_follows {s0 s : State} (h : Follows s0 s) (us : Nat) (ok : Bool) (bad : List (Nat × Bool)) :
    FollowsO s0 (execStartStepDone us ok bad s) := by
  unfold execStartStepDone
  repeat' split
  all_goals simp +contextual (maxDischargeDepth := 100) only [State.afterBist_follows, State.atStep_follows, State.bootEnds_follows,
      State.bootFails_follows, State.enterStep10_follows, State.enterStep11_follows, State.enterStep12_follows, State.enterStep13_follows,
      State.enterStep3_follows, State.enterStep4_follows, State.enterStep6_follows, State.enterStep8_follows, State.enterStep9_follows,
      State.fput_follows, State.keepImage_follows, State.leaveStep13_follows, State.loadFuses_follows, State.railsFail_follows,
      State.railsUp_follows, State.takeBist_follows, State.trySource_follows, State.verifyBoot_follows, State.wrN_follows, follows_mk, h,
      followsO_next]

theorem execBootRomSelftest_follows {s0 s : State} (h : Follows s0 s) (c : Fin 2) (pass : Bool) : FollowsO s0 (execBootRomSelftest c pass s) := by
  simp +contextual (maxDischargeDepth := 100) only [execBootRomSelftest, State.bootFails_follows, State.bootMod_follows, State.enterBoot_follows,
      State.enterHeld_follows, State.fput_follows, State.giveLease_follows, State.warn_follows, follows_ite, h, followsO_next]

theorem execRailTimeout_follows {s0 s : State} (h : Follows s0 s) : FollowsO s0 (execRailTimeout s) := by
  simp +contextual (maxDischargeDepth := 100) only [execRailTimeout, State.railsFail_follows, follows_ite, h, followsO_next]

theorem execStartRetry_follows {s0 s : State} (h : Follows s0 s) : FollowsO s0 (execStartRetry s) := by
  simp +contextual (maxDischargeDepth := 100) only [execStartRetry, State.atStep_follows, State.bootMod_follows, State.railsUp_follows,
      State.takeBoot_follows, State.takeRole_follows, State.wr_follows, follows_ite, h, followsO_next]

theorem execRefWaitTimeout_follows {s0 s : State} (h : Follows s0 s) : FollowsO s0 (execRefWaitTimeout s) := by
  simp +contextual (maxDischargeDepth := 100) only [execRefWaitTimeout, State.enterStep13_follows, State.warn_follows, follows_ite, h,
      followsO_next]

theorem execHostWaitTimeout_follows {s0 s : State} (h : Follows s0 s) : FollowsO s0 (execHostWaitTimeout s) := by
  simp +contextual (maxDischargeDepth := 100) only [execHostWaitTimeout, State.bootFails_follows, State.fput_follows, follows_ite, h, followsO_next]

theorem execChainEnumWaitTimeout_follows {s0 s : State} (h : Follows s0 s) : FollowsO s0 (execChainEnumWaitTimeout s) := by
  simp +contextual (maxDischargeDepth := 100) only [execChainEnumWaitTimeout, State.leaveStep13_follows, follows_ite, h, followsO_next]

theorem State.timesShown_follows {s0 s : State} (h : Follows s0 s) : Follows s0 (State.timesShown s) := by
  simp +contextual (maxDischargeDepth := 100) only [State.timesShown, execSiExpectRead_follows, execSiNowRead_follows, execTimeNowRead_follows,
      ran_follows, h]

theorem State.latchBlock_follows {s0 s : State} (h : Follows s0 s) (b : Nat) : Follows s0 (State.latchBlock s b).1 := by
  simp +contextual (maxDischargeDepth := 100) only [State.latchBlock, State.tick1_follows, h, follows_ite1]

theorem execSnapshotLatch_follows {s0 s : State} (h : Follows s0 s) (b : Fin 21) : FollowsO s0 (execSnapshotLatch b s) := by
  simp +contextual (maxDischargeDepth := 100) only [execSnapshotLatch, State.doIf_follows, State.emit_follows, State.latchBlock_follows,
      follows_mk, follows_ite, h, implies_true, followsO_next]

theorem State.writeImage_follows {s0 s : State} (h : Follows s0 s) (k : Nat) (ws : Tab Word) : Follows s0 (State.writeImage s k ws) := by
  simp +contextual (maxDischargeDepth := 100) only [State.writeImage, State.forEach_follows, State.stNat_follows, follows_mk_filter, h,
      implies_true]

theorem execSnapDone_follows {s0 s : State} (h : Follows s0 s) : FollowsO s0 (execSnapDone s) := by
  simp +contextual (maxDischargeDepth := 100) only [execSnapDone, State.forEach_follows, State.fput_follows, State.raise_follows,
      State.wr64_follows, State.wr_follows, State.writeImage_follows, follows_mk, follows_ite, h, implies_true, followsO_next]

theorem State.tapMod_follows {s0 s : State} (h : Follows s0 s) (f : TapSt → TapSt) : Follows s0 (State.tapMod s f) := by
  simp +contextual (maxDischargeDepth := 100) only [State.tapMod, follows_mk, h]

theorem State.scan_follows {s0 s : State} (h : Follows s0 s) (reg tdi : List Bool) : Follows s0 (State.scan s reg tdi) := by
  simp +contextual (maxDischargeDepth := 100) only [State.scan, State.emit_follows, h]

theorem State.tapSelect_follows {s0 s : State} (h : Follows s0 s) (k : Nat) (drives highz : Bool) :
    Follows s0 (State.tapSelect s k drives highz) := by
  simp +contextual (maxDischargeDepth := 100) only [State.tapSelect, State.tapMod_follows, h]

theorem State.driveBalls_follows {s0 s : State} (h : Follows s0 s) : Follows s0 (State.driveBalls s) := by
  simp +contextual (maxDischargeDepth := 100) only [State.driveBalls, State.emit_follows, h]

theorem State.scanCells_follows {s0 s : State} (h : Follows s0 s) (pins tdi : List Bool) : Follows s0 (State.scanCells s pins tdi) := by
  simp +contextual (maxDischargeDepth := 100) only [State.scanCells, State.scan_follows, State.tapMod_follows, h]

theorem execBypassInstruction_follows {s0 s : State} (h : Follows s0 s) (tdi : List Bool) : FollowsO s0 (execBypassInstruction tdi s) := by
  simp +contextual (maxDischargeDepth := 100) only [execBypassInstruction, State.scan_follows, State.tapSelect_follows, h, followsO_next]

theorem execIdcode_follows {s0 s : State} (h : Follows s0 s) (tdi : List Bool) : FollowsO s0 (execIdcode tdi s) := by
  simp +contextual (maxDischargeDepth := 100) only [execIdcode, State.scan_follows, State.tapSelect_follows, h, followsO_next]

theorem execSamplePreload_follows {s0 s : State} (h : Follows s0 s) (pins tdi : List Bool) : FollowsO s0 (execSamplePreload pins tdi s) := by
  simp +contextual (maxDischargeDepth := 100) only [execSamplePreload, State.scanCells_follows, State.tapSelect_follows, h, followsO_next]

theorem execExtest_follows {s0 s : State} (h : Follows s0 s) (pins tdi : List Bool) : FollowsO s0 (execExtest pins tdi s) := by
  simp +contextual (maxDischargeDepth := 100) only [execExtest, State.driveBalls_follows, State.scanCells_follows, State.tapSelect_follows, h,
      followsO_next]

theorem execClamp_follows {s0 s : State} (h : Follows s0 s) (tdi : List Bool) : FollowsO s0 (execClamp tdi s) := by
  simp +contextual (maxDischargeDepth := 100) only [execClamp, State.driveBalls_follows, State.scan_follows, State.tapSelect_follows, h,
      followsO_next]

theorem execHighz_follows {s0 s : State} (h : Follows s0 s) (tdi : List Bool) : FollowsO s0 (execHighz tdi s) := by
  simp +contextual (maxDischargeDepth := 100) only [execHighz, State.scan_follows, State.tapSelect_follows, h, followsO_next]

theorem execExtestPulse_follows {s0 s : State} (h : Follows s0 s) (pins tdi : List Bool) : FollowsO s0 (execExtestPulse pins tdi s) := by
  simp +contextual (maxDischargeDepth := 100) only [execExtestPulse, State.driveBalls_follows, State.scanCells_follows, State.tapSelect_follows,
      h, followsO_next]

theorem execExtestTrain_follows {s0 s : State} (h : Follows s0 s) (pins tdi : List Bool) : FollowsO s0 (execExtestTrain pins tdi s) := by
  simp +contextual (maxDischargeDepth := 100) only [execExtestTrain, State.driveBalls_follows, State.scanCells_follows, State.tapSelect_follows,
      h, followsO_next]

theorem execBootRead_follows {s0 s : State} (h : Follows s0 s) (tdi : List Bool) : FollowsO s0 (execBootRead tdi s) := by
  simp +contextual (maxDischargeDepth := 100) only [execBootRead, State.scan_follows, State.tapSelect_follows, h, followsO_next]

end Sys2Proof.Machine
end

