-- ==== Sys2Proof/Laws/State.lean ====
section
/-!
SUPPORT. Laws/State.lean: what every update of the state changes, field by field, and what reads of registers, of their fields and of memory
give after a write.
-/
namespace Sys2Proof.Machine

/-! ### wr -/

@[simp] theorem State.wr_regs (s : State) (a : Nat) (v : Word) : (s.wr a v).regs = tset 0#32 s.regs a v := rfl
@[simp] theorem State.wr_mem (s : State) (a : Nat) (v : Word) : (s.wr a v).mem = s.mem := rfl
@[simp] theorem State.wr_carrelEra (s : State) (a : Nat) (v : Word) : (s.wr a v).carrelEra = s.carrelEra := rfl
@[simp] theorem State.wr_poison (s : State) (a : Nat) (v : Word) : (s.wr a v).poison = s.poison := rfl
@[simp] theorem State.wr_oldRegs (s : State) (a : Nat) (v : Word) : (s.wr a v).oldRegs = s.oldRegs := rfl
@[simp] theorem State.wr_hiLatch (s : State) (a : Nat) (v : Word) : (s.wr a v).hiLatch = s.hiLatch := rfl
@[simp] theorem State.wr_accSi (s : State) (a : Nat) (v : Word) : (s.wr a v).accSi = s.accSi := rfl
@[simp] theorem State.wr_out (s : State) (a : Nat) (v : Word) : (s.wr a v).out = s.out := rfl
@[simp] theorem State.wr_fresh (s : State) (a : Nat) (v : Word) : (s.wr a v).fresh = s.fresh := rfl
@[simp] theorem State.wr_lanes (s : State) (a : Nat) (v : Word) : (s.wr a v).lanes = s.lanes := rfl
@[simp] theorem State.wr_quireNext (s : State) (a : Nat) (v : Word) : (s.wr a v).quireNext = s.quireNext := rfl
@[simp] theorem State.wr_egress (s : State) (a : Nat) (v : Word) : (s.wr a v).egress = s.egress := rfl
@[simp] theorem State.wr_ingest (s : State) (a : Nat) (v : Word) : (s.wr a v).ingest = s.ingest := rfl
@[simp] theorem State.wr_time (s : State) (a : Nat) (v : Word) : (s.wr a v).time = s.time := rfl
@[simp] theorem State.wr_sheds (s : State) (a : Nat) (v : Word) : (s.wr a v).sheds = s.sheds := rfl
@[simp] theorem State.wr_array (s : State) (a : Nat) (v : Word) : (s.wr a v).array = s.array := rfl
@[simp] theorem State.wr_accum (s : State) (a : Nat) (v : Word) : (s.wr a v).accum = s.accum := rfl
@[simp] theorem State.wr_beam (s : State) (a : Nat) (v : Word) : (s.wr a v).beam = s.beam := rfl
@[simp] theorem State.wr_cat (s : State) (a : Nat) (v : Word) : (s.wr a v).cat = s.cat := rfl
@[simp] theorem State.wr_chain (s : State) (a : Nat) (v : Word) : (s.wr a v).chain = s.chain := rfl
@[simp] theorem State.wr_snap (s : State) (a : Nat) (v : Word) : (s.wr a v).snap = s.snap := rfl
@[simp] theorem State.wr_hbm (s : State) (a : Nat) (v : Word) : (s.wr a v).hbm = s.hbm := rfl
@[simp] theorem State.wr_power (s : State) (a : Nat) (v : Word) : (s.wr a v).power = s.power := rfl
@[simp] theorem State.wr_matrix (s : State) (a : Nat) (v : Word) : (s.wr a v).matrix = s.matrix := rfl
@[simp] theorem State.wr_dma (s : State) (a : Nat) (v : Word) : (s.wr a v).dma = s.dma := rfl
@[simp] theorem State.wr_lastOwner (s : State) (a : Nat) (v : Word) : (s.wr a v).lastOwner = s.lastOwner := rfl
@[simp] theorem State.wr_mace (s : State) (a : Nat) (v : Word) : (s.wr a v).mace = s.mace := rfl
@[simp] theorem State.wr_irq (s : State) (a : Nat) (v : Word) : (s.wr a v).irq = s.irq := rfl
@[simp] theorem State.wr_boot (s : State) (a : Nat) (v : Word) : (s.wr a v).boot = s.boot := rfl
@[simp] theorem State.wr_host (s : State) (a : Nat) (v : Word) : (s.wr a v).host = s.host := rfl
@[simp] theorem State.wr_tap (s : State) (a : Nat) (v : Word) : (s.wr a v).tap = s.tap := rfl
@[simp] theorem State.wr_pending (s : State) (a : Nat) (v : Word) : (s.wr a v).pending = s.pending := rfl
@[simp] theorem State.wr_ldb (s : State) (a : Nat) (v : Word) (x : Nat) : (s.wr a v).ldb x = s.ldb x := rfl

/-! ### wrN -/

@[simp] theorem State.wrN_regs (s : State) (a n : Nat) : (s.wrN a n).regs = tset 0#32 s.regs a (BitVec.ofNat 32 n) := rfl
@[simp] theorem State.wrN_mem (s : State) (a n : Nat) : (s.wrN a n).mem = s.mem := rfl
@[simp] theorem State.wrN_carrelEra (s : State) (a n : Nat) : (s.wrN a n).carrelEra = s.carrelEra := rfl
@[simp] theorem State.wrN_poison (s : State) (a n : Nat) : (s.wrN a n).poison = s.poison := rfl
@[simp] theorem State.wrN_oldRegs (s : State) (a n : Nat) : (s.wrN a n).oldRegs = s.oldRegs := rfl
@[simp] theorem State.wrN_hiLatch (s : State) (a n : Nat) : (s.wrN a n).hiLatch = s.hiLatch := rfl
@[simp] theorem State.wrN_accSi (s : State) (a n : Nat) : (s.wrN a n).accSi = s.accSi := rfl
@[simp] theorem State.wrN_out (s : State) (a n : Nat) : (s.wrN a n).out = s.out := rfl
@[simp] theorem State.wrN_fresh (s : State) (a n : Nat) : (s.wrN a n).fresh = s.fresh := rfl
@[simp] theorem State.wrN_lanes (s : State) (a n : Nat) : (s.wrN a n).lanes = s.lanes := rfl
@[simp] theorem State.wrN_quireNext (s : State) (a n : Nat) : (s.wrN a n).quireNext = s.quireNext := rfl
@[simp] theorem State.wrN_egress (s : State) (a n : Nat) : (s.wrN a n).egress = s.egress := rfl
@[simp] theorem State.wrN_ingest (s : State) (a n : Nat) : (s.wrN a n).ingest = s.ingest := rfl
@[simp] theorem State.wrN_time (s : State) (a n : Nat) : (s.wrN a n).time = s.time := rfl
@[simp] theorem State.wrN_sheds (s : State) (a n : Nat) : (s.wrN a n).sheds = s.sheds := rfl
@[simp] theorem State.wrN_array (s : State) (a n : Nat) : (s.wrN a n).array = s.array := rfl
@[simp] theorem State.wrN_accum (s : State) (a n : Nat) : (s.wrN a n).accum = s.accum := rfl
@[simp] theorem State.wrN_beam (s : State) (a n : Nat) : (s.wrN a n).beam = s.beam := rfl
@[simp] theorem State.wrN_cat (s : State) (a n : Nat) : (s.wrN a n).cat = s.cat := rfl
@[simp] theorem State.wrN_chain (s : State) (a n : Nat) : (s.wrN a n).chain = s.chain := rfl
@[simp] theorem State.wrN_snap (s : State) (a n : Nat) : (s.wrN a n).snap = s.snap := rfl
@[simp] theorem State.wrN_hbm (s : State) (a n : Nat) : (s.wrN a n).hbm = s.hbm := rfl
@[simp] theorem State.wrN_power (s : State) (a n : Nat) : (s.wrN a n).power = s.power := rfl
@[simp] theorem State.wrN_matrix (s : State) (a n : Nat) : (s.wrN a n).matrix = s.matrix := rfl
@[simp] theorem State.wrN_dma (s : State) (a n : Nat) : (s.wrN a n).dma = s.dma := rfl
@[simp] theorem State.wrN_lastOwner (s : State) (a n : Nat) : (s.wrN a n).lastOwner = s.lastOwner := rfl
@[simp] theorem State.wrN_mace (s : State) (a n : Nat) : (s.wrN a n).mace = s.mace := rfl
@[simp] theorem State.wrN_irq (s : State) (a n : Nat) : (s.wrN a n).irq = s.irq := rfl
@[simp] theorem State.wrN_boot (s : State) (a n : Nat) : (s.wrN a n).boot = s.boot := rfl
@[simp] theorem State.wrN_host (s : State) (a n : Nat) : (s.wrN a n).host = s.host := rfl
@[simp] theorem State.wrN_tap (s : State) (a n : Nat) : (s.wrN a n).tap = s.tap := rfl
@[simp] theorem State.wrN_pending (s : State) (a n : Nat) : (s.wrN a n).pending = s.pending := rfl
@[simp] theorem State.wrN_ldb (s : State) (a n : Nat) (x : Nat) : (s.wrN a n).ldb x = s.ldb x := rfl

/-! ### fput -/

@[simp] theorem State.fput_regs (s : State) (f : Field) (n : Nat) : (s.fput f n).regs = tset 0#32 s.regs f.reg (insertBits (s.rd f.reg) f.lo f.width n) := rfl
@[simp] theorem State.fput_mem (s : State) (f : Field) (n : Nat) : (s.fput f n).mem = s.mem := rfl
@[simp] theorem State.fput_carrelEra (s : State) (f : Field) (n : Nat) : (s.fput f n).carrelEra = s.carrelEra := rfl
@[simp] theorem State.fput_poison (s : State) (f : Field) (n : Nat) : (s.fput f n).poison = s.poison := rfl
@[simp] theorem State.fput_oldRegs (s : State) (f : Field) (n : Nat) : (s.fput f n).oldRegs = s.oldRegs := rfl
@[simp] theorem State.fput_hiLatch (s : State) (f : Field) (n : Nat) : (s.fput f n).hiLatch = s.hiLatch := rfl
@[simp] theorem State.fput_accSi (s : State) (f : Field) (n : Nat) : (s.fput f n).accSi = s.accSi := rfl
@[simp] theorem State.fput_out (s : State) (f : Field) (n : Nat) : (s.fput f n).out = s.out := rfl
@[simp] theorem State.fput_fresh (s : State) (f : Field) (n : Nat) : (s.fput f n).fresh = s.fresh := rfl
@[simp] theorem State.fput_lanes (s : State) (f : Field) (n : Nat) : (s.fput f n).lanes = s.lanes := rfl
@[simp] theorem State.fput_quireNext (s : State) (f : Field) (n : Nat) : (s.fput f n).quireNext = s.quireNext := rfl
@[simp] theorem State.fput_egress (s : State) (f : Field) (n : Nat) : (s.fput f n).egress = s.egress := rfl
@[simp] theorem State.fput_ingest (s : State) (f : Field) (n : Nat) : (s.fput f n).ingest = s.ingest := rfl
@[simp] theorem State.fput_time (s : State) (f : Field) (n : Nat) : (s.fput f n).time = s.time := rfl
@[simp] theorem State.fput_sheds (s : State) (f : Field) (n : Nat) : (s.fput f n).sheds = s.sheds := rfl
@[simp] theorem State.fput_array (s : State) (f : Field) (n : Nat) : (s.fput f n).array = s.array := rfl
@[simp] theorem State.fput_accum (s : State) (f : Field) (n : Nat) : (s.fput f n).accum = s.accum := rfl
@[simp] theorem State.fput_beam (s : State) (f : Field) (n : Nat) : (s.fput f n).beam = s.beam := rfl
@[simp] theorem State.fput_cat (s : State) (f : Field) (n : Nat) : (s.fput f n).cat = s.cat := rfl
@[simp] theorem State.fput_chain (s : State) (f : Field) (n : Nat) : (s.fput f n).chain = s.chain := rfl
@[simp] theorem State.fput_snap (s : State) (f : Field) (n : Nat) : (s.fput f n).snap = s.snap := rfl
@[simp] theorem State.fput_hbm (s : State) (f : Field) (n : Nat) : (s.fput f n).hbm = s.hbm := rfl
@[simp] theorem State.fput_power (s : State) (f : Field) (n : Nat) : (s.fput f n).power = s.power := rfl
@[simp] theorem State.fput_matrix (s : State) (f : Field) (n : Nat) : (s.fput f n).matrix = s.matrix := rfl
@[simp] theorem State.fput_dma (s : State) (f : Field) (n : Nat) : (s.fput f n).dma = s.dma := rfl
@[simp] theorem State.fput_lastOwner (s : State) (f : Field) (n : Nat) : (s.fput f n).lastOwner = s.lastOwner := rfl
@[simp] theorem State.fput_mace (s : State) (f : Field) (n : Nat) : (s.fput f n).mace = s.mace := rfl
@[simp] theorem State.fput_irq (s : State) (f : Field) (n : Nat) : (s.fput f n).irq = s.irq := rfl
@[simp] theorem State.fput_boot (s : State) (f : Field) (n : Nat) : (s.fput f n).boot = s.boot := rfl
@[simp] theorem State.fput_host (s : State) (f : Field) (n : Nat) : (s.fput f n).host = s.host := rfl
@[simp] theorem State.fput_tap (s : State) (f : Field) (n : Nat) : (s.fput f n).tap = s.tap := rfl
@[simp] theorem State.fput_pending (s : State) (f : Field) (n : Nat) : (s.fput f n).pending = s.pending := rfl
@[simp] theorem State.fput_ldb (s : State) (f : Field) (n : Nat) (x : Nat) : (s.fput f n).ldb x = s.ldb x := rfl

/-! ### countBy -/

@[simp] theorem State.countBy_regs (s : State) (a n : Nat) : (s.countBy a n).regs = tset 0#32 s.regs a (BitVec.ofNat 32 (satN 32 (s.rdN a + n))) := rfl
@[simp] theorem State.countBy_mem (s : State) (a n : Nat) : (s.countBy a n).mem = s.mem := rfl
@[simp] theorem State.countBy_carrelEra (s : State) (a n : Nat) : (s.countBy a n).carrelEra = s.carrelEra := rfl
@[simp] theorem State.countBy_poison (s : State) (a n : Nat) : (s.countBy a n).poison = s.poison := rfl
@[simp] theorem State.countBy_oldRegs (s : State) (a n : Nat) : (s.countBy a n).oldRegs = s.oldRegs := rfl
@[simp] theorem State.countBy_hiLatch (s : State) (a n : Nat) : (s.countBy a n).hiLatch = s.hiLatch := rfl
@[simp] theorem State.countBy_accSi (s : State) (a n : Nat) : (s.countBy a n).accSi = s.accSi := rfl
@[simp] theorem State.countBy_out (s : State) (a n : Nat) : (s.countBy a n).out = s.out := rfl
@[simp] theorem State.countBy_fresh (s : State) (a n : Nat) : (s.countBy a n).fresh = s.fresh := rfl
@[simp] theorem State.countBy_lanes (s : State) (a n : Nat) : (s.countBy a n).lanes = s.lanes := rfl
@[simp] theorem State.countBy_quireNext (s : State) (a n : Nat) : (s.countBy a n).quireNext = s.quireNext := rfl
@[simp] theorem State.countBy_egress (s : State) (a n : Nat) : (s.countBy a n).egress = s.egress := rfl
@[simp] theorem State.countBy_ingest (s : State) (a n : Nat) : (s.countBy a n).ingest = s.ingest := rfl
@[simp] theorem State.countBy_time (s : State) (a n : Nat) : (s.countBy a n).time = s.time := rfl
@[simp] theorem State.countBy_sheds (s : State) (a n : Nat) : (s.countBy a n).sheds = s.sheds := rfl
@[simp] theorem State.countBy_array (s : State) (a n : Nat) : (s.countBy a n).array = s.array := rfl
@[simp] theorem State.countBy_accum (s : State) (a n : Nat) : (s.countBy a n).accum = s.accum := rfl
@[simp] theorem State.countBy_beam (s : State) (a n : Nat) : (s.countBy a n).beam = s.beam := rfl
@[simp] theorem State.countBy_cat (s : State) (a n : Nat) : (s.countBy a n).cat = s.cat := rfl
@[simp] theorem State.countBy_chain (s : State) (a n : Nat) : (s.countBy a n).chain = s.chain := rfl
@[simp] theorem State.countBy_snap (s : State) (a n : Nat) : (s.countBy a n).snap = s.snap := rfl
@[simp] theorem State.countBy_hbm (s : State) (a n : Nat) : (s.countBy a n).hbm = s.hbm := rfl
@[simp] theorem State.countBy_power (s : State) (a n : Nat) : (s.countBy a n).power = s.power := rfl
@[simp] theorem State.countBy_matrix (s : State) (a n : Nat) : (s.countBy a n).matrix = s.matrix := rfl
@[simp] theorem State.countBy_dma (s : State) (a n : Nat) : (s.countBy a n).dma = s.dma := rfl
@[simp] theorem State.countBy_lastOwner (s : State) (a n : Nat) : (s.countBy a n).lastOwner = s.lastOwner := rfl
@[simp] theorem State.countBy_mace (s : State) (a n : Nat) : (s.countBy a n).mace = s.mace := rfl
@[simp] theorem State.countBy_irq (s : State) (a n : Nat) : (s.countBy a n).irq = s.irq := rfl
@[simp] theorem State.countBy_boot (s : State) (a n : Nat) : (s.countBy a n).boot = s.boot := rfl
@[simp] theorem State.countBy_host (s : State) (a n : Nat) : (s.countBy a n).host = s.host := rfl
@[simp] theorem State.countBy_tap (s : State) (a n : Nat) : (s.countBy a n).tap = s.tap := rfl
@[simp] theorem State.countBy_pending (s : State) (a n : Nat) : (s.countBy a n).pending = s.pending := rfl
@[simp] theorem State.countBy_ldb (s : State) (a n : Nat) (x : Nat) : (s.countBy a n).ldb x = s.ldb x := rfl

/-! ### stb -/

@[simp] theorem State.stb_regs (s : State) (a : Nat) (b : Byte) : (s.stb a b).regs = s.regs := rfl
@[simp] theorem State.stb_mem (s : State) (a : Nat) (b : Byte) : (s.stb a b).mem = tset (s.memDefault a) s.mem a b := rfl
@[simp] theorem State.stb_carrelEra (s : State) (a : Nat) (b : Byte) : (s.stb a b).carrelEra = s.carrelEra := rfl
@[simp] theorem State.stb_poison (s : State) (a : Nat) (b : Byte) : (s.stb a b).poison = s.poison := rfl
@[simp] theorem State.stb_oldRegs (s : State) (a : Nat) (b : Byte) : (s.stb a b).oldRegs = s.oldRegs := rfl
@[simp] theorem State.stb_hiLatch (s : State) (a : Nat) (b : Byte) : (s.stb a b).hiLatch = s.hiLatch := rfl
@[simp] theorem State.stb_accSi (s : State) (a : Nat) (b : Byte) : (s.stb a b).accSi = s.accSi := rfl
@[simp] theorem State.stb_out (s : State) (a : Nat) (b : Byte) : (s.stb a b).out = s.out := rfl
@[simp] theorem State.stb_fresh (s : State) (a : Nat) (b : Byte) : (s.stb a b).fresh = s.fresh := rfl
@[simp] theorem State.stb_lanes (s : State) (a : Nat) (b : Byte) : (s.stb a b).lanes = s.lanes := rfl
@[simp] theorem State.stb_quireNext (s : State) (a : Nat) (b : Byte) : (s.stb a b).quireNext = s.quireNext := rfl
@[simp] theorem State.stb_egress (s : State) (a : Nat) (b : Byte) : (s.stb a b).egress = s.egress := rfl
@[simp] theorem State.stb_ingest (s : State) (a : Nat) (b : Byte) : (s.stb a b).ingest = s.ingest := rfl
@[simp] theorem State.stb_time (s : State) (a : Nat) (b : Byte) : (s.stb a b).time = s.time := rfl
@[simp] theorem State.stb_sheds (s : State) (a : Nat) (b : Byte) : (s.stb a b).sheds = s.sheds := rfl
@[simp] theorem State.stb_array (s : State) (a : Nat) (b : Byte) : (s.stb a b).array = s.array := rfl
@[simp] theorem State.stb_accum (s : State) (a : Nat) (b : Byte) : (s.stb a b).accum = s.accum := rfl
@[simp] theorem State.stb_beam (s : State) (a : Nat) (b : Byte) : (s.stb a b).beam = s.beam := rfl
@[simp] theorem State.stb_cat (s : State) (a : Nat) (b : Byte) : (s.stb a b).cat = s.cat := rfl
@[simp] theorem State.stb_chain (s : State) (a : Nat) (b : Byte) : (s.stb a b).chain = s.chain := rfl
@[simp] theorem State.stb_snap (s : State) (a : Nat) (b : Byte) : (s.stb a b).snap = s.snap := rfl
@[simp] theorem State.stb_hbm (s : State) (a : Nat) (b : Byte) : (s.stb a b).hbm = s.hbm := rfl
@[simp] theorem State.stb_power (s : State) (a : Nat) (b : Byte) : (s.stb a b).power = s.power := rfl
@[simp] theorem State.stb_matrix (s : State) (a : Nat) (b : Byte) : (s.stb a b).matrix = s.matrix := rfl
@[simp] theorem State.stb_dma (s : State) (a : Nat) (b : Byte) : (s.stb a b).dma = s.dma := rfl
@[simp] theorem State.stb_lastOwner (s : State) (a : Nat) (b : Byte) : (s.stb a b).lastOwner = s.lastOwner := rfl
@[simp] theorem State.stb_mace (s : State) (a : Nat) (b : Byte) : (s.stb a b).mace = s.mace := rfl
@[simp] theorem State.stb_irq (s : State) (a : Nat) (b : Byte) : (s.stb a b).irq = s.irq := rfl
@[simp] theorem State.stb_boot (s : State) (a : Nat) (b : Byte) : (s.stb a b).boot = s.boot := rfl
@[simp] theorem State.stb_host (s : State) (a : Nat) (b : Byte) : (s.stb a b).host = s.host := rfl
@[simp] theorem State.stb_tap (s : State) (a : Nat) (b : Byte) : (s.stb a b).tap = s.tap := rfl
@[simp] theorem State.stb_pending (s : State) (a : Nat) (b : Byte) : (s.stb a b).pending = s.pending := rfl
@[simp] theorem State.stb_rd (s : State) (a : Nat) (b : Byte) (x : Nat) : (s.stb a b).rd x = s.rd x := rfl
@[simp] theorem State.stb_rdN (s : State) (a : Nat) (b : Byte) (x : Nat) : (s.stb a b).rdN x = s.rdN x := rfl
@[simp] theorem State.stb_fget (s : State) (a : Nat) (b : Byte) (x : Field) : (s.stb a b).fget x = s.fget x := rfl
@[simp] theorem State.stb_fbit (s : State) (a : Nat) (b : Byte) (x : Field) : (s.stb a b).fbit x = s.fbit x := rfl

/-! ### carrelLose -/

@[simp] theorem State.carrelLose_regs (s : State) (n : Nat) : (s.carrelLose n).regs = s.regs := rfl
@[simp] theorem State.carrelLose_mem (s : State) (n : Nat) : (s.carrelLose n).mem = s.mem.filter (fun c => !inCarrel c.1) := rfl
@[simp] theorem State.carrelLose_carrelEra (s : State) (n : Nat) : (s.carrelLose n).carrelEra = n := rfl
@[simp] theorem State.carrelLose_poison (s : State) (n : Nat) : (s.carrelLose n).poison = s.poison := rfl
@[simp] theorem State.carrelLose_oldRegs (s : State) (n : Nat) : (s.carrelLose n).oldRegs = s.oldRegs := rfl
@[simp] theorem State.carrelLose_hiLatch (s : State) (n : Nat) : (s.carrelLose n).hiLatch = s.hiLatch := rfl
@[simp] theorem State.carrelLose_accSi (s : State) (n : Nat) : (s.carrelLose n).accSi = s.accSi := rfl
@[simp] theorem State.carrelLose_out (s : State) (n : Nat) : (s.carrelLose n).out = s.out := rfl
@[simp] theorem State.carrelLose_fresh (s : State) (n : Nat) : (s.carrelLose n).fresh = s.fresh := rfl
@[simp] theorem State.carrelLose_lanes (s : State) (n : Nat) : (s.carrelLose n).lanes = s.lanes := rfl
@[simp] theorem State.carrelLose_quireNext (s : State) (n : Nat) : (s.carrelLose n).quireNext = s.quireNext := rfl
@[simp] theorem State.carrelLose_egress (s : State) (n : Nat) : (s.carrelLose n).egress = s.egress := rfl
@[simp] theorem State.carrelLose_ingest (s : State) (n : Nat) : (s.carrelLose n).ingest = s.ingest := rfl
@[simp] theorem State.carrelLose_time (s : State) (n : Nat) : (s.carrelLose n).time = s.time := rfl
@[simp] theorem State.carrelLose_sheds (s : State) (n : Nat) : (s.carrelLose n).sheds = s.sheds := rfl
@[simp] theorem State.carrelLose_array (s : State) (n : Nat) : (s.carrelLose n).array = s.array := rfl
@[simp] theorem State.carrelLose_accum (s : State) (n : Nat) : (s.carrelLose n).accum = s.accum := rfl
@[simp] theorem State.carrelLose_beam (s : State) (n : Nat) : (s.carrelLose n).beam = s.beam := rfl
@[simp] theorem State.carrelLose_cat (s : State) (n : Nat) : (s.carrelLose n).cat = s.cat := rfl
@[simp] theorem State.carrelLose_chain (s : State) (n : Nat) : (s.carrelLose n).chain = s.chain := rfl
@[simp] theorem State.carrelLose_snap (s : State) (n : Nat) : (s.carrelLose n).snap = s.snap := rfl
@[simp] theorem State.carrelLose_hbm (s : State) (n : Nat) : (s.carrelLose n).hbm = s.hbm := rfl
@[simp] theorem State.carrelLose_power (s : State) (n : Nat) : (s.carrelLose n).power = s.power := rfl
@[simp] theorem State.carrelLose_matrix (s : State) (n : Nat) : (s.carrelLose n).matrix = s.matrix := rfl
@[simp] theorem State.carrelLose_dma (s : State) (n : Nat) : (s.carrelLose n).dma = s.dma := rfl
@[simp] theorem State.carrelLose_lastOwner (s : State) (n : Nat) : (s.carrelLose n).lastOwner = s.lastOwner := rfl
@[simp] theorem State.carrelLose_mace (s : State) (n : Nat) : (s.carrelLose n).mace = s.mace := rfl
@[simp] theorem State.carrelLose_irq (s : State) (n : Nat) : (s.carrelLose n).irq = s.irq := rfl
@[simp] theorem State.carrelLose_boot (s : State) (n : Nat) : (s.carrelLose n).boot = s.boot := rfl
@[simp] theorem State.carrelLose_host (s : State) (n : Nat) : (s.carrelLose n).host = s.host := rfl
@[simp] theorem State.carrelLose_tap (s : State) (n : Nat) : (s.carrelLose n).tap = s.tap := rfl
@[simp] theorem State.carrelLose_pending (s : State) (n : Nat) : (s.carrelLose n).pending = s.pending := rfl
@[simp] theorem State.carrelLose_rd (s : State) (n : Nat) (x : Nat) : (s.carrelLose n).rd x = s.rd x := rfl
@[simp] theorem State.carrelLose_rdN (s : State) (n : Nat) (x : Nat) : (s.carrelLose n).rdN x = s.rdN x := rfl
@[simp] theorem State.carrelLose_fget (s : State) (n : Nat) (x : Field) : (s.carrelLose n).fget x = s.fget x := rfl
@[simp] theorem State.carrelLose_fbit (s : State) (n : Nat) (x : Field) : (s.carrelLose n).fbit x = s.fbit x := rfl

/-! ### emit -/

@[simp] theorem State.emit_regs (s : State) (o : Out) : (s.emit o).regs = s.regs := rfl
@[simp] theorem State.emit_mem (s : State) (o : Out) : (s.emit o).mem = s.mem := rfl
@[simp] theorem State.emit_carrelEra (s : State) (o : Out) : (s.emit o).carrelEra = s.carrelEra := rfl
@[simp] theorem State.emit_poison (s : State) (o : Out) : (s.emit o).poison = s.poison := rfl
@[simp] theorem State.emit_oldRegs (s : State) (o : Out) : (s.emit o).oldRegs = s.oldRegs := rfl
@[simp] theorem State.emit_hiLatch (s : State) (o : Out) : (s.emit o).hiLatch = s.hiLatch := rfl
@[simp] theorem State.emit_accSi (s : State) (o : Out) : (s.emit o).accSi = s.accSi := rfl
@[simp] theorem State.emit_out (s : State) (o : Out) : (s.emit o).out = s.out ++ [o] := rfl
@[simp] theorem State.emit_fresh (s : State) (o : Out) : (s.emit o).fresh = s.fresh := rfl
@[simp] theorem State.emit_lanes (s : State) (o : Out) : (s.emit o).lanes = s.lanes := rfl
@[simp] theorem State.emit_quireNext (s : State) (o : Out) : (s.emit o).quireNext = s.quireNext := rfl
@[simp] theorem State.emit_egress (s : State) (o : Out) : (s.emit o).egress = s.egress := rfl
@[simp] theorem State.emit_ingest (s : State) (o : Out) : (s.emit o).ingest = s.ingest := rfl
@[simp] theorem State.emit_time (s : State) (o : Out) : (s.emit o).time = s.time := rfl
@[simp] theorem State.emit_sheds (s : State) (o : Out) : (s.emit o).sheds = s.sheds := rfl
@[simp] theorem State.emit_array (s : State) (o : Out) : (s.emit o).array = s.array := rfl
@[simp] theorem State.emit_accum (s : State) (o : Out) : (s.emit o).accum = s.accum := rfl
@[simp] theorem State.emit_beam (s : State) (o : Out) : (s.emit o).beam = s.beam := rfl
@[simp] theorem State.emit_cat (s : State) (o : Out) : (s.emit o).cat = s.cat := rfl
@[simp] theorem State.emit_chain (s : State) (o : Out) : (s.emit o).chain = s.chain := rfl
@[simp] theorem State.emit_snap (s : State) (o : Out) : (s.emit o).snap = s.snap := rfl
@[simp] theorem State.emit_hbm (s : State) (o : Out) : (s.emit o).hbm = s.hbm := rfl
@[simp] theorem State.emit_power (s : State) (o : Out) : (s.emit o).power = s.power := rfl
@[simp] theorem State.emit_matrix (s : State) (o : Out) : (s.emit o).matrix = s.matrix := rfl
@[simp] theorem State.emit_dma (s : State) (o : Out) : (s.emit o).dma = s.dma := rfl
@[simp] theorem State.emit_lastOwner (s : State) (o : Out) : (s.emit o).lastOwner = s.lastOwner := rfl
@[simp] theorem State.emit_mace (s : State) (o : Out) : (s.emit o).mace = s.mace := rfl
@[simp] theorem State.emit_irq (s : State) (o : Out) : (s.emit o).irq = s.irq := rfl
@[simp] theorem State.emit_boot (s : State) (o : Out) : (s.emit o).boot = s.boot := rfl
@[simp] theorem State.emit_host (s : State) (o : Out) : (s.emit o).host = s.host := rfl
@[simp] theorem State.emit_tap (s : State) (o : Out) : (s.emit o).tap = s.tap := rfl
@[simp] theorem State.emit_pending (s : State) (o : Out) : (s.emit o).pending = s.pending := rfl
@[simp] theorem State.emit_rd (s : State) (o : Out) (x : Nat) : (s.emit o).rd x = s.rd x := rfl
@[simp] theorem State.emit_rdN (s : State) (o : Out) (x : Nat) : (s.emit o).rdN x = s.rdN x := rfl
@[simp] theorem State.emit_fget (s : State) (o : Out) (x : Field) : (s.emit o).fget x = s.fget x := rfl
@[simp] theorem State.emit_fbit (s : State) (o : Out) (x : Field) : (s.emit o).fbit x = s.fbit x := rfl
@[simp] theorem State.emit_ldb (s : State) (o : Out) (x : Nat) : (s.emit o).ldb x = s.ldb x := rfl

/-! ### tick1 -/

@[simp] theorem State.tick1_regs (s : State) : (s.tick1).regs = s.regs := rfl
@[simp] theorem State.tick1_mem (s : State) : (s.tick1).mem = s.mem := rfl
@[simp] theorem State.tick1_carrelEra (s : State) : (s.tick1).carrelEra = s.carrelEra := rfl
@[simp] theorem State.tick1_poison (s : State) : (s.tick1).poison = s.poison := rfl
@[simp] theorem State.tick1_oldRegs (s : State) : (s.tick1).oldRegs = s.oldRegs := rfl
@[simp] theorem State.tick1_hiLatch (s : State) : (s.tick1).hiLatch = s.hiLatch := rfl
@[simp] theorem State.tick1_accSi (s : State) : (s.tick1).accSi = s.accSi := rfl
@[simp] theorem State.tick1_out (s : State) : (s.tick1).out = s.out := rfl
@[simp] theorem State.tick1_fresh (s : State) : (s.tick1).fresh = s.fresh + 1 := rfl
@[simp] theorem State.tick1_lanes (s : State) : (s.tick1).lanes = s.lanes := rfl
@[simp] theorem State.tick1_quireNext (s : State) : (s.tick1).quireNext = s.quireNext := rfl
@[simp] theorem State.tick1_egress (s : State) : (s.tick1).egress = s.egress := rfl
@[simp] theorem State.tick1_ingest (s : State) : (s.tick1).ingest = s.ingest := rfl
@[simp] theorem State.tick1_time (s : State) : (s.tick1).time = s.time := rfl
@[simp] theorem State.tick1_sheds (s : State) : (s.tick1).sheds = s.sheds := rfl
@[simp] theorem State.tick1_array (s : State) : (s.tick1).array = s.array := rfl
@[simp] theorem State.tick1_accum (s : State) : (s.tick1).accum = s.accum := rfl
@[simp] theorem State.tick1_beam (s : State) : (s.tick1).beam = s.beam := rfl
@[simp] theorem State.tick1_cat (s : State) : (s.tick1).cat = s.cat := rfl
@[simp] theorem State.tick1_chain (s : State) : (s.tick1).chain = s.chain := rfl
@[simp] theorem State.tick1_snap (s : State) : (s.tick1).snap = s.snap := rfl
@[simp] theorem State.tick1_hbm (s : State) : (s.tick1).hbm = s.hbm := rfl
@[simp] theorem State.tick1_power (s : State) : (s.tick1).power = s.power := rfl
@[simp] theorem State.tick1_matrix (s : State) : (s.tick1).matrix = s.matrix := rfl
@[simp] theorem State.tick1_dma (s : State) : (s.tick1).dma = s.dma := rfl
@[simp] theorem State.tick1_lastOwner (s : State) : (s.tick1).lastOwner = s.lastOwner := rfl
@[simp] theorem State.tick1_mace (s : State) : (s.tick1).mace = s.mace := rfl
@[simp] theorem State.tick1_irq (s : State) : (s.tick1).irq = s.irq := rfl
@[simp] theorem State.tick1_boot (s : State) : (s.tick1).boot = s.boot := rfl
@[simp] theorem State.tick1_host (s : State) : (s.tick1).host = s.host := rfl
@[simp] theorem State.tick1_tap (s : State) : (s.tick1).tap = s.tap := rfl
@[simp] theorem State.tick1_pending (s : State) : (s.tick1).pending = s.pending := rfl
@[simp] theorem State.tick1_rd (s : State) (x : Nat) : (s.tick1).rd x = s.rd x := rfl
@[simp] theorem State.tick1_rdN (s : State) (x : Nat) : (s.tick1).rdN x = s.rdN x := rfl
@[simp] theorem State.tick1_fget (s : State) (x : Field) : (s.tick1).fget x = s.fget x := rfl
@[simp] theorem State.tick1_fbit (s : State) (x : Field) : (s.tick1).fbit x = s.fbit x := rfl
@[simp] theorem State.tick1_ldb (s : State) (x : Nat) : (s.tick1).ldb x = s.ldb x := rfl

/-! ### Reads after writes -/

/-- A register read after a write of a register. -/
theorem State.rd_wr (s : State) (a : Nat) (v : Word) (b : Nat) : (s.wr a v).rd b = if b = a then v else s.rd b := by
  unfold State.rd State.wr
  split
  · rename_i h
    rw [h]
    exact tget_tset_same 0#32 s.regs a v
  · rename_i h
    exact tget_tset_other 0#32 s.regs v h

@[simp] theorem State.rd_wr_same (s : State) (a : Nat) (v : Word) : (s.wr a v).rd a = v := by rw [State.rd_wr, if_pos rfl]

theorem State.rd_wr_other (s : State) {a b : Nat} (v : Word) (h : b ≠ a) : (s.wr a v).rd b = s.rd b := by rw [State.rd_wr, if_neg h]

/-- A byte of memory read after a store of one byte. -/
theorem State.ldb_stb (s : State) (a : Nat) (v : Byte) (b : Nat) : (s.stb a v).ldb b = if b = a then v else s.ldb b := by
  unfold State.ldb
  show tget (s.memDefault b) (tset (s.memDefault a) s.mem a v) b = _
  split
  · rename_i h
    rw [h]
    exact tget_tset_same _ s.mem a v
  · rename_i h
    unfold tset
    split
    · exact tget_terase_other _ s.mem h
    · exact tget_tinsert_other _ s.mem v h

@[simp] theorem State.ldb_stb_same (s : State) (a : Nat) (v : Byte) : (s.stb a v).ldb a = v := by rw [State.ldb_stb, if_pos rfl]

/-- A byte outside the bytes stored reads as before. -/
theorem State.ldb_stBytes_outside : ∀ (l : List Byte) (s : State) (a x : Nat), x < a ∨ a + l.length ≤ x → (s.stBytes a l).ldb x = s.ldb x
  | [], _, _, _, _ => rfl
  | b :: rest, s, a, x, h => by
    simp only [List.length_cons] at h
    rw [State.stBytes, State.ldb_stBytes_outside rest (s.stb a b) (a + 1) x (by omega), State.ldb_stb, if_neg (by omega)]

/-- The bytes stored read back. -/
theorem State.ldBytes_stBytes : ∀ (l : List Byte) (s : State) (a : Nat), (s.stBytes a l).ldBytes a l.length = l
  | [], _, _ => rfl
  | b :: rest, s, a => by
    rw [List.length_cons, State.stBytes, State.ldBytes, State.ldBytes_stBytes rest (s.stb a b) (a + 1),
      State.ldb_stBytes_outside rest (s.stb a b) (a + 1) a (by omega), State.ldb_stb_same]

theorem testBit_extractBits (v : Word) (lo w i : Nat) : (extractBits v lo w).testBit i = (decide (i < w) && v.getLsbD (lo + i)) := by
  unfold extractBits
  rw [Nat.testBit_mod_two_pow, Nat.testBit_div_two_pow, Nat.add_comm]
  rfl

theorem getLsbD_insertBits (v : Word) (lo w n j : Nat) (hj : j < 32) :
    (insertBits v lo w n).getLsbD j = if lo ≤ j ∧ j < lo + w then n.testBit (j - lo) else v.getLsbD j := by
  simp only [insertBits, BitVec.getLsbD_or, BitVec.getLsbD_and, BitVec.getLsbD_not, BitVec.getLsbD_shiftLeft, BitVec.getLsbD_ofNat,
    Nat.testBit_two_pow_sub_one, Nat.testBit_mod_two_pow]
  by_cases h1 : lo ≤ j
  · by_cases h2 : j < lo + w
    · have h3 : j - lo < 32 := by omega
      have h4 : j - lo < w := by omega
      simp [h1, h2, h3, h4, hj, Nat.not_lt.mpr h1]
    · have h4 : ¬ j - lo < w := by omega
      simp [h1, h2, h4, hj]
  · have h5 : j < lo := by omega
    simp [h1, h5, hj]

/-- The field written reads as what was written. -/
theorem extract_insert_same (v : Word) {lo w : Nat} (n : Nat) (h : lo + w ≤ 32) : extractBits (insertBits v lo w n) lo w = n % 2 ^ w := by
  apply Nat.eq_of_testBit_eq
  intro i
  rw [testBit_extractBits, Nat.testBit_mod_two_pow]
  by_cases hi : i < w
  · rw [getLsbD_insertBits _ _ _ _ _ (by omega), if_pos (by omega), Nat.add_sub_cancel_left]
  · simp [hi]

/-- A field apart from the one written reads as before. -/
theorem extract_insert_other (v : Word) {lo w lo' w' : Nat} (n : Nat) (h : lo' + w' ≤ lo ∨ lo + w ≤ lo') :
    extractBits (insertBits v lo w n) lo' w' = extractBits v lo' w' := by
  apply Nat.eq_of_testBit_eq
  intro i
  rw [testBit_extractBits, testBit_extractBits]
  by_cases hi : i < w'
  · by_cases hj : lo' + i < 32
    · rw [getLsbD_insertBits _ _ _ _ _ hj, if_neg (by omega)]
    · rw [BitVec.getLsbD_of_ge _ _ (by omega), BitVec.getLsbD_of_ge _ _ (by omega)]
  · simp [hi]

/-- The bits of a register after a write of one of its fields. -/
theorem State.rd_fput (s : State) (f : Field) (n b : Nat) :
    (s.fput f n).rd b = if b = f.reg then insertBits (s.rd f.reg) f.lo f.width n else s.rd b := State.rd_wr s _ _ b

theorem State.rd_wrN (s : State) (a n b : Nat) : (s.wrN a n).rd b = if b = a then BitVec.ofNat 32 n else s.rd b := State.rd_wr s _ _ b

theorem State.rd_countBy (s : State) (a n b : Nat) :
    (s.countBy a n).rd b = if b = a then BitVec.ofNat 32 (satN 32 (s.rdN a + n)) else s.rd b := State.rd_wr s _ _ b

/-- A field read after it was written. -/
theorem State.fget_fput_same (s : State) (f : Field) (n : Nat) (h : f.lo + f.width ≤ 32) : (s.fput f n).fget f = n % 2 ^ f.width := by
  rw [State.fget, State.rd_fput, if_pos rfl, extract_insert_same _ _ h]

/-- A field read after another one was written. -/
theorem State.fget_fput_other (s : State) (f g : Field) (n : Nat)
    (h : g.reg ≠ f.reg ∨ g.lo + g.width ≤ f.lo ∨ f.lo + f.width ≤ g.lo) : (s.fput f n).fget g = s.fget g := by
  rw [State.fget, State.fget, State.rd_fput]
  split
  · rename_i hr
    rw [extract_insert_other _ _ (h.resolve_left (fun hn => hn hr)), hr]
  · rfl

/-- A field read after another register was written. -/
theorem State.fget_wr_other (s : State) (a : Nat) (v : Word) (g : Field) (h : g.reg ≠ a) : (s.wr a v).fget g = s.fget g := by
  rw [State.fget, State.fget, State.rd_wr_other s v h]

end Sys2Proof.Machine
end

