-- ==== Sys2Proof/Laws/Within.lean ====
section
/-!
SUPPORT. Laws/Within.lean: which parts of the state an operation may change. A mask says which fields may; `Within k s t` says that `t` agrees with
`s` in every other field. The files Laws/Within<Part>.lean carry, for every operation and meaning, the lemma that says which fields it may change:
it asks that the mask have them.
-/
namespace Sys2Proof.Machine

/-- Which fields of the state may change. The queue never does. -/
structure Mask where
  regs : Bool := false
  mem : Bool := false
  carrelEra : Bool := false
  poison : Bool := false
  oldRegs : Bool := false
  hiLatch : Bool := false
  accSi : Bool := false
  out : Bool := false
  fresh : Bool := false
  lanes : Bool := false
  quireNext : Bool := false
  egress : Bool := false
  ingest : Bool := false
  time : Bool := false
  sheds : Bool := false
  array : Bool := false
  accum : Bool := false
  beam : Bool := false
  cat : Bool := false
  chain : Bool := false
  snap : Bool := false
  hbm : Bool := false
  power : Bool := false
  matrix : Bool := false
  dma : Bool := false
  lastOwner : Bool := false
  mace : Bool := false
  irq : Bool := false
  boot : Bool := false
  host : Bool := false
  tap : Bool := false

/-- A field of the mask that is set. -/
class Allowed (b : Bool) : Prop where
  is : b = true

/-- A value is as it was, unless the mask lets it change. -/
def Kept {α : Type} (b : Bool) (x y : α) : Prop := b = true ∨ x = y

theorem kept_refl {α : Type} {b : Bool} {x : α} : Kept b x x := .inr rfl

theorem kept_allowed {α : Type} {b : Bool} {x y : α} [i : Allowed b] : Kept b x y := .inl i.is

/-- `t` agrees with `s` in every field that the mask leaves out. -/
structure Within (k : Mask) (s t : State) : Prop where
  regs : Kept k.regs t.regs s.regs
  mem : Kept k.mem t.mem s.mem
  carrelEra : Kept k.carrelEra t.carrelEra s.carrelEra
  poison : Kept k.poison t.poison s.poison
  oldRegs : Kept k.oldRegs t.oldRegs s.oldRegs
  hiLatch : Kept k.hiLatch t.hiLatch s.hiLatch
  accSi : Kept k.accSi t.accSi s.accSi
  out : Kept k.out t.out s.out
  fresh : Kept k.fresh t.fresh s.fresh
  lanes : Kept k.lanes t.lanes s.lanes
  quireNext : Kept k.quireNext t.quireNext s.quireNext
  egress : Kept k.egress t.egress s.egress
  ingest : Kept k.ingest t.ingest s.ingest
  time : Kept k.time t.time s.time
  sheds : Kept k.sheds t.sheds s.sheds
  array : Kept k.array t.array s.array
  accum : Kept k.accum t.accum s.accum
  beam : Kept k.beam t.beam s.beam
  cat : Kept k.cat t.cat s.cat
  chain : Kept k.chain t.chain s.chain
  snap : Kept k.snap t.snap s.snap
  hbm : Kept k.hbm t.hbm s.hbm
  power : Kept k.power t.power s.power
  matrix : Kept k.matrix t.matrix s.matrix
  dma : Kept k.dma t.dma s.dma
  lastOwner : Kept k.lastOwner t.lastOwner s.lastOwner
  mace : Kept k.mace t.mace s.mace
  irq : Kept k.irq t.irq s.irq
  boot : Kept k.boot t.boot s.boot
  host : Kept k.host t.host s.host
  tap : Kept k.tap t.tap s.tap
  pending : t.pending = s.pending

/-- Whether a next state, where an outcome has one, agrees so. -/
def WithinO (k : Mask) (s : State) (o : Host.Outcome State Fault Refusal) : Prop := ∀ t, o = .next t → Within k s t


variable {k : Mask} {s0 s : State}

theorem Within.rfl' (s : State) : Within k s s := ⟨.inr rfl, .inr rfl, .inr rfl, .inr rfl, .inr rfl, .inr rfl, .inr rfl, .inr rfl, .inr rfl, .inr
    rfl, .inr rfl, .inr rfl, .inr rfl, .inr rfl, .inr rfl, .inr rfl, .inr rfl, .inr rfl, .inr rfl, .inr rfl, .inr rfl, .inr rfl, .inr rfl, .inr
    rfl, .inr rfl, .inr rfl, .inr rfl, .inr rfl, .inr rfl, .inr rfl, .inr rfl, rfl⟩

theorem Within.trans' {a b c : State} (h : Within k a b) (g : Within k b c) : Within k a c :=
  ⟨g.regs.elim .inl (fun e => h.regs.imp_right e.trans),
    g.mem.elim .inl (fun e => h.mem.imp_right e.trans),
    g.carrelEra.elim .inl (fun e => h.carrelEra.imp_right e.trans),
    g.poison.elim .inl (fun e => h.poison.imp_right e.trans),
    g.oldRegs.elim .inl (fun e => h.oldRegs.imp_right e.trans),
    g.hiLatch.elim .inl (fun e => h.hiLatch.imp_right e.trans),
    g.accSi.elim .inl (fun e => h.accSi.imp_right e.trans),
    g.out.elim .inl (fun e => h.out.imp_right e.trans),
    g.fresh.elim .inl (fun e => h.fresh.imp_right e.trans),
    g.lanes.elim .inl (fun e => h.lanes.imp_right e.trans),
    g.quireNext.elim .inl (fun e => h.quireNext.imp_right e.trans),
    g.egress.elim .inl (fun e => h.egress.imp_right e.trans),
    g.ingest.elim .inl (fun e => h.ingest.imp_right e.trans),
    g.time.elim .inl (fun e => h.time.imp_right e.trans),
    g.sheds.elim .inl (fun e => h.sheds.imp_right e.trans),
    g.array.elim .inl (fun e => h.array.imp_right e.trans),
    g.accum.elim .inl (fun e => h.accum.imp_right e.trans),
    g.beam.elim .inl (fun e => h.beam.imp_right e.trans),
    g.cat.elim .inl (fun e => h.cat.imp_right e.trans),
    g.chain.elim .inl (fun e => h.chain.imp_right e.trans),
    g.snap.elim .inl (fun e => h.snap.imp_right e.trans),
    g.hbm.elim .inl (fun e => h.hbm.imp_right e.trans),
    g.power.elim .inl (fun e => h.power.imp_right e.trans),
    g.matrix.elim .inl (fun e => h.matrix.imp_right e.trans),
    g.dma.elim .inl (fun e => h.dma.imp_right e.trans),
    g.lastOwner.elim .inl (fun e => h.lastOwner.imp_right e.trans),
    g.mace.elim .inl (fun e => h.mace.imp_right e.trans),
    g.irq.elim .inl (fun e => h.irq.imp_right e.trans),
    g.boot.elim .inl (fun e => h.boot.imp_right e.trans),
    g.host.elim .inl (fun e => h.host.imp_right e.trans),
    g.tap.elim .inl (fun e => h.tap.imp_right e.trans),
    g.pending.trans h.pending⟩

theorem withinO_next {t : State} (h : Within k s0 t) : WithinO k s0 (.next t) := fun u hu => by
  cases hu
  exact h

theorem within_ite {a b : State} {c : Prop} [Decidable c] (ha : Within k s0 a) (hb : Within k s0 b) : Within k s0 (if c then a else b) := by
  split <;> assumption

theorem withinO_ite {a b : Host.Outcome State Fault Refusal} {c : Prop} [Decidable c] (ha : WithinO k s0 a) (hb : WithinO k s0 b) :
    WithinO k s0 (if c then a else b) := by split <;> assumption

theorem within_ite1 {α : Type} {a b : State × α} {c : Prop} [Decidable c] (ha : Within k s0 a.1) (hb : Within k s0 b.1) :
    Within k s0 (if c then a else b).1 := by split <;> assumption

/-- A state made from `s` field by field, each field either in the mask or as it was. -/
theorem within_mk (h : Within k s0 s)
    {regs mem carrelEra poison oldRegs hiLatch accSi out fresh lanes quireNext egress ingest time sheds array accum beam cat chain snap hbm power
        matrix dma lastOwner mace irq boot host tap}
    (hregs : Kept k.regs regs s.regs)
    (hmem : Kept k.mem mem s.mem)
    (hcarrelEra : Kept k.carrelEra carrelEra s.carrelEra)
    (hpoison : Kept k.poison poison s.poison)
    (holdRegs : Kept k.oldRegs oldRegs s.oldRegs)
    (hhiLatch : Kept k.hiLatch hiLatch s.hiLatch)
    (haccSi : Kept k.accSi accSi s.accSi)
    (hout : Kept k.out out s.out)
    (hfresh : Kept k.fresh fresh s.fresh)
    (hlanes : Kept k.lanes lanes s.lanes)
    (hquireNext : Kept k.quireNext quireNext s.quireNext)
    (hegress : Kept k.egress egress s.egress)
    (hingest : Kept k.ingest ingest s.ingest)
    (htime : Kept k.time time s.time)
    (hsheds : Kept k.sheds sheds s.sheds)
    (harray : Kept k.array array s.array)
    (haccum : Kept k.accum accum s.accum)
    (hbeam : Kept k.beam beam s.beam)
    (hcat : Kept k.cat cat s.cat)
    (hchain : Kept k.chain chain s.chain)
    (hsnap : Kept k.snap snap s.snap)
    (hhbm : Kept k.hbm hbm s.hbm)
    (hpower : Kept k.power power s.power)
    (hmatrix : Kept k.matrix matrix s.matrix)
    (hdma : Kept k.dma dma s.dma)
    (hlastOwner : Kept k.lastOwner lastOwner s.lastOwner)
    (hmace : Kept k.mace mace s.mace)
    (hirq : Kept k.irq irq s.irq)
    (hboot : Kept k.boot boot s.boot)
    (hhost : Kept k.host host s.host)
    (htap : Kept k.tap tap s.tap) :
    Within k s0 (State.mk regs mem carrelEra poison oldRegs hiLatch accSi out fresh lanes quireNext egress ingest time sheds array accum beam cat
        chain snap hbm power matrix dma lastOwner mace irq boot host tap s.pending) :=
  h.trans' ⟨hregs, hmem, hcarrelEra, hpoison, holdRegs, hhiLatch, haccSi, hout, hfresh, hlanes, hquireNext, hegress, hingest, htime, hsheds,
      harray, haccum, hbeam, hcat, hchain, hsnap, hhbm, hpower, hmatrix, hdma, hlastOwner, hmace, hirq, hboot, hhost, htap, rfl⟩

/-- With every field in the mask, only the queue is asked about. -/
theorem within_all [Allowed k.regs] [Allowed k.mem] [Allowed k.carrelEra] [Allowed k.poison] [Allowed k.oldRegs] [Allowed k.hiLatch] [Allowed
    k.accSi] [Allowed k.out] [Allowed k.fresh] [Allowed k.lanes] [Allowed k.quireNext] [Allowed k.egress] [Allowed k.ingest] [Allowed k.time]
    [Allowed k.sheds] [Allowed k.array] [Allowed k.accum] [Allowed k.beam] [Allowed k.cat] [Allowed k.chain] [Allowed k.snap] [Allowed k.hbm]
    [Allowed k.power] [Allowed k.matrix] [Allowed k.dma] [Allowed k.lastOwner] [Allowed k.mace] [Allowed k.irq] [Allowed k.boot] [Allowed k.host]
    [Allowed k.tap] {t : State} (h : t.pending = s.pending) : Within k s t :=
  ⟨kept_allowed, kept_allowed, kept_allowed, kept_allowed, kept_allowed, kept_allowed, kept_allowed, kept_allowed, kept_allowed, kept_allowed,
      kept_allowed, kept_allowed, kept_allowed, kept_allowed, kept_allowed, kept_allowed, kept_allowed, kept_allowed, kept_allowed, kept_allowed,
      kept_allowed, kept_allowed, kept_allowed, kept_allowed, kept_allowed, kept_allowed, kept_allowed, kept_allowed, kept_allowed, kept_allowed,
      kept_allowed, h⟩

theorem State.wr_within [Allowed k.regs] (h : Within k s0 s) (a : Nat) (v : Word) : Within k s0 (s.wr a v) :=
  within_mk h kept_allowed kept_refl kept_refl kept_refl kept_refl kept_refl kept_refl kept_refl kept_refl kept_refl kept_refl kept_refl kept_refl
      kept_refl kept_refl kept_refl kept_refl kept_refl kept_refl kept_refl kept_refl kept_refl kept_refl kept_refl kept_refl kept_refl kept_refl
      kept_refl kept_refl kept_refl kept_refl

theorem State.stb_within [Allowed k.mem] (h : Within k s0 s) (a : Nat) (b : Byte) : Within k s0 (s.stb a b) :=
  within_mk h kept_refl kept_allowed kept_refl kept_refl kept_refl kept_refl kept_refl kept_refl kept_refl kept_refl kept_refl kept_refl kept_refl
      kept_refl kept_refl kept_refl kept_refl kept_refl kept_refl kept_refl kept_refl kept_refl kept_refl kept_refl kept_refl kept_refl kept_refl
      kept_refl kept_refl kept_refl kept_refl

theorem State.carrelLose_within [Allowed k.mem] [Allowed k.carrelEra] (h : Within k s0 s) (n : Nat) : Within k s0 (s.carrelLose n) :=
  within_mk h kept_refl kept_allowed kept_allowed kept_refl kept_refl kept_refl kept_refl kept_refl kept_refl kept_refl kept_refl kept_refl
      kept_refl kept_refl kept_refl kept_refl kept_refl kept_refl kept_refl kept_refl kept_refl kept_refl kept_refl kept_refl kept_refl kept_refl
      kept_refl kept_refl kept_refl kept_refl kept_refl

theorem State.emit_within [Allowed k.out] (h : Within k s0 s) (o : Out) : Within k s0 (s.emit o) :=
  within_mk h kept_refl kept_refl kept_refl kept_refl kept_refl kept_refl kept_refl kept_allowed kept_refl kept_refl kept_refl kept_refl kept_refl
      kept_refl kept_refl kept_refl kept_refl kept_refl kept_refl kept_refl kept_refl kept_refl kept_refl kept_refl kept_refl kept_refl kept_refl
      kept_refl kept_refl kept_refl kept_refl

theorem State.tick1_within [Allowed k.fresh] (h : Within k s0 s) : Within k s0 (s.tick1) :=
  within_mk h kept_refl kept_refl kept_refl kept_refl kept_refl kept_refl kept_refl kept_refl kept_allowed kept_refl kept_refl kept_refl kept_refl
      kept_refl kept_refl kept_refl kept_refl kept_refl kept_refl kept_refl kept_refl kept_refl kept_refl kept_refl kept_refl kept_refl kept_refl
      kept_refl kept_refl kept_refl kept_refl

theorem State.forEach_within {α : Type} {f : State → α → State} (hf : ∀ u x, Within k s0 u → Within k s0 (f u x)) :
    ∀ {l : List α} {s : State}, Within k s0 s → Within k s0 (s.forEach l f)
  | [], _, h => h
  | x :: rest, _, h => State.forEach_within hf (l := rest) (hf _ x h)

theorem State.doIf_within {f : State → State} {c : Bool} (h : Within k s0 s) (hf : ∀ u, Within k s0 u → Within k s0 (f u)) :
    Within k s0 (s.doIf c f) := by
  unfold State.doIf
  split
  · exact hf s h
  · exact h

theorem State.stBytes_within [Allowed k.mem] : ∀ {l : List Byte} {s : State} (_ : Within k s0 s) (a : Nat), Within k s0 (s.stBytes a l)
  | [], _, h, _ => h
  | b :: rest, s, h, a => State.stBytes_within (l := rest) (State.stb_within h a b) (a + 1)

end Sys2Proof.Machine
end

