-- ==== Sys2Proof/Laws/WithinOps.lean ====
section
/-!
SUPPORT. Laws/WithinOps.lean: which fields of the state each operation and meaning may change, for the shared operations, lanes and accession sets: one
lemma each, named after it, which asks that the mask have those fields.
-/
namespace Sys2Proof.Machine

theorem State.wrN_within {K : Mask} {s0 s : State} [Allowed K.regs] (h : Within K s0 s) (a n : Nat) : Within K s0 (State.wrN s a n) := by
  simp +contextual (maxDischargeDepth := 100) only [State.wrN, State.wr_within, h]

theorem State.fput_within {K : Mask} {s0 s : State} [Allowed K.regs] (h : Within K s0 s) (f : Field) (n : Nat) : Within K s0
    (State.fput s f n) := by
  simp +contextual (maxDischargeDepth := 100) only [State.fput, State.wr_within, h]

theorem State.raise_within {K : Mask} {s0 s : State} [Allowed K.regs] (h : Within K s0 s) (f : Field) : Within K s0 (State.raise s f) := by
  simp +contextual (maxDischargeDepth := 100) only [State.raise, State.fput_within, h]

theorem State.raiseIf_within {K : Mask} {s0 s : State} [Allowed K.regs] (h : Within K s0 s) (c : Bool) (f : Field) : Within K s0
    (State.raiseIf s c f) := by
  simp +contextual (maxDischargeDepth := 100) only [State.raiseIf, State.raise_within, within_ite, h]

theorem State.countBy_within {K : Mask} {s0 s : State} [Allowed K.regs] (h : Within K s0 s) (a n : Nat) : Within K s0 (State.countBy s a n) := by
  simp +contextual (maxDischargeDepth := 100) only [State.countBy, State.wrN_within, h]

theorem State.count_within {K : Mask} {s0 s : State} [Allowed K.regs] (h : Within K s0 s) (a : Nat) : Within K s0 (State.count s a) := by
  simp +contextual (maxDischargeDepth := 100) only [State.count, State.countBy_within, h]

theorem State.wr64_within {K : Mask} {s0 s : State} [Allowed K.regs] (h : Within K s0 s) (lo hi n : Nat) : Within K s0 (State.wr64 s lo hi n) := by
  simp +contextual (maxDischargeDepth := 100) only [State.wr64, State.wrN_within, h]

theorem State.setFlag_within {K : Mask} {s0 s : State} [Allowed K.regs] (h : Within K s0 s) (arr : Nat → Nat) (k : Nat) (b : Bool) : Within K s0
    (State.setFlag s arr k b) := by
  simp +contextual (maxDischargeDepth := 100) only [State.setFlag, State.fput_within, h]

theorem State.stNat_within {K : Mask} {s0 s : State} [Allowed K.mem] (h : Within K s0 s) (a n v : Nat) : Within K s0 (State.stNat s a n v) := by
  simp +contextual (maxDischargeDepth := 100) only [State.stNat, State.stBytes_within, h]

theorem State.clr_within {K : Mask} {s0 s : State} [Allowed K.regs] (h : Within K s0 s) (a : Nat) : Within K s0 (State.clr s a) := by
  simp +contextual (maxDischargeDepth := 100) only [State.clr, State.wr_within, h]

theorem State.at_within {K : Mask} {s0 s : State} [Allowed K.regs] (h : Within K s0 s) (x : Nat) : Within K s0 (State.at s x) := by
  simp +contextual (maxDischargeDepth := 100) only [State.at, within_mk, kept_refl, kept_allowed, h]

theorem State.latchChanged_within {K : Mask} [Allowed K.snap] {s0 t : State} (h : Within K s0 t) (s : State) (x : Nat) : Within K s0
    (s.latchChanged t x) := by
  simp +contextual (maxDischargeDepth := 100) only [State.latchChanged, within_mk, kept_refl, kept_allowed, within_ite, h]

theorem State.noteQuality_within {K : Mask} {s0 s : State} [Allowed K.regs] [Allowed K.time] (h : Within K s0 s) : Within K s0
    (State.noteQuality s) := by
  simp +contextual (maxDischargeDepth := 100) only [State.noteQuality, State.wrN_within, within_mk, kept_refl, kept_allowed, within_ite, h]

theorem State.qualityBlock_within {K : Mask} {s0 s : State} [Allowed K.time] (h : Within K s0 s) (n : Nat) : Within K s0
    (State.qualityBlock s n) := by
  simp +contextual (maxDischargeDepth := 100) only [State.qualityBlock, within_mk, kept_refl, kept_allowed, h]

theorem State.showQuality_within {K : Mask} {s0 s : State} [Allowed K.regs] (h : Within K s0 s) : Within K s0 (State.showQuality s) := by
  simp +contextual (maxDischargeDepth := 100) only [State.showQuality, State.wrN_within, h]

theorem State.siJudgeFrame_within {K : Mask} {s0 s : State} [Allowed K.regs] [Allowed K.time] (h : Within K s0 s) (slot n : Nat) (d : Int)
    (forceFail : Bool) : Within K s0 (State.siJudgeFrame s slot n d forceFail) := by
  simp +contextual (maxDischargeDepth := 100) only [State.siJudgeFrame, State.count_within, State.raiseIf_within, within_mk, kept_refl,
      kept_allowed, within_ite, h]

theorem State.blockFails_within {K : Mask} {s0 s : State} [Allowed K.regs] [Allowed K.time] (h : Within K s0 s) (n : Nat) (d : Int) : Within K s0
    (State.blockFails s n d) := by
  simp +contextual (maxDischargeDepth := 100) only [State.blockFails, State.raise_within, State.wrN_within, within_mk, kept_refl, kept_allowed,
      within_ite, h]

theorem State.blockPasses_within {K : Mask} {s0 s : State} [Allowed K.regs] [Allowed K.time] (h : Within K s0 s) (n : Nat) : Within K s0
    (State.blockPasses s n) := by
  unfold State.blockPasses
  repeat' split
  all_goals simp +contextual (maxDischargeDepth := 100) only [State.raise_within, within_mk, kept_refl, kept_allowed, within_ite, h]

theorem State.judgeBlock_within {K : Mask} {s0 s : State} [Allowed K.regs] [Allowed K.time] (h : Within K s0 s) (n : Nat) : Within K s0
    (State.judgeBlock s n) := by
  simp +contextual (maxDischargeDepth := 100) only [State.judgeBlock, State.blockFails_within, State.blockPasses_within, within_mk, kept_refl,
      kept_allowed, within_ite, h]

theorem State.poisonUnit_within {K : Mask} {s0 s : State} [Allowed K.poison] [Allowed K.hbm] (h : Within K s0 s) (u : Nat) : Within K s0
    (State.poisonUnit s u) := by
  simp +contextual (maxDischargeDepth := 100) only [State.poisonUnit, within_mk, kept_refl, kept_allowed, h]

theorem State.logArc_within {K : Mask} {s0 s : State} [Allowed K.regs] [Allowed K.fresh] (h : Within K s0 s) (kind cls off : Nat) : Within K s0
    (State.logArc s kind cls off) := by
  simp +contextual (maxDischargeDepth := 100) only [State.logArc, State.tick1_within, State.wr64_within, State.wrN_within, within_ite, h]

theorem State.rangeErr_within {K : Mask} {s0 s : State} [Allowed K.regs] [Allowed K.fresh] (h : Within K s0 s) (kind cls off : Nat) : Within K s0
    (State.rangeErr s kind cls off) := by
  simp +contextual (maxDischargeDepth := 100) only [State.rangeErr, State.logArc_within, State.raise_within, h]

theorem State.noteUe_within {K : Mask} {s0 s : State} [Allowed K.regs] [Allowed K.fresh] (h : Within K s0 s) (cls off : Nat) : Within K s0
    (State.noteUe s cls off) := by
  simp +contextual (maxDischargeDepth := 100) only [State.noteUe, State.count_within, State.logArc_within, State.raise_within, h]

theorem State.noteRead_within {K : Mask} {s0 s : State} [Allowed K.regs] [Allowed K.fresh] (h : Within K s0 s) (cls off n : Nat) : Within K s0
    (State.noteRead s cls off n) := by
  simp +contextual (maxDischargeDepth := 100) only [State.noteRead, State.forEach_within, State.noteUe_within, h, implies_true]

theorem State.arcWrite_within {K : Mask} [Allowed K.regs] [Allowed K.mem] [Allowed K.poison] [Allowed K.fresh] {s0 s : State} (h : Within K s0 s)
    (cls off : Nat) (bs : List (Option Byte)) :
    Within K s0 (s.arcWrite cls off bs).1 := by
  unfold State.arcWrite
  dsimp only
  refine State.forEach_within (fun u x hu => State.logArc_within hu _ _ _) (State.countBy_within ?_ _ _)
  refine within_mk (State.forEach_within (fun u x hu => ?_) h) kept_refl kept_refl kept_refl kept_allowed kept_refl kept_refl kept_refl kept_refl
    kept_refl kept_refl kept_refl kept_refl kept_refl kept_refl kept_refl kept_refl kept_refl kept_refl kept_refl kept_refl kept_refl kept_refl
    kept_refl kept_refl kept_refl kept_refl kept_refl kept_refl kept_refl kept_refl kept_refl
  repeat' split
  all_goals first | exact hu | exact State.stb_within hu _ _

theorem State.arcPut_within {K : Mask} {s0 s : State} [Allowed K.regs] [Allowed K.mem] [Allowed K.poison] [Allowed K.fresh] (h : Within K s0 s)
    (off : Nat) (bs : List Byte) : Within K s0 (State.arcPut s off bs) := by
  simp +contextual (maxDischargeDepth := 100) only [State.arcPut, State.arcWrite_within, h]

theorem State.arcRenew_within {K : Mask} {s0 s : State} [Allowed K.regs] [Allowed K.mem] [Allowed K.poison] [Allowed K.fresh] [Allowed K.hbm]
    (h : Within K s0 s) (off : Nat) (bs : List Byte) : Within K s0 (State.arcRenew s off bs) := by
  simp +contextual (maxDischargeDepth := 100) only [State.arcRenew, State.arcPut_within, within_mk, kept_refl, kept_allowed, h]

theorem State.arcPutNat_within {K : Mask} {s0 s : State} [Allowed K.regs] [Allowed K.mem] [Allowed K.poison] [Allowed K.fresh] (h : Within K s0 s)
    (off n v : Nat) : Within K s0 (State.arcPutNat s off n v) := by
  simp +contextual (maxDischargeDepth := 100) only [State.arcPutNat, State.arcPut_within, h]

theorem State.laneMod_within {K : Mask} {s0 s : State} [Allowed K.lanes] (h : Within K s0 s) (n : Nat) (f : LaneSt → LaneSt) : Within K s0
    (State.laneMod s n f) := by
  simp +contextual (maxDischargeDepth := 100) only [State.laneMod, within_mk, kept_refl, kept_allowed, h]

theorem State.laneDeliver_within {K : Mask} {s0 s : State} [Allowed K.regs] [Allowed K.lanes] (h : Within K s0 s) (n : Nat) (f : RxFrame) :
    Within K s0 (State.laneDeliver s n f) := by
  simp +contextual (maxDischargeDepth := 100) only [State.laneDeliver, State.count_within, State.laneMod_within, within_ite, h]

theorem State.closeBad_within {K : Mask} {s0 s : State} [Allowed K.regs] [Allowed K.lanes] (h : Within K s0 s) (n : Nat) : Within K s0
    (State.closeBad s n) := by
  unfold State.closeBad
  split <;> simp +contextual (maxDischargeDepth := 100) only [State.laneDeliver_within, h]

theorem State.send_within {K : Mask} {s0 s : State} [Allowed K.out] [Allowed K.lanes] (h : Within K s0 s) (n : Nat) (cs : List TxChar)
    (again : Bool) : Within K s0 (State.send s n cs again) := by
  simp +contextual (maxDischargeDepth := 100) only [State.send, State.emit_within, State.laneMod_within, h]

theorem State.txAbort_within {K : Mask} {s0 s : State} [Allowed K.regs] [Allowed K.out] [Allowed K.lanes] (h : Within K s0 s) (n : Nat) :
    Within K s0 (State.txAbort s n) := by
  unfold State.txAbort
  split <;> simp +contextual (maxDischargeDepth := 100) only [State.count_within, State.emit_within, State.laneMod_within, State.send_within, h]

theorem State.sendSequence_within {K : Mask} {s0 s : State} [Allowed K.out] [Allowed K.lanes] (h : Within K s0 s) (n : Nat) (tsb : Bool) :
    Within K s0 (State.sendSequence s n tsb) := by
  simp +contextual (maxDischargeDepth := 100) only [State.sendSequence, State.send_within, h]

theorem State.quireMirror_within {K : Mask} {s0 s : State} [Allowed K.regs] (h : Within K s0 s) (n : Nat) (b : Bool) : Within K s0
    (State.quireMirror s n b) := by
  simp +contextual (maxDischargeDepth := 100) only [State.quireMirror, State.fput_within, h]

theorem State.leaveActive_within {K : Mask} {s0 s : State} [Allowed K.regs] [Allowed K.out] [Allowed K.lanes] (h : Within K s0 s) (n : Nat)
    (cat : Bool) : Within K s0 (State.leaveActive s n cat) := by
  simp +contextual (maxDischargeDepth := 100) only [State.leaveActive, State.closeBad_within, State.fput_within, State.quireMirror_within,
      State.raiseIf_within, State.txAbort_within, within_ite, h]

theorem State.laneSet_within {K : Mask} {s0 s : State} [Allowed K.regs] (h : Within K s0 s) (n st : Nat) : Within K s0 (State.laneSet s n st) := by
  simp +contextual (maxDischargeDepth := 100) only [State.laneSet, State.fput_within, State.raiseIf_within, h]

theorem State.dropLocks_within {K : Mask} {s0 s : State} [Allowed K.regs] (h : Within K s0 s) (n : Nat) : Within K s0 (State.dropLocks s n) := by
  simp +contextual (maxDischargeDepth := 100) only [State.dropLocks, State.fput_within, h]

theorem State.enterOff_within {K : Mask} {s0 s : State} [Allowed K.regs] [Allowed K.out] [Allowed K.lanes] (h : Within K s0 s) (n : Nat)
    (cat : Bool) : Within K s0 (State.enterOff s n cat) := by
  simp +contextual (maxDischargeDepth := 100) only [State.enterOff, State.dropLocks_within, State.fput_within, State.laneMod_within,
      State.laneSet_within, State.leaveActive_within, h]

theorem State.enterDetect_within {K : Mask} {s0 s : State} [Allowed K.regs] [Allowed K.out] [Allowed K.lanes] (h : Within K s0 s) (n : Nat)
    (cat : Bool) : Within K s0 (State.enterDetect s n cat) := by
  simp +contextual (maxDischargeDepth := 100) only [State.enterDetect, State.clr_within, State.dropLocks_within, State.emit_within,
      State.forEach_within, State.fput_within, State.laneMod_within, State.laneSet_within, State.leaveActive_within, h, implies_true]

theorem State.enterTrain_within {K : Mask} {s0 s : State} [Allowed K.regs] [Allowed K.out] [Allowed K.lanes] (h : Within K s0 s) (n r : Nat)
    (cat : Bool) : Within K s0 (State.enterTrain s n r cat) := by
  simp +contextual (maxDischargeDepth := 100) only [State.enterTrain, State.count_within, State.dropLocks_within, State.fput_within,
      State.laneMod_within, State.laneSet_within, State.leaveActive_within, State.sendSequence_within, h]

theorem State.enterLock_within {K : Mask} {s0 s : State} [Allowed K.regs] [Allowed K.out] [Allowed K.lanes] (h : Within K s0 s) (n : Nat)
    (keep cat : Bool) : Within K s0 (State.enterLock s n keep cat) := by
  simp +contextual (maxDischargeDepth := 100) only [State.enterLock, State.fput_within, State.laneMod_within, State.laneSet_within,
      State.leaveActive_within, State.sendSequence_within, within_ite, h]

theorem State.enterExchange_within {K : Mask} {s0 s : State} [Allowed K.regs] [Allowed K.out] [Allowed K.lanes] (h : Within K s0 s) (n : Nat) :
    Within K s0 (State.enterExchange s n) := by
  simp +contextual (maxDischargeDepth := 100) only [State.enterExchange, State.laneMod_within, State.laneSet_within, State.send_within,
      within_ite, h]

theorem State.noteRefused_within {K : Mask} {s0 s : State} [Allowed K.regs] (h : Within K s0 s) (n : Nat) (was : Bool × Bool) : Within K s0
    (State.noteRefused s n was) := by
  simp +contextual (maxDischargeDepth := 100) only [State.noteRefused, State.raiseIf_within, h]

theorem State.enterActive_within {K : Mask} {s0 s : State} [Allowed K.regs] [Allowed K.out] [Allowed K.lanes] (h : Within K s0 s) (n v r : Nat) :
    Within K s0 (State.enterActive s n v r) := by
  simp +contextual (maxDischargeDepth := 100) only [State.enterActive, State.fput_within, State.laneMod_within, State.laneSet_within,
      State.noteRefused_within, State.quireMirror_within, State.raiseIf_within, State.send_within, within_ite, h]

theorem State.judgeSet_within {K : Mask} {s0 s : State} [Allowed K.regs] (h : Within K s0 s) (n : Nat) (body : List Byte) : Within K s0
    (State.judgeSet s n body) := by
  simp +contextual (maxDischargeDepth := 100) only [State.judgeSet, State.fput_within, State.raiseIf_within, h]

theorem State.exchangeDone_within {K : Mask} {s0 s : State} [Allowed K.regs] [Allowed K.out] [Allowed K.lanes] (h : Within K s0 s) (n : Nat)
    (body : List Byte) : Within K s0 (State.exchangeDone s n body) := by
  simp +contextual (maxDischargeDepth := 100) only [State.exchangeDone, State.enterActive_within, State.enterTrain_within, State.fput_within,
      State.judgeSet_within, within_ite, h]

theorem State.recordSet_within {K : Mask} {s0 s : State} [Allowed K.regs] (h : Within K s0 s) (n : Nat) (flags : Byte) (body : List Byte) :
    Within K s0 (State.recordSet s n flags body) := by
  simp +contextual (maxDischargeDepth := 100) only [State.recordSet, State.forEach_within, State.fput_within, State.wrN_within, h, implies_true]

theorem State.takeSet_within {K : Mask} {s0 s : State} [Allowed K.regs] [Allowed K.out] [Allowed K.lanes] (h : Within K s0 s) (n : Nat)
    (flags : Byte) (body : List Byte) : Within K s0 (State.takeSet s n flags body) := by
  simp +contextual (maxDischargeDepth := 100) only [State.takeSet, State.exchangeDone_within, State.judgeSet_within, State.laneMod_within,
      State.recordSet_within, State.send_within, within_ite, h]

theorem State.invalidChar_within {K : Mask} {s0 s : State} [Allowed K.regs] [Allowed K.out] [Allowed K.lanes] (h : Within K s0 s) (n : Nat)
    (c : RxChar) : Within K s0 (State.invalidChar s n c) := by
  simp +contextual (maxDischargeDepth := 100) only [State.invalidChar, State.count_within, State.enterLock_within, State.laneMod_within,
      within_ite, h]

theorem State.takeErrs_within {K : Mask} {s0 s : State} [Allowed K.regs] [Allowed K.out] [Allowed K.lanes] (h : Within K s0 s) (n len : Nat)
    (errs : List (Fin 3)) : Within K s0 (State.takeErrs s n len errs) := by
  simp +contextual (maxDischargeDepth := 100) only [State.takeErrs, State.forEach_within, State.invalidChar_within, State.laneMod_within, h,
      implies_true]

theorem State.errProp_within {K : Mask} {s0 s : State} [Allowed K.regs] (h : Within K s0 s) (n : Nat) : Within K s0 (State.errProp s n) := by
  simp +contextual (maxDischargeDepth := 100) only [State.errProp, State.count_within, State.raise_within, h]

theorem State.pairDone_within {K : Mask} {s0 s : State} [Allowed K.regs] [Allowed K.lanes] (h : Within K s0 s) (n : Nat) : Within K s0
    (State.pairDone s n) := by
  unfold State.pairDone
  split <;> simp +contextual (maxDischargeDepth := 100) only [State.count_within, State.laneMod_within, h]

theorem State.outsideChar_within {K : Mask} {s0 s : State} [Allowed K.regs] [Allowed K.out] [Allowed K.lanes] (h : Within K s0 s) (n : Nat)
    (c : RxChar) (frames : Bool) : Within K s0 (State.outsideChar s n c frames) := by
  unfold State.outsideChar
  split <;> simp +contextual (maxDischargeDepth := 100) only [State.count_within, State.doIf_within, State.errProp_within,
      State.invalidChar_within, State.laneMod_within, State.pairDone_within, within_ite, h, implies_true]

theorem State.insideChar_within {K : Mask} {s0 s : State} [Allowed K.regs] [Allowed K.out] [Allowed K.lanes] (h : Within K s0 s) (n : Nat)
    (c : RxChar) : Within K s0 (State.insideChar s n c) := by
  unfold State.insideChar
  split <;> simp +contextual (maxDischargeDepth := 100) only [State.closeBad_within, State.errProp_within, State.invalidChar_within,
      State.laneMod_within, h]

theorem State.runaway_within {K : Mask} {s0 s : State} [Allowed K.regs] [Allowed K.lanes] (h : Within K s0 s) (n : Nat) : Within K s0
    (State.runaway s n) := by
  unfold State.runaway
  split <;> simp +contextual (maxDischargeDepth := 100) only [State.closeBad_within, State.count_within, within_ite, h]

theorem State.frameChar_within {K : Mask} {s0 s : State} [Allowed K.regs] [Allowed K.out] [Allowed K.lanes] (h : Within K s0 s) (n : Nat)
    (c : RxChar) : Within K s0 (State.frameChar s n c) := by
  simp +contextual (maxDischargeDepth := 100) only [State.frameChar, State.insideChar_within, State.laneMod_within, State.outsideChar_within,
      State.runaway_within, within_ite, h]

theorem State.patternGroup_within {K : Mask} {s0 s : State} [Allowed K.regs] [Allowed K.lanes] (h : Within K s0 s) (n g : Nat) : Within K s0
    (State.patternGroup s n g) := by
  simp +contextual (maxDischargeDepth := 100) only [State.patternGroup, State.countBy_within, State.fput_within, State.laneMod_within, within_ite,
      h]

theorem State.patternTime_within {K : Mask} {s0 s : State} [Allowed K.regs] [Allowed K.out] [Allowed K.lanes] (h : Within K s0 s) (n g : Nat) :
    Within K s0 (State.patternTime s n g) := by
  simp +contextual (maxDischargeDepth := 100) only [State.patternTime, State.emit_within, State.laneMod_within, State.patternGroup_within,
      within_ite, h]

theorem State.receiveGroup_within {K : Mask} {s0 s : State} [Allowed K.regs] [Allowed K.out] [Allowed K.lanes] (h : Within K s0 s)
    (n g mark : Nat) : Within K s0 (State.receiveGroup s n g mark) := by
  simp +contextual (maxDischargeDepth := 100) only [State.receiveGroup, State.doIf_within, State.fput_within, State.frameChar_within,
      State.laneMod_within, State.outsideChar_within, State.patternTime_within, within_ite, h, implies_true]

theorem execQuirePllLoss_within {K : Mask} {s0 s : State} [Allowed K.regs] [Allowed K.out] [Allowed K.lanes] (h : Within K s0 s) (q : Fin 24) :
    WithinO K s0 (execQuirePllLoss q s) := by
  simp +contextual (maxDischargeDepth := 100) only [execQuirePllLoss, State.count_within, State.enterOff_within, State.forEach_within,
      State.fput_within, State.raise_within, within_ite, h, implies_true, withinO_next]

theorem execQuirePllLock_within {K : Mask} {s0 s : State} [Allowed K.regs] [Allowed K.out] [Allowed K.lanes] (h : Within K s0 s) (q : Fin 24) :
    WithinO K s0 (execQuirePllLock q s) := by
  simp +contextual (maxDischargeDepth := 100) only [execQuirePllLock, State.enterDetect_within, State.forEach_within, State.fput_within,
      within_ite, h, implies_true, withinO_next]

theorem State.laneDetectPulse_within {K : Mask} {s0 s : State} [Allowed K.out] (h : Within K s0 s) (n : Nat) : Within K s0
    (State.laneDetectPulse s n) := by
  simp +contextual (maxDischargeDepth := 100) only [State.laneDetectPulse, State.emit_within, within_ite, h]

theorem State.laneDetectExit_within {K : Mask} {s0 s : State} [Allowed K.regs] [Allowed K.out] [Allowed K.lanes] (h : Within K s0 s) (n : Nat) :
    Within K s0 (State.laneDetectExit s n) := by
  simp +contextual (maxDischargeDepth := 100) only [State.laneDetectExit, State.enterTrain_within, within_ite, h]

theorem State.setFom_within {K : Mask} {s0 s : State} [Allowed K.regs] [Allowed K.lanes] (h : Within K s0 s) (n : Nat) (fom : Byte) : Within K s0
    (State.setFom s n fom) := by
  simp +contextual (maxDischargeDepth := 100) only [State.setFom, State.fput_within, State.laneMod_within, h]

theorem State.laneTsbSwitch_within {K : Mask} {s0 s : State} [Allowed K.regs] [Allowed K.out] [Allowed K.lanes] (h : Within K s0 s) (n : Nat)
    (fom : Byte) : Within K s0 (State.laneTsbSwitch s n fom) := by
  simp +contextual (maxDischargeDepth := 100) only [State.laneTsbSwitch, State.laneMod_within, State.sendSequence_within, State.setFom_within,
      within_ite, h]

theorem State.laneTrainDone_within {K : Mask} {s0 s : State} [Allowed K.regs] [Allowed K.out] [Allowed K.lanes] (h : Within K s0 s) (n : Nat) :
    Within K s0 (State.laneTrainDone s n) := by
  simp +contextual (maxDischargeDepth := 100) only [State.laneTrainDone, State.enterLock_within, State.fput_within, within_ite, h]

theorem State.laneTrainTimeout_within {K : Mask} {s0 s : State} [Allowed K.regs] [Allowed K.out] [Allowed K.lanes] (h : Within K s0 s) (n : Nat) :
    Within K s0 (State.laneTrainTimeout s n) := by
  simp +contextual (maxDischargeDepth := 100) only [State.laneTrainTimeout, State.enterTrain_within, State.raiseIf_within, within_ite, h]

theorem State.laneLockTimeout_within {K : Mask} {s0 s : State} [Allowed K.regs] [Allowed K.out] [Allowed K.lanes] (h : Within K s0 s) (n : Nat) :
    Within K s0 (State.laneLockTimeout s n) := by
  simp +contextual (maxDischargeDepth := 100) only [State.laneLockTimeout, State.enterTrain_within, State.raise_within, within_ite, h]

theorem execExchTimeout_within {K : Mask} {s0 s : State} [Allowed K.regs] [Allowed K.out] [Allowed K.lanes] (h : Within K s0 s) (n : Fin 192) :
    WithinO K s0 (execExchTimeout n s) := by
  simp +contextual (maxDischargeDepth := 100) only [execExchTimeout, State.enterTrain_within, State.raise_within, within_ite, h, withinO_next]

theorem State.lockSequence_within {K : Mask} {s0 s : State} [Allowed K.regs] [Allowed K.out] [Allowed K.lanes] (h : Within K s0 s) (n : Nat)
    (tsb : Bool) : Within K s0 (State.lockSequence s n tsb) := by
  simp +contextual (maxDischargeDepth := 100) only [State.lockSequence, State.doIf_within, State.enterExchange_within, State.fput_within,
      State.laneMod_within, within_ite, h, implies_true]

theorem State.laneTrainingSequence_within {K : Mask} {s0 s : State} [Allowed K.regs] [Allowed K.out] [Allowed K.lanes] (h : Within K s0 s)
    (n : Nat) (tsb : Bool) (fom : Byte) (errs : List (Fin 3)) : Within K s0 (State.laneTrainingSequence s n tsb fom errs) := by
  simp +contextual (maxDischargeDepth := 100) only [State.laneTrainingSequence, State.enterLock_within, State.enterTrain_within,
      State.fput_within, State.laneMod_within, State.lockSequence_within, State.takeErrs_within, within_ite, h]

theorem execCapabilitySet_within {K : Mask} {s0 s : State} [Allowed K.regs] [Allowed K.out] [Allowed K.lanes] (h : Within K s0 s) (n : Fin 192)
    (flags : Byte) (body : List Byte) (crc : Word) (errs : List (Fin 3)) : WithinO K s0 (execCapabilitySet n flags body crc errs s) := by
  simp +contextual (maxDischargeDepth := 100) only [execCapabilitySet, State.laneMod_within, State.takeErrs_within, State.takeSet_within,
      within_ite, h, withinO_next]

theorem State.laneCharacterReceive_within {K : Mask} {s0 s : State} [Allowed K.regs] [Allowed K.out] [Allowed K.lanes] (h : Within K s0 s)
    (n : Nat) (g : BitVec 10) (mark : Fin 3) : Within K s0 (State.laneCharacterReceive s n g mark) := by
  simp +contextual (maxDischargeDepth := 100) only [State.laneCharacterReceive, State.receiveGroup_within, h]

theorem State.laneSignalLoss_within {K : Mask} {s0 s : State} [Allowed K.regs] [Allowed K.out] [Allowed K.lanes] (h : Within K s0 s) (n : Nat) :
    Within K s0 (State.laneSignalLoss s n) := by
  simp +contextual (maxDischargeDepth := 100) only [State.laneSignalLoss, State.enterDetect_within, within_ite, h]

theorem State.laneBitLockLoss_within {K : Mask} {s0 s : State} [Allowed K.regs] [Allowed K.out] [Allowed K.lanes] (h : Within K s0 s) (n : Nat) :
    Within K s0 (State.laneBitLockLoss s n) := by
  simp +contextual (maxDischargeDepth := 100) only [State.laneBitLockLoss, State.enterTrain_within, within_ite, h]

theorem State.laneBitLock_within {K : Mask} {s0 s : State} [Allowed K.regs] (h : Within K s0 s) (n : Nat) : Within K s0
    (State.laneBitLock s n) := by
  simp +contextual (maxDischargeDepth := 100) only [State.laneBitLock, State.fput_within, within_ite, h]

theorem execFrameReceive_within {K : Mask} {s0 s : State} [Allowed K.regs] [Allowed K.lanes] (h : Within K s0 s) (n : Fin 192) : WithinO K s0
    (execFrameReceive n s) := by
  unfold execFrameReceive
  split <;> simp +contextual (maxDischargeDepth := 100) only [State.laneDeliver_within, State.runaway_within, within_ite, h, withinO_next]

theorem execRunaway_within {K : Mask} {s0 s : State} [Allowed K.regs] [Allowed K.lanes] (h : Within K s0 s) (n : Fin 192) : WithinO K s0
    (execRunaway n s) := by
  simp +contextual (maxDischargeDepth := 100) only [execRunaway, State.runaway_within, within_ite, h, withinO_next]

theorem execElastic_within {K : Mask} {s0 s : State} [Allowed K.regs] [Allowed K.lanes] (h : Within K s0 s) (n : Fin 192) : WithinO K s0
    (execElastic n s) := by
  simp +contextual (maxDischargeDepth := 100) only [execElastic, State.closeBad_within, State.count_within, State.raise_within, within_ite, h,
      withinO_next]

theorem execMargin_within {K : Mask} {s0 s : State} [Allowed K.regs] [Allowed K.lanes] (h : Within K s0 s) (n : Fin 192) (fom : Byte) :
    WithinO K s0 (execMargin n fom s) := by
  simp +contextual (maxDischargeDepth := 100) only [execMargin, State.laneMod_within, State.raiseIf_within, State.setFom_within, within_ite, h,
      withinO_next]

theorem execAdaptStep_within {K : Mask} {s0 s : State} [Allowed K.regs] [Allowed K.lanes] (h : Within K s0 s) (n : Fin 192) (fom : Byte)
    (ctle : BitVec 4) (t1 t2 t3 t4 t5 : BitVec 5) : WithinO K s0 (execAdaptStep n fom ctle t1 t2 t3 t4 t5 s) := by
  simp +contextual (maxDischargeDepth := 100) only [execAdaptStep, State.fput_within, State.setFom_within, within_ite, h, withinO_next]

theorem execLaneRetrain_within {K : Mask} {s0 s : State} [Allowed K.regs] [Allowed K.out] [Allowed K.lanes] (h : Within K s0 s) (n : Fin 192) :
    WithinO K s0 (execLaneRetrain n s) := by
  simp +contextual (maxDischargeDepth := 100) only [execLaneRetrain, State.enterTrain_within, State.fput_within, within_ite, h, withinO_next]

theorem execLaneTestSet_within {K : Mask} {s0 s : State} [Allowed K.regs] [Allowed K.out] [Allowed K.fresh] [Allowed K.lanes] (h : Within K s0 s)
    (n : Fin 192) (loop : BitVec 2) (pat : BitVec 3) (chk : Bool) : WithinO K s0 (execLaneTestSet n loop pat chk s) := by
  simp +contextual (maxDischargeDepth := 100) only [execLaneTestSet, State.dropLocks_within, State.enterDetect_within, State.enterOff_within,
      State.fput_within, State.laneMod_within, State.laneSet_within, State.leaveActive_within, State.raise_within, State.send_within,
      State.tick1_within, within_ite, h, withinO_next]

theorem execSimplexPhaseEnd_within {K : Mask} {s0 s : State} [Allowed K.regs] [Allowed K.out] [Allowed K.lanes] (h : Within K s0 s) (n : Fin 192) :
    WithinO K s0 (execSimplexPhaseEnd n s) := by
  simp +contextual (maxDischargeDepth := 100) only [execSimplexPhaseEnd, State.enterActive_within, State.enterExchange_within,
      State.laneMod_within, State.sendSequence_within, within_ite, h, withinO_next]

theorem State.laneAccede_within {K : Mask} {s0 s : State} [Allowed K.regs] [Allowed K.out] [Allowed K.lanes] (h : Within K s0 s) (n : Nat)
    (cfg0 id0 ex0 : Word) (refused0 : Bool × Bool) : Within K s0 (State.laneAccede s n cfg0 id0 ex0 refused0) := by
  simp +contextual (maxDischargeDepth := 100) only [State.laneAccede, State.enterDetect_within, State.enterLock_within, State.enterOff_within,
      State.enterTrain_within, State.fput_within, State.noteRefused_within, within_ite, h]

theorem State.quireAccede_within {K : Mask} {s0 s : State} [Allowed K.regs] (h : Within K s0 s) (q : Nat) : Within K s0
    (State.quireAccede s q) := by
  simp +contextual (maxDischargeDepth := 100) only [State.quireAccede, State.fput_within, within_ite, h]

theorem State.showSets_within {K : Mask} {s0 s : State} [Allowed K.regs] (h : Within K s0 s) : Within K s0 (State.showSets s) := by
  simp +contextual (maxDischargeDepth := 100) only [State.showSets, State.forEach_within, State.fput_within, State.raiseIf_within, h, implies_true]

end Sys2Proof.Machine
end

