-- ==== Sys2Proof/Laws/WithinArray.lean ====
section
/-!
SUPPORT. Laws/WithinArray.lean: which fields of the state each operation and meaning may change, for ingest, the plan, the tiles of the array, and egress: one
lemma each, named after it, which asks that the mask have those fields.
-/
namespace Sys2Proof.Machine

theorem State.ingMod_within {K : Mask} {s0 s : State} [Allowed K.ingest] (h : Within K s0 s) (f : IngestSt → IngestSt) : Within K s0
    (State.ingMod s f) := by
  simp +contextual (maxDischargeDepth := 100) only [State.ingMod, within_mk, kept_refl, kept_allowed, h]

theorem State.discard_within {K : Mask} {s0 s : State} [Allowed K.regs] (h : Within K s0 s) (n c : Nat) : Within K s0 (State.discard s n c) := by
  simp +contextual (maxDischargeDepth := 100) only [State.discard, State.count_within, State.fput_within, State.raiseIf_within,
      State.raise_within, h]

theorem State.putBlk_within {K : Mask} {s0 s : State} [Allowed K.ingest] (h : Within K s0 s) (c : ChanBlk) : Within K s0 (State.putBlk s c) := by
  simp +contextual (maxDischargeDepth := 100) only [State.putBlk, State.ingMod_within, h]

theorem State.addBlk_within {K : Mask} {s0 s : State} [Allowed K.ingest] (h : Within K s0 s) (c : ChanBlk) : Within K s0 (State.addBlk s c) := by
  simp +contextual (maxDischargeDepth := 100) only [State.addBlk, State.ingMod_within, h]

theorem State.dropBlk_within {K : Mask} {s0 s : State} [Allowed K.ingest] (h : Within K s0 s) (slot b : Nat) : Within K s0
    (State.dropBlk s slot b) := by
  simp +contextual (maxDischargeDepth := 100) only [State.dropBlk, State.ingMod_within, h]

theorem State.showStage_within {K : Mask} {s0 s : State} [Allowed K.regs] (h : Within K s0 s) : Within K s0 (State.showStage s) := by
  simp +contextual (maxDischargeDepth := 100) only [State.showStage, State.fput_within, State.wrN_within, h]

theorem State.judgeFrom_within {K : Mask} [Allowed K.regs] [Allowed K.time] {s0 : State} : ∀ {n : Nat} {s : State}, Within K s0 s → Within K s0
    (State.judgeFrom n s)
  | 0, _, h => h
  | n + 1, s, h => by
    unfold State.judgeFrom
    split
    · exact State.judgeFrom_within (n := n) (by simp only [within_mk, kept_refl, kept_allowed, State.judgeBlock_within, h])
    · exact h

theorem State.recordDigest_within {K : Mask} {s0 s : State} [Allowed K.regs] [Allowed K.chain] (h : Within K s0 s) : Within K s0
    (State.recordDigest s) := by
  unfold State.recordDigest
  split <;> simp +contextual (maxDischargeDepth := 100) only [State.forEach_within, State.wrN_within, within_mk, kept_refl, kept_allowed,
      within_ite, h, implies_true]

theorem State.advanceSi_within {K : Mask} {s0 s : State} [Allowed K.regs] [Allowed K.time] [Allowed K.chain] (h : Within K s0 s) (b : Nat) :
    Within K s0 (State.advanceSi s b) := by
  simp +contextual (maxDischargeDepth := 100) only [State.advanceSi, State.doIf_within, State.judgeFrom_within, State.qualityBlock_within,
      State.recordDigest_within, State.showQuality_within, State.showSets_within, within_mk, kept_refl, kept_allowed, h, implies_true]

theorem State.afterClose_within {K : Mask} {s0 s : State} [Allowed K.regs] [Allowed K.time] [Allowed K.chain] (h : Within K s0 s) (b : Nat) :
    Within K s0 (State.afterClose s b) := by
  simp +contextual (maxDischargeDepth := 100) only [State.afterClose, State.advanceSi_within, within_ite, h]

theorem State.countCauses_within {K : Mask} {s0 s : State} [Allowed K.regs] (h : Within K s0 s) (c : ChanBlk) : Within K s0
    (State.countCauses s c) := by
  simp +contextual (maxDischargeDepth := 100) only [State.countCauses, State.countBy_within, State.forEach_within, h, implies_true]

theorem State.closeBlk_within {K : Mask} {s0 s : State} [Allowed K.regs] [Allowed K.ingest] [Allowed K.time] [Allowed K.chain] (h : Within K s0 s)
    (c : ChanBlk) : Within K s0 (State.closeBlk s c) := by
  simp +contextual (maxDischargeDepth := 100) only [State.closeBlk, State.afterClose_within, State.countCauses_within, State.putBlk_within,
      State.showStage_within, h]

theorem State.closeEmpty_within {K : Mask} {s0 s : State} [Allowed K.regs] [Allowed K.ingest] [Allowed K.time] [Allowed K.chain]
    (h : Within K s0 s) (slot b : Nat) : Within K s0 (State.closeEmpty s slot b) := by
  simp +contextual (maxDischargeDepth := 100) only [State.closeEmpty, State.addBlk_within, State.afterClose_within, State.countCauses_within, h]

theorem State.acceptFrame_within {K : Mask} {s0 s : State} [Allowed K.regs] [Allowed K.ingest] [Allowed K.time] [Allowed K.chain]
    (h : Within K s0 s) (c : ChanBlk) (f : AccFrame) (si : Nat) (force : Bool) : Within K s0 (State.acceptFrame s c f si force) := by
  simp +contextual (maxDischargeDepth := 100) only [State.acceptFrame, State.closeBlk_within, State.count_within, State.doIf_within,
      State.putBlk_within, State.raise_within, State.showStage_within, State.siJudgeFrame_within, within_ite, h, implies_true]

theorem State.stageFrame_within {K : Mask} {s0 s : State} [Allowed K.regs] [Allowed K.ingest] [Allowed K.time] [Allowed K.chain]
    (h : Within K s0 s) (n : Nat) (h : UipHead) (payload : List Byte) : Within K s0 (State.stageFrame s n h payload) := by
  unfold State.stageFrame
  dsimp only
  repeat' (first
      | with_reducible assumption
      | with_reducible apply within_ite
      | with_reducible apply State.acceptFrame_within
      | with_reducible apply State.addBlk_within
      | with_reducible apply State.at_within
      | with_reducible apply State.discard_within
      | with_reducible apply State.fput_within
      | (intro)
      | split
      | (simp +contextual (maxDischargeDepth := 100) only [*, State.acceptFrame_within, State.addBlk_within, State.at_within,
          State.discard_within, State.fput_within, within_mk, kept_refl, kept_allowed, within_ite, h, implies_true]; done))

theorem State.takeFrame_within {K : Mask} {s0 s : State} [Allowed K.regs] [Allowed K.ingest] [Allowed K.time] [Allowed K.chain]
    (h : Within K s0 s) (n : Nat) (f : RxFrame) : Within K s0 (State.takeFrame s n f) := by
  simp +contextual (maxDischargeDepth := 100) only [State.takeFrame, State.count_within, State.discard_within, State.doIf_within,
      State.raise_within, State.stageFrame_within, within_ite, h, implies_true]

theorem State.monCatchUp_within {K : Mask} {s0 s : State} [Allowed K.regs] [Allowed K.ingest] (h : Within K s0 s) (i si : Nat) : Within K s0
    (State.monCatchUp s i si) := by
  simp +contextual (maxDischargeDepth := 100) only [State.monCatchUp, State.clr_within, State.forEach_within, State.ingMod_within, within_ite, h,
      implies_true]

theorem State.monCompare_within {K : Mask} {s0 s : State} [Allowed K.regs] [Allowed K.ingest] (h : Within K s0 s) (v : State) (i l : Nat) :
    Within K s0 (State.monCompare s v i l) := by
  simp +contextual (maxDischargeDepth := 100) only [State.monCompare, State.doIf_within, State.ingMod_within, State.setFlag_within, h, implies_true]

theorem State.monAdd_within {K : Mask} {s0 s : State} [Allowed K.regs] [Allowed K.ingest] (h : Within K s0 s) (v : State) (i sum : Nat) :
    Within K s0 (State.monAdd s v i sum) := by
  simp +contextual (maxDischargeDepth := 100) only [State.monAdd, State.fput_within, State.ingMod_within, State.monCompare_within, within_ite, h]

theorem monitorInput_within {K : Mask} {s0 s : State} [Allowed K.regs] [Allowed K.ingest] (h : Within K s0 s) (c : ChanBlk) (i : Nat) :
    Within K s0 (monitorInput s c i).1 := by
  simp +contextual (maxDischargeDepth := 100) only [monitorInput, State.countBy_within, State.monAdd_within, State.monCatchUp_within,
      State.raiseIf_within, h, within_ite1]

theorem monitorAll_within {K : Mask} [Allowed K.regs] [Allowed K.ingest] {s0 s : State} (h : Within K s0 s) (c : ChanBlk) : Within K s0
    (monitorAll s c).1 := by
  unfold monitorAll
  generalize List.range _ = l
  have : ∀ (l : List Nat) (p : State × ChanBlk), Within K s0 p.1 → Within K s0 (l.foldl (fun p i => monitorInput p.1 p.2 i) p).1 := by
    intro l
    induction l with
    | nil => exact fun _ h => h
    | cons x r ih => exact fun p h => ih _ (monitorInput_within h _ _)
  exact this l (s, c) h

theorem State.addVcnt_within {K : Mask} {s0 s : State} [Allowed K.ingest] (h : Within K s0 s) (c : ChanBlk) (m : Nat) : Within K s0
    (State.addVcnt s c m) := by
  simp +contextual (maxDischargeDepth := 100) only [State.addVcnt, State.forEach_within, State.ingMod_within, within_ite, h, implies_true]

theorem State.cornerWrite_within {K : Mask} {s0 s : State} [Allowed K.regs] [Allowed K.mem] [Allowed K.poison] [Allowed K.fresh]
    [Allowed K.ingest] (h : Within K s0 s) (c : ChanBlk) : Within K s0 (State.cornerWrite s c) := by
  simp +contextual (maxDischargeDepth := 100) only [State.cornerWrite, State.addVcnt_within, State.arcPut_within, State.ingMod_within, within_ite,
      h]

theorem State.bumpRel_within {K : Mask} {s0 s : State} [Allowed K.ingest] (h : Within K s0 s) (slot b : Nat) : Within K s0
    (State.bumpRel s slot b) := by
  simp +contextual (maxDischargeDepth := 100) only [State.bumpRel, State.ingMod_within, within_ite, h]

theorem execSamplesFrame_within {K : Mask} {s0 s : State} [Allowed K.regs] [Allowed K.lanes] [Allowed K.quireNext] [Allowed K.ingest]
    [Allowed K.time] [Allowed K.chain] (h : Within K s0 s) (q : Fin 24) : WithinO K s0 (execSamplesFrame q s) := by
  unfold execSamplesFrame
  repeat' split
  all_goals simp +contextual (maxDischargeDepth := 100) only [State.takeFrame_within, within_mk, kept_refl, kept_allowed, h, withinO_next]

theorem execBlockDeadline_within {K : Mask} {s0 s : State} [Allowed K.regs] [Allowed K.ingest] [Allowed K.time] [Allowed K.chain]
    (h : Within K s0 s) (b : Nat) : WithinO K s0 (execBlockDeadline b s) := by
  unfold execBlockDeadline
  dsimp only
  repeat' (first
      | with_reducible assumption
      | (simp +contextual (maxDischargeDepth := 100) only [*, State.closeBlk_within, State.closeEmpty_within, State.count_within,
          State.raise_within]; done)
      | with_reducible apply within_ite
      | with_reducible apply withinO_next
      | with_reducible apply State.advanceSi_within
      | with_reducible apply State.at_within
      | with_reducible apply State.closeBlk_within
      | with_reducible apply State.closeEmpty_within
      | with_reducible apply State.count_within
      | with_reducible apply State.forEach_within
      | with_reducible apply State.raise_within
      | (intro)
      | split)

theorem execSkewExpiry_within {K : Mask} {s0 s : State} [Allowed K.regs] [Allowed K.ingest] [Allowed K.time] [Allowed K.chain] (h : Within K s0 s)
    (slot b : Nat) : WithinO K s0 (execSkewExpiry slot b s) := by
  unfold execSkewExpiry
  split <;> simp +contextual (maxDischargeDepth := 100) only [State.closeBlk_within, State.count_within, State.raise_within, within_ite, h,
      withinO_next]

theorem execMonRestart_within {K : Mask} {s0 s : State} [Allowed K.regs] [Allowed K.ingest] (h : Within K s0 s) : WithinO K s0
    (execMonRestart s) := by
  simp +contextual (maxDischargeDepth := 100) only [execMonRestart, State.fput_within, State.ingMod_within, h, withinO_next]

theorem execMonitorRestart_within {K : Mask} {s0 s : State} [Allowed K.regs] [Allowed K.ingest] (h : Within K s0 s) : WithinO K s0
    (execMonitorRestart s) := by
  unfold execMonitorRestart
  split <;> simp +contextual (maxDischargeDepth := 100) only [State.fput_within, State.ingMod_within, within_ite, h, withinO_next]

theorem execGeneratorDelivery_within {K : Mask} {s0 s : State} [Allowed K.regs] [Allowed K.ingest] [Allowed K.time] [Allowed K.chain]
    (h : Within K s0 s) (slot b : Nat) : WithinO K s0 (execGeneratorDelivery slot b s) := by
  simp +contextual (maxDischargeDepth := 100) only [execGeneratorDelivery, State.addBlk_within, State.closeBlk_within, State.closeEmpty_within,
      State.count_within, State.fput_within, within_ite, h, withinO_next]

theorem State.arrMod_within {K : Mask} {s0 s : State} [Allowed K.array] (h : Within K s0 s) (f : ArraySt → ArraySt) : Within K s0
    (State.arrMod s f) := by
  simp +contextual (maxDischargeDepth := 100) only [State.arrMod, within_mk, kept_refl, kept_allowed, h]

theorem State.accMod_within {K : Mask} {s0 s : State} [Allowed K.accum] (h : Within K s0 s) (f : AccumSt → AccumSt) : Within K s0
    (State.accMod s f) := by
  simp +contextual (maxDischargeDepth := 100) only [State.accMod, within_mk, kept_refl, kept_allowed, h]

theorem State.tileMod_within {K : Mask} {s0 s : State} [Allowed K.array] (h : Within K s0 s) (t : Nat) (f : TileSt → TileSt) : Within K s0
    (State.tileMod s t f) := by
  simp +contextual (maxDischargeDepth := 100) only [State.tileMod, State.arrMod_within, h]

theorem State.pv_within {K : Mask} {s0 s : State} [Allowed K.regs] (h : Within K s0 s) : Within K s0 (State.pv s) := by
  simp +contextual (maxDischargeDepth := 100) only [State.pv, within_mk, kept_refl, kept_allowed, h]

theorem State.raiseTev_within {K : Mask} {s0 s : State} [Allowed K.regs] (h : Within K s0 s) (t k : Nat) : Within K s0 (State.raiseTev s t k) := by
  simp +contextual (maxDischargeDepth := 100) only [State.raiseTev, State.raise_within, within_ite, h]

theorem State.runMod_within {K : Mask} {s0 s : State} [Allowed K.array] (h : Within K s0 s) (id : Nat) (f : WinRun → WinRun) : Within K s0
    (State.runMod s id f) := by
  simp +contextual (maxDischargeDepth := 100) only [State.runMod, State.arrMod_within, h]

theorem State.putQueue_within {K : Mask} {s0 s : State} [Allowed K.regs] (h : Within K s0 s) (p : Nat) (q : List QOrd) : Within K s0
    (State.putQueue s p q) := by
  simp +contextual (maxDischargeDepth := 100) only [State.putQueue, State.forEach_within, State.wrN_within, h, implies_true]

theorem State.showQueue_within {K : Mask} {s0 s : State} [Allowed K.regs] (h : Within K s0 s) (t : Nat) : Within K s0 (State.showQueue s t) := by
  unfold State.showQueue
  split <;> simp +contextual (maxDischargeDepth := 100) only [State.putQueue_within, h]

theorem State.integMod_within {K : Mask} {s0 s : State} [Allowed K.accum] (h : Within K s0 s) (id : Nat) (f : Integ → Integ) : Within K s0
    (State.integMod s id f) := by
  simp +contextual (maxDischargeDepth := 100) only [State.integMod, State.accMod_within, h]

theorem State.drainIssue_within {K : Mask} {s0 s : State} [Allowed K.array] [Allowed K.accum] (h : Within K s0 s) : Within K s0
    (State.drainIssue s) := by
  unfold State.drainIssue
  dsimp only
  repeat' (first
      | with_reducible assumption
      | with_reducible apply within_ite
      | with_reducible apply State.arrMod_within
      | with_reducible apply State.forEach_within
      | with_reducible apply State.integMod_within
      | with_reducible apply State.tileMod_within
      | (intro)
      | split
      | (simp +contextual (maxDischargeDepth := 100) only [*, State.arrMod_within, State.forEach_within, State.integMod_within,
          State.tileMod_within, within_mk, kept_refl, kept_allowed, within_ite, h, implies_true]; done))

theorem State.showRunning_within {K : Mask} {s0 s : State} [Allowed K.regs] (h : Within K s0 s) : Within K s0 (State.showRunning s) := by
  simp +contextual (maxDischargeDepth := 100) only [State.showRunning, State.fput_within, h]

theorem State.beamMod_within {K : Mask} {s0 s : State} [Allowed K.beam] (h : Within K s0 s) (f : BeamSt → BeamSt) : Within K s0
    (State.beamMod s f) := by
  simp +contextual (maxDischargeDepth := 100) only [State.beamMod, within_mk, kept_refl, kept_allowed, h]

theorem State.countClamp_within {K : Mask} {s0 s : State} [Allowed K.regs] [Allowed K.beam] (h : Within K s0 s) (n : Nat) : Within K s0
    (State.countClamp s n) := by
  simp +contextual (maxDischargeDepth := 100) only [State.countClamp, State.beamMod_within, State.countBy_within, h]

theorem State.countWstall_within {K : Mask} {s0 s : State} [Allowed K.regs] [Allowed K.beam] (h : Within K s0 s) (n : Nat) : Within K s0
    (State.countWstall s n) := by
  simp +contextual (maxDischargeDepth := 100) only [State.countWstall, State.beamMod_within, State.countBy_within, h]

theorem State.addTrees_within {K : Mask} {s0 s : State} [Allowed K.mem] (h : Within K s0 s) (t : Nat) (o : QOrd) (c : ChanBlk)
    (ws : List (List (Int × Int × Bool))) (js : List Nat) : Within K s0 (State.addTrees s t o c ws js) := by
  simp +contextual (maxDischargeDepth := 100) only [State.addTrees, State.forEach_within, State.stNat_within, h, implies_true]

theorem State.runBpass_within {K : Mask} {s0 s : State} [Allowed K.regs] [Allowed K.mem] [Allowed K.beam] (h : Within K s0 s) (t : Nat)
    (o : QOrd) : Within K s0 (State.runBpass s t o) := by
  unfold State.runBpass
  split <;> simp +contextual (maxDischargeDepth := 100) only [State.addTrees_within, State.countClamp_within, State.forEach_within, within_ite, h,
      implies_true]

theorem State.bpassDone_within {K : Mask} {s0 s : State} [Allowed K.ingest] [Allowed K.array] (h : Within K s0 s) (t : Nat) (o : QOrd) :
    Within K s0 (State.bpassDone s t o) := by
  unfold State.bpassDone
  repeat' split
  all_goals simp +contextual (maxDischargeDepth := 100) only [State.putBlk_within, State.tileMod_within, h]

theorem State.nextBpass_within {K : Mask} {s0 s : State} [Allowed K.regs] [Allowed K.array] (h : Within K s0 s) (t : Nat) : Within K s0
    (State.nextBpass s t) := by
  unfold State.nextBpass
  dsimp only
  repeat' split
  all_goals simp +contextual (maxDischargeDepth := 100) only [State.showQueue_within, State.tileMod_within, h]

theorem execStagingFree_within {K : Mask} {s0 s : State} [Allowed K.regs] [Allowed K.ingest] (h : Within K s0 s) (slot b : Nat) : WithinO K s0
    (execStagingFree slot b s) := by
  unfold execStagingFree
  split <;> simp +contextual (maxDischargeDepth := 100) only [State.dropBlk_within, State.showStage_within, within_ite, h, withinO_next]

theorem State.reserveShed_within {K : Mask} [Allowed K.regs] [Allowed K.ingest] {s0 : State} : ∀ {n : Nat} {s : State}, Within K s0 s →
    Within K s0 (State.reserveShed n s)
  | 0, _, h => h
  | n + 1, s, h => by
    unfold State.reserveShed
    split
    · exact h
    · split
      · exact h
      · split
        · exact State.reserveShed_within (n := n) (State.dropBlk_within h _ _)
        · exact State.reserveShed_within (n := n) (State.count_within (State.ingMod_within (State.dropBlk_within h _ _) _) _)

theorem State.releaseBlk_within {K : Mask} {s0 s : State} [Allowed K.regs] [Allowed K.mem] [Allowed K.poison] [Allowed K.fresh] [Allowed K.ingest]
    (h : Within K s0 s) (c : ChanBlk) : Within K s0 (State.releaseBlk s c) := by
  simp +contextual (maxDischargeDepth := 100) only [State.releaseBlk, State.addBlk_within, State.bumpRel_within, State.cornerWrite_within,
      State.doIf_within, State.dropBlk_within, State.reserveShed_within, State.showStage_within, monitorAll_within, h, implies_true]

theorem execChannelBlockRelease_within {K : Mask} {s0 s : State} [Allowed K.regs] [Allowed K.mem] [Allowed K.poison] [Allowed K.fresh]
    [Allowed K.ingest] (h : Within K s0 s) (slot b : Nat) : WithinO K s0 (execChannelBlockRelease slot b s) := by
  unfold execChannelBlockRelease
  split <;> simp +contextual (maxDischargeDepth := 100) only [State.releaseBlk_within, within_ite, h, withinO_next]

theorem State.putSlot_within {K : Mask} {s0 s : State} [Allowed K.mem] (h : Within K s0 s) (t k : Nat) (cs : List CellSum) : Within K s0
    (State.putSlot s t k cs) := by
  simp +contextual (maxDischargeDepth := 100) only [State.putSlot, State.doIf_within, State.forEach_within, State.stBytes_within,
      State.stNat_within, h, implies_true]

theorem State.slotMod_within {K : Mask} {s0 s : State} [Allowed K.array] (h : Within K s0 s) (t k : Nat) (f : SlotSt → SlotSt) : Within K s0
    (State.slotMod s t k f) := by
  simp +contextual (maxDischargeDepth := 100) only [State.slotMod, State.arrMod_within, h]

theorem State.retirePend_within {K : Mask} {s0 s : State} [Allowed K.regs] [Allowed K.array] (h : Within K s0 s) (p cause : Nat) : Within K s0
    (State.retirePend s p cause) := by
  simp +contextual (maxDischargeDepth := 100) only [State.retirePend, State.arrMod_within, State.fput_within, State.raiseTev_within,
      State.raise_within, State.setFlag_within, within_ite, h]

theorem State.lastErr_within {K : Mask} {s0 s : State} [Allowed K.regs] (h : Within K s0 s) (kind p : Nat) : Within K s0
    (State.lastErr s kind p) := by
  simp +contextual (maxDischargeDepth := 100) only [State.lastErr, State.fput_within, h]

theorem State.noteShedDwell_within {K : Mask} {s0 s : State} [Allowed K.accum] (h : Within K s0 s) (r : WinRun) : Within K s0
    (State.noteShedDwell s r) := by
  simp +contextual (maxDischargeDepth := 100) only [State.noteShedDwell, State.forEach_within, State.integMod_within, h, implies_true]

theorem State.abandonDwell_within {K : Mask} {s0 s : State} [Allowed K.regs] [Allowed K.array] [Allowed K.accum] (h : Within K s0 s) (id c : Nat) :
    Within K s0 (State.abandonDwell s id c) := by
  unfold State.abandonDwell
  split <;> simp +contextual (maxDischargeDepth := 100) only [State.arrMod_within, State.count_within, State.drainIssue_within,
      State.noteShedDwell_within, State.raise_within, State.runMod_within, State.showRunning_within, within_ite, h]

theorem State.abandonRun_within {K : Mask} {s0 s : State} [Allowed K.regs] [Allowed K.array] [Allowed K.accum] (h : Within K s0 s) (r : WinRun) :
    Within K s0 (State.abandonRun s r) := by
  simp +contextual (maxDischargeDepth := 100) only [State.abandonRun, State.abandonDwell_within, State.forEach_within, h, implies_true]

theorem State.dropWeights_within {K : Mask} {s0 s : State} [Allowed K.regs] [Allowed K.beam] (h : Within K s0 s) (n x : Nat) : Within K s0
    (State.dropWeights s n x) := by
  simp +contextual (maxDischargeDepth := 100) only [State.dropWeights, State.beamMod_within, State.fput_within, h]

theorem State.leaveTile_within {K : Mask} {s0 s : State} [Allowed K.ingest] [Allowed K.array] (h : Within K s0 s) (t : Nat) : Within K s0
    (State.leaveTile s t) := by
  simp +contextual (maxDischargeDepth := 100) only [State.leaveTile, State.ingMod_within, State.tileMod_within, h]

theorem State.nameSpares_within {K : Mask} {s0 s : State} [Allowed K.regs] [Allowed K.ingest] [Allowed K.array] [Allowed K.beam]
    (h : Within K s0 s) (w x : Nat) : Within K s0 (State.nameSpares s w x) := by
  simp +contextual (maxDischargeDepth := 100) only [State.nameSpares, State.beamMod_within, State.dropWeights_within, State.forEach_within,
      State.fput_within, State.leaveTile_within, State.putQueue_within, State.showQueue_within, State.tileMod_within, within_ite, h, implies_true]

theorem State.setMissing_within {K : Mask} {s0 s : State} [Allowed K.regs] (h : Within K s0 s) (l : Nat) : Within K s0 (State.setMissing s l) := by
  simp +contextual (maxDischargeDepth := 100) only [State.setMissing, State.raise_within, State.setFlag_within, h]

theorem State.takeOut_within {K : Mask} {s0 s : State} [Allowed K.regs] [Allowed K.array] (h : Within K s0 s) (p gone : Nat) : Within K s0
    (State.takeOut s p gone) := by
  simp +contextual (maxDischargeDepth := 100) only [State.takeOut, State.arrMod_within, State.fput_within, State.putQueue_within,
      State.setFlag_within, h]

theorem State.moveTile_within {K : Mask} {s0 s : State} [Allowed K.regs] [Allowed K.ingest] [Allowed K.array] [Allowed K.beam] (h : Within K s0 s)
    (l p gone x : Nat) : Within K s0 (State.moveTile s l p gone x) := by
  unfold State.moveTile
  dsimp only
  repeat' split
  all_goals simp +contextual (maxDischargeDepth := 100) only [State.arrMod_within, State.fput_within, State.leaveTile_within,
      State.nameSpares_within, State.raiseTev_within, State.raise_within, State.setMissing_within, State.showQueue_within, State.takeOut_within, h]

theorem State.retireTile_within {K : Mask} {s0 s : State} [Allowed K.regs] [Allowed K.ingest] [Allowed K.array] [Allowed K.accum] [Allowed K.beam]
    (h : Within K s0 s) (p x : Nat) : Within K s0 (State.retireTile s p x) := by
  unfold State.retireTile
  dsimp only
  repeat' (first
      | with_reducible assumption
      | with_reducible apply within_ite
      | with_reducible apply State.accMod_within
      | with_reducible apply State.integMod_within
      | with_reducible apply State.moveTile_within
      | with_reducible apply State.nameSpares_within
      | with_reducible apply State.raise_within
      | with_reducible apply State.takeOut_within
      | (intro)
      | split
      | (simp +contextual (maxDischargeDepth := 100) only [*, State.accMod_within, State.integMod_within, State.moveTile_within,
          State.nameSpares_within, State.raise_within, State.takeOut_within, within_mk, kept_refl, kept_allowed, within_ite, h,
          implies_true]; done))

theorem State.checkNowDone_within {K : Mask} {s0 s : State} [Allowed K.regs] (h : Within K s0 s) : Within K s0 (State.checkNowDone s) := by
  simp +contextual (maxDischargeDepth := 100) only [State.checkNowDone, State.fput_within, within_ite, h]

theorem State.retireDue_within {K : Mask} {s0 s : State} [Allowed K.regs] [Allowed K.ingest] [Allowed K.array] [Allowed K.accum] [Allowed K.beam]
    (h : Within K s0 s) (x : Nat) : Within K s0 (State.retireDue s x) := by
  simp +contextual (maxDischargeDepth := 100) only [State.retireDue, State.checkNowDone_within, State.forEach_within, State.retireTile_within,
      State.showSets_within, within_ite, h, implies_true]

theorem State.retireAtAcc_within {K : Mask} {s0 s : State} [Allowed K.array] (h : Within K s0 s) (x : Nat) : Within K s0
    (State.retireAtAcc s x) := by
  simp +contextual (maxDischargeDepth := 100) only [State.retireAtAcc, State.arrMod_within, h]

theorem State.refreshMissing_within {K : Mask} {s0 s : State} [Allowed K.regs] (h : Within K s0 s) (resident : Bool) : Within K s0
    (State.refreshMissing s resident) := by
  simp +contextual (maxDischargeDepth := 100) only [State.refreshMissing, State.forEach_within, State.setFlag_within, State.setMissing_within,
      within_ite, h, implies_true]

theorem State.eraView_within {K : Mask} {s0 s : State} [Allowed K.regs] (h : Within K s0 s) (old : Bool) : Within K s0 (State.eraView s old) := by
  simp +contextual (maxDischargeDepth := 100) only [State.eraView, within_mk, kept_refl, kept_allowed, within_ite, h]

theorem State.dropReady_within {K : Mask} {s0 s : State} [Allowed K.regs] [Allowed K.array] [Allowed K.accum] (h : Within K s0 s) : Within K s0
    (State.dropReady s) := by
  simp +contextual (maxDischargeDepth := 100) only [State.dropReady, State.arrMod_within, State.countBy_within, State.forEach_within,
      State.integMod_within, State.raise_within, within_ite, h, implies_true]

theorem execDwellWindowReady_within {K : Mask} {s0 s : State} [Allowed K.regs] [Allowed K.ingest] [Allowed K.array] [Allowed K.accum]
    (h : Within K s0 s) (m : Nat) (old : Bool) : WithinO K s0 (execDwellWindowReady m old s) := by
  simp +contextual (maxDischargeDepth := 100) only [execDwellWindowReady, State.abandonRun_within, State.arrMod_within, State.drainIssue_within,
      State.dropReady_within, State.forEach_within, State.ingMod_within, within_ite, h, implies_true, withinO_next]

theorem execArrayWindowStart_within {K : Mask} {s0 s : State} [Allowed K.regs] [Allowed K.ingest] [Allowed K.array] [Allowed K.accum]
    [Allowed K.beam] (h : Within K s0 s) : WithinO K s0 (execArrayWindowStart s) := by
  unfold execArrayWindowStart
  split <;> simp +contextual (maxDischargeDepth := 100) only [State.arrMod_within, State.drainIssue_within, State.forEach_within,
      State.noteShedDwell_within, State.retireDue_within, State.showRunning_within, State.tileMod_within, State.wr64_within, within_ite, h,
      implies_true, withinO_next]

theorem execRoundReadStart_within {K : Mask} {s0 s : State} [Allowed K.regs] [Allowed K.mem] [Allowed K.fresh] [Allowed K.array] [Allowed K.accum]
    (h : Within K s0 s) : WithinO K s0 (execRoundReadStart s) := by
  unfold execRoundReadStart
  repeat' split
  all_goals simp +contextual (maxDischargeDepth := 100) only [State.abandonDwell_within, State.forEach_within, State.noteRead_within,
      State.runMod_within, State.stBytes_within, State.tileMod_within, within_ite, h, implies_true, withinO_next]

theorem execTileRoundStart_within {K : Mask} {s0 s : State} [Allowed K.regs] [Allowed K.array] (h : Within K s0 s) (t : Fin 400) (waited : Nat) :
    WithinO K s0 (execTileRoundStart t waited s) := by
  unfold execTileRoundStart
  dsimp only
  repeat' split
  all_goals simp +contextual (maxDischargeDepth := 100) only [State.arrMod_within, State.countBy_within, State.fput_within, State.tileMod_within,
      h, withinO_next]

theorem State.issueHeld_within {K : Mask} {s0 s : State} [Allowed K.regs] [Allowed K.array] [Allowed K.accum] (h : Within K s0 s) (t : Nat)
    (o : QOrd) (rest : List QOrd) : Within K s0 (State.issueHeld s t o rest) := by
  simp +contextual (maxDischargeDepth := 100) only [State.issueHeld, State.drainIssue_within, State.runMod_within, State.showQueue_within,
      State.showRunning_within, State.tileMod_within, within_ite, h]

theorem execOrderIssue_within {K : Mask} {s0 s : State} [Allowed K.regs] [Allowed K.array] [Allowed K.accum] (h : Within K s0 s) (t : Fin 400)
    (waited : Bool) : WithinO K s0 (execOrderIssue t waited s) := by
  unfold execOrderIssue
  dsimp only
  repeat' split
  all_goals simp +contextual (maxDischargeDepth := 100) only [State.issueHeld_within, State.nextBpass_within, State.showQueue_within,
      State.tileMod_within, h, withinO_next]

theorem State.countOrder_within {K : Mask} {s0 s : State} [Allowed K.regs] (h : Within K s0 s) (t : Nat) : Within K s0 (State.countOrder s t) := by
  unfold State.countOrder
  split <;> simp +contextual (maxDischargeDepth := 100) only [State.count_within, h]

theorem State.popOrder_within {K : Mask} {s0 s : State} [Allowed K.regs] [Allowed K.array] (h : Within K s0 s) (t : Nat) : Within K s0
    (State.popOrder s t) := by
  simp +contextual (maxDischargeDepth := 100) only [State.popOrder, State.showQueue_within, State.tileMod_within, h]

theorem State.orderError_within {K : Mask} {s0 s : State} [Allowed K.regs] [Allowed K.array] [Allowed K.accum] (h : Within K s0 s) (t : Nat)
    (o : QOrd) : Within K s0 (State.orderError s t o) := by
  simp +contextual (maxDischargeDepth := 100) only [State.orderError, State.abandonDwell_within, State.count_within, State.lastErr_within,
      State.popOrder_within, State.raiseTev_within, State.raise_within, State.retirePend_within, State.tileMod_within, within_ite, h]

theorem State.slotStall_within {K : Mask} {s0 s : State} [Allowed K.regs] (h : Within K s0 s) (t cycles : Nat) (once : Bool) : Within K s0
    (State.slotStall s t cycles once) := by
  simp +contextual (maxDischargeDepth := 100) only [State.slotStall, State.countBy_within, State.count_within, State.doIf_within, h, implies_true]

theorem State.pathMod_within {K : Mask} {s0 s : State} [Allowed K.array] (h : Within K s0 s) (w : Nat) (f : List Sums → List Sums) : Within K s0
    (State.pathMod s w f) := by
  simp +contextual (maxDischargeDepth := 100) only [State.pathMod, State.arrMod_within, h]

theorem State.takeSpill_within {K : Mask} {s0 s : State} [Allowed K.regs] [Allowed K.array] (h : Within K s0 s) (t cycles : Nat) (o : QOrd) :
    Within K s0 (State.takeSpill s t cycles o) := by
  simp +contextual (maxDischargeDepth := 100) only [State.takeSpill, State.count_within, State.doIf_within, State.pathMod_within,
      State.popOrder_within, State.slotStall_within, State.tileMod_within, within_ite, h, implies_true]

theorem execOrderExecute_within {K : Mask} {s0 s : State} [Allowed K.regs] [Allowed K.mem] [Allowed K.ingest] [Allowed K.array] [Allowed K.accum]
    [Allowed K.beam] (h : Within K s0 s) (t : Fin 400) (parity : Bool) (stalled : Nat) : WithinO K s0 (execOrderExecute t parity stalled s) := by
  unfold execOrderExecute
  dsimp only
  repeat' split
  all_goals simp +contextual (maxDischargeDepth := 100) only [State.bpassDone_within, State.countOrder_within, State.countWstall_within,
      State.orderError_within, State.popOrder_within, State.runBpass_within, State.takeSpill_within, State.tileMod_within, h, withinO_next]

theorem State.toShadow_within {K : Mask} {s0 s : State} [Allowed K.regs] [Allowed K.array] (h : Within K s0 s) (t : Nat) (x : Sums) : Within K s0
    (State.toShadow s t x) := by
  unfold State.toShadow
  repeat' split
  all_goals simp +contextual (maxDischargeDepth := 100) only [State.arrMod_within, State.countOrder_within, State.doIf_within,
      State.tileMod_within, h, implies_true]

theorem execPassEnd_within {K : Mask} {s0 s : State} [Allowed K.regs] [Allowed K.array] (h : Within K s0 s) (t : Fin 400) : WithinO K s0
    (execPassEnd t s) := by
  unfold execPassEnd
  dsimp only
  repeat' split
  all_goals simp +contextual (maxDischargeDepth := 100) only [State.count_within, State.doIf_within, State.tileMod_within, State.toShadow_within,
      h, implies_true, withinO_next]

theorem execShadowDrain_within {K : Mask} {s0 s : State} [Allowed K.regs] [Allowed K.array] (h : Within K s0 s) (t : Fin 400) (stalled : Nat) :
    WithinO K s0 (execShadowDrain t stalled s) := by
  unfold execShadowDrain
  dsimp only
  repeat' split
  all_goals simp +contextual (maxDischargeDepth := 100) only [State.countBy_within, State.tileMod_within, State.toShadow_within, h, withinO_next]

theorem State.retireWb_within {K : Mask} {s0 s : State} [Allowed K.regs] [Allowed K.mem] [Allowed K.array] (h : Within K s0 s) (x : Sums) :
    Within K s0 (State.retireWb s x) := by
  unfold State.retireWb
  dsimp only
  repeat' split
  all_goals simp +contextual (maxDischargeDepth := 100) only [State.countOrder_within, State.count_within, State.doIf_within,
      State.putSlot_within, State.raiseTev_within, State.raise_within, State.slotMod_within, State.tileMod_within, h, implies_true]

theorem execWritebackRetire_within {K : Mask} {s0 s : State} [Allowed K.regs] [Allowed K.mem] [Allowed K.array] [Allowed K.accum]
    (h : Within K s0 s) (t : Fin 400) (stalled : Nat) : WithinO K s0 (execWritebackRetire t stalled s) := by
  unfold execWritebackRetire
  split <;> simp +contextual (maxDischargeDepth := 100) only [State.arrMod_within, State.drainIssue_within, State.retireWb_within,
      State.slotStall_within, within_ite, h, withinO_next]

theorem execFenceRetire_within {K : Mask} {s0 s : State} [Allowed K.regs] [Allowed K.array] (h : Within K s0 s) (t : Fin 400) : WithinO K s0
    (execFenceRetire t s) := by
  unfold execFenceRetire
  split <;> simp +contextual (maxDischargeDepth := 100) only [State.countOrder_within, State.tileMod_within, within_ite, h, withinO_next]

theorem execDrainRetire_within {K : Mask} {s0 s : State} [Allowed K.regs] [Allowed K.array] (h : Within K s0 s) (t : Fin 400) : WithinO K s0
    (execDrainRetire t s) := by
  unfold execDrainRetire
  split <;> simp +contextual (maxDischargeDepth := 100) only [State.arrMod_within, State.countOrder_within, within_ite, h, withinO_next]

theorem execCheckPeriod_within {K : Mask} {s0 s : State} [Allowed K.regs] [Allowed K.array] (h : Within K s0 s) : WithinO K s0
    (execCheckPeriod s) := by
  simp +contextual (maxDischargeDepth := 100) only [execCheckPeriod, State.count_within, State.doIf_within, State.forEach_within,
      State.tileMod_within, within_ite, h, implies_true, withinO_next]

theorem execCheckNow_within {K : Mask} {s0 s : State} [Allowed K.regs] [Allowed K.array] (h : Within K s0 s) : WithinO K s0 (execCheckNow s) := by
  simp +contextual (maxDischargeDepth := 100) only [execCheckNow, State.checkNowDone_within, State.forEach_within, State.fput_within,
      State.tileMod_within, h, implies_true, withinO_next]

theorem execCheck_within {K : Mask} {s0 s : State} [Allowed K.regs] [Allowed K.array] (h : Within K s0 s) (t : Fin 400) (pass : Bool) :
    WithinO K s0 (execCheck t pass s) := by
  unfold execCheck
  split <;> simp +contextual (maxDischargeDepth := 100) only [State.arrMod_within, State.checkNowDone_within, State.countOrder_within,
      State.count_within, State.fput_within, State.lastErr_within, State.raiseTev_within, State.raise_within, State.retirePend_within,
      State.tileMod_within, within_ite, h, withinO_next]

theorem State.corruptRound_within {K : Mask} {s0 s : State} [Allowed K.array] (h : Within K s0 s) (t k : Nat) : Within K s0
    (State.corruptRound s t k) := by
  unfold State.corruptRound
  repeat' split
  all_goals simp +contextual (maxDischargeDepth := 100) only [State.arrMod_within, State.forEach_within, State.slotMod_within,
      State.tileMod_within, h, implies_true]

theorem execParity_within {K : Mask} {s0 s : State} [Allowed K.regs] [Allowed K.array] (h : Within K s0 s) (p : Fin 400) (off : Fin 0x40000) :
    WithinO K s0 (execParity p off s) := by
  simp +contextual (maxDischargeDepth := 100) only [execParity, State.arrMod_within, State.corruptRound_within, State.count_within,
      State.doIf_within, State.lastErr_within, State.raiseTev_within, State.retirePend_within, State.slotMod_within, within_ite, h, implies_true,
      withinO_next]

theorem execRetireReq_within {K : Mask} {s0 s : State} [Allowed K.regs] [Allowed K.array] (h : Within K s0 s) (j : Fin 13) (bits : Word) :
    WithinO K s0 (execRetireReq j bits s) := by
  simp +contextual (maxDischargeDepth := 100) only [execRetireReq, State.forEach_within, State.retirePend_within, State.setFlag_within,
      within_ite, h, implies_true, withinO_next]

theorem State.startFrame_within {K : Mask} {s0 s : State} [Allowed K.lanes] (h : Within K s0 s) (n : Nat) (f : EgressFrame) : Within K s0
    (State.startFrame s n f) := by
  simp +contextual (maxDischargeDepth := 100) only [State.startFrame, State.laneMod_within, h]

theorem State.laneTake_within {K : Mask} {s0 s : State} [Allowed K.regs] [Allowed K.fresh] [Allowed K.lanes] [Allowed K.egress] [Allowed K.accum]
    [Allowed K.beam] (h : Within K s0 s) (n : Nat) : Within K s0 (State.laneTake s n) := by
  unfold State.laneTake
  repeat' split
  all_goals simp +contextual (maxDischargeDepth := 100) only [State.accMod_within, State.beamMod_within, State.noteRead_within,
      State.startFrame_within, within_mk, kept_refl, kept_allowed, h]

theorem State.kick_within {K : Mask} {s0 s : State} [Allowed K.regs] [Allowed K.fresh] [Allowed K.lanes] [Allowed K.egress] [Allowed K.accum]
    [Allowed K.beam] (h : Within K s0 s) : Within K s0 (State.kick s) := by
  simp +contextual (maxDischargeDepth := 100) only [State.kick, State.forEach_within, State.laneTake_within, h, implies_true]

theorem State.queueFrame_within {K : Mask} {s0 s : State} [Allowed K.egress] (h : Within K s0 s) (f : EgressFrame) : Within K s0
    (State.queueFrame s f) := by
  simp +contextual (maxDischargeDepth := 100) only [State.queueFrame, within_mk, kept_refl, kept_allowed, h]

theorem execEgressFrameSent_within {K : Mask} {s0 s : State} [Allowed K.regs] [Allowed K.out] [Allowed K.fresh] [Allowed K.lanes]
    [Allowed K.egress] [Allowed K.accum] [Allowed K.beam] (h : Within K s0 s) (n : Fin 192) : WithinO K s0 (execEgressFrameSent n s) := by
  unfold execEgressFrameSent
  split <;> simp +contextual (maxDischargeDepth := 100) only [State.count_within, State.emit_within, State.laneMod_within, State.laneTake_within,
      State.send_within, within_ite, h, withinO_next]

theorem execVbeamFrameStart_within {K : Mask} {s0 s : State} [Allowed K.lanes] [Allowed K.beam] (h : Within K s0 s) (n : Fin 192) : WithinO K s0
    (execVbeamFrameStart n s) := by
  unfold execVbeamFrameStart
  repeat' split
  all_goals simp +contextual (maxDischargeDepth := 100) only [State.beamMod_within, State.startFrame_within, h, withinO_next]

theorem execVdrop_within {K : Mask} {s0 s : State} [Allowed K.regs] [Allowed K.beam] (h : Within K s0 s) : WithinO K s0 (execVdrop s) := by
  unfold execVdrop
  split <;> simp +contextual (maxDischargeDepth := 100) only [State.beamMod_within, State.count_within, State.raise_within, h, withinO_next]

end Sys2Proof.Machine
end

