-- ==== Sys2Proof/Laws/WithinBeam.lean ====
section
/-!
SUPPORT. Laws/WithinBeam.lean: which fields of the state each operation and meaning may change, for accumulation, the beam unit, and the Catalogue: one
lemma each, named after it, which asks that the mask have those fields.
-/
namespace Sys2Proof.Machine

theorem State.under_within {K : Mask} {s0 s : State} [Allowed K.regs] (h : Within K s0 s) (i : Integ) : Within K s0 (State.under s i) := by
  simp +contextual (maxDischargeDepth := 100) only [State.under, within_mk, kept_refl, kept_allowed, h]

theorem State.closeInteg_within {K : Mask} {s0 s : State} [Allowed K.regs] [Allowed K.array] [Allowed K.accum] (h : Within K s0 s) (x : Nat) :
    Within K s0 (State.closeInteg s x) := by
  unfold State.closeInteg
  split <;> simp +contextual (maxDischargeDepth := 100) only [State.accMod_within, State.drainIssue_within, State.integMod_within,
      State.wr64_within, within_ite, h]

theorem State.openInteg_within {K : Mask} {s0 s : State} [Allowed K.regs] [Allowed K.accum] (h : Within K s0 s) (x : Nat) (gap : Bool) :
    Within K s0 (State.openInteg s x gap) := by
  simp +contextual (maxDischargeDepth := 100) only [State.openInteg, State.accMod_within, State.fput_within, within_ite, h]

theorem execIntegrationBoundary_within {K : Mask} {s0 s : State} [Allowed K.regs] [Allowed K.array] [Allowed K.accum] [Allowed K.snap]
    (h : Within K s0 s) (x : Nat) : WithinO K s0 (execIntegrationBoundary x s) := by
  simp +contextual (maxDischargeDepth := 100) only [execIntegrationBoundary, State.closeInteg_within, State.latchChanged_within,
      State.openInteg_within, within_ite, h, withinO_next]

theorem State.showWaiting_within {K : Mask} {s0 s : State} [Allowed K.regs] [Allowed K.accum] (h : Within K s0 s) (seen : List Nat) : Within K s0
    (State.showWaiting s seen) := by
  simp +contextual (maxDischargeDepth := 100) only [State.showWaiting, State.accMod_within, State.fput_within, h]

theorem execBankTablesRewritten_within {K : Mask} {s0 s : State} [Allowed K.regs] [Allowed K.mem] [Allowed K.poison] [Allowed K.fresh]
    [Allowed K.accum] [Allowed K.hbm] (h : Within K s0 s) (k : Fin 2) : WithinO K s0 (execBankTablesRewritten k s) := by
  unfold execBankTablesRewritten
  split <;> simp +contextual (maxDischargeDepth := 100) only [State.arcRenew_within, State.integMod_within, State.showWaiting_within, within_ite,
      h, withinO_next]

theorem State.countBankWait_within {K : Mask} {s0 s : State} [Allowed K.regs] [Allowed K.accum] (h : Within K s0 s) (n : Nat) : Within K s0
    (State.countBankWait s n) := by
  simp +contextual (maxDischargeDepth := 100) only [State.countBankWait, State.accMod_within, State.countBy_within, h]

theorem State.memErr_within {K : Mask} {s0 s : State} [Allowed K.regs] (h : Within K s0 s) : Within K s0 (State.memErr s) := by
  simp +contextual (maxDischargeDepth := 100) only [State.memErr, State.count_within, State.raise_within, h]

theorem State.writeSpill_within {K : Mask} {s0 s : State} [Allowed K.regs] [Allowed K.mem] [Allowed K.poison] [Allowed K.fresh] [Allowed K.hbm]
    (h : Within K s0 s) (i : Integ) (x : Sums) : Within K s0 (State.writeSpill s i x) := by
  simp +contextual (maxDischargeDepth := 100) only [State.writeSpill, State.arcRenew_within, State.countBy_within, State.doIf_within,
      State.memErr_within, State.noteRead_within, State.raiseIf_within, h, implies_true]

theorem execSpill_within {K : Mask} {s0 s : State} [Allowed K.regs] [Allowed K.mem] [Allowed K.poison] [Allowed K.fresh] [Allowed K.array]
    [Allowed K.accum] [Allowed K.hbm] (h : Within K s0 s) (w : Fin 4) (waited : Nat) : WithinO K s0 (execSpill w waited s) := by
  unfold execSpill
  repeat' split
  all_goals simp +contextual (maxDischargeDepth := 100) only [State.countBankWait_within, State.pathMod_within, State.raise_within,
      State.showWaiting_within, State.writeSpill_within, h, withinO_next]

theorem State.validAdd_within {K : Mask} {s0 s : State} [Allowed K.regs] [Allowed K.mem] [Allowed K.poison] [Allowed K.fresh] [Allowed K.accum]
    [Allowed K.hbm] (h : Within K s0 s) (i : Integ) (r : WinRun) (p c : Nat) : Within K s0 (State.validAdd s i r p c) := by
  simp +contextual (maxDischargeDepth := 100) only [State.validAdd, State.arcRenew_within, State.doIf_within, State.forEach_within,
      State.integMod_within, State.memErr_within, State.noteRead_within, h, implies_true]

theorem State.ackSpill_within {K : Mask} {s0 s : State} [Allowed K.regs] [Allowed K.mem] [Allowed K.poison] [Allowed K.fresh] [Allowed K.array]
    [Allowed K.accum] [Allowed K.hbm] (h : Within K s0 s) (x : Sums) : Within K s0 (State.ackSpill s x) := by
  unfold State.ackSpill
  dsimp only
  repeat' split
  all_goals simp +contextual (maxDischargeDepth := 100) only [State.doIf_within, State.runMod_within, State.slotMod_within, State.validAdd_within,
      h, implies_true]

theorem execSpillAck_within {K : Mask} {s0 s : State} [Allowed K.regs] [Allowed K.mem] [Allowed K.poison] [Allowed K.fresh] [Allowed K.array]
    [Allowed K.accum] [Allowed K.hbm] (h : Within K s0 s) (w : Fin 4) : WithinO K s0 (execSpillAck w s) := by
  unfold execSpillAck
  split <;> simp +contextual (maxDischargeDepth := 100) only [State.accMod_within, State.ackSpill_within, State.countBy_within,
      State.countOrder_within, State.pathMod_within, within_ite, h, withinO_next]

theorem State.showRegions_within {K : Mask} {s0 s : State} [Allowed K.regs] (h : Within K s0 s) : Within K s0 (State.showRegions s) := by
  simp +contextual (maxDischargeDepth := 100) only [State.showRegions, State.forEach_within, State.fput_within, State.wr64_within,
      State.wrN_within, within_ite, h, implies_true]

theorem State.releaseBank_within {K : Mask} {s0 s : State} [Allowed K.regs] [Allowed K.accum] (h : Within K s0 s) (id : Nat) : Within K s0
    (State.releaseBank s id) := by
  simp +contextual (maxDischargeDepth := 100) only [State.releaseBank, State.accMod_within, State.doIf_within, State.fput_within, h, implies_true]

theorem execDrainStart_within {K : Mask} {s0 s : State} [Allowed K.regs] [Allowed K.accum] (h : Within K s0 s) : WithinO K s0
    (execDrainStart s) := by
  unfold execDrainStart
  repeat' split
  all_goals simp +contextual (maxDischargeDepth := 100) only [State.accMod_within, State.count_within, State.fput_within, State.integMod_within,
      State.raise_within, State.releaseBank_within, State.wr64_within, h, withinO_next]

theorem State.showStages_within {K : Mask} {s0 s : State} [Allowed K.regs] (h : Within K s0 s) : Within K s0 (State.showStages s) := by
  simp +contextual (maxDischargeDepth := 100) only [State.showStages, State.fput_within, h]

theorem State.noteDrain_within {K : Mask} {s0 s : State} [Allowed K.regs] [Allowed K.fresh] (h : Within K s0 s) (i : Integ) : Within K s0
    (State.noteDrain s i) := by
  simp +contextual (maxDischargeDepth := 100) only [State.noteDrain, State.doIf_within, State.forEach_within, State.noteRead_within, h,
      implies_true]

theorem execFolioDone_within {K : Mask} {s0 s : State} [Allowed K.regs] [Allowed K.mem] [Allowed K.poison] [Allowed K.fresh] [Allowed K.lanes]
    [Allowed K.egress] [Allowed K.accum] [Allowed K.beam] (h : Within K s0 s) : WithinO K s0 (execFolioDone s) := by
  unfold execFolioDone
  repeat' split
  all_goals simp +contextual (maxDischargeDepth := 100) only [State.accMod_within, State.arcPut_within, State.countBy_within, State.count_within,
      State.fput_within, State.kick_within, State.noteDrain_within, State.raiseIf_within, State.raise_within, State.releaseBank_within,
      State.showStages_within, State.wr64_within, State.wrN_within, h, withinO_next]

theorem State.stageCheck_within {K : Mask} {s0 s : State} [Allowed K.regs] (h : Within K s0 s) (k : Nat) : Within K s0 (State.stageCheck s k) := by
  simp +contextual (maxDischargeDepth := 100) only [State.stageCheck, State.fput_within, State.showStages_within, State.wr64_within, within_ite, h]

theorem execFolioEgressDone_within {K : Mask} {s0 s : State} [Allowed K.regs] [Allowed K.accum] (h : Within K s0 s) (k : Fin 8) : WithinO K s0
    (execFolioEgressDone k s) := by
  simp +contextual (maxDischargeDepth := 100) only [execFolioEgressDone, State.accMod_within, State.fput_within, State.raise_within,
      State.stageCheck_within, within_ite, h, withinO_next]

theorem execStageRelease_within {K : Mask} {s0 s : State} [Allowed K.regs] [Allowed K.accum] (h : Within K s0 s) (k : Fin 8) : WithinO K s0
    (execStageRelease k s) := by
  simp +contextual (maxDischargeDepth := 100) only [execStageRelease, State.accMod_within, State.stageCheck_within, within_ite, h, withinO_next]

theorem State.noteSat_within {K : Mask} {s0 s : State} [Allowed K.regs] (h : Within K s0 s) (sat : Bool) : Within K s0 (State.noteSat s sat) := by
  simp +contextual (maxDischargeDepth := 100) only [State.noteSat, State.count_within, State.doIf_within, State.raise_within, h, implies_true]

theorem State.readyV_within {K : Mask} {s0 s : State} [Allowed K.beam] (h : Within K s0 s) (f : EgressFrame) (deadline : Nat) : Within K s0
    (State.readyV s f deadline) := by
  simp +contextual (maxDischargeDepth := 100) only [State.readyV, State.beamMod_within, h]

theorem State.putSpan_within {K : Mask} {s0 s : State} [Allowed K.beam] (h : Within K s0 s) (d : DSpan) : Within K s0 (State.putSpan s d) := by
  simp +contextual (maxDischargeDepth := 100) only [State.putSpan, State.beamMod_within, h]

theorem State.markFull_within {K : Mask} {s0 s : State} [Allowed K.beam] (h : Within K s0 s) : Within K s0 (State.markFull s) := by
  simp +contextual (maxDischargeDepth := 100) only [State.markFull, State.beamMod_within, State.forEach_within, h, implies_true]

theorem State.addSpan_within {K : Mask} {s0 s : State} [Allowed K.beam] (h : Within K s0 s) (t n o : Nat) (h : HeldBlk) (buf lo hi : Nat)
    (vals : Bool) : Within K s0 (State.addSpan s t n o h buf lo hi vals) := by
  unfold State.addSpan
  dsimp only
  repeat' (first
      | with_reducible assumption
      | with_reducible apply within_ite
      | with_reducible apply State.at_within
      | with_reducible apply State.markFull_within
      | with_reducible apply State.putSpan_within
      | (intro)
      | split
      | (simp +contextual (maxDischargeDepth := 100) only [*, State.at_within, State.markFull_within, State.putSpan_within, within_mk, kept_refl,
          kept_allowed, within_ite, h, implies_true]; done))

theorem State.levelMod_within {K : Mask} {s0 s : State} [Allowed K.beam] (h : Within K s0 s) (bm j : Nat) (f : LevelSt → LevelSt) : Within K s0
    (State.levelMod s bm j f) := by
  simp +contextual (maxDischargeDepth := 100) only [State.levelMod, State.beamMod_within, h]

theorem State.levelOut_within {K : Mask} {s0 s : State} [Allowed K.regs] [Allowed K.beam] (h : Within K s0 s) (v : State) (bm j si e marks : Nat) :
    Within K s0 (State.levelOut s v bm j si e marks) := by
  simp +contextual (maxDischargeDepth := 100) only [State.levelOut, State.beamMod_within, State.count_within, State.doIf_within,
      State.levelMod_within, State.raise_within, h, implies_true]

theorem State.boxcar_within {K : Mask} [Allowed K.regs] [Allowed K.beam] {s0 : State} (v : State) (bm : Nat) :
    ∀ {n j q : Nat} {e : Option Nat} {m : Nat} {s : State}, Within K s0 s → Within K s0 (State.boxcar v bm n j q e m s)
  | 0, _, _, _, _, _, h => h
  | n + 1, j, q, e, m, s, h => by
    have ho : ∀ (e' : Option Nat), Within K s0 (match e' with
        | some x => s.levelOut v bm j (q * 2 ^ (v.fget F.BEAM_DCFG_DT + j)) x m
        | none => s) := fun e' => by
      split
      · exact State.levelOut_within h _ _ _ _ _ _
      · exact h
    unfold State.boxcar
    dsimp only
    split
    · exact State.levelMod_within (ho _) _ _ _
    · split <;> exact State.boxcar_within v bm (n := n) (State.levelMod_within (ho _) _ _ _)

theorem State.levelClear_within {K : Mask} {s0 s : State} [Allowed K.beam] (h : Within K s0 s) (x : Nat) : Within K s0 (State.levelClear s x) := by
  simp +contextual (maxDischargeDepth := 100) only [State.levelClear, State.beamMod_within, within_ite, h]

theorem State.showBts_within {K : Mask} {s0 s : State} [Allowed K.regs] (h : Within K s0 s) : Within K s0 (State.showBts s) := by
  simp +contextual (maxDischargeDepth := 100) only [State.showBts, State.fput_within, h]

theorem State.completeBt_within {K : Mask} {s0 s : State} [Allowed K.regs] [Allowed K.beam] (h : Within K s0 s) (bt : BlockTime) : Within K s0
    (State.completeBt s bt) := by
  simp +contextual (maxDischargeDepth := 100) only [State.completeBt, State.beamMod_within, State.boxcar_within, State.forEach_within,
      State.levelClear_within, State.showBts_within, h, implies_true]

theorem State.btAdvance_within {K : Mask} [Allowed K.regs] [Allowed K.beam] {s0 : State} : ∀ {n : Nat} {s : State}, Within K s0 s → Within K s0
    (State.btAdvance n s)
  | 0, _, h => h
  | n + 1, s, h => by
    unfold State.btAdvance
    split
    · split
      · exact State.btAdvance_within (n := n) (State.completeBt_within h _)
      · exact h
    · exact h

theorem State.cutBt_within {K : Mask} {s0 s : State} [Allowed K.regs] [Allowed K.beam] (h : Within K s0 s) : Within K s0 (State.cutBt s) := by
  unfold State.cutBt
  split <;> simp +contextual (maxDischargeDepth := 100) only [State.beamMod_within, State.completeBt_within, State.count_within,
      State.forEach_within, State.raise_within, h, implies_true]

theorem State.openBt_within {K : Mask} {s0 s : State} [Allowed K.regs] [Allowed K.beam] (h : Within K s0 s) (b lo hi : Nat) (gen : Bool) :
    Within K s0 (State.openBt s b lo hi gen) := by
  unfold State.openBt
  repeat' split
  all_goals simp +contextual (maxDischargeDepth := 100) only [State.beamMod_within, State.cutBt_within, State.showBts_within, within_ite, h]

theorem State.deliver_within {K : Mask} {s0 s : State} [Allowed K.regs] [Allowed K.beam] (h : Within K s0 s) (t n : Nat) (h : HeldBlk)
    (buf lo hi : Nat) (vals : Bool) : Within K s0 (State.deliver s t n h buf lo hi vals) := by
  unfold State.deliver
  dsimp only
  repeat' (first
      | with_reducible assumption
      | with_reducible apply within_ite
      | with_reducible apply State.at_within
      | with_reducible apply State.beamMod_within
      | with_reducible apply State.btAdvance_within
      | with_reducible apply State.openBt_within
      | (intro)
      | split
      | (simp +contextual (maxDischargeDepth := 100) only [*, State.at_within, State.beamMod_within, State.btAdvance_within, State.openBt_within,
          within_mk, kept_refl, kept_allowed, within_ite, h, implies_true]; done))

theorem State.readOut_within {K : Mask} {s0 s : State} [Allowed K.regs] [Allowed K.beam] (h : Within K s0 s) (t n : Nat) (h : HeldBlk) (buf : Nat)
    (late rest : Bool) : Within K s0 (State.readOut s t n h buf late rest) := by
  unfold State.readOut
  dsimp only
  repeat' (first
      | with_reducible assumption
      | with_reducible apply within_ite
      | with_reducible apply State.addSpan_within
      | with_reducible apply State.at_within
      | with_reducible apply State.count_within
      | with_reducible apply State.deliver_within
      | with_reducible apply State.forEach_within
      | with_reducible apply State.noteSat_within
      | with_reducible apply State.raise_within
      | with_reducible apply State.readyV_within
      | (intro)
      | split
      | (simp +contextual (maxDischargeDepth := 100) only [*, State.addSpan_within, State.at_within, State.count_within, State.deliver_within,
          State.forEach_within, State.noteSat_within, State.raise_within, State.readyV_within, within_mk, kept_refl, kept_allowed, within_ite, h,
          implies_true]; done))

theorem execBeamReadout_within {K : Mask} {s0 s : State} [Allowed K.regs] [Allowed K.array] [Allowed K.beam] (h : Within K s0 s) (t : Fin 400) :
    WithinO K s0 (execBeamReadout t s) := by
  unfold execBeamReadout
  split <;> simp +contextual (maxDischargeDepth := 100) only [State.readOut_within, State.tileMod_within, within_ite, h, withinO_next]

theorem execLate_within {K : Mask} {s0 s : State} [Allowed K.regs] [Allowed K.ingest] [Allowed K.array] [Allowed K.beam] (h : Within K s0 s)
    (t : Fin 400) (slot b : Nat) : WithinO K s0 (execLate t slot b s) := by
  unfold execLate
  repeat' split
  all_goals simp +contextual (maxDischargeDepth := 100) only [State.beamMod_within, State.doIf_within, State.putBlk_within, State.readOut_within,
      State.showQueue_within, State.tileMod_within, h, implies_true, withinO_next]

theorem State.takeCancelled_within {K : Mask} {s0 s : State} [Allowed K.regs] [Allowed K.beam] (h : Within K s0 s) : Within K s0
    (State.takeCancelled s) := by
  unfold State.takeCancelled
  dsimp only
  repeat' (first
      | with_reducible assumption
      | with_reducible apply within_ite
      | with_reducible apply State.addSpan_within
      | with_reducible apply State.at_within
      | with_reducible apply State.beamMod_within
      | with_reducible apply State.deliver_within
      | with_reducible apply State.forEach_within
      | with_reducible apply State.markFull_within
      | (intro)
      | split
      | (simp +contextual (maxDischargeDepth := 100) only [*, State.addSpan_within, State.at_within, State.beamMod_within, State.deliver_within,
          State.forEach_within, State.markFull_within, within_mk, kept_refl, kept_allowed, within_ite, h, implies_true]; done))

theorem execDbeamSend_within {K : Mask} {s0 s : State} [Allowed K.regs] [Allowed K.fresh] [Allowed K.lanes] [Allowed K.egress] [Allowed K.accum]
    [Allowed K.beam] (h : Within K s0 s) : WithinO K s0 (execDbeamSend s) := by
  unfold execDbeamSend
  dsimp only
  repeat' split
  all_goals simp +contextual (maxDischargeDepth := 100) only [State.beamMod_within, State.kick_within, State.noteSat_within,
      State.queueFrame_within, State.takeCancelled_within, h, withinO_next]

theorem execCand_within {K : Mask} {s0 s : State} [Allowed K.regs] [Allowed K.fresh] [Allowed K.lanes] [Allowed K.egress] [Allowed K.accum]
    [Allowed K.beam] (h : Within K s0 s) : WithinO K s0 (execCand s) := by
  simp +contextual (maxDischargeDepth := 100) only [execCand, State.beamMod_within, State.forEach_within, State.kick_within,
      State.queueFrame_within, State.raiseIf_within, State.takeCancelled_within, within_ite, h, implies_true, withinO_next]

theorem State.activatePage_within {K : Mask} {s0 s : State} [Allowed K.regs] [Allowed K.beam] (h : Within K s0 s) (n p x : Nat) : Within K s0
    (State.activatePage s n p x) := by
  unfold State.activatePage
  split <;> simp +contextual (maxDischargeDepth := 100) only [State.beamMod_within, State.fput_within, h]

theorem State.refuseSwitch_within {K : Mask} {s0 s : State} [Allowed K.regs] (h : Within K s0 s) (r : Nat) : Within K s0
    (State.refuseSwitch s r) := by
  simp +contextual (maxDischargeDepth := 100) only [State.refuseSwitch, State.fput_within, State.raise_within, h]

theorem execSwitchRequest_within {K : Mask} {s0 s : State} [Allowed K.regs] [Allowed K.beam] (h : Within K s0 s) (p : Fin 2) : WithinO K s0
    (execSwitchRequest p s) := by
  simp +contextual (maxDischargeDepth := 100) only [execSwitchRequest, State.beamMod_within, State.fput_within, State.refuseSwitch_within,
      within_ite, h, withinO_next]

theorem execWeightSwitch_within {K : Mask} {s0 s : State} [Allowed K.regs] [Allowed K.beam] (h : Within K s0 s) : WithinO K s0
    (execWeightSwitch s) := by
  unfold execWeightSwitch
  split <;> simp +contextual (maxDischargeDepth := 100) only [State.activatePage_within, State.beamMod_within, State.forEach_within,
      State.fput_within, State.raiseIf_within, State.raise_within, State.wr64_within, within_ite, h, implies_true, withinO_next]

theorem execWloadSet_within {K : Mask} {s0 s : State} [Allowed K.regs] [Allowed K.beam] (h : Within K s0 s) (p : Fin 2) (bits : Word) :
    WithinO K s0 (execWloadSet p bits s) := by
  simp +contextual (maxDischargeDepth := 100) only [execWloadSet, State.beamMod_within, State.forEach_within, State.fput_within, within_ite, h,
      implies_true, withinO_next]

theorem execPendingSwitch_within {K : Mask} {s0 s : State} [Allowed K.regs] [Allowed K.beam] (h : Within K s0 s) : WithinO K s0
    (execPendingSwitch s) := by
  simp +contextual (maxDischargeDepth := 100) only [execPendingSwitch, State.activatePage_within, State.beamMod_within, State.forEach_within,
      State.fput_within, h, implies_true, withinO_next]

theorem execSearchRestart_within {K : Mask} {s0 s : State} [Allowed K.beam] (h : Within K s0 s) : WithinO K s0 (execSearchRestart s) := by
  simp +contextual (maxDischargeDepth := 100) only [execSearchRestart, State.beamMod_within, h, withinO_next]

theorem State.beamAccede_within {K : Mask} {s0 s : State} [Allowed K.regs] [Allowed K.beam] (h : Within K s0 s) (x y : Nat)
    (searchNew allocNew : Bool) : Within K s0 (State.beamAccede s x y searchNew allocNew) := by
  simp +contextual (maxDischargeDepth := 100) only [State.beamAccede, State.beamMod_within, State.doIf_within, State.dropWeights_within,
      State.forEach_within, State.refuseSwitch_within, State.wrN_within, within_ite, h, implies_true]

theorem State.catView_within {K : Mask} {s0 s : State} [Allowed K.regs] (h : Within K s0 s) (img : List Byte) (a : Nat) : Within K s0
    (State.catView s img a) := by
  simp +contextual (maxDischargeDepth := 100) only [State.catView, State.fput_within, State.wrN_within, within_mk, kept_refl, kept_allowed, h]

theorem State.catReport_within {K : Mask} {s0 s : State} [Allowed K.regs] (h : Within K s0 s) (img : List Byte) (a : Nat) : Within K s0
    (State.catReport s img a) := by
  simp +contextual (maxDischargeDepth := 100) only [State.catReport, State.forEach_within, State.fput_within, State.wrN_within, h, implies_true]

theorem State.startStore_within {K : Mask} {s0 s : State} [Allowed K.regs] [Allowed K.cat] (h : Within K s0 s) (off kind : Nat)
    (bytes : List Byte) : Within K s0 (State.startStore s off kind bytes) := by
  simp +contextual (maxDischargeDepth := 100) only [State.startStore, State.fput_within, within_mk, kept_refl, kept_allowed, h]

theorem State.noteProg_within {K : Mask} {s0 s : State} [Allowed K.regs] (h : Within K s0 s) : Within K s0 (State.noteProg s) := by
  simp +contextual (maxDischargeDepth := 100) only [State.noteProg, State.raiseIf_within, h]

theorem State.startBoot_within {K : Mask} {s0 s : State} [Allowed K.regs] [Allowed K.cat] (h : Within K s0 s) (kind : Nat)
    (f : BootBlk → BootBlk) : Within K s0 (State.startBoot s kind f) := by
  simp +contextual (maxDischargeDepth := 100) only [State.startBoot, State.startStore_within, h]

theorem State.showBootSlot_within {K : Mask} {s0 s : State} [Allowed K.regs] (h : Within K s0 s) : Within K s0 (State.showBootSlot s) := by
  simp +contextual (maxDischargeDepth := 100) only [State.showBootSlot, State.fput_within, h]

theorem State.storePut_within {K : Mask} [Allowed K.cat] {s0 : State} : ∀ {l : List Byte} {s : State} (_ : Within K s0 s) (n : Nat), Within K s0
    (s.storePut n l)
  | [], _, h, _ => h
  | b :: rest, s, h, n => by
    unfold State.storePut
    exact State.storePut_within (l := rest) (by simp only [within_mk, kept_refl, kept_allowed, h]) (n + 1)

theorem State.endStore_within {K : Mask} {s0 s : State} [Allowed K.regs] [Allowed K.cat] (h : Within K s0 s) (w : StoreWrite)
    (readBack : List Byte) : Within K s0 (State.endStore s w readBack).1 := by
  simp +contextual (maxDischargeDepth := 100) only [State.endStore, State.fput_within, State.showBootSlot_within, State.storePut_within,
      within_mk, kept_refl, kept_allowed, h]

theorem State.catMod_within {K : Mask} {s0 s : State} [Allowed K.cat] (h : Within K s0 s) (f : CatSt → CatSt) : Within K s0 (State.catMod s f) := by
  simp +contextual (maxDischargeDepth := 100) only [State.catMod, within_mk, kept_refl, kept_allowed, h]

theorem State.setShadow_within {K : Mask} {s0 s : State} [Allowed K.regs] [Allowed K.cat] (h : Within K s0 s) (n : Nat) : Within K s0
    (State.setShadow s n) := by
  simp +contextual (maxDischargeDepth := 100) only [State.setShadow, State.catMod_within, State.doIf_within, State.fput_within, h, implies_true]

theorem State.refuse_within {K : Mask} {s0 s : State} [Allowed K.regs] (h : Within K s0 s) (code : Nat) : Within K s0 (State.refuse s code) := by
  simp +contextual (maxDischargeDepth := 100) only [State.refuse, State.count_within, State.fput_within, State.raise_within, h]

theorem execLoad_within {K : Mask} {s0 s : State} [Allowed K.regs] [Allowed K.cat] (h : Within K s0 s) : WithinO K s0 (execLoad s) := by
  simp +contextual (maxDischargeDepth := 100) only [execLoad, State.catMod_within, State.refuse_within, State.setShadow_within, within_ite, h,
      withinO_next]

theorem State.loadFails_within {K : Mask} {s0 s : State} [Allowed K.regs] [Allowed K.cat] (h : Within K s0 s) (code : Nat) : Within K s0
    (State.loadFails s code) := by
  simp +contextual (maxDischargeDepth := 100) only [State.loadFails, State.fput_within, State.setShadow_within, h]

theorem execLoadComplete_within {K : Mask} {s0 s : State} [Allowed K.regs] [Allowed K.fresh] [Allowed K.cat] (h : Within K s0 s) (ok : Bool) :
    WithinO K s0 (execLoadComplete ok s) := by
  unfold execLoadComplete
  repeat' split
  all_goals simp +contextual (maxDischargeDepth := 100) only [State.catMod_within, State.doIf_within, State.loadFails_within,
      State.noteRead_within, State.raise_within, State.setShadow_within, State.tick1_within, h, implies_true, withinO_next]

theorem execVerify_within {K : Mask} {s0 s : State} [Allowed K.regs] [Allowed K.cat] (h : Within K s0 s) : WithinO K s0 (execVerify s) := by
  simp +contextual (maxDischargeDepth := 100) only [execVerify, State.refuse_within, State.setShadow_within, within_ite, h, withinO_next]

theorem State.showShadowDigest_within {K : Mask} {s0 s : State} [Allowed K.regs] (h : Within K s0 s) (d : List Byte) : Within K s0
    (State.showShadowDigest s d) := by
  simp +contextual (maxDischargeDepth := 100) only [State.showShadowDigest, State.forEach_within, State.wrN_within, h, implies_true]

theorem State.reject_within {K : Mask} {s0 s : State} [Allowed K.regs] [Allowed K.cat] (h : Within K s0 s) (f : Fail) : Within K s0
    (State.reject s f) := by
  simp +contextual (maxDischargeDepth := 100) only [State.reject, State.count_within, State.fput_within, State.raise_within,
      State.setShadow_within, State.wrN_within, h]

theorem State.judgeShadow_within {K : Mask} {s0 s : State} [Allowed K.regs] [Allowed K.cat] (h : Within K s0 s) : Within K s0
    (State.judgeShadow s) := by
  unfold State.judgeShadow
  split <;> simp +contextual (maxDischargeDepth := 100) only [State.fput_within, State.raise_within, State.reject_within, State.setShadow_within,
      State.showShadowDigest_within, h]

theorem execVerifyComplete_within {K : Mask} {s0 s : State} [Allowed K.regs] [Allowed K.cat] (h : Within K s0 s) : WithinO K s0
    (execVerifyComplete s) := by
  simp +contextual (maxDischargeDepth := 100) only [execVerifyComplete, State.judgeShadow_within, within_ite, h, withinO_next]

theorem execClear_within {K : Mask} {s0 s : State} [Allowed K.regs] [Allowed K.cat] (h : Within K s0 s) : WithinO K s0 (execClear s) := by
  simp +contextual (maxDischargeDepth := 100) only [execClear, State.refuse_within, State.setShadow_within, within_ite, h, withinO_next]

theorem State.refuseWrite_within {K : Mask} {s0 s : State} [Allowed K.regs] (h : Within K s0 s) : Within K s0 (State.refuseWrite s) := by
  simp +contextual (maxDischargeDepth := 100) only [State.refuseWrite, State.raise_within, State.refuse_within, h]

theorem State.stageWrite_within {K : Mask} {s0 s : State} [Allowed K.regs] [Allowed K.cat] (h : Within K s0 s) (r v : Nat) : Within K s0
    (State.stageWrite s r v) := by
  unfold State.stageWrite
  dsimp only
  repeat' split
  all_goals simp +contextual (maxDischargeDepth := 100) only [State.catMod_within, State.refuseWrite_within, State.setShadow_within, h]

theorem execRwaWrite_within {K : Mask} {s0 s : State} [Allowed K.regs] [Allowed K.cat] (h : Within K s0 s) (r : Nat) (v : Word) : WithinO K s0
    (execRwaWrite r v s) := by
  simp +contextual (maxDischargeDepth := 100) only [execRwaWrite, State.stageWrite_within, within_ite, h, withinO_next]

theorem execStore_within {K : Mask} {s0 s : State} [Allowed K.regs] [Allowed K.cat] (h : Within K s0 s) : WithinO K s0 (execStore s) := by
  simp +contextual (maxDischargeDepth := 100) only [execStore, State.noteProg_within, State.refuse_within, State.startStore_within, within_ite, h,
      withinO_next]

theorem execStoreComplete_within {K : Mask} {s0 s : State} [Allowed K.regs] [Allowed K.cat] (h : Within K s0 s) (readBack : List Byte) :
    WithinO K s0 (execStoreComplete readBack s) := by
  unfold execStoreComplete
  split <;> simp +contextual (maxDischargeDepth := 100) only [State.endStore_within, State.raise_within, within_ite, h, withinO_next]

theorem execSetBoot_within {K : Mask} {s0 s : State} [Allowed K.regs] [Allowed K.cat] (h : Within K s0 s) : WithinO K s0 (execSetBoot s) := by
  simp +contextual (maxDischargeDepth := 100) only [execSetBoot, State.noteProg_within, State.refuse_within, State.startBoot_within, within_ite,
      h, withinO_next]

theorem execNoBoot_within {K : Mask} {s0 s : State} [Allowed K.regs] [Allowed K.cat] (h : Within K s0 s) : WithinO K s0 (execNoBoot s) := by
  simp +contextual (maxDischargeDepth := 100) only [execNoBoot, State.noteProg_within, State.refuse_within, State.startBoot_within, within_ite, h,
      withinO_next]

theorem State.shadowView_within {K : Mask} {s0 s : State} [Allowed K.regs] (h : Within K s0 s) : Within K s0 (State.shadowView s) := by
  simp +contextual (maxDischargeDepth := 100) only [State.shadowView, State.catView_within, h]

theorem State.showRequest_within {K : Mask} {s0 s : State} [Allowed K.regs] (h : Within K s0 s) (x y kind : Nat) : Within K s0
    (State.showRequest s x y kind) := by
  simp +contextual (maxDischargeDepth := 100) only [State.showRequest, State.wr64_within, State.wrN_within, h]

theorem State.requestAcc_within {K : Mask} {s0 s : State} [Allowed K.regs] [Allowed K.cat] (h : Within K s0 s) (x resume : Nat) : Within K s0
    (State.requestAcc s x resume).1 := by
  simp +contextual (maxDischargeDepth := 100) only [State.requestAcc, State.catMod_within, State.fput_within, State.raise_within,
      State.setShadow_within, State.showRequest_within, h, within_ite1]

theorem execSchedule_within {K : Mask} {s0 s : State} [Allowed K.regs] [Allowed K.cat] (h : Within K s0 s) : WithinO K s0 (execSchedule s) := by
  simp +contextual (maxDischargeDepth := 100) only [execSchedule, State.refuse_within, State.requestAcc_within, within_ite, h, withinO_next]

theorem State.cancelAcc_within {K : Mask} {s0 s : State} [Allowed K.regs] [Allowed K.cat] (h : Within K s0 s) : Within K s0
    (State.cancelAcc s) := by
  simp +contextual (maxDischargeDepth := 100) only [State.cancelAcc, State.catMod_within, State.fput_within, State.raise_within,
      State.setShadow_within, h]

theorem execCancel_within {K : Mask} {s0 s : State} [Allowed K.regs] [Allowed K.cat] (h : Within K s0 s) : WithinO K s0 (execCancel s) := by
  simp +contextual (maxDischargeDepth := 100) only [execCancel, State.cancelAcc_within, State.raise_within, State.refuse_within, within_ite, h,
      withinO_next]

theorem State.chMod_within {K : Mask} {s0 s : State} [Allowed K.chain] (h : Within K s0 s) (f : ChainSt → ChainSt) : Within K s0
    (State.chMod s f) := by
  simp +contextual (maxDischargeDepth := 100) only [State.chMod, within_mk, kept_refl, kept_allowed, h]

theorem State.setPort_within {K : Mask} {s0 s : State} [Allowed K.regs] (h : Within K s0 s) (p st : Nat) : Within K s0 (State.setPort s p st) := by
  simp +contextual (maxDischargeDepth := 100) only [State.setPort, State.fput_within, within_ite, h]

theorem State.showPending_within {K : Mask} {s0 s : State} [Allowed K.regs] (h : Within K s0 s) : Within K s0 (State.showPending s) := by
  simp +contextual (maxDischargeDepth := 100) only [State.showPending, State.fput_within, h]

theorem State.setAddr_within {K : Mask} {s0 s : State} [Allowed K.regs] (h : Within K s0 s) (n : Nat) : Within K s0 (State.setAddr s n) := by
  simp +contextual (maxDischargeDepth := 100) only [State.setAddr, State.fput_within, State.showPending_within, h]

theorem State.dropAddr_within {K : Mask} {s0 s : State} [Allowed K.regs] (h : Within K s0 s) : Within K s0 (State.dropAddr s) := by
  simp +contextual (maxDischargeDepth := 100) only [State.dropAddr, State.fput_within, State.showPending_within, h]

theorem State.checkAddr_within {K : Mask} {s0 s : State} [Allowed K.regs] (h : Within K s0 s) : Within K s0 (State.checkAddr s) := by
  simp +contextual (maxDischargeDepth := 100) only [State.checkAddr, State.dropAddr_within, State.raise_within, within_ite, h]

theorem State.takeRole_within {K : Mask} {s0 s : State} [Allowed K.regs] (h : Within K s0 s) : Within K s0 (State.takeRole s) := by
  simp +contextual (maxDischargeDepth := 100) only [State.takeRole, State.dropAddr_within, State.fput_within, State.setAddr_within, within_ite, h]

theorem State.msgErr_within {K : Mask} {s0 s : State} [Allowed K.regs] (h : Within K s0 s) : Within K s0 (State.msgErr s) := by
  simp +contextual (maxDischargeDepth := 100) only [State.msgErr, State.count_within, State.raise_within, h]

theorem State.takeMsg_within {K : Mask} {s0 s : State} [Allowed K.regs] (h : Within K s0 s) (p typ : Nat) (b : List Byte)
    (f : State → Msg → State) (hf : ∀ u x0, Within K s0 u → Within K s0 (f u x0)) : Within K s0 (State.takeMsg s p typ b f) := by
  unfold State.takeMsg
  repeat' split
  all_goals simp +contextual (maxDischargeDepth := 100) only [State.msgErr_within, h, hf]

theorem State.putMsg_within {K : Mask} {s0 s : State} [Allowed K.out] [Allowed K.lanes] (h : Within K s0 s) (p : Nat) (b : List Byte) :
    Within K s0 (State.putMsg s p b) := by
  simp +contextual (maxDischargeDepth := 100) only [State.putMsg, State.emit_within, State.send_within, h]

theorem State.sendMsg_within {K : Mask} {s0 s : State} [Allowed K.out] [Allowed K.lanes] (h : Within K s0 s) (p typ dest seq : Nat)
    (body : List Byte) : Within K s0 (State.sendMsg s p typ dest seq body) := by
  simp +contextual (maxDischargeDepth := 100) only [State.sendMsg, State.putMsg_within, within_ite, h]

theorem State.sendTo_within {K : Mask} {s0 s : State} [Allowed K.out] [Allowed K.fresh] [Allowed K.lanes] (h : Within K s0 s) (p typ dest : Nat)
    (body : List Byte) : Within K s0 (State.sendTo s p typ dest body) := by
  simp +contextual (maxDischargeDepth := 100) only [State.sendTo, State.sendMsg_within, State.tick1_within, h]

theorem State.sendLink_within {K : Mask} {s0 s : State} [Allowed K.out] [Allowed K.fresh] [Allowed K.lanes] (h : Within K s0 s) (p typ : Nat)
    (body : List Byte) : Within K s0 (State.sendLink s p typ body) := by
  simp +contextual (maxDischargeDepth := 100) only [State.sendLink, State.sendTo_within, State.tick1_within, h]

theorem State.forward_within {K : Mask} {s0 s : State} [Allowed K.regs] [Allowed K.out] [Allowed K.lanes] (h : Within K s0 s) (p : Nat) (m : Msg) :
    Within K s0 (State.forward s p m) := by
  simp +contextual (maxDischargeDepth := 100) only [State.forward, State.count_within, State.putMsg_within, within_ite, h]

theorem State.sendHello_within {K : Mask} {s0 s : State} [Allowed K.out] [Allowed K.fresh] [Allowed K.lanes] [Allowed K.chain] (h : Within K s0 s)
    (p : Nat) : Within K s0 (State.sendHello s p) := by
  simp +contextual (maxDischargeDepth := 100) only [State.sendHello, State.chMod_within, State.sendLink_within, h]

theorem State.helloSync_within {K : Mask} {s0 s : State} [Allowed K.out] [Allowed K.fresh] [Allowed K.lanes] [Allowed K.chain]
    (h : Within K s0 s) : Within K s0 (State.helloSync s) := by
  simp +contextual (maxDischargeDepth := 100) only [State.helloSync, State.forEach_within, State.sendHello_within, within_ite, h, implies_true]

end Sys2Proof.Machine
end

