-- ==== Sys2Proof/Laws/WithinUnits.lean ====
section
/-!
SUPPORT. Laws/WithinUnits.lean: which fields of the state each operation and meaning may change, for mailboxes, the throttle, the memory controller, interrupts, leases, the engines' control and snapshot requests: one
lemma each, named after it, which asks that the mask have those fields.
-/
namespace Sys2Proof.Machine

theorem State.mbEvent_within {K : Mask} {s0 s : State} [Allowed K.regs] (h : Within K s0 s) (k d e : Nat) : Within K s0
    (State.mbEvent s k d e) := by
  simp +contextual (maxDischargeDepth := 100) only [State.mbEvent, State.raise_within, h]

theorem State.mbPending_within {K : Mask} {s0 s : State} [Allowed K.regs] (h : Within K s0 s) (k : Nat) : Within K s0 (State.mbPending s k) := by
  simp +contextual (maxDischargeDepth := 100) only [State.mbPending, State.setFlag_within, h]

theorem State.mbFlags_within {K : Mask} {s0 s : State} [Allowed K.regs] (h : Within K s0 s) (k d fl : Nat) : Within K s0
    (State.mbFlags s k d fl) := by
  simp +contextual (maxDischargeDepth := 100) only [State.mbFlags, State.fput_within, h]

theorem State.mbUnstage_within {K : Mask} {s0 s : State} [Allowed K.regs] (h : Within K s0 s) (k d : Nat) : Within K s0
    (State.mbUnstage s k d) := by
  simp +contextual (maxDischargeDepth := 100) only [State.mbUnstage, State.clr_within, h]

theorem State.mbUnlock_within {K : Mask} {s0 s : State} [Allowed K.regs] (h : Within K s0 s) (k d m : Nat) : Within K s0
    (State.mbUnlock s k d m) := by
  simp +contextual (maxDischargeDepth := 100) only [State.mbUnlock, State.fput_within, within_ite, h]

theorem State.mbRefuse_within {K : Mask} {s0 s : State} [Allowed K.regs] (h : Within K s0 s) (k d code : Nat) : Within K s0
    (State.mbRefuse s k d code) := by
  simp +contextual (maxDischargeDepth := 100) only [State.mbRefuse, State.count_within, State.fput_within, State.mbEvent_within, h]

theorem State.mbFree_within {K : Mask} {s0 s : State} [Allowed K.regs] (h : Within K s0 s) (k d : Nat) (cross : Bool) : Within K s0
    (State.mbFree s k d cross) := by
  simp +contextual (maxDischargeDepth := 100) only [State.mbFree, State.clr_within, State.doIf_within, State.forEach_within, State.fput_within,
      State.mbFlags_within, State.mbPending_within, h, implies_true]

theorem State.mbComplete_within {K : Mask} {s0 s : State} [Allowed K.regs] (h : Within K s0 s) (k d code : Nat) : Within K s0
    (State.mbComplete s k d code) := by
  simp +contextual (maxDischargeDepth := 100) only [State.mbComplete, State.mbEvent_within, State.mbFree_within, State.wrN_within, h]

theorem State.mbPresent_within {K : Mask} {s0 s : State} [Allowed K.regs] (h : Within K s0 s) (k d ptr tag fl sender : Nat) : Within K s0
    (State.mbPresent s k d ptr tag fl sender) := by
  simp +contextual (maxDischargeDepth := 100) only [State.mbPresent, State.fput_within, State.mbEvent_within, State.mbPending_within,
      State.wrN_within, h]

theorem State.mbOutbound_within {K : Mask} {s0 s : State} [Allowed K.regs] [Allowed K.out] [Allowed K.fresh] [Allowed K.lanes] (h : Within K s0 s)
    (k tag : Nat) : Within K s0 (State.mbOutbound s k tag) := by
  simp +contextual (maxDischargeDepth := 100) only [State.mbOutbound, State.mbComplete_within, State.sendLink_within, within_ite, h]

theorem State.mbLinkLost_within {K : Mask} {s0 s : State} [Allowed K.regs] (h : Within K s0 s) (p : Nat) : Within K s0 (State.mbLinkLost s p) := by
  simp +contextual (maxDischargeDepth := 100) only [State.mbLinkLost, State.count_within, State.forEach_within, State.fput_within,
      State.mbComplete_within, State.mbEvent_within, State.mbFlags_within, within_ite, h, implies_true]

theorem execMbox_within {K : Mask} {s0 s : State} [Allowed K.regs] [Allowed K.mem] [Allowed K.out] [Allowed K.fresh] [Allowed K.lanes]
    (h : Within K s0 s) (p : Fin 2) (b : List Byte) : WithinO K s0 (execMbox p b s) := by
  simp +contextual (maxDischargeDepth := 100) only [execMbox, State.mbPresent_within, State.sendLink_within, State.stBytes_within,
      State.takeMsg_within, within_ite, h, implies_true, withinO_next]

theorem execMboxAck_within {K : Mask} {s0 s : State} [Allowed K.regs] (h : Within K s0 s) (p : Fin 2) (b : List Byte) : WithinO K s0
    (execMboxAck p b s) := by
  simp +contextual (maxDischargeDepth := 100) only [execMboxAck, State.count_within, State.mbComplete_within, State.mbEvent_within,
      State.mbRefuse_within, State.takeMsg_within, within_ite, h, implies_true, withinO_next]

theorem execPost_within {K : Mask} {s0 s : State} [Allowed K.regs] [Allowed K.out] [Allowed K.fresh] [Allowed K.lanes] (h : Within K s0 s)
    (k : Fin 48) (d : Fin 2) (m : Fin 32) (v : Word) : WithinO K s0 (execPost k d m v s) := by
  simp +contextual (maxDischargeDepth := 100) only [execPost, State.mbOutbound_within, State.mbPresent_within, State.mbRefuse_within,
      State.mbUnlock_within, State.mbUnstage_within, within_ite, h, withinO_next]

theorem execLockRead_within {K : Mask} {s0 s : State} [Allowed K.regs] [Allowed K.out] (h : Within K s0 s) (k : Fin 48) (d : Fin 2) (m : Fin 32) :
    WithinO K s0 (execLockRead k d m s) := by
  simp +contextual (maxDischargeDepth := 100) only [execLockRead, State.emit_within, State.fput_within, within_ite, h, withinO_next]

theorem execLockRelease_within {K : Mask} {s0 s : State} [Allowed K.regs] (h : Within K s0 s) (k : Fin 48) (d : Fin 2) (m : Fin 32) : WithinO K s0
    (execLockRelease k d m s) := by
  simp +contextual (maxDischargeDepth := 100) only [execLockRelease, State.mbUnlock_within, h, withinO_next]

theorem execNoticeRead_within {K : Mask} {s0 s : State} [Allowed K.regs] [Allowed K.out] (h : Within K s0 s) (k : Fin 48) (d : Fin 2) :
    WithinO K s0 (execNoticeRead k d s) := by
  simp +contextual (maxDischargeDepth := 100) only [execNoticeRead, State.emit_within, State.fput_within, within_ite, h, withinO_next]

theorem execAck_within {K : Mask} {s0 s : State} [Allowed K.regs] [Allowed K.out] [Allowed K.fresh] [Allowed K.lanes] (h : Within K s0 s)
    (k : Fin 48) (d : Fin 2) (m : Fin 32) (v : Word) : WithinO K s0 (execAck k d m v s) := by
  simp +contextual (maxDischargeDepth := 100) only [execAck, State.count_within, State.mbComplete_within, State.mbEvent_within,
      State.mbRefuse_within, State.sendLink_within, State.tick1_within, within_ite, h, withinO_next]

theorem execMailboxTimeout_within {K : Mask} {s0 s : State} [Allowed K.regs] (h : Within K s0 s) (k : Fin 48) (d : Fin 2) : WithinO K s0
    (execMailboxTimeout k d s) := by
  simp +contextual (maxDischargeDepth := 100) only [execMailboxTimeout, State.count_within, State.mbEvent_within, State.mbFree_within,
      State.wrN_within, within_ite, h, withinO_next]

theorem execCross_within {K : Mask} {s0 s : State} [Allowed K.regs] (h : Within K s0 s) (k : Fin 48) : WithinO K s0 (execCross k s) := by
  simp +contextual (maxDischargeDepth := 100) only [execCross, State.count_within, State.forEach_within, State.mbFlags_within, State.raise_within,
      within_ite, h, implies_true, withinO_next]

theorem State.mbMark_within {K : Mask} {s0 s : State} [Allowed K.regs] (h : Within K s0 s) (k d bit : Nat) (again : Bool) : Within K s0
    (State.mbMark s k d bit again) := by
  simp +contextual (maxDischargeDepth := 100) only [State.mbMark, State.fput_within, State.mbEvent_within, State.mbFlags_within, within_ite, h]

theorem State.mbStale_within {K : Mask} {s0 s : State} [Allowed K.regs] (h : Within K s0 s) (dirs : List (Nat × Nat)) : Within K s0
    (State.mbStale s dirs) := by
  simp +contextual (maxDischargeDepth := 100) only [State.mbStale, State.count_within, State.forEach_within, State.mbMark_within, h, implies_true]

theorem State.mbVoid_within {K : Mask} {s0 s : State} [Allowed K.regs] (h : Within K s0 s) (m : Nat) : Within K s0 (State.mbVoid s m) := by
  simp +contextual (maxDischargeDepth := 100) only [State.mbVoid, State.count_within, State.forEach_within, State.mbMark_within,
      State.mbUnlock_within, within_ite, h, implies_true]

theorem State.mbResetX_within {K : Mask} {s0 s : State} [Allowed K.regs] (h : Within K s0 s) (m : Nat) : Within K s0 (State.mbResetX s m) := by
  simp +contextual (maxDischargeDepth := 100) only [State.mbResetX, State.mbStale_within, State.mbVoid_within, h]

theorem State.mbClear_within {K : Mask} {s0 s : State} [Allowed K.regs] (h : Within K s0 s) : Within K s0 (State.mbClear s) := by
  simp +contextual (maxDischargeDepth := 100) only [State.mbClear, State.clr_within, State.forEach_within, State.mbFree_within, h, implies_true]

theorem State.powMod_within {K : Mask} {s0 s : State} [Allowed K.power] (h : Within K s0 s) (f : PowerSt → PowerSt) : Within K s0
    (State.powMod s f) := by
  simp +contextual (maxDischargeDepth := 100) only [State.powMod, within_mk, kept_refl, kept_allowed, h]

theorem State.putSheds_within {K : Mask} {s0 s : State} [Allowed K.sheds] (h : Within K s0 s) (new : ShedRow) (pb wb : Nat) : Within K s0
    (State.putSheds s new pb wb) := by
  simp +contextual (maxDischargeDepth := 100) only [State.putSheds, within_mk, kept_refl, kept_allowed, h]

theorem State.applyStep_within {K : Mask} {s0 s : State} [Allowed K.regs] [Allowed K.sheds] [Allowed K.power] (h : Within K s0 s) : Within K s0
    (State.applyStep s) := by
  simp +contextual (maxDischargeDepth := 100) only [State.applyStep, State.count_within, State.fput_within, State.powMod_within,
      State.putSheds_within, State.raise_within, State.wr64_within, within_ite, h]

theorem State.throttleAccede_within {K : Mask} {s0 s : State} [Allowed K.sheds] (h : Within K s0 s) (x : Nat) : Within K s0
    (State.throttleAccede s x) := by
  simp +contextual (maxDischargeDepth := 100) only [State.throttleAccede, State.putSheds_within, h]

theorem State.modelStep_within {K : Mask} {s0 s : State} [Allowed K.power] (h : Within K s0 s) (us : Nat) (ps : List Nat) : Within K s0
    (State.modelStep s us ps) := by
  simp +contextual (maxDischargeDepth := 100) only [State.modelStep, State.powMod_within, h]

theorem State.judgeDiodes_within {K : Mask} {s0 s : State} [Allowed K.regs] [Allowed K.power] (h : Within K s0 s) : Within K s0
    (State.judgeDiodes s) := by
  simp +contextual (maxDischargeDepth := 100) only [State.judgeDiodes, State.forEach_within, State.fput_within, State.powMod_within,
      State.raiseIf_within, State.raise_within, within_ite, h, implies_true]

theorem State.showHeat_within {K : Mask} {s0 s : State} [Allowed K.regs] [Allowed K.power] (h : Within K s0 s) : Within K s0
    (State.showHeat s) := by
  simp +contextual (maxDischargeDepth := 100) only [State.showHeat, State.forEach_within, State.powMod_within, State.raiseIf_within,
      State.wrN_within, h, implies_true]

theorem State.judgeProg_within {K : Mask} {s0 s : State} [Allowed K.regs] [Allowed K.cat] (h : Within K s0 s) : Within K s0
    (State.judgeProg s) := by
  simp +contextual (maxDischargeDepth := 100) only [State.judgeProg, State.fput_within, within_mk, kept_refl, kept_allowed, within_ite, h]

theorem State.setFast_within {K : Mask} {s0 s : State} [Allowed K.regs] (h : Within K s0 s) (b : Bool) : Within K s0 (State.setFast s b) := by
  simp +contextual (maxDischargeDepth := 100) only [State.setFast, State.fput_within, State.raise_within, within_ite, h]

theorem State.judgeFast_within {K : Mask} {s0 s : State} [Allowed K.regs] [Allowed K.power] (h : Within K s0 s) : Within K s0
    (State.judgeFast s) := by
  unfold State.judgeFast
  split <;> simp +contextual (maxDischargeDepth := 100) only [State.powMod_within, State.setFast_within, within_ite, h]

theorem State.controlStep_within {K : Mask} {s0 s : State} [Allowed K.regs] [Allowed K.power] (h : Within K s0 s) : Within K s0
    (State.controlStep s) := by
  simp +contextual (maxDischargeDepth := 100) only [State.controlStep, State.fput_within, State.powMod_within, within_ite, h]

theorem State.measure_within {K : Mask} {s0 s : State} [Allowed K.regs] [Allowed K.sheds] [Allowed K.cat] [Allowed K.power] (h : Within K s0 s)
    (us t : Nat) (slow : Bool) (diodes : List (BitVec 16)) (ps : List Nat) : Within K s0 (State.measure s us t slow diodes ps) := by
  simp +contextual (maxDischargeDepth := 100) only [State.measure, State.applyStep_within, State.controlStep_within, State.forEach_within,
      State.fput_within, State.judgeDiodes_within, State.judgeFast_within, State.judgeProg_within, State.modelStep_within, State.powMod_within,
      State.showHeat_within, State.wrN_within, within_ite, h, implies_true]

theorem execFastRound_within {K : Mask} {s0 s : State} [Allowed K.regs] [Allowed K.sheds] [Allowed K.cat] [Allowed K.power] (h : Within K s0 s)
    (diodes : List (BitVec 16)) (ps : List Nat) : WithinO K s0 (execFastRound diodes ps s) := by
  simp +contextual (maxDischargeDepth := 100) only [execFastRound, State.measure_within, within_ite, h, withinO_next]

theorem State.takeIout_within {K : Mask} {s0 s : State} [Allowed K.regs] [Allowed K.power] (h : Within K s0 s) (ans : List (Option Nat)) :
    Within K s0 (State.takeIout s ans) := by
  unfold State.takeIout
  dsimp only
  repeat' (first
      | with_reducible assumption
      | with_reducible apply within_ite
      | with_reducible apply State.count_within
      | with_reducible apply State.forEach_within
      | with_reducible apply State.powMod_within
      | with_reducible apply State.raise_within
      | (intro)
      | split
      | (simp +contextual (maxDischargeDepth := 100) only [*, State.count_within, State.forEach_within, State.powMod_within, State.raise_within,
          within_mk, kept_refl, kept_allowed, within_ite, h, implies_true]; done))

theorem State.showRails_within {K : Mask} {s0 s : State} [Allowed K.regs] [Allowed K.fresh] (h : Within K s0 s) (mv : List (BitVec 16))
    (ps : List Nat) : Within K s0 (State.showRails s mv ps) := by
  simp +contextual (maxDischargeDepth := 100) only [State.showRails, State.forEach_within, State.tick1_within, State.wrN_within, State.wr_within,
      within_ite, h, implies_true]

theorem State.commandCore_within {K : Mask} {s0 s : State} [Allowed K.regs] [Allowed K.out] (h : Within K s0 s) (c : Nat) : Within K s0
    (State.commandCore s c) := by
  simp +contextual (maxDischargeDepth := 100) only [State.commandCore, State.emit_within, State.fput_within, h]

theorem State.trimCore_within {K : Mask} {s0 s : State} [Allowed K.regs] [Allowed K.out] [Allowed K.power] (h : Within K s0 s)
    (back : Option (BitVec 16)) : Within K s0 (State.trimCore s back) := by
  simp +contextual (maxDischargeDepth := 100) only [State.trimCore, State.commandCore_within, State.count_within, State.fput_within,
      State.powMod_within, State.raise_within, within_ite, h]

theorem execSlowRound_within {K : Mask} {s0 s : State} [Allowed K.regs] [Allowed K.out] [Allowed K.fresh] [Allowed K.sheds] [Allowed K.cat]
    [Allowed K.power] (h : Within K s0 s) (diodes mv : List (BitVec 16)) (iout : List (Option Nat)) (est : List Nat) (avs : Option (BitVec 16)) :
    WithinO K s0 (execSlowRound diodes mv iout est avs s) := by
  simp +contextual (maxDischargeDepth := 100) only [execSlowRound, State.measure_within, State.powMod_within, State.raiseIf_within,
      State.showRails_within, State.takeIout_within, State.trimCore_within, h, withinO_next]

theorem execPmAlert_within {K : Mask} {s0 s : State} [Allowed K.regs] (h : Within K s0 s) (bad : Fin 17) : WithinO K s0 (execPmAlert bad s) := by
  simp +contextual (maxDischargeDepth := 100) only [execPmAlert, State.countBy_within, State.raise_within, h, withinO_next]

theorem State.hbmMod_within {K : Mask} {s0 s : State} [Allowed K.hbm] (h : Within K s0 s) (f : HbmSt → HbmSt) : Within K s0 (State.hbmMod s f) := by
  simp +contextual (maxDischargeDepth := 100) only [State.hbmMod, within_mk, kept_refl, kept_allowed, h]

theorem State.archRead_within {K : Mask} {s0 s : State} [Allowed K.regs] [Allowed K.fresh] (h : Within K s0 s) (cls off n : Nat) : Within K s0
    (State.archRead s cls off n).1 := by
  simp +contextual (maxDischargeDepth := 100) only [State.archRead, State.noteRead_within, State.rangeErr_within, h, within_ite1]

theorem State.archWrite_within {K : Mask} {s0 s : State} [Allowed K.regs] [Allowed K.mem] [Allowed K.poison] [Allowed K.fresh] (h : Within K s0 s)
    (cls off : Nat) (bs : List (Option Byte)) : Within K s0 (State.archWrite s cls off bs).1 := by
  simp +contextual (maxDischargeDepth := 100) only [State.archWrite, State.arcWrite_within, State.rangeErr_within, h, within_ite1]

theorem State.takeIn_within {K : Mask} {s0 s : State} [Allowed K.regs] [Allowed K.hbm] (h : Within K s0 s) (r : HReq) : Within K s0
    (State.takeIn s r) := by
  simp +contextual (maxDischargeDepth := 100) only [State.takeIn, State.count_within, State.doIf_within, State.hbmMod_within, h, implies_true]

theorem State.admitWaiting_within {K : Mask} [Allowed K.regs] [Allowed K.hbm] {s0 : State} : ∀ {l : List HReq} {s : State}, Within K s0 s →
    Within K s0 (State.admitWaiting l s)
  | [], _, h => h
  | r :: rest, s, h => by
    unfold State.admitWaiting
    split
    · exact State.admitWaiting_within (l := rest) (State.takeIn_within h r)
    · exact State.admitWaiting_within (l := rest) (State.hbmMod_within h _)

theorem State.retryWaiting_within {K : Mask} {s0 s : State} [Allowed K.regs] [Allowed K.hbm] (h : Within K s0 s) : Within K s0
    (State.retryWaiting s) := by
  simp +contextual (maxDischargeDepth := 100) only [State.retryWaiting, State.admitWaiting_within, State.hbmMod_within, h]

theorem execHbmRequest_within {K : Mask} {s0 s : State} [Allowed K.regs] [Allowed K.out] [Allowed K.fresh] [Allowed K.hbm] (h : Within K s0 s)
    (cls : Fin 5) (src tag : Nat) (hint wr : Bool) (off : Nat) (data : List (Option Byte)) : WithinO K s0
    (execHbmRequest cls src tag hint wr off data s) := by
  simp +contextual (maxDischargeDepth := 100) only [execHbmRequest, State.admitWaiting_within, State.emit_within, State.rangeErr_within,
      within_ite, h, withinO_next]

theorem execHbmAgePromote_within {K : Mask} {s0 s : State} [Allowed K.regs] [Allowed K.hbm] (h : Within K s0 s) (k : Nat) : WithinO K s0
    (execHbmAgePromote k s) := by
  unfold execHbmAgePromote
  split <;> simp +contextual (maxDischargeDepth := 100) only [State.count_within, State.hbmMod_within, within_ite, h, withinO_next]

theorem State.openRow_within {K : Mask} {s0 s : State} [Allowed K.regs] [Allowed K.hbm] (h : Within K s0 s) (r : HReq) : Within K s0
    (State.openRow s r) := by
  simp +contextual (maxDischargeDepth := 100) only [State.openRow, State.count_within, State.doIf_within, State.hbmMod_within, within_ite, h,
      implies_true]

theorem State.closeRow_within {K : Mask} {s0 s : State} [Allowed K.hbm] (h : Within K s0 s) (pc bank : Nat) : Within K s0
    (State.closeRow s pc bank) := by
  simp +contextual (maxDischargeDepth := 100) only [State.closeRow, State.hbmMod_within, h]

theorem execPageTimeout_within {K : Mask} {s0 s : State} [Allowed K.hbm] (h : Within K s0 s) (pc : Fin 64) (bank : Fin 48) : WithinO K s0
    (execPageTimeout pc bank s) := by
  simp +contextual (maxDischargeDepth := 100) only [execPageTimeout, State.closeRow_within, h, withinO_next]

theorem execRefreshDue_within {K : Mask} {s0 s : State} [Allowed K.regs] [Allowed K.hbm] (h : Within K s0 s) (pc : Fin 64) (bank : Fin 48)
    (put : Bool) : WithinO K s0 (execRefreshDue pc bank put s) := by
  simp +contextual (maxDischargeDepth := 100) only [execRefreshDue, State.closeRow_within, State.count_within, State.hbmMod_within, within_ite, h,
      withinO_next]

theorem State.showHeld_within {K : Mask} {s0 s : State} [Allowed K.regs] (h : Within K s0 s) : Within K s0 (State.showHeld s) := by
  simp +contextual (maxDischargeDepth := 100) only [State.showHeld, State.fput_within, h]

theorem State.showTrain_within {K : Mask} {s0 s : State} [Allowed K.regs] (h : Within K s0 s) : Within K s0 (State.showTrain s) := by
  unfold State.showTrain
  dsimp only
  repeat' split
  all_goals simp +contextual (maxDischargeDepth := 100) only [State.wrN_within, h]

theorem State.enterPhase_within {K : Mask} {s0 s : State} [Allowed K.regs] [Allowed K.hbm] (h : Within K s0 s) (p : Nat) : Within K s0
    (State.enterPhase s p) := by
  simp +contextual (maxDischargeDepth := 100) only [State.enterPhase, State.fput_within, State.hbmMod_within, State.showTrain_within, h]

theorem State.holdDrained_within {K : Mask} {s0 s : State} [Allowed K.regs] [Allowed K.hbm] (h : Within K s0 s) : Within K s0
    (State.holdDrained s) := by
  simp +contextual (maxDischargeDepth := 100) only [State.holdDrained, State.enterPhase_within, State.forEach_within, State.fput_within,
      State.hbmMod_within, State.showHeld_within, State.wr_within, within_ite, h, implies_true]

theorem State.beginHold_within {K : Mask} {s0 s : State} [Allowed K.regs] [Allowed K.hbm] (h : Within K s0 s) (k : Nat) : Within K s0
    (State.beginHold s k) := by
  simp +contextual (maxDischargeDepth := 100) only [State.beginHold, State.hbmMod_within, State.holdDrained_within, State.showHeld_within, h]

theorem execMapApply_within {K : Mask} {s0 s : State} [Allowed K.regs] [Allowed K.hbm] (h : Within K s0 s) : WithinO K s0 (execMapApply s) := by
  simp +contextual (maxDischargeDepth := 100) only [execMapApply, State.beginHold_within, State.fput_within, State.raise_within, within_ite, h,
      withinO_next]

theorem State.zeroArchive_within {K : Mask} {s0 s : State} [Allowed K.mem] [Allowed K.poison] (h : Within K s0 s) : Within K s0
    (State.zeroArchive s) := by
  simp +contextual (maxDischargeDepth := 100) only [State.zeroArchive, within_mk, kept_refl, kept_allowed, h]

theorem State.releaseHold_within {K : Mask} {s0 s : State} [Allowed K.regs] [Allowed K.hbm] (h : Within K s0 s) : Within K s0
    (State.releaseHold s) := by
  simp +contextual (maxDischargeDepth := 100) only [State.releaseHold, State.hbmMod_within, State.retryWaiting_within, State.showHeld_within, h]

theorem State.noteFix_within {K : Mask} {s0 s : State} [Allowed K.regs] (h : Within K s0 s) (kind off : Nat) : Within K s0
    (State.noteFix s kind off) := by
  simp +contextual (maxDischargeDepth := 100) only [State.noteFix, State.count_within, State.raise_within, within_ite, h]

theorem execHbmRequestComplete_within {K : Mask} {s0 s : State} [Allowed K.regs] [Allowed K.mem] [Allowed K.poison] [Allowed K.out]
    [Allowed K.fresh] [Allowed K.hbm] (h : Within K s0 s) (k : Nat) (fault : Fin 4) : WithinO K s0 (execHbmRequestComplete k fault s) := by
  unfold execHbmRequestComplete
  split <;> simp +contextual (maxDischargeDepth := 100) only [State.arcWrite_within, State.closeRow_within, State.doIf_within, State.emit_within,
      State.hbmMod_within, State.holdDrained_within, State.noteFix_within, State.noteRead_within, State.openRow_within, State.poisonUnit_within,
      State.retryWaiting_within, within_ite, h, implies_true, withinO_next]

theorem State.startPatrol_within {K : Mask} {s0 s : State} [Allowed K.regs] [Allowed K.hbm] (h : Within K s0 s) : Within K s0
    (State.startPatrol s) := by
  simp +contextual (maxDischargeDepth := 100) only [State.startPatrol, State.fput_within, State.hbmMod_within, State.showHeld_within, h]

theorem execScrubPeriod_within {K : Mask} {s0 s : State} [Allowed K.regs] [Allowed K.hbm] (h : Within K s0 s) : WithinO K s0
    (execScrubPeriod s) := by
  simp +contextual (maxDischargeDepth := 100) only [execScrubPeriod, State.startPatrol_within, within_ite, h, withinO_next]

theorem execScrubNow_within {K : Mask} {s0 s : State} [Allowed K.regs] [Allowed K.hbm] (h : Within K s0 s) : WithinO K s0 (execScrubNow s) := by
  simp +contextual (maxDischargeDepth := 100) only [execScrubNow, State.startPatrol_within, h, withinO_next]

theorem execScrubDone_within {K : Mask} {s0 s : State} [Allowed K.regs] [Allowed K.poison] [Allowed K.fresh] [Allowed K.hbm] (h : Within K s0 s)
    (fixed bad : List Nat) : WithinO K s0 (execScrubDone fixed bad s) := by
  simp +contextual (maxDischargeDepth := 100) only [execScrubDone, State.count_within, State.doIf_within, State.forEach_within,
      State.hbmMod_within, State.logArc_within, State.noteFix_within, State.poisonUnit_within, State.raise_within, State.showHeld_within,
      within_ite, h, implies_true, withinO_next]

theorem State.startInitScrub_within {K : Mask} {s0 s : State} [Allowed K.regs] [Allowed K.hbm] (h : Within K s0 s) : Within K s0
    (State.startInitScrub s) := by
  simp +contextual (maxDischargeDepth := 100) only [State.startInitScrub, State.hbmMod_within, State.showHeld_within, h]

theorem execHbmTemperatureRead_within {K : Mask} {s0 s : State} [Allowed K.regs] [Allowed K.sheds] [Allowed K.power] (h : Within K s0 s)
    (t0 t1 : Byte) : WithinO K s0 (execHbmTemperatureRead t0 t1 s) := by
  simp +contextual (maxDischargeDepth := 100) only [execHbmTemperatureRead, State.applyStep_within, State.fput_within, State.raiseIf_within,
      State.wrN_within, h, withinO_next]

theorem State.startTraining_within {K : Mask} {s0 s : State} [Allowed K.regs] [Allowed K.hbm] (h : Within K s0 s) : Within K s0
    (State.startTraining s) := by
  simp +contextual (maxDischargeDepth := 100) only [State.startTraining, State.enterPhase_within, State.fput_within, State.hbmMod_within,
      State.wr64_within, h]

theorem State.nextPhase_within {K : Mask} {s0 s : State} [Allowed K.regs] [Allowed K.hbm] (h : Within K s0 s) (p : Nat) : Within K s0
    (State.nextPhase s p) := by
  simp +contextual (maxDischargeDepth := 100) only [State.nextPhase, State.enterPhase_within, State.fput_within, State.hbmMod_within,
      State.raise_within, State.showTrain_within, within_ite, h]

theorem execTrainingPhaseDone_within {K : Mask} {s0 s : State} [Allowed K.regs] [Allowed K.hbm] (h : Within K s0 s) (pc : Fin 64)
    (pass rfm : Bool) (moved : Byte) : WithinO K s0 (execTrainingPhaseDone pc pass rfm moved s) := by
  unfold execTrainingPhaseDone
  repeat' split
  all_goals simp +contextual (maxDischargeDepth := 100) only [State.enterPhase_within, State.fput_within, State.hbmMod_within,
      State.nextPhase_within, State.raise_within, State.setFlag_within, State.wr64_within, within_ite, h, withinO_next]

theorem execInitialisingScrubDone_within {K : Mask} {s0 s : State} [Allowed K.regs] [Allowed K.mem] [Allowed K.poison] [Allowed K.hbm]
    (h : Within K s0 s) : WithinO K s0 (execInitialisingScrubDone s) := by
  simp +contextual (maxDischargeDepth := 100) only [execInitialisingScrubDone, State.beginHold_within, State.fput_within, State.hbmMod_within,
      State.raise_within, State.releaseHold_within, State.showHeld_within, State.zeroArchive_within, within_ite, h, withinO_next]

theorem execRateChange_within {K : Mask} {s0 s : State} [Allowed K.regs] [Allowed K.hbm] (h : Within K s0 s) (v : Word) : WithinO K s0
    (execRateChange v s) := by
  simp +contextual (maxDischargeDepth := 100) only [execRateChange, State.beginHold_within, State.fput_within, State.hbmMod_within, within_ite, h,
      withinO_next]

theorem execRateChanged_within {K : Mask} {s0 s : State} [Allowed K.regs] [Allowed K.hbm] (h : Within K s0 s) : WithinO K s0
    (execRateChanged s) := by
  simp +contextual (maxDischargeDepth := 100) only [execRateChanged, State.beginHold_within, State.fput_within, State.hbmMod_within,
      State.raise_within, State.releaseHold_within, State.showTrain_within, within_ite, h, withinO_next]

theorem State.irqMod_within {K : Mask} {s0 s : State} [Allowed K.irq] (h : Within K s0 s) (f : IrqSt → IrqSt) : Within K s0 (State.irqMod s f) := by
  simp +contextual (maxDischargeDepth := 100) only [State.irqMod, within_mk, kept_refl, kept_allowed, h]

theorem State.mpMod_within {K : Mask} {s0 s : State} [Allowed K.mace] (h : Within K s0 s) (p : Nat) (f : MaceSt → MaceSt) : Within K s0
    (State.mpMod s p f) := by
  simp +contextual (maxDischargeDepth := 100) only [State.mpMod, within_mk, kept_refl, kept_allowed, h]

theorem State.showVec_within {K : Mask} {s0 s : State} [Allowed K.regs] (h : Within K s0 s) (v : Nat) : Within K s0 (State.showVec s v) := by
  simp +contextual (maxDischargeDepth := 100) only [State.showVec, State.setFlag_within, h]

theorem State.showSource_within {K : Mask} {s0 s : State} [Allowed K.regs] (h : Within K s0 s) (k : Nat) : Within K s0 (State.showSource s k) := by
  simp +contextual (maxDischargeDepth := 100) only [State.showSource, State.setFlag_within, within_ite, h]

theorem State.irqSet_within {K : Mask} {s0 s : State} [Allowed K.regs] [Allowed K.irq] (h : Within K s0 s) (k t st : Nat) : Within K s0
    (State.irqSet s k t st) := by
  simp +contextual (maxDischargeDepth := 100) only [State.irqSet, State.doIf_within, State.irqMod_within, State.showSource_within,
      State.showVec_within, h, implies_true]

theorem State.sendVec_within {K : Mask} {s0 s : State} [Allowed K.regs] [Allowed K.out] [Allowed K.irq] (h : Within K s0 s) (v : Nat) :
    Within K s0 (State.sendVec s v) := by
  simp +contextual (maxDischargeDepth := 100) only [State.sendVec, State.count_within, State.emit_within, State.forEach_within,
      State.irqSet_within, within_ite, h, implies_true]

theorem State.signalPme_within {K : Mask} {s0 s : State} [Allowed K.regs] [Allowed K.out] [Allowed K.host] (h : Within K s0 s) : Within K s0
    (State.signalPme s) := by
  simp +contextual (maxDischargeDepth := 100) only [State.signalPme, State.count_within, State.doIf_within, State.emit_within, State.raise_within,
      within_mk, kept_refl, kept_allowed, h, implies_true]

theorem State.vecRises_within {K : Mask} {s0 s : State} [Allowed K.regs] [Allowed K.out] [Allowed K.irq] [Allowed K.host] (h : Within K s0 s)
    (v : Nat) (before : Bool) : Within K s0 (State.vecRises s v before) := by
  simp +contextual (maxDischargeDepth := 100) only [State.vecRises, State.sendVec_within, State.signalPme_within, within_ite, h]

theorem State.irqOffer_within {K : Mask} {s0 s : State} [Allowed K.regs] [Allowed K.out] [Allowed K.irq] [Allowed K.host] (h : Within K s0 s)
    (k t : Nat) (before : Bool) : Within K s0 (State.irqOffer s k t before) := by
  unfold State.irqOffer
  repeat' split
  all_goals simp +contextual (maxDischargeDepth := 100) only [State.count_within, State.doIf_within, State.raise_within, State.vecRises_within, h,
      implies_true]

theorem State.unhold_within {K : Mask} {s0 s : State} [Allowed K.regs] [Allowed K.out] [Allowed K.irq] [Allowed K.host] (h : Within K s0 s)
    (keys : List Nat) : Within K s0 (State.unhold s keys) := by
  simp +contextual (maxDischargeDepth := 100) only [State.unhold, State.forEach_within, State.irqMod_within, State.showVec_within,
      State.vecRises_within, h, implies_true]

theorem State.releaseGroup_within {K : Mask} {s0 s : State} [Allowed K.regs] [Allowed K.out] [Allowed K.irq] [Allowed K.host] (h : Within K s0 s)
    (g : Nat) : Within K s0 (State.releaseGroup s g) := by
  simp +contextual (maxDischargeDepth := 100) only [State.releaseGroup, State.count_within, State.unhold_within, within_ite, h]

theorem State.becomePending_within {K : Mask} {s0 s : State} [Allowed K.regs] [Allowed K.out] [Allowed K.irq] [Allowed K.host] (h : Within K s0 s)
    (k t : Nat) : Within K s0 (State.becomePending s k t) := by
  simp +contextual (maxDischargeDepth := 100) only [State.becomePending, State.count_within, State.irqMod_within, State.irqOffer_within,
      State.irqSet_within, State.raiseIf_within, State.releaseGroup_within, within_ite, h]

theorem State.irqPend_within {K : Mask} {s0 s : State} [Allowed K.regs] [Allowed K.out] [Allowed K.irq] [Allowed K.host] (h : Within K s0 s)
    (k t : Nat) : Within K s0 (State.irqPend s k t) := by
  unfold State.irqPend
  split <;> simp +contextual (maxDischargeDepth := 100) only [State.becomePending_within, State.irqSet_within, h]

theorem State.irqComplete_within {K : Mask} {s0 s : State} [Allowed K.regs] [Allowed K.out] [Allowed K.irq] [Allowed K.host] (h : Within K s0 s)
    (k t : Nat) : Within K s0 (State.irqComplete s k t) := by
  unfold State.irqComplete
  split <;> simp +contextual (maxDischargeDepth := 100) only [State.becomePending_within, State.irqSet_within, within_ite, h]

theorem State.becomeIdle_within {K : Mask} {s0 s : State} [Allowed K.regs] [Allowed K.out] [Allowed K.irq] [Allowed K.host] (h : Within K s0 s)
    (ts : List Nat) : Within K s0 (State.becomeIdle s ts) := by
  simp +contextual (maxDischargeDepth := 100) only [State.becomeIdle, State.countBy_within, State.unhold_within, h]

theorem State.showIdle_within {K : Mask} {s0 s : State} [Allowed K.regs] [Allowed K.out] [Allowed K.irq] [Allowed K.host] (h : Within K s0 s)
    (c : Nat) : Within K s0 (State.showIdle s c) := by
  simp +contextual (maxDischargeDepth := 100) only [State.showIdle, State.becomeIdle_within, State.doIf_within, State.fput_within, h, implies_true]

theorem State.reroute_within {K : Mask} {s0 s : State} [Allowed K.regs] [Allowed K.out] [Allowed K.irq] [Allowed K.host] (h : Within K s0 s)
    (k : Nat) (f : State → State) (hf : ∀ u, Within K s0 u → Within K s0 (f u)) : Within K s0 (State.reroute s k f) := by
  simp +contextual (maxDischargeDepth := 100) only [State.reroute, State.forEach_within, State.irqPend_within, State.irqSet_within,
      State.sendVec_within, State.showVec_within, h, implies_true, hf]

theorem State.pushFrame_within {K : Mask} {s0 s : State} [Allowed K.regs] [Allowed K.mem] (h : Within K s0 s) (c : Nat) : Within K s0
    (State.pushFrame s c) := by
  simp +contextual (maxDischargeDepth := 100) only [State.pushFrame, State.raise_within, State.stBytes_within, h]

theorem State.popFrame_within {K : Mask} {s0 s : State} [Allowed K.regs] [Allowed K.mace] (h : Within K s0 s) (c : Nat) : Within K s0
    (State.popFrame s c) := by
  simp +contextual (maxDischargeDepth := 100) only [State.popFrame, State.fput_within, State.mpMod_within, h]

theorem State.enterNormal_within {K : Mask} {s0 s : State} [Allowed K.regs] [Allowed K.out] [Allowed K.mace] [Allowed K.irq] [Allowed K.host]
    (h : Within K s0 s) (c : Nat) (e : Nat × Nat) : Within K s0 (State.enterNormal s c e) := by
  simp +contextual (maxDischargeDepth := 100) only [State.enterNormal, State.count_within, State.fput_within, State.irqSet_within,
      State.mpMod_within, State.raise_within, State.showIdle_within, h]

theorem State.enterFast_within {K : Mask} {s0 s : State} [Allowed K.regs] [Allowed K.out] [Allowed K.mace] [Allowed K.irq] [Allowed K.host]
    (h : Within K s0 s) (c : Nat) (e : Nat × Nat) : Within K s0 (State.enterFast s c e) := by
  simp +contextual (maxDischargeDepth := 100) only [State.enterFast, State.count_within, State.fput_within, State.irqSet_within,
      State.mpMod_within, State.raise_within, State.showIdle_within, h]

theorem State.setExit_within {K : Mask} {s0 s : State} [Allowed K.irq] (h : Within K s0 s) (c : Nat) (on : Bool) : Within K s0
    (State.setExit s c on) := by
  simp +contextual (maxDischargeDepth := 100) only [State.setExit, State.irqMod_within, h]

theorem State.chainOrExit_within {K : Mask} {s0 s : State} [Allowed K.regs] [Allowed K.out] [Allowed K.mace] [Allowed K.irq] [Allowed K.host]
    (h : Within K s0 s) (c : Nat) : Within K s0 (State.chainOrExit s c) := by
  unfold State.chainOrExit
  repeat' split
  all_goals simp +contextual (maxDischargeDepth := 100) only [State.enterNormal_within, State.setExit_within, h]

theorem State.returnHandler_within {K : Mask} {s0 s : State} [Allowed K.regs] [Allowed K.out] [Allowed K.mace] [Allowed K.irq] [Allowed K.host]
    (h : Within K s0 s) (c : Nat) : Within K s0 (State.returnHandler s c) := by
  simp +contextual (maxDischargeDepth := 100) only [State.returnHandler, State.chainOrExit_within, State.forEach_within, State.fput_within,
      State.irqComplete_within, State.mpMod_within, within_ite, h, implies_true]

theorem State.completeKeys_within {K : Mask} {s0 s : State} [Allowed K.regs] [Allowed K.out] [Allowed K.irq] [Allowed K.host] (h : Within K s0 s)
    (keys : List Nat) : Within K s0 (State.completeKeys s keys) := by
  simp +contextual (maxDischargeDepth := 100) only [State.completeKeys, State.forEach_within, State.irqComplete_within, h, implies_true]

theorem execSourceRise_within {K : Mask} {s0 s : State} [Allowed K.regs] [Allowed K.out] [Allowed K.irq] [Allowed K.host] (h : Within K s0 s)
    (k : Fin 656) : WithinO K s0 (execSourceRise k s) := by
  simp +contextual (maxDischargeDepth := 100) only [execSourceRise, State.forEach_within, State.irqMod_within, State.irqPend_within, within_ite,
      h, implies_true, withinO_next]

theorem execSourceFall_within {K : Mask} {s0 s : State} [Allowed K.regs] [Allowed K.irq] (h : Within K s0 s) (k : Fin 656) : WithinO K s0
    (execSourceFall k s) := by
  simp +contextual (maxDischargeDepth := 100) only [execSourceFall, State.forEach_within, State.irqMod_within, State.irqSet_within, within_ite, h,
      implies_true, withinO_next]

theorem execModerationRelease_within {K : Mask} {s0 s : State} [Allowed K.regs] [Allowed K.out] [Allowed K.irq] [Allowed K.host]
    (h : Within K s0 s) (g : Fin 12) : WithinO K s0 (execModerationRelease g s) := by
  simp +contextual (maxDischargeDepth := 100) only [execModerationRelease, State.releaseGroup_within, within_ite, h, withinO_next]

theorem execHostAck_within {K : Mask} {s0 s : State} [Allowed K.regs] [Allowed K.out] [Allowed K.irq] [Allowed K.host] (h : Within K s0 s)
    (v : Fin 256) : WithinO K s0 (execHostAck v s) := by
  simp +contextual (maxDischargeDepth := 100) only [execHostAck, State.forEach_within, State.irqComplete_within, State.sendVec_within,
      State.showVec_within, h, implies_true, withinO_next]

theorem execMsixUnmask_within {K : Mask} {s0 s : State} [Allowed K.regs] [Allowed K.out] [Allowed K.irq] (h : Within K s0 s)
    (v : Option (Fin 256)) : WithinO K s0 (execMsixUnmask v s) := by
  unfold execMsixUnmask
  split <;> simp +contextual (maxDischargeDepth := 100) only [State.forEach_within, State.fput_within, State.sendVec_within, h, implies_true,
      withinO_next]

theorem execPcieDstateChange_within {K : Mask} {s0 s : State} [Allowed K.regs] [Allowed K.out] [Allowed K.irq] [Allowed K.host]
    (h : Within K s0 s) (d : Fin 3) (bme mse msix fmask pmeEn : Bool) : WithinO K s0 (execPcieDstateChange d bme mse msix fmask pmeEn s) := by
  simp +contextual (maxDischargeDepth := 100) only [execPcieDstateChange, State.becomeIdle_within, State.doIf_within, State.forEach_within,
      State.fput_within, State.raiseIf_within, State.sendVec_within, within_mk, kept_refl, kept_allowed, within_ite, h, implies_true, withinO_next]

theorem execFastEntry_within {K : Mask} {s0 s : State} [Allowed K.regs] [Allowed K.mem] [Allowed K.out] [Allowed K.mace] [Allowed K.irq]
    [Allowed K.host] (h : Within K s0 s) (c : Fin 2) (during : Bool) : WithinO K s0 (execFastEntry c during s) := by
  unfold execFastEntry
  split <;> simp +contextual (maxDischargeDepth := 100) only [State.doIf_within, State.enterFast_within, State.pushFrame_within,
      State.setExit_within, within_ite, h, implies_true, withinO_next]

theorem execNormalEntry_within {K : Mask} {s0 s : State} [Allowed K.regs] [Allowed K.mem] [Allowed K.out] [Allowed K.mace] [Allowed K.irq]
    [Allowed K.host] (h : Within K s0 s) (c : Fin 2) : WithinO K s0 (execNormalEntry c s) := by
  unfold execNormalEntry
  split <;> simp +contextual (maxDischargeDepth := 100) only [State.doIf_within, State.enterNormal_within, State.pushFrame_within, within_ite, h,
      implies_true, withinO_next]

theorem execNormalExit_within {K : Mask} {s0 s : State} [Allowed K.regs] [Allowed K.mace] [Allowed K.irq] (h : Within K s0 s) (c : Fin 2) :
    WithinO K s0 (execNormalExit c s) := by
  simp +contextual (maxDischargeDepth := 100) only [execNormalExit, State.popFrame_within, State.setExit_within, within_ite, h, withinO_next]

theorem State.showGood_within {K : Mask} {s0 s : State} [Allowed K.regs] (h : Within K s0 s) (c : Nat) : Within K s0 (State.showGood s c) := by
  simp +contextual (maxDischargeDepth := 100) only [State.showGood, State.fput_within, State.raiseIf_within, h]

theorem State.setRole_within {K : Mask} {s0 s : State} [Allowed K.regs] (h : Within K s0 s) (c r : Nat) : Within K s0 (State.setRole s c r) := by
  simp +contextual (maxDischargeDepth := 100) only [State.setRole, State.fput_within, State.showGood_within, h]

theorem State.loadLease_within {K : Mask} {s0 s : State} [Allowed K.regs] (h : Within K s0 s) : Within K s0 (State.loadLease s) := by
  simp +contextual (maxDischargeDepth := 100) only [State.loadLease, State.wrN_within, h]

theorem State.giveLease_within {K : Mask} {s0 s : State} [Allowed K.regs] [Allowed K.out] [Allowed K.irq] [Allowed K.host] (h : Within K s0 s)
    (c : Nat) : Within K s0 (State.giveLease s c) := by
  simp +contextual (maxDischargeDepth := 100) only [State.giveLease, State.becomeIdle_within, State.doIf_within, State.fput_within,
      State.loadLease_within, State.setRole_within, State.wrN_within, h, implies_true]

theorem State.vacate_within {K : Mask} {s0 s : State} [Allowed K.regs] (h : Within K s0 s) : Within K s0 (State.vacate s) := by
  simp +contextual (maxDischargeDepth := 100) only [State.vacate, State.clr_within, State.fput_within, State.wrN_within, h]

theorem State.resetCur_within {K : Mask} {s0 s : State} [Allowed K.regs] [Allowed K.out] [Allowed K.mace] [Allowed K.irq] [Allowed K.host]
    (h : Within K s0 s) (c : Nat) : Within K s0 (State.resetCur s c) := by
  simp +contextual (maxDischargeDepth := 100) only [State.resetCur, State.mpMod_within, State.setExit_within, State.showIdle_within,
      State.wr_within, h]

theorem State.enterHeld_within {K : Mask} {s0 s : State} [Allowed K.regs] [Allowed K.out] [Allowed K.mace] [Allowed K.irq] [Allowed K.host]
    (h : Within K s0 s) (c : Nat) (active : Bool) : Within K s0 (State.enterHeld s c active) := by
  simp +contextual (maxDischargeDepth := 100) only [State.enterHeld, State.fput_within, State.mbStale_within, State.mbVoid_within,
      State.resetCur_within, State.setRole_within, h]

theorem State.enterBoot_within {K : Mask} {s0 s : State} [Allowed K.regs] [Allowed K.out] [Allowed K.mace] [Allowed K.irq] [Allowed K.host]
    (h : Within K s0 s) (c : Nat) (active : Bool) : Within K s0 (State.enterBoot s c active) := by
  simp +contextual (maxDischargeDepth := 100) only [State.enterBoot, State.fput_within, State.mbStale_within, State.mbVoid_within,
      State.resetCur_within, State.setRole_within, h]

theorem State.noteTransfer_within {K : Mask} {s0 s : State} [Allowed K.regs] (h : Within K s0 s) : Within K s0 (State.noteTransfer s) := by
  simp +contextual (maxDischargeDepth := 100) only [State.noteTransfer, State.wr64_within, h]

theorem State.leaveLease_within {K : Mask} {s0 s : State} [Allowed K.regs] [Allowed K.out] [Allowed K.lastOwner] [Allowed K.mace] [Allowed K.irq]
    [Allowed K.host] (h : Within K s0 s) (c : Nat) : Within K s0 (State.leaveLease s c) := by
  simp +contextual (maxDischargeDepth := 100) only [State.leaveLease, State.completeKeys_within, State.count_within, State.enterHeld_within,
      State.giveLease_within, State.noteTransfer_within, State.raiseIf_within, State.raise_within, State.vacate_within, within_mk, kept_refl,
      kept_allowed, within_ite, h]

theorem State.renewBad_within {K : Mask} {s0 s : State} [Allowed K.regs] (h : Within K s0 s) : Within K s0 (State.renewBad s) := by
  simp +contextual (maxDischargeDepth := 100) only [State.renewBad, State.count_within, State.raise_within, h]

theorem execLeaseRenew_within {K : Mask} {s0 s : State} [Allowed K.regs] (h : Within K s0 s) (m : Fin 32) (v : Word) : WithinO K s0
    (execLeaseRenew m v s) := by
  simp +contextual (maxDischargeDepth := 100) only [execLeaseRenew, State.count_within, State.loadLease_within, State.raise_within,
      State.renewBad_within, within_ite, h, withinO_next]

theorem execLeaseClaim_within {K : Mask} {s0 s : State} [Allowed K.regs] [Allowed K.out] [Allowed K.irq] [Allowed K.host] (h : Within K s0 s)
    (m : Fin 32) (v : Word) : WithinO K s0 (execLeaseClaim m v s) := by
  simp +contextual (maxDischargeDepth := 100) only [execLeaseClaim, State.giveLease_within, State.raise_within, State.renewBad_within, within_ite,
      h, withinO_next]

theorem execLeaseExpiry_within {K : Mask} {s0 s : State} [Allowed K.regs] [Allowed K.out] [Allowed K.lastOwner] [Allowed K.mace] [Allowed K.irq]
    [Allowed K.host] (h : Within K s0 s) : WithinO K s0 (execLeaseExpiry s) := by
  unfold execLeaseExpiry
  split <;> simp +contextual (maxDischargeDepth := 100) only [State.leaveLease_within, within_ite, h, withinO_next]

theorem execYield_within {K : Mask} {s0 s : State} [Allowed K.regs] [Allowed K.out] [Allowed K.mace] [Allowed K.irq] [Allowed K.host]
    (h : Within K s0 s) (m : Fin 32) : WithinO K s0 (execYield m s) := by
  simp +contextual (maxDischargeDepth := 100) only [execYield, State.completeKeys_within, State.enterBoot_within, State.giveLease_within,
      State.noteTransfer_within, State.raise_within, within_ite, h, withinO_next]

theorem execCuratorHold_within {K : Mask} {s0 s : State} [Allowed K.regs] [Allowed K.out] [Allowed K.lastOwner] [Allowed K.mace] [Allowed K.irq]
    [Allowed K.host] (h : Within K s0 s) (c : Fin 2) : WithinO K s0 (execCuratorHold c s) := by
  simp +contextual (maxDischargeDepth := 100) only [execCuratorHold, State.completeKeys_within, State.enterHeld_within, State.leaveLease_within,
      within_ite, h, withinO_next]

theorem execCuratorRelease_within {K : Mask} {s0 s : State} [Allowed K.regs] [Allowed K.out] [Allowed K.mace] [Allowed K.irq] [Allowed K.host]
    (h : Within K s0 s) (c : Fin 2) : WithinO K s0 (execCuratorRelease c s) := by
  simp +contextual (maxDischargeDepth := 100) only [execCuratorRelease, State.enterBoot_within, within_ite, h, withinO_next]

theorem execFailoverDone_within {K : Mask} {s0 s : State} [Allowed K.regs] (h : Within K s0 s) (m : Fin 32) : WithinO K s0
    (execFailoverDone m s) := by
  simp +contextual (maxDischargeDepth := 100) only [execFailoverDone, State.fput_within, State.raise_within, within_ite, h, withinO_next]

theorem execFailoverSlow_within {K : Mask} {s0 s : State} [Allowed K.regs] (h : Within K s0 s) : WithinO K s0 (execFailoverSlow s) := by
  simp +contextual (maxDischargeDepth := 100) only [execFailoverSlow, State.raiseIf_within, h, withinO_next]

theorem execHealthWrite_within {K : Mask} {s0 s : State} [Allowed K.regs] [Allowed K.time] (h : Within K s0 s) (m : Fin 32) (c : Fin 2)
    (v : Word) : WithinO K s0 (execHealthWrite m c v s) := by
  simp +contextual (maxDischargeDepth := 100) only [execHealthWrite, State.clr_within, State.setRole_within, State.showGood_within,
      State.wr_within, within_mk, kept_refl, kept_allowed, within_ite, h, withinO_next]

theorem execHealthBad_within {K : Mask} {s0 s : State} [Allowed K.regs] (h : Within K s0 s) (c : Fin 2) : WithinO K s0 (execHealthBad c s) := by
  simp +contextual (maxDischargeDepth := 100) only [execHealthBad, State.showGood_within, within_ite, h, withinO_next]

theorem State.ageTick_within {K : Mask} {s0 s : State} [Allowed K.regs] [Allowed K.time] (h : Within K s0 s) (c : Nat) : Within K s0
    (State.ageTick s c) := by
  simp +contextual (maxDischargeDepth := 100) only [State.ageTick, State.wrN_within, within_mk, kept_refl, kept_allowed, within_ite, h]

theorem State.coreTick_within {K : Mask} {s0 s : State} [Allowed K.regs] [Allowed K.time] (h : Within K s0 s) : Within K s0 (State.coreTick s) := by
  simp +contextual (maxDischargeDepth := 100) only [State.coreTick, State.ageTick_within, State.wrN_within, within_mk, kept_refl, kept_allowed,
      within_ite, h]

theorem execTcmUe_within {K : Mask} {s0 s : State} [Allowed K.regs] [Allowed K.out] [Allowed K.lastOwner] [Allowed K.mace] [Allowed K.irq]
    [Allowed K.host] (h : Within K s0 s) (c : Fin 2) : WithinO K s0 (execTcmUe c s) := by
  simp +contextual (maxDischargeDepth := 100) only [execTcmUe, State.leaveLease_within, State.raise_within, State.showGood_within, within_ite, h,
      withinO_next]

theorem execCkptWrite_within {K : Mask} {s0 s : State} [Allowed K.regs] (h : Within K s0 s) (m : Fin 32) (v : Word) : WithinO K s0
    (execCkptWrite m v s) := by
  simp +contextual (maxDischargeDepth := 100) only [execCkptWrite, State.wr_within, within_ite, h, withinO_next]

theorem State.showClove_within {K : Mask} {s0 s : State} [Allowed K.regs] (h : Within K s0 s) (e : Nat) : Within K s0 (State.showClove s e) := by
  simp +contextual (maxDischargeDepth := 100) only [State.showClove, State.fput_within, h]

theorem State.cloveOff_within {K : Mask} {s0 s : State} [Allowed K.regs] [Allowed K.mace] (h : Within K s0 s) (e : Nat) : Within K s0
    (State.cloveOff s e) := by
  simp +contextual (maxDischargeDepth := 100) only [State.cloveOff, State.fput_within, State.mbResetX_within, State.mpMod_within,
      State.showClove_within, h]

theorem State.cloveStart_within {K : Mask} {s0 s : State} [Allowed K.regs] [Allowed K.mace] (h : Within K s0 s) (e si : Nat) : Within K s0
    (State.cloveStart s e si) := by
  simp +contextual (maxDischargeDepth := 100) only [State.cloveStart, State.fput_within, State.mpMod_within, State.showClove_within, h]

theorem State.cloveStop_within {K : Mask} {s0 s : State} [Allowed K.regs] [Allowed K.mace] (h : Within K s0 s) (e st : Nat) : Within K s0
    (State.cloveStop s e st) := by
  simp +contextual (maxDischargeDepth := 100) only [State.cloveStop, State.fput_within, State.mpMod_within, State.raise_within,
      State.showClove_within, State.wr_within, h]

theorem State.countCycles_within {K : Mask} {s0 s : State} [Allowed K.regs] [Allowed K.time] (h : Within K s0 s) (e k n : Nat) : Within K s0
    (State.countCycles s e k n) := by
  simp +contextual (maxDischargeDepth := 100) only [State.countCycles, State.countBy_within, within_mk, kept_refl, kept_allowed, h]

theorem State.cloveTick_within {K : Mask} {s0 s : State} [Allowed K.regs] [Allowed K.time] (h : Within K s0 s) : Within K s0
    (State.cloveTick s) := by
  simp +contextual (maxDischargeDepth := 100) only [State.cloveTick, State.countCycles_within, State.doIf_within, State.forEach_within,
      within_ite, h, implies_true]

theorem State.cloveLoad_within {K : Mask} {s0 s : State} [Allowed K.regs] [Allowed K.mem] (h : Within K s0 s) (e : Nat)
    (is : List (Nat × Nat × List Byte)) : Within K s0 (State.cloveLoad s e is) := by
  unfold State.cloveLoad
  split <;> simp +contextual (maxDischargeDepth := 100) only [State.forEach_within, State.fput_within, State.raise_within, State.stBytes_within,
      State.wrN_within, within_mk, kept_refl, kept_allowed, h, implies_true]

theorem State.cloveRenew_within {K : Mask} {s0 s : State} [Allowed K.regs] [Allowed K.mem] [Allowed K.mace] (h : Within K s0 s) (e : Nat)
    (is : List (Nat × Nat × List Byte)) : Within K s0 (State.cloveRenew s e is) := by
  simp +contextual (maxDischargeDepth := 100) only [State.cloveRenew, State.cloveLoad_within, State.cloveOff_within, State.fput_within,
      State.mpMod_within, State.raise_within, within_ite, h]

theorem State.cloveReload_within {K : Mask} {s0 s : State} [Allowed K.regs] [Allowed K.mem] [Allowed K.mace] (h : Within K s0 s)
    (old new : List Byte) (aOld aNew : Nat) : Within K s0 (State.cloveReload s old new aOld aNew) := by
  simp +contextual (maxDischargeDepth := 100) only [State.cloveReload, State.cloveRenew_within, State.forEach_within, h, implies_true]

theorem State.cloveMovesDone_within {K : Mask} {s0 s : State} [Allowed K.regs] [Allowed K.mem] [Allowed K.mace] (h : Within K s0 s) (e : Nat) :
    Within K s0 (State.cloveMovesDone s e) := by
  simp +contextual (maxDischargeDepth := 100) only [State.cloveMovesDone, State.cloveOff_within, State.cloveRenew_within, within_ite, h]

theorem State.cloveLoaded_within {K : Mask} {s0 s : State} [Allowed K.regs] [Allowed K.mace] (h : Within K s0 s) (x : Nat) : Within K s0
    (State.cloveLoaded s x) := by
  simp +contextual (maxDischargeDepth := 100) only [State.cloveLoaded, State.cloveStart_within, State.forEach_within, State.fput_within, h,
      implies_true]

theorem execCloveRun_within {K : Mask} {s0 s : State} [Allowed K.regs] [Allowed K.mace] (h : Within K s0 s) (e : Fin 16) : WithinO K s0
    (execCloveRun e s) := by
  unfold execCloveRun
  repeat' split
  all_goals simp +contextual (maxDischargeDepth := 100) only [State.cloveStart_within, State.fput_within, State.showClove_within, h, withinO_next]

theorem execCloveHalt_within {K : Mask} {s0 s : State} [Allowed K.regs] [Allowed K.mace] (h : Within K s0 s) (e : Fin 16) : WithinO K s0
    (execCloveHalt e s) := by
  simp +contextual (maxDischargeDepth := 100) only [execCloveHalt, State.cloveStop_within, within_ite, h, withinO_next]

theorem execCloveReset_within {K : Mask} {s0 s : State} [Allowed K.regs] [Allowed K.mace] (h : Within K s0 s) (e : Fin 16) : WithinO K s0
    (execCloveReset e s) := by
  simp +contextual (maxDischargeDepth := 100) only [execCloveReset, State.cloveOff_within, State.mpMod_within, State.raise_within, within_ite, h,
      withinO_next]

theorem execKick_within {K : Mask} {s0 s : State} [Allowed K.mace] (h : Within K s0 s) (e : Fin 16) : WithinO K s0 (execKick e s) := by
  simp +contextual (maxDischargeDepth := 100) only [execKick, State.mpMod_within, within_ite, h, withinO_next]

theorem State.snapRequest_within {K : Mask} {s0 s : State} [Allowed K.regs] [Allowed K.snap] (h : Within K s0 s) (req : Nat) (fromChain : Bool) :
    Within K s0 (State.snapRequest s req fromChain).1 := by
  simp +contextual (maxDischargeDepth := 100) only [State.snapRequest, State.fput_within, State.raise_within, State.wr64_within, within_mk,
      kept_refl, kept_allowed, h, within_ite1]

theorem execSnapshotRequest_within {K : Mask} {s0 s : State} [Allowed K.regs] [Allowed K.snap] (h : Within K s0 s) (next : Bool) : WithinO K s0
    (execSnapshotRequest next s) := by
  simp +contextual (maxDischargeDepth := 100) only [execSnapshotRequest, State.fput_within, State.snapRequest_within, h, withinO_next]

end Sys2Proof.Machine
end

