-- ==== Sys2Proof/Laws/WithinTime.lean ====
section
/-!
SUPPORT. Laws/WithinTime.lean: which fields of the state each operation and meaning may change, for time, its ticks, the chain and the lane ports: one
lemma each, named after it, which asks that the mask have those fields.
-/
namespace Sys2Proof.Machine

theorem squelchNote_within {K : Mask} [Allowed K.regs] [Allowed K.time] {s0 s1 : State} (s : State) (h : Within K s0 s1) : Within K s0
    (squelchNote s s1) := by
  simp only [squelchNote, State.raiseIf_within, within_mk, kept_refl, kept_allowed, h]

theorem State.setIncr_within {K : Mask} {s0 s : State} [Allowed K.regs] (h : Within K s0 s) (e : Int) : Within K s0 (State.setIncr s e) := by
  simp +contextual (maxDischargeDepth := 100) only [State.setIncr, State.wrN_within, h]

theorem State.slewStop_within {K : Mask} {s0 s : State} [Allowed K.regs] [Allowed K.time] (h : Within K s0 s) : Within K s0 (State.slewStop s) := by
  simp +contextual (maxDischargeDepth := 100) only [State.slewStop, State.fput_within, State.setIncr_within, within_mk, kept_refl, kept_allowed, h]

theorem State.slewStart_within {K : Mask} {s0 s : State} [Allowed K.regs] [Allowed K.time] (h : Within K s0 s) (off : Int) : Within K s0
    (State.slewStart s off) := by
  simp +contextual (maxDischargeDepth := 100) only [State.slewStart, State.fput_within, State.raiseIf_within, State.setIncr_within,
      State.slewStop_within, within_mk, kept_refl, kept_allowed, within_ite, h]

theorem State.steer_within {K : Mask} {s0 s : State} [Allowed K.regs] [Allowed K.fresh] [Allowed K.time] (h : Within K s0 s) : Within K s0
    (State.steer s) := by
  simp +contextual (maxDischargeDepth := 100) only [State.steer, State.raiseIf_within, within_mk, kept_refl, kept_allowed, h]

theorem State.timeState_within {K : Mask} {s0 s : State} [Allowed K.regs] [Allowed K.time] (h : Within K s0 s) (st : Nat) : Within K s0
    (State.timeState s st) := by
  simp +contextual (maxDischargeDepth := 100) only [State.timeState, State.fput_within, State.noteQuality_within, State.raiseIf_within,
      squelchNote_within, h]

theorem State.showSources_within {K : Mask} {s0 s : State} [Allowed K.regs] (h : Within K s0 s) : Within K s0 (State.showSources s) := by
  simp +contextual (maxDischargeDepth := 100) only [State.showSources, State.forEach_within, State.fput_within, h, implies_true]

theorem State.activate_within {K : Mask} {s0 s : State} [Allowed K.regs] (h : Within K s0 s) (n : Nat) : Within K s0 (State.activate s n) := by
  simp +contextual (maxDischargeDepth := 100) only [State.activate, State.fput_within, State.raiseIf_within, h]

theorem State.acqStart_within {K : Mask} {s0 s : State} [Allowed K.regs] [Allowed K.time] (h : Within K s0 s) : Within K s0 (State.acqStart s) := by
  simp +contextual (maxDischargeDepth := 100) only [State.acqStart, State.slewStop_within, within_mk, kept_refl, kept_allowed, h]

theorem State.enterFreeRun_within {K : Mask} {s0 s : State} [Allowed K.regs] [Allowed K.time] (h : Within K s0 s) : Within K s0
    (State.enterFreeRun s) := by
  simp +contextual (maxDischargeDepth := 100) only [State.enterFreeRun, State.slewStop_within, State.timeState_within, within_mk, kept_refl,
      kept_allowed, h]

theorem State.enterHoldover_within {K : Mask} {s0 s : State} [Allowed K.regs] [Allowed K.fresh] [Allowed K.time] (h : Within K s0 s) : Within K s0
    (State.enterHoldover s) := by
  simp +contextual (maxDischargeDepth := 100) only [State.enterHoldover, State.clr_within, State.slewStop_within, State.timeState_within,
      within_mk, kept_refl, kept_allowed, h]

theorem State.enterLocked_within {K : Mask} {s0 s : State} [Allowed K.regs] [Allowed K.time] (h : Within K s0 s) : Within K s0
    (State.enterLocked s) := by
  simp +contextual (maxDischargeDepth := 100) only [State.enterLocked, State.clr_within, State.timeState_within, within_mk, kept_refl,
      kept_allowed, h]

theorem State.trySwitch_within {K : Mask} {s0 s : State} [Allowed K.regs] [Allowed K.fresh] [Allowed K.time] (h : Within K s0 s) (c : Nat) :
    Within K s0 (State.trySwitch s c) := by
  simp +contextual (maxDischargeDepth := 100) only [State.trySwitch, State.activate_within, State.enterHoldover_within, State.enterLocked_within,
      State.noteQuality_within, State.raise_within, State.slewStart_within, within_mk, kept_refl, kept_allowed, within_ite, h]

theorem State.reselect_within {K : Mask} {s0 s : State} [Allowed K.regs] [Allowed K.fresh] [Allowed K.time] (h : Within K s0 s) (revert : Bool) :
    Within K s0 (State.reselect s revert) := by
  unfold State.reselect
  repeat' split
  all_goals simp +contextual (maxDischargeDepth := 100) only [State.acqStart_within, State.activate_within, State.enterHoldover_within,
      State.showSources_within, State.timeState_within, State.trySwitch_within, within_mk, kept_refl, kept_allowed, within_ite, h]

theorem State.showChainTime_within {K : Mask} {s0 s : State} [Allowed K.regs] (h : Within K s0 s) : Within K s0 (State.showChainTime s) := by
  simp +contextual (maxDischargeDepth := 100) only [State.showChainTime, State.fput_within, within_ite, h]

theorem State.disqualify_within {K : Mask} {s0 s : State} [Allowed K.regs] [Allowed K.fresh] [Allowed K.time] (h : Within K s0 s) (n : Nat)
    (los : Bool) : Within K s0 (State.disqualify s n los) := by
  simp +contextual (maxDischargeDepth := 100) only [State.disqualify, State.fput_within, State.raiseIf_within, State.reselect_within,
      State.showChainTime_within, within_mk, kept_refl, kept_allowed, within_ite, h]

theorem State.lose_within {K : Mask} {s0 s : State} [Allowed K.regs] [Allowed K.fresh] [Allowed K.time] (h : Within K s0 s) (n : Nat) :
    Within K s0 (State.lose s n) := by
  simp +contextual (maxDischargeDepth := 100) only [State.lose, State.disqualify_within, within_ite, h]

theorem State.showOffset_within {K : Mask} {s0 s : State} [Allowed K.regs] [Allowed K.fresh] (h : Within K s0 s) (n : Nat) (off : Int) :
    Within K s0 (State.showOffset s n off) := by
  simp +contextual (maxDischargeDepth := 100) only [State.showOffset, State.wrN_within, State.wr_within, within_mk, kept_refl, kept_allowed,
      within_ite, h]

theorem State.takeHit_within {K : Mask} {s0 s : State} [Allowed K.regs] [Allowed K.fresh] [Allowed K.time] (h : Within K s0 s) (n : Nat) :
    Within K s0 (State.takeHit s n) := by
  simp +contextual (maxDischargeDepth := 100) only [State.takeHit, State.disqualify_within, State.fput_within, within_ite, h]

theorem State.acqStep_within {K : Mask} {s0 s : State} [Allowed K.regs] [Allowed K.time] (h : Within K s0 s) (n : Nat) (off edge : Int) :
    Within K s0 (State.acqStep s n off edge) := by
  simp +contextual (maxDischargeDepth := 100) only [State.acqStep, State.fput_within, State.raise_within, within_mk, kept_refl, kept_allowed,
      within_ite, h]

theorem State.stepTick_within {K : Mask} {s0 s : State} [Allowed K.regs] [Allowed K.time] (h : Within K s0 s) : Within K s0 (State.stepTick s) := by
  unfold State.stepTick
  split <;> simp +contextual (maxDischargeDepth := 100) only [State.noteQuality_within, State.raise_within, within_mk, kept_refl, kept_allowed, h]

theorem State.activeSample_within {K : Mask} {s0 s : State} [Allowed K.regs] [Allowed K.fresh] [Allowed K.time] (h : Within K s0 s) (n : Nat)
    (off edge : Int) : Within K s0 (State.activeSample s n off edge) := by
  unfold State.activeSample
  split <;> simp +contextual (maxDischargeDepth := 100) only [State.acqStep_within, State.enterLocked_within, State.steer_within, within_mk,
      kept_refl, kept_allowed, within_ite, h]

theorem State.offsetSample_within {K : Mask} {s0 s : State} [Allowed K.regs] [Allowed K.fresh] [Allowed K.time] (h : Within K s0 s) (n : Nat)
    (off edge : Int) : Within K s0 (State.offsetSample s n off edge) := by
  simp +contextual (maxDischargeDepth := 100) only [State.offsetSample, State.activeSample_within, State.fput_within, State.showOffset_within,
      State.takeHit_within, within_mk, kept_refl, kept_allowed, within_ite, h]

theorem execTimeNowRead_within {K : Mask} {s0 s : State} [Allowed K.regs] [Allowed K.out] (h : Within K s0 s) : WithinO K s0
    (execTimeNowRead s) := by
  simp +contextual (maxDischargeDepth := 100) only [execTimeNowRead, State.emit_within, State.wrN_within, h, withinO_next]

theorem execSiNowRead_within {K : Mask} {s0 s : State} [Allowed K.regs] [Allowed K.out] (h : Within K s0 s) : WithinO K s0 (execSiNowRead s) := by
  simp +contextual (maxDischargeDepth := 100) only [execSiNowRead, State.emit_within, State.wr64_within, h, withinO_next]

theorem execSiExpectRead_within {K : Mask} {s0 s : State} [Allowed K.regs] [Allowed K.out] (h : Within K s0 s) : WithinO K s0
    (execSiExpectRead s) := by
  simp +contextual (maxDischargeDepth := 100) only [execSiExpectRead, State.emit_within, State.wr64_within, h, withinO_next]

theorem State.slewDone_within {K : Mask} {s0 s : State} [Allowed K.regs] [Allowed K.time] (h : Within K s0 s) : Within K s0 (State.slewDone s) := by
  simp +contextual (maxDischargeDepth := 100) only [State.slewDone, State.noteQuality_within, State.slewStop_within, within_ite, h]

theorem execSlewEnd_within {K : Mask} {s0 s : State} [Allowed K.regs] [Allowed K.time] (h : Within K s0 s) : WithinO K s0 (execSlewEnd s) := by
  simp +contextual (maxDischargeDepth := 100) only [execSlewEnd, State.slewDone_within, h, withinO_next]

theorem execReacquire_within {K : Mask} {s0 s : State} [Allowed K.regs] [Allowed K.time] (h : Within K s0 s) : WithinO K s0 (execReacquire s) := by
  unfold execReacquire
  split <;> simp +contextual (maxDischargeDepth := 100) only [State.acqStart_within, State.activate_within, State.clr_within, State.fput_within,
      State.showSources_within, State.timeState_within, h, withinO_next]

theorem execNextSecWrite_within {K : Mask} {s0 s : State} [Allowed K.regs] (h : Within K s0 s) (v : Word) : WithinO K s0
    (execNextSecWrite v s) := by
  simp +contextual (maxDischargeDepth := 100) only [execNextSecWrite, State.fput_within, State.wr_within, h, withinO_next]

theorem execPpsEdge_within {K : Mask} {s0 s : State} [Allowed K.regs] [Allowed K.out] [Allowed K.fresh] [Allowed K.time] (h : Within K s0 s)
    (n : Fin 2) (e : PpsEdge) : WithinO K s0 (execPpsEdge n e s) := by
  simp +contextual (maxDischargeDepth := 100) only [execPpsEdge, State.emit_within, State.offsetSample_within, within_ite, h, withinO_next]

theorem execVrefOffset_within {K : Mask} {s0 s : State} [Allowed K.regs] [Allowed K.fresh] [Allowed K.time] (h : Within K s0 s) (v : Word) :
    WithinO K s0 (execVrefOffset v s) := by
  simp +contextual (maxDischargeDepth := 100) only [execVrefOffset, State.offsetSample_within, h, withinO_next]

theorem execSourceClockLoss_within {K : Mask} {s0 s : State} [Allowed K.regs] [Allowed K.fresh] [Allowed K.time] (h : Within K s0 s) (n : Fin 2) :
    WithinO K s0 (execSourceClockLoss n s) := by
  simp +contextual (maxDischargeDepth := 100) only [execSourceClockLoss, State.lose_within, h, withinO_next]

theorem execPpsTimeout_within {K : Mask} {s0 s : State} [Allowed K.regs] [Allowed K.fresh] [Allowed K.time] (h : Within K s0 s) (n : Fin 2) :
    WithinO K s0 (execPpsTimeout n s) := by
  simp +contextual (maxDischargeDepth := 100) only [execPpsTimeout, State.lose_within, h, withinO_next]

theorem execVrefTimeout_within {K : Mask} {s0 s : State} [Allowed K.regs] [Allowed K.fresh] [Allowed K.time] (h : Within K s0 s) (n : Fin 2) :
    WithinO K s0 (execVrefTimeout n s) := by
  simp +contextual (maxDischargeDepth := 100) only [execVrefTimeout, State.lose_within, h, withinO_next]

theorem execQualGain_within {K : Mask} {s0 s : State} [Allowed K.regs] [Allowed K.fresh] [Allowed K.time] (h : Within K s0 s) (n : Fin 4) :
    WithinO K s0 (execQualGain n s) := by
  simp +contextual (maxDischargeDepth := 100) only [execQualGain, State.fput_within, State.raise_within, State.reselect_within,
      State.showChainTime_within, within_ite, h, withinO_next]

theorem execQualWindowEnd_within {K : Mask} {s0 s : State} [Allowed K.regs] (h : Within K s0 s) (n : Fin 4) : WithinO K s0
    (execQualWindowEnd n s) := by
  simp +contextual (maxDischargeDepth := 100) only [execQualWindowEnd, State.fput_within, h, withinO_next]

theorem execRevertWait_within {K : Mask} {s0 s : State} [Allowed K.regs] [Allowed K.fresh] [Allowed K.time] (h : Within K s0 s) : WithinO K s0
    (execRevertWait s) := by
  unfold execRevertWait
  split <;> simp +contextual (maxDischargeDepth := 100) only [State.reselect_within, within_ite, h, withinO_next]

theorem execFrequencyLockHeld_within {K : Mask} {s0 s : State} [Allowed K.time] (h : Within K s0 s) : WithinO K s0 (execFrequencyLockHeld s) := by
  simp +contextual (maxDischargeDepth := 100) only [execFrequencyLockHeld, within_mk, kept_refl, kept_allowed, within_ite, h, withinO_next]

theorem execAcqTimeout_within {K : Mask} {s0 s : State} [Allowed K.regs] [Allowed K.time] (h : Within K s0 s) : WithinO K s0
    (execAcqTimeout s) := by
  unfold execAcqTimeout
  repeat' split
  all_goals simp +contextual (maxDischargeDepth := 100) only [State.acqStart_within, State.activate_within, State.enterFreeRun_within,
      State.fput_within, State.noteQuality_within, State.raise_within, State.showSources_within, h, withinO_next]

theorem execHoldLimit_within {K : Mask} {s0 s : State} [Allowed K.regs] [Allowed K.time] (h : Within K s0 s) : WithinO K s0 (execHoldLimit s) := by
  simp +contextual (maxDischargeDepth := 100) only [execHoldLimit, State.raise_within, State.timeState_within, within_ite, h, withinO_next]

theorem execPpsOutRise_within {K : Mask} {s0 s : State} [Allowed K.out] [Allowed K.time] (h : Within K s0 s) : WithinO K s0 (execPpsOutRise s) := by
  simp +contextual (maxDischargeDepth := 100) only [execPpsOutRise, State.emit_within, within_mk, kept_refl, kept_allowed, within_ite, h,
      withinO_next]

theorem execPpsOutFall_within {K : Mask} {s0 s : State} [Allowed K.time] (h : Within K s0 s) : WithinO K s0 (execPpsOutFall s) := by
  simp +contextual (maxDischargeDepth := 100) only [execPpsOutFall, within_mk, kept_refl, kept_allowed, within_ite, h, withinO_next]

theorem idleTick_within {K : Mask} {s0 s : State} [Allowed K.regs] [Allowed K.time] (h : Within K s0 s) : Within K s0 (idleTick s) := by
  simp +contextual (maxDischargeDepth := 100) only [idleTick, State.cloveTick_within, State.coreTick_within, State.count_within,
      State.slewDone_within, State.stepTick_within, within_mk, kept_refl, kept_allowed, within_ite, h]

theorem State.judgeChainTime_within {K : Mask} {s0 s : State} [Allowed K.regs] [Allowed K.chain] (h : Within K s0 s) : Within K s0
    (State.judgeChainTime s) := by
  simp +contextual (maxDischargeDepth := 100) only [State.judgeChainTime, State.chMod_within, State.fput_within, State.raise_within, within_ite, h]

theorem execChainOffset_within {K : Mask} {s0 s : State} [Allowed K.regs] [Allowed K.fresh] [Allowed K.time] [Allowed K.chain] (h : Within K s0 s)
    (v : Word) : WithinO K s0 (execChainOffset v s) := by
  simp +contextual (maxDischargeDepth := 100) only [execChainOffset, State.judgeChainTime_within, State.offsetSample_within, State.wr_within, h,
      withinO_next]

theorem State.stamp_within {K : Mask} {s0 s : State} [Allowed K.regs] [Allowed K.out] (h : Within K s0 s) (n exchange pos : Nat) : Within K s0
    (State.stamp s n exchange pos) := by
  simp +contextual (maxDischargeDepth := 100) only [State.stamp, State.count_within, State.doIf_within, State.emit_within, State.wrN_within, h,
      implies_true]

theorem State.showRxq_within {K : Mask} {s0 s : State} [Allowed K.regs] (h : Within K s0 s) : Within K s0 (State.showRxq s) := by
  simp +contextual (maxDischargeDepth := 100) only [State.showRxq, State.forEach_within, State.fput_within, State.wrN_within, h, implies_true]

theorem State.queueRx_within {K : Mask} {s0 s : State} [Allowed K.regs] [Allowed K.chain] (h : Within K s0 s) (p : Nat) (m : Msg) : Within K s0
    (State.queueRx s p m) := by
  simp +contextual (maxDischargeDepth := 100) only [State.queueRx, State.chMod_within, State.doIf_within, State.showRxq_within, h, implies_true]

theorem execSync_within {K : Mask} {s0 s : State} [Allowed K.regs] [Allowed K.out] [Allowed K.chain] (h : Within K s0 s) (pos : Fin 4)
    (b : List Byte) : WithinO K s0 (execSync pos b s) := by
  simp +contextual (maxDischargeDepth := 100) only [execSync, State.queueRx_within, State.stamp_within, State.takeMsg_within, h, implies_true,
      withinO_next]

theorem execSyncFu_within {K : Mask} {s0 s : State} [Allowed K.regs] [Allowed K.chain] (h : Within K s0 s) (b : List Byte) : WithinO K s0
    (execSyncFu b s) := by
  simp +contextual (maxDischargeDepth := 100) only [execSyncFu, State.queueRx_within, State.takeMsg_within, h, implies_true, withinO_next]

theorem execDreq_within {K : Mask} {s0 s : State} [Allowed K.regs] [Allowed K.out] [Allowed K.chain] (h : Within K s0 s) (pos : Fin 4)
    (b : List Byte) : WithinO K s0 (execDreq pos b s) := by
  simp +contextual (maxDischargeDepth := 100) only [execDreq, State.queueRx_within, State.stamp_within, State.takeMsg_within, h, implies_true,
      withinO_next]

theorem execDresp_within {K : Mask} {s0 s : State} [Allowed K.regs] [Allowed K.chain] (h : Within K s0 s) (b : List Byte) : WithinO K s0
    (execDresp b s) := by
  simp +contextual (maxDischargeDepth := 100) only [execDresp, State.queueRx_within, State.takeMsg_within, h, implies_true, withinO_next]

theorem execRxqPop_within {K : Mask} {s0 s : State} [Allowed K.regs] [Allowed K.chain] (h : Within K s0 s) : WithinO K s0 (execRxqPop s) := by
  simp +contextual (maxDischargeDepth := 100) only [execRxqPop, State.chMod_within, State.showRxq_within, h, withinO_next]

theorem State.txLeave_within {K : Mask} {s0 s : State} [Allowed K.regs] [Allowed K.out] [Allowed K.lanes] [Allowed K.chain] (h : Within K s0 s)
    (p : Nat) (b : List Byte) : Within K s0 (State.txLeave s p b) := by
  simp +contextual (maxDischargeDepth := 100) only [State.txLeave, State.chMod_within, State.fput_within, State.putMsg_within, within_ite, h]

theorem execTxqSend_within {K : Mask} {s0 s : State} [Allowed K.regs] [Allowed K.out] [Allowed K.lanes] [Allowed K.chain] (h : Within K s0 s)
    (p : Fin 2) : WithinO K s0 (execTxqSend p s) := by
  simp +contextual (maxDischargeDepth := 100) only [execTxqSend, State.chMod_within, State.fput_within, State.txLeave_within, within_ite, h,
      withinO_next]

theorem execStampSend_within {K : Mask} {s0 s : State} [Allowed K.regs] [Allowed K.out] [Allowed K.lanes] [Allowed K.chain] (h : Within K s0 s)
    (pos : Fin 4) : WithinO K s0 (execStampSend pos s) := by
  unfold execStampSend
  split <;> simp +contextual (maxDischargeDepth := 100) only [State.stamp_within, State.txLeave_within, within_ite, h, withinO_next]

theorem State.sendEnumEnd_within {K : Mask} {s0 s : State} [Allowed K.out] [Allowed K.fresh] [Allowed K.lanes] (h : Within K s0 s)
    (count mask cause : Nat) : Within K s0 (State.sendEnumEnd s count mask cause) := by
  simp +contextual (maxDischargeDepth := 100) only [State.sendEnumEnd, State.sendTo_within, h]

theorem State.sendEnumStop_within {K : Mask} {s0 s : State} [Allowed K.out] [Allowed K.fresh] [Allowed K.lanes] (h : Within K s0 s)
    (mask cause : Nat) : Within K s0 (State.sendEnumStop s mask cause) := by
  simp +contextual (maxDischargeDepth := 100) only [State.sendEnumStop, State.sendEnumEnd_within, State.tick1_within, h]

theorem State.recordSweep_within {K : Mask} {s0 s : State} [Allowed K.regs] (h : Within K s0 s) (count cause addr : Nat) : Within K s0
    (State.recordSweep s count cause addr) := by
  simp +contextual (maxDischargeDepth := 100) only [State.recordSweep, State.fput_within, h]

theorem State.startSweep_within {K : Mask} {s0 s : State} [Allowed K.regs] [Allowed K.out] [Allowed K.fresh] [Allowed K.lanes] (h : Within K s0 s)
    (sweep : Nat) : Within K s0 (State.startSweep s sweep) := by
  simp +contextual (maxDischargeDepth := 100) only [State.startSweep, State.fput_within, State.sendLink_within, h]

theorem execChainEnum_within {K : Mask} {s0 s : State} [Allowed K.regs] [Allowed K.out] [Allowed K.fresh] [Allowed K.lanes] (h : Within K s0 s) :
    WithinO K s0 (execChainEnum s) := by
  simp +contextual (maxDischargeDepth := 100) only [execChainEnum, State.startSweep_within, within_ite, h, withinO_next]

theorem execChainForce_within {K : Mask} {s0 s : State} [Allowed K.regs] [Allowed K.out] [Allowed K.fresh] [Allowed K.lanes] (h : Within K s0 s) :
    WithinO K s0 (execChainForce s) := by
  simp +contextual (maxDischargeDepth := 100) only [execChainForce, State.startSweep_within, within_ite, h, withinO_next]

theorem State.takeMask_within {K : Mask} {s0 s : State} [Allowed K.regs] [Allowed K.out] [Allowed K.fresh] [Allowed K.lanes] (h : Within K s0 s)
    (mask : Nat) : Within K s0 (State.takeMask s mask) := by
  simp +contextual (maxDischargeDepth := 100) only [State.takeMask, State.fput_within, State.raiseIf_within, State.sendTo_within, h]

theorem execEnumEnd_within {K : Mask} {s0 s : State} [Allowed K.regs] [Allowed K.out] [Allowed K.fresh] [Allowed K.lanes] (h : Within K s0 s)
    (b : List Byte) : WithinO K s0 (execEnumEnd b s) := by
  simp +contextual (maxDischargeDepth := 100) only [execEnumEnd, State.doIf_within, State.fput_within, State.raise_within,
      State.recordSweep_within, State.startSweep_within, State.takeMask_within, State.takeMsg_within, within_ite, h, implies_true, withinO_next]

theorem execEnumTimeout_within {K : Mask} {s0 s : State} [Allowed K.regs] (h : Within K s0 s) : WithinO K s0 (execEnumTimeout s) := by
  simp +contextual (maxDischargeDepth := 100) only [execEnumTimeout, State.fput_within, State.raise_within, within_ite, h, withinO_next]

theorem State.enumAccept_within {K : Mask} {s0 s : State} [Allowed K.regs] [Allowed K.out] [Allowed K.fresh] [Allowed K.lanes] [Allowed K.chain]
    (h : Within K s0 s) (m : Msg) (next : Nat) : Within K s0 (State.enumAccept s m next) := by
  simp +contextual (maxDischargeDepth := 100) only [State.enumAccept, State.chMod_within, State.forward_within, State.fput_within,
      State.sendEnumEnd_within, State.setAddr_within, State.wrN_within, within_ite, h]

theorem execEnum_within {K : Mask} {s0 s : State} [Allowed K.regs] [Allowed K.out] [Allowed K.fresh] [Allowed K.lanes] [Allowed K.chain]
    (h : Within K s0 s) (b : List Byte) : WithinO K s0 (execEnum b s) := by
  simp +contextual (maxDischargeDepth := 100) only [execEnum, State.checkAddr_within, State.enumAccept_within, State.fput_within,
      State.helloSync_within, State.raiseIf_within, State.raise_within, State.sendEnumStop_within, State.takeMsg_within, within_ite, h,
      implies_true, withinO_next]

theorem execVersionSet_within {K : Mask} {s0 s : State} [Allowed K.regs] [Allowed K.out] [Allowed K.lanes] (h : Within K s0 s) (b : List Byte) :
    WithinO K s0 (execVersionSet b s) := by
  simp +contextual (maxDischargeDepth := 100) only [execVersionSet, State.forward_within, State.fput_within, State.takeMsg_within, within_ite, h,
      implies_true, withinO_next]

theorem execClearAddr_within {K : Mask} {s0 s : State} [Allowed K.regs] [Allowed K.out] [Allowed K.fresh] [Allowed K.lanes] [Allowed K.chain]
    (h : Within K s0 s) : WithinO K s0 (execClearAddr s) := by
  simp +contextual (maxDischargeDepth := 100) only [execClearAddr, State.dropAddr_within, State.helloSync_within, within_ite, h, withinO_next]

theorem State.portEnterUp_within {K : Mask} {s0 s : State} [Allowed K.regs] [Allowed K.out] [Allowed K.fresh] [Allowed K.lanes] [Allowed K.chain]
    (h : Within K s0 s) (p : Nat) : Within K s0 (State.portEnterUp s p) := by
  simp +contextual (maxDischargeDepth := 100) only [State.portEnterUp, State.sendHello_within, State.sendLink_within, State.setPort_within,
      within_ite, h]

theorem State.helloMember_within {K : Mask} {s0 s : State} [Allowed K.regs] [Allowed K.chain] (h : Within K s0 s) (b : List Byte) : Within K s0
    (State.helloMember s b) := by
  simp +contextual (maxDischargeDepth := 100) only [State.helloMember, State.chMod_within, State.dropAddr_within, State.fput_within, within_ite, h]

theorem execHello_within {K : Mask} {s0 s : State} [Allowed K.regs] [Allowed K.out] [Allowed K.fresh] [Allowed K.lanes] [Allowed K.chain]
    (h : Within K s0 s) (p : Fin 2) (b : List Byte) : WithinO K s0 (execHello p b s) := by
  simp +contextual (maxDischargeDepth := 100) only [execHello, State.chMod_within, State.checkAddr_within, State.fput_within,
      State.helloMember_within, State.helloSync_within, State.portEnterUp_within, State.raise_within, State.takeMsg_within, within_ite, h,
      implies_true, withinO_next]

theorem execHelloSend_within {K : Mask} {s0 s : State} [Allowed K.out] [Allowed K.fresh] [Allowed K.lanes] [Allowed K.chain] (h : Within K s0 s)
    (p : Fin 2) : WithinO K s0 (execHelloSend p s) := by
  simp +contextual (maxDischargeDepth := 100) only [execHelloSend, State.sendHello_within, within_ite, h, withinO_next]

theorem State.portHello_within {K : Mask} {s0 s : State} [Allowed K.regs] [Allowed K.out] [Allowed K.lanes] [Allowed K.chain] (h : Within K s0 s)
    (p : Nat) : Within K s0 (State.portHello s p) := by
  simp +contextual (maxDischargeDepth := 100) only [State.portHello, State.chMod_within, State.send_within, State.setPort_within, h]

theorem State.portLost_within {K : Mask} {s0 s : State} [Allowed K.regs] [Allowed K.out] [Allowed K.fresh] [Allowed K.lanes] [Allowed K.time]
    [Allowed K.chain] (h : Within K s0 s) (p to' : Nat) : Within K s0 (State.portLost s p to') := by
  simp +contextual (maxDischargeDepth := 100) only [State.portLost, State.chMod_within, State.count_within, State.fput_within,
      State.helloSync_within, State.lose_within, State.mbLinkLost_within, State.raise_within, State.recordSweep_within, State.sendEnumEnd_within,
      State.setPort_within, within_ite, h]

theorem execForwardedMessage_within {K : Mask} {s0 s : State} [Allowed K.regs] [Allowed K.out] [Allowed K.lanes] (h : Within K s0 s) (p : Fin 2)
    (b : List Byte) : WithinO K s0 (execForwardedMessage p b s) := by
  unfold execForwardedMessage
  repeat' split
  all_goals simp +contextual (maxDischargeDepth := 100) only [State.forward_within, State.msgErr_within, h, withinO_next]

theorem State.setMismatch_within {K : Mask} {s0 s : State} [Allowed K.regs] [Allowed K.accum] [Allowed K.chain] (h : Within K s0 s) (x : Nat)
    (live : List Byte) : Within K s0 (State.setMismatch s x live) := by
  simp +contextual (maxDischargeDepth := 100) only [State.setMismatch, State.accMod_within, State.chMod_within, State.fput_within,
      State.raise_within, State.recordDigest_within, h]

theorem State.actAccede_within {K : Mask} {s0 s : State} [Allowed K.regs] [Allowed K.accum] [Allowed K.cat] [Allowed K.chain] (h : Within K s0 s)
    (b : List Byte) : Within K s0 (State.actAccede s b).1 := by
  simp +contextual (maxDischargeDepth := 100) only [State.actAccede, State.refuse_within, State.requestAcc_within, State.setMismatch_within, h,
      within_ite1]

theorem State.actSnap_within {K : Mask} {s0 s : State} [Allowed K.regs] [Allowed K.snap] (h : Within K s0 s) (b : List Byte) : Within K s0
    (State.actSnap s b).1 := by
  simp +contextual (maxDischargeDepth := 100) only [State.actSnap, State.snapRequest_within, h, within_ite1]

theorem State.actCancel_within {K : Mask} {s0 s : State} [Allowed K.regs] [Allowed K.cat] (h : Within K s0 s) (b : List Byte) : Within K s0
    (State.actCancel s b).1 := by
  simp +contextual (maxDischargeDepth := 100) only [State.actCancel, State.cancelAcc_within, State.raise_within, State.refuse_within, h,
      within_ite1]

theorem State.actCmd_within {K : Mask} {s0 s : State} [Allowed K.regs] [Allowed K.accum] [Allowed K.cat] [Allowed K.chain] [Allowed K.snap]
    (h : Within K s0 s) (typ : Nat) (b : List Byte) : Within K s0 (State.actCmd s typ b).1 := by
  simp +contextual (maxDischargeDepth := 100) only [State.actCmd, State.actAccede_within, State.actCancel_within, State.actSnap_within, h,
      within_ite1]

theorem State.memberCmd_within {K : Mask} {s0 s : State} [Allowed K.regs] [Allowed K.out] [Allowed K.fresh] [Allowed K.lanes] [Allowed K.accum]
    [Allowed K.cat] [Allowed K.chain] [Allowed K.snap] (h : Within K s0 s) (m : Msg) : Within K s0 (State.memberCmd s m) := by
  unfold State.memberCmd
  dsimp only
  repeat' split
  all_goals simp +contextual (maxDischargeDepth := 100) only [State.actCmd_within, State.chMod_within, State.forward_within, State.sendTo_within, h]

theorem execAccede_within {K : Mask} {s0 s : State} [Allowed K.regs] [Allowed K.out] [Allowed K.fresh] [Allowed K.lanes] [Allowed K.accum]
    [Allowed K.cat] [Allowed K.chain] [Allowed K.snap] (h : Within K s0 s) (b : List Byte) : WithinO K s0 (execAccede b s) := by
  simp +contextual (maxDischargeDepth := 100) only [execAccede, State.memberCmd_within, State.takeMsg_within, h, implies_true, withinO_next]

theorem execSnap_within {K : Mask} {s0 s : State} [Allowed K.regs] [Allowed K.out] [Allowed K.fresh] [Allowed K.lanes] [Allowed K.accum]
    [Allowed K.cat] [Allowed K.chain] [Allowed K.snap] (h : Within K s0 s) (b : List Byte) : WithinO K s0 (execSnap b s) := by
  simp +contextual (maxDischargeDepth := 100) only [execSnap, State.memberCmd_within, State.takeMsg_within, h, implies_true, withinO_next]

theorem execChainCancelReceive_within {K : Mask} {s0 s : State} [Allowed K.regs] [Allowed K.out] [Allowed K.fresh] [Allowed K.lanes]
    [Allowed K.accum] [Allowed K.cat] [Allowed K.chain] [Allowed K.snap] (h : Within K s0 s) (b : List Byte) : WithinO K s0
    (execChainCancelReceive b s) := by
  simp +contextual (maxDischargeDepth := 100) only [execChainCancelReceive, State.memberCmd_within, State.takeMsg_within, h, implies_true,
      withinO_next]

theorem State.noteReport_within {K : Mask} {s0 s : State} [Allowed K.regs] (h : Within K s0 s) (a code chain : Nat) : Within K s0
    (State.noteReport s a code chain) := by
  simp +contextual (maxDischargeDepth := 100) only [State.noteReport, State.doIf_within, State.setFlag_within, State.wrN_within, h, implies_true]

theorem State.collectCheck_within {K : Mask} {s0 s : State} [Allowed K.regs] (h : Within K s0 s) : Within K s0 (State.collectCheck s) := by
  simp +contextual (maxDischargeDepth := 100) only [State.collectCheck, State.fput_within, State.raise_within, within_ite, h]

theorem execReport_within {K : Mask} {s0 s : State} [Allowed K.regs] (h : Within K s0 s) (b : List Byte) : WithinO K s0 (execReport b s) := by
  simp +contextual (maxDischargeDepth := 100) only [execReport, State.collectCheck_within, State.noteReport_within, State.takeMsg_within,
      within_ite, h, implies_true, withinO_next]

theorem execCmdTimeout_within {K : Mask} {s0 s : State} [Allowed K.regs] (h : Within K s0 s) : WithinO K s0 (execCmdTimeout s) := by
  simp +contextual (maxDischargeDepth := 100) only [execCmdTimeout, State.fput_within, State.raise_within, within_ite, h, withinO_next]

theorem State.refuseCmd_within {K : Mask} {s0 s : State} [Allowed K.regs] (h : Within K s0 s) (code : Nat) : Within K s0
    (State.refuseCmd s code) := by
  simp +contextual (maxDischargeDepth := 100) only [State.refuseCmd, State.raise_within, State.wrN_within, h]

theorem State.broadcastCmd_within {K : Mask} {s0 s : State} [Allowed K.regs] [Allowed K.out] [Allowed K.lanes] (h : Within K s0 s) (typ seq : Nat)
    (b : List Byte) : Within K s0 (State.broadcastCmd s typ seq b) := by
  simp +contextual (maxDischargeDepth := 100) only [State.broadcastCmd, State.fput_within, State.sendMsg_within, h]

theorem State.headCmd_within {K : Mask} {s0 s : State} [Allowed K.regs] [Allowed K.out] [Allowed K.lanes] [Allowed K.accum] [Allowed K.cat]
    [Allowed K.chain] [Allowed K.snap] (h : Within K s0 s) (typ modes : Nat) (b : List Byte) : Within K s0 (State.headCmd s typ modes b) := by
  simp +contextual (maxDischargeDepth := 100) only [State.headCmd, State.actCmd_within, State.broadcastCmd_within, State.chMod_within,
      State.clr_within, State.collectCheck_within, State.forEach_within, State.fput_within, State.noteReport_within, State.refuseCmd_within,
      State.wrN_within, within_ite, h, implies_true]

theorem execChainAccede_within {K : Mask} {s0 s : State} [Allowed K.regs] [Allowed K.out] [Allowed K.lanes] [Allowed K.accum] [Allowed K.cat]
    [Allowed K.chain] [Allowed K.snap] (h : Within K s0 s) (modes : Byte) : WithinO K s0 (execChainAccede modes s) := by
  simp +contextual (maxDischargeDepth := 100) only [execChainAccede, State.headCmd_within, h, withinO_next]

theorem execChainSnap_within {K : Mask} {s0 s : State} [Allowed K.regs] [Allowed K.out] [Allowed K.lanes] [Allowed K.accum] [Allowed K.cat]
    [Allowed K.chain] [Allowed K.snap] (h : Within K s0 s) (modes : Byte) : WithinO K s0 (execChainSnap modes s) := by
  simp +contextual (maxDischargeDepth := 100) only [execChainSnap, State.headCmd_within, h, withinO_next]

theorem execChainCancel_within {K : Mask} {s0 s : State} [Allowed K.regs] [Allowed K.out] [Allowed K.lanes] [Allowed K.accum] [Allowed K.cat]
    [Allowed K.chain] [Allowed K.snap] (h : Within K s0 s) (modes : Byte) : WithinO K s0 (execChainCancel modes s) := by
  simp +contextual (maxDischargeDepth := 100) only [execChainCancel, State.headCmd_within, h, withinO_next]

theorem execChainRepeat_within {K : Mask} {s0 s : State} [Allowed K.regs] [Allowed K.out] [Allowed K.lanes] (h : Within K s0 s) : WithinO K s0
    (execChainRepeat s) := by
  unfold execChainRepeat
  repeat' split
  all_goals simp +contextual (maxDischargeDepth := 100) only [State.broadcastCmd_within, State.collectCheck_within, State.refuseCmd_within, h,
      withinO_next]

theorem State.portSequenceOut_within {K : Mask} {s0 s : State} [Allowed K.out] [Allowed K.lanes] (h : Within K s0 s) (p : Nat) (tsb : Bool) :
    Within K s0 (State.portSequenceOut s p tsb) := by
  simp +contextual (maxDischargeDepth := 100) only [State.portSequenceOut, State.send_within, h]

theorem State.portTrain_within {K : Mask} {s0 s : State} [Allowed K.regs] [Allowed K.out] [Allowed K.fresh] [Allowed K.lanes] [Allowed K.time]
    [Allowed K.chain] (h : Within K s0 s) (p : Nat) : Within K s0 (State.portTrain s p) := by
  simp +contextual (maxDischargeDepth := 100) only [State.portTrain, State.laneMod_within, State.portLost_within, State.portSequenceOut_within, h]

theorem State.portLock_within {K : Mask} {s0 s : State} [Allowed K.regs] [Allowed K.out] [Allowed K.fresh] [Allowed K.lanes] [Allowed K.time]
    [Allowed K.chain] (h : Within K s0 s) (p : Nat) (keep : Bool) : Within K s0 (State.portLock s p keep) := by
  simp +contextual (maxDischargeDepth := 100) only [State.portLock, State.laneMod_within, State.portLost_within, State.portSequenceOut_within, h]

theorem State.portDetect_within {K : Mask} {s0 s : State} [Allowed K.regs] [Allowed K.out] [Allowed K.fresh] [Allowed K.lanes] [Allowed K.time]
    [Allowed K.chain] (h : Within K s0 s) (p : Nat) : Within K s0 (State.portDetect s p) := by
  simp +contextual (maxDischargeDepth := 100) only [State.portDetect, State.emit_within, State.laneMod_within, State.portLost_within, h]

theorem execHelloTimeout_within {K : Mask} {s0 s : State} [Allowed K.regs] [Allowed K.out] [Allowed K.fresh] [Allowed K.lanes] [Allowed K.time]
    [Allowed K.chain] (h : Within K s0 s) (p : Fin 2) : WithinO K s0 (execHelloTimeout p s) := by
  simp +contextual (maxDischargeDepth := 100) only [execHelloTimeout, State.portTrain_within, within_ite, h, withinO_next]

theorem execChainLinkLoss_within {K : Mask} {s0 s : State} [Allowed K.regs] [Allowed K.out] [Allowed K.fresh] [Allowed K.lanes] [Allowed K.time]
    [Allowed K.chain] (h : Within K s0 s) (p : Fin 2) (to' : Fin 3) : WithinO K s0 (execChainLinkLoss p to' s) := by
  unfold execChainLinkLoss
  repeat' split
  all_goals simp +contextual (maxDischargeDepth := 100) only [State.portDetect_within, State.portLock_within, State.portTrain_within, h,
      withinO_next]

theorem State.portComma_within {K : Mask} {s0 s : State} [Allowed K.lanes] (h : Within K s0 s) (p : Nat) : Within K s0 (State.portComma s p) := by
  simp +contextual (maxDischargeDepth := 100) only [State.portComma, State.laneMod_within, within_ite, h]

theorem State.portInvalid_within {K : Mask} {s0 s : State} [Allowed K.regs] [Allowed K.out] [Allowed K.fresh] [Allowed K.lanes] [Allowed K.time]
    [Allowed K.chain] (h : Within K s0 s) (p len k : Nat) : Within K s0 (State.portInvalid s p len k) := by
  simp +contextual (maxDischargeDepth := 100) only [State.portInvalid, State.laneMod_within, State.portLock_within, within_ite, h]

theorem State.portSequence_within {K : Mask} {s0 s : State} [Allowed K.regs] [Allowed K.out] [Allowed K.fresh] [Allowed K.lanes] [Allowed K.time]
    [Allowed K.chain] (h : Within K s0 s) (p : Nat) (tsb : Bool) (k : Nat) : Within K s0 (State.portSequence s p tsb k) := by
  simp +contextual (maxDischargeDepth := 100) only [State.portSequence, State.laneMod_within, State.portComma_within, State.portHello_within,
      State.portInvalid_within, State.portLock_within, State.portTrain_within, within_ite, h]

theorem State.portGroup_within {K : Mask} {s0 s : State} [Allowed K.regs] [Allowed K.out] [Allowed K.fresh] [Allowed K.lanes] [Allowed K.time]
    [Allowed K.chain] (h : Within K s0 s) (p g : Nat) : Within K s0 (State.portGroup s p g) := by
  simp +contextual (maxDischargeDepth := 100) only [State.portGroup, State.laneMod_within, State.portComma_within, State.portInvalid_within,
      within_ite, h]

theorem State.portOr_within {K : Mask} {s0 : State} {f g : Nat → State} (hf : ∀ p, Within K s0 (f p)) (hg : ∀ p, Within K s0 (g p)) (n : Fin 194) :
    Within K s0 (State.portOr n f g) := by
  unfold State.portOr
  split
  · exact hf _
  · exact hg _

theorem execDetectPulse_within {K : Mask} {s0 s : State} [Allowed K.out] (h : Within K s0 s) (n : Fin 194) : WithinO K s0
    (execDetectPulse n s) := by
  simp +contextual (maxDischargeDepth := 100) only [execDetectPulse, State.emit_within, State.laneDetectPulse_within, State.portOr_within,
      within_ite, h, implies_true, withinO_next]

theorem execDetectExit_within {K : Mask} {s0 s : State} [Allowed K.regs] [Allowed K.out] [Allowed K.fresh] [Allowed K.lanes] [Allowed K.time]
    [Allowed K.chain] (h : Within K s0 s) (n : Fin 194) : WithinO K s0 (execDetectExit n s) := by
  simp +contextual (maxDischargeDepth := 100) only [execDetectExit, State.laneDetectExit_within, State.portOr_within, State.portTrain_within,
      within_ite, h, implies_true, withinO_next]

theorem execTsbSwitch_within {K : Mask} {s0 s : State} [Allowed K.regs] [Allowed K.out] [Allowed K.lanes] (h : Within K s0 s) (n : Fin 194)
    (fom : Byte) : WithinO K s0 (execTsbSwitch n fom s) := by
  simp +contextual (maxDischargeDepth := 100) only [execTsbSwitch, State.laneMod_within, State.laneTsbSwitch_within, State.portOr_within,
      State.portSequenceOut_within, within_ite, h, implies_true, withinO_next]

theorem execTrainDone_within {K : Mask} {s0 s : State} [Allowed K.regs] [Allowed K.out] [Allowed K.fresh] [Allowed K.lanes] [Allowed K.time]
    [Allowed K.chain] (h : Within K s0 s) (n : Fin 194) : WithinO K s0 (execTrainDone n s) := by
  simp +contextual (maxDischargeDepth := 100) only [execTrainDone, State.laneTrainDone_within, State.portLock_within, State.portOr_within,
      within_ite, h, implies_true, withinO_next]

theorem execTrainTimeout_within {K : Mask} {s0 s : State} [Allowed K.regs] [Allowed K.out] [Allowed K.fresh] [Allowed K.lanes] [Allowed K.time]
    [Allowed K.chain] (h : Within K s0 s) (n : Fin 194) : WithinO K s0 (execTrainTimeout n s) := by
  simp +contextual (maxDischargeDepth := 100) only [execTrainTimeout, State.laneTrainTimeout_within, State.portOr_within, State.portTrain_within,
      within_ite, h, implies_true, withinO_next]

theorem execLockTimeout_within {K : Mask} {s0 s : State} [Allowed K.regs] [Allowed K.out] [Allowed K.fresh] [Allowed K.lanes] [Allowed K.time]
    [Allowed K.chain] (h : Within K s0 s) (n : Fin 194) : WithinO K s0 (execLockTimeout n s) := by
  simp +contextual (maxDischargeDepth := 100) only [execLockTimeout, State.laneLockTimeout_within, State.portOr_within, State.portTrain_within,
      within_ite, h, implies_true, withinO_next]

theorem execTrainingSequence_within {K : Mask} {s0 s : State} [Allowed K.regs] [Allowed K.out] [Allowed K.fresh] [Allowed K.lanes]
    [Allowed K.time] [Allowed K.chain] (h : Within K s0 s) (n : Fin 194) (tsb : Bool) (b : SequenceBody) : WithinO K s0
    (execTrainingSequence n tsb b s) := by
  simp +contextual (maxDischargeDepth := 100) only [execTrainingSequence, State.laneTrainingSequence_within, State.portOr_within,
      State.portSequence_within, h, implies_true, withinO_next]

theorem execCharacterReceive_within {K : Mask} {s0 s : State} [Allowed K.regs] [Allowed K.out] [Allowed K.fresh] [Allowed K.lanes]
    [Allowed K.time] [Allowed K.chain] (h : Within K s0 s) (n : Fin 194) (g : BitVec 10) (mark : Fin 3) : WithinO K s0
    (execCharacterReceive n g mark s) := by
  simp +contextual (maxDischargeDepth := 100) only [execCharacterReceive, State.laneCharacterReceive_within, State.portGroup_within,
      State.portOr_within, h, implies_true, withinO_next]

theorem execSignalLoss_within {K : Mask} {s0 s : State} [Allowed K.regs] [Allowed K.out] [Allowed K.fresh] [Allowed K.lanes] [Allowed K.time]
    [Allowed K.chain] (h : Within K s0 s) (n : Fin 194) : WithinO K s0 (execSignalLoss n s) := by
  simp +contextual (maxDischargeDepth := 100) only [execSignalLoss, State.laneSignalLoss_within, State.portDetect_within, State.portOr_within,
      within_ite, h, implies_true, withinO_next]

theorem execBitLockLoss_within {K : Mask} {s0 s : State} [Allowed K.regs] [Allowed K.out] [Allowed K.fresh] [Allowed K.lanes] [Allowed K.time]
    [Allowed K.chain] (h : Within K s0 s) (n : Fin 194) : WithinO K s0 (execBitLockLoss n s) := by
  simp +contextual (maxDischargeDepth := 100) only [execBitLockLoss, State.laneBitLockLoss_within, State.portOr_within, State.portTrain_within,
      within_ite, h, implies_true, withinO_next]

theorem execBitLock_within {K : Mask} {s0 s : State} [Allowed K.regs] [Allowed K.lanes] (h : Within K s0 s) (n : Fin 194) : WithinO K s0
    (execBitLock n s) := by
  simp +contextual (maxDischargeDepth := 100) only [execBitLock, State.laneBitLock_within, State.laneMod_within, State.portOr_within, within_ite,
      h, implies_true, withinO_next]

end Sys2Proof.Machine
end

