-- ==== Sys2Proof/Laws/WithinBus.lean ====
section
/-!
SUPPORT. Laws/WithinBus.lean: which fields of the state each operation and meaning may change, for accesses of the matrix, the DMA channels' control and the host interface: one
lemma each, named after it, which asks that the mask have those fields.
-/
namespace Sys2Proof.Machine

theorem State.busErr_within {K : Mask} {s0 s : State} [Allowed K.regs] (h : Within K s0 s) (b : By) (wr : Bool) (addr kind : Nat) : Within K s0
    (State.busErr s b wr addr kind) := by
  simp +contextual (maxDischargeDepth := 100) only [State.busErr, State.count_within, State.doIf_within, State.raise_within, State.wr64_within,
      State.wrN_within, within_ite, h, implies_true]

theorem State.noteWerr_within {K : Mask} {s0 s : State} [Allowed K.regs] (h : Within K s0 s) : Within K s0 (State.noteWerr s) := by
  simp +contextual (maxDischargeDepth := 100) only [State.noteWerr, State.count_within, State.raise_within, h]

theorem State.stEnabled_within {K : Mask} [Allowed K.mem] {s0 : State} : ∀ {l : List (Option Byte)} {s : State} (_ : Within K s0 s) (a : Nat),
    Within K s0 (s.stEnabled a l)
  | [], _, h, _ => h
  | some b :: rest, s, h, a => State.stEnabled_within (l := rest) (State.stb_within h a b) (a + 1)
  | none :: rest, s, h, a => State.stEnabled_within (l := rest) h (a + 1)

theorem State.matMod_within {K : Mask} {s0 s : State} [Allowed K.matrix] (h : Within K s0 s) (f : MatrixSt → MatrixSt) : Within K s0
    (State.matMod s f) := by
  simp +contextual (maxDischargeDepth := 100) only [State.matMod, within_mk, kept_refl, kept_allowed, h]

theorem State.noteOver_within {K : Mask} {s0 s : State} [Allowed K.regs] [Allowed K.matrix] (h : Within K s0 s) (p : Nat) : Within K s0
    (State.noteOver s p) := by
  simp +contextual (maxDischargeDepth := 100) only [State.noteOver, State.count_within, State.matMod_within, State.raise_within, h]

theorem State.noteBeats_within {K : Mask} {s0 s : State} [Allowed K.regs] [Allowed K.matrix] (h : Within K s0 s) (p b : Nat) : Within K s0
    (State.noteBeats s p b) := by
  simp +contextual (maxDischargeDepth := 100) only [State.noteBeats, State.countBy_within, State.matMod_within, h]

theorem State.portTake_within {K : Mask} {s0 s : State} [Allowed K.regs] [Allowed K.matrix] (h : Within K s0 s) (p b q : Nat) : Within K s0
    (State.portTake s p b q).1 := by
  simp +contextual (maxDischargeDepth := 100) only [State.portTake, State.matMod_within, State.noteBeats_within, State.noteOver_within,
      State.wrN_within, h, within_ite1]

theorem State.served_within {K : Mask} {s0 s : State} [Allowed K.regs] [Allowed K.matrix] (h : Within K s0 s) (b : By) (addr n : Nat) :
    Within K s0 (State.served s b addr n).1 := by
  unfold State.served
  split <;> simp +contextual (maxDischargeDepth := 100) only [State.noteOver_within, State.portTake_within, h, within_ite1]

theorem State.dmaMod_within {K : Mask} {s0 s : State} [Allowed K.dma] (h : Within K s0 s) (f : DmaSt → DmaSt) : Within K s0 (State.dmaMod s f) := by
  simp +contextual (maxDischargeDepth := 100) only [State.dmaMod, within_mk, kept_refl, kept_allowed, h]

theorem State.chMod'_within {K : Mask} {s0 s : State} [Allowed K.dma] (h : Within K s0 s) (n : Nat) (f : DmaCh → DmaCh) : Within K s0
    (State.chMod' s n f) := by
  simp +contextual (maxDischargeDepth := 100) only [State.chMod', State.dmaMod_within, h]

theorem State.showBuf_within {K : Mask} {s0 s : State} [Allowed K.regs] (h : Within K s0 s) : Within K s0 (State.showBuf s) := by
  simp +contextual (maxDischargeDepth := 100) only [State.showBuf, State.wrN_within, h]

theorem State.setCh_within {K : Mask} {s0 s : State} [Allowed K.regs] [Allowed K.dma] (h : Within K s0 s) (n st : Nat) : Within K s0
    (State.setCh s n st) := by
  simp +contextual (maxDischargeDepth := 100) only [State.setCh, State.chMod'_within, State.clr_within, State.fput_within, State.raise_within,
      State.showBuf_within, within_ite, h]

theorem State.stopCh_within {K : Mask} {s0 s : State} [Allowed K.regs] [Allowed K.dma] (h : Within K s0 s) (n : Nat) : Within K s0
    (State.stopCh s n) := by
  simp +contextual (maxDischargeDepth := 100) only [State.stopCh, State.setCh_within, h]

theorem execDmaResume_within {K : Mask} {s0 s : State} [Allowed K.regs] [Allowed K.dma] (h : Within K s0 s) (n : Fin 32) : WithinO K s0
    (execDmaResume n s) := by
  simp +contextual (maxDischargeDepth := 100) only [execDmaResume, State.raise_within, State.setCh_within, within_ite, h, withinO_next]

theorem execDoorbell_within {K : Mask} {s0 s : State} [Allowed K.regs] [Allowed K.dma] (h : Within K s0 s) (n : Fin 32) : WithinO K s0
    (execDoorbell n s) := by
  simp +contextual (maxDischargeDepth := 100) only [execDoorbell, State.setCh_within, within_ite, h, withinO_next]

theorem execDmaCfgWrite_within {K : Mask} {s0 s : State} [Allowed K.regs] (h : Within K s0 s) (n : Fin 32) (which : Fin 3) (v : Word) :
    WithinO K s0 (execDmaCfgWrite n which v s) := by
  unfold execDmaCfgWrite
  repeat' split
  all_goals simp +contextual (maxDischargeDepth := 100) only [State.raise_within, State.wr_within, h, withinO_next]

theorem State.fwResult_within {K : Mask} {s0 s : State} [Allowed K.regs] (h : Within K s0 s) (code : Nat) : Within K s0
    (State.fwResult s code) := by
  simp +contextual (maxDischargeDepth := 100) only [State.fwResult, State.fput_within, State.raise_within, h]

theorem State.fwTake_within {K : Mask} {s0 s : State} [Allowed K.regs] [Allowed K.boot] (h : Within K s0 s) (src version : Nat) : Within K s0
    (State.fwTake s src version) := by
  simp +contextual (maxDischargeDepth := 100) only [State.fwTake, State.wrN_within, within_mk, kept_refl, kept_allowed, h]

theorem execFwCommit_within {K : Mask} {s0 s : State} [Allowed K.regs] [Allowed K.mem] (h : Within K s0 s) : WithinO K s0 (execFwCommit s) := by
  simp +contextual (maxDischargeDepth := 100) only [execFwCommit, State.fwResult_within, State.raise_within, State.stBytes_within, within_ite, h,
      withinO_next]

theorem execFwDone_within {K : Mask} {s0 s : State} [Allowed K.regs] [Allowed K.boot] (h : Within K s0 s) : WithinO K s0 (execFwDone s) := by
  simp +contextual (maxDischargeDepth := 100) only [execFwDone, State.fput_within, State.fwResult_within, State.fwTake_within, within_ite, h,
      withinO_next]

theorem execFwStore_within {K : Mask} {s0 s : State} [Allowed K.regs] [Allowed K.fresh] [Allowed K.cat] (h : Within K s0 s) : WithinO K s0
    (execFwStore s) := by
  simp +contextual (maxDischargeDepth := 100) only [execFwStore, State.archRead_within, State.fput_within, State.fwResult_within,
      State.noteProg_within, State.startStore_within, within_ite, h, withinO_next]

theorem execFwStoreComplete_within {K : Mask} {s0 s : State} [Allowed K.regs] [Allowed K.fresh] [Allowed K.cat] (h : Within K s0 s)
    (readBack : List Byte) : WithinO K s0 (execFwStoreComplete readBack s) := by
  unfold execFwStoreComplete
  split <;> simp +contextual (maxDischargeDepth := 100) only [State.endStore_within, State.fput_within, State.fwResult_within, State.raise_within,
      State.tick1_within, within_ite, h, withinO_next]

theorem execSetFirst_within {K : Mask} {s0 s : State} [Allowed K.regs] [Allowed K.cat] (h : Within K s0 s) : WithinO K s0 (execSetFirst s) := by
  simp +contextual (maxDischargeDepth := 100) only [execSetFirst, State.fput_within, State.fwResult_within, State.noteProg_within,
      State.startBoot_within, within_ite, h, withinO_next]

theorem execBumpRollback_within {K : Mask} {s0 s : State} [Allowed K.regs] [Allowed K.host] (h : Within K s0 s) : WithinO K s0
    (execBumpRollback s) := by
  simp +contextual (maxDischargeDepth := 100) only [execBumpRollback, State.fwResult_within, State.noteProg_within, State.wrN_within, within_mk,
      kept_refl, kept_allowed, within_ite, h, withinO_next]

theorem execPcieLinkUp_within {K : Mask} {s0 s : State} [Allowed K.regs] (h : Within K s0 s) (speed width : Fin 3) : WithinO K s0
    (execPcieLinkUp speed width s) := by
  simp +contextual (maxDischargeDepth := 100) only [execPcieLinkUp, State.fput_within, State.raiseIf_within, within_ite, h, withinO_next]

theorem execMgmtFrameReceive_within {K : Mask} {s0 s : State} [Allowed K.regs] [Allowed K.mem] (h : Within K s0 s) (f : List Byte) (r : FrameArrival) :
    WithinO K s0 (execMgmtFrameReceive f r s) := by
  simp +contextual (maxDischargeDepth := 100) only [execMgmtFrameReceive, State.count_within, State.raise_within, State.stBytes_within,
      State.wrN_within, within_ite, h, withinO_next]

theorem execTxDoorbell_within {K : Mask} {s0 s : State} [Allowed K.host] (h : Within K s0 s) : WithinO K s0 (execTxDoorbell s) := by
  simp +contextual (maxDischargeDepth := 100) only [execTxDoorbell, within_mk, kept_refl, kept_allowed, h, withinO_next]

theorem execMgmtFrameSent_within {K : Mask} {s0 s : State} [Allowed K.regs] [Allowed K.mem] [Allowed K.out] [Allowed K.fresh] [Allowed K.host]
    (h : Within K s0 s) : WithinO K s0 (execMgmtFrameSent s) := by
  simp +contextual (maxDischargeDepth := 100) only [execMgmtFrameSent, State.count_within, State.doIf_within, State.emit_within,
      State.raise_within, State.stBytes_within, State.stNat_within, State.tick1_within, State.wrN_within, within_mk, kept_refl, kept_allowed,
      within_ite, h, implies_true, withinO_next]

theorem execMgmtRateAlternate_within {K : Mask} {s0 s : State} [Allowed K.host] (h : Within K s0 s) : WithinO K s0 (execMgmtRateAlternate s) := by
  simp +contextual (maxDischargeDepth := 100) only [execMgmtRateAlternate, within_mk, kept_refl, kept_allowed, within_ite, h, withinO_next]

theorem execMgmtLink_within {K : Mask} {s0 s : State} [Allowed K.regs] [Allowed K.host] (h : Within K s0 s) (up : Bool) : WithinO K s0
    (execMgmtLink up s) := by
  simp +contextual (maxDischargeDepth := 100) only [execMgmtLink, State.fput_within, State.raise_within, State.wrN_within, within_mk, kept_refl,
      kept_allowed, within_ite, h, withinO_next]

end Sys2Proof.Machine
end

