-- ==== Sys2Proof/Laws/WithinMace.lean ====
section
/-!
SUPPORT. Laws/WithinMace.lean: which fields of the state each operation and meaning may change, for a Mace processor, registers, transactions and DMA bursts: one
lemma each, named after it, which asks that the mask have those fields.
-/
namespace Sys2Proof.Machine

theorem ran_within {K : Mask} {s0 s : State} {o : Host.Outcome State Fault Refusal} (h : Within K s0 s) (ho : WithinO K s0 o) : Within K s0
    (ran o s) := by
  unfold ran
  split
  · exact ho _ rfl
  · exact h

theorem State.put_within {K : Mask} {s0 s : State} [Allowed K.regs] (h : Within K s0 s) (a mask : Nat) (v : Word) : Within K s0
    (State.put s a mask v) := by
  simp +contextual (maxDischargeDepth := 100) only [State.put, State.wr_within, h]

theorem execRemapWrite_within {K : Mask} {s0 s : State} [Allowed K.regs] (h : Within K s0 s) (v : Word) : WithinO K s0 (execRemapWrite v s) := by
  simp +contextual (maxDischargeDepth := 100) only [execRemapWrite, State.put_within, h, withinO_next]

theorem State.writeMbox_within {K : Mask} {s0 s : State} [Allowed K.regs] [Allowed K.out] [Allowed K.fresh] [Allowed K.lanes] (h : Within K s0 s)
    (m a : Nat) (v : Word) : ∀ t, State.writeMbox s m a v = some t → Within K s0 t := by
  intro t ht
  unfold State.writeMbox at ht
  dsimp only at ht
  (repeat' split at ht) <;> simp only [Option.some.injEq, reduceCtorEq] at ht
  all_goals first
      | (subst ht; simp +contextual (maxDischargeDepth := 100) only [State.put_within, execAck_within, execLockRelease_within, execPost_within,
          ran_within, h])
      | (obtain ⟨_, _, rfl⟩ := ht; simp +contextual (maxDischargeDepth := 100) only [State.put_within, execAck_within, execLockRelease_within,
          execPost_within, ran_within, within_mk, kept_refl, kept_allowed, within_ite, h, implies_true])
      | simp_all only

theorem State.setG_within {K : Mask} {s0 s : State} [Allowed K.mace] (h : Within K s0 s) (pr : Proc) (n : Fin 32) (v : Word) : Within K s0
    (State.setG s pr n v) := by
  simp +contextual (maxDischargeDepth := 100) only [State.setG, State.mpMod_within, within_ite, h]

theorem State.setPair_within {K : Mask} {s0 s : State} [Allowed K.mace] (h : Within K s0 s) (pr : Proc) (n : Fin 32) (v : Nat) : Within K s0
    (State.setPair s pr n v) := by
  simp +contextual (maxDischargeDepth := 100) only [State.setPair, State.setG_within, h]

theorem State.setA_within {K : Mask} {s0 s : State} [Allowed K.mace] (h : Within K s0 s) (pr : Proc) (n : Nat) (v : BitVec 40) : Within K s0
    (State.setA s pr n v) := by
  simp +contextual (maxDischargeDepth := 100) only [State.setA, State.mpMod_within, h]

theorem State.setM_within {K : Mask} {s0 s : State} [Allowed K.mace] (h : Within K s0 s) (pr : Proc) (n : Nat) (v : Word) : Within K s0
    (State.setM s pr n v) := by
  simp +contextual (maxDischargeDepth := 100) only [State.setM, State.mpMod_within, h]

theorem State.setAcc_within {K : Mask} {s0 s : State} [Allowed K.mace] (h : Within K s0 s) (pr : Proc) (n : Fin 4) (v : Int × Int) : Within K s0
    (State.setAcc s pr n v) := by
  simp +contextual (maxDischargeDepth := 100) only [State.setAcc, State.mpMod_within, h]

theorem State.seqTo_within {K : Mask} {s0 s : State} [Allowed K.mace] (h : Within K s0 s) (pr : Proc) (n : Nat) : Within K s0
    (State.seqTo s pr n) := by
  simp +contextual (maxDischargeDepth := 100) only [State.seqTo, State.mpMod_within, h]

theorem State.advance_within {K : Mask} {s0 s : State} [Allowed K.mace] (h : Within K s0 s) (pr : Proc) : Within K s0 (State.advance s pr) := by
  simp +contextual (maxDischargeDepth := 100) only [State.advance, State.seqTo_within, h]

theorem State.jump_within {K : Mask} {s0 s : State} [Allowed K.mace] (h : Within K s0 s) (pr : Proc) (t : Word) : Within K s0
    (State.jump s pr t) := by
  simp +contextual (maxDischargeDepth := 100) only [State.jump, State.mpMod_within, h]

theorem State.take_within {K : Mask} {s0 s : State} [Allowed K.regs] [Allowed K.mace] (h : Within K s0 s) (pr : Proc) (cause addr : Nat) :
    Within K s0 (State.take s pr cause addr) := by
  unfold State.take
  split <;> simp +contextual (maxDischargeDepth := 100) only [State.cloveStop_within, State.fput_within, State.mpMod_within, State.wr64_within,
      State.wr_within, h]

theorem State.illegal_within {K : Mask} {s0 s : State} [Allowed K.regs] [Allowed K.fresh] [Allowed K.mace] (h : Within K s0 s) (pr : Proc) :
    Within K s0 (State.illegal s pr) := by
  simp +contextual (maxDischargeDepth := 100) only [State.illegal, State.take_within, State.tick1_within, h]

theorem State.instr_within {K : Mask} {s0 s : State} [Allowed K.regs] [Allowed K.mace] (h : Within K s0 s) (pr : Proc) (f : State → State)
    (hf : ∀ u, Within K s0 u → Within K s0 (f u)) : Within K s0 (State.instr s pr f) := by
  unfold State.instr
  repeat' split
  all_goals simp +contextual (maxDischargeDepth := 100) only [State.take_within, h, hf]

theorem State.wakeFence_within {K : Mask} {s0 s : State} [Allowed K.mace] (h : Within K s0 s) (pr : Proc) : Within K s0 (State.wakeFence s pr) := by
  simp +contextual (maxDischargeDepth := 100) only [State.wakeFence, State.advance_within, within_ite, h]

theorem State.wakeMaster_within {K : Mask} {s0 s : State} [Allowed K.regs] [Allowed K.mace] (h : Within K s0 s) (m : Nat) : Within K s0
    (State.wakeMaster s m) := by
  unfold State.wakeMaster
  split <;> simp +contextual (maxDischargeDepth := 100) only [State.showClove_within, State.wakeFence_within, h]

theorem State.noteStoreErr_within {K : Mask} {s0 s : State} [Allowed K.mace] (h : Within K s0 s) (pr : Proc) (a : Nat) : Within K s0
    (State.noteStoreErr s pr a) := by
  simp +contextual (maxDischargeDepth := 100) only [State.noteStoreErr, State.mpMod_within, h]

theorem State.dspFlag_within {K : Mask} {s0 s : State} [Allowed K.mace] (h : Within K s0 s) (pr : Proc) (bit : Nat) (c : Bool) : Within K s0
    (State.dspFlag s pr bit c) := by
  simp +contextual (maxDischargeDepth := 100) only [State.dspFlag, State.mpMod_within, within_ite, h]

theorem State.accumulate_within {K : Mask} {s0 s : State} [Allowed K.mace] (h : Within K s0 s) (pr : Proc) (n : Fin 4) (p : Int × Option Int)
    (neg z : Bool) : Within K s0 (State.accumulate s pr n p neg z) := by
  simp +contextual (maxDischargeDepth := 100) only [State.accumulate, State.dspFlag_within, State.setAcc_within, h]

theorem State.addPower_within {K : Mask} {s0 s : State} [Allowed K.mace] (h : Within K s0 s) (pr : Proc) (n : Fin 4) (d : Int) (z : Bool) :
    Within K s0 (State.addPower s pr n d z) := by
  simp +contextual (maxDischargeDepth := 100) only [State.addPower, State.dspFlag_within, State.setAcc_within, h]

theorem execMac_within {K : Mask} {s0 s : State} [Allowed K.regs] [Allowed K.mace] (h : Within K s0 s) (p : Proc) (n : Fin 4) (rs1 rs2 : Fin 32)
    (conj neg cplx z : Bool) : WithinO K s0 (execMac p n rs1 rs2 conj neg cplx z s) := by
  simp +contextual (maxDischargeDepth := 100) only [execMac, State.accumulate_within, State.advance_within, State.instr_within, h, implies_true,
      withinO_next]

theorem execPow_within {K : Mask} {s0 s : State} [Allowed K.regs] [Allowed K.mace] (h : Within K s0 s) (p : Proc) (n : Fin 4) (rs1 : Fin 32)
    (cplx : Bool) : WithinO K s0 (execPow p n rs1 cplx s) := by
  simp +contextual (maxDischargeDepth := 100) only [execPow, State.addPower_within, State.advance_within, State.instr_within, h, implies_true,
      withinO_next]

theorem execAclr_within {K : Mask} {s0 s : State} [Allowed K.regs] [Allowed K.mace] (h : Within K s0 s) (p : Proc) (n : Fin 4) : WithinO K s0
    (execAclr p n s) := by
  simp +contextual (maxDischargeDepth := 100) only [execAclr, State.advance_within, State.instr_within, State.setAcc_within, h, implies_true,
      withinO_next]

theorem execAld_within {K : Mask} {s0 s : State} [Allowed K.regs] [Allowed K.mace] (h : Within K s0 s) (p : Proc) (n : Fin 4) (rs1 rs2 : Fin 32) :
    WithinO K s0 (execAld p n rs1 rs2 s) := by
  simp +contextual (maxDischargeDepth := 100) only [execAld, State.advance_within, State.instr_within, State.setAcc_within, h, implies_true,
      withinO_next]

theorem State.moveAcc_within {K : Mask} {s0 s : State} [Allowed K.mace] (h : Within K s0 s) (pr : Proc) (rd : Fin 32) (v : Word × Bool) :
    Within K s0 (State.moveAcc s pr rd v) := by
  simp +contextual (maxDischargeDepth := 100) only [State.moveAcc, State.advance_within, State.dspFlag_within, State.setG_within, h]

theorem execApack_within {K : Mask} {s0 s : State} [Allowed K.regs] [Allowed K.mace] (h : Within K s0 s) (p : Proc) (rd : Fin 32) (n : Fin 4) :
    WithinO K s0 (execApack p rd n s) := by
  simp +contextual (maxDischargeDepth := 100) only [execApack, State.instr_within, State.moveAcc_within, h, implies_true, withinO_next]

theorem execAmovre_within {K : Mask} {s0 s : State} [Allowed K.regs] [Allowed K.mace] (h : Within K s0 s) (p : Proc) (rd : Fin 32) (n : Fin 4) :
    WithinO K s0 (execAmovre p rd n s) := by
  simp +contextual (maxDischargeDepth := 100) only [execAmovre, State.instr_within, State.moveAcc_within, h, implies_true, withinO_next]

theorem execAmovim_within {K : Mask} {s0 s : State} [Allowed K.regs] [Allowed K.mace] (h : Within K s0 s) (p : Proc) (rd : Fin 32) (n : Fin 4) :
    WithinO K s0 (execAmovim p rd n s) := by
  simp +contextual (maxDischargeDepth := 100) only [execAmovim, State.instr_within, State.moveAcc_within, h, implies_true, withinO_next]

theorem State.setOn_within {K : Mask} {s0 s : State} [Allowed K.regs] [Allowed K.mace] (h : Within K s0 s) (pr : Proc) (rd : Fin 32) (v : Word) :
    Within K s0 (State.setOn s pr rd v) := by
  simp +contextual (maxDischargeDepth := 100) only [State.setOn, State.advance_within, State.instr_within, State.setG_within, h, implies_true]

theorem State.aluR_within {K : Mask} {s0 s : State} [Allowed K.regs] [Allowed K.mace] (h : Within K s0 s) (pr : Proc) (f : Word → Word → Word)
    (rd rs1 rs2 : Fin 32) : Within K s0 (State.aluR s pr f rd rs1 rs2) := by
  simp +contextual (maxDischargeDepth := 100) only [State.aluR, State.setOn_within, h]

theorem execAdd_within {K : Mask} {s0 s : State} [Allowed K.regs] [Allowed K.mace] (h : Within K s0 s) (p : Proc) (rd rs1 rs2 : Fin 32) :
    WithinO K s0 (execAdd p rd rs1 rs2 s) := by
  simp +contextual (maxDischargeDepth := 100) only [execAdd, State.aluR_within, h, withinO_next]

theorem execSub_within {K : Mask} {s0 s : State} [Allowed K.regs] [Allowed K.mace] (h : Within K s0 s) (p : Proc) (rd rs1 rs2 : Fin 32) :
    WithinO K s0 (execSub p rd rs1 rs2 s) := by
  simp +contextual (maxDischargeDepth := 100) only [execSub, State.aluR_within, h, withinO_next]

theorem execAnd_within {K : Mask} {s0 s : State} [Allowed K.regs] [Allowed K.mace] (h : Within K s0 s) (p : Proc) (rd rs1 rs2 : Fin 32) :
    WithinO K s0 (execAnd p rd rs1 rs2 s) := by
  simp +contextual (maxDischargeDepth := 100) only [execAnd, State.aluR_within, h, withinO_next]

theorem execOr_within {K : Mask} {s0 s : State} [Allowed K.regs] [Allowed K.mace] (h : Within K s0 s) (p : Proc) (rd rs1 rs2 : Fin 32) :
    WithinO K s0 (execOr p rd rs1 rs2 s) := by
  simp +contextual (maxDischargeDepth := 100) only [execOr, State.aluR_within, h, withinO_next]

theorem execXor_within {K : Mask} {s0 s : State} [Allowed K.regs] [Allowed K.mace] (h : Within K s0 s) (p : Proc) (rd rs1 rs2 : Fin 32) :
    WithinO K s0 (execXor p rd rs1 rs2 s) := by
  simp +contextual (maxDischargeDepth := 100) only [execXor, State.aluR_within, h, withinO_next]

theorem execSll_within {K : Mask} {s0 s : State} [Allowed K.regs] [Allowed K.mace] (h : Within K s0 s) (p : Proc) (rd rs1 rs2 : Fin 32) :
    WithinO K s0 (execSll p rd rs1 rs2 s) := by
  simp +contextual (maxDischargeDepth := 100) only [execSll, State.aluR_within, h, withinO_next]

theorem execSrl_within {K : Mask} {s0 s : State} [Allowed K.regs] [Allowed K.mace] (h : Within K s0 s) (p : Proc) (rd rs1 rs2 : Fin 32) :
    WithinO K s0 (execSrl p rd rs1 rs2 s) := by
  simp +contextual (maxDischargeDepth := 100) only [execSrl, State.aluR_within, h, withinO_next]

theorem execSra_within {K : Mask} {s0 s : State} [Allowed K.regs] [Allowed K.mace] (h : Within K s0 s) (p : Proc) (rd rs1 rs2 : Fin 32) :
    WithinO K s0 (execSra p rd rs1 rs2 s) := by
  simp +contextual (maxDischargeDepth := 100) only [execSra, State.aluR_within, h, withinO_next]

theorem execSlt_within {K : Mask} {s0 s : State} [Allowed K.regs] [Allowed K.mace] (h : Within K s0 s) (p : Proc) (rd rs1 rs2 : Fin 32) :
    WithinO K s0 (execSlt p rd rs1 rs2 s) := by
  simp +contextual (maxDischargeDepth := 100) only [execSlt, State.aluR_within, h, withinO_next]

theorem execSltu_within {K : Mask} {s0 s : State} [Allowed K.regs] [Allowed K.mace] (h : Within K s0 s) (p : Proc) (rd rs1 rs2 : Fin 32) :
    WithinO K s0 (execSltu p rd rs1 rs2 s) := by
  simp +contextual (maxDischargeDepth := 100) only [execSltu, State.aluR_within, h, withinO_next]

theorem execMul_within {K : Mask} {s0 s : State} [Allowed K.regs] [Allowed K.mace] (h : Within K s0 s) (p : Proc) (rd rs1 rs2 : Fin 32) :
    WithinO K s0 (execMul p rd rs1 rs2 s) := by
  simp +contextual (maxDischargeDepth := 100) only [execMul, State.aluR_within, h, withinO_next]

theorem execMulh_within {K : Mask} {s0 s : State} [Allowed K.regs] [Allowed K.mace] (h : Within K s0 s) (p : Proc) (rd rs1 rs2 : Fin 32) :
    WithinO K s0 (execMulh p rd rs1 rs2 s) := by
  simp +contextual (maxDischargeDepth := 100) only [execMulh, State.aluR_within, h, withinO_next]

theorem execMulhu_within {K : Mask} {s0 s : State} [Allowed K.regs] [Allowed K.mace] (h : Within K s0 s) (p : Proc) (rd rs1 rs2 : Fin 32) :
    WithinO K s0 (execMulhu p rd rs1 rs2 s) := by
  simp +contextual (maxDischargeDepth := 100) only [execMulhu, State.aluR_within, h, withinO_next]

theorem execDiv_within {K : Mask} {s0 s : State} [Allowed K.regs] [Allowed K.mace] (h : Within K s0 s) (p : Proc) (rd rs1 rs2 : Fin 32) :
    WithinO K s0 (execDiv p rd rs1 rs2 s) := by
  simp +contextual (maxDischargeDepth := 100) only [execDiv, State.aluR_within, h, withinO_next]

theorem execDivu_within {K : Mask} {s0 s : State} [Allowed K.regs] [Allowed K.mace] (h : Within K s0 s) (p : Proc) (rd rs1 rs2 : Fin 32) :
    WithinO K s0 (execDivu p rd rs1 rs2 s) := by
  simp +contextual (maxDischargeDepth := 100) only [execDivu, State.aluR_within, h, withinO_next]

theorem execRem_within {K : Mask} {s0 s : State} [Allowed K.regs] [Allowed K.mace] (h : Within K s0 s) (p : Proc) (rd rs1 rs2 : Fin 32) :
    WithinO K s0 (execRem p rd rs1 rs2 s) := by
  simp +contextual (maxDischargeDepth := 100) only [execRem, State.aluR_within, h, withinO_next]

theorem execRemu_within {K : Mask} {s0 s : State} [Allowed K.regs] [Allowed K.mace] (h : Within K s0 s) (p : Proc) (rd rs1 rs2 : Fin 32) :
    WithinO K s0 (execRemu p rd rs1 rs2 s) := by
  simp +contextual (maxDischargeDepth := 100) only [execRemu, State.aluR_within, h, withinO_next]

theorem execMin_within {K : Mask} {s0 s : State} [Allowed K.regs] [Allowed K.mace] (h : Within K s0 s) (p : Proc) (rd rs1 rs2 : Fin 32) :
    WithinO K s0 (execMin p rd rs1 rs2 s) := by
  simp +contextual (maxDischargeDepth := 100) only [execMin, State.aluR_within, h, withinO_next]

theorem execMax_within {K : Mask} {s0 s : State} [Allowed K.regs] [Allowed K.mace] (h : Within K s0 s) (p : Proc) (rd rs1 rs2 : Fin 32) :
    WithinO K s0 (execMax p rd rs1 rs2 s) := by
  simp +contextual (maxDischargeDepth := 100) only [execMax, State.aluR_within, h, withinO_next]

theorem execAdds_within {K : Mask} {s0 s : State} [Allowed K.regs] [Allowed K.mace] (h : Within K s0 s) (p : Proc) (rd rs1 rs2 : Fin 32) :
    WithinO K s0 (execAdds p rd rs1 rs2 s) := by
  simp +contextual (maxDischargeDepth := 100) only [execAdds, State.aluR_within, h, withinO_next]

theorem execSubs_within {K : Mask} {s0 s : State} [Allowed K.regs] [Allowed K.mace] (h : Within K s0 s) (p : Proc) (rd rs1 rs2 : Fin 32) :
    WithinO K s0 (execSubs p rd rs1 rs2 s) := by
  simp +contextual (maxDischargeDepth := 100) only [execSubs, State.aluR_within, h, withinO_next]

theorem execAddi_within {K : Mask} {s0 s : State} [Allowed K.regs] [Allowed K.mace] (h : Within K s0 s) (p : Proc) (rd rs1 : Fin 32)
    (imm : BitVec 16) : WithinO K s0 (execAddi p rd rs1 imm s) := by
  simp +contextual (maxDischargeDepth := 100) only [execAddi, State.setOn_within, h, withinO_next]

theorem execAndi_within {K : Mask} {s0 s : State} [Allowed K.regs] [Allowed K.mace] (h : Within K s0 s) (p : Proc) (rd rs1 : Fin 32)
    (imm : BitVec 16) : WithinO K s0 (execAndi p rd rs1 imm s) := by
  simp +contextual (maxDischargeDepth := 100) only [execAndi, State.setOn_within, h, withinO_next]

theorem execOri_within {K : Mask} {s0 s : State} [Allowed K.regs] [Allowed K.mace] (h : Within K s0 s) (p : Proc) (rd rs1 : Fin 32)
    (imm : BitVec 16) : WithinO K s0 (execOri p rd rs1 imm s) := by
  simp +contextual (maxDischargeDepth := 100) only [execOri, State.setOn_within, h, withinO_next]

theorem execXori_within {K : Mask} {s0 s : State} [Allowed K.regs] [Allowed K.mace] (h : Within K s0 s) (p : Proc) (rd rs1 : Fin 32)
    (imm : BitVec 16) : WithinO K s0 (execXori p rd rs1 imm s) := by
  simp +contextual (maxDischargeDepth := 100) only [execXori, State.setOn_within, h, withinO_next]

theorem execSlti_within {K : Mask} {s0 s : State} [Allowed K.regs] [Allowed K.mace] (h : Within K s0 s) (p : Proc) (rd rs1 : Fin 32)
    (imm : BitVec 16) : WithinO K s0 (execSlti p rd rs1 imm s) := by
  simp +contextual (maxDischargeDepth := 100) only [execSlti, State.setOn_within, h, withinO_next]

theorem execSltiu_within {K : Mask} {s0 s : State} [Allowed K.regs] [Allowed K.mace] (h : Within K s0 s) (p : Proc) (rd rs1 : Fin 32)
    (imm : BitVec 16) : WithinO K s0 (execSltiu p rd rs1 imm s) := by
  simp +contextual (maxDischargeDepth := 100) only [execSltiu, State.setOn_within, h, withinO_next]

theorem execLui_within {K : Mask} {s0 s : State} [Allowed K.regs] [Allowed K.mace] (h : Within K s0 s) (p : Proc) (rd : Fin 32) (imm : BitVec 16) :
    WithinO K s0 (execLui p rd imm s) := by
  simp +contextual (maxDischargeDepth := 100) only [execLui, State.setOn_within, h, withinO_next]

theorem execSlli_within {K : Mask} {s0 s : State} [Allowed K.regs] [Allowed K.mace] (h : Within K s0 s) (p : Proc) (rd rs1 sh : Fin 32) :
    WithinO K s0 (execSlli p rd rs1 sh s) := by
  simp +contextual (maxDischargeDepth := 100) only [execSlli, State.setOn_within, h, withinO_next]

theorem execSrli_within {K : Mask} {s0 s : State} [Allowed K.regs] [Allowed K.mace] (h : Within K s0 s) (p : Proc) (rd rs1 sh : Fin 32) :
    WithinO K s0 (execSrli p rd rs1 sh s) := by
  simp +contextual (maxDischargeDepth := 100) only [execSrli, State.setOn_within, h, withinO_next]

theorem execSrai_within {K : Mask} {s0 s : State} [Allowed K.regs] [Allowed K.mace] (h : Within K s0 s) (p : Proc) (rd rs1 sh : Fin 32) :
    WithinO K s0 (execSrai p rd rs1 sh s) := by
  simp +contextual (maxDischargeDepth := 100) only [execSrai, State.setOn_within, h, withinO_next]

theorem State.branchOp_within {K : Mask} {s0 s : State} [Allowed K.regs] [Allowed K.mace] (h : Within K s0 s) (pr : Proc) (f : Word → Word → Bool)
    (rs1 rs2 : Fin 32) (disp : BitVec 16) : Within K s0 (State.branchOp s pr f rs1 rs2 disp) := by
  simp +contextual (maxDischargeDepth := 100) only [State.branchOp, State.advance_within, State.instr_within, State.jump_within, within_ite, h,
      implies_true]

theorem execBeq_within {K : Mask} {s0 s : State} [Allowed K.regs] [Allowed K.mace] (h : Within K s0 s) (p : Proc) (rs1 rs2 : Fin 32)
    (disp : BitVec 16) : WithinO K s0 (execBeq p rs1 rs2 disp s) := by
  simp +contextual (maxDischargeDepth := 100) only [execBeq, State.branchOp_within, h, withinO_next]

theorem execBne_within {K : Mask} {s0 s : State} [Allowed K.regs] [Allowed K.mace] (h : Within K s0 s) (p : Proc) (rs1 rs2 : Fin 32)
    (disp : BitVec 16) : WithinO K s0 (execBne p rs1 rs2 disp s) := by
  simp +contextual (maxDischargeDepth := 100) only [execBne, State.branchOp_within, h, withinO_next]

theorem execBlt_within {K : Mask} {s0 s : State} [Allowed K.regs] [Allowed K.mace] (h : Within K s0 s) (p : Proc) (rs1 rs2 : Fin 32)
    (disp : BitVec 16) : WithinO K s0 (execBlt p rs1 rs2 disp s) := by
  simp +contextual (maxDischargeDepth := 100) only [execBlt, State.branchOp_within, h, withinO_next]

theorem execBge_within {K : Mask} {s0 s : State} [Allowed K.regs] [Allowed K.mace] (h : Within K s0 s) (p : Proc) (rs1 rs2 : Fin 32)
    (disp : BitVec 16) : WithinO K s0 (execBge p rs1 rs2 disp s) := by
  simp +contextual (maxDischargeDepth := 100) only [execBge, State.branchOp_within, h, withinO_next]

theorem execBltu_within {K : Mask} {s0 s : State} [Allowed K.regs] [Allowed K.mace] (h : Within K s0 s) (p : Proc) (rs1 rs2 : Fin 32)
    (disp : BitVec 16) : WithinO K s0 (execBltu p rs1 rs2 disp s) := by
  simp +contextual (maxDischargeDepth := 100) only [execBltu, State.branchOp_within, h, withinO_next]

theorem execBgeu_within {K : Mask} {s0 s : State} [Allowed K.regs] [Allowed K.mace] (h : Within K s0 s) (p : Proc) (rs1 rs2 : Fin 32)
    (disp : BitVec 16) : WithinO K s0 (execBgeu p rs1 rs2 disp s) := by
  simp +contextual (maxDischargeDepth := 100) only [execBgeu, State.branchOp_within, h, withinO_next]

theorem execJ_within {K : Mask} {s0 s : State} [Allowed K.regs] [Allowed K.mace] (h : Within K s0 s) (p : Proc) (disp : BitVec 26) : WithinO K s0
    (execJ p disp s) := by
  simp +contextual (maxDischargeDepth := 100) only [execJ, State.instr_within, State.jump_within, h, implies_true, withinO_next]

theorem execJal_within {K : Mask} {s0 s : State} [Allowed K.regs] [Allowed K.mace] (h : Within K s0 s) (p : Proc) (disp : BitVec 26) :
    WithinO K s0 (execJal p disp s) := by
  simp +contextual (maxDischargeDepth := 100) only [execJal, State.instr_within, State.jump_within, State.setG_within, h, implies_true,
      withinO_next]

theorem execJr_within {K : Mask} {s0 s : State} [Allowed K.regs] [Allowed K.mace] (h : Within K s0 s) (p : Proc) (rs1 : Fin 32) : WithinO K s0
    (execJr p rs1 s) := by
  simp +contextual (maxDischargeDepth := 100) only [execJr, State.instr_within, State.jump_within, h, implies_true, withinO_next]

theorem execJalr_within {K : Mask} {s0 s : State} [Allowed K.regs] [Allowed K.mace] (h : Within K s0 s) (p : Proc) (rd rs1 : Fin 32) :
    WithinO K s0 (execJalr p rd rs1 s) := by
  simp +contextual (maxDischargeDepth := 100) only [execJalr, State.instr_within, State.jump_within, State.setG_within, h, implies_true,
      withinO_next]

theorem execSeta_within {K : Mask} {s0 s : State} [Allowed K.regs] [Allowed K.mace] (h : Within K s0 s) (p : Proc) (i : Fin 8) (rs1 rs2 : Fin 32) :
    WithinO K s0 (execSeta p i rs1 rs2 s) := by
  simp +contextual (maxDischargeDepth := 100) only [execSeta, State.advance_within, State.instr_within, State.setA_within, h, implies_true,
      withinO_next]

theorem execGeta_within {K : Mask} {s0 s : State} [Allowed K.regs] [Allowed K.mace] (h : Within K s0 s) (p : Proc) (rd : Fin 32) (i : Fin 8) :
    WithinO K s0 (execGeta p rd i s) := by
  simp +contextual (maxDischargeDepth := 100) only [execGeta, State.advance_within, State.instr_within, State.setG_within, h, implies_true,
      withinO_next]

theorem execGetah_within {K : Mask} {s0 s : State} [Allowed K.regs] [Allowed K.mace] (h : Within K s0 s) (p : Proc) (rd : Fin 32) (i : Fin 8) :
    WithinO K s0 (execGetah p rd i s) := by
  simp +contextual (maxDischargeDepth := 100) only [execGetah, State.advance_within, State.instr_within, State.setG_within, h, implies_true,
      withinO_next]

theorem execSetm_within {K : Mask} {s0 s : State} [Allowed K.regs] [Allowed K.mace] (h : Within K s0 s) (p : Proc) (i : Fin 8) (rs1 : Fin 32) :
    WithinO K s0 (execSetm p i rs1 s) := by
  simp +contextual (maxDischargeDepth := 100) only [execSetm, State.advance_within, State.instr_within, State.setM_within, h, implies_true,
      withinO_next]

theorem execGetm_within {K : Mask} {s0 s : State} [Allowed K.regs] [Allowed K.mace] (h : Within K s0 s) (p : Proc) (rd : Fin 32) (i : Fin 8) :
    WithinO K s0 (execGetm p rd i s) := by
  simp +contextual (maxDischargeDepth := 100) only [execGetm, State.advance_within, State.instr_within, State.setG_within, h, implies_true,
      withinO_next]

theorem execAdda_within {K : Mask} {s0 s : State} [Allowed K.regs] [Allowed K.mace] (h : Within K s0 s) (p : Proc) (i : Fin 8) (rs1 : Fin 32) :
    WithinO K s0 (execAdda p i rs1 s) := by
  simp +contextual (maxDischargeDepth := 100) only [execAdda, State.advance_within, State.instr_within, State.setA_within, h, implies_true,
      withinO_next]

theorem State.place_within {K : Mask} {s0 s : State} [Allowed K.regs] [Allowed K.matrix] (h : Within K s0 s) (done : List Txn) (t : Txn) :
    Within K s0 (State.place s done t).1 := by
  simp +contextual (maxDischargeDepth := 100) only [State.place, State.count_within, State.doIf_within, State.portTake_within, h, implies_true,
      within_ite1]

theorem State.placeAll_within {K : Mask} [Allowed K.regs] [Allowed K.matrix] {s0 : State} : ∀ {l done : List Txn} {s : State}, Within K s0 s →
    Within K s0 (s.placeAll done l).1
  | [], _, _, h => h
  | t :: rest, done, s, h => by
    unfold State.placeAll
    split
    · exact State.placeAll_within (l := rest) h
    · exact State.placeAll_within (l := rest) (State.place_within h _ _)

theorem State.release_within {K : Mask} {s0 s : State} [Allowed K.regs] [Allowed K.matrix] (h : Within K s0 s) : Within K s0 (State.release s) := by
  simp +contextual (maxDischargeDepth := 100) only [State.release, State.matMod_within, State.placeAll_within, h]

theorem State.answerHost_within {K : Mask} {s0 s : State} [Allowed K.regs] [Allowed K.out] (h : Within K s0 s) (tag : Nat) (wr : Bool)
    (status : Nat) (bs : List Byte) : Within K s0 (State.answerHost s tag wr status bs) := by
  simp +contextual (maxDischargeDepth := 100) only [State.answerHost, State.count_within, State.emit_within, State.raise_within, within_ite, h]

theorem State.answer_within {K : Mask} {s0 s : State} [Allowed K.regs] [Allowed K.out] (h : Within K s0 s) (t : Txn) (ok ur : Bool)
    (bs : List Byte) : Within K s0 (State.answer s t ok ur bs) := by
  unfold State.answer
  split <;> simp +contextual (maxDischargeDepth := 100) only [State.answerHost_within, State.emit_within, within_ite, h]

theorem State.present_within {K : Mask} {s0 s : State} [Allowed K.regs] [Allowed K.out] [Allowed K.matrix] (h : Within K s0 s) (t : Txn) :
    Within K s0 (State.present s t) := by
  simp +contextual (maxDischargeDepth := 100) only [State.present, State.answer_within, State.busErr_within, State.doIf_within,
      State.matMod_within, State.noteOver_within, State.place_within, within_ite, h, implies_true]

theorem execMatrixTransaction_within {K : Mask} {s0 s : State} [Allowed K.regs] [Allowed K.out] [Allowed K.matrix] (h : Within K s0 s)
    (m : Fin 20) (id : Fin 32) (qos : BitVec 4) (hint wr : Bool) (addr : BitVec 40) (data : List (Option Byte)) : WithinO K s0
    (execMatrixTransaction m id qos hint wr addr data s) := by
  simp +contextual (maxDischargeDepth := 100) only [execMatrixTransaction, State.present_within, h, withinO_next]

theorem execTimeout_within {K : Mask} {s0 s : State} [Allowed K.regs] [Allowed K.out] [Allowed K.matrix] [Allowed K.mace] (h : Within K s0 s)
    (k : Nat) : WithinO K s0 (execTimeout k s) := by
  unfold execTimeout
  split <;> simp +contextual (maxDischargeDepth := 100) only [State.answer_within, State.busErr_within, State.count_within, State.matMod_within,
      State.release_within, State.wakeMaster_within, within_ite, h, withinO_next]

theorem execMatrixAgePromote_within {K : Mask} {s0 s : State} [Allowed K.regs] [Allowed K.matrix] (h : Within K s0 s) (k : Nat) : WithinO K s0
    (execMatrixAgePromote k s) := by
  unfold execMatrixAgePromote
  split <;> simp +contextual (maxDischargeDepth := 100) only [State.count_within, State.matMod_within, within_ite, h, withinO_next]

theorem execSaffronWindow_within {K : Mask} {s0 s : State} [Allowed K.regs] [Allowed K.matrix] (h : Within K s0 s) : WithinO K s0
    (execSaffronWindow s) := by
  simp +contextual (maxDischargeDepth := 100) only [execSaffronWindow, State.fput_within, State.matMod_within, h, withinO_next]

theorem execPcieInboundRequest_within {K : Mask} {s0 s : State} [Allowed K.regs] [Allowed K.out] [Allowed K.matrix] [Allowed K.host]
    (h : Within K s0 s) (bar2 : Bool) (off : BitVec 36) (wr relaxed : Bool) (tag : BitVec 10) (data : List (Option Byte)) : WithinO K s0
    (execPcieInboundRequest bar2 off wr relaxed tag data s) := by
  simp +contextual (maxDischargeDepth := 100) only [execPcieInboundRequest, State.emit_within, State.present_within, within_mk, kept_refl,
      kept_allowed, within_ite, h, withinO_next]

theorem State.dmaFail_within {K : Mask} {s0 s : State} [Allowed K.regs] [Allowed K.dma] (h : Within K s0 s) (n code beat addr : Nat) : Within K s0
    (State.dmaFail s n code beat addr) := by
  unfold State.dmaFail
  dsimp only
  repeat' split
  all_goals simp +contextual (maxDischargeDepth := 100) only [State.chMod'_within, State.count_within, State.raise_within, State.setCh_within,
      State.wr64_within, h]

theorem State.issueWrite_within {K : Mask} {s0 s : State} [Allowed K.regs] [Allowed K.dma] (h : Within K s0 s) (n k b : Nat) : Within K s0
    (State.issueWrite s n k b) := by
  unfold State.issueWrite
  dsimp only
  repeat' split
  all_goals simp +contextual (maxDischargeDepth := 100) only [State.chMod'_within, State.countBy_within, State.dmaMod_within,
      State.showBuf_within, h]

theorem State.accrue_within {K : Mask} {s0 s : State} [Allowed K.dma] (h : Within K s0 s) (cyc : Nat) : Within K s0 (State.accrue s cyc) := by
  simp +contextual (maxDischargeDepth := 100) only [State.accrue, State.chMod'_within, State.forEach_within, h, implies_true]

theorem State.csrWrite_within {K : Mask} {s0 s : State} [Allowed K.regs] [Allowed K.mace] (h : Within K s0 s) (pr : Proc) (csr : Nat) (v : Word) :
    ∀ t, State.csrWrite s pr csr v = some t → Within K s0 t := by
  intro t ht
  unfold State.csrWrite at ht
  dsimp only at ht
  (repeat' split at ht) <;> simp only [Option.some.injEq, reduceCtorEq] at ht
  all_goals first
      | (subst ht; simp +contextual (maxDischargeDepth := 100) only [State.fput_within, State.mpMod_within, h])
      | (obtain ⟨_, _, rfl⟩ := ht; simp +contextual (maxDischargeDepth := 100) only [State.fput_within, State.kick_within, State.mpMod_within,
          within_mk, kept_refl, kept_allowed, within_ite, h, implies_true])
      | simp_all only

theorem execRdcsr_within {K : Mask} [Allowed K.regs] [Allowed K.fresh] [Allowed K.mace] {s0 s : State} (h : Within K s0 s) (p : Proc)
    (rd : Fin 32) (csr : BitVec 12) : WithinO K s0 (execRdcsr p rd csr s) := by
  refine withinO_next (State.instr_within h _ _ (fun u hu => within_ite ?_ ?_))
  · exact State.advance_within (State.setG_within (State.mpMod_within (State.tick1_within (State.tick1_within hu)) _ _) _ _ _) _
  · split
    · exact State.advance_within (State.setG_within hu _ _ _) _
    · exact State.illegal_within hu _

theorem execWrcsr_within {K : Mask} [Allowed K.regs] [Allowed K.fresh] [Allowed K.mace] {s0 s : State} (h : Within K s0 s) (p : Proc)
    (rs1 : Fin 32) (csr : BitVec 12) : WithinO K s0 (execWrcsr p rs1 csr s) := by
  refine withinO_next (State.instr_within h _ _ (fun u hu => ?_))
  split
  · rename_i ht
    exact State.advance_within (State.csrWrite_within hu _ _ _ _ ht) _
  · exact State.illegal_within hu _

theorem execRdtime_within {K : Mask} {s0 s : State} [Allowed K.regs] [Allowed K.fresh] [Allowed K.mace] (h : Within K s0 s) (p : Proc)
    (rd : Fin 32) : WithinO K s0 (execRdtime p rd s) := by
  simp +contextual (maxDischargeDepth := 100) only [execRdtime, State.advance_within, State.illegal_within, State.instr_within,
      State.setPair_within, within_ite, h, implies_true, withinO_next]

theorem execRdsi_within {K : Mask} {s0 s : State} [Allowed K.regs] [Allowed K.fresh] [Allowed K.mace] (h : Within K s0 s) (p : Proc)
    (rd : Fin 32) : WithinO K s0 (execRdsi p rd s) := by
  simp +contextual (maxDischargeDepth := 100) only [execRdsi, State.advance_within, State.illegal_within, State.instr_within,
      State.setPair_within, within_ite, h, implies_true, withinO_next]

theorem State.showWait_within {K : Mask} [Allowed K.regs] [Allowed K.out] [Allowed K.irq] [Allowed K.host] {s0 s : State} (h : Within K s0 s)
    (p : Proc) : Within K s0 (s.showWait p) := by
  unfold State.showWait
  split
  · exact State.showIdle_within h _
  · exact State.showClove_within h _

theorem State.waitFor_within {K : Mask} {s0 s : State} [Allowed K.regs] [Allowed K.out] [Allowed K.mace] [Allowed K.irq] [Allowed K.host]
    (h : Within K s0 s) (pr : Proc) (w : Wait) : Within K s0 (State.waitFor s pr w) := by
  simp +contextual (maxDischargeDepth := 100) only [State.waitFor, State.mpMod_within, State.showWait_within, h]

theorem execWaitsi_within {K : Mask} {s0 s : State} [Allowed K.regs] [Allowed K.out] [Allowed K.fresh] [Allowed K.mace] [Allowed K.irq]
    [Allowed K.host] (h : Within K s0 s) (p : Proc) (rs1 : Fin 32) : WithinO K s0 (execWaitsi p rs1 s) := by
  simp +contextual (maxDischargeDepth := 100) only [execWaitsi, State.advance_within, State.illegal_within, State.instr_within,
      State.waitFor_within, within_ite, h, implies_true, withinO_next]

theorem execWaitsiEnd_within {K : Mask} {s0 s : State} [Allowed K.regs] [Allowed K.out] [Allowed K.mace] [Allowed K.irq] [Allowed K.host]
    (h : Within K s0 s) (p : Proc) : WithinO K s0 (execWaitsiEnd p s) := by
  unfold execWaitsiEnd
  split <;> simp +contextual (maxDischargeDepth := 100) only [State.advance_within, State.showWait_within, within_ite, h, withinO_next]

theorem execWfe_within {K : Mask} {s0 s : State} [Allowed K.regs] [Allowed K.out] [Allowed K.fresh] [Allowed K.mace] [Allowed K.irq]
    [Allowed K.host] (h : Within K s0 s) (p : Proc) (rs1 : Fin 32) : WithinO K s0 (execWfe p rs1 s) := by
  unfold execWfe
  split <;> simp +contextual (maxDischargeDepth := 100) only [State.advance_within, State.illegal_within, State.instr_within,
      State.waitFor_within, within_ite, h, implies_true, withinO_next]

theorem execWfeEnd_within {K : Mask} {s0 s : State} [Allowed K.regs] [Allowed K.mace] (h : Within K s0 s) (e : Fin 16) : WithinO K s0
    (execWfeEnd e s) := by
  unfold execWfeEnd
  split <;> simp +contextual (maxDischargeDepth := 100) only [State.advance_within, State.showClove_within, within_ite, h, withinO_next]

theorem execFence_within {K : Mask} {s0 s : State} [Allowed K.regs] [Allowed K.out] [Allowed K.mace] [Allowed K.irq] [Allowed K.host]
    (h : Within K s0 s) (p : Proc) : WithinO K s0 (execFence p s) := by
  simp +contextual (maxDischargeDepth := 100) only [execFence, State.instr_within, State.waitFor_within, State.wakeFence_within, h, implies_true,
      withinO_next]

theorem execTrap_within {K : Mask} {s0 s : State} [Allowed K.regs] [Allowed K.mace] (h : Within K s0 s) (p : Proc) (code : BitVec 12) :
    WithinO K s0 (execTrap p code s) := by
  simp +contextual (maxDischargeDepth := 100) only [execTrap, State.instr_within, State.take_within, h, implies_true, withinO_next]

theorem execIllegalInstruction_within {K : Mask} {s0 s : State} [Allowed K.regs] [Allowed K.fresh] [Allowed K.mace] (h : Within K s0 s) (p : Proc)
    (why : Fin 3) (addr : BitVec 40) : WithinO K s0 (execIllegalInstruction p why addr s) := by
  simp +contextual (maxDischargeDepth := 100) only [execIllegalInstruction, State.illegal_within, State.instr_within, State.take_within,
      within_ite, h, implies_true, withinO_next]

theorem execStoreErr_within {K : Mask} {s0 s : State} [Allowed K.regs] [Allowed K.out] [Allowed K.mace] [Allowed K.irq] [Allowed K.host]
    (h : Within K s0 s) (p : Proc) : WithinO K s0 (execStoreErr p s) := by
  unfold execStoreErr
  split <;> simp +contextual (maxDischargeDepth := 100) only [State.mpMod_within, State.showWait_within, State.take_within, within_ite, h,
      withinO_next]

theorem execEret_within {K : Mask} {s0 s : State} [Allowed K.regs] [Allowed K.out] [Allowed K.fresh] [Allowed K.mace] [Allowed K.irq]
    [Allowed K.host] (h : Within K s0 s) (p : Proc) : WithinO K s0 (execEret p s) := by
  unfold execEret
  split <;> simp +contextual (maxDischargeDepth := 100) only [State.illegal_within, State.instr_within, State.mpMod_within,
      State.returnHandler_within, within_ite, h, implies_true, withinO_next]

theorem execStop_within {K : Mask} {s0 s : State} [Allowed K.regs] [Allowed K.fresh] [Allowed K.mace] (h : Within K s0 s) (p : Proc) :
    WithinO K s0 (execStop p s) := by
  unfold execStop
  split <;> simp +contextual (maxDischargeDepth := 100) only [State.advance_within, State.cloveStop_within, State.illegal_within,
      State.instr_within, h, implies_true, withinO_next]

theorem State.startMove_within {K : Mask} {s0 s : State} [Allowed K.regs] [Allowed K.mace] (h : Within K s0 s) (e : Fin 16) (mv : Move) :
    Within K s0 (State.startMove s e mv) := by
  simp +contextual (maxDischargeDepth := 100) only [State.startMove, State.advance_within, State.mpMod_within, State.setA_within,
      State.showClove_within, h]

theorem execBmov_within {K : Mask} {s0 s : State} [Allowed K.regs] [Allowed K.out] [Allowed K.fresh] [Allowed K.mace] [Allowed K.irq]
    [Allowed K.host] (h : Within K s0 s) (p : Proc) (rd : Fin 32) (aL aR : Fin 8) (inward : Bool) (sel : Fin 4) : WithinO K s0
    (execBmov p rd aL aR inward sel s) := by
  unfold execBmov
  split <;> simp +contextual (maxDischargeDepth := 100) only [State.advance_within, State.illegal_within, State.instr_within, State.mpMod_within,
      State.startMove_within, State.take_within, State.waitFor_within, within_ite, h, implies_true, withinO_next]

theorem execBwait_within {K : Mask} {s0 s : State} [Allowed K.regs] [Allowed K.out] [Allowed K.fresh] [Allowed K.mace] [Allowed K.irq]
    [Allowed K.host] (h : Within K s0 s) (p : Proc) : WithinO K s0 (execBwait p s) := by
  unfold execBwait
  split <;> simp +contextual (maxDischargeDepth := 100) only [State.advance_within, State.illegal_within, State.instr_within,
      State.waitFor_within, within_ite, h, implies_true, withinO_next]

theorem State.postMod_within {K : Mask} {s0 s : State} [Allowed K.mace] (h : Within K s0 s) (pr : Proc) (a m : Nat) : Within K s0
    (State.postMod s pr a m) := by
  simp +contextual (maxDischargeDepth := 100) only [State.postMod, State.setA_within, h]

theorem State.threeBus_within {K : Mask} {s0 s : State} [Allowed K.regs] [Allowed K.mem] [Allowed K.fresh] [Allowed K.mace] (h : Within K s0 s)
    (p : Proc) (d : DBits) (op : DOp) (f : State → Opnd → Opnd → State) (hf : ∀ u x0 x1, Within K s0 u → Within K s0 (f u x0 x1)) : Within K s0
    (State.threeBus s p d op f) := by
  unfold State.threeBus
  dsimp only
  repeat' (first
      | with_reducible assumption
      | with_reducible apply within_ite
      | with_reducible apply State.advance_within
      | with_reducible apply State.doIf_within
      | with_reducible apply State.illegal_within
      | with_reducible apply State.instr_within
      | with_reducible apply State.postMod_within
      | with_reducible apply State.setG_within
      | with_reducible apply State.stBytes_within
      | with_reducible apply State.stNat_within
      | with_reducible apply State.take_within
      | (intro)
      | split
      | (simp +contextual (maxDischargeDepth := 100) only [*]; done))

theorem dMul_within {K : Mask} {s0 s : State} [Allowed K.mace] (h : Within K s0 s) (p : Proc) (d : DBits) (z : Bool) (x o : Opnd) : Within K s0
    (dMul p d z s x o) := by
  simp +contextual (maxDischargeDepth := 100) only [dMul, State.accumulate_within, h]

theorem execDMac_within {K : Mask} {s0 s : State} [Allowed K.regs] [Allowed K.mem] [Allowed K.fresh] [Allowed K.mace] (h : Within K s0 s)
    (p : Proc) (d : DBits) : WithinO K s0 (execDMac p d s) := by
  simp +contextual (maxDischargeDepth := 100) only [execDMac, State.threeBus_within, dMul_within, h, implies_true, withinO_next]

theorem execDMacz_within {K : Mask} {s0 s : State} [Allowed K.regs] [Allowed K.mem] [Allowed K.fresh] [Allowed K.mace] (h : Within K s0 s)
    (p : Proc) (d : DBits) : WithinO K s0 (execDMacz p d s) := by
  simp +contextual (maxDischargeDepth := 100) only [execDMacz, State.threeBus_within, dMul_within, h, implies_true, withinO_next]

theorem execDMacy_within {K : Mask} {s0 s : State} [Allowed K.regs] [Allowed K.mem] [Allowed K.fresh] [Allowed K.mace] (h : Within K s0 s)
    (p : Proc) (d : DBits) : WithinO K s0 (execDMacy p d s) := by
  simp +contextual (maxDischargeDepth := 100) only [execDMacy, State.threeBus_within, dMul_within, h, implies_true, withinO_next]

theorem execDMacyz_within {K : Mask} {s0 s : State} [Allowed K.regs] [Allowed K.mem] [Allowed K.fresh] [Allowed K.mace] (h : Within K s0 s)
    (p : Proc) (d : DBits) : WithinO K s0 (execDMacyz p d s) := by
  simp +contextual (maxDischargeDepth := 100) only [execDMacyz, State.threeBus_within, dMul_within, h, implies_true, withinO_next]

theorem execFtap_within {K : Mask} {s0 s : State} [Allowed K.regs] [Allowed K.mem] [Allowed K.fresh] [Allowed K.mace] (h : Within K s0 s)
    (p : Proc) (d : DBits) : WithinO K s0 (execFtap p d s) := by
  simp +contextual (maxDischargeDepth := 100) only [execFtap, State.threeBus_within, dMul_within, h, implies_true, withinO_next]

theorem execFtapz_within {K : Mask} {s0 s : State} [Allowed K.regs] [Allowed K.mem] [Allowed K.fresh] [Allowed K.mace] (h : Within K s0 s)
    (p : Proc) (d : DBits) : WithinO K s0 (execFtapz p d s) := by
  simp +contextual (maxDischargeDepth := 100) only [execFtapz, State.threeBus_within, dMul_within, h, implies_true, withinO_next]

theorem execDPow_within {K : Mask} {s0 s : State} [Allowed K.regs] [Allowed K.mem] [Allowed K.fresh] [Allowed K.mace] (h : Within K s0 s)
    (p : Proc) (d : DBits) : WithinO K s0 (execDPow p d s) := by
  simp +contextual (maxDischargeDepth := 100) only [execDPow, State.addPower_within, State.threeBus_within, h, implies_true, withinO_next]

theorem execDPowz_within {K : Mask} {s0 s : State} [Allowed K.regs] [Allowed K.mem] [Allowed K.fresh] [Allowed K.mace] (h : Within K s0 s)
    (p : Proc) (d : DBits) : WithinO K s0 (execDPowz p d s) := by
  simp +contextual (maxDischargeDepth := 100) only [execDPowz, State.addPower_within, State.threeBus_within, h, implies_true, withinO_next]

theorem execDMove_within {K : Mask} {s0 s : State} [Allowed K.regs] [Allowed K.mem] [Allowed K.fresh] [Allowed K.mace] (h : Within K s0 s)
    (p : Proc) (d : DBits) : WithinO K s0 (execDMove p d s) := by
  simp +contextual (maxDischargeDepth := 100) only [execDMove, State.threeBus_within, h, implies_true, withinO_next]

theorem execLoop_within {K : Mask} {s0 s : State} [Allowed K.regs] [Allowed K.fresh] [Allowed K.mace] (h : Within K s0 s) (p : Proc) (imm : Bool)
    (count : BitVec 13) (rc : Fin 32) (len : BitVec 12) : WithinO K s0 (execLoop p imm count rc len s) := by
  unfold execLoop
  split <;> simp +contextual (maxDischargeDepth := 100) only [State.illegal_within, State.instr_within, State.mpMod_within, State.seqTo_within,
      within_ite, h, implies_true, withinO_next]

end Sys2Proof.Machine
end

