-- ==== Sys2Proof/Laws/Processor.lean ====
section
/-! SUPPORT. A processor's state after the operations of a Mace instruction: `Only p s t` says that nothing but processor `p`
changed among the processors and, for a Curator, that no register of the device changed. -/

namespace Sys2Proof.Machine

/-! ### One processor of the twenty -/

theorem ix_inj (p q : Proc) : ix p = ix q ↔ p = q := by
  cases p <;> cases q <;> simp [ix, Fin.ext_iff] <;> omega

theorem mp_mpMod (s : State) (a b : Nat) (f : MaceSt → MaceSt) : (s.mpMod a f).mp b = if b = a then f (s.mp a) else s.mp b := by
  unfold State.mp State.mpMod tmod
  dsimp only
  split
  · rename_i h; subst h; exact tget_tset_same ..
  · rename_i h; exact tget_tset_other _ _ _ h

theorem cur_modCur (p : MaceSt) (f : Bank → Bank) : (p.modCur f).cur = f p.cur := by
  unfold MaceSt.modCur MaceSt.cur; split <;> simp_all

theorem State.instr_ready {s : State} {p : Proc} (h : s.ready p = true) (f : State → State) : s.instr p f = f s := by simp only [State.ready, Bool.and_eq_true, Option.isNone_iff_eq_none] at h; simp only [State.instr, h.1, h.2, if_true]

theorem State.mpMod_congr {s : State} {n : Nat} {f g : MaceSt → MaceSt} (h : f (s.mp n) = g (s.mp n)) : s.mpMod n f = s.mpMod n g := by unfold State.mpMod tmod; rw [show tget {} s.mace n = s.mp n from rfl, h]

/-! ### What stays with the other processors -/

/-- The other processors are as they were and, for a Curator, the registers of the device are. -/
def Only (p : Proc) (s t : State) : Prop := (∀ q, q ≠ ix p → t.mp q = s.mp q) ∧ (isCur p = true → t.regs = s.regs)

theorem mace_raise (s : State) (f : Field) : (s.raise f).mace = s.mace := rfl

theorem mace_wr (s : State) (a : Nat) (v : Word) : (s.wr a v).mace = s.mace := rfl

theorem mace_fput (s : State) (f : Field) (n : Nat) : (s.fput f n).mace = s.mace := rfl

theorem Only.refl (p : Proc) (s : State) : Only p s s := ⟨fun _ _ => rfl, fun _ => rfl⟩

theorem Only.mpMod {p : Proc} {s t : State} (h : Only p s t) (f : MaceSt → MaceSt) : Only p s (t.mpMod (ix p) f) :=
  ⟨fun q hq => by rw [mp_mpMod, if_neg hq]; exact h.1 q hq, h.2⟩

theorem Only.same {p : Proc} {s t u : State} (h : Only p s t) (hm : u.mace = t.mace) (hr : u.regs = t.regs) : Only p s u :=
  ⟨fun q hq => by rw [← h.1 q hq]; unfold State.mp; rw [hm], fun hc => hr.trans (h.2 hc)⟩

theorem Only.clove {e : Fin 16} {s t u : State} (h : Only (.clove e) s t) (hm : u.mace = t.mace) : Only (.clove e) s u :=
  ⟨fun q hq => by rw [← h.1 q hq]; unfold State.mp; rw [hm], fun hc => by cases hc⟩

theorem Only.setG {p : Proc} {s t : State} (h : Only p s t) (n : Fin 32) (v : Word) : Only p s (t.setG p n v) := by
  unfold State.setG; split; exact h; exact h.mpMod _

theorem Only.setPair {p : Proc} {s t : State} (h : Only p s t) (n : Fin 32) (v : Nat) : Only p s (t.setPair p n v) := (h.setG _ _).setG _ _

theorem Only.setA {p : Proc} {s t : State} (h : Only p s t) (n : Nat) (v : BitVec 40) : Only p s (t.setA p n v) := h.mpMod _

theorem Only.setM {p : Proc} {s t : State} (h : Only p s t) (n : Nat) (v : Word) : Only p s (t.setM p n v) := h.mpMod _

theorem Only.setAcc {p : Proc} {s t : State} (h : Only p s t) (n : Fin 4) (v : Int × Int) : Only p s (t.setAcc p n v) := h.mpMod _

theorem Only.advance {p : Proc} {s t : State} (h : Only p s t) : Only p s (t.advance p) := h.mpMod _

theorem Only.seqTo {p : Proc} {s t : State} (h : Only p s t) (n : Nat) : Only p s (t.seqTo p n) := h.mpMod _

theorem Only.jump {p : Proc} {s t : State} (h : Only p s t) (w : Word) : Only p s (t.jump p w) := h.mpMod _

theorem Only.tick1 {p : Proc} {s t : State} (h : Only p s t) : Only p s t.tick1 := h.same rfl rfl

theorem Only.dspFlag {p : Proc} {s t : State} (h : Only p s t) (k : Nat) (c : Bool) : Only p s (t.dspFlag p k c) := by
  unfold State.dspFlag; split; exact h.mpMod _; exact h

theorem Only.fputc {e : Fin 16} {s t : State} (h : Only (.clove e) s t) (f : Field) (n : Nat) : Only (.clove e) s (t.fput f n) := h.clove rfl

theorem Only.cloveStop {e : Fin 16} {s t : State} (h : Only (.clove e) s t) (k : Nat) : Only (.clove e) s (t.cloveStop e.val k) := by
  refine ⟨fun q hq => ?_, fun hc => by cases hc⟩
  rw [← h.1 q hq]
  unfold State.cloveStop
  dsimp only
  unfold State.mp
  haveI : Allowed true := ⟨rfl⟩
  rw [((State.showClove_within (K := { regs := true }) (Within.rfl' _) e.val).mace).resolve_left (by decide)]
  rw [mace_raise, mace_wr, mace_fput]
  exact (mp_mpMod t (2 + e.val) q _).trans (if_neg hq)

theorem Only.take {p : Proc} {s t : State} (h : Only p s t) (c a : Nat) : Only p s (t.take p c a) := by
  cases p with
  | cur k => exact h.mpMod _
  | clove e =>
    show Only _ s (State.cloveStop _ e.val 3)
    refine Only.cloveStop ?_ 3
    exact h.clove rfl

theorem Only.illegal {p : Proc} {s t : State} (h : Only p s t) : Only p s (t.illegal p) := Only.take h.tick1 _ _

theorem Only.instr (p : Proc) (s : State) {f : State → State} (hf : Only p s (f s)) : Only p s (s.instr p f) := by
  unfold State.instr
  split
  · split
    · exact Only.take (Only.refl p s) _ _
    · exact hf
  · exact Only.refl p s

theorem Only.csrWrite {p : Proc} {s t u : State} (h : Only p s t) (k : Nat) (v : Word) (hw : t.csrWrite p k v = some u) : Only p s u := by
  unfold State.csrWrite at hw
  dsimp only at hw
  repeat' split at hw
  all_goals first
    | (cases hw; first | exact h | exact h.mpMod _ | exact h.fputc _ _)
    | cases hw

end Sys2Proof.Machine
end

