-- ==== Sys2Proof/Laws/Units.lean ====
section
/-!
SUPPORT. Laws/Units.lean: what the update of one unit's state changes, field by field.
-/
namespace Sys2Proof.Machine

/-! ### laneMod -/

@[simp] theorem State.laneMod_regs (s : State) (n : Nat) (f : LaneSt → LaneSt) : (s.laneMod n f).regs = s.regs := rfl
@[simp] theorem State.laneMod_mem (s : State) (n : Nat) (f : LaneSt → LaneSt) : (s.laneMod n f).mem = s.mem := rfl
@[simp] theorem State.laneMod_carrelEra (s : State) (n : Nat) (f : LaneSt → LaneSt) : (s.laneMod n f).carrelEra = s.carrelEra := rfl
@[simp] theorem State.laneMod_poison (s : State) (n : Nat) (f : LaneSt → LaneSt) : (s.laneMod n f).poison = s.poison := rfl
@[simp] theorem State.laneMod_oldRegs (s : State) (n : Nat) (f : LaneSt → LaneSt) : (s.laneMod n f).oldRegs = s.oldRegs := rfl
@[simp] theorem State.laneMod_hiLatch (s : State) (n : Nat) (f : LaneSt → LaneSt) : (s.laneMod n f).hiLatch = s.hiLatch := rfl
@[simp] theorem State.laneMod_accSi (s : State) (n : Nat) (f : LaneSt → LaneSt) : (s.laneMod n f).accSi = s.accSi := rfl
@[simp] theorem State.laneMod_out (s : State) (n : Nat) (f : LaneSt → LaneSt) : (s.laneMod n f).out = s.out := rfl
@[simp] theorem State.laneMod_fresh (s : State) (n : Nat) (f : LaneSt → LaneSt) : (s.laneMod n f).fresh = s.fresh := rfl
@[simp] theorem State.laneMod_lanes (s : State) (n : Nat) (f : LaneSt → LaneSt) : (s.laneMod n f).lanes = tmod {} s.lanes n f := rfl
@[simp] theorem State.laneMod_quireNext (s : State) (n : Nat) (f : LaneSt → LaneSt) : (s.laneMod n f).quireNext = s.quireNext := rfl
@[simp] theorem State.laneMod_egress (s : State) (n : Nat) (f : LaneSt → LaneSt) : (s.laneMod n f).egress = s.egress := rfl
@[simp] theorem State.laneMod_ingest (s : State) (n : Nat) (f : LaneSt → LaneSt) : (s.laneMod n f).ingest = s.ingest := rfl
@[simp] theorem State.laneMod_time (s : State) (n : Nat) (f : LaneSt → LaneSt) : (s.laneMod n f).time = s.time := rfl
@[simp] theorem State.laneMod_sheds (s : State) (n : Nat) (f : LaneSt → LaneSt) : (s.laneMod n f).sheds = s.sheds := rfl
@[simp] theorem State.laneMod_array (s : State) (n : Nat) (f : LaneSt → LaneSt) : (s.laneMod n f).array = s.array := rfl
@[simp] theorem State.laneMod_accum (s : State) (n : Nat) (f : LaneSt → LaneSt) : (s.laneMod n f).accum = s.accum := rfl
@[simp] theorem State.laneMod_beam (s : State) (n : Nat) (f : LaneSt → LaneSt) : (s.laneMod n f).beam = s.beam := rfl
@[simp] theorem State.laneMod_cat (s : State) (n : Nat) (f : LaneSt → LaneSt) : (s.laneMod n f).cat = s.cat := rfl
@[simp] theorem State.laneMod_chain (s : State) (n : Nat) (f : LaneSt → LaneSt) : (s.laneMod n f).chain = s.chain := rfl
@[simp] theorem State.laneMod_snap (s : State) (n : Nat) (f : LaneSt → LaneSt) : (s.laneMod n f).snap = s.snap := rfl
@[simp] theorem State.laneMod_hbm (s : State) (n : Nat) (f : LaneSt → LaneSt) : (s.laneMod n f).hbm = s.hbm := rfl
@[simp] theorem State.laneMod_power (s : State) (n : Nat) (f : LaneSt → LaneSt) : (s.laneMod n f).power = s.power := rfl
@[simp] theorem State.laneMod_matrix (s : State) (n : Nat) (f : LaneSt → LaneSt) : (s.laneMod n f).matrix = s.matrix := rfl
@[simp] theorem State.laneMod_dma (s : State) (n : Nat) (f : LaneSt → LaneSt) : (s.laneMod n f).dma = s.dma := rfl
@[simp] theorem State.laneMod_lastOwner (s : State) (n : Nat) (f : LaneSt → LaneSt) : (s.laneMod n f).lastOwner = s.lastOwner := rfl
@[simp] theorem State.laneMod_mace (s : State) (n : Nat) (f : LaneSt → LaneSt) : (s.laneMod n f).mace = s.mace := rfl
@[simp] theorem State.laneMod_irq (s : State) (n : Nat) (f : LaneSt → LaneSt) : (s.laneMod n f).irq = s.irq := rfl
@[simp] theorem State.laneMod_boot (s : State) (n : Nat) (f : LaneSt → LaneSt) : (s.laneMod n f).boot = s.boot := rfl
@[simp] theorem State.laneMod_host (s : State) (n : Nat) (f : LaneSt → LaneSt) : (s.laneMod n f).host = s.host := rfl
@[simp] theorem State.laneMod_tap (s : State) (n : Nat) (f : LaneSt → LaneSt) : (s.laneMod n f).tap = s.tap := rfl
@[simp] theorem State.laneMod_pending (s : State) (n : Nat) (f : LaneSt → LaneSt) : (s.laneMod n f).pending = s.pending := rfl
@[simp] theorem State.laneMod_rd (s : State) (n : Nat) (f : LaneSt → LaneSt) (x : Nat) : (s.laneMod n f).rd x = s.rd x := rfl
@[simp] theorem State.laneMod_rdN (s : State) (n : Nat) (f : LaneSt → LaneSt) (x : Nat) : (s.laneMod n f).rdN x = s.rdN x := rfl
@[simp] theorem State.laneMod_fget (s : State) (n : Nat) (f : LaneSt → LaneSt) (x : Field) : (s.laneMod n f).fget x = s.fget x := rfl
@[simp] theorem State.laneMod_fbit (s : State) (n : Nat) (f : LaneSt → LaneSt) (x : Field) : (s.laneMod n f).fbit x = s.fbit x := rfl
@[simp] theorem State.laneMod_ldb (s : State) (n : Nat) (f : LaneSt → LaneSt) (x : Nat) : (s.laneMod n f).ldb x = s.ldb x := rfl

/-! ### mpMod -/

@[simp] theorem State.mpMod_regs (s : State) (p : Nat) (f : MaceSt → MaceSt) : (s.mpMod p f).regs = s.regs := rfl
@[simp] theorem State.mpMod_mem (s : State) (p : Nat) (f : MaceSt → MaceSt) : (s.mpMod p f).mem = s.mem := rfl
@[simp] theorem State.mpMod_carrelEra (s : State) (p : Nat) (f : MaceSt → MaceSt) : (s.mpMod p f).carrelEra = s.carrelEra := rfl
@[simp] theorem State.mpMod_poison (s : State) (p : Nat) (f : MaceSt → MaceSt) : (s.mpMod p f).poison = s.poison := rfl
@[simp] theorem State.mpMod_oldRegs (s : State) (p : Nat) (f : MaceSt → MaceSt) : (s.mpMod p f).oldRegs = s.oldRegs := rfl
@[simp] theorem State.mpMod_hiLatch (s : State) (p : Nat) (f : MaceSt → MaceSt) : (s.mpMod p f).hiLatch = s.hiLatch := rfl
@[simp] theorem State.mpMod_accSi (s : State) (p : Nat) (f : MaceSt → MaceSt) : (s.mpMod p f).accSi = s.accSi := rfl
@[simp] theorem State.mpMod_out (s : State) (p : Nat) (f : MaceSt → MaceSt) : (s.mpMod p f).out = s.out := rfl
@[simp] theorem State.mpMod_fresh (s : State) (p : Nat) (f : MaceSt → MaceSt) : (s.mpMod p f).fresh = s.fresh := rfl
@[simp] theorem State.mpMod_lanes (s : State) (p : Nat) (f : MaceSt → MaceSt) : (s.mpMod p f).lanes = s.lanes := rfl
@[simp] theorem State.mpMod_quireNext (s : State) (p : Nat) (f : MaceSt → MaceSt) : (s.mpMod p f).quireNext = s.quireNext := rfl
@[simp] theorem State.mpMod_egress (s : State) (p : Nat) (f : MaceSt → MaceSt) : (s.mpMod p f).egress = s.egress := rfl
@[simp] theorem State.mpMod_ingest (s : State) (p : Nat) (f : MaceSt → MaceSt) : (s.mpMod p f).ingest = s.ingest := rfl
@[simp] theorem State.mpMod_time (s : State) (p : Nat) (f : MaceSt → MaceSt) : (s.mpMod p f).time = s.time := rfl
@[simp] theorem State.mpMod_sheds (s : State) (p : Nat) (f : MaceSt → MaceSt) : (s.mpMod p f).sheds = s.sheds := rfl
@[simp] theorem State.mpMod_array (s : State) (p : Nat) (f : MaceSt → MaceSt) : (s.mpMod p f).array = s.array := rfl
@[simp] theorem State.mpMod_accum (s : State) (p : Nat) (f : MaceSt → MaceSt) : (s.mpMod p f).accum = s.accum := rfl
@[simp] theorem State.mpMod_beam (s : State) (p : Nat) (f : MaceSt → MaceSt) : (s.mpMod p f).beam = s.beam := rfl
@[simp] theorem State.mpMod_cat (s : State) (p : Nat) (f : MaceSt → MaceSt) : (s.mpMod p f).cat = s.cat := rfl
@[simp] theorem State.mpMod_chain (s : State) (p : Nat) (f : MaceSt → MaceSt) : (s.mpMod p f).chain = s.chain := rfl
@[simp] theorem State.mpMod_snap (s : State) (p : Nat) (f : MaceSt → MaceSt) : (s.mpMod p f).snap = s.snap := rfl
@[simp] theorem State.mpMod_hbm (s : State) (p : Nat) (f : MaceSt → MaceSt) : (s.mpMod p f).hbm = s.hbm := rfl
@[simp] theorem State.mpMod_power (s : State) (p : Nat) (f : MaceSt → MaceSt) : (s.mpMod p f).power = s.power := rfl
@[simp] theorem State.mpMod_matrix (s : State) (p : Nat) (f : MaceSt → MaceSt) : (s.mpMod p f).matrix = s.matrix := rfl
@[simp] theorem State.mpMod_dma (s : State) (p : Nat) (f : MaceSt → MaceSt) : (s.mpMod p f).dma = s.dma := rfl
@[simp] theorem State.mpMod_lastOwner (s : State) (p : Nat) (f : MaceSt → MaceSt) : (s.mpMod p f).lastOwner = s.lastOwner := rfl
@[simp] theorem State.mpMod_mace (s : State) (p : Nat) (f : MaceSt → MaceSt) : (s.mpMod p f).mace = tmod {} s.mace p f := rfl
@[simp] theorem State.mpMod_irq (s : State) (p : Nat) (f : MaceSt → MaceSt) : (s.mpMod p f).irq = s.irq := rfl
@[simp] theorem State.mpMod_boot (s : State) (p : Nat) (f : MaceSt → MaceSt) : (s.mpMod p f).boot = s.boot := rfl
@[simp] theorem State.mpMod_host (s : State) (p : Nat) (f : MaceSt → MaceSt) : (s.mpMod p f).host = s.host := rfl
@[simp] theorem State.mpMod_tap (s : State) (p : Nat) (f : MaceSt → MaceSt) : (s.mpMod p f).tap = s.tap := rfl
@[simp] theorem State.mpMod_pending (s : State) (p : Nat) (f : MaceSt → MaceSt) : (s.mpMod p f).pending = s.pending := rfl
@[simp] theorem State.mpMod_rd (s : State) (p : Nat) (f : MaceSt → MaceSt) (x : Nat) : (s.mpMod p f).rd x = s.rd x := rfl
@[simp] theorem State.mpMod_rdN (s : State) (p : Nat) (f : MaceSt → MaceSt) (x : Nat) : (s.mpMod p f).rdN x = s.rdN x := rfl
@[simp] theorem State.mpMod_fget (s : State) (p : Nat) (f : MaceSt → MaceSt) (x : Field) : (s.mpMod p f).fget x = s.fget x := rfl
@[simp] theorem State.mpMod_fbit (s : State) (p : Nat) (f : MaceSt → MaceSt) (x : Field) : (s.mpMod p f).fbit x = s.fbit x := rfl
@[simp] theorem State.mpMod_ldb (s : State) (p : Nat) (f : MaceSt → MaceSt) (x : Nat) : (s.mpMod p f).ldb x = s.ldb x := rfl

/-! ### ingMod -/

@[simp] theorem State.ingMod_regs (s : State) (f : IngestSt → IngestSt) : (s.ingMod f).regs = s.regs := rfl
@[simp] theorem State.ingMod_mem (s : State) (f : IngestSt → IngestSt) : (s.ingMod f).mem = s.mem := rfl
@[simp] theorem State.ingMod_carrelEra (s : State) (f : IngestSt → IngestSt) : (s.ingMod f).carrelEra = s.carrelEra := rfl
@[simp] theorem State.ingMod_poison (s : State) (f : IngestSt → IngestSt) : (s.ingMod f).poison = s.poison := rfl
@[simp] theorem State.ingMod_oldRegs (s : State) (f : IngestSt → IngestSt) : (s.ingMod f).oldRegs = s.oldRegs := rfl
@[simp] theorem State.ingMod_hiLatch (s : State) (f : IngestSt → IngestSt) : (s.ingMod f).hiLatch = s.hiLatch := rfl
@[simp] theorem State.ingMod_accSi (s : State) (f : IngestSt → IngestSt) : (s.ingMod f).accSi = s.accSi := rfl
@[simp] theorem State.ingMod_out (s : State) (f : IngestSt → IngestSt) : (s.ingMod f).out = s.out := rfl
@[simp] theorem State.ingMod_fresh (s : State) (f : IngestSt → IngestSt) : (s.ingMod f).fresh = s.fresh := rfl
@[simp] theorem State.ingMod_lanes (s : State) (f : IngestSt → IngestSt) : (s.ingMod f).lanes = s.lanes := rfl
@[simp] theorem State.ingMod_quireNext (s : State) (f : IngestSt → IngestSt) : (s.ingMod f).quireNext = s.quireNext := rfl
@[simp] theorem State.ingMod_egress (s : State) (f : IngestSt → IngestSt) : (s.ingMod f).egress = s.egress := rfl
@[simp] theorem State.ingMod_ingest (s : State) (f : IngestSt → IngestSt) : (s.ingMod f).ingest = f s.ingest := rfl
@[simp] theorem State.ingMod_time (s : State) (f : IngestSt → IngestSt) : (s.ingMod f).time = s.time := rfl
@[simp] theorem State.ingMod_sheds (s : State) (f : IngestSt → IngestSt) : (s.ingMod f).sheds = s.sheds := rfl
@[simp] theorem State.ingMod_array (s : State) (f : IngestSt → IngestSt) : (s.ingMod f).array = s.array := rfl
@[simp] theorem State.ingMod_accum (s : State) (f : IngestSt → IngestSt) : (s.ingMod f).accum = s.accum := rfl
@[simp] theorem State.ingMod_beam (s : State) (f : IngestSt → IngestSt) : (s.ingMod f).beam = s.beam := rfl
@[simp] theorem State.ingMod_cat (s : State) (f : IngestSt → IngestSt) : (s.ingMod f).cat = s.cat := rfl
@[simp] theorem State.ingMod_chain (s : State) (f : IngestSt → IngestSt) : (s.ingMod f).chain = s.chain := rfl
@[simp] theorem State.ingMod_snap (s : State) (f : IngestSt → IngestSt) : (s.ingMod f).snap = s.snap := rfl
@[simp] theorem State.ingMod_hbm (s : State) (f : IngestSt → IngestSt) : (s.ingMod f).hbm = s.hbm := rfl
@[simp] theorem State.ingMod_power (s : State) (f : IngestSt → IngestSt) : (s.ingMod f).power = s.power := rfl
@[simp] theorem State.ingMod_matrix (s : State) (f : IngestSt → IngestSt) : (s.ingMod f).matrix = s.matrix := rfl
@[simp] theorem State.ingMod_dma (s : State) (f : IngestSt → IngestSt) : (s.ingMod f).dma = s.dma := rfl
@[simp] theorem State.ingMod_lastOwner (s : State) (f : IngestSt → IngestSt) : (s.ingMod f).lastOwner = s.lastOwner := rfl
@[simp] theorem State.ingMod_mace (s : State) (f : IngestSt → IngestSt) : (s.ingMod f).mace = s.mace := rfl
@[simp] theorem State.ingMod_irq (s : State) (f : IngestSt → IngestSt) : (s.ingMod f).irq = s.irq := rfl
@[simp] theorem State.ingMod_boot (s : State) (f : IngestSt → IngestSt) : (s.ingMod f).boot = s.boot := rfl
@[simp] theorem State.ingMod_host (s : State) (f : IngestSt → IngestSt) : (s.ingMod f).host = s.host := rfl
@[simp] theorem State.ingMod_tap (s : State) (f : IngestSt → IngestSt) : (s.ingMod f).tap = s.tap := rfl
@[simp] theorem State.ingMod_pending (s : State) (f : IngestSt → IngestSt) : (s.ingMod f).pending = s.pending := rfl
@[simp] theorem State.ingMod_rd (s : State) (f : IngestSt → IngestSt) (x : Nat) : (s.ingMod f).rd x = s.rd x := rfl
@[simp] theorem State.ingMod_rdN (s : State) (f : IngestSt → IngestSt) (x : Nat) : (s.ingMod f).rdN x = s.rdN x := rfl
@[simp] theorem State.ingMod_fget (s : State) (f : IngestSt → IngestSt) (x : Field) : (s.ingMod f).fget x = s.fget x := rfl
@[simp] theorem State.ingMod_fbit (s : State) (f : IngestSt → IngestSt) (x : Field) : (s.ingMod f).fbit x = s.fbit x := rfl
@[simp] theorem State.ingMod_ldb (s : State) (f : IngestSt → IngestSt) (x : Nat) : (s.ingMod f).ldb x = s.ldb x := rfl

/-! ### arrMod -/

@[simp] theorem State.arrMod_regs (s : State) (f : ArraySt → ArraySt) : (s.arrMod f).regs = s.regs := rfl
@[simp] theorem State.arrMod_mem (s : State) (f : ArraySt → ArraySt) : (s.arrMod f).mem = s.mem := rfl
@[simp] theorem State.arrMod_carrelEra (s : State) (f : ArraySt → ArraySt) : (s.arrMod f).carrelEra = s.carrelEra := rfl
@[simp] theorem State.arrMod_poison (s : State) (f : ArraySt → ArraySt) : (s.arrMod f).poison = s.poison := rfl
@[simp] theorem State.arrMod_oldRegs (s : State) (f : ArraySt → ArraySt) : (s.arrMod f).oldRegs = s.oldRegs := rfl
@[simp] theorem State.arrMod_hiLatch (s : State) (f : ArraySt → ArraySt) : (s.arrMod f).hiLatch = s.hiLatch := rfl
@[simp] theorem State.arrMod_accSi (s : State) (f : ArraySt → ArraySt) : (s.arrMod f).accSi = s.accSi := rfl
@[simp] theorem State.arrMod_out (s : State) (f : ArraySt → ArraySt) : (s.arrMod f).out = s.out := rfl
@[simp] theorem State.arrMod_fresh (s : State) (f : ArraySt → ArraySt) : (s.arrMod f).fresh = s.fresh := rfl
@[simp] theorem State.arrMod_lanes (s : State) (f : ArraySt → ArraySt) : (s.arrMod f).lanes = s.lanes := rfl
@[simp] theorem State.arrMod_quireNext (s : State) (f : ArraySt → ArraySt) : (s.arrMod f).quireNext = s.quireNext := rfl
@[simp] theorem State.arrMod_egress (s : State) (f : ArraySt → ArraySt) : (s.arrMod f).egress = s.egress := rfl
@[simp] theorem State.arrMod_ingest (s : State) (f : ArraySt → ArraySt) : (s.arrMod f).ingest = s.ingest := rfl
@[simp] theorem State.arrMod_time (s : State) (f : ArraySt → ArraySt) : (s.arrMod f).time = s.time := rfl
@[simp] theorem State.arrMod_sheds (s : State) (f : ArraySt → ArraySt) : (s.arrMod f).sheds = s.sheds := rfl
@[simp] theorem State.arrMod_array (s : State) (f : ArraySt → ArraySt) : (s.arrMod f).array = f s.array := rfl
@[simp] theorem State.arrMod_accum (s : State) (f : ArraySt → ArraySt) : (s.arrMod f).accum = s.accum := rfl
@[simp] theorem State.arrMod_beam (s : State) (f : ArraySt → ArraySt) : (s.arrMod f).beam = s.beam := rfl
@[simp] theorem State.arrMod_cat (s : State) (f : ArraySt → ArraySt) : (s.arrMod f).cat = s.cat := rfl
@[simp] theorem State.arrMod_chain (s : State) (f : ArraySt → ArraySt) : (s.arrMod f).chain = s.chain := rfl
@[simp] theorem State.arrMod_snap (s : State) (f : ArraySt → ArraySt) : (s.arrMod f).snap = s.snap := rfl
@[simp] theorem State.arrMod_hbm (s : State) (f : ArraySt → ArraySt) : (s.arrMod f).hbm = s.hbm := rfl
@[simp] theorem State.arrMod_power (s : State) (f : ArraySt → ArraySt) : (s.arrMod f).power = s.power := rfl
@[simp] theorem State.arrMod_matrix (s : State) (f : ArraySt → ArraySt) : (s.arrMod f).matrix = s.matrix := rfl
@[simp] theorem State.arrMod_dma (s : State) (f : ArraySt → ArraySt) : (s.arrMod f).dma = s.dma := rfl
@[simp] theorem State.arrMod_lastOwner (s : State) (f : ArraySt → ArraySt) : (s.arrMod f).lastOwner = s.lastOwner := rfl
@[simp] theorem State.arrMod_mace (s : State) (f : ArraySt → ArraySt) : (s.arrMod f).mace = s.mace := rfl
@[simp] theorem State.arrMod_irq (s : State) (f : ArraySt → ArraySt) : (s.arrMod f).irq = s.irq := rfl
@[simp] theorem State.arrMod_boot (s : State) (f : ArraySt → ArraySt) : (s.arrMod f).boot = s.boot := rfl
@[simp] theorem State.arrMod_host (s : State) (f : ArraySt → ArraySt) : (s.arrMod f).host = s.host := rfl
@[simp] theorem State.arrMod_tap (s : State) (f : ArraySt → ArraySt) : (s.arrMod f).tap = s.tap := rfl
@[simp] theorem State.arrMod_pending (s : State) (f : ArraySt → ArraySt) : (s.arrMod f).pending = s.pending := rfl
@[simp] theorem State.arrMod_rd (s : State) (f : ArraySt → ArraySt) (x : Nat) : (s.arrMod f).rd x = s.rd x := rfl
@[simp] theorem State.arrMod_rdN (s : State) (f : ArraySt → ArraySt) (x : Nat) : (s.arrMod f).rdN x = s.rdN x := rfl
@[simp] theorem State.arrMod_fget (s : State) (f : ArraySt → ArraySt) (x : Field) : (s.arrMod f).fget x = s.fget x := rfl
@[simp] theorem State.arrMod_fbit (s : State) (f : ArraySt → ArraySt) (x : Field) : (s.arrMod f).fbit x = s.fbit x := rfl
@[simp] theorem State.arrMod_ldb (s : State) (f : ArraySt → ArraySt) (x : Nat) : (s.arrMod f).ldb x = s.ldb x := rfl

/-! ### accMod -/

@[simp] theorem State.accMod_regs (s : State) (f : AccumSt → AccumSt) : (s.accMod f).regs = s.regs := rfl
@[simp] theorem State.accMod_mem (s : State) (f : AccumSt → AccumSt) : (s.accMod f).mem = s.mem := rfl
@[simp] theorem State.accMod_carrelEra (s : State) (f : AccumSt → AccumSt) : (s.accMod f).carrelEra = s.carrelEra := rfl
@[simp] theorem State.accMod_poison (s : State) (f : AccumSt → AccumSt) : (s.accMod f).poison = s.poison := rfl
@[simp] theorem State.accMod_oldRegs (s : State) (f : AccumSt → AccumSt) : (s.accMod f).oldRegs = s.oldRegs := rfl
@[simp] theorem State.accMod_hiLatch (s : State) (f : AccumSt → AccumSt) : (s.accMod f).hiLatch = s.hiLatch := rfl
@[simp] theorem State.accMod_accSi (s : State) (f : AccumSt → AccumSt) : (s.accMod f).accSi = s.accSi := rfl
@[simp] theorem State.accMod_out (s : State) (f : AccumSt → AccumSt) : (s.accMod f).out = s.out := rfl
@[simp] theorem State.accMod_fresh (s : State) (f : AccumSt → AccumSt) : (s.accMod f).fresh = s.fresh := rfl
@[simp] theorem State.accMod_lanes (s : State) (f : AccumSt → AccumSt) : (s.accMod f).lanes = s.lanes := rfl
@[simp] theorem State.accMod_quireNext (s : State) (f : AccumSt → AccumSt) : (s.accMod f).quireNext = s.quireNext := rfl
@[simp] theorem State.accMod_egress (s : State) (f : AccumSt → AccumSt) : (s.accMod f).egress = s.egress := rfl
@[simp] theorem State.accMod_ingest (s : State) (f : AccumSt → AccumSt) : (s.accMod f).ingest = s.ingest := rfl
@[simp] theorem State.accMod_time (s : State) (f : AccumSt → AccumSt) : (s.accMod f).time = s.time := rfl
@[simp] theorem State.accMod_sheds (s : State) (f : AccumSt → AccumSt) : (s.accMod f).sheds = s.sheds := rfl
@[simp] theorem State.accMod_array (s : State) (f : AccumSt → AccumSt) : (s.accMod f).array = s.array := rfl
@[simp] theorem State.accMod_accum (s : State) (f : AccumSt → AccumSt) : (s.accMod f).accum = f s.accum := rfl
@[simp] theorem State.accMod_beam (s : State) (f : AccumSt → AccumSt) : (s.accMod f).beam = s.beam := rfl
@[simp] theorem State.accMod_cat (s : State) (f : AccumSt → AccumSt) : (s.accMod f).cat = s.cat := rfl
@[simp] theorem State.accMod_chain (s : State) (f : AccumSt → AccumSt) : (s.accMod f).chain = s.chain := rfl
@[simp] theorem State.accMod_snap (s : State) (f : AccumSt → AccumSt) : (s.accMod f).snap = s.snap := rfl
@[simp] theorem State.accMod_hbm (s : State) (f : AccumSt → AccumSt) : (s.accMod f).hbm = s.hbm := rfl
@[simp] theorem State.accMod_power (s : State) (f : AccumSt → AccumSt) : (s.accMod f).power = s.power := rfl
@[simp] theorem State.accMod_matrix (s : State) (f : AccumSt → AccumSt) : (s.accMod f).matrix = s.matrix := rfl
@[simp] theorem State.accMod_dma (s : State) (f : AccumSt → AccumSt) : (s.accMod f).dma = s.dma := rfl
@[simp] theorem State.accMod_lastOwner (s : State) (f : AccumSt → AccumSt) : (s.accMod f).lastOwner = s.lastOwner := rfl
@[simp] theorem State.accMod_mace (s : State) (f : AccumSt → AccumSt) : (s.accMod f).mace = s.mace := rfl
@[simp] theorem State.accMod_irq (s : State) (f : AccumSt → AccumSt) : (s.accMod f).irq = s.irq := rfl
@[simp] theorem State.accMod_boot (s : State) (f : AccumSt → AccumSt) : (s.accMod f).boot = s.boot := rfl
@[simp] theorem State.accMod_host (s : State) (f : AccumSt → AccumSt) : (s.accMod f).host = s.host := rfl
@[simp] theorem State.accMod_tap (s : State) (f : AccumSt → AccumSt) : (s.accMod f).tap = s.tap := rfl
@[simp] theorem State.accMod_pending (s : State) (f : AccumSt → AccumSt) : (s.accMod f).pending = s.pending := rfl
@[simp] theorem State.accMod_rd (s : State) (f : AccumSt → AccumSt) (x : Nat) : (s.accMod f).rd x = s.rd x := rfl
@[simp] theorem State.accMod_rdN (s : State) (f : AccumSt → AccumSt) (x : Nat) : (s.accMod f).rdN x = s.rdN x := rfl
@[simp] theorem State.accMod_fget (s : State) (f : AccumSt → AccumSt) (x : Field) : (s.accMod f).fget x = s.fget x := rfl
@[simp] theorem State.accMod_fbit (s : State) (f : AccumSt → AccumSt) (x : Field) : (s.accMod f).fbit x = s.fbit x := rfl
@[simp] theorem State.accMod_ldb (s : State) (f : AccumSt → AccumSt) (x : Nat) : (s.accMod f).ldb x = s.ldb x := rfl

/-! ### beamMod -/

@[simp] theorem State.beamMod_regs (s : State) (f : BeamSt → BeamSt) : (s.beamMod f).regs = s.regs := rfl
@[simp] theorem State.beamMod_mem (s : State) (f : BeamSt → BeamSt) : (s.beamMod f).mem = s.mem := rfl
@[simp] theorem State.beamMod_carrelEra (s : State) (f : BeamSt → BeamSt) : (s.beamMod f).carrelEra = s.carrelEra := rfl
@[simp] theorem State.beamMod_poison (s : State) (f : BeamSt → BeamSt) : (s.beamMod f).poison = s.poison := rfl
@[simp] theorem State.beamMod_oldRegs (s : State) (f : BeamSt → BeamSt) : (s.beamMod f).oldRegs = s.oldRegs := rfl
@[simp] theorem State.beamMod_hiLatch (s : State) (f : BeamSt → BeamSt) : (s.beamMod f).hiLatch = s.hiLatch := rfl
@[simp] theorem State.beamMod_accSi (s : State) (f : BeamSt → BeamSt) : (s.beamMod f).accSi = s.accSi := rfl
@[simp] theorem State.beamMod_out (s : State) (f : BeamSt → BeamSt) : (s.beamMod f).out = s.out := rfl
@[simp] theorem State.beamMod_fresh (s : State) (f : BeamSt → BeamSt) : (s.beamMod f).fresh = s.fresh := rfl
@[simp] theorem State.beamMod_lanes (s : State) (f : BeamSt → BeamSt) : (s.beamMod f).lanes = s.lanes := rfl
@[simp] theorem State.beamMod_quireNext (s : State) (f : BeamSt → BeamSt) : (s.beamMod f).quireNext = s.quireNext := rfl
@[simp] theorem State.beamMod_egress (s : State) (f : BeamSt → BeamSt) : (s.beamMod f).egress = s.egress := rfl
@[simp] theorem State.beamMod_ingest (s : State) (f : BeamSt → BeamSt) : (s.beamMod f).ingest = s.ingest := rfl
@[simp] theorem State.beamMod_time (s : State) (f : BeamSt → BeamSt) : (s.beamMod f).time = s.time := rfl
@[simp] theorem State.beamMod_sheds (s : State) (f : BeamSt → BeamSt) : (s.beamMod f).sheds = s.sheds := rfl
@[simp] theorem State.beamMod_array (s : State) (f : BeamSt → BeamSt) : (s.beamMod f).array = s.array := rfl
@[simp] theorem State.beamMod_accum (s : State) (f : BeamSt → BeamSt) : (s.beamMod f).accum = s.accum := rfl
@[simp] theorem State.beamMod_beam (s : State) (f : BeamSt → BeamSt) : (s.beamMod f).beam = f s.beam := rfl
@[simp] theorem State.beamMod_cat (s : State) (f : BeamSt → BeamSt) : (s.beamMod f).cat = s.cat := rfl
@[simp] theorem State.beamMod_chain (s : State) (f : BeamSt → BeamSt) : (s.beamMod f).chain = s.chain := rfl
@[simp] theorem State.beamMod_snap (s : State) (f : BeamSt → BeamSt) : (s.beamMod f).snap = s.snap := rfl
@[simp] theorem State.beamMod_hbm (s : State) (f : BeamSt → BeamSt) : (s.beamMod f).hbm = s.hbm := rfl
@[simp] theorem State.beamMod_power (s : State) (f : BeamSt → BeamSt) : (s.beamMod f).power = s.power := rfl
@[simp] theorem State.beamMod_matrix (s : State) (f : BeamSt → BeamSt) : (s.beamMod f).matrix = s.matrix := rfl
@[simp] theorem State.beamMod_dma (s : State) (f : BeamSt → BeamSt) : (s.beamMod f).dma = s.dma := rfl
@[simp] theorem State.beamMod_lastOwner (s : State) (f : BeamSt → BeamSt) : (s.beamMod f).lastOwner = s.lastOwner := rfl
@[simp] theorem State.beamMod_mace (s : State) (f : BeamSt → BeamSt) : (s.beamMod f).mace = s.mace := rfl
@[simp] theorem State.beamMod_irq (s : State) (f : BeamSt → BeamSt) : (s.beamMod f).irq = s.irq := rfl
@[simp] theorem State.beamMod_boot (s : State) (f : BeamSt → BeamSt) : (s.beamMod f).boot = s.boot := rfl
@[simp] theorem State.beamMod_host (s : State) (f : BeamSt → BeamSt) : (s.beamMod f).host = s.host := rfl
@[simp] theorem State.beamMod_tap (s : State) (f : BeamSt → BeamSt) : (s.beamMod f).tap = s.tap := rfl
@[simp] theorem State.beamMod_pending (s : State) (f : BeamSt → BeamSt) : (s.beamMod f).pending = s.pending := rfl
@[simp] theorem State.beamMod_rd (s : State) (f : BeamSt → BeamSt) (x : Nat) : (s.beamMod f).rd x = s.rd x := rfl
@[simp] theorem State.beamMod_rdN (s : State) (f : BeamSt → BeamSt) (x : Nat) : (s.beamMod f).rdN x = s.rdN x := rfl
@[simp] theorem State.beamMod_fget (s : State) (f : BeamSt → BeamSt) (x : Field) : (s.beamMod f).fget x = s.fget x := rfl
@[simp] theorem State.beamMod_fbit (s : State) (f : BeamSt → BeamSt) (x : Field) : (s.beamMod f).fbit x = s.fbit x := rfl
@[simp] theorem State.beamMod_ldb (s : State) (f : BeamSt → BeamSt) (x : Nat) : (s.beamMod f).ldb x = s.ldb x := rfl

/-! ### catMod -/

@[simp] theorem State.catMod_regs (s : State) (f : CatSt → CatSt) : (s.catMod f).regs = s.regs := rfl
@[simp] theorem State.catMod_mem (s : State) (f : CatSt → CatSt) : (s.catMod f).mem = s.mem := rfl
@[simp] theorem State.catMod_carrelEra (s : State) (f : CatSt → CatSt) : (s.catMod f).carrelEra = s.carrelEra := rfl
@[simp] theorem State.catMod_poison (s : State) (f : CatSt → CatSt) : (s.catMod f).poison = s.poison := rfl
@[simp] theorem State.catMod_oldRegs (s : State) (f : CatSt → CatSt) : (s.catMod f).oldRegs = s.oldRegs := rfl
@[simp] theorem State.catMod_hiLatch (s : State) (f : CatSt → CatSt) : (s.catMod f).hiLatch = s.hiLatch := rfl
@[simp] theorem State.catMod_accSi (s : State) (f : CatSt → CatSt) : (s.catMod f).accSi = s.accSi := rfl
@[simp] theorem State.catMod_out (s : State) (f : CatSt → CatSt) : (s.catMod f).out = s.out := rfl
@[simp] theorem State.catMod_fresh (s : State) (f : CatSt → CatSt) : (s.catMod f).fresh = s.fresh := rfl
@[simp] theorem State.catMod_lanes (s : State) (f : CatSt → CatSt) : (s.catMod f).lanes = s.lanes := rfl
@[simp] theorem State.catMod_quireNext (s : State) (f : CatSt → CatSt) : (s.catMod f).quireNext = s.quireNext := rfl
@[simp] theorem State.catMod_egress (s : State) (f : CatSt → CatSt) : (s.catMod f).egress = s.egress := rfl
@[simp] theorem State.catMod_ingest (s : State) (f : CatSt → CatSt) : (s.catMod f).ingest = s.ingest := rfl
@[simp] theorem State.catMod_time (s : State) (f : CatSt → CatSt) : (s.catMod f).time = s.time := rfl
@[simp] theorem State.catMod_sheds (s : State) (f : CatSt → CatSt) : (s.catMod f).sheds = s.sheds := rfl
@[simp] theorem State.catMod_array (s : State) (f : CatSt → CatSt) : (s.catMod f).array = s.array := rfl
@[simp] theorem State.catMod_accum (s : State) (f : CatSt → CatSt) : (s.catMod f).accum = s.accum := rfl
@[simp] theorem State.catMod_beam (s : State) (f : CatSt → CatSt) : (s.catMod f).beam = s.beam := rfl
@[simp] theorem State.catMod_cat (s : State) (f : CatSt → CatSt) : (s.catMod f).cat = f s.cat := rfl
@[simp] theorem State.catMod_chain (s : State) (f : CatSt → CatSt) : (s.catMod f).chain = s.chain := rfl
@[simp] theorem State.catMod_snap (s : State) (f : CatSt → CatSt) : (s.catMod f).snap = s.snap := rfl
@[simp] theorem State.catMod_hbm (s : State) (f : CatSt → CatSt) : (s.catMod f).hbm = s.hbm := rfl
@[simp] theorem State.catMod_power (s : State) (f : CatSt → CatSt) : (s.catMod f).power = s.power := rfl
@[simp] theorem State.catMod_matrix (s : State) (f : CatSt → CatSt) : (s.catMod f).matrix = s.matrix := rfl
@[simp] theorem State.catMod_dma (s : State) (f : CatSt → CatSt) : (s.catMod f).dma = s.dma := rfl
@[simp] theorem State.catMod_lastOwner (s : State) (f : CatSt → CatSt) : (s.catMod f).lastOwner = s.lastOwner := rfl
@[simp] theorem State.catMod_mace (s : State) (f : CatSt → CatSt) : (s.catMod f).mace = s.mace := rfl
@[simp] theorem State.catMod_irq (s : State) (f : CatSt → CatSt) : (s.catMod f).irq = s.irq := rfl
@[simp] theorem State.catMod_boot (s : State) (f : CatSt → CatSt) : (s.catMod f).boot = s.boot := rfl
@[simp] theorem State.catMod_host (s : State) (f : CatSt → CatSt) : (s.catMod f).host = s.host := rfl
@[simp] theorem State.catMod_tap (s : State) (f : CatSt → CatSt) : (s.catMod f).tap = s.tap := rfl
@[simp] theorem State.catMod_pending (s : State) (f : CatSt → CatSt) : (s.catMod f).pending = s.pending := rfl
@[simp] theorem State.catMod_rd (s : State) (f : CatSt → CatSt) (x : Nat) : (s.catMod f).rd x = s.rd x := rfl
@[simp] theorem State.catMod_rdN (s : State) (f : CatSt → CatSt) (x : Nat) : (s.catMod f).rdN x = s.rdN x := rfl
@[simp] theorem State.catMod_fget (s : State) (f : CatSt → CatSt) (x : Field) : (s.catMod f).fget x = s.fget x := rfl
@[simp] theorem State.catMod_fbit (s : State) (f : CatSt → CatSt) (x : Field) : (s.catMod f).fbit x = s.fbit x := rfl
@[simp] theorem State.catMod_ldb (s : State) (f : CatSt → CatSt) (x : Nat) : (s.catMod f).ldb x = s.ldb x := rfl

/-! ### chMod -/

@[simp] theorem State.chMod_regs (s : State) (f : ChainSt → ChainSt) : (s.chMod f).regs = s.regs := rfl
@[simp] theorem State.chMod_mem (s : State) (f : ChainSt → ChainSt) : (s.chMod f).mem = s.mem := rfl
@[simp] theorem State.chMod_carrelEra (s : State) (f : ChainSt → ChainSt) : (s.chMod f).carrelEra = s.carrelEra := rfl
@[simp] theorem State.chMod_poison (s : State) (f : ChainSt → ChainSt) : (s.chMod f).poison = s.poison := rfl
@[simp] theorem State.chMod_oldRegs (s : State) (f : ChainSt → ChainSt) : (s.chMod f).oldRegs = s.oldRegs := rfl
@[simp] theorem State.chMod_hiLatch (s : State) (f : ChainSt → ChainSt) : (s.chMod f).hiLatch = s.hiLatch := rfl
@[simp] theorem State.chMod_accSi (s : State) (f : ChainSt → ChainSt) : (s.chMod f).accSi = s.accSi := rfl
@[simp] theorem State.chMod_out (s : State) (f : ChainSt → ChainSt) : (s.chMod f).out = s.out := rfl
@[simp] theorem State.chMod_fresh (s : State) (f : ChainSt → ChainSt) : (s.chMod f).fresh = s.fresh := rfl
@[simp] theorem State.chMod_lanes (s : State) (f : ChainSt → ChainSt) : (s.chMod f).lanes = s.lanes := rfl
@[simp] theorem State.chMod_quireNext (s : State) (f : ChainSt → ChainSt) : (s.chMod f).quireNext = s.quireNext := rfl
@[simp] theorem State.chMod_egress (s : State) (f : ChainSt → ChainSt) : (s.chMod f).egress = s.egress := rfl
@[simp] theorem State.chMod_ingest (s : State) (f : ChainSt → ChainSt) : (s.chMod f).ingest = s.ingest := rfl
@[simp] theorem State.chMod_time (s : State) (f : ChainSt → ChainSt) : (s.chMod f).time = s.time := rfl
@[simp] theorem State.chMod_sheds (s : State) (f : ChainSt → ChainSt) : (s.chMod f).sheds = s.sheds := rfl
@[simp] theorem State.chMod_array (s : State) (f : ChainSt → ChainSt) : (s.chMod f).array = s.array := rfl
@[simp] theorem State.chMod_accum (s : State) (f : ChainSt → ChainSt) : (s.chMod f).accum = s.accum := rfl
@[simp] theorem State.chMod_beam (s : State) (f : ChainSt → ChainSt) : (s.chMod f).beam = s.beam := rfl
@[simp] theorem State.chMod_cat (s : State) (f : ChainSt → ChainSt) : (s.chMod f).cat = s.cat := rfl
@[simp] theorem State.chMod_chain (s : State) (f : ChainSt → ChainSt) : (s.chMod f).chain = f s.chain := rfl
@[simp] theorem State.chMod_snap (s : State) (f : ChainSt → ChainSt) : (s.chMod f).snap = s.snap := rfl
@[simp] theorem State.chMod_hbm (s : State) (f : ChainSt → ChainSt) : (s.chMod f).hbm = s.hbm := rfl
@[simp] theorem State.chMod_power (s : State) (f : ChainSt → ChainSt) : (s.chMod f).power = s.power := rfl
@[simp] theorem State.chMod_matrix (s : State) (f : ChainSt → ChainSt) : (s.chMod f).matrix = s.matrix := rfl
@[simp] theorem State.chMod_dma (s : State) (f : ChainSt → ChainSt) : (s.chMod f).dma = s.dma := rfl
@[simp] theorem State.chMod_lastOwner (s : State) (f : ChainSt → ChainSt) : (s.chMod f).lastOwner = s.lastOwner := rfl
@[simp] theorem State.chMod_mace (s : State) (f : ChainSt → ChainSt) : (s.chMod f).mace = s.mace := rfl
@[simp] theorem State.chMod_irq (s : State) (f : ChainSt → ChainSt) : (s.chMod f).irq = s.irq := rfl
@[simp] theorem State.chMod_boot (s : State) (f : ChainSt → ChainSt) : (s.chMod f).boot = s.boot := rfl
@[simp] theorem State.chMod_host (s : State) (f : ChainSt → ChainSt) : (s.chMod f).host = s.host := rfl
@[simp] theorem State.chMod_tap (s : State) (f : ChainSt → ChainSt) : (s.chMod f).tap = s.tap := rfl
@[simp] theorem State.chMod_pending (s : State) (f : ChainSt → ChainSt) : (s.chMod f).pending = s.pending := rfl
@[simp] theorem State.chMod_rd (s : State) (f : ChainSt → ChainSt) (x : Nat) : (s.chMod f).rd x = s.rd x := rfl
@[simp] theorem State.chMod_rdN (s : State) (f : ChainSt → ChainSt) (x : Nat) : (s.chMod f).rdN x = s.rdN x := rfl
@[simp] theorem State.chMod_fget (s : State) (f : ChainSt → ChainSt) (x : Field) : (s.chMod f).fget x = s.fget x := rfl
@[simp] theorem State.chMod_fbit (s : State) (f : ChainSt → ChainSt) (x : Field) : (s.chMod f).fbit x = s.fbit x := rfl
@[simp] theorem State.chMod_ldb (s : State) (f : ChainSt → ChainSt) (x : Nat) : (s.chMod f).ldb x = s.ldb x := rfl

/-! ### hbmMod -/

@[simp] theorem State.hbmMod_regs (s : State) (f : HbmSt → HbmSt) : (s.hbmMod f).regs = s.regs := rfl
@[simp] theorem State.hbmMod_mem (s : State) (f : HbmSt → HbmSt) : (s.hbmMod f).mem = s.mem := rfl
@[simp] theorem State.hbmMod_carrelEra (s : State) (f : HbmSt → HbmSt) : (s.hbmMod f).carrelEra = s.carrelEra := rfl
@[simp] theorem State.hbmMod_poison (s : State) (f : HbmSt → HbmSt) : (s.hbmMod f).poison = s.poison := rfl
@[simp] theorem State.hbmMod_oldRegs (s : State) (f : HbmSt → HbmSt) : (s.hbmMod f).oldRegs = s.oldRegs := rfl
@[simp] theorem State.hbmMod_hiLatch (s : State) (f : HbmSt → HbmSt) : (s.hbmMod f).hiLatch = s.hiLatch := rfl
@[simp] theorem State.hbmMod_accSi (s : State) (f : HbmSt → HbmSt) : (s.hbmMod f).accSi = s.accSi := rfl
@[simp] theorem State.hbmMod_out (s : State) (f : HbmSt → HbmSt) : (s.hbmMod f).out = s.out := rfl
@[simp] theorem State.hbmMod_fresh (s : State) (f : HbmSt → HbmSt) : (s.hbmMod f).fresh = s.fresh := rfl
@[simp] theorem State.hbmMod_lanes (s : State) (f : HbmSt → HbmSt) : (s.hbmMod f).lanes = s.lanes := rfl
@[simp] theorem State.hbmMod_quireNext (s : State) (f : HbmSt → HbmSt) : (s.hbmMod f).quireNext = s.quireNext := rfl
@[simp] theorem State.hbmMod_egress (s : State) (f : HbmSt → HbmSt) : (s.hbmMod f).egress = s.egress := rfl
@[simp] theorem State.hbmMod_ingest (s : State) (f : HbmSt → HbmSt) : (s.hbmMod f).ingest = s.ingest := rfl
@[simp] theorem State.hbmMod_time (s : State) (f : HbmSt → HbmSt) : (s.hbmMod f).time = s.time := rfl
@[simp] theorem State.hbmMod_sheds (s : State) (f : HbmSt → HbmSt) : (s.hbmMod f).sheds = s.sheds := rfl
@[simp] theorem State.hbmMod_array (s : State) (f : HbmSt → HbmSt) : (s.hbmMod f).array = s.array := rfl
@[simp] theorem State.hbmMod_accum (s : State) (f : HbmSt → HbmSt) : (s.hbmMod f).accum = s.accum := rfl
@[simp] theorem State.hbmMod_beam (s : State) (f : HbmSt → HbmSt) : (s.hbmMod f).beam = s.beam := rfl
@[simp] theorem State.hbmMod_cat (s : State) (f : HbmSt → HbmSt) : (s.hbmMod f).cat = s.cat := rfl
@[simp] theorem State.hbmMod_chain (s : State) (f : HbmSt → HbmSt) : (s.hbmMod f).chain = s.chain := rfl
@[simp] theorem State.hbmMod_snap (s : State) (f : HbmSt → HbmSt) : (s.hbmMod f).snap = s.snap := rfl
@[simp] theorem State.hbmMod_hbm (s : State) (f : HbmSt → HbmSt) : (s.hbmMod f).hbm = f s.hbm := rfl
@[simp] theorem State.hbmMod_power (s : State) (f : HbmSt → HbmSt) : (s.hbmMod f).power = s.power := rfl
@[simp] theorem State.hbmMod_matrix (s : State) (f : HbmSt → HbmSt) : (s.hbmMod f).matrix = s.matrix := rfl
@[simp] theorem State.hbmMod_dma (s : State) (f : HbmSt → HbmSt) : (s.hbmMod f).dma = s.dma := rfl
@[simp] theorem State.hbmMod_lastOwner (s : State) (f : HbmSt → HbmSt) : (s.hbmMod f).lastOwner = s.lastOwner := rfl
@[simp] theorem State.hbmMod_mace (s : State) (f : HbmSt → HbmSt) : (s.hbmMod f).mace = s.mace := rfl
@[simp] theorem State.hbmMod_irq (s : State) (f : HbmSt → HbmSt) : (s.hbmMod f).irq = s.irq := rfl
@[simp] theorem State.hbmMod_boot (s : State) (f : HbmSt → HbmSt) : (s.hbmMod f).boot = s.boot := rfl
@[simp] theorem State.hbmMod_host (s : State) (f : HbmSt → HbmSt) : (s.hbmMod f).host = s.host := rfl
@[simp] theorem State.hbmMod_tap (s : State) (f : HbmSt → HbmSt) : (s.hbmMod f).tap = s.tap := rfl
@[simp] theorem State.hbmMod_pending (s : State) (f : HbmSt → HbmSt) : (s.hbmMod f).pending = s.pending := rfl
@[simp] theorem State.hbmMod_rd (s : State) (f : HbmSt → HbmSt) (x : Nat) : (s.hbmMod f).rd x = s.rd x := rfl
@[simp] theorem State.hbmMod_rdN (s : State) (f : HbmSt → HbmSt) (x : Nat) : (s.hbmMod f).rdN x = s.rdN x := rfl
@[simp] theorem State.hbmMod_fget (s : State) (f : HbmSt → HbmSt) (x : Field) : (s.hbmMod f).fget x = s.fget x := rfl
@[simp] theorem State.hbmMod_fbit (s : State) (f : HbmSt → HbmSt) (x : Field) : (s.hbmMod f).fbit x = s.fbit x := rfl
@[simp] theorem State.hbmMod_ldb (s : State) (f : HbmSt → HbmSt) (x : Nat) : (s.hbmMod f).ldb x = s.ldb x := rfl

/-! ### powMod -/

@[simp] theorem State.powMod_regs (s : State) (f : PowerSt → PowerSt) : (s.powMod f).regs = s.regs := rfl
@[simp] theorem State.powMod_mem (s : State) (f : PowerSt → PowerSt) : (s.powMod f).mem = s.mem := rfl
@[simp] theorem State.powMod_carrelEra (s : State) (f : PowerSt → PowerSt) : (s.powMod f).carrelEra = s.carrelEra := rfl
@[simp] theorem State.powMod_poison (s : State) (f : PowerSt → PowerSt) : (s.powMod f).poison = s.poison := rfl
@[simp] theorem State.powMod_oldRegs (s : State) (f : PowerSt → PowerSt) : (s.powMod f).oldRegs = s.oldRegs := rfl
@[simp] theorem State.powMod_hiLatch (s : State) (f : PowerSt → PowerSt) : (s.powMod f).hiLatch = s.hiLatch := rfl
@[simp] theorem State.powMod_accSi (s : State) (f : PowerSt → PowerSt) : (s.powMod f).accSi = s.accSi := rfl
@[simp] theorem State.powMod_out (s : State) (f : PowerSt → PowerSt) : (s.powMod f).out = s.out := rfl
@[simp] theorem State.powMod_fresh (s : State) (f : PowerSt → PowerSt) : (s.powMod f).fresh = s.fresh := rfl
@[simp] theorem State.powMod_lanes (s : State) (f : PowerSt → PowerSt) : (s.powMod f).lanes = s.lanes := rfl
@[simp] theorem State.powMod_quireNext (s : State) (f : PowerSt → PowerSt) : (s.powMod f).quireNext = s.quireNext := rfl
@[simp] theorem State.powMod_egress (s : State) (f : PowerSt → PowerSt) : (s.powMod f).egress = s.egress := rfl
@[simp] theorem State.powMod_ingest (s : State) (f : PowerSt → PowerSt) : (s.powMod f).ingest = s.ingest := rfl
@[simp] theorem State.powMod_time (s : State) (f : PowerSt → PowerSt) : (s.powMod f).time = s.time := rfl
@[simp] theorem State.powMod_sheds (s : State) (f : PowerSt → PowerSt) : (s.powMod f).sheds = s.sheds := rfl
@[simp] theorem State.powMod_array (s : State) (f : PowerSt → PowerSt) : (s.powMod f).array = s.array := rfl
@[simp] theorem State.powMod_accum (s : State) (f : PowerSt → PowerSt) : (s.powMod f).accum = s.accum := rfl
@[simp] theorem State.powMod_beam (s : State) (f : PowerSt → PowerSt) : (s.powMod f).beam = s.beam := rfl
@[simp] theorem State.powMod_cat (s : State) (f : PowerSt → PowerSt) : (s.powMod f).cat = s.cat := rfl
@[simp] theorem State.powMod_chain (s : State) (f : PowerSt → PowerSt) : (s.powMod f).chain = s.chain := rfl
@[simp] theorem State.powMod_snap (s : State) (f : PowerSt → PowerSt) : (s.powMod f).snap = s.snap := rfl
@[simp] theorem State.powMod_hbm (s : State) (f : PowerSt → PowerSt) : (s.powMod f).hbm = s.hbm := rfl
@[simp] theorem State.powMod_power (s : State) (f : PowerSt → PowerSt) : (s.powMod f).power = f s.power := rfl
@[simp] theorem State.powMod_matrix (s : State) (f : PowerSt → PowerSt) : (s.powMod f).matrix = s.matrix := rfl
@[simp] theorem State.powMod_dma (s : State) (f : PowerSt → PowerSt) : (s.powMod f).dma = s.dma := rfl
@[simp] theorem State.powMod_lastOwner (s : State) (f : PowerSt → PowerSt) : (s.powMod f).lastOwner = s.lastOwner := rfl
@[simp] theorem State.powMod_mace (s : State) (f : PowerSt → PowerSt) : (s.powMod f).mace = s.mace := rfl
@[simp] theorem State.powMod_irq (s : State) (f : PowerSt → PowerSt) : (s.powMod f).irq = s.irq := rfl
@[simp] theorem State.powMod_boot (s : State) (f : PowerSt → PowerSt) : (s.powMod f).boot = s.boot := rfl
@[simp] theorem State.powMod_host (s : State) (f : PowerSt → PowerSt) : (s.powMod f).host = s.host := rfl
@[simp] theorem State.powMod_tap (s : State) (f : PowerSt → PowerSt) : (s.powMod f).tap = s.tap := rfl
@[simp] theorem State.powMod_pending (s : State) (f : PowerSt → PowerSt) : (s.powMod f).pending = s.pending := rfl
@[simp] theorem State.powMod_rd (s : State) (f : PowerSt → PowerSt) (x : Nat) : (s.powMod f).rd x = s.rd x := rfl
@[simp] theorem State.powMod_rdN (s : State) (f : PowerSt → PowerSt) (x : Nat) : (s.powMod f).rdN x = s.rdN x := rfl
@[simp] theorem State.powMod_fget (s : State) (f : PowerSt → PowerSt) (x : Field) : (s.powMod f).fget x = s.fget x := rfl
@[simp] theorem State.powMod_fbit (s : State) (f : PowerSt → PowerSt) (x : Field) : (s.powMod f).fbit x = s.fbit x := rfl
@[simp] theorem State.powMod_ldb (s : State) (f : PowerSt → PowerSt) (x : Nat) : (s.powMod f).ldb x = s.ldb x := rfl

/-! ### matMod -/

@[simp] theorem State.matMod_regs (s : State) (f : MatrixSt → MatrixSt) : (s.matMod f).regs = s.regs := rfl
@[simp] theorem State.matMod_mem (s : State) (f : MatrixSt → MatrixSt) : (s.matMod f).mem = s.mem := rfl
@[simp] theorem State.matMod_carrelEra (s : State) (f : MatrixSt → MatrixSt) : (s.matMod f).carrelEra = s.carrelEra := rfl
@[simp] theorem State.matMod_poison (s : State) (f : MatrixSt → MatrixSt) : (s.matMod f).poison = s.poison := rfl
@[simp] theorem State.matMod_oldRegs (s : State) (f : MatrixSt → MatrixSt) : (s.matMod f).oldRegs = s.oldRegs := rfl
@[simp] theorem State.matMod_hiLatch (s : State) (f : MatrixSt → MatrixSt) : (s.matMod f).hiLatch = s.hiLatch := rfl
@[simp] theorem State.matMod_accSi (s : State) (f : MatrixSt → MatrixSt) : (s.matMod f).accSi = s.accSi := rfl
@[simp] theorem State.matMod_out (s : State) (f : MatrixSt → MatrixSt) : (s.matMod f).out = s.out := rfl
@[simp] theorem State.matMod_fresh (s : State) (f : MatrixSt → MatrixSt) : (s.matMod f).fresh = s.fresh := rfl
@[simp] theorem State.matMod_lanes (s : State) (f : MatrixSt → MatrixSt) : (s.matMod f).lanes = s.lanes := rfl
@[simp] theorem State.matMod_quireNext (s : State) (f : MatrixSt → MatrixSt) : (s.matMod f).quireNext = s.quireNext := rfl
@[simp] theorem State.matMod_egress (s : State) (f : MatrixSt → MatrixSt) : (s.matMod f).egress = s.egress := rfl
@[simp] theorem State.matMod_ingest (s : State) (f : MatrixSt → MatrixSt) : (s.matMod f).ingest = s.ingest := rfl
@[simp] theorem State.matMod_time (s : State) (f : MatrixSt → MatrixSt) : (s.matMod f).time = s.time := rfl
@[simp] theorem State.matMod_sheds (s : State) (f : MatrixSt → MatrixSt) : (s.matMod f).sheds = s.sheds := rfl
@[simp] theorem State.matMod_array (s : State) (f : MatrixSt → MatrixSt) : (s.matMod f).array = s.array := rfl
@[simp] theorem State.matMod_accum (s : State) (f : MatrixSt → MatrixSt) : (s.matMod f).accum = s.accum := rfl
@[simp] theorem State.matMod_beam (s : State) (f : MatrixSt → MatrixSt) : (s.matMod f).beam = s.beam := rfl
@[simp] theorem State.matMod_cat (s : State) (f : MatrixSt → MatrixSt) : (s.matMod f).cat = s.cat := rfl
@[simp] theorem State.matMod_chain (s : State) (f : MatrixSt → MatrixSt) : (s.matMod f).chain = s.chain := rfl
@[simp] theorem State.matMod_snap (s : State) (f : MatrixSt → MatrixSt) : (s.matMod f).snap = s.snap := rfl
@[simp] theorem State.matMod_hbm (s : State) (f : MatrixSt → MatrixSt) : (s.matMod f).hbm = s.hbm := rfl
@[simp] theorem State.matMod_power (s : State) (f : MatrixSt → MatrixSt) : (s.matMod f).power = s.power := rfl
@[simp] theorem State.matMod_matrix (s : State) (f : MatrixSt → MatrixSt) : (s.matMod f).matrix = f s.matrix := rfl
@[simp] theorem State.matMod_dma (s : State) (f : MatrixSt → MatrixSt) : (s.matMod f).dma = s.dma := rfl
@[simp] theorem State.matMod_lastOwner (s : State) (f : MatrixSt → MatrixSt) : (s.matMod f).lastOwner = s.lastOwner := rfl
@[simp] theorem State.matMod_mace (s : State) (f : MatrixSt → MatrixSt) : (s.matMod f).mace = s.mace := rfl
@[simp] theorem State.matMod_irq (s : State) (f : MatrixSt → MatrixSt) : (s.matMod f).irq = s.irq := rfl
@[simp] theorem State.matMod_boot (s : State) (f : MatrixSt → MatrixSt) : (s.matMod f).boot = s.boot := rfl
@[simp] theorem State.matMod_host (s : State) (f : MatrixSt → MatrixSt) : (s.matMod f).host = s.host := rfl
@[simp] theorem State.matMod_tap (s : State) (f : MatrixSt → MatrixSt) : (s.matMod f).tap = s.tap := rfl
@[simp] theorem State.matMod_pending (s : State) (f : MatrixSt → MatrixSt) : (s.matMod f).pending = s.pending := rfl
@[simp] theorem State.matMod_rd (s : State) (f : MatrixSt → MatrixSt) (x : Nat) : (s.matMod f).rd x = s.rd x := rfl
@[simp] theorem State.matMod_rdN (s : State) (f : MatrixSt → MatrixSt) (x : Nat) : (s.matMod f).rdN x = s.rdN x := rfl
@[simp] theorem State.matMod_fget (s : State) (f : MatrixSt → MatrixSt) (x : Field) : (s.matMod f).fget x = s.fget x := rfl
@[simp] theorem State.matMod_fbit (s : State) (f : MatrixSt → MatrixSt) (x : Field) : (s.matMod f).fbit x = s.fbit x := rfl
@[simp] theorem State.matMod_ldb (s : State) (f : MatrixSt → MatrixSt) (x : Nat) : (s.matMod f).ldb x = s.ldb x := rfl

/-! ### dmaMod -/

@[simp] theorem State.dmaMod_regs (s : State) (f : DmaSt → DmaSt) : (s.dmaMod f).regs = s.regs := rfl
@[simp] theorem State.dmaMod_mem (s : State) (f : DmaSt → DmaSt) : (s.dmaMod f).mem = s.mem := rfl
@[simp] theorem State.dmaMod_carrelEra (s : State) (f : DmaSt → DmaSt) : (s.dmaMod f).carrelEra = s.carrelEra := rfl
@[simp] theorem State.dmaMod_poison (s : State) (f : DmaSt → DmaSt) : (s.dmaMod f).poison = s.poison := rfl
@[simp] theorem State.dmaMod_oldRegs (s : State) (f : DmaSt → DmaSt) : (s.dmaMod f).oldRegs = s.oldRegs := rfl
@[simp] theorem State.dmaMod_hiLatch (s : State) (f : DmaSt → DmaSt) : (s.dmaMod f).hiLatch = s.hiLatch := rfl
@[simp] theorem State.dmaMod_accSi (s : State) (f : DmaSt → DmaSt) : (s.dmaMod f).accSi = s.accSi := rfl
@[simp] theorem State.dmaMod_out (s : State) (f : DmaSt → DmaSt) : (s.dmaMod f).out = s.out := rfl
@[simp] theorem State.dmaMod_fresh (s : State) (f : DmaSt → DmaSt) : (s.dmaMod f).fresh = s.fresh := rfl
@[simp] theorem State.dmaMod_lanes (s : State) (f : DmaSt → DmaSt) : (s.dmaMod f).lanes = s.lanes := rfl
@[simp] theorem State.dmaMod_quireNext (s : State) (f : DmaSt → DmaSt) : (s.dmaMod f).quireNext = s.quireNext := rfl
@[simp] theorem State.dmaMod_egress (s : State) (f : DmaSt → DmaSt) : (s.dmaMod f).egress = s.egress := rfl
@[simp] theorem State.dmaMod_ingest (s : State) (f : DmaSt → DmaSt) : (s.dmaMod f).ingest = s.ingest := rfl
@[simp] theorem State.dmaMod_time (s : State) (f : DmaSt → DmaSt) : (s.dmaMod f).time = s.time := rfl
@[simp] theorem State.dmaMod_sheds (s : State) (f : DmaSt → DmaSt) : (s.dmaMod f).sheds = s.sheds := rfl
@[simp] theorem State.dmaMod_array (s : State) (f : DmaSt → DmaSt) : (s.dmaMod f).array = s.array := rfl
@[simp] theorem State.dmaMod_accum (s : State) (f : DmaSt → DmaSt) : (s.dmaMod f).accum = s.accum := rfl
@[simp] theorem State.dmaMod_beam (s : State) (f : DmaSt → DmaSt) : (s.dmaMod f).beam = s.beam := rfl
@[simp] theorem State.dmaMod_cat (s : State) (f : DmaSt → DmaSt) : (s.dmaMod f).cat = s.cat := rfl
@[simp] theorem State.dmaMod_chain (s : State) (f : DmaSt → DmaSt) : (s.dmaMod f).chain = s.chain := rfl
@[simp] theorem State.dmaMod_snap (s : State) (f : DmaSt → DmaSt) : (s.dmaMod f).snap = s.snap := rfl
@[simp] theorem State.dmaMod_hbm (s : State) (f : DmaSt → DmaSt) : (s.dmaMod f).hbm = s.hbm := rfl
@[simp] theorem State.dmaMod_power (s : State) (f : DmaSt → DmaSt) : (s.dmaMod f).power = s.power := rfl
@[simp] theorem State.dmaMod_matrix (s : State) (f : DmaSt → DmaSt) : (s.dmaMod f).matrix = s.matrix := rfl
@[simp] theorem State.dmaMod_dma (s : State) (f : DmaSt → DmaSt) : (s.dmaMod f).dma = f s.dma := rfl
@[simp] theorem State.dmaMod_lastOwner (s : State) (f : DmaSt → DmaSt) : (s.dmaMod f).lastOwner = s.lastOwner := rfl
@[simp] theorem State.dmaMod_mace (s : State) (f : DmaSt → DmaSt) : (s.dmaMod f).mace = s.mace := rfl
@[simp] theorem State.dmaMod_irq (s : State) (f : DmaSt → DmaSt) : (s.dmaMod f).irq = s.irq := rfl
@[simp] theorem State.dmaMod_boot (s : State) (f : DmaSt → DmaSt) : (s.dmaMod f).boot = s.boot := rfl
@[simp] theorem State.dmaMod_host (s : State) (f : DmaSt → DmaSt) : (s.dmaMod f).host = s.host := rfl
@[simp] theorem State.dmaMod_tap (s : State) (f : DmaSt → DmaSt) : (s.dmaMod f).tap = s.tap := rfl
@[simp] theorem State.dmaMod_pending (s : State) (f : DmaSt → DmaSt) : (s.dmaMod f).pending = s.pending := rfl
@[simp] theorem State.dmaMod_rd (s : State) (f : DmaSt → DmaSt) (x : Nat) : (s.dmaMod f).rd x = s.rd x := rfl
@[simp] theorem State.dmaMod_rdN (s : State) (f : DmaSt → DmaSt) (x : Nat) : (s.dmaMod f).rdN x = s.rdN x := rfl
@[simp] theorem State.dmaMod_fget (s : State) (f : DmaSt → DmaSt) (x : Field) : (s.dmaMod f).fget x = s.fget x := rfl
@[simp] theorem State.dmaMod_fbit (s : State) (f : DmaSt → DmaSt) (x : Field) : (s.dmaMod f).fbit x = s.fbit x := rfl
@[simp] theorem State.dmaMod_ldb (s : State) (f : DmaSt → DmaSt) (x : Nat) : (s.dmaMod f).ldb x = s.ldb x := rfl

/-! ### irqMod -/

@[simp] theorem State.irqMod_regs (s : State) (f : IrqSt → IrqSt) : (s.irqMod f).regs = s.regs := rfl
@[simp] theorem State.irqMod_mem (s : State) (f : IrqSt → IrqSt) : (s.irqMod f).mem = s.mem := rfl
@[simp] theorem State.irqMod_carrelEra (s : State) (f : IrqSt → IrqSt) : (s.irqMod f).carrelEra = s.carrelEra := rfl
@[simp] theorem State.irqMod_poison (s : State) (f : IrqSt → IrqSt) : (s.irqMod f).poison = s.poison := rfl
@[simp] theorem State.irqMod_oldRegs (s : State) (f : IrqSt → IrqSt) : (s.irqMod f).oldRegs = s.oldRegs := rfl
@[simp] theorem State.irqMod_hiLatch (s : State) (f : IrqSt → IrqSt) : (s.irqMod f).hiLatch = s.hiLatch := rfl
@[simp] theorem State.irqMod_accSi (s : State) (f : IrqSt → IrqSt) : (s.irqMod f).accSi = s.accSi := rfl
@[simp] theorem State.irqMod_out (s : State) (f : IrqSt → IrqSt) : (s.irqMod f).out = s.out := rfl
@[simp] theorem State.irqMod_fresh (s : State) (f : IrqSt → IrqSt) : (s.irqMod f).fresh = s.fresh := rfl
@[simp] theorem State.irqMod_lanes (s : State) (f : IrqSt → IrqSt) : (s.irqMod f).lanes = s.lanes := rfl
@[simp] theorem State.irqMod_quireNext (s : State) (f : IrqSt → IrqSt) : (s.irqMod f).quireNext = s.quireNext := rfl
@[simp] theorem State.irqMod_egress (s : State) (f : IrqSt → IrqSt) : (s.irqMod f).egress = s.egress := rfl
@[simp] theorem State.irqMod_ingest (s : State) (f : IrqSt → IrqSt) : (s.irqMod f).ingest = s.ingest := rfl
@[simp] theorem State.irqMod_time (s : State) (f : IrqSt → IrqSt) : (s.irqMod f).time = s.time := rfl
@[simp] theorem State.irqMod_sheds (s : State) (f : IrqSt → IrqSt) : (s.irqMod f).sheds = s.sheds := rfl
@[simp] theorem State.irqMod_array (s : State) (f : IrqSt → IrqSt) : (s.irqMod f).array = s.array := rfl
@[simp] theorem State.irqMod_accum (s : State) (f : IrqSt → IrqSt) : (s.irqMod f).accum = s.accum := rfl
@[simp] theorem State.irqMod_beam (s : State) (f : IrqSt → IrqSt) : (s.irqMod f).beam = s.beam := rfl
@[simp] theorem State.irqMod_cat (s : State) (f : IrqSt → IrqSt) : (s.irqMod f).cat = s.cat := rfl
@[simp] theorem State.irqMod_chain (s : State) (f : IrqSt → IrqSt) : (s.irqMod f).chain = s.chain := rfl
@[simp] theorem State.irqMod_snap (s : State) (f : IrqSt → IrqSt) : (s.irqMod f).snap = s.snap := rfl
@[simp] theorem State.irqMod_hbm (s : State) (f : IrqSt → IrqSt) : (s.irqMod f).hbm = s.hbm := rfl
@[simp] theorem State.irqMod_power (s : State) (f : IrqSt → IrqSt) : (s.irqMod f).power = s.power := rfl
@[simp] theorem State.irqMod_matrix (s : State) (f : IrqSt → IrqSt) : (s.irqMod f).matrix = s.matrix := rfl
@[simp] theorem State.irqMod_dma (s : State) (f : IrqSt → IrqSt) : (s.irqMod f).dma = s.dma := rfl
@[simp] theorem State.irqMod_lastOwner (s : State) (f : IrqSt → IrqSt) : (s.irqMod f).lastOwner = s.lastOwner := rfl
@[simp] theorem State.irqMod_mace (s : State) (f : IrqSt → IrqSt) : (s.irqMod f).mace = s.mace := rfl
@[simp] theorem State.irqMod_irq (s : State) (f : IrqSt → IrqSt) : (s.irqMod f).irq = f s.irq := rfl
@[simp] theorem State.irqMod_boot (s : State) (f : IrqSt → IrqSt) : (s.irqMod f).boot = s.boot := rfl
@[simp] theorem State.irqMod_host (s : State) (f : IrqSt → IrqSt) : (s.irqMod f).host = s.host := rfl
@[simp] theorem State.irqMod_tap (s : State) (f : IrqSt → IrqSt) : (s.irqMod f).tap = s.tap := rfl
@[simp] theorem State.irqMod_pending (s : State) (f : IrqSt → IrqSt) : (s.irqMod f).pending = s.pending := rfl
@[simp] theorem State.irqMod_rd (s : State) (f : IrqSt → IrqSt) (x : Nat) : (s.irqMod f).rd x = s.rd x := rfl
@[simp] theorem State.irqMod_rdN (s : State) (f : IrqSt → IrqSt) (x : Nat) : (s.irqMod f).rdN x = s.rdN x := rfl
@[simp] theorem State.irqMod_fget (s : State) (f : IrqSt → IrqSt) (x : Field) : (s.irqMod f).fget x = s.fget x := rfl
@[simp] theorem State.irqMod_fbit (s : State) (f : IrqSt → IrqSt) (x : Field) : (s.irqMod f).fbit x = s.fbit x := rfl
@[simp] theorem State.irqMod_ldb (s : State) (f : IrqSt → IrqSt) (x : Nat) : (s.irqMod f).ldb x = s.ldb x := rfl

/-! ### bootMod -/

@[simp] theorem State.bootMod_regs (s : State) (f : BootSt → BootSt) : (s.bootMod f).regs = s.regs := rfl
@[simp] theorem State.bootMod_mem (s : State) (f : BootSt → BootSt) : (s.bootMod f).mem = s.mem := rfl
@[simp] theorem State.bootMod_carrelEra (s : State) (f : BootSt → BootSt) : (s.bootMod f).carrelEra = s.carrelEra := rfl
@[simp] theorem State.bootMod_poison (s : State) (f : BootSt → BootSt) : (s.bootMod f).poison = s.poison := rfl
@[simp] theorem State.bootMod_oldRegs (s : State) (f : BootSt → BootSt) : (s.bootMod f).oldRegs = s.oldRegs := rfl
@[simp] theorem State.bootMod_hiLatch (s : State) (f : BootSt → BootSt) : (s.bootMod f).hiLatch = s.hiLatch := rfl
@[simp] theorem State.bootMod_accSi (s : State) (f : BootSt → BootSt) : (s.bootMod f).accSi = s.accSi := rfl
@[simp] theorem State.bootMod_out (s : State) (f : BootSt → BootSt) : (s.bootMod f).out = s.out := rfl
@[simp] theorem State.bootMod_fresh (s : State) (f : BootSt → BootSt) : (s.bootMod f).fresh = s.fresh := rfl
@[simp] theorem State.bootMod_lanes (s : State) (f : BootSt → BootSt) : (s.bootMod f).lanes = s.lanes := rfl
@[simp] theorem State.bootMod_quireNext (s : State) (f : BootSt → BootSt) : (s.bootMod f).quireNext = s.quireNext := rfl
@[simp] theorem State.bootMod_egress (s : State) (f : BootSt → BootSt) : (s.bootMod f).egress = s.egress := rfl
@[simp] theorem State.bootMod_ingest (s : State) (f : BootSt → BootSt) : (s.bootMod f).ingest = s.ingest := rfl
@[simp] theorem State.bootMod_time (s : State) (f : BootSt → BootSt) : (s.bootMod f).time = s.time := rfl
@[simp] theorem State.bootMod_sheds (s : State) (f : BootSt → BootSt) : (s.bootMod f).sheds = s.sheds := rfl
@[simp] theorem State.bootMod_array (s : State) (f : BootSt → BootSt) : (s.bootMod f).array = s.array := rfl
@[simp] theorem State.bootMod_accum (s : State) (f : BootSt → BootSt) : (s.bootMod f).accum = s.accum := rfl
@[simp] theorem State.bootMod_beam (s : State) (f : BootSt → BootSt) : (s.bootMod f).beam = s.beam := rfl
@[simp] theorem State.bootMod_cat (s : State) (f : BootSt → BootSt) : (s.bootMod f).cat = s.cat := rfl
@[simp] theorem State.bootMod_chain (s : State) (f : BootSt → BootSt) : (s.bootMod f).chain = s.chain := rfl
@[simp] theorem State.bootMod_snap (s : State) (f : BootSt → BootSt) : (s.bootMod f).snap = s.snap := rfl
@[simp] theorem State.bootMod_hbm (s : State) (f : BootSt → BootSt) : (s.bootMod f).hbm = s.hbm := rfl
@[simp] theorem State.bootMod_power (s : State) (f : BootSt → BootSt) : (s.bootMod f).power = s.power := rfl
@[simp] theorem State.bootMod_matrix (s : State) (f : BootSt → BootSt) : (s.bootMod f).matrix = s.matrix := rfl
@[simp] theorem State.bootMod_dma (s : State) (f : BootSt → BootSt) : (s.bootMod f).dma = s.dma := rfl
@[simp] theorem State.bootMod_lastOwner (s : State) (f : BootSt → BootSt) : (s.bootMod f).lastOwner = s.lastOwner := rfl
@[simp] theorem State.bootMod_mace (s : State) (f : BootSt → BootSt) : (s.bootMod f).mace = s.mace := rfl
@[simp] theorem State.bootMod_irq (s : State) (f : BootSt → BootSt) : (s.bootMod f).irq = s.irq := rfl
@[simp] theorem State.bootMod_boot (s : State) (f : BootSt → BootSt) : (s.bootMod f).boot = f s.boot := rfl
@[simp] theorem State.bootMod_host (s : State) (f : BootSt → BootSt) : (s.bootMod f).host = s.host := rfl
@[simp] theorem State.bootMod_tap (s : State) (f : BootSt → BootSt) : (s.bootMod f).tap = s.tap := rfl
@[simp] theorem State.bootMod_pending (s : State) (f : BootSt → BootSt) : (s.bootMod f).pending = s.pending := rfl
@[simp] theorem State.bootMod_rd (s : State) (f : BootSt → BootSt) (x : Nat) : (s.bootMod f).rd x = s.rd x := rfl
@[simp] theorem State.bootMod_rdN (s : State) (f : BootSt → BootSt) (x : Nat) : (s.bootMod f).rdN x = s.rdN x := rfl
@[simp] theorem State.bootMod_fget (s : State) (f : BootSt → BootSt) (x : Field) : (s.bootMod f).fget x = s.fget x := rfl
@[simp] theorem State.bootMod_fbit (s : State) (f : BootSt → BootSt) (x : Field) : (s.bootMod f).fbit x = s.fbit x := rfl
@[simp] theorem State.bootMod_ldb (s : State) (f : BootSt → BootSt) (x : Nat) : (s.bootMod f).ldb x = s.ldb x := rfl

/-! ### tapMod -/

@[simp] theorem State.tapMod_regs (s : State) (f : TapSt → TapSt) : (s.tapMod f).regs = s.regs := rfl
@[simp] theorem State.tapMod_mem (s : State) (f : TapSt → TapSt) : (s.tapMod f).mem = s.mem := rfl
@[simp] theorem State.tapMod_carrelEra (s : State) (f : TapSt → TapSt) : (s.tapMod f).carrelEra = s.carrelEra := rfl
@[simp] theorem State.tapMod_poison (s : State) (f : TapSt → TapSt) : (s.tapMod f).poison = s.poison := rfl
@[simp] theorem State.tapMod_oldRegs (s : State) (f : TapSt → TapSt) : (s.tapMod f).oldRegs = s.oldRegs := rfl
@[simp] theorem State.tapMod_hiLatch (s : State) (f : TapSt → TapSt) : (s.tapMod f).hiLatch = s.hiLatch := rfl
@[simp] theorem State.tapMod_accSi (s : State) (f : TapSt → TapSt) : (s.tapMod f).accSi = s.accSi := rfl
@[simp] theorem State.tapMod_out (s : State) (f : TapSt → TapSt) : (s.tapMod f).out = s.out := rfl
@[simp] theorem State.tapMod_fresh (s : State) (f : TapSt → TapSt) : (s.tapMod f).fresh = s.fresh := rfl
@[simp] theorem State.tapMod_lanes (s : State) (f : TapSt → TapSt) : (s.tapMod f).lanes = s.lanes := rfl
@[simp] theorem State.tapMod_quireNext (s : State) (f : TapSt → TapSt) : (s.tapMod f).quireNext = s.quireNext := rfl
@[simp] theorem State.tapMod_egress (s : State) (f : TapSt → TapSt) : (s.tapMod f).egress = s.egress := rfl
@[simp] theorem State.tapMod_ingest (s : State) (f : TapSt → TapSt) : (s.tapMod f).ingest = s.ingest := rfl
@[simp] theorem State.tapMod_time (s : State) (f : TapSt → TapSt) : (s.tapMod f).time = s.time := rfl
@[simp] theorem State.tapMod_sheds (s : State) (f : TapSt → TapSt) : (s.tapMod f).sheds = s.sheds := rfl
@[simp] theorem State.tapMod_array (s : State) (f : TapSt → TapSt) : (s.tapMod f).array = s.array := rfl
@[simp] theorem State.tapMod_accum (s : State) (f : TapSt → TapSt) : (s.tapMod f).accum = s.accum := rfl
@[simp] theorem State.tapMod_beam (s : State) (f : TapSt → TapSt) : (s.tapMod f).beam = s.beam := rfl
@[simp] theorem State.tapMod_cat (s : State) (f : TapSt → TapSt) : (s.tapMod f).cat = s.cat := rfl
@[simp] theorem State.tapMod_chain (s : State) (f : TapSt → TapSt) : (s.tapMod f).chain = s.chain := rfl
@[simp] theorem State.tapMod_snap (s : State) (f : TapSt → TapSt) : (s.tapMod f).snap = s.snap := rfl
@[simp] theorem State.tapMod_hbm (s : State) (f : TapSt → TapSt) : (s.tapMod f).hbm = s.hbm := rfl
@[simp] theorem State.tapMod_power (s : State) (f : TapSt → TapSt) : (s.tapMod f).power = s.power := rfl
@[simp] theorem State.tapMod_matrix (s : State) (f : TapSt → TapSt) : (s.tapMod f).matrix = s.matrix := rfl
@[simp] theorem State.tapMod_dma (s : State) (f : TapSt → TapSt) : (s.tapMod f).dma = s.dma := rfl
@[simp] theorem State.tapMod_lastOwner (s : State) (f : TapSt → TapSt) : (s.tapMod f).lastOwner = s.lastOwner := rfl
@[simp] theorem State.tapMod_mace (s : State) (f : TapSt → TapSt) : (s.tapMod f).mace = s.mace := rfl
@[simp] theorem State.tapMod_irq (s : State) (f : TapSt → TapSt) : (s.tapMod f).irq = s.irq := rfl
@[simp] theorem State.tapMod_boot (s : State) (f : TapSt → TapSt) : (s.tapMod f).boot = s.boot := rfl
@[simp] theorem State.tapMod_host (s : State) (f : TapSt → TapSt) : (s.tapMod f).host = s.host := rfl
@[simp] theorem State.tapMod_tap (s : State) (f : TapSt → TapSt) : (s.tapMod f).tap = f s.tap := rfl
@[simp] theorem State.tapMod_pending (s : State) (f : TapSt → TapSt) : (s.tapMod f).pending = s.pending := rfl
@[simp] theorem State.tapMod_rd (s : State) (f : TapSt → TapSt) (x : Nat) : (s.tapMod f).rd x = s.rd x := rfl
@[simp] theorem State.tapMod_rdN (s : State) (f : TapSt → TapSt) (x : Nat) : (s.tapMod f).rdN x = s.rdN x := rfl
@[simp] theorem State.tapMod_fget (s : State) (f : TapSt → TapSt) (x : Field) : (s.tapMod f).fget x = s.fget x := rfl
@[simp] theorem State.tapMod_fbit (s : State) (f : TapSt → TapSt) (x : Field) : (s.tapMod f).fbit x = s.fbit x := rfl
@[simp] theorem State.tapMod_ldb (s : State) (f : TapSt → TapSt) (x : Nat) : (s.tapMod f).ldb x = s.ldb x := rfl

end Sys2Proof.Machine
end

