-- ==== Sys2Proof/Laws/Reads.lean ====
section
/-! SUPPORT. What a register or field reads after the shared operations that write others, and which registers each of them
leaves alone (`RegsKept`), so that a proof about a command cites these and unfolds none of them. -/

namespace Sys2Proof.Machine

/-! ### Fields and registers after a write of another -/

theorem State.fget_raiseIf_other (s : State) (c : Bool) (f g : Field) (h : g.reg ≠ f.reg ∨ g.lo + g.width ≤ f.lo ∨ f.lo + f.width ≤ g.lo) :
    (s.raiseIf c f).fget g = s.fget g := by
  unfold State.raiseIf
  split
  · exact State.fget_fput_other s f g 1 h
  · rfl

theorem State.fget_wrN_other (s : State) (a n : Nat) (g : Field) (h : g.reg ≠ a) : (s.wrN a n).fget g = s.fget g :=
  State.fget_wr_other s a _ g h

theorem State.rd_raiseIf_other (s : State) (c : Bool) (f : Field) {b : Nat} (h : b ≠ f.reg) : (s.raiseIf c f).rd b = s.rd b := by
  unfold State.raiseIf
  split
  · rw [State.raise, State.rd_fput, if_neg h]
  · rfl

theorem State.noteQuality_rd (s : State) {b : Nat} (h : b ≠ R.TIME_QUALITY) : s.noteQuality.rd b = s.rd b := by
  unfold State.noteQuality
  dsimp only
  split
  · rfl
  · rw [State.rd_wrN, if_neg h]
    rfl

/-- Entering a time state changes three registers: TIME.STATE, TIME.EVENT and TIME.QUALITY. -/
theorem State.timeState_rd (s : State) (st : Nat) {b : Nat} (h1 : b ≠ R.TIME_STATE) (h2 : b ≠ R.TIME_EVENT) (h3 : b ≠ R.TIME_QUALITY) :
    (s.timeState st).rd b = s.rd b := by
  unfold State.timeState squelchNote
  dsimp only
  rw [State.noteQuality_rd _ h3]
  show ((State.raiseIf _ _ F.TIME_EVENT_PPS_SQUELCH).rd b) = _
  rw [State.rd_raiseIf_other _ _ _ (by exact h2), State.rd_raiseIf_other _ _ _ (by exact h2), State.rd_fput, if_neg (by exact h1)]

theorem State.fget_of_rd {s t : State} {f : Field} (h : t.rd f.reg = s.rd f.reg) : t.fget f = s.fget f := by
  rw [State.fget, State.fget, h]

/-- The fields of TIME.STATE after entering a time state. -/
theorem State.timeState_fget (s : State) (st : Nat) (g : Field) (hg : g.reg = R.TIME_STATE) : (s.timeState st).fget g = (s.fput F.TIME_STATE_STATE st).fget g := by
  unfold State.timeState squelchNote
  dsimp only
  apply State.fget_of_rd
  rw [State.noteQuality_rd _ (by rw [hg]; decide)]
  show ((State.raiseIf _ _ F.TIME_EVENT_PPS_SQUELCH).rd _) = _
  rw [State.rd_raiseIf_other _ _ _ (by rw [hg]; decide), State.rd_raiseIf_other _ _ _ (by rw [hg]; decide)]

/-- The events after entering a time state: those raised stay raised. -/
theorem State.timeState_event (s : State) (st : Nat) (g : Field) (hr : g.reg = R.TIME_EVENT) (hg : g.lo ≠ F.TIME_EVENT_PPS_SQUELCH.lo) (hl : g.lo ≠ F.TIME_EVENT_STATE.lo)
    (hw : g.width = 1) : (s.timeState st).fget g = s.fget g := by
  unfold State.timeState squelchNote
  dsimp only
  have h1 : ∀ (f : Field) (c : Bool) (u : State), f.width = 1 → g.lo ≠ f.lo → (u.raiseIf c f).fget g = u.fget g := fun f c u hf hn =>
    State.fget_raiseIf_other u c f g (.inr (by omega))
  rw [show ∀ u : State, u.noteQuality.fget g = u.fget g from fun u => State.fget_of_rd (State.noteQuality_rd u (by rw [hr]; decide))]
  show State.fget (State.raiseIf _ _ F.TIME_EVENT_PPS_SQUELCH) g = _
  rw [h1 _ _ _ rfl hg, h1 _ _ _ rfl hl, State.fget_fput_other _ _ _ _ (.inl (by rw [hr]; decide))]

theorem State.showSources_rd (s : State) {b : Nat} (h : ∀ n < 4, b ≠ R.TIME_SRC_STATUS n) : s.showSources.rd b = s.rd b := by
  simp only [State.showSources, State.forEach, State.rd_fput, if_neg (h 0 (by decide)), if_neg (h 1 (by decide)), if_neg (h 2 (by decide)),
    if_neg (h 3 (by decide)), F.TIME_SRC_STATUS_CANDIDATE, F.TIME_SRC_STATUS_ACTIVE]

theorem State.timeState_state (s : State) (st : Nat) : (s.timeState st).fget F.TIME_STATE_STATE = st % 8 := by
  rw [State.timeState_fget s st _ rfl, State.fget_fput_same _ _ _ (by decide)]
  rfl

theorem State.showSources_fget (s : State) (g : Field) (h : ∀ n < 4, g.reg ≠ R.TIME_SRC_STATUS n) : s.showSources.fget g = s.fget g :=
  State.fget_of_rd (State.showSources_rd s h)

theorem State.timeState_event_state (s : State) (st : Nat) (h : s.fget F.TIME_STATE_STATE ≠ st) : (s.timeState st).fbit F.TIME_EVENT_STATE = true := by
  unfold State.timeState squelchNote State.fbit
  dsimp only
  rw [show ∀ u : State, u.noteQuality.fget F.TIME_EVENT_STATE = u.fget F.TIME_EVENT_STATE from
    fun u => State.fget_of_rd (State.noteQuality_rd u (by decide))]
  show (State.fget (State.raiseIf _ _ F.TIME_EVENT_PPS_SQUELCH) F.TIME_EVENT_STATE == 1) = _
  rw [State.fget_raiseIf_other _ _ _ _ (by decide), State.raiseIf, if_pos (by simpa using h), State.raise, State.fget_fput_same _ _ _ (by decide)]
  rfl

theorem State.rd_raise (s : State) (f : Field) (b : Nat) : (s.raise f).rd b = if b = f.reg then insertBits (s.rd f.reg) f.lo f.width 1 else s.rd b :=
  State.rd_fput s f 1 b

theorem State.fget_raise_same (s : State) (f : Field) (h : f.lo + f.width ≤ 32) : (s.raise f).fget f = 1 % 2 ^ f.width := State.fget_fput_same s f 1 h

theorem State.fget_raise_other (s : State) (f g : Field) (h : g.reg ≠ f.reg ∨ g.lo + g.width ≤ f.lo ∨ f.lo + f.width ≤ g.lo) :
    (s.raise f).fget g = s.fget g := State.fget_fput_other s f g 1 h

theorem State.fget_count_other (s : State) (a : Nat) (g : Field) (h : g.reg ≠ a) : (s.count a).fget g = s.fget g := State.fget_wrN_other s a _ g h

theorem State.fget_countBy_other (s : State) (a n : Nat) (g : Field) (h : g.reg ≠ a) : (s.countBy a n).fget g = s.fget g := State.fget_wrN_other s a _ g h

theorem State.fget_clr_other (s : State) (a : Nat) (g : Field) (h : g.reg ≠ a) : (s.clr a).fget g = s.fget g := State.fget_wr_other s a _ g h

theorem State.fget_wr64_other (s : State) (a b n : Nat) (g : Field) (h : g.reg ≠ a) (k : g.reg ≠ b) : (s.wr64 a b n).fget g = s.fget g := by
  rw [State.wr64, State.fget_wrN_other _ _ _ _ k, State.fget_wrN_other _ _ _ _ h]

theorem State.rd_clr (s : State) (a b : Nat) : (s.clr a).rd b = if b = a then 0#32 else s.rd b := State.rd_wr s a _ b

theorem State.rd_count (s : State) (a b : Nat) : (s.count a).rd b = if b = a then BitVec.ofNat 32 (satN 32 (s.rdN a + 1)) else s.rd b := State.rd_countBy s a 1 b

theorem State.rd_wr64 (s : State) (lo hi n b : Nat) :
    (s.wr64 lo hi n).rd b = if b = hi then BitVec.ofNat 32 (n / 2 ^ 32) else if b = lo then BitVec.ofNat 32 n else s.rd b := by
  rw [State.wr64, State.rd_wrN, State.rd_wrN]

theorem State.forEach_kept {α : Type} (f : State → α → State) (a : Nat) (h : ∀ u x, (f u x).rd a = u.rd a) :
    ∀ (l : List α) (s : State), (s.forEach l f).rd a = s.rd a
  | [], _ => rfl
  | x :: l, s => (State.forEach_kept f a h l (f s x)).trans (h s x)

theorem RegsKept.refl (s : State) (l : List Nat) : RegsKept s s l := fun _ _ => rfl

theorem RegsKept.fput {s t : State} {l : List Nat} {f : Field} {n : Nat} (h : RegsKept s t l) (hf : f.reg ∈ l) : RegsKept s (t.fput f n) l :=
  fun a ha => by
    rw [State.rd_fput, if_neg (fun (e : a = f.reg) => ha (e ▸ hf))]
    exact h a ha

theorem RegsKept.raise {s t : State} {l : List Nat} {f : Field} (h : RegsKept s t l) (hf : f.reg ∈ l) : RegsKept s (t.raise f) l := RegsKept.fput h hf

theorem RegsKept.raiseIf {s t : State} {l : List Nat} {f : Field} {c : Bool} (h : RegsKept s t l) (hf : f.reg ∈ l) : RegsKept s (t.raiseIf c f) l := by
  unfold State.raiseIf
  split
  · exact RegsKept.fput h hf
  · exact h

theorem RegsKept.wr {s t : State} {l : List Nat} {a : Nat} {v : Word} (h : RegsKept s t l) (hf : a ∈ l) : RegsKept s (t.wr a v) l :=
  fun b hb => by
    rw [State.rd_wr, if_neg (fun (e : b = a) => hb (e ▸ hf))]
    exact h b hb

theorem RegsKept.wrN {s t : State} {l : List Nat} {a n : Nat} (h : RegsKept s t l) (hf : a ∈ l) : RegsKept s (t.wrN a n) l := RegsKept.wr h hf

theorem RegsKept.clr {s t : State} {l : List Nat} {a : Nat} (h : RegsKept s t l) (hf : a ∈ l) : RegsKept s (t.clr a) l := RegsKept.wr h hf

theorem RegsKept.countBy {s t : State} {l : List Nat} {a n : Nat} (h : RegsKept s t l) (hf : a ∈ l) : RegsKept s (t.countBy a n) l := RegsKept.wr h hf

theorem RegsKept.count {s t : State} {l : List Nat} {a : Nat} (h : RegsKept s t l) (hf : a ∈ l) : RegsKept s (t.count a) l := RegsKept.wr h hf

theorem RegsKept.wr64 {s t : State} {l : List Nat} {a b n : Nat} (h : RegsKept s t l) (ha : a ∈ l) (hb : b ∈ l) : RegsKept s (t.wr64 a b n) l :=
  RegsKept.wr (RegsKept.wr h ha) hb

theorem RegsKept.emit {s t : State} {l : List Nat} {o : Out} (h : RegsKept s t l) : RegsKept s (t.emit o) l := h

theorem RegsKept.tick1 {s t : State} {l : List Nat} (h : RegsKept s t l) : RegsKept s t.tick1 l := h

theorem RegsKept.accMod {t : State} {l : List Nat} (s : State) (f : AccumSt → AccumSt) (h : RegsKept s t l) : RegsKept s (t.accMod f) l := h

theorem RegsKept.arrMod {t : State} {l : List Nat} (s : State) (f : ArraySt → ArraySt) (h : RegsKept s t l) : RegsKept s (t.arrMod f) l := h

theorem RegsKept.beamMod {t : State} {l : List Nat} (s : State) (f : BeamSt → BeamSt) (h : RegsKept s t l) : RegsKept s (t.beamMod f) l := h

theorem RegsKept.bootMod {t : State} {l : List Nat} (s : State) (f : BootSt → BootSt) (h : RegsKept s t l) : RegsKept s (t.bootMod f) l := h

theorem RegsKept.catMod {t : State} {l : List Nat} (s : State) (f : CatSt → CatSt) (h : RegsKept s t l) : RegsKept s (t.catMod f) l := h

theorem RegsKept.chMod {t : State} {l : List Nat} (s : State) (f : ChainSt → ChainSt) (h : RegsKept s t l) : RegsKept s (t.chMod f) l := h

theorem RegsKept.dmaMod {t : State} {l : List Nat} (s : State) (f : DmaSt → DmaSt) (h : RegsKept s t l) : RegsKept s (t.dmaMod f) l := h

theorem RegsKept.hbmMod {t : State} {l : List Nat} (s : State) (f : HbmSt → HbmSt) (h : RegsKept s t l) : RegsKept s (t.hbmMod f) l := h

theorem RegsKept.ingMod {t : State} {l : List Nat} (s : State) (f : IngestSt → IngestSt) (h : RegsKept s t l) : RegsKept s (t.ingMod f) l := h

theorem RegsKept.irqMod {t : State} {l : List Nat} (s : State) (f : IrqSt → IrqSt) (h : RegsKept s t l) : RegsKept s (t.irqMod f) l := h

theorem RegsKept.laneMod {t : State} {l : List Nat} (s : State) (n : Nat) (f : LaneSt → LaneSt) (h : RegsKept s t l) : RegsKept s (t.laneMod n f) l := h

theorem RegsKept.matMod {t : State} {l : List Nat} (s : State) (f : MatrixSt → MatrixSt) (h : RegsKept s t l) : RegsKept s (t.matMod f) l := h

theorem RegsKept.mpMod {t : State} {l : List Nat} (s : State) (p : Nat) (f : MaceSt → MaceSt) (h : RegsKept s t l) : RegsKept s (t.mpMod p f) l := h

theorem RegsKept.powMod {t : State} {l : List Nat} (s : State) (f : PowerSt → PowerSt) (h : RegsKept s t l) : RegsKept s (t.powMod f) l := h

theorem RegsKept.tapMod {t : State} {l : List Nat} (s : State) (f : TapSt → TapSt) (h : RegsKept s t l) : RegsKept s (t.tapMod f) l := h

theorem State.time_fput (s : State) (f : Field) (n : Nat) : (s.fput f n).time = s.time := rfl

theorem State.time_raiseIf (s : State) (c : Bool) (f : Field) : (s.raiseIf c f).time = s.time := by
  unfold State.raiseIf; split <;> rfl

theorem State.noteQuality_acq (s : State) : s.noteQuality.time.armed = s.time.armed ∧ s.noteQuality.time.stepped = s.time.stepped := by
  unfold State.noteQuality
  dsimp only
  split <;> exact ⟨rfl, rfl⟩

theorem State.timeState_acq (s : State) (st : Nat) :
    (s.timeState st).time.armed = s.time.armed ∧ (s.timeState st).time.stepped = s.time.stepped := by
  unfold State.timeState squelchNote
  rw [(State.noteQuality_acq _).1, (State.noteQuality_acq _).2]
  dsimp only
  rw [State.time_raiseIf, State.time_raiseIf]
  exact ⟨rfl, rfl⟩

theorem State.showSources_time (s : State) : s.showSources.time = s.time := rfl

/-! ### Memory -/

/-- A state with the same memory and the same lost carrels reads every byte as before. -/
theorem memKept_of {s t : State} (hm : t.mem = s.mem) (hc : t.carrelEra = s.carrelEra) : MemKept s t := by
  intro a
  unfold State.ldb State.memDefault
  rw [hm, hc]

end Sys2Proof.Machine
end

