-- ==== Sys2Proof/Laws/WithinTest.lean ====
section
/-!
SUPPORT. Laws/WithinTest.lean: which fields of the state each operation and meaning may change, for snapshots, the test port, and wakes and resets that reach no bus: one
lemma each, named after it, which asks that the mask have those fields.
-/
namespace Sys2Proof.Machine

theorem State.timesShown_within {K : Mask} {s0 s : State} [Allowed K.regs] [Allowed K.out] (h : Within K s0 s) : Within K s0
    (State.timesShown s) := by
  simp +contextual (maxDischargeDepth := 100) only [State.timesShown, execSiExpectRead_within, execSiNowRead_within, execTimeNowRead_within,
      ran_within, h]

theorem State.latchBlock_within {K : Mask} {s0 s : State} [Allowed K.fresh] (h : Within K s0 s) (b : Nat) : Within K s0
    (State.latchBlock s b).1 := by
  simp +contextual (maxDischargeDepth := 100) only [State.latchBlock, State.tick1_within, h, within_ite1]

theorem execSnapshotLatch_within {K : Mask} {s0 s : State} [Allowed K.out] [Allowed K.fresh] [Allowed K.snap] (h : Within K s0 s) (b : Fin 21) :
    WithinO K s0 (execSnapshotLatch b s) := by
  simp +contextual (maxDischargeDepth := 100) only [execSnapshotLatch, State.doIf_within, State.emit_within, State.latchBlock_within, within_mk,
      kept_refl, kept_allowed, within_ite, h, implies_true, withinO_next]

theorem State.writeImage_within {K : Mask} {s0 s : State} [Allowed K.mem] [Allowed K.poison] (h : Within K s0 s) (k : Nat) (ws : Tab Word) :
    Within K s0 (State.writeImage s k ws) := by
  simp +contextual (maxDischargeDepth := 100) only [State.writeImage, State.forEach_within, State.stNat_within, within_mk, kept_refl,
      kept_allowed, h, implies_true]

theorem execSnapDone_within {K : Mask} {s0 s : State} [Allowed K.regs] [Allowed K.mem] [Allowed K.poison] [Allowed K.snap] (h : Within K s0 s) :
    WithinO K s0 (execSnapDone s) := by
  simp +contextual (maxDischargeDepth := 100) only [execSnapDone, State.forEach_within, State.fput_within, State.raise_within, State.wr64_within,
      State.wr_within, State.writeImage_within, within_mk, kept_refl, kept_allowed, within_ite, h, implies_true, withinO_next]

theorem State.tapMod_within {K : Mask} {s0 s : State} [Allowed K.tap] (h : Within K s0 s) (f : TapSt → TapSt) : Within K s0 (State.tapMod s f) := by
  simp +contextual (maxDischargeDepth := 100) only [State.tapMod, within_mk, kept_refl, kept_allowed, h]

theorem State.scan_within {K : Mask} {s0 s : State} [Allowed K.out] (h : Within K s0 s) (reg tdi : List Bool) : Within K s0
    (State.scan s reg tdi) := by
  simp +contextual (maxDischargeDepth := 100) only [State.scan, State.emit_within, h]

theorem State.tapSelect_within {K : Mask} {s0 s : State} [Allowed K.tap] (h : Within K s0 s) (k : Nat) (drives highz : Bool) : Within K s0
    (State.tapSelect s k drives highz) := by
  simp +contextual (maxDischargeDepth := 100) only [State.tapSelect, State.tapMod_within, h]

theorem State.driveBalls_within {K : Mask} {s0 s : State} [Allowed K.out] (h : Within K s0 s) : Within K s0 (State.driveBalls s) := by
  simp +contextual (maxDischargeDepth := 100) only [State.driveBalls, State.emit_within, h]

theorem State.scanCells_within {K : Mask} {s0 s : State} [Allowed K.out] [Allowed K.tap] (h : Within K s0 s) (pins tdi : List Bool) : Within K s0
    (State.scanCells s pins tdi) := by
  simp +contextual (maxDischargeDepth := 100) only [State.scanCells, State.scan_within, State.tapMod_within, h]

theorem execBypassInstruction_within {K : Mask} {s0 s : State} [Allowed K.out] [Allowed K.tap] (h : Within K s0 s) (tdi : List Bool) :
    WithinO K s0 (execBypassInstruction tdi s) := by
  simp +contextual (maxDischargeDepth := 100) only [execBypassInstruction, State.scan_within, State.tapSelect_within, h, withinO_next]

theorem execIdcode_within {K : Mask} {s0 s : State} [Allowed K.out] [Allowed K.tap] (h : Within K s0 s) (tdi : List Bool) : WithinO K s0
    (execIdcode tdi s) := by
  simp +contextual (maxDischargeDepth := 100) only [execIdcode, State.scan_within, State.tapSelect_within, h, withinO_next]

theorem execSamplePreload_within {K : Mask} {s0 s : State} [Allowed K.out] [Allowed K.tap] (h : Within K s0 s) (pins tdi : List Bool) :
    WithinO K s0 (execSamplePreload pins tdi s) := by
  simp +contextual (maxDischargeDepth := 100) only [execSamplePreload, State.scanCells_within, State.tapSelect_within, h, withinO_next]

theorem execExtest_within {K : Mask} {s0 s : State} [Allowed K.out] [Allowed K.tap] (h : Within K s0 s) (pins tdi : List Bool) : WithinO K s0
    (execExtest pins tdi s) := by
  simp +contextual (maxDischargeDepth := 100) only [execExtest, State.driveBalls_within, State.scanCells_within, State.tapSelect_within, h,
      withinO_next]

theorem execClamp_within {K : Mask} {s0 s : State} [Allowed K.out] [Allowed K.tap] (h : Within K s0 s) (tdi : List Bool) : WithinO K s0
    (execClamp tdi s) := by
  simp +contextual (maxDischargeDepth := 100) only [execClamp, State.driveBalls_within, State.scan_within, State.tapSelect_within, h, withinO_next]

theorem execHighz_within {K : Mask} {s0 s : State} [Allowed K.out] [Allowed K.tap] (h : Within K s0 s) (tdi : List Bool) : WithinO K s0
    (execHighz tdi s) := by
  simp +contextual (maxDischargeDepth := 100) only [execHighz, State.scan_within, State.tapSelect_within, h, withinO_next]

theorem execExtestPulse_within {K : Mask} {s0 s : State} [Allowed K.out] [Allowed K.tap] (h : Within K s0 s) (pins tdi : List Bool) : WithinO K s0
    (execExtestPulse pins tdi s) := by
  simp +contextual (maxDischargeDepth := 100) only [execExtestPulse, State.driveBalls_within, State.scanCells_within, State.tapSelect_within, h,
      withinO_next]

theorem execExtestTrain_within {K : Mask} {s0 s : State} [Allowed K.out] [Allowed K.tap] (h : Within K s0 s) (pins tdi : List Bool) : WithinO K s0
    (execExtestTrain pins tdi s) := by
  simp +contextual (maxDischargeDepth := 100) only [execExtestTrain, State.driveBalls_within, State.scanCells_within, State.tapSelect_within, h,
      withinO_next]

theorem execBootRead_within {K : Mask} {s0 s : State} [Allowed K.out] [Allowed K.tap] (h : Within K s0 s) (tdi : List Bool) : WithinO K s0
    (execBootRead tdi s) := by
  simp +contextual (maxDischargeDepth := 100) only [execBootRead, State.scan_within, State.tapSelect_within, h, withinO_next]

theorem State.timeSleep_within {K : Mask} {s0 s : State} [Allowed K.regs] [Allowed K.fresh] [Allowed K.time] (h : Within K s0 s) : Within K s0
    (State.timeSleep s) := by
  unfold State.timeSleep
  split <;> simp +contextual (maxDischargeDepth := 100) only [State.enterFreeRun_within, State.enterHoldover_within, within_ite, h]

theorem State.railsDown_within {K : Mask} {s0 s : State} [Allowed K.out] (h : Within K s0 s) : Within K s0 (State.railsDown s) := by
  simp +contextual (maxDischargeDepth := 100) only [State.railsDown, State.emit_within, State.forEach_within, h, implies_true]

theorem execPcieReset_within {K : Mask} {s0 s : State} [Allowed K.regs] [Allowed K.matrix] [Allowed K.host] (h : Within K s0 s) : WithinO K s0
    (execPcieReset s) := by
  simp +contextual (maxDischargeDepth := 100) only [execPcieReset, State.clr_within, State.forEach_within, State.mbResetX_within,
      State.raiseIf_within, State.wr_within, within_mk, kept_refl, kept_allowed, within_ite, h, implies_true, withinO_next]

theorem execTestReset_within {K : Mask} {s0 s : State} [Allowed K.tap] (h : Within K s0 s) : WithinO K s0 (execTestReset s) := by
  simp +contextual (maxDischargeDepth := 100) only [execTestReset, within_mk, kept_refl, kept_allowed, h, withinO_next]

theorem execWake_within {K : Mask} {s0 s : State} [Allowed K.regs] [Allowed K.out] [Allowed K.fresh] [Allowed K.lanes] [Allowed K.time]
    [Allowed K.chain] [Allowed K.hbm] [Allowed K.irq] [Allowed K.host] (h : Within K s0 s) (written : Bool) : WithinO K s0
    (execWake written s) := by
  simp +contextual (maxDischargeDepth := 100) only [execWake, State.chMod_within, State.commandCore_within, State.countBy_within,
      State.doIf_within, State.enterDetect_within, State.enterPhase_within, State.forEach_within, State.fput_within, State.loadLease_within,
      State.raise_within, State.reselect_within, State.showIdle_within, State.unhold_within, within_ite, h, implies_true, withinO_next]

end Sys2Proof.Machine
end

