-- ==== Sys2Proof/WellFormed.lean ====
section
/-!
DEFINITION. WellFormed.lean: what a command's operands must satisfy for the command to be one that can come: addresses of registers, the
ranges of the spec's numbers, and the lengths of its messages and transfers. The meanings are total all the same.
-/
namespace Sys2Proof

/-- The BAR0 offset of a register: a word of the 16 MiB of BAR0 (R452). -/
def okReg (a : Nat) : Bool := a % 4 == 0 && decide (a < 0x1000000)

/-- A spectrum index: 64 bits (R30). -/
def okSi (x : Nat) : Bool := decide (x < 2 ^ 64)

/-- A channel block: one of at most 4,096 slots, and a block of 128 spectra (R139). -/
def okSlot (slot b : Nat) : Bool := decide (slot < 4096) && okSi (128 * b)

/-- A chain message: no longer than its 16-bit length field can say, with head and check word (R379). -/
def okMsg (b : List Byte) : Bool := decide (b.length ≤ 65535 + 20)

/-- The number of a 32-byte unit of the Archive (R438). -/
def okUnit (u : Nat) : Bool := decide (32 * u < 0xC00000000)

/-- A transfer of at least one byte from `a` that stays below `lim` (R451). -/
def okSpan (a : Nat) (data : List (Option Byte)) (lim : Nat) : Bool := !data.isEmpty && decide (a + data.length ≤ lim)

/-- One reading of each of the 16 diodes (R625). -/
def okDiodes (l : List (BitVec 16)) : Bool := l.length == 16

/-- One value for each of the 1,368 boundary cells (R687). -/
def okCells (l : List Bool) : Bool := l.length == 1368

/-- Whether a command's operands are in range. -/
def WellFormed (c : Instr) : Bool :=
  match c with
  | .registerWrite _ a _ => okReg a
  | .rcRead _ a => okReg a
  | .rwaWrite r _ => okReg r
  | .timeNowRead => true
  | .siNowRead => true
  | .siExpectRead => true
  | .blockDeadline b => okSi (128 * b)
  | .slewEnd => true
  | .reacquire => true
  | .nextSecWrite _ => true
  | .ppsEdge _ _ => true
  | .vrefOffset _ => true
  | .chainOffset _ => true
  | .sourceClockLoss _ => true
  | .ppsTimeout _ => true
  | .vrefTimeout _ => true
  | .qualGain _ => true
  | .qualWindowEnd _ => true
  | .revertWait => true
  | .frequencyLockHeld => true
  | .acqTimeout => true
  | .holdLimit => true
  | .ppsOutRise => true
  | .ppsOutFall => true
  | .quirePllLoss _ => true
  | .quirePllLock _ => true
  | .detectPulse _ => true
  | .detectExit _ => true
  | .tsbSwitch _ _ => true
  | .trainDone _ => true
  | .trainTimeout _ => true
  | .lockTimeout _ => true
  | .exchTimeout _ => true
  | .trainingSequence _ _ _ => true
  | .capabilitySet _ _ body _ _ => body.length == 24
  | .characterReceive _ _ _ => true
  | .signalLoss _ => true
  | .bitLockLoss _ => true
  | .frameReceive _ => true
  | .runaway _ => true
  | .elastic _ => true
  | .margin _ _ => true
  | .adaptStep _ _ _ _ _ _ _ _ => true
  | .laneRetrain _ => true
  | .laneTestSet _ _ _ _ => true
  | .simplexPhaseEnd _ => true
  | .egressFrameSent _ => true
  | .samplesFrame _ => true
  | .skewExpiry slot b => okSlot slot b
  | .channelBlockRelease slot b => okSlot slot b
  | .stagingFree slot b => okSlot slot b
  | .monRestart => true
  | .monitorRestart => true
  | .dwellWindowReady _ _ => true
  | .arrayWindowStart => true
  | .roundReadStart => true
  | .orderIssue _ _ => true
  | .tileRoundStart _ _ => true
  | .orderExecute _ _ _ => true
  | .passEnd _ => true
  | .shadowDrain _ _ => true
  | .writebackRetire _ _ => true
  | .spill _ _ => true
  | .spillAck _ => true
  | .fenceRetire _ => true
  | .drainRetire _ => true
  | .checkPeriod => true
  | .checkNow => true
  | .check _ _ => true
  | .parity _ _ => true
  | .retireReq _ _ => true
  | .integrationBoundary x => okSi x
  | .bankTablesRewritten _ => true
  | .drainStart => true
  | .folioDone => true
  | .folioEgressDone _ => true
  | .stageRelease _ => true
  | .beamReadout _ => true
  | .late _ slot b => okSlot slot b
  | .vbeamFrameStart _ => true
  | .vdrop => true
  | .dbeamSend => true
  | .cand => true
  | .switchRequest _ => true
  | .weightSwitch => true
  | .wloadSet _ _ => true
  | .pendingSwitch => true
  | .searchRestart => true
  | .load => true
  | .loadComplete _ => true
  | .verify => true
  | .verifyComplete => true
  | .store => true
  | .storeComplete _ => true
  | .setBoot => true
  | .noBoot => true
  | .schedule => true
  | .cancel => true
  | .clear => true
  | .acceded => true
  | .remap => true
  | .resumed => true
  | .helloSend _ => true
  | .hello _ b => okMsg b
  | .helloTimeout _ => true
  | .chainLinkLoss _ _ => true
  | .enum b => okMsg b
  | .enumEnd b => okMsg b
  | .enumTimeout => true
  | .versionSet b => okMsg b
  | .chainEnum => true
  | .chainForce => true
  | .clearAddr => true
  | .chainEnumWaitTimeout => true
  | .sync _ b => okMsg b
  | .syncFu b => okMsg b
  | .dreq _ b => okMsg b
  | .dresp b => okMsg b
  | .stampSend _ => true
  | .txqSend _ => true
  | .rxqPop => true
  | .chainAccede _ => true
  | .chainSnap _ => true
  | .chainCancel _ => true
  | .chainRepeat => true
  | .accede b => okMsg b
  | .snap b => okMsg b
  | .chainCancelReceive b => okMsg b
  | .report b => okMsg b
  | .cmdTimeout => true
  | .mbox _ b => okMsg b
  | .mboxAck _ b => okMsg b
  | .mapApply => true
  | .initialisingScrubDone => true
  | .hbmRequest _ _ _ _ _ off data => !data.isEmpty && decide (off + data.length ≤ 2 ^ 36)
  | .hbmRequestComplete _ _ => true
  | .hbmAgePromote _ => true
  | .pageTimeout _ _ => true
  | .refreshDue _ _ _ => true
  | .hbmTemperatureRead _ _ => true
  | .scrubPeriod => true
  | .scrubNow => true
  | .scrubDone fixed bad => (fixed ++ bad).all okUnit
  | .rateChange _ => true
  | .rateChanged => true
  | .trainingPhaseDone _ _ _ _ => true
  | .matrixTransaction _ _ _ _ _ addr data => okSpan addr.toNat data (2 ^ 40)
  | .matrixResponse _ => true
  | .timeout _ => true
  | .matrixAgePromote _ => true
  | .saffronWindow => true
  | .remapWrite _ => true
  | .carrelWindowAccess _ _ _ _ off _ data => okSpan off.val data 0x40000
  | .aliasWrite _ _ _ _ off data => okSpan off.val data 0x40000
  | .registerBridgeAccess _ _ _ off _ data => okSpan off.val data 0x1000000
  | .dmaEnable _ _ => true
  | .dmaStop _ => true
  | .dmaResume _ => true
  | .doorbell _ => true
  | .dmaCfgWrite _ _ _ => true
  | .descriptorFetch _ host _ => decide (host.length ≤ 32)
  | .dmaBurst _ => true
  | .dmaReadResponse _ host _ => decide (host.length ≤ 576)
  | .dmaWriteResponse _ => true
  | .fenceTimeout _ => true
  | .dmaErr _ _ _ => true
  | .leaseRenew _ _ => true
  | .leaseClaim _ _ => true
  | .leaseExpiry => true
  | .yield _ => true
  | .curatorHold _ => true
  | .curatorRelease _ => true
  | .failoverDone _ => true
  | .failoverSlow => true
  | .healthWrite _ _ _ => true
  | .healthBad _ => true
  | .tcmUe _ => true
  | .ckptWrite _ _ => true
  | .bootRomSelftest _ _ => true
  | .post _ _ _ _ => true
  | .lockRead _ _ _ => true
  | .lockRelease _ _ _ => true
  | .noticeRead _ _ => true
  | .ack _ _ _ _ => true
  | .mailboxTimeout _ _ => true
  | .cross _ => true
  | .add _ _ _ _ => true
  | .sub _ _ _ _ => true
  | .and _ _ _ _ => true
  | .or _ _ _ _ => true
  | .xor _ _ _ _ => true
  | .sll _ _ _ _ => true
  | .srl _ _ _ _ => true
  | .sra _ _ _ _ => true
  | .slt _ _ _ _ => true
  | .sltu _ _ _ _ => true
  | .mul _ _ _ _ => true
  | .mulh _ _ _ _ => true
  | .mulhu _ _ _ _ => true
  | .div _ _ _ _ => true
  | .divu _ _ _ _ => true
  | .rem _ _ _ _ => true
  | .remu _ _ _ _ => true
  | .min _ _ _ _ => true
  | .max _ _ _ _ => true
  | .adds _ _ _ _ => true
  | .subs _ _ _ _ => true
  | .addi _ _ _ _ => true
  | .andi _ _ _ _ => true
  | .ori _ _ _ _ => true
  | .xori _ _ _ _ => true
  | .slti _ _ _ _ => true
  | .sltiu _ _ _ _ => true
  | .lui _ _ _ => true
  | .slli _ _ _ _ => true
  | .srli _ _ _ _ => true
  | .srai _ _ _ _ => true
  | .lb _ _ _ _ _ => true
  | .lbu _ _ _ _ _ => true
  | .lh _ _ _ _ _ => true
  | .lhu _ _ _ _ _ => true
  | .lw _ _ _ _ _ => true
  | .ld _ _ _ _ _ => true
  | .sb _ _ _ _ _ => true
  | .sh _ _ _ _ _ => true
  | .sw _ _ _ _ _ => true
  | .sd _ _ _ _ _ => true
  | .beq _ _ _ _ => true
  | .bne _ _ _ _ => true
  | .blt _ _ _ _ => true
  | .bge _ _ _ _ => true
  | .bltu _ _ _ _ => true
  | .bgeu _ _ _ _ => true
  | .j _ _ => true
  | .jal _ _ => true
  | .jr _ _ => true
  | .jalr _ _ _ => true
  | .seta _ _ _ _ => true
  | .geta _ _ _ => true
  | .getah _ _ _ => true
  | .setm _ _ _ => true
  | .getm _ _ _ => true
  | .adda _ _ _ => true
  | .mac _ _ _ _ _ _ _ _ => true
  | .pow _ _ _ _ => true
  | .aclr _ _ => true
  | .apack _ _ _ => true
  | .amovre _ _ _ => true
  | .amovim _ _ _ => true
  | .ald _ _ _ _ => true
  | .rdcsr _ _ _ => true
  | .wrcsr _ _ _ => true
  | .rdtime _ _ => true
  | .rdsi _ _ => true
  | .waitsi _ _ => true
  | .waitsiEnd _ => true
  | .wfe _ _ => true
  | .wfeEnd _ => true
  | .fence _ => true
  | .trap _ _ => true
  | .storeErr _ => true
  | .eret _ => true
  | .stop _ => true
  | .bmov _ _ _ _ _ _ => true
  | .bmovComplete _ _ => true
  | .bwait _ => true
  | .dMac _ _ => true
  | .dMacz _ _ => true
  | .dMacy _ _ => true
  | .dMacyz _ _ => true
  | .ftap _ _ => true
  | .ftapz _ _ => true
  | .dPow _ _ => true
  | .dPowz _ _ => true
  | .dMove _ _ => true
  | .loop _ _ _ _ _ => true
  | .cloveRun _ => true
  | .cloveHalt _ => true
  | .cloveReset _ => true
  | .kick _ => true
  | .cloveOutsideAccess _ _ _ _ loc _ _ data => okSpan loc.val data 0x60000
  | .sourceRise _ => true
  | .sourceFall _ => true
  | .fastEntry _ _ => true
  | .normalEntry _ => true
  | .normalExit _ => true
  | .moderationRelease _ => true
  | .hostAck _ => true
  | .msixUnmask _ => true
  | .pcieDstateChange _ _ _ _ _ _ => true
  | .sleep => true
  | .wake _ => true
  | .cold _ => true
  | .warm => true
  | .rstNPulse => true
  | .start _ _ => true
  | .startStepDone _ _ bad => bad.all (fun e => decide (e.1 < 400))
  | .railTimeout => true
  | .startRetry => true
  | .refWaitTimeout => true
  | .hostWaitTimeout => true
  | .vddIoLoss => true
  | .pcieReset => true
  | .testReset => true
  | .slowRound diodes mv _ est _ => okDiodes diodes && mv.length == 8 && est.length == 8
  | .fastRound diodes ps => okDiodes diodes && ps.length == 8
  | .pmAlert _ => true
  | .thermtrip _ => true
  | .generatorDelivery slot b => okSlot slot b
  | .snapshotRequest _ => true
  | .snapshotLatch _ => true
  | .snapDone => true
  | .pcieInboundRequest _ off _ _ _ data => okSpan off.toNat data (2 ^ 36)
  | .cplTimeout _ => true
  | .fwCommit => true
  | .fwDone => true
  | .fwStore => true
  | .fwStoreComplete _ => true
  | .setFirst => true
  | .bumpRollback => true
  | .mgmtFrameReceive _ _ => true
  | .txDoorbell => true
  | .mgmtFrameSent => true
  | .mgmtRateAlternate => true
  | .bypassInstruction _ => true
  | .idcode _ => true
  | .samplePreload pins _ => okCells pins
  | .extest pins _ => okCells pins
  | .clamp _ => true
  | .highz _ => true
  | .extestPulse pins _ => okCells pins
  | .extestTrain pins _ => okCells pins
  | .bootRead _ => true
  | .bitLock _ => true
  | .illegalInstruction _ _ _ => true
  | .remapEnd => true
  | .forwardedMessage _ b => okMsg b
  | .pcieLinkUp _ _ => true
  | .mgmtLink _ => true

end Sys2Proof
end

