-- ==== Sys2Proof/Tests/Slice0.lean ====
section
/-! SUPPORT. The model's own tests, each one step or one function on a small state: for every statement a witness that its
hypotheses can be met, one clause after the other; for every check of `WellFormed` a term that it refuses; and a few numbers from
the worked examples of the spec. -/

set_option Elab.async false
set_option linter.unusedVariables false
set_option maxRecDepth 4000

namespace Sys2Proof.Machine

/-! ### Small states -/

/-- A block whose registers all read zero. -/
def z : State := { State.reset with regs := [] }

/-- A block in HOLD. -/
def on : State := z.fput F.POWER_STATUS_MODE 1

def zImg : State := (z.fput F.CAT_STATUS_SHADOW 4).catMod (fun c => { c with shadow := refImage })
def zIn : State := ((z.fput F.INGEST_GEOM_CHANNELS 1).fput F.INGEST_GEOM_INPUTS 32).ingMod (fun g =>
  { g with blks := [{ slot := 0, b := 0 }] })
def zCl : State := z.ingMod (fun g => { g with blks := [{ slot := 0, b := 0, closed := true }] })
def zRel : State := z.ingMod (fun g => { g with blks := [{ slot := 0, b := 0, closed := true, released := true }] })
def zGen : State := (((z.fput F.INGEST_GEOM_CHANNELS 1).fput F.INGEST_GEOM_INPUTS 32).fput F.POWER_STATUS_MODE 5).fput F.POWER_GEN_CFG_EN 1
def zA0 : State := (((((z.fput F.INGEST_GEOM_CHANNELS 1).fput F.INGEST_GEOM_INPUTS 32).wrN R.INGEST_DWELL 128).fput F.ARRAY_GEOM_T 128).fput F.ARRAY_GEOM_SHAPE 1).fput (F.ARRAY_PMAP_STATE 0) 1
def zA : State := zA0.arrMod (fun a =>
  { a with plan := { roles := [1], wings := [{ tiles := [0], blocks := [0] }], cfg := zA0.regs }, runs := [{ id := 1, m := 0, parts := [⟨0, 1, 1, 0, true⟩] }], tiles := [(0, { run := 1 })] })
def zT (f : TileSt → TileSt) : State := zA.arrMod (fun a => { a with tiles := [(0, f { run := 1 })] })
def ordOf (op : Nat) : QOrd := { word := BitVec.ofNat 128 (op * 2 ^ 124), run := 9 }
def zI : Integ := { id := 1, a := 0, bank := 0, cfg := [] }
def zAcc (f : AccumSt → AccumSt) : State := zA.accMod f
def zSp : Sums := { ord := { word := 0x30000000000000000000000000000000#128, run := 1 } }
def zHeld : HeldBlk := { slot := 0, b := 0, refNs := 0, part := false, gen := false }
def zSet : State := ((((z.wrN (R.BEAM_SET_VOLT 0) 1).fput (F.ARRAY_PMAP_STATE 0) 1)).arrMod (fun a =>
  { a with plan := { a.plan with roles := [2], recs := [⟨0, 0, 0, 1, 1⟩] }, tiles := [(0, { readable := [(zHeld, 0)] })] }))
def zC : State := (((z.fput F.CHAIN_STATUS_UP_STATE 5).fput F.CHAIN_STATUS_DN_STATE 5).fput F.CHAIN_VERSION_VERSION 2).chMod (fun c =>
  { c with peers := [(0, [3]), (1, [3])] })
def zMem : State := zC.fput F.CHAIN_STATUS_ENUM_STATE 1
def zMemA : State := zMem.fput F.CHAIN_ADDR_VALID 1
def zHead : State := ((zC.fput F.CHAIN_STATUS_HEAD 1).fput F.CHAIN_STATUS_SWEEP 1).fput F.CHAIN_STATUS_CMD_BUSY 1
def msgIn (p typ : Nat) (body : List Byte) : List Byte := Msg.bytes ⟨zC.msgVersion p typ, typ, 7, 3, 5, 0, body⟩
def zMb : State := ((((z.fput F.CORE_LEASE_OWNER 1).wrN (R.MBOX_D_POST_CPL 0 0) 0xFFFFFFFF).fput (F.MBOX_CFG_X_MASTER0 0) 20).fput (F.MBOX_CFG_X_MASTER1 0) 31)
def zNot : State := ((zMb.fput (F.MBOX_D_STATE_STATE 0 0) 1).fput (F.MBOX_D_STATE_STATE 0 1) 1).fput (F.MBOX_CFG_ACK_TIMEOUT 0) 5
def zAckd : State := zC.fput (F.MBOX_D_STATE_STATE 40 1) 1
def zGap : State := ((z.fput F.CAT_STATUS_SHADOW 6).catMod (fun c => { c with acc := some (0, 0) }))
def zStep (n : Nat) : State := (z.fput F.BOOT_STATUS_STEP n).bootMod (fun b => { b with begun := true })
def zAcceded : State := (on.fput F.CAT_STATUS_SHADOW 5).catMod (fun c => { c with acc := some (0, 0) })
def zIrq : State := (on.fput F.CORE_STATUS_ROLE_A 4).irqMod (fun i => { i with st := [(2048, 1)] })
def rq : HReq := { cls := 3, rank := 3, src := 1, tag := 2, hint := true, wr := false, off := 0, data := [none], pc := 0, bank := 0, row := 0 }
def zRq : State := z.hbmMod (fun h => { h with reqs := [rq] })
def zGoodA : State := ((on.fput F.CORE_STATUS_ROLE_A 3).fput F.CORE_STATUS_GOOD_A 1).wrN (R.CORE_HEALTH 0) 0xFFFF0000
def zL : State := (((on.fput F.CORE_LEASE_OWNER 1).fput F.CORE_STATUS_ROLE_A 4).fput F.CORE_STATUS_FAILOVER 1)
def zGoodB : State := ((zL.fput F.CORE_STATUS_ROLE_B 3).fput F.CORE_STATUS_GOOD_B 1).wrN (R.CORE_HEALTH 1) 0xFFFF0000
def zFw : State := (on.fput F.HOSTIF_FW_STATUS_STATE 1)
def zRun : State := ((z.fput F.BOOT_STATUS_STATE 1).fput F.POWER_STATUS_PROG_OK 1)
def zMg : State := ((on.fput F.MGMT_CTRL_EN 1).fput F.MGMT_STATUS_LINK 1)
def zSn : State := ((z.fput F.SNAP_STATUS_PENDING 1))
def dD : DmaDesc := dmaDesc 0 ([0x80#8, 0x7f#8] ++ [0#8, 0x80#8] ++ List.replicate 8 0#8 ++ [64#8] ++ List.replicate 15 0#8 ++ [1#8, 0x10#8, 0#8, 1#8])
def dH : DmaDesc := { dD with src := hostWin, dst := hostWin + 4096 }
def zD (st : Nat) : State := (z.fput (F.DMA_CH_STATUS_STATE 3) st).fput (F.DMA_CH_CTRL_ENABLE 3) 1
def zRing : State := ((zD 7).fput (F.DMA_CH_RING_HI_SIZE 3) 1).wrN (R.DMA_CH_RING_LO 3) 0x1000000
def zHw (st : Nat) : State := (((zD st).fput (F.DMA_CH_RING_HI_SIZE 3) 1).fput (F.DMA_CH_RING_HI_ADDR_HI 3) 0x80).wrN R.HOSTIF_STATUS 0x200000
def zRd : State := ((zHw 3).chMod' 3 (fun c => { c with desc := some dH, rd := 64, reads := [(0, 64)] }))
def tx0 : Txn := { m := 0, id := 0, qos := 0, hint := false, wr := false, addr := 0, tgt := 0, data := [none] }
def zTx : State := z.matMod (fun x => { x with txns := [tx0] })
def zE : State := on.fput (F.CLOVE_STATUS_STATE 0) 1
def zK : State := on.fput F.CORE_STATUS_ROLE_A 4
def zEx : State := zE.setA (.clove 0) 0 0x10000#40
def zTr : State := zE.mpMod 2 (fun p => { p with storeErr := some 4 })
def zBm : State := ((zE.setA (.clove 0) 0 0x10000#40).setA (.clove 0) 1 0x400000000#40).setG (.clove 0) 1 64#32
def zBits : DBits := ⟨0, 0, 0, 0, 0, 0, 0, false, false, 1, false, false, true, true⟩
def zDs : State := ((zE.setA (.clove 0) 0 0x10000#40).setA (.clove 0) 4 0x30000#40).setA (.clove 0) 6 0x50000#40

/-! ### The hypotheses of every statement, clause by clause, hold somewhere -/

theorem witness_RegisterAccessByCode :
    (fun (m : Fin 21) (a : Nat) (v : Word) (r : RegRow) (s : State) => s.regOpen a = true ∧ ¬ (0x1B0000 ≤ canonReg a ∧
      canonReg a < 0x1C0000) ∧ regRow (canonReg a) = some r ∧ r.acc ≠ .rwa ∧
      s.writeSpecial m.val (canonReg a) v = none) 0 0x20 5#32 (⟨0x20, [], .rw, 0xFFFFFFFF, 0x0, 0x0⟩) on
    ∧ (fun (m : Fin 21) (a : Nat) (s : State) => s.regOpen a = true ∧ ¬ (0x1B0000 ≤ canonReg a ∧ canonReg a < 0x1C0000) ∧
      (regRow (canonReg a)).map RegRow.acc = some .rc ∧ s.hidden (canonReg a) = false) 0 0x100A0 on
    ∧ (fun (m : Fin 21) (a : Nat) (s : State) => s.regOpen a = true ∧ ¬ (0x1B0000 ≤ canonReg a ∧ canonReg a < 0x1C0000) ∧
      (regRow (canonReg a)).map RegRow.acc = some .rc ∧ s.hidden (canonReg a) = true) 0 (R.INGEST_IN_EXCISED 4095) on := by
  refine ⟨?_, ?_, ?_⟩
  · decide +kernel
  · decide +kernel
  · decide +kernel

theorem witness_TimeCommandsSteer :
    (fun (s : State) => s.fbit F.TIME_STATE_SLEWING = true ∧ s.time.slewLeft = 0) (z.fput F.TIME_STATE_SLEWING 1)
    ∧ (fun (s : State) => s.fget F.TIME_STATE_STATE = 1 ∧ s.asleep = false) (z.fput F.TIME_STATE_STATE 1)
    ∧ (fun (s : State) => s.fget F.TIME_STATE_STATE = 3 ∧
      s.holdLimit ≤ s.rdN R.TIME_HOLD_SECONDS) (z.fput F.TIME_STATE_STATE 3)
    ∧ (fun (s : State) => s.fget F.TIME_STATE_STATE = 1 ∧ s.nextUsable s.activeSrc = none) (z.fput F.TIME_STATE_STATE 1)
    ∧ (fun (c a : Nat) (s : State) => s.candidate = some c ∧ s.activeSrc = some a ∧ s.fbit F.TIME_CTRL_REVERTIVE = true ∧
      s.slotOf c < s.slotOf a ∧
      s.asleep = false) 0 1 (((((z.wr R.TIME_PRIO 0x8180#32).fput (F.TIME_SRC_STATUS_QUALIFIED 0) 1).fput F.TIME_STATE_ACTIVE 1).fput F.TIME_STATE_ACTIVE_VALID 1).fput F.TIME_CTRL_REVERTIVE 1) := by
  refine ⟨?_, ?_, ?_, ?_, ?_⟩
  · decide +kernel
  · decide +kernel
  · decide +kernel
  · decide +kernel
  · decide +kernel

theorem witness_TimeSourcesSampled :
    (fun (n : Fin 2) (phase : Fin 32) (fall : Bool) (s : State) =>
      s.fbit (F.TIME_SRC_CFG_PPS_FALL n.val) = fall) 0 0 false z
    ∧ (fun (n : Fin 2) (phase : Fin 32) (fall : Bool) (s : State) =>
      s.fbit (F.TIME_SRC_CFG_PPS_FALL n.val) = !fall) 0 0 true z
    ∧ (fun (n : Fin 2) (s : State) => s.asleep = false) 0 z
    ∧ (fun (n : Fin 2) (s : State) => s.asleep = false) 0 z
    ∧ (fun (n : Fin 2) (s : State) => s.asleep = false) 0 z
    ∧ (fun (n : Fin 4) (s : State) => s.qualified n.val = false ∧ (tget {} s.time.srcs n.val).present = true ∧
      s.asleep = false) 3 ({ z with time := { z.time with srcs := [(3, ⟨false, 0, true⟩)] } })
    ∧ (fun (s : State) => s.ppsDriven = true ∧ s.ppsCrossed = true ∧
      s.time.ppsOut = false) ((z.fput F.TIME_OUT_PPS_EN 1).wrN R.TIME_INCR_INT 4)
    ∧ (fun (s : State) => s.time.ppsLeft = 0) z := by
  refine ⟨?_, ?_, ?_, ?_, ?_, ?_, ?_, ?_⟩
  · decide +kernel
  · decide +kernel
  · decide +kernel
  · decide +kernel
  · decide +kernel
  · decide +kernel
  · decide +kernel
  · decide +kernel

theorem witness_BringUpMovesOn :
    (fun (n : Fin 194) (s : State) => (n.val < 192 → s.laneState n.val = 1) ∧ (192 ≤ n.val →
      s.portState (n.val - 192) = 1)) 3 (z.fput (F.LANE_STATE_STATE 3) 1)
    ∧ (fun (n : Fin 194) (s : State) => (n.val < 192 → s.laneState n.val = 1) ∧ (192 ≤ n.val →
      s.portState (n.val - 192) = 1)) 3 (z.fput (F.LANE_STATE_STATE 3) 1)
    ∧ (fun (n : Fin 194) (fom : Byte) (s : State) => (n.val < 192 → s.laneState n.val = 2) ∧ (192 ≤ n.val →
      s.portState (n.val - 192) = 2) ∧ s.fbit (F.LANE_CFG_SIMPLEX_TX n.val) = false ∧
      s.fget (F.LANE_FOM_CFG_ADAPT_MIN n.val) ≤ fom.toNat) 3 7#8 (z.fput (F.LANE_STATE_STATE 3) 2)
    ∧ (fun (n : Fin 194) (s : State) => (n.val < 192 → s.laneState n.val = 2) ∧ (192 ≤ n.val →
      s.portState (n.val - 192) = 2) ∧ (s.lane n.val).tsb = true ∧
      s.fbit (F.LANE_CFG_SIMPLEX_TX n.val) = false) 3 ((z.fput (F.LANE_STATE_STATE 3) 2).laneMod 3 (fun l =>
      { l with tsb := true }))
    ∧ (fun (n : Fin 194) (s : State) => (n.val < 192 → s.laneState n.val = 2) ∧ (192 ≤ n.val →
      s.portState (n.val - 192) = 2) ∧ s.fbit (F.LANE_CFG_SIMPLEX_TX n.val) = false) 3 (z.fput (F.LANE_STATE_STATE 3) 2)
    ∧ (fun (n : Fin 194) (s : State) => (n.val < 192 → s.laneState n.val = 3) ∧ (192 ≤ n.val →
      s.portState (n.val - 192) = 3)) 3 (z.fput (F.LANE_STATE_STATE 3) 3)
    ∧ (fun (n : Fin 194) (s : State) => (n.val < 192 → s.laneState n.val = 3) ∧ (192 ≤ n.val →
      s.portState (n.val - 192) = 3)) 3 (z.fput (F.LANE_STATE_STATE 3) 3)
    ∧ (fun (n : Fin 194) (s : State) => (n.val < 192 → s.laneState n.val = 3) ∧ (192 ≤ n.val →
      s.portState (n.val - 192) = 3) ∧ s.fbit (F.LANE_CFG_SIMPLEX_TX n.val) = false) 3 (z.fput (F.LANE_STATE_STATE 3) 3) := by
  refine ⟨?_, ?_, ?_, ?_, ?_, ?_, ?_, ?_⟩
  · decide +kernel
  · decide +kernel
  · decide +kernel
  · decide +kernel
  · decide +kernel
  · decide +kernel
  · decide +kernel
  · decide +kernel

theorem witness_ReceptionOnLanes :
    (fun (n : Fin 194) (s : State) => (n.val < 192 → 3 ≤ s.laneState n.val ∧ s.laneState n.val ≤ 5 ∧
      s.fbit (F.LANE_STATE_BIT_LOCK n.val) = true) ∧ (192 ≤ n.val → 3 ≤ s.portState (n.val - 192) ∧
      (s.lane n.val).bitLock = true)) 3 ((z.fput (F.LANE_STATE_STATE 3) 3).fput (F.LANE_STATE_BIT_LOCK 3) 1)
    ∧ (fun (n : Fin 192) (flags : Byte) (body : List Byte) (crc : Word) (errs : List (Fin 3)) (s : State) =>
      s.laneState n.val = 4 ∧
      s.fbit (F.LANE_CFG_SIMPLEX_TX n.val) = false) 3 0#8 [] 0#32 [] (z.fput (F.LANE_STATE_STATE 3) 4)
    ∧ (fun (n : Fin 192) (f : RxFrame) (s : State) => (s.lane n.val).frame = some f ∧ s.laneState n.val = 5 ∧
      f.len < 4096) 3 {} ((z.fput (F.LANE_STATE_STATE 3) 5).laneMod 3 (fun l => { l with frame := some {} }))
    ∧ (fun (n : Fin 192) (f : RxFrame) (s : State) => s.laneState n.val = 5 ∧ (s.lane n.val).frame = some f ∧
      4096 ≤ f.len) 3 ({ len := 4096 }) ((z.fput (F.LANE_STATE_STATE 3) 5).laneMod 3 (fun l =>
      { l with frame := some { len := 4096 } }))
    ∧ (fun (n : Fin 192) (s : State) => s.fbit (F.LANE_CFG_SIMPLEX_TX n.val) = false ∧
      2 ≤ s.laneState n.val) 3 (z.fput (F.LANE_STATE_STATE 3) 2)
    ∧ (fun (n : Fin 192) (s : State) => s.laneState n.val = 4 ∧ s.fbit (F.LANE_STATE_HOLDING n.val) = false ∧
      s.fbit (F.LANE_CFG_SIMPLEX_TX n.val) = false) 3 (z.fput (F.LANE_STATE_STATE 3) 4) := by
  refine ⟨?_, ?_, ?_, ?_, ?_, ?_⟩
  · decide +kernel
  · decide +kernel
  · decide +kernel
  · decide +kernel
  · decide +kernel
  · decide +kernel

theorem witness_LaneControlAndPll :
    (fun (q : Fin 24) (s : State) =>
      s.fbit (F.QUIRE_STATUS_PLL_LOCK q.val) = true) 2 (z.fput (F.QUIRE_STATUS_PLL_LOCK 2) 1)
    ∧ (fun (q : Fin 24) (s : State) => (s.enabledLanes q.val).isEmpty = false ∧ s.mode ≠ 0) 0 (on.fput (F.LANE_CFG_EN 3) 1)
    ∧ (fun (n : Fin 192) (fom : Byte) (s : State) => s.laneState n.val = 5 ∧
      fom.toNat < s.fget (F.LANE_FOM_CFG_MARGIN n.val) ∧
      s.fbit (F.LANE_CFG_SIMPLEX_TX n.val) = false) 3 1#8 ((z.fput (F.LANE_STATE_STATE 3) 5).fput (F.LANE_FOM_CFG_MARGIN 3) 9)
    ∧ (fun (n : Fin 192) (fom : Byte) (ctle : BitVec 4) (t1 t2 t3 t4 t5 : BitVec 5) (s : State) => s.laneState n.val = 5 ∧
      s.fbit (F.LANE_CFG_SIMPLEX_TX n.val) = false) 3 1#8 1#4 1#5 1#5 1#5 1#5 1#5 (z.fput (F.LANE_STATE_STATE 3) 5)
    ∧ (fun (n : Fin 192) (loop : BitVec 2) (pat : BitVec 3) (chk : Bool) (s : State) => (s.mode = 5 ∨
      s.fbit (F.LANE_CFG_EN n.val) = false) ∧ loop.toNat ≠ 0) 3 1#2 0#3 false z
    ∧ (fun (n : Fin 192) (loop : BitVec 2) (pat : BitVec 3) (chk : Bool) (s : State) => s.mode ≠ 5 ∧
      s.fbit (F.LANE_CFG_EN n.val) = true) 3 1#2 0#3 false (z.fput (F.LANE_CFG_EN 3) 1)
    ∧ (fun (n : Fin 192) (s : State) => s.fbit (F.LANE_CFG_SIMPLEX_TX n.val) = true ∧
      s.laneState n.val = 2) 3 ((z.fput (F.LANE_STATE_STATE 3) 2).fput (F.LANE_CFG_SIMPLEX_TX 3) 1) := by
  refine ⟨?_, ?_, ?_, ?_, ?_, ?_, ?_⟩
  · decide +kernel
  · decide +kernel
  · decide +kernel
  · decide +kernel
  · decide +kernel
  · decide +kernel
  · decide +kernel

theorem witness_ShadowImageLoadsAndIsJudged :
    (fun (s : State) => [0, 2, 4].contains s.shadowSt = true ∧ s.fget F.CAT_CTRL_SRC ≠ 3) z
    ∧ (fun (s : State) => [0, 2, 4].contains s.shadowSt = false) (z.fput F.CAT_STATUS_SHADOW 1)
    ∧ (fun (off len src : Nat) (s : State) => s.shadowSt = 1 ∧ s.cat.load = some (src, off, len) ∧ src ≠ 0 ∧ (¬ (len = 0 ∨
      imgMax < len))) 0 4 1 ((z.fput F.CAT_STATUS_SHADOW 1).catMod (fun c => { c with load := some (1, 0, 4) }))
    ∧ (fun (off len src : Nat) (s : State) => s.shadowSt = 1 ∧ s.cat.load = some (src, off, len) ∧ src ≠ 0 ∧ (¬ (len = 0 ∨
      imgMax < len))) 0 4 1 ((z.fput F.CAT_STATUS_SHADOW 1).catMod (fun c => { c with load := some (1, 0, 4) }))
    ∧ (fun (s : State) => s.shadowSt = 2) (z.fput F.CAT_STATUS_SHADOW 2)
    ∧ (fun (s : State) => s.shadowSt = 3) (z.fput F.CAT_STATUS_SHADOW 3)
    ∧ (fun (s : State) => [0, 2, 4].contains s.shadowSt = true) (z.fput F.CAT_STATUS_SHADOW 4)
    ∧ (∃ (r : Nat) (v : Word) (s : State) (xs : List SectSrc), isRwa r = true ∧ [2, 4].contains s.shadowSt = true ∧
      imgReadable s.cat.shadow = true ∧ stagedSects s.cat.shadow s.chainAddr r v.toNat = some xs ∧
      (layImage (if bitOf (imgN s.cat.shadow 56 4) 1 then imgN s.cat.shadow 56 4 - 2 else
      imgN s.cat.shadow 56 4) (imgN s.cat.shadow 60 4) xs).length ≤ imgMax)
    ∧ (fun (r : Nat) (v : Word) (s : State) => isRwa r = true ∧
      [2, 4].contains s.shadowSt = false) (R.INGEST_MON_HIGH) 5#32 z := by
  refine ⟨?_, ?_, ?_, ?_, ?_, ?_, ?_, ?_, ?_⟩
  · decide +kernel
  · decide +kernel
  · decide +kernel
  · decide +kernel
  · decide +kernel
  · decide +kernel
  · decide +kernel
  · exact ⟨R.INGEST_MON_HIGH, 5#32, zImg, (stagedSects zImg.cat.shadow zImg.chainAddr R.INGEST_MON_HIGH 5).get (by decide +kernel), by decide +kernel, by decide +kernel, by decide +kernel, (Option.some_get _).symm, by decide +kernel⟩
  · decide +kernel

theorem witness_CatalogueStoreAndSchedule :
    (fun (s : State) => s.shadowSt = 4 ∧
      s.storeBlocked = false) ((z.fput F.CAT_STATUS_SHADOW 4).fput F.POWER_STATUS_PROG_OK 1)
    ∧ (fun (s : State) => s.storeBlocked = false) (z.fput F.POWER_STATUS_PROG_OK 1)
    ∧ (fun (s : State) => s.storeBlocked = false) (z.fput F.POWER_STATUS_PROG_OK 1)
    ∧ (fun (l : List Byte) (w : StoreWrite) (s : State) => s.cat.storing = some w ∧
      w.kind < 2) [] ({ off := 0, bytes := [], kind := 1 }) (z.catMod (fun c =>
      { c with storing := some { off := 0, bytes := [], kind := 1 } }))
    ∧ (fun (s : State) => s.shadowSt < 4) z
    ∧ (fun (s : State) => s.shadowSt = 4) (z.fput F.CAT_STATUS_SHADOW 4)
    ∧ (fun (s : State) => s.shadowSt = 5 ∧ s.accReached = false) (z.fput F.CAT_STATUS_SHADOW 5)
    ∧ (fun (s : State) => s.shadowSt = 5 ∧ s.accReached = true) ((z.fput F.CAT_STATUS_SHADOW 5).catMod (fun c =>
      { c with acc := some (0, 0) })) := by
  refine ⟨?_, ?_, ?_, ?_, ?_, ?_, ?_, ?_⟩
  · decide +kernel
  · decide +kernel
  · decide +kernel
  · decide +kernel
  · decide +kernel
  · decide +kernel
  · decide +kernel
  · decide +kernel

theorem witness_EgressFramesLeaveByTheirStream :
    (fun (n : Fin 192) (f : EgressFrame) (s : State) =>
      (s.lane n.val).tx = some f) 3 ({ typ := 0x40 }) (z.laneMod 3 (fun l => { l with tx := some { typ := 0x40 } }))
    ∧ (fun (n : Fin 192) (v : VFrame) (s : State) => (s.lane n.val).tx.isSome = false ∧ s.egressOk n.val = true ∧
      s.vbeamFor n.val = some v) 3 ({ frame := { typ := 0x40, stream := 1 }, deadline := 100000 }) ((((((z.fput (F.LANE_STATE_STATE 3) 5).fput (F.LANE_CFG_TX_STREAM 3) 1).fput (F.LANE_CFG_SIMPLEX_TX 3) 1).fput (F.LANE_STATE_UIP 3) 1).fput (F.LANE_STATE_RATE 3) 1).beamMod (fun b =>
      { b with vready := [{ frame := { typ := 0x40, stream := 1 }, deadline := 100000 }] }))
    ∧ (fun (v : VFrame) (s : State) => s.beam.vready.find? (fun v => (s.laneSet' v.frame.stream 0x40).all (fun n =>
      !s.inLimit n v.deadline)) = some v) ({ frame := { typ := 0x40, stream := 1 }, deadline := 5 }) (z.beamMod (fun b =>
      { b with vready := [{ frame := { typ := 0x40, stream := 1 }, deadline := 5 }] })) := by
  refine ⟨?_, ?_, ?_⟩
  · decide +kernel
  · decide +kernel
  · decide +kernel

theorem witness_ChannelBlocksOpenCloseAndRelease :
    (fun (q : Fin 24) (n : Nat) (f : RxFrame) (l : List RxFrame) (s : State) => s.quirePick q.val = some n ∧
      (tget {} s.lanes n).rx = f :: l) 0 3 ({ bad := true }) [] (z.laneMod 3 (fun l => { l with rx := [{ bad := true }] }))
    ∧ (fun (slot b : Nat) (c : ChanBlk) (s : State) => s.blkOf slot b = some c ∧
      c.closed = false) 0 0 ({ slot := 0, b := 0 }) zIn
    ∧ (fun (b : Nat) (s : State) => b * 128 < siEnd ∧ (s.at (b * 128)).blockDeadline (b * 128) ≤ s.time.now.toNat ∧
      s.inGap (b * 128) = false ∧ (s.at (b * 128)).nChan ≠ 0) 0 zIn
    ∧ (fun (slot b : Nat) (c : ChanBlk) (s : State) => s.blkOf slot b = some c ∧ c.closed = true ∧ c.released = false ∧
      s.nextRel slot b = b) 0 0 ({ slot := 0, b := 0, closed := true }) zCl
    ∧ (fun (slot b : Nat) (c : ChanBlk) (s : State) => s.blkOf slot b = some c ∧ c.released = true ∧
      s.allRead c = true) 0 0 ({ slot := 0, b := 0, closed := true, released := true }) zRel
    ∧ (fun (x : Nat) (s : State) => s.ingest.restartReq = some x ∧ x ≤ s.siNow) 0 (z.ingMod (fun g =>
      { g with restartReq := some 0 }))
    ∧ (fun (slot b : Nat) (s : State) => (s.at (b * 128)).generating = true ∧ s.isClosed slot b = false ∧
      slot < (s.at (b * 128)).nChan ∧ s.inGap (b * 128) = false ∧ s.blkOf slot b = none ∧ b * 128 < siEnd) 0 0 zGen := by
  refine ⟨?_, ?_, ?_, ?_, ?_, ?_, ?_⟩
  · decide +kernel
  · decide +kernel
  · decide +kernel
  · decide +kernel
  · decide +kernel
  · decide +kernel
  · decide +kernel

theorem witness_WindowsAndRoundsStart :
    (fun (m : Nat) (old : Bool) (s : State) => 0 < tget 0 (if old then s.ingest.eraOld else s.ingest.era).win m ∧
      s.eraBlocks m old ≤ tget 0 (if old then s.ingest.eraOld else s.ingest.era).win m) 0 false (z.ingMod (fun g =>
      { g with era := { g.era with win := [(0, 1)] } }))
    ∧ (fun (m : Nat) (old : Bool) (l : List (Nat × Bool)) (s : State) => s.array.ready = (m, old) :: l ∧
      s.array.runs.any (fun r => !s.runDone r) = false ∧
      s.dueHeld (s.eraSpan m old).1 = false) 0 false [] (z.arrMod (fun a => { a with ready := [(0, false)] }))
    ∧ (∃ (u : Nat) (r : WinRun) (s : State), s.curRun = some r ∧ s.nextRound r r.readU = some u ∧ ((∀ x,
      (s.allRounds.filter (fun x => decide (x < u) && x % 2 == u % 2)).getLast? = some x → s.corrTiles.any (fun t =>
      !s.released r t x) = false)) ∧ s.residentPlan = false ∧
      s.arcPoisoned (s.pv.cornerOffset (r.m % 2) (u / s.pv.rpd) (u % s.pv.rpd * s.pv.passLen) 0) (s.pv.nIn * s.pv.passLen * s.pv.sampleBytes) = false)
    ∧ (∃ (t : Fin 400) (w u : Nat) (r : WinRun) (s : State), s.curRun = some r ∧
      s.nextRound r (match (s.tile t.val).round with | some x => x + 1 | none => 0) = some u ∧ (s.tile t.val).run = r.id ∧
      s.corrTiles.contains t.val = true ∧ ((∀ x, (s.tile t.val).round = some x → s.released r t.val x = true)) ∧
      u < r.readU) := by
  refine ⟨?_, ?_, ?_, ?_⟩
  · decide +kernel
  · decide +kernel
  · exact ⟨0, { id := 1, m := 0, parts := [⟨0, 1, 1, 0, true⟩] }, zA, rfl, by decide +kernel, (fun x h => absurd h (by rw [show ((zA.allRounds.filter (fun x => decide (x < 0) && x % 2 == 0 % 2)).getLast?) = none from by decide +kernel]; simp)), by decide +kernel, by decide +kernel⟩
  · exact ⟨0, 5, 0, { id := 1, m := 0, parts := [⟨0, 1, 1, 0, true⟩], readU := 1 }, zA.arrMod (fun a => { a with runs := [{ id := 1, m := 0, parts := [⟨0, 1, 1, 0, true⟩], readU := 1 }] }), rfl, by decide +kernel, by decide +kernel, by decide +kernel, (fun x h => nomatch h), by decide +kernel⟩

theorem witness_OrdersIssueAndExecute :
    (fun (t : Fin 400) (w : Bool) (s : State) => (s.physOf t.val).isNone = false ∧ s.isMissing t.val = false ∧
      (s.tile t.val).queue = [] ∧
      ((s.tile t.val).nowDue == 1 || (s.tile t.val).checkDue && s.fbit F.ARRAY_CTRL_CHECK_EN) = true) 0 false (zT (fun q =>
      { q with nowDue := 1 }))
    ∧ (fun (t : Fin 400) (w : Bool) (o : QOrd) (l : List QOrd) (s : State) => (s.physOf t.val).isNone = false ∧
      s.isMissing t.val = false ∧ (s.tile t.val).queue.length < 16 ∧
      ((s.tile t.val).nowDue == 1 || (s.tile t.val).checkDue && s.fbit F.ARRAY_CTRL_CHECK_EN) = false ∧
      (s.tile t.val).todo = o :: l) 0 false (ordOf 4) [] (zT (fun q => { q with todo := [ordOf 4] }))
    ∧ (fun (t : Fin 400) (w : Bool) (u i e : Nat) (r : WinRun) (s : State) => (s.physOf t.val).isNone = false ∧
      s.isMissing t.val = false ∧ (s.tile t.val).queue.length < 16 ∧
      ((s.tile t.val).nowDue == 1 || (s.tile t.val).checkDue && s.fbit F.ARRAY_CTRL_CHECK_EN) = false ∧
      (s.tile t.val).todo = [] ∧ s.roleOf t.val = 1 ∧ s.curRun = some r ∧
      s.nextPass r t.val = some (u, i, e)) 0 false 0 0 0 ({ id := 1, m := 0, parts := [⟨0, 1, 1, 0, true⟩] }) zA
    ∧ (fun (t : Fin 400) (p : Bool) (n : Nat) (o : QOrd) (l : List QOrd) (s : State) => (s.physOf t.val).isNone = false ∧
      (s.tile t.val).queue = o :: l ∧ (s.tile t.val).cur = none ∧
      (p || o.op == 0 || decide (6 < o.op)) = true) 0 true 0 (ordOf 4) [] (zT (fun q => { q with queue := [ordOf 4] }))
    ∧ (fun (t : Fin 400) (n : Nat) (o : QOrd) (l : List QOrd) (s : State) => (s.physOf t.val).isNone = false ∧
      (s.tile t.val).queue = o :: l ∧ (s.tile t.val).cur = none ∧ o.op = 1 ∧ (s.tile t.val).cells = none ∧
      (!s.dwellAbandoned o && !s.residentPlan && (s.tile t.val).round != some (s.ordRound o)) = false) 0 0 (ordOf 1) [] (zT (fun q =>
      { q with queue := [ordOf 1] }))
    ∧ (fun (t : Fin 400) (n : Nat) (o : QOrd) (l : List QOrd) (s : State) => (s.physOf t.val).isNone = false ∧
      (s.tile t.val).queue = o :: l ∧ (s.tile t.val).cur = none ∧ o.op = 2 ∧
      (bitOf o.word.toNat 123 && (s.tile t.val).readable.any (fun r =>
      r.2 == (s.tile t.val).buf)) = false) 0 0 (ordOf 2) [] (zT (fun q => { q with queue := [ordOf 2] }))
    ∧ (fun (t : Fin 400) (n : Nat) (o : QOrd) (l : List QOrd) (s : State) => (s.physOf t.val).isNone = false ∧
      (s.tile t.val).queue = o :: l ∧ (s.tile t.val).cur = none ∧ 3 ≤ o.op ∧ o.op ≤ 6) 0 0 (ordOf 4) [] (zT (fun q =>
      { q with queue := [ordOf 4] }))
    ∧ (fun (t : Fin 400) (o : QOrd) (s : State) => (s.tile t.val).cur = some o ∧ o.op = 1) 0 (ordOf 1) (zT (fun q =>
      { q with cur := some (ordOf 1) }))
    ∧ (fun (t : Fin 400) (n : Nat) (x : Sums) (s : State) => (s.tile t.val).shadow = some x ∧ s.array.wbs.any (fun w =>
      w.tile == t.val) = false ∧ bitOf x.ord.word.toNat 120 = false) 0 0 ({ ord := ordOf 1 }) (zT (fun q =>
      { q with shadow := some { ord := ordOf 1 } })) := by
  refine ⟨?_, ?_, ?_, ?_, ?_, ?_, ?_, ?_, ?_⟩
  · decide +kernel
  · decide +kernel
  · decide +kernel
  · decide +kernel
  · decide +kernel
  · decide +kernel
  · decide +kernel
  · decide +kernel
  · decide +kernel

theorem witness_ArrayRetiresChecksAndRetirement :
    (fun (t : Fin 400) (n : Nat) (x : Sums) (s : State) => s.array.wbs.find? (fun w => w.tile == t.val) = some x ∧
      s.nextTag (x.ord.bits 119 111) (x.ord.bits 110 106) x.ord = true) 0 0 ({ ord := ordOf 1 }) (zA.arrMod (fun a =>
      { a with wbs := [{ ord := ordOf 1 }] }))
    ∧ (fun (t : Fin 400) (n : Nat) (x : Sums) (s : State) => s.array.wbs.find? (fun w => w.tile == t.val) = some x ∧
      s.nextTag (x.ord.bits 119 111) (x.ord.bits 110 106) x.ord = false) 0 0 ({ ord := { ordOf 1 with run := 1, word := 0x10000000000000000000000000010000#128 } }) (zA.arrMod (fun a =>
      { a with wbs := [{ ord := { ordOf 1 with run := 1, word := 0x10000000000000000000000000010000#128 } }] }))
    ∧ (fun (t : Fin 400) (o : QOrd) (s : State) => (s.tile t.val).cur = some o ∧ o.op = 5 ∧ s.array.wbs.any (fun w =>
      w.tile == t.val || (w.ord.into t.val (o.bits 110 106) && tagBefore (w.ord.bits 31 16) (o.bits 31 16))) = false ∧
      (s.tile t.val).cells = none ∧ (bitOf o.word.toNat 123 && (s.path (wingOf t.val)).any (fun x =>
      x.tile == t.val)) = false) 0 (ordOf 5) (zT (fun q => { q with cur := some (ordOf 5) }))
    ∧ (fun (t : Fin 400) (d : Nat × Nat) (s : State) => s.array.drains.find? (fun d => d.1 == t.val) = some d ∧
      s.drainHeld t.val d.2 = false) 0 ((0, 7)) (zA.arrMod (fun a => { a with drains := [(0, 7)] }))
    ∧ (fun (s : State) => s.fbit F.ARRAY_CTRL_CHECK_EN = true) (z.fput F.ARRAY_CTRL_CHECK_EN 1)
    ∧ (fun (p : Fin 400) (o : QOrd) (s : State) => (s.tile p.val).cur = some o ∧ o.op = 6) 0 (ordOf 6) (zT (fun q =>
      { q with cur := some (ordOf 6) }))
    ∧ (fun (p : Fin 400) (off : Fin 0x40000) (s : State) => s.array.parity.contains p.val = true ∧
      s.roleOf (s.fget (F.ARRAY_PMAP_LOGICAL p.val)) ≠ 1) 0 0 (z.arrMod (fun a => { a with parity := [0] })) := by
  refine ⟨?_, ?_, ?_, ?_, ?_, ?_, ?_⟩
  · decide +kernel
  · decide +kernel
  · decide +kernel
  · decide +kernel
  · decide +kernel
  · decide +kernel
  · decide +kernel

theorem witness_IntegrationsAndSpills :
    (fun (x : Nat) (s : State) => s.corrRole = true ∧ 0 < s.dwell ∧ x % s.dwell = 0 ∧ x ≤ s.siNow ∧
      s.opensAt (x / s.dwell) = true ∧ s.accum.integs.any (fun i => i.e.isNone && decide (i.a < x)) = true ∧
      s.accDue.any (fun x0 =>
      decide (x0 ≤ x)) = false) 128 ({ ((((z.fput F.ARRAY_ROLES_CORR 1).wrN R.INGEST_DWELL 128).wrN R.ACCUM_INT_WINDOWS 1).accMod (fun a => { a with integs := [zI] })) with time := { z.time with siNow := 128#64 } })
    ∧ (fun (k : Fin 2) (i : Integ) (s : State) => s.accum.integs.find? (fun i => i.bank == k.val) = some i ∧
      i.tables = false) 0 zI (zAcc (fun a => { a with integs := [zI] }))
    ∧ (fun (w : Fin 4) (n : Nat) (x : Sums) (i : Integ) (s : State) => (s.path w.val).find? (fun x => !x.written) = some x ∧
      s.integOf x.ord = some i ∧ i.tables = true) 0 0 zSp ({ zI with tables := true }) ((zAcc (fun a =>
      { a with integs := [{ zI with tables := true }] })).pathMod 0 (fun _ => [zSp]))
    ∧ (fun (w : Fin 4) (n : Nat) (x : Sums) (i : Integ) (s : State) => (s.path w.val).find? (fun x => !x.written) = some x ∧
      s.integOf x.ord = some i ∧ i.tables = false) 0 0 zSp zI ((zAcc (fun a =>
      { a with integs := [zI] })).pathMod 0 (fun _ => [zSp]))
    ∧ (fun (w : Fin 4) (x : Sums) (l : List Sums) (s : State) => s.path w.val = x :: l ∧
      x.written = true) 0 ({ zSp with written := true }) [] (zA.pathMod 0 (fun _ => [{ zSp with written := true }])) := by
  refine ⟨?_, ?_, ?_, ?_, ?_⟩
  · decide +kernel
  · decide +kernel
  · decide +kernel
  · decide +kernel
  · decide +kernel

theorem witness_FoliosDrainAndRelease :
    (fun (i : Integ) (k : Nat) (s : State) => s.accum.integs.find? (fun i => i.e.isSome && i.drain.isNone) = some i ∧
      i.drainIssued = true ∧ s.array.drains.any (fun d => d.2 == i.id) = false ∧ s.spillsLeft i.id = false ∧
      s.fbit F.ACCUM_STATUS_DRAINING = false ∧
      s.freeStage (s.under i) = some k) ({ zI with e := some 128, drainIssued := true, cfg := (z.fput F.ARRAY_ROLES_CORR 1).regs }) 0 (zAcc (fun a =>
      { a with integs := [{ zI with e := some 128, drainIssued := true, cfg := (z.fput F.ARRAY_ROLES_CORR 1).regs }] }))
    ∧ (fun (i : Integ) (s : State) => s.accum.integs.find? (fun i => i.e.isSome && i.drain.isNone) = some i ∧
      i.drainIssued = true ∧ s.array.drains.any (fun d => d.2 == i.id) = false ∧ s.spillsLeft i.id = false ∧
      s.fbit F.ACCUM_STATUS_DRAINING = false ∧
      s.freeStage (s.under i) = none) ({ zI with e := some 128, drainIssued := true }) (zAcc (fun a =>
      { a with integs := [{ zI with e := some 128, drainIssued := true }] }))
    ∧ (fun (i : Integ) (k ns e : Nat) (s : State) => s.accum.integs.find? (fun i => i.drain.isSome) = some i ∧
      i.drain = some (k, ns) ∧ i.e = some e ∧
      k < 8) ({ zI with e := some 128, drain := some (0, 0) }) 0 0 128 (zAcc (fun a =>
      { a with integs := [{ zI with e := some 128, drain := some (0, 0) }] }))
    ∧ (fun (k : Fin 8) (s : State) => s.accum.holdEgress.contains k.val = true ∧ s.accum.sending.any (fun x =>
      x.1 == k.val) = false ∧ s.lanes.any (fun e =>
      match e.2.tx with | some f => f.typ == 0x50 && f.slot == k.val | none => false) = false) 0 (z.accMod (fun a =>
      { a with holdEgress := [0] }))
    ∧ (fun (k : Fin 8) (s : State) => s.accum.holdPcie.contains k.val = true) 0 (z.accMod (fun a =>
      { a with holdPcie := [0] })) := by
  refine ⟨?_, ?_, ?_, ?_, ?_⟩
  · decide +kernel
  · decide +kernel
  · decide +kernel
  · decide +kernel
  · decide +kernel

theorem witness_BeamWorkIsReadOutAndSwitched :
    (fun (p : Fin 400) (h : HeldBlk) (buf n : Nat) (l : List (HeldBlk × Nat)) (s : State) =>
      (s.tile p.val).readable = (h, buf) :: l ∧ s.setOf p.val = some n ∧
      (s.physOf p.val).isNone = false) 0 zHeld 0 0 [] zSet
    ∧ (fun (p : Fin 400) (slot b n : Nat) (h : HeldBlk) (s : State) => s.setOf p.val = some n ∧
      s.owed p.val n slot b = some h ∧ s.voltIn n b = true ∧ s.vDeadline h ≤ s.nowNs + 3000) 0 0 0 0 zHeld zSet
    ∧ (fun (d : DSpan) (u : State) (s : State) => u = s.takeCancelled ∧ (sortBy (fun (x y : DSpan) =>
      decide (x.fullAt < y.fullAt)) (u.beam.spans.filter (fun d => d.fullAt != 0))).head? = some d ∧
      (u.at d.lo).fget F.BEAM_ROUTE_DSTREAM = 0) ({ slot := 0, oct := 0, a := 0, lo := 0, hi := 0, fullAt := 1 }) ((z.beamMod (fun b =>
      { b with spans := [{ slot := 0, oct := 0, a := 0, lo := 0, hi := 0, fullAt := 1 }] })).takeCancelled) (z.beamMod (fun b =>
      { b with spans := [{ slot := 0, oct := 0, a := 0, lo := 0, hi := 0, fullAt := 1 }] }))
    ∧ (fun (d : DSpan) (u : State) (s : State) => u = s.takeCancelled ∧ (sortBy (fun (x y : DSpan) =>
      decide (x.fullAt < y.fullAt)) (u.beam.spans.filter (fun d => d.fullAt != 0))).head? = some d ∧
      (u.at d.lo).fget F.BEAM_ROUTE_DSTREAM ≠ 0) ({ slot := 0, oct := 0, a := 0, lo := 0, hi := 0, fullAt := 1 }) (((z.fput F.BEAM_ROUTE_DSTREAM 1).beamMod (fun b =>
      { b with spans := [{ slot := 0, oct := 0, a := 0, lo := 0, hi := 0, fullAt := 1 }] })).takeCancelled) ((z.fput F.BEAM_ROUTE_DSTREAM 1).beamMod (fun b =>
      { b with spans := [{ slot := 0, oct := 0, a := 0, lo := 0, hi := 0, fullAt := 1 }] }))
    ∧ (fun (u : State) (p e : Nat) (s : State) => u = s.takeCancelled ∧ p = u.openPeriod ∧ e = (u.periodEnd p).1 ∧
      (u.at p).searching = true ∧ u.bandDone (u.at p) e = true ∧ (u.ingest.gaps ++ u.cat.acc.toList).find? (fun g =>
      g.1 == e && g.1 != g.2) = none ∧
      (u.at p).fget F.BEAM_ROUTE_CSTREAM = 0) (((z.fput F.BEAM_SEARCH_EN 1).beamMod (fun b =>
      { b with doneSi := 10000000000 })).takeCancelled) 0 128 ((z.fput F.BEAM_SEARCH_EN 1).beamMod (fun b =>
      { b with doneSi := 10000000000 }))
    ∧ (fun (p : Fin 2) (s : State) => s.siRefused (s.rd64 R.BEAM_SWITCH_SI_LO R.BEAM_SWITCH_SI_HI) = false ∧
      s.siRefused (s.boundaryAt (s.rd64 R.BEAM_SWITCH_SI_LO R.BEAM_SWITCH_SI_HI)) = false ∧ s.rdN R.BEAM_SWITCH_PEND = 0 ∧
      s.beamRole = true) 1 ((z.wrN R.BEAM_SWITCH_SI_LO 128).fput F.ARRAY_ROLES_BEAM 1)
    ∧ (fun (p : Fin 2) (s : State) => s.siRefused (s.rd64 R.BEAM_SWITCH_SI_LO R.BEAM_SWITCH_SI_HI) = true) 1 z
    ∧ (fun (x p : Nat) (l : List (Nat × Nat)) (s : State) => s.dueSwitches = (x, p) :: l ∧ x ≤ s.siNow ∧
      s.accDue.any (fun x0 => decide (x0 ≤ x)) = false) 0 1 [] (z.beamMod (fun b => { b with switches := [(0, 1)] })) := by
  refine ⟨?_, ?_, ?_, ?_, ?_, ?_, ?_, ?_⟩
  · decide +kernel
  · decide +kernel
  · decide +kernel
  · decide +kernel
  · decide +kernel
  · decide +kernel
  · decide +kernel
  · decide +kernel

theorem witness_ChainFirmwareMessagesQueueAndStamp :
    (∃ (pos : Fin 4) (b : List Byte) (m : Msg) (s : State), s.portUp 0 = true ∧ s.msgCheck 0 b = some m ∧ m.typ = 0x10)
    ∧ (∃ (b : List Byte) (m : Msg) (s : State), s.portUp 0 = true ∧ s.msgCheck 0 b = some m ∧ m.typ = 0x11)
    ∧ (∃ (pos : Fin 4) (b : List Byte) (m : Msg) (s : State), s.portUp 1 = true ∧ s.msgCheck 1 b = some m ∧ m.typ = 0x12)
    ∧ (∃ (b : List Byte) (m : Msg) (s : State), s.portUp 0 = true ∧ s.msgCheck 0 b = some m ∧ m.typ = 0x13)
    ∧ (∃ (p : Fin 2) (b : List Byte) (s : State), s.chain.txq = none ∧ b = (List.range 8).flatMap (fun k =>
      leBytes 4 (s.rdN (R.CHAIN_TXQ k))) ∧ [0x10, 0x11, 0x12, 0x13].contains (imgN b 1 1) = true ∧
      msgLenOk (imgN b 1 1) (imgN b 8 2) = true)
    ∧ (fun (pos : Fin 4) (p : Nat) (b : List Byte) (s : State) => s.chain.txq = some (p, b) ∧ s.portUp p = true ∧
      ¬ (imgN b 1 1 = 0x10 ∧ s.mode = 0)) 0 1 [] (zC.chMod (fun c => { c with txq := some (1, []) })) := by
  refine ⟨?_, ?_, ?_, ?_, ?_, ?_⟩
  · exact ⟨1, msgIn 0 0x10 (List.replicate 4 0#8), (zC.msgCheck 0 (msgIn 0 0x10 (List.replicate 4 0#8))).get (by decide +kernel), zC, by decide +kernel, (Option.some_get _).symm, by decide +kernel⟩
  · exact ⟨msgIn 0 0x11 (List.replicate 16 0#8), (zC.msgCheck 0 (msgIn 0 0x11 (List.replicate 16 0#8))).get (by decide +kernel), zC, by decide +kernel, (Option.some_get _).symm, by decide +kernel⟩
  · exact ⟨1, msgIn 1 0x12 (List.replicate 4 0#8), (zC.msgCheck 1 (msgIn 1 0x12 (List.replicate 4 0#8))).get (by decide +kernel), zC, by decide +kernel, (Option.some_get _).symm, by decide +kernel⟩
  · exact ⟨msgIn 0 0x13 (List.replicate 16 0#8), (zC.msgCheck 0 (msgIn 0 0x13 (List.replicate 16 0#8))).get (by decide +kernel), zC, by decide +kernel, (Option.some_get _).symm, by decide +kernel⟩
  · exact ⟨0, _, (z.wrN (R.CHAIN_TXQ 0) 0x1001).wrN (R.CHAIN_TXQ 2) 4, rfl, rfl, by decide +kernel, by decide +kernel⟩
  · decide +kernel

theorem witness_ChainEnumerationAndLinks :
    (fun (p : Fin 2) (s : State) => 4 ≤ s.portState p.val) 1 zC
    ∧ (∃ (b : List Byte) (m : Msg) (s : State), s.checkAddr.portUp 1 = true ∧ s.checkAddr.msgCheck 1 b = some m ∧
      m.typ = 0x01 ∧ imgN m.body 4 2 + imgN m.body 6 2 = 65535)
    ∧ (fun (p : Fin 2) (s : State) => s.portState p.val = 4) 0 (z.fput F.CHAIN_STATUS_UP_STATE 4)
    ∧ (fun (p : Fin 2) (k : Fin 3) (s : State) => s.portUp p.val = true) 0 0 zC
    ∧ (∃ (b : List Byte) (m : Msg) (s : State), s.checkAddr.portUp 0 = true ∧ s.checkAddr.msgCheck 0 b = some m ∧
      m.typ = 0x02 ∧ imgN m.body 0 2 + imgN m.body 2 2 = 65535 ∧ s.checkAddr.isHead = false ∧ s.checkAddr.enumState = 0 ∧
      imgN m.body 0 2 < 1024)
    ∧ (∃ (b : List Byte) (m : Msg) (s : State), s.portUp 1 = true ∧ s.msgCheck 1 b = some m ∧ m.typ = 0x03 ∧
      s.isHead = true ∧ imgN m.body 3 1 ≠ 4 ∧ imgN m.body 3 1 ≠ 0 ∧ s.fbit F.CHAIN_STATUS_SWEEP = true)
    ∧ (fun (s : State) => s.fbit F.CHAIN_STATUS_SWEEP = true) zHead
    ∧ (∃ (b : List Byte) (m : Msg) (s : State), s.portUp 0 = true ∧ s.msgCheck 0 b = some m ∧ m.typ = 0x04 ∧
      s.enumState = 1)
    ∧ (fun (s : State) => s.isHead = true) zHead
    ∧ (fun (s : State) => s.isHead = true) zHead
    ∧ (fun (s : State) => s.isHead = false) zMem
    ∧ (∃ (p : Fin 2) (b : List Byte) (m : Msg) (s : State), s.portUp p.val = true ∧ s.msgCheck p.val b = some m ∧
      linkType m.typ = false ∧ m.typ ≠ 2 ∧ m.dest ≠ 0xFFFF ∧ s.hasAddr = true ∧ m.dest ≠ s.chAddr ∧ s.enumState ≠ 2 ∧
      s.enumState ≠ 0 ∧ (p.val == 0 && s.isHead && s.fbit F.CHAIN_STATUS_HEAD_CONFLICT) = false) := by
  refine ⟨?_, ?_, ?_, ?_, ?_, ?_, ?_, ?_, ?_, ?_, ?_, ?_⟩
  · decide +kernel
  · exact ⟨msgIn 1 0x01 ([3, 0, 0, 0, 0, 0, 255, 255, 0, 0, 0, 0, 0, 0, 0, 0]), (zC.checkAddr.msgCheck 1 (msgIn 1 0x01 ([3, 0, 0, 0, 0, 0, 255, 255, 0, 0, 0, 0, 0, 0, 0, 0]))).get (by decide +kernel), zC, by decide +kernel, (Option.some_get _).symm, by decide +kernel, by decide +kernel⟩
  · decide +kernel
  · decide +kernel
  · exact ⟨msgIn 0 0x02 ([1, 0, 254, 255, 0, 3, 0, 0]), (zC.checkAddr.msgCheck 0 (msgIn 0 0x02 ([1, 0, 254, 255, 0, 3, 0, 0]))).get (by decide +kernel), zC, by decide +kernel, (Option.some_get _).symm, by decide +kernel, by decide +kernel, by decide +kernel, by decide +kernel, by decide +kernel⟩
  · exact ⟨msgIn 1 0x03 ([1, 0, 3, 1, 2, 0, 0, 0]), (zHead.msgCheck 1 (msgIn 1 0x03 ([1, 0, 3, 1, 2, 0, 0, 0]))).get (by decide +kernel), zHead, by decide +kernel, (Option.some_get _).symm, by decide +kernel, by decide +kernel, by decide +kernel, by decide +kernel, by decide +kernel⟩
  · decide +kernel
  · exact ⟨msgIn 0 0x04 ([2, 0, 0, 0]), (zMem.msgCheck 0 (msgIn 0 0x04 ([2, 0, 0, 0]))).get (by decide +kernel), zMem, by decide +kernel, (Option.some_get _).symm, by decide +kernel, by decide +kernel⟩
  · decide +kernel
  · decide +kernel
  · decide +kernel
  · exact ⟨0, msgIn 0 0x28 (List.replicate 24 0#8), (zMemA.msgCheck 0 (msgIn 0 0x28 (List.replicate 24 0#8))).get (by decide +kernel), zMemA, by decide +kernel, (Option.some_get _).symm, by decide +kernel, by decide +kernel, by decide +kernel, by decide +kernel, by decide +kernel, by decide +kernel, by decide +kernel, by decide +kernel⟩

theorem witness_ChainCommandsAndReports :
    (∃ (b : List Byte) (m : Msg) (s : State), s.portUp 0 = true ∧ s.msgCheck 0 b = some m ∧ m.typ = 0x20)
    ∧ (∃ (b : List Byte) (m : Msg) (s : State), s.portUp 0 = true ∧ s.msgCheck 0 b = some m ∧ m.typ = 0x21)
    ∧ (∃ (b : List Byte) (m : Msg) (s : State), s.portUp 0 = true ∧ s.msgCheck 0 b = some m ∧ m.typ = 0x22)
    ∧ (∃ (b : List Byte) (m : Msg) (s : State), s.portUp 1 = true ∧ s.msgCheck 1 b = some m ∧ m.typ = 0x28 ∧
      s.isHead = true ∧ s.fbit F.CHAIN_STATUS_CMD_BUSY = true ∧ imgN m.body 20 2 = s.rdN R.CHAIN_CMD_SEQ ∧ m.src ≤ 1023)
    ∧ (fun (s : State) => s.fbit F.CHAIN_STATUS_CMD_BUSY = true) zHead
    ∧ (fun (typ seq : Nat) (b : List Byte) (s : State) => s.isHead = true ∧ s.chVersion ≠ 0 ∧
      s.fbit F.CHAIN_STATUS_CMD_BUSY = false ∧
      s.chain.cmd = some (typ, seq, b)) 0x21 1 [] ((zHead.fput F.CHAIN_STATUS_CMD_BUSY 0).chMod (fun c =>
      { c with cmd := some (0x21, 1, []) })) := by
  refine ⟨?_, ?_, ?_, ?_, ?_, ?_⟩
  · exact ⟨msgIn 0 0x20 (List.replicate 88 0#8), (zMem.msgCheck 0 (msgIn 0 0x20 (List.replicate 88 0#8))).get (by decide +kernel), zMem, by decide +kernel, (Option.some_get _).symm, by decide +kernel⟩
  · exact ⟨msgIn 0 0x21 (List.replicate 12 0#8), (zMem.msgCheck 0 (msgIn 0 0x21 (List.replicate 12 0#8))).get (by decide +kernel), zMem, by decide +kernel, (Option.some_get _).symm, by decide +kernel⟩
  · exact ⟨msgIn 0 0x22 (List.replicate 40 0#8), (zMem.msgCheck 0 (msgIn 0 0x22 (List.replicate 40 0#8))).get (by decide +kernel), zMem, by decide +kernel, (Option.some_get _).symm, by decide +kernel⟩
  · exact ⟨msgIn 1 0x28 (List.replicate 24 0#8), (zHead.msgCheck 1 (msgIn 1 0x28 (List.replicate 24 0#8))).get (by decide +kernel), zHead, by decide +kernel, (Option.some_get _).symm, by decide +kernel, by decide +kernel, by decide +kernel, by decide +kernel, by decide +kernel⟩
  · decide +kernel
  · decide +kernel

theorem witness_MailboxesPostReadAndAcknowledge :
    (fun (k : Fin 48) (d : Fin 2) (m : Fin 32) (v : Word) (s : State) =>
      s.postRefusal k.val d.val m.val v = 0) 0 0 20 0x0000FF00#32 zMb
    ∧ (fun (k : Fin 48) (d : Fin 2) (m : Fin 32) (v : Word) (s : State) =>
      (s.mbReceivers k.val d.val).contains m.val = true ∧ v.toNat % 65536 + v.toNat / 65536 = 65535 ∧
      s.mbState k.val d.val ≠ 0 ∧
      (bitOf (s.mbGetFlags k.val d.val) 1 && v.toNat % 65536 != 0xFF00) = false) 0 0 0 0xFFFF0000#32 zNot
    ∧ (fun (k : Fin 48) (d : Fin 2) (m : Fin 32) (s : State) => 2 ≤ (s.mbSenders k.val d.val).length ∧
      (s.mbSenders k.val d.val).contains m.val = true ∧ s.fget (F.MBOX_D_STATE_LOCK_OWNER k.val d.val) = 0) 0 1 0 z
    ∧ (fun (k : Fin 48) (d : Fin 2) (s : State) => s.mode ≠ 0 ∧ s.mbState k.val d.val ≠ 0 ∧
      s.fget (F.MBOX_CFG_ACK_TIMEOUT k.val) ≠ 0) 0 0 (zNot.fput F.POWER_STATUS_MODE 1)
    ∧ (fun (k : Fin 48) (s : State) => s.mbBothHeld k.val = true) 0 zNot
    ∧ (∃ (b : List Byte) (m : Msg) (s : State), s.portUp 0 = true ∧ s.msgCheck 0 b = some m ∧ m.typ = 0x30 ∧
      s.mbState (36 + imgN m.body 0 1 % 4) 0 = 0)
    ∧ (∃ (b : List Byte) (m : Msg) (s : State), s.portUp 1 = true ∧ s.msgCheck 1 b = some m ∧ m.typ = 0x31 ∧
      s.mbState (40 + imgN m.body 0 1 % 4) 1 ≠ 0) := by
  refine ⟨?_, ?_, ?_, ?_, ?_, ?_, ?_⟩
  · decide +kernel
  · decide +kernel
  · decide +kernel
  · decide +kernel
  · decide +kernel
  · exact ⟨msgIn 0 0x30 (List.replicate 4 0#8), (zC.msgCheck 0 (msgIn 0 0x30 (List.replicate 4 0#8))).get (by decide +kernel), zC, by decide +kernel, (Option.some_get _).symm, by decide +kernel, by decide +kernel⟩
  · exact ⟨msgIn 1 0x31 (List.replicate 4 0#8), (zAckd.msgCheck 1 (msgIn 1 0x31 (List.replicate 4 0#8))).get (by decide +kernel), zAckd, by decide +kernel, (Option.some_get _).symm, by decide +kernel, by decide +kernel⟩

theorem witness_AccessionTakesEffect :
    (fun (x y : Nat) (s : State) => s.cat.acc = some (x, y) ∧ s.shadowSt = 5 ∧ s.accReached = true ∧
      s.weightsBefore x = false) 0 0 zAcceded
    ∧ (fun (x y : Nat) (s : State) => s.cat.acc = some (x, y) ∧ s.shadowSt = 6 ∧ s.cat.remapped = false ∧
      (s.retiringDone = true ∨ s.tOf y ≤ s.time.now.toNat + s.remapTime)) 0 0 zGap
    ∧ (fun (x y : Nat) (s : State) => s.cat.acc = some (x, y) ∧ s.shadowSt = 6 ∧ s.cat.remapped = true ∧
      s.cloveHeld = false) 0 0 (zGap.catMod (fun c => { c with remapped := true }))
    ∧ (fun (x y : Nat) (s : State) => s.cat.acc = some (x, y) ∧ s.shadowSt = 6 ∧ s.cat.remapped = true ∧
      y ≤ s.siNow) 0 0 (zGap.catMod (fun c => { c with remapped := true })) := by
  refine ⟨?_, ?_, ?_, ?_⟩
  · decide +kernel
  · decide +kernel
  · decide +kernel
  · decide +kernel

theorem witness_TheStartRunsItsSteps :
    (fun (sel : Fin 4) (h : Bool) (s : State) => s.boot.begun = false ∧ s.inStart = true ∧
      s.power.tripped = none) 0 true z
    ∧ (fun (us : Nat) (ok : Bool) (l : List (Nat × Bool)) (s : State) => s.inStep 1 = true ∧
      s.bootStep = 1) 5 true [] (zStep 1)
    ∧ (fun (us : Nat) (ok : Bool) (l : List (Nat × Bool)) (s : State) => s.inStep 6 = true ∧
      s.bootStep = 6) 5 true [] (zStep 6)
    ∧ (fun (us : Nat) (ok : Bool) (l : List (Nat × Bool)) (s : State) => s.inStep 14 = true ∧
      s.bootStep = 14) 5 true [] (zStep 14)
    ∧ (fun (us : Nat) (ok : Bool) (l : List (Nat × Bool)) (s : State) => s.inStep 15 = true ∧
      s.bootStep = 15) 5 true [] (zStep 15)
    ∧ (fun (s : State) => s.inStep 4 = true ∧ s.role 0 = 1 ∧ s.activeCur = none) ((zStep 4).fput F.CORE_STATUS_ROLE_A 1)
    ∧ (fun (s : State) => s.inStep 1 = true) (zStep 1)
    ∧ (fun (s : State) => s.boot.off = true ∧ s.boot.failed ≠ 0 ∧ s.boot.retried = false ∧
      s.power.tripped = none) (z.bootMod (fun b => { b with off := true, failed := 1 }))
    ∧ (fun (s : State) => (s.inStep 11 = true ∨ s.inStep 12 = true)) (zStep 12)
    ∧ (fun (s : State) => s.fwState = 1) (z.fput F.HOSTIF_FW_STATUS_STATE 1)
    ∧ (fun (s : State) => s.inStep 13 = true ∧ s.isHead = false) (zStep 13) := by
  refine ⟨?_, ?_, ?_, ?_, ?_, ?_, ?_, ?_, ?_, ?_, ?_⟩
  · decide +kernel
  · decide +kernel
  · decide +kernel
  · decide +kernel
  · decide +kernel
  · decide +kernel
  · decide +kernel
  · decide +kernel
  · decide +kernel
  · decide +kernel
  · decide +kernel

theorem witness_PowerStatesAndResets :
    (fun (s : State) => s.sleepRefusal ≠ 0) z
    ∧ (fun (s : State) => s.sleepRefusal = 0) (on.fput F.BOOT_STATUS_STATE 1)
    ∧ (fun (w : Bool) (s : State) => s.mode = 0 ∧ (w || s.wakeSource) = true) true z
    ∧ (fun (v : Bool) (s : State) => s.power.tripped = none ∧ (s.boot.off = false ∨ v = true)) true z
    ∧ (fun (s : State) => s.power.tripped = none ∧ s.boot.off = false) z
    ∧ (fun (s : State) => s.power.tripped = none) z
    ∧ (fun (c : Nat) (s : State) => s.power.tripped = some c) 1 ({ z with power := { z.power with tripped := some 1 } })
    ∧ (fun (d : Fin 18) (s : State) => s.power.tripped = none ∧ (d.val < 16 → s.fbit (F.POWER_DIODE_FAILED d.val) = false) ∧
      (d.val = 16 → (List.range 64).any (fun i => decide (118 ≤ s.power.base + tget 0 s.power.rise i)) = true)) 17 z
    ∧ (fun (s : State) => s.power.tripped = none) z
    ∧ (fun (ds : List (BitVec 16)) (ps : List Nat) (s : State) => s.fbit F.POWER_STATUS_FAST = true ∧
      s.mode ≠ 0) [] [] (on.fput F.POWER_STATUS_FAST 1) := by
  refine ⟨?_, ?_, ?_, ?_, ?_, ?_, ?_, ?_, ?_, ?_⟩
  · decide +kernel
  · decide +kernel
  · decide +kernel
  · decide +kernel
  · decide +kernel
  · decide +kernel
  · decide +kernel
  · decide +kernel
  · decide +kernel
  · decide +kernel

theorem witness_ControllerServesRequests :
    (fun (cls : Fin 5) (src tag : Nat) (hint wr : Bool) (off : Nat) (data : List (Option Byte)) (s : State) =>
      s.reqShape cls.val off data.length = true ∧
      s.arcRefuse off data.length = 0) 1 0 0 true false 0 (List.replicate 32 none) (z.fput F.HBMC_STATUS_PHASE 5)
    ∧ (fun (k : Nat) (r : HReq) (s : State) => s.hbm.reqs[k]? = some r ∧ 2 ≤ r.cls ∧ r.promoted = false) 0 rq zRq
    ∧ (fun (k : Nat) (r : HReq) (s : State) => s.hbm.reqs[k]? = some r ∧ servedNext s.hbm.reqs k r = true ∧ r.wr = false ∧
      r.hint = true ∧ r.cls ≠ 1) 0 rq zRq := by
  refine ⟨?_, ?_, ?_⟩
  · decide +kernel
  · decide +kernel
  · decide +kernel

theorem witness_ControllerMapsScrubsAndTrains :
    (fun (s : State) => s.fbit F.HBMC_CTRL_MAP_APPLY = false ∧ s.mode = 1 ∧ s.hbm.hold = 0 ∧ masksValid (maskSet (fun k =>
      s.rdN (R.HBMC_MAP_NEW k))) = true) ((List.range 10).foldl (fun u k => u.wrN (R.HBMC_MAP_NEW k) (2 ^ k)) on)
    ∧ (fun (s : State) => s.fbit F.HBMC_CTRL_MAP_APPLY = false ∧ s.mode ≠ 1) z
    ∧ (fun (s : State) => s.hbm.hold = 2 ∧ s.hbm.rateReq = none) (z.hbmMod (fun h => { h with hold := 2 }))
    ∧ (fun (s : State) => s.hbm.hold ≠ 2 ∧ s.hbm.initScrub = true) (z.hbmMod (fun h => { h with initScrub := true }))
    ∧ (fun (s : State) => s.rdN R.HBMC_SCRUB_PERIOD % 256 ≠ 0) (z.wrN R.HBMC_SCRUB_PERIOD 1)
    ∧ (fun (s : State) => s.hbm.patrol = true ∧ s.poison = []) (z.hbmMod (fun h => { h with patrol := true }))
    ∧ (fun (v : Word) (s : State) => 1 ≤ s.phase ∧ s.phase ≤ 4) 1#32 (z.fput F.HBMC_STATUS_PHASE 2)
    ∧ (fun (s : State) => s.hbm.hold = 3 ∧ s.hbm.reqs = [] ∧ s.phase = 5) ((z.hbmMod (fun h =>
      { h with hold := 3 })).fput F.HBMC_STATUS_PHASE 5)
    ∧ (fun (pc : Fin 64) (rfm : Bool) (mv : Byte) (s : State) => s.phase = 4 ∧ s.hbm.done.contains pc.val = false ∧
      s.hbm.rateReq = none ∧ s.hbm.done.length < 63) 0 false 0#8 (z.fput F.HBMC_STATUS_PHASE 4) := by
  refine ⟨?_, ?_, ?_, ?_, ?_, ?_, ?_, ?_, ?_⟩
  · decide +kernel
  · decide +kernel
  · decide +kernel
  · decide +kernel
  · decide +kernel
  · decide +kernel
  · decide +kernel
  · decide +kernel
  · decide +kernel

theorem witness_InterruptsRiseFallAndAreDelivered :
    (fun (k : Fin 656) (s : State) => s.irq.level.contains k.val = false ∧ s.sourceInput k.val ≠ some false) 512 z
    ∧ (fun (k : Fin 656) (s : State) => s.irq.level.contains k.val = true ∧ s.sourceInput k.val ≠ some true ∧
      s.irqEdge k.val = true) 512 ((z.fput (F.IRQ_SRC_CFG_EDGE 512) 1).irqMod (fun i => { i with level := [512] }))
    ∧ (fun (c : Fin 2) (e : Nat × Nat) (s : State) => s.winner c.val true = some e ∧
      s.mayFast c.val = true) 0 ((512, 0)) ((zIrq.fput (F.IRQ_CUR_CTRL_FEN 0) 1).fput (F.IRQ_SRC_CFG_FAST 512) 1)
    ∧ (fun (c : Fin 2) (e : Nat × Nat) (s : State) => s.winner c.val false = some e ∧ s.mayNormal c.val = true ∧
      s.exiting c.val = false ∧ s.winner c.val true = none) 0 ((512, 0)) (zIrq.fput (F.IRQ_CUR_CTRL_NEN 0) 1)
    ∧ (fun (c : Fin 2) (s : State) => s.exiting c.val = true ∧ s.curRuns c.val = true) 0 (zIrq.irqMod (fun i =>
      { i with exiting := [0] }))
    ∧ (fun (g : Fin 12) (s : State) => s.mode ≠ 0) 0 on := by
  refine ⟨?_, ?_, ?_, ?_, ?_, ?_⟩
  · decide +kernel
  · decide +kernel
  · decide +kernel
  · decide +kernel
  · decide +kernel
  · decide +kernel

theorem witness_LeaseAndHealthOfTheCurators :
    (fun (m : Fin 32) (s : State) => s.activeCur = some m.val) 0 zL
    ∧ (fun (m : Fin 32) (v : Word) (s : State) => s.activeCur = none ∧ m.val < 2 ∧ s.curQualified m.val = true ∧
      v.toNat = leaseWord (m.val + 1)) 0 0xFFFE0001#32 zGoodA
    ∧ (fun (c : Nat) (s : State) => s.activeCur = some c ∧ s.mode ≠ 0 ∧ s.leaseOver = true) 0 zL
    ∧ (fun (m : Fin 32) (s : State) => s.activeCur = some m.val ∧ s.curQualified (1 - m.val) = true) 0 zGoodB
    ∧ (fun (m : Fin 32) (s : State) => s.activeCur = some m.val ∧ s.curQualified (1 - m.val) = false) 0 zL
    ∧ (fun (c : Fin 2) (s : State) => s.activeCur = some c.val) 0 zL
    ∧ (fun (c : Fin 2) (s : State) => s.role c.val = 0) 1 z
    ∧ (fun (m : Fin 32) (s : State) => s.activeCur = some m.val ∧ s.fbit F.CORE_STATUS_FAILOVER = true) 0 zL
    ∧ (fun (s : State) => s.fbit F.CORE_STATUS_FAILOVER = true) zL
    ∧ (fun (m : Fin 32) (c : Fin 2) (v : Word) (s : State) => m.val = c.val ∧
      s.role c.val = 1) 0 0 5#32 (z.fput F.CORE_STATUS_ROLE_A 1)
    ∧ (fun (c : Fin 2) (s : State) => s.maxAge < s.rdN (R.CORE_HEALTH_AGE c.val)) 0 (z.wrN (R.CORE_HEALTH_AGE 0) 200)
    ∧ (fun (c : Fin 2) (s : State) => s.activeCur ≠ some c.val) 1 zL
    ∧ (fun (m : Fin 32) (v : Word) (s : State) => s.activeCur = some m.val) 0 5#32 zL := by
  refine ⟨?_, ?_, ?_, ?_, ?_, ?_, ?_, ?_, ?_, ?_, ?_, ?_, ?_⟩
  · decide +kernel
  · decide +kernel
  · decide +kernel
  · decide +kernel
  · decide +kernel
  · decide +kernel
  · decide +kernel
  · decide +kernel
  · decide +kernel
  · decide +kernel
  · decide +kernel
  · decide +kernel
  · decide +kernel

theorem witness_ClovesStartHaltResetAndKick :
    (fun (e : Fin 16) (s : State) => s.fbit (F.CLOVE_STATUS_LOADING e.val) = false ∧ s.cloveResetting e.val = false ∧
      s.cloveState e.val = 0) 3 z
    ∧ (fun (e : Fin 16) (s : State) => s.fbit (F.CLOVE_STATUS_LOADING e.val) = false ∧ s.cloveResetting e.val = false ∧
      s.cloveState e.val = 2) 3 (z.fput (F.CLOVE_STATUS_STATE 3) 2)
    ∧ (fun (e : Fin 16) (s : State) => s.cloveState e.val = 1 ∧
      s.cloveResetting e.val = false) 3 (z.fput (F.CLOVE_STATUS_STATE 3) 1)
    ∧ (fun (e : Fin 16) (s : State) => (s.mp (2 + e.val)).moves = []) 3 z
    ∧ (fun (e : Fin 16) (x : Move) (l : List Move) (s : State) =>
      (s.mp (2 + e.val)).moves = x :: l) 3 (⟨0, 0, 32, true, 0, 0, 0, 0⟩) [] (z.mpMod 5 (fun p =>
      { p with moves := [⟨0, 0, 32, true, 0, 0, 0, 0⟩] }))
    ∧ (fun (e : Fin 16) (s : State) => s.cloveState e.val ≠ 0) 3 (z.fput (F.CLOVE_STATUS_STATE 3) 1) := by
  refine ⟨?_, ?_, ?_, ?_, ?_, ?_⟩
  · decide +kernel
  · decide +kernel
  · decide +kernel
  · decide +kernel
  · decide +kernel
  · decide +kernel

theorem witness_FirmwareCommandsOfTheHost :
    (fun (s : State) => s.fwState ≠ 1) z
    ∧ (fun (s : State) => s.fwState = 1) zFw
    ∧ (fun (s : State) => s.fwState = 1) zFw
    ∧ (fun (s : State) => s.fwWrong = true) zFw
    ∧ (fun (s : State) => s.fwWrong = false ∧ s.storeBlocked = true) (z.fput F.BOOT_STATUS_STATE 1)
    ∧ (fun (w : StoreWrite) (b : List Byte) (s : State) => s.cat.storing = some w ∧
      2 ≤ w.kind) ({ off := 0, bytes := [], kind := 2 }) [] (z.catMod (fun c =>
      { c with storing := some { off := 0, bytes := [], kind := 2 } }))
    ∧ (fun (s : State) => s.fwWrong = false ∧ s.storeBlocked = false) zRun
    ∧ (fun (s : State) => s.fwWrong = true) zFw
    ∧ (fun (s : State) => s.fwWrong = false ∧ s.storeBlocked = false) zRun := by
  refine ⟨?_, ?_, ?_, ?_, ?_, ?_, ?_, ?_, ?_⟩
  · decide +kernel
  · decide +kernel
  · decide +kernel
  · decide +kernel
  · decide +kernel
  · decide +kernel
  · decide +kernel
  · decide +kernel
  · decide +kernel

theorem witness_ManagementPortFramesAndLinks :
    (fun (a b : Fin 3) (s : State) => s.power.tripped = none) 0 2 z
    ∧ (fun (f : List Byte) (back : Nat) (s : State) => s.mgmtUp = true) [] 0 zMg
    ∧ (fun (f : List Byte) (back : Nat) (s : State) => s.mgmtUp = true ∧ 60 ≤ f.length ∧ f.length ≤ 1518 ∧
      (beNat ((f.drop 12).take 2) == 0x8808) = false ∧ s.macPass (f.take 6) = true) (List.replicate 60 0xff#8) 0 zMg
    ∧ (fun (s : State) => s.host.sending = true ∧ s.mgmtUp = true) ({ zMg with host := { zMg.host with sending := true } })
    ∧ (fun (s : State) => s.fget F.MGMT_CTRL_RATE = 0 ∧ s.fbit F.MGMT_CTRL_EN = true ∧
      s.fbit F.MGMT_STATUS_LINK = false) (z.fput F.MGMT_CTRL_EN 1)
    ∧ (fun (s : State) => s.fbit F.MGMT_STATUS_LINK = false ∧ s.fbit F.MGMT_CTRL_EN = true) (z.fput F.MGMT_CTRL_EN 1)
    ∧ (fun (s : State) => s.fbit F.MGMT_STATUS_LINK = true) zMg := by
  refine ⟨?_, ?_, ?_, ?_, ?_, ?_, ?_⟩
  · decide +kernel
  · decide +kernel
  · decide +kernel
  · decide +kernel
  · decide +kernel
  · decide +kernel
  · decide +kernel

theorem witness_SnapshotsAreRequestedLatchedAndDone :
    (fun (n : Bool) (s : State) => s.fbit F.SNAP_STATUS_PENDING = true) true zSn
    ∧ (fun (s : State) => s.fbit F.SNAP_STATUS_PENDING = false ∧ s.siNow < s.nextBoundary ∧
      (s.fput F.SNAP_CTRL_NEXT 1).boundaryAt s.nextBoundary ≤ siEnd) z
    ∧ (fun (b : Fin 21) (s : State) => s.fbit F.SNAP_STATUS_PENDING = true ∧ s.snap.blocks.contains b.val = false ∧
      s.blockReached b.val (s.rd64 R.SNAP_RESOLVED_SI_LO R.SNAP_RESOLVED_SI_HI) = true) 3 zSn
    ∧ (fun (s : State) => (s.fbit F.SNAP_STATUS_PENDING && (List.range 21).all (fun b =>
      s.snap.blocks.contains b)) = false) zSn
    ∧ (fun (s : State) => s.fbit F.SNAP_STATUS_PENDING = true ∧ (List.range 21).all (fun b =>
      s.snap.blocks.contains b) = true) ({ zSn with snap := { zSn.snap with blocks := List.range 21 } }) := by
  refine ⟨?_, ?_, ?_, ?_, ?_⟩
  · decide +kernel
  · decide +kernel
  · decide +kernel
  · decide +kernel
  · decide +kernel

theorem witness_DmaChannelsEnableStopResumeAndAreSet :
    (fun (n : Fin 32) (s : State) => s.chState n.val = 0 ∧
      s.ringOk n.val = true) 3 (zRing.fput (F.DMA_CH_STATUS_STATE 3) 0)
    ∧ (fun (n : Fin 32) (s : State) => s.chState n.val = 0 ∧ s.ringOk n.val = false) 3 (zD 0)
    ∧ (fun (n : Fin 32) (s : State) => s.chState n.val = 7) 3 (zD 7)
    ∧ (fun (n : Fin 32) (s : State) => (s.chState n.val = 0 ∨ s.chState n.val = 7)) 3 (zD 7)
    ∧ (fun (n : Fin 32) (s : State) => (s.chState n.val = 2 ∨ s.chState n.val = 3)) 3 (zD 2)
    ∧ (fun (n : Fin 32) (s : State) => s.chState n.val = 7 ∧ s.ringOk n.val = true) 3 zRing
    ∧ (fun (n : Fin 32) (s : State) => s.chState n.val = 2) 3 (zD 2)
    ∧ (fun (n : Fin 32) (v : Word) (s : State) => (s.chState n.val = 0 ∨ s.chState n.val = 7)) 3 0 (zD 7)
    ∧ (fun (n : Fin 32) (v : Word) (s : State) => (s.chState n.val = 0 ∨ s.chState n.val = 7)) 3 0 (zD 0)
    ∧ (fun (n : Fin 32) (v : Word) (s : State) => (s.chState n.val = 0 ∨ s.chState n.val = 7)) 3 0 (zD 0)
    ∧ (fun (n : Fin 32) (k : Fin 3) (v : Word) (s : State) => s.chState n.val ≠ 0 ∧ s.chState n.val ≠ 7) 3 0 0 (zD 2) := by
  refine ⟨?_, ?_, ?_, ?_, ?_, ?_, ?_, ?_, ?_, ?_, ?_⟩
  · decide +kernel
  · decide +kernel
  · decide +kernel
  · decide +kernel
  · decide +kernel
  · decide +kernel
  · decide +kernel
  · decide +kernel
  · decide +kernel
  · decide +kernel
  · decide +kernel

theorem witness_DmaDescriptorsAreFetchedAndServed :
    (fun (n : Fin 32) (host : List Byte) (s : State) => s.chState n.val = 1 ∧
      hostWin ≤ (s.ring n.val).1 + 32 * (s.rdN (R.DMA_CH_HEAD n.val) % (s.ring n.val).2) ∧ s.hostOpen = true ∧
      host.length = 32 ∧ imgN host 0 1 + imgN host 1 1 = 255) 3 (255#8 :: List.replicate 31 0#8) (zHw 1)
    ∧ (fun (cyc : Nat) (s : State) => (s.accrue cyc).pump.dmaPick = none) 0 z
    ∧ (∃ (cyc n o k b slots : Nat) (d : DmaDesc) (s : State), (s.accrue cyc).pump.dmaPick = some n ∧
      (s.accrue cyc).pump.nextRead n = some (o, k, b, slots) ∧ ((s.accrue cyc).pump.ch n).desc = some d)
    ∧ (fun (n : Fin 32) (host : List Byte) (o len : Nat) (rest : List (Nat × Nat)) (d : DmaDesc) (s : State) =>
      (s.ch n.val).reads = (o, len) :: rest ∧ (s.ch n.val).desc = some d ∧ hostWin ≤ d.srcAt o ∧
      s.hostOpen = true) 3 [] 0 64 [] dH zRd
    ∧ (fun (n : Fin 32) (a : Nat) (bs : List (Option Byte)) (rest : List (Nat × List (Option Byte))) (s : State) =>
      (s.ch n.val).orphans = [] ∧ (s.ch n.val).writes = (a, bs) :: rest) 3 0 [] [] (z.chMod' 3 (fun c =>
      { c with writes := [(0, [])] }))
    ∧ (fun (n : Fin 32) (s : State) => s.chState n.val = 4) 3 (zD 4)
    ∧ (fun (n : Fin 32) (b : Fin 8) (a : Nat) (bs : List (Option Byte)) (rest : List (Nat × List (Option Byte))) (s : State) =>
      (s.ch n.val).orphans = [] ∧ (s.ch n.val).writes = (a, bs) :: rest) 3 0 0 [] [] (z.chMod' 3 (fun c =>
      { c with writes := [(0, [])] }))
    ∧ (fun (n : Fin 32) (s : State) => s.hostReading n.val = true) 3 zRd := by
  refine ⟨?_, ?_, ?_, ?_, ?_, ?_, ?_, ?_⟩
  · decide +kernel
  · decide +kernel
  · exact ⟨1, 3, 0, 64, 1, 1, dH, (zHw 3).chMod' 3 (fun c => { c with desc := some dH, tokens := 2048 }), by decide +kernel, by decide +kernel, by decide +kernel⟩
  · decide +kernel
  · decide +kernel
  · decide +kernel
  · decide +kernel
  · decide +kernel

theorem witness_TransactionsArePresentedAndAnswered :
    (fun (m : Fin 20) (id : Fin 32) (qos : BitVec 4) (h wr : Bool) (addr : BitVec 40) (data : List (Option Byte)) (s : State) =>
      (data.length = 0 ∨ 4096 < data.length ∨ 4096 < addr.toNat % 4096 + data.length)) 0 0 0 false false 0 [] z
    ∧ (fun (m : Fin 20) (id : Fin 32) (qos : BitVec 4) (h wr : Bool) (addr : BitVec 40) (data : List (Option Byte)) (s : State) =>
      0 < data.length ∧ addr.toNat % 4096 + data.length ≤ 4096 ∧ s.capQos m.val qos.toNat < 15) 0 0 0 false false 0 [none] z
    ∧ (fun (k : Nat) (x : Txn) (s : State) => s.matrix.txns[k]? = some x ∧ s.mayAnswer k x = true ∧
      x.late = false) 0 tx0 zTx
    ∧ (fun (k : Nat) (x : Txn) (s : State) => s.matrix.txns[k]? = some x ∧ s.mayAnswer k x = true ∧
      x.late = true) 0 ({ tx0 with late := true }) (z.matMod (fun x => { x with txns := [{ tx0 with late := true }] }))
    ∧ (fun (k : Nat) (x : Txn) (s : State) => s.matrix.txns[k]? = some x ∧ x.late = false ∧ x.hold = 0 ∧
      s.rdN R.MATRIX_TIMEOUT % 2 ^ 24 ≠ 0 ∧ x.port ≠ 3) 0 tx0 (zTx.wrN R.MATRIX_TIMEOUT 5)
    ∧ (fun (k : Nat) (x : Txn) (s : State) => s.matrix.txns[k]? = some x ∧ x.late = false ∧ x.hold = 0 ∧
      x.promoted = false ∧ x.qos ≠ 15) 0 tx0 zTx := by
  refine ⟨?_, ?_, ?_, ?_, ?_, ?_⟩
  · decide +kernel
  · decide +kernel
  · decide +kernel
  · decide +kernel
  · decide +kernel
  · decide +kernel

theorem witness_AccessesReachTheirWindows :
    (fun (m : Fin 20) (id : Fin 32) (qos : BitVec 4) (e : Fin 16) (l : Fin 0x60000) (data : List (Option Byte)) (s : State) =>
      s.mode ≠ 0 ∧ m.val < 20) 0 0 0 0 0 [] on
    ∧ (fun (b2 wr rx : Bool) (off : BitVec 36) (tag : BitVec 10) (data : List (Option Byte)) (s : State) =>
      s.fbit F.HOSTIF_STATUS_LINK_UP = true ∧ s.boot.off = false ∧ s.host.cold = false ∧ data.isEmpty = false ∧
      s.fget F.HOSTIF_STATUS_DSTATE ≠ 0) false false false 0 0 [none] ((z.fput F.HOSTIF_STATUS_LINK_UP 1).fput F.HOSTIF_STATUS_DSTATE 3)
    ∧ (fun (wr : Bool) (off : BitVec 36) (tag : BitVec 10) (data : List (Option Byte)) (s : State) =>
      s.fbit F.HOSTIF_STATUS_LINK_UP = true ∧ s.boot.off = false ∧ s.host.cold = false ∧ data.isEmpty = false ∧
      s.fget F.HOSTIF_STATUS_DSTATE = 0 ∧
      s.fbit F.HOSTIF_STATUS_MSE = true) false 0 0 [none] ((z.fput F.HOSTIF_STATUS_LINK_UP 1).fput F.HOSTIF_STATUS_MSE 1) := by
  refine ⟨?_, ?_, ?_⟩
  · decide +kernel
  · decide +kernel
  · decide +kernel

theorem witness_RegisterArithmeticOfMace :
    (fun (p : Proc) (rd a b : Fin 32) (s : State) => s.ready p = true) (.clove 0) 1 2 3 zE
    ∧ (fun (p : Proc) (rd a b : Fin 32) (s : State) => s.ready p = true) (.clove 0) 1 2 3 zE
    ∧ (fun (p : Proc) (rd a b : Fin 32) (s : State) => s.ready p = true) (.clove 0) 1 2 3 zE
    ∧ (fun (p : Proc) (rd a b : Fin 32) (s : State) => s.ready p = true) (.clove 0) 1 2 3 zE
    ∧ (fun (p : Proc) (rd a b : Fin 32) (s : State) => s.ready p = true) (.clove 0) 1 2 3 zE
    ∧ (fun (p : Proc) (rd a b : Fin 32) (s : State) => s.ready p = true) (.clove 0) 1 2 3 zE
    ∧ (fun (p : Proc) (rd a b : Fin 32) (s : State) => s.ready p = true) (.clove 0) 1 2 3 zE
    ∧ (fun (p : Proc) (rd a b : Fin 32) (s : State) => s.ready p = true) (.clove 0) 1 2 3 zE
    ∧ (fun (p : Proc) (rd a b : Fin 32) (s : State) => s.ready p = true) (.clove 0) 1 2 3 zE
    ∧ (fun (p : Proc) (rd a b : Fin 32) (s : State) => s.ready p = true) (.clove 0) 1 2 3 zE
    ∧ (fun (p : Proc) (rd a b : Fin 32) (s : State) => s.ready p = true) (.clove 0) 1 2 3 zE
    ∧ (fun (p : Proc) (rd a b : Fin 32) (s : State) => s.ready p = true) (.clove 0) 1 2 3 zE
    ∧ (fun (p : Proc) (rd a b : Fin 32) (s : State) => s.ready p = true) (.clove 0) 1 2 3 zE
    ∧ (fun (p : Proc) (rd a b : Fin 32) (s : State) => s.ready p = true) (.clove 0) 1 2 3 zE
    ∧ (fun (p : Proc) (rd a b : Fin 32) (s : State) => s.ready p = true) (.clove 0) 1 2 3 zE
    ∧ (fun (p : Proc) (rd a b : Fin 32) (s : State) => s.ready p = true) (.clove 0) 1 2 3 zE
    ∧ (fun (p : Proc) (rd a b : Fin 32) (s : State) => s.ready p = true) (.clove 0) 1 2 3 zE
    ∧ (fun (p : Proc) (rd a b : Fin 32) (s : State) => s.ready p = true) (.clove 0) 1 2 3 zE
    ∧ (fun (p : Proc) (rd a b : Fin 32) (s : State) => s.ready p = true) (.clove 0) 1 2 3 zE
    ∧ (fun (p : Proc) (rd a b : Fin 32) (s : State) => s.ready p = true) (.clove 0) 1 2 3 zE
    ∧ (fun (p : Proc) (rd a b : Fin 32) (s : State) => s.ready p = true) (.clove 0) 1 2 3 zE := by
  refine ⟨?_, ?_, ?_, ?_, ?_, ?_, ?_, ?_, ?_, ?_, ?_, ?_, ?_, ?_, ?_, ?_, ?_, ?_, ?_, ?_, ?_⟩
  · decide +kernel
  · decide +kernel
  · decide +kernel
  · decide +kernel
  · decide +kernel
  · decide +kernel
  · decide +kernel
  · decide +kernel
  · decide +kernel
  · decide +kernel
  · decide +kernel
  · decide +kernel
  · decide +kernel
  · decide +kernel
  · decide +kernel
  · decide +kernel
  · decide +kernel
  · decide +kernel
  · decide +kernel
  · decide +kernel
  · decide +kernel

theorem witness_ImmediateArithmeticAndAddressesOfMace :
    (fun (p : Proc) (rd a : Fin 32) (i : BitVec 16) (s : State) => s.ready p = true) (.cur 0) 1 2 1#16 zK
    ∧ (fun (p : Proc) (rd a : Fin 32) (i : BitVec 16) (s : State) => s.ready p = true) (.cur 0) 1 2 1#16 zK
    ∧ (fun (p : Proc) (rd a : Fin 32) (i : BitVec 16) (s : State) => s.ready p = true) (.cur 0) 1 2 1#16 zK
    ∧ (fun (p : Proc) (rd a : Fin 32) (i : BitVec 16) (s : State) => s.ready p = true) (.cur 0) 1 2 1#16 zK
    ∧ (fun (p : Proc) (rd a : Fin 32) (i : BitVec 16) (s : State) => s.ready p = true) (.cur 0) 1 2 1#16 zK
    ∧ (fun (p : Proc) (rd a : Fin 32) (i : BitVec 16) (s : State) => s.ready p = true) (.cur 0) 1 2 1#16 zK
    ∧ (fun (p : Proc) (rd : Fin 32) (i : BitVec 16) (s : State) => s.ready p = true) (.cur 0) 1 1#16 zK
    ∧ (fun (p : Proc) (rd a : Fin 32) (i : Fin 32) (s : State) => s.ready p = true) (.cur 0) 1 2 3 zK
    ∧ (fun (p : Proc) (rd a : Fin 32) (i : Fin 32) (s : State) => s.ready p = true) (.cur 0) 1 2 3 zK
    ∧ (fun (p : Proc) (rd a : Fin 32) (i : Fin 32) (s : State) => s.ready p = true) (.cur 0) 1 2 3 zK
    ∧ (fun (p : Proc) (i : Fin 8) (a b : Fin 32) (s : State) => s.ready p = true) (.cur 0) 1 2 3 zK
    ∧ (fun (p : Proc) (rd : Fin 32) (i : Fin 8) (s : State) => s.ready p = true) (.cur 0) 1 2 zK
    ∧ (fun (p : Proc) (rd : Fin 32) (i : Fin 8) (s : State) => s.ready p = true) (.cur 0) 1 2 zK
    ∧ (fun (p : Proc) (i : Fin 8) (a : Fin 32) (s : State) => s.ready p = true) (.clove 0) 1 2 zE
    ∧ (fun (p : Proc) (rd : Fin 32) (i : Fin 8) (s : State) => s.ready p = true) (.clove 0) 1 2 zE
    ∧ (fun (p : Proc) (i : Fin 8) (a : Fin 32) (s : State) => s.ready p = true) (.clove 0) 1 2 zE := by
  refine ⟨?_, ?_, ?_, ?_, ?_, ?_, ?_, ?_, ?_, ?_, ?_, ?_, ?_, ?_, ?_, ?_⟩
  · decide +kernel
  · decide +kernel
  · decide +kernel
  · decide +kernel
  · decide +kernel
  · decide +kernel
  · decide +kernel
  · decide +kernel
  · decide +kernel
  · decide +kernel
  · decide +kernel
  · decide +kernel
  · decide +kernel
  · decide +kernel
  · decide +kernel
  · decide +kernel

theorem witness_LoadsAndStoresOfMace :
    (∃ (p : Proc) (g : Fin 32) (md : Fin 4) (a : Fin 8) (i : BitVec 16) (x y : BitVec 40) (u : State) (bs : List Byte) (s : State), s.ready p = true ∧
      s.mForm p md a i = some (x, y) ∧ s.load p x.toNat 1 = (u, .ok bs))
    ∧ (∃ (p : Proc) (g : Fin 32) (md : Fin 4) (a : Fin 8) (i : BitVec 16) (x y : BitVec 40) (u : State) (bs : List Byte) (s : State), s.ready p = true ∧
      s.mForm p md a i = some (x, y) ∧ s.load p x.toNat 1 = (u, .ok bs))
    ∧ (∃ (p : Proc) (g : Fin 32) (md : Fin 4) (a : Fin 8) (i : BitVec 16) (x y : BitVec 40) (u : State) (bs : List Byte) (s : State), s.ready p = true ∧
      s.mForm p md a i = some (x, y) ∧ s.load p x.toNat 2 = (u, .ok bs))
    ∧ (∃ (p : Proc) (g : Fin 32) (md : Fin 4) (a : Fin 8) (i : BitVec 16) (x y : BitVec 40) (u : State) (bs : List Byte) (s : State), s.ready p = true ∧
      s.mForm p md a i = some (x, y) ∧ s.load p x.toNat 2 = (u, .ok bs))
    ∧ (∃ (p : Proc) (g : Fin 32) (md : Fin 4) (a : Fin 8) (i : BitVec 16) (x y : BitVec 40) (u : State) (bs : List Byte) (s : State), s.ready p = true ∧
      s.mForm p md a i = some (x, y) ∧ s.load p x.toNat 4 = (u, .ok bs))
    ∧ (∃ (p : Proc) (g : Fin 32) (md : Fin 4) (a : Fin 8) (i : BitVec 16) (x y : BitVec 40) (u : State) (bs : List Byte) (s : State), s.ready p = true ∧
      pairOk g = true ∧ s.mForm p md a i = some (x, y) ∧ s.load p x.toNat 8 = (u, .ok bs))
    ∧ (fun (p : Proc) (g : Fin 32) (md : Fin 4) (a : Fin 8) (i : BitVec 16) (x y : BitVec 40) (s : State) =>
      s.ready p = true ∧ s.mForm p md a i = some (x, y) ∧
      storeFault p x.toNat 1 = none) (.clove 0) 2 0 0 0 0x10000#40 0x10000#40 zEx
    ∧ (fun (p : Proc) (g : Fin 32) (md : Fin 4) (a : Fin 8) (i : BitVec 16) (x y : BitVec 40) (s : State) =>
      s.ready p = true ∧ s.mForm p md a i = some (x, y) ∧
      storeFault p x.toNat 2 = none) (.clove 0) 2 0 0 0 0x10000#40 0x10000#40 zEx
    ∧ (fun (p : Proc) (g : Fin 32) (md : Fin 4) (a : Fin 8) (i : BitVec 16) (x y : BitVec 40) (s : State) =>
      s.ready p = true ∧ s.mForm p md a i = some (x, y) ∧
      storeFault p x.toNat 4 = none) (.clove 0) 2 0 0 0 0x10000#40 0x10000#40 zEx
    ∧ (fun (p : Proc) (g : Fin 32) (md : Fin 4) (a : Fin 8) (i : BitVec 16) (x y : BitVec 40) (s : State) =>
      s.ready p = true ∧ pairOk g = true ∧ s.mForm p md a i = some (x, y) ∧
      storeFault p x.toNat 8 = none) (.clove 0) 2 0 0 0 0x10000#40 0x10000#40 zEx := by
  refine ⟨?_, ?_, ?_, ?_, ?_, ?_, ?_, ?_, ?_, ?_⟩
  · exact ⟨.clove 0, 1, 0, 0, 0, 0x10000#40, 0x10000#40, zEx, zEx.ldBytes (cloveAt 0 0x10000) 1, zEx, by decide +kernel, by decide +kernel, rfl⟩
  · exact ⟨.clove 0, 1, 0, 0, 0, 0x10000#40, 0x10000#40, zEx, zEx.ldBytes (cloveAt 0 0x10000) 1, zEx, by decide +kernel, by decide +kernel, rfl⟩
  · exact ⟨.clove 0, 1, 0, 0, 0, 0x10000#40, 0x10000#40, zEx, zEx.ldBytes (cloveAt 0 0x10000) 2, zEx, by decide +kernel, by decide +kernel, rfl⟩
  · exact ⟨.clove 0, 1, 0, 0, 0, 0x10000#40, 0x10000#40, zEx, zEx.ldBytes (cloveAt 0 0x10000) 2, zEx, by decide +kernel, by decide +kernel, rfl⟩
  · exact ⟨.clove 0, 1, 0, 0, 0, 0x10000#40, 0x10000#40, zEx, zEx.ldBytes (cloveAt 0 0x10000) 4, zEx, by decide +kernel, by decide +kernel, rfl⟩
  · exact ⟨.clove 0, 2, 0, 0, 0, 0x10000#40, 0x10000#40, zEx, zEx.ldBytes (cloveAt 0 0x10000) 8, zEx, by decide +kernel, by decide +kernel, by decide +kernel, rfl⟩
  · decide +kernel
  · decide +kernel
  · decide +kernel
  · decide +kernel

theorem witness_BranchesAndJumpsOfMace :
    (fun (p : Proc) (a b : Fin 32) (d : BitVec 16) (s : State) => s.ready p = true) (.clove 0) 2 3 1 zE
    ∧ (fun (p : Proc) (a b : Fin 32) (d : BitVec 16) (s : State) => s.ready p = true) (.clove 0) 2 3 1 zE
    ∧ (fun (p : Proc) (a b : Fin 32) (d : BitVec 16) (s : State) => s.ready p = true) (.clove 0) 2 3 1 zE
    ∧ (fun (p : Proc) (a b : Fin 32) (d : BitVec 16) (s : State) => s.ready p = true) (.clove 0) 2 3 1 zE
    ∧ (fun (p : Proc) (a b : Fin 32) (d : BitVec 16) (s : State) => s.ready p = true) (.clove 0) 2 3 1 zE
    ∧ (fun (p : Proc) (a b : Fin 32) (d : BitVec 16) (s : State) => s.ready p = true) (.clove 0) 2 3 1 zE
    ∧ (fun (p : Proc) (d : BitVec 26) (s : State) => s.ready p = true) (.cur 0) 1 zK
    ∧ (fun (p : Proc) (d : BitVec 26) (s : State) => s.ready p = true) (.cur 0) 1 zK
    ∧ (fun (p : Proc) (a : Fin 32) (s : State) => s.ready p = true) (.cur 0) 1 zK
    ∧ (fun (p : Proc) (rd a : Fin 32) (s : State) => s.ready p = true) (.cur 0) 1 1 zK := by
  refine ⟨?_, ?_, ?_, ?_, ?_, ?_, ?_, ?_, ?_, ?_⟩
  · decide +kernel
  · decide +kernel
  · decide +kernel
  · decide +kernel
  · decide +kernel
  · decide +kernel
  · decide +kernel
  · decide +kernel
  · decide +kernel
  · decide +kernel

theorem witness_AccumulatorInstructionsOfMace :
    (fun (p : Proc) (n : Fin 4) (a b : Fin 32) (cj ng z : Bool) (s : State) =>
      s.ready p = true) (.clove 0) 0 1 2 true true false zE
    ∧ (fun (p : Proc) (n : Fin 4) (a b : Fin 32) (cj ng z : Bool) (s : State) =>
      s.ready p = true) (.clove 0) 0 1 2 true true false zE
    ∧ (fun (p : Proc) (n : Fin 4) (a : Fin 32) (s : State) => s.ready p = true) (.cur 0) 0 1 zK
    ∧ (fun (p : Proc) (n : Fin 4) (a : Fin 32) (s : State) => s.ready p = true) (.cur 0) 0 1 zK
    ∧ (fun (p : Proc) (n : Fin 4) (s : State) => s.ready p = true) (.cur 0) 0 zK
    ∧ (fun (p : Proc) (n : Fin 4) (a b : Fin 32) (s : State) => s.ready p = true) (.cur 0) 0 1 2 zK
    ∧ (fun (p : Proc) (rd : Fin 32) (n : Fin 4) (s : State) => s.ready p = true) (.cur 0) 1 0 zK
    ∧ (fun (p : Proc) (rd : Fin 32) (n : Fin 4) (s : State) => s.ready p = true) (.cur 0) 1 0 zK
    ∧ (fun (p : Proc) (rd : Fin 32) (n : Fin 4) (s : State) => s.ready p = true) (.cur 0) 1 0 zK := by
  refine ⟨?_, ?_, ?_, ?_, ?_, ?_, ?_, ?_, ?_⟩
  · decide +kernel
  · decide +kernel
  · decide +kernel
  · decide +kernel
  · decide +kernel
  · decide +kernel
  · decide +kernel
  · decide +kernel
  · decide +kernel

theorem witness_TimeWaitsAndCsrsOfMace :
    (fun (p : Proc) (rd : Fin 32) (c : BitVec 12) (v : Word) (s : State) => s.ready p = true ∧ c ≠ 8#12 ∧
      s.csrRead p c.toNat = some v) (.clove 0) 1 10 0 zE
    ∧ (fun (p : Proc) (rd : Fin 32) (s : State) => s.ready p = true) (.clove 0) 1 zE
    ∧ (∃ (p : Proc) (a : Fin 32) (c : BitVec 12) (t : State) (s : State), s.ready p = true ∧
      s.csrWrite p c.toNat (s.getG p a) = some t)
    ∧ (fun (p : Proc) (a : Fin 32) (s : State) => s.ready p = true) (.cur 0) 1 zK
    ∧ (fun (p : Proc) (rd : Fin 32) (s : State) => s.ready p = true ∧ pairOk rd = true) (.cur 0) 2 zK
    ∧ (fun (p : Proc) (rd : Fin 32) (s : State) => s.ready p = true ∧ pairOk rd = true) (.cur 0) 2 zK
    ∧ (fun (p : Proc) (a : Fin 32) (s : State) => s.ready p = true ∧ pairOk a = true) (.cur 0) 2 zK
    ∧ (fun (p : Proc) (n : Nat) (s : State) => (s.mp (ix p)).wait = .si n ∧ n ≤ s.siNow ∧
      s.awake p = true) (.cur 0) 0 (zK.mpMod 0 (fun p => { p with wait := .si 0 }))
    ∧ (fun (e : Fin 16) (a : Fin 32) (s : State) => s.ready (.clove e) = true) 0 1 zE
    ∧ (fun (e : Fin 16) (m : Nat) (s : State) => (s.mp (2 + e.val)).wait = .flags m ∧
      s.flagsOf e.val &&& BitVec.ofNat 32 m ≠ 0#32 ∧ s.awake (.clove e) = true) 0 2 (zE.mpMod 2 (fun p =>
      { p with wait := .flags 2, kick := true }))
    ∧ (fun (p : Proc) (s : State) => s.ready p = true) (.cur 0) zK := by
  refine ⟨?_, ?_, ?_, ?_, ?_, ?_, ?_, ?_, ?_, ?_, ?_⟩
  · decide +kernel
  · decide +kernel
  · exact ⟨.clove 0, 1, 8#12, zE, zE, by decide +kernel, rfl⟩
  · decide +kernel
  · decide +kernel
  · decide +kernel
  · decide +kernel
  · decide +kernel
  · decide +kernel
  · decide +kernel
  · decide +kernel

theorem witness_ExceptionsAndReturnsOfMace :
    (fun (c : Fin 2) (k : BitVec 12) (s : State) => s.ready (.cur c) = true ∧
      (s.mp c.val).cur.ecause.getLsbD 31 = false) 0 5 zK
    ∧ (fun (e : Fin 16) (k : BitVec 12) (s : State) => s.ready (.clove e) = true) 0 5 zE
    ∧ (fun (c : Fin 2) (x : BitVec 40) (s : State) => s.ready (.cur c) = true ∧
      (s.mp c.val).cur.ecause.getLsbD 31 = false) 0 5 zK
    ∧ (fun (p : Proc) (x : BitVec 40) (s : State) => s.ready p = true) (.cur 0) 5 zK
    ∧ (fun (e : Fin 16) (x : BitVec 40) (s : State) => s.ready (.clove e) = true) 0 5 zE
    ∧ (fun (p : Proc) (a : Nat) (s : State) => (s.mp (ix p)).storeErr = some a ∧ s.awake p = true) (.clove 0) 4 zTr
    ∧ (fun (c : Fin 2) (s : State) => s.ready (.cur c) = true ∧
      (s.mp c.val).cur.ecause.getLsbD 31 = true) 0 (zK.mpMod 0 (fun p =>
      { p with bank := { p.bank with ecause := 0x80000001#32 } }))
    ∧ (fun (c : Fin 2) (s : State) => s.ready (.cur c) = true ∧ (s.mp c.val).cur.ecause.getLsbD 31 = false ∧
      (s.mp c.val).inFast = true) 0 (zK.mpMod 0 (fun p => { p with inFast := true }))
    ∧ (fun (e : Fin 16) (s : State) => s.ready (.clove e) = true) 0 zE := by
  refine ⟨?_, ?_, ?_, ?_, ?_, ?_, ?_, ?_, ?_⟩
  · decide +kernel
  · decide +kernel
  · decide +kernel
  · decide +kernel
  · decide +kernel
  · decide +kernel
  · decide +kernel
  · decide +kernel
  · decide +kernel

theorem witness_MovesOfTheClovesStartAndEnd :
    (fun (e : Fin 16) (rd : Fin 32) (l m : Fin 8) (inw : Bool) (k : Fin 4) (s : State) => s.ready (.clove e) = true ∧
      0 < (s.getG (.clove e) rd).toNat ∧ (s.getG (.clove e) rd).toNat ≤ 4096 ∧ (s.getG (.clove e) rd).toNat % 4 = 0 ∧
      (s.getA (.clove e) l.val).toNat % 4 = 0 ∧ (s.getA (.clove e) m.val).toNat % 4 = 0 ∧
      (s.getA (.clove e) l.val).toNat < 0x80000 ∧ [1, 2, 3].contains (localMem (s.getA (.clove e) l.val).toNat) = true ∧
      localMem ((s.getA (.clove e) l.val).toNat + (s.getG (.clove e) rd).toNat - 1) = localMem (s.getA (.clove e) l.val).toNat) 0 1 0 1 true 0 zBm
    ∧ (fun (e : Fin 16) (rd : Fin 32) (l m : Fin 8) (inw : Bool) (k : Fin 4) (s : State) => s.ready (.clove e) = true ∧
      (s.getG (.clove e) rd).toNat = 0 ∧ (s.getA (.clove e) l.val).toNat % 4 = 0 ∧
      (s.getA (.clove e) m.val).toNat % 4 = 0) 0 0 0 1 true 0 zBm
    ∧ (∃ (e : Fin 16) (k : Fin 4) (mv : Move) (u : State) (s : State), (s.mp (2 + e.val)).moves[k.val]? = some mv ∧
      s.cloveResetting e.val = false ∧ s.runMove e.val mv false = (u, none) ∧ u.cloveResetting e.val = false ∧
      u.cloveState e.val = 1 ∧ (u.mp (2 + e.val)).waiting = none)
    ∧ (fun (e : Fin 16) (s : State) => s.ready (.clove e) = true) 0 zE := by
  refine ⟨?_, ?_, ?_, ?_⟩
  · decide +kernel
  · decide +kernel
  · exact ⟨0, 0, ⟨0x10000, 0, 0, true, 0, 8, 0, 1⟩, zE.mpMod 2 (fun p => { p with moves := [⟨0x10000, 0, 0, true, 0, 8, 0, 1⟩] }), zE.mpMod 2 (fun p => { p with moves := [⟨0x10000, 0, 0, true, 0, 8, 0, 1⟩] }), by decide +kernel, by decide +kernel, rfl, by decide +kernel⟩
  · decide +kernel

theorem witness_ThreeBusInstructionsOfTheCloves :
    (fun (e : Fin 16) (d : DBits) (s : State) => s.ready (.clove e) = true ∧
      busFault 1 (s.getA (.clove e) (dXa d)).toNat (elemSize d.xcplx) = none ∧
      busFault 3 (s.getA (.clove e) (dCa d)).toNat (elemSize d.ocplx) = none ∧ (d.yen = true →
      busFault 2 (s.getA (.clove e) (dYa d)).toNat 4 = none)) 0 zBits zDs
    ∧ (fun (e : Fin 16) (d : DBits) (s : State) => s.ready (.clove e) = true ∧
      busFault 1 (s.getA (.clove e) (dXa d)).toNat (elemSize d.xcplx) = none ∧
      busFault 3 (s.getA (.clove e) (dCa d)).toNat (elemSize d.ocplx) = none ∧ (d.yen = true →
      busFault 2 (s.getA (.clove e) (dYa d)).toNat 4 = none)) 0 zBits zDs
    ∧ (fun (e : Fin 16) (d : DBits) (s : State) => s.ready (.clove e) = true ∧
      busFault 1 (s.getA (.clove e) (dXa d)).toNat (elemSize d.xcplx) = none ∧ d.yen = false ∧
      busFault 2 (s.getA (.clove e) (dYa d)).toNat (elemSize d.ocplx) = none) 0 zBits zDs
    ∧ (fun (e : Fin 16) (d : DBits) (s : State) => s.ready (.clove e) = true ∧
      busFault 1 (s.getA (.clove e) (dXa d)).toNat (elemSize d.xcplx) = none ∧ d.yen = false ∧
      busFault 2 (s.getA (.clove e) (dYa d)).toNat (elemSize d.ocplx) = none) 0 zBits zDs
    ∧ (fun (e : Fin 16) (d : DBits) (s : State) => s.ready (.clove e) = true ∧
      busFault 1 (s.getA (.clove e) (dXa d)).toNat (elemSize d.xcplx) = none ∧
      busFault 1 (((s.getA (.clove e) (dXa d)).toNat + (elemSize d.xcplx)) % 2 ^ 40) (elemSize d.xcplx) = none ∧
      busFault 3 (s.getA (.clove e) (dCa d)).toNat (elemSize d.ocplx) = none ∧ (d.yen = true →
      busFault 2 (s.getA (.clove e) (dYa d)).toNat 4 = none)) 0 zBits zDs
    ∧ (fun (e : Fin 16) (d : DBits) (s : State) => s.ready (.clove e) = true ∧
      busFault 1 (s.getA (.clove e) (dXa d)).toNat (elemSize d.xcplx) = none ∧
      busFault 1 (((s.getA (.clove e) (dXa d)).toNat + (elemSize d.xcplx)) % 2 ^ 40) (elemSize d.xcplx) = none ∧
      busFault 3 (s.getA (.clove e) (dCa d)).toNat (elemSize d.ocplx) = none ∧ (d.yen = true →
      busFault 2 (s.getA (.clove e) (dYa d)).toNat 4 = none)) 0 zBits zDs
    ∧ (fun (e : Fin 16) (d : DBits) (s : State) => s.ready (.clove e) = true ∧
      busFault 1 (s.getA (.clove e) (dXa d)).toNat (elemSize d.xcplx) = none ∧ (d.yen = true →
      busFault 2 (s.getA (.clove e) (dYa d)).toNat 4 = none)) 0 zBits zDs
    ∧ (fun (e : Fin 16) (d : DBits) (s : State) => s.ready (.clove e) = true ∧
      busFault 1 (s.getA (.clove e) (dXa d)).toNat (elemSize d.xcplx) = none ∧ (d.yen = true →
      busFault 2 (s.getA (.clove e) (dYa d)).toNat 4 = none)) 0 zBits zDs
    ∧ (fun (e : Fin 16) (d : DBits) (s : State) => s.ready (.clove e) = true ∧ (d.yen = true →
      busFault 2 (s.getA (.clove e) (dYa d)).toNat 4 = none)) 0 zBits zDs
    ∧ (fun (e : Fin 16) (n : BitVec 13) (r : Fin 32) (len : BitVec 12) (s : State) => s.ready (.clove e) = true ∧
      len ≠ 0#12 ∧ n.toNat ≠ 0 ∧ (s.mp (2 + e.val)).loops.length < 2) 0 3 0 1 zE
    ∧ (fun (e : Fin 16) (n : BitVec 13) (r : Fin 32) (len : BitVec 12) (s : State) => s.ready (.clove e) = true ∧
      len ≠ 0#12 ∧ (s.mp (2 + e.val)).loops.length < 2) 0 3 1 1 zE := by
  refine ⟨?_, ?_, ?_, ?_, ?_, ?_, ?_, ?_, ?_, ?_, ?_⟩
  · decide +kernel
  · decide +kernel
  · decide +kernel
  · decide +kernel
  · decide +kernel
  · decide +kernel
  · decide +kernel
  · decide +kernel
  · decide +kernel
  · decide +kernel
  · decide +kernel

theorem witness_StepRunsTheFrontCommand :
    State.reset.pending = [] := rfl

theorem witness_EveryStepKeepsTheForm :
    State.reset.Wf ∧ ∃ t, step State.reset = .next t := ⟨⟨by decide +kernel, by decide +kernel⟩, _, rfl⟩

theorem witness_DefaultTargetAnswersWithAnError : ∃ (s : State) (rb : RegBus) (b : By) (addr tgt n : Nat) (bs : List (Option Byte)) (w : Bool),
    targetOf tgt = .none' ∧ s.fbit F.MATRIX_ERR_INFO_VALID = false ∧ b.m < 20 ∧ addr < 2 ^ 40 :=
  ⟨z, noRegs, ⟨0, 0, 0⟩, 2 ^ 40 - 1, 0, 4, [], false, by decide +kernel⟩

theorem witness_AddressesOfLoadsAndStores :
    zE.ready (.clove 0) = true ∧ zE.mForm (.clove 0) 1 0 8#16 = none := by decide +kernel

theorem witness_RegisterPairsAreEven :
    zE.ready (.clove 0) = true ∧ pairOk 31 = false ∧ pairOk 0 = false ∧ pairOk 30 = true := by decide +kernel

theorem witness_CellsOfAPassAddExactly :
    ((524189 + (7 * 7 + 7 * 7) : Int).natAbs ≤ 524287 ∧ (0 + (7 * 7 - 7 * 7) : Int).natAbs ≤ 524287)
    ∧ ((List.replicate 16 (((127, -127, false), (127, 127, false)) : (Int × Int × Bool) × (Int × Int × Bool))).length ≤ 16
      ∧ ∀ e ∈ List.replicate 16 (((127, -127, false), (127, 127, false)) : (Int × Int × Bool) × (Int × Int × Bool)),
        e.1.1.natAbs ≤ 127 ∧ e.1.2.1.natAbs ≤ 127 ∧ e.2.1.natAbs ≤ 127 ∧ e.2.2.1.natAbs ≤ 127) := by decide +kernel

theorem witness_AccumulatorsOfMaceSaturateAndRecordIt :
    (List.replicate 255 (2147483648 : Int)).length ≤ 255
    ∧ ∀ i ∈ List.replicate 255 (2147483648 : Int), i.natAbs ≤ 2 ^ 31 := by decide +kernel

theorem witness_SignalPathCommandsKeepTheRest :
    (∃ t, exec (.laneRetrain 0) z = .next t ∧ family (.laneRetrain 0) = .port)
    ∧ (∃ t, exec (.monRestart) z = .next t ∧ family (.monRestart) = .ingest)
    ∧ (∃ t, exec (.checkNow) z = .next t ∧ family (.checkNow) = .array)
    ∧ (∃ t, exec (.drainStart) z = .next t ∧ family (.drainStart) = .accum)
    ∧ (∃ t, exec (.dbeamSend) z = .next t ∧ family (.dbeamSend) = .beam) :=
  ⟨⟨_, rfl, rfl⟩, ⟨_, rfl, rfl⟩, ⟨_, rfl, rfl⟩, ⟨_, rfl, rfl⟩, ⟨_, rfl, rfl⟩⟩

theorem witness_TimeChainAndControlCommandsKeepTheRest :
    (∃ t, exec (.slewEnd) z = .next t ∧ family (.slewEnd) = .time)
    ∧ (∃ t, exec (.chainEnum) z = .next t ∧ family (.chainEnum) = .chain)
    ∧ (∃ t, exec (.cancel) z = .next t ∧ family (.cancel) = .catalogue)
    ∧ (∃ t, exec (.scrubNow) z = .next t ∧ family (.scrubNow) = .memory)
    ∧ (∃ t, exec (.pmAlert 0) z = .next t ∧ family (.pmAlert 0) = .throttle)
    ∧ (∃ t, exec (.snapDone) z = .next t ∧ family (.snapDone) = .snapshot)
    ∧ (∃ t, exec (.testReset) z = .next t ∧ family (.testReset) = .test) :=
  ⟨⟨_, rfl, rfl⟩, ⟨_, rfl, rfl⟩, ⟨_, rfl, rfl⟩, ⟨_, rfl, rfl⟩, ⟨_, rfl, rfl⟩, ⟨_, rfl, rfl⟩, ⟨_, rfl, rfl⟩⟩

theorem witness_MatrixHostAndCuratorCommandsKeepTheRest :
    (∃ t, exec (.saffronWindow) z = .next t ∧ family (.saffronWindow) = .matrix)
    ∧ (∃ t, exec (.doorbell 0) z = .next t ∧ family (.doorbell 0) = .dma)
    ∧ (∃ t, exec (.lockRelease 0 0 0) z = .next t ∧ family (.lockRelease 0 0 0) = .mailbox)
    ∧ (∃ t, exec (.leaseExpiry) z = .next t ∧ family (.leaseExpiry) = .lease)
    ∧ (∃ t, exec (.normalExit 0) z = .next t ∧ family (.normalExit 0) = .interrupt)
    ∧ (∃ t, exec (.fwCommit) z = .next t ∧ family (.fwCommit) = .host) :=
  ⟨⟨_, rfl, rfl⟩, ⟨_, rfl, rfl⟩, ⟨_, rfl, rfl⟩, ⟨_, rfl, rfl⟩, ⟨_, rfl, rfl⟩, ⟨_, rfl, rfl⟩⟩

theorem witness_MaceInstructionsKeepTheRest :
    (∃ t, exec (.stop (.clove 0)) z = .next t ∧ family (.stop (.clove 0)) = .maceAlu)
    ∧ (∃ t, exec (.fence (.clove 0)) z = .next t ∧ family (.fence (.clove 0)) = .maceWait)
    ∧ (∃ t, exec (.dMove (.clove 0) zBits) z = .next t ∧ family (.dMove (.clove 0) zBits) = .maceDsp)
    ∧ (∃ t, exec (.cloveRun 0) z = .next t ∧ family (.cloveRun 0) = .clove)
    ∧ aluProc (.stop (.clove 0)) = some (.clove 0) :=
  ⟨⟨_, rfl, rfl⟩, ⟨_, rfl, rfl⟩, ⟨_, rfl, rfl⟩, ⟨_, rfl, rfl⟩, rfl⟩

/-! ### What `WellFormed` refuses -/

theorem test_refused_addresses_and_indices :
    ([.registerWrite 0 2 0#32,
      .rcRead 0 0x1000000,
      .rwaWrite 3 0#32,
      .blockDeadline (2 ^ 57),
      .capabilitySet 0 0#8 [] 0#32 [],
      .skewExpiry 4096 0,
      .channelBlockRelease 4096 0,
      .stagingFree 0 (2 ^ 57),
      .late 0 4096 0,
      .generatorDelivery 4096 0,
      .integrationBoundary (2 ^ 64)] : List Instr).all (fun c => !WellFormed c) = true := by decide +kernel

theorem test_refused_lengths_and_spans :
    ([.enum (List.replicate 65556 0#8),
      .hbmRequest 0 0 0 false true 0 [],
      .scrubDone [] [0x60000000],
      .matrixTransaction 0 0 0#4 false true (BitVec.ofNat 40 (2 ^ 40 - 1)) [none, none],
      .carrelWindowAccess 0 0 0#4 0 0x3FFFF true [none, none],
      .aliasWrite 0 0 0#4 0 0x3FFFF [none, none],
      .registerBridgeAccess 0 0 0#4 0xFFFFFF true [none, none],
      .descriptorFetch 0 (List.replicate 33 0#8) true,
      .dmaReadResponse 0 (List.replicate 577 0#8) true,
      .cloveOutsideAccess 0 0 0#4 0 0x5FFFF true false [none, none]] : List Instr).all (fun c => !WellFormed c) = true := by decide +kernel

theorem test_refused_readings_and_cells :
    ([.startStepDone 0 true [(400, true)],
      .slowRound [] [] [] [] none,
      .fastRound [] [],
      .pcieInboundRequest true 0#36 true false 0#10 [],
      .samplePreload [] []] : List Instr).all (fun c => !WellFormed c) = true := by decide +kernel

theorem test_accepted_at_the_bounds :
    ([.registerWrite 0 4 0#32,
      .blockDeadline 0,
      .skewExpiry 4095 0,
      .integrationBoundary (2 ^ 64 - 1),
      .scrubDone [0] [],
      .startStepDone 0 true [(399, true)]] : List Instr).all WellFormed = true := by decide +kernel

/-! ### Numbers from the spec's worked examples -/

/-- Chapter 2: SI 1,769,472 starts 2,013,265,920 ns after TIME.SI0 at the design point. -/
theorem test_spectrum_time : nsOf (State.reset.tOf 1769472) = 2013265920 := by decide +kernel

/-- The design point: 2,048 inputs, 256 channels, the triangle of all 2,080 blocks. -/
def designPoint : State :=
  ((z.fput F.INGEST_GEOM_CHANNELS 256).fput F.INGEST_GEOM_INPUTS 2048).fput F.ACCUM_BLOCKS_COUNT 2080

/-- Chapter 6: the visibility of inputs 280 and 1,500 in channel slot 100 of bank 1. -/
theorem test_visibility_offset : chStride designPoint = 16785408 ∧ bankStride designPoint = 4303355904
    ∧ entryOff designPoint 1 100 1089 + 8 * 796 = 5990641632 := by decide +kernel

/-- Chapter 10: the same visibility under the reset masks: pseudo-channel 42, SID 1 and bank 2, column 31, row 5,713. -/
theorem test_place_in_the_stacks : State.reset.pseudoOf 0x56511EFE0 = 42 ∧ State.reset.bankOf 0x56511EFE0 = 18
    ∧ State.reset.columnOf 0x56511EFE0 = 31 ∧ State.reset.rowOf 0x56511EFE0 = 5713 := by decide +kernel

/-- Engine 0 of chapter 14's filter at its first tap: x(n−3) = 4,000 − j500 in X, the coefficient −1,280 in C. -/
def filterTap : State :=
  ((((zE.stNat (cloveAt 0 0x1000C) 4 0x0FA0FE0C).stNat (cloveAt 0 0x50006) 2 0xFB00).setA (.clove 0) 0 0x1000C#40).setA (.clove 0) 6
    0x50006#40).setM (.clove 0) 0 0xFFFFFFFC#32

/-- Chapter 14: the first tap of the filter adds −5,120,000 to RE, copies the sample one place along and steps a0 down. -/
theorem test_filter_tap : ∃ t, exec (.ftapz (.clove 0) ⟨0, 0, 0, 0, 0, 0, 0, false, false, 0, false, false, false, true⟩) filterTap = .next t
    ∧ (t.getAcc (.clove 0) 0) = (-5120000, 640000) ∧ t.ldNat (cloveAt 0 0x10010) 4 = 0x0FA0FE0C
    ∧ t.getA (.clove 0) 0 = 0x10008#40 := ⟨_, rfl, by decide +kernel⟩

/-- Chapter 14: RE 73,728,000 and IM −16,384,000 scaled by 15 places with rounding pack to 0x08CA_FE0C. -/
theorem test_filter_output : ∃ t, exec (.apack (.clove 0) 6 0)
    (((zE.setAcc (.clove 0) 0 (73728000, -16384000))).mpMod 2 (fun p => { p with bank := { p.bank with sc := 0x10F#32 } })) = .next t
    ∧ t.getG (.clove 0) 6 = 0x08CAFE0C#32 := ⟨_, rfl, by decide +kernel⟩

/-- R687: 456 signals of three cells each, the 1,368 cells; R670, by hand: the transmitter of lane 7 of quire 6 is at row index 11, column 61. -/
theorem test_boundary_cells : 3 * ((List.range 24).flatMap quireSignals ++ bandSignals ++ cornerSignals).length = 1368 ∧
    lanePBall 6 7 true = (11, 61) := by
  decide +kernel

/-- R687: the 32 bits of 0x1204_8A6F leave at TDO, the least significant first. -/
theorem test_idcode : ∃ t, exec (.idcode (List.replicate 32 false)) z = .next t
    ∧ t.out = [.shift ((List.range 32).map (fun k => Nat.testBit 0x12048A6F k))] := ⟨_, rfl, by decide +kernel⟩

end Sys2Proof.Machine
end

/-! Proofs of the statements about the model as a whole: what every command and every step keeps, plain register accesses, and
reset. -/

namespace Sys2Proof.Machine

/-! ### Every command at once -/

/-- Every meaning is `.next` of a state it computes: the model has no arm that faults or is refused. -/
theorem exec_completes (c : Instr) (s : State) : ∃ t, exec c s = .next t := by
  cases c <;> exact ⟨_, rfl⟩

/-- The dispatch table of `exec`, arm by arm: each command's next state follows the state it was given. -/
theorem exec_follows (s : State) : ∀ c : Instr, FollowsO s (exec c s)
  | .registerWrite m a v => execRegisterWrite_follows (Follows.rfl' s) m a v
  | .rcRead m a => execRcRead_follows (Follows.rfl' s) m a
  | .rwaWrite r v => execRwaWrite_follows (Follows.rfl' s) r v
  | .timeNowRead => execTimeNowRead_follows (Follows.rfl' s)
  | .siNowRead => execSiNowRead_follows (Follows.rfl' s)
  | .siExpectRead => execSiExpectRead_follows (Follows.rfl' s)
  | .blockDeadline b => execBlockDeadline_follows (Follows.rfl' s) b
  | .slewEnd => execSlewEnd_follows (Follows.rfl' s)
  | .reacquire => execReacquire_follows (Follows.rfl' s)
  | .nextSecWrite v => execNextSecWrite_follows (Follows.rfl' s) v
  | .ppsEdge n edge => execPpsEdge_follows (Follows.rfl' s) n edge
  | .vrefOffset v => execVrefOffset_follows (Follows.rfl' s) v
  | .chainOffset v => execChainOffset_follows (Follows.rfl' s) v
  | .sourceClockLoss n => execSourceClockLoss_follows (Follows.rfl' s) n
  | .ppsTimeout n => execPpsTimeout_follows (Follows.rfl' s) n
  | .vrefTimeout n => execVrefTimeout_follows (Follows.rfl' s) n
  | .qualGain n => execQualGain_follows (Follows.rfl' s) n
  | .qualWindowEnd n => execQualWindowEnd_follows (Follows.rfl' s) n
  | .revertWait => execRevertWait_follows (Follows.rfl' s)
  | .frequencyLockHeld => execFrequencyLockHeld_follows (Follows.rfl' s)
  | .acqTimeout => execAcqTimeout_follows (Follows.rfl' s)
  | .holdLimit => execHoldLimit_follows (Follows.rfl' s)
  | .ppsOutRise => execPpsOutRise_follows (Follows.rfl' s)
  | .ppsOutFall => execPpsOutFall_follows (Follows.rfl' s)
  | .quirePllLoss q => execQuirePllLoss_follows (Follows.rfl' s) q
  | .quirePllLock q => execQuirePllLock_follows (Follows.rfl' s) q
  | .detectPulse n => execDetectPulse_follows (Follows.rfl' s) n
  | .detectExit n => execDetectExit_follows (Follows.rfl' s) n
  | .tsbSwitch n fom => execTsbSwitch_follows (Follows.rfl' s) n fom
  | .trainDone n => execTrainDone_follows (Follows.rfl' s) n
  | .trainTimeout n => execTrainTimeout_follows (Follows.rfl' s) n
  | .lockTimeout n => execLockTimeout_follows (Follows.rfl' s) n
  | .exchTimeout n => execExchTimeout_follows (Follows.rfl' s) n
  | .trainingSequence n tsb body => execTrainingSequence_follows (Follows.rfl' s) n tsb body
  | .capabilitySet n flags body crc errs => execCapabilitySet_follows (Follows.rfl' s) n flags body crc errs
  | .characterReceive n g mark => execCharacterReceive_follows (Follows.rfl' s) n g mark
  | .signalLoss n => execSignalLoss_follows (Follows.rfl' s) n
  | .bitLockLoss n => execBitLockLoss_follows (Follows.rfl' s) n
  | .frameReceive n => execFrameReceive_follows (Follows.rfl' s) n
  | .runaway n => execRunaway_follows (Follows.rfl' s) n
  | .elastic n => execElastic_follows (Follows.rfl' s) n
  | .margin n fom => execMargin_follows (Follows.rfl' s) n fom
  | .adaptStep n fom ctle t1 t2 t3 t4 t5 => execAdaptStep_follows (Follows.rfl' s) n fom ctle t1 t2 t3 t4 t5
  | .laneRetrain n => execLaneRetrain_follows (Follows.rfl' s) n
  | .laneTestSet n loop pat chk => execLaneTestSet_follows (Follows.rfl' s) n loop pat chk
  | .simplexPhaseEnd n => execSimplexPhaseEnd_follows (Follows.rfl' s) n
  | .egressFrameSent n => execEgressFrameSent_follows (Follows.rfl' s) n
  | .samplesFrame q => execSamplesFrame_follows (Follows.rfl' s) q
  | .skewExpiry slot b => execSkewExpiry_follows (Follows.rfl' s) slot b
  | .channelBlockRelease slot b => execChannelBlockRelease_follows (Follows.rfl' s) slot b
  | .stagingFree slot b => execStagingFree_follows (Follows.rfl' s) slot b
  | .monRestart => execMonRestart_follows (Follows.rfl' s)
  | .monitorRestart => execMonitorRestart_follows (Follows.rfl' s)
  | .dwellWindowReady m old => execDwellWindowReady_follows (Follows.rfl' s) m old
  | .arrayWindowStart => execArrayWindowStart_follows (Follows.rfl' s)
  | .roundReadStart => execRoundReadStart_follows (Follows.rfl' s)
  | .orderIssue t waited => execOrderIssue_follows (Follows.rfl' s) t waited
  | .tileRoundStart t waited => execTileRoundStart_follows (Follows.rfl' s) t waited
  | .orderExecute t parity stalled => execOrderExecute_follows (Follows.rfl' s) t parity stalled
  | .passEnd t => execPassEnd_follows (Follows.rfl' s) t
  | .shadowDrain t stalled => execShadowDrain_follows (Follows.rfl' s) t stalled
  | .writebackRetire t stalled => execWritebackRetire_follows (Follows.rfl' s) t stalled
  | .spill w waited => execSpill_follows (Follows.rfl' s) w waited
  | .spillAck w => execSpillAck_follows (Follows.rfl' s) w
  | .fenceRetire t => execFenceRetire_follows (Follows.rfl' s) t
  | .drainRetire t => execDrainRetire_follows (Follows.rfl' s) t
  | .checkPeriod => execCheckPeriod_follows (Follows.rfl' s)
  | .checkNow => execCheckNow_follows (Follows.rfl' s)
  | .check t pass => execCheck_follows (Follows.rfl' s) t pass
  | .parity p off => execParity_follows (Follows.rfl' s) p off
  | .retireReq j bits => execRetireReq_follows (Follows.rfl' s) j bits
  | .integrationBoundary x => execIntegrationBoundary_follows (Follows.rfl' s) x
  | .bankTablesRewritten k => execBankTablesRewritten_follows (Follows.rfl' s) k
  | .drainStart => execDrainStart_follows (Follows.rfl' s)
  | .folioDone => execFolioDone_follows (Follows.rfl' s)
  | .folioEgressDone k => execFolioEgressDone_follows (Follows.rfl' s) k
  | .stageRelease k => execStageRelease_follows (Follows.rfl' s) k
  | .beamReadout t => execBeamReadout_follows (Follows.rfl' s) t
  | .late t slot b => execLate_follows (Follows.rfl' s) t slot b
  | .vbeamFrameStart n => execVbeamFrameStart_follows (Follows.rfl' s) n
  | .vdrop => execVdrop_follows (Follows.rfl' s)
  | .dbeamSend => execDbeamSend_follows (Follows.rfl' s)
  | .cand => execCand_follows (Follows.rfl' s)
  | .switchRequest p => execSwitchRequest_follows (Follows.rfl' s) p
  | .weightSwitch => execWeightSwitch_follows (Follows.rfl' s)
  | .wloadSet p bits => execWloadSet_follows (Follows.rfl' s) p bits
  | .pendingSwitch => execPendingSwitch_follows (Follows.rfl' s)
  | .searchRestart => execSearchRestart_follows (Follows.rfl' s)
  | .load => execLoad_follows (Follows.rfl' s)
  | .loadComplete ok => execLoadComplete_follows (Follows.rfl' s) ok
  | .verify => execVerify_follows (Follows.rfl' s)
  | .verifyComplete => execVerifyComplete_follows (Follows.rfl' s)
  | .store => execStore_follows (Follows.rfl' s)
  | .storeComplete readBack => execStoreComplete_follows (Follows.rfl' s) readBack
  | .setBoot => execSetBoot_follows (Follows.rfl' s)
  | .noBoot => execNoBoot_follows (Follows.rfl' s)
  | .schedule => execSchedule_follows (Follows.rfl' s)
  | .cancel => execCancel_follows (Follows.rfl' s)
  | .clear => execClear_follows (Follows.rfl' s)
  | .acceded => execAcceded_follows (Follows.rfl' s)
  | .remap => execRemap_follows (Follows.rfl' s)
  | .resumed => execResumed_follows (Follows.rfl' s)
  | .helloSend p => execHelloSend_follows (Follows.rfl' s) p
  | .hello p b => execHello_follows (Follows.rfl' s) p b
  | .helloTimeout p => execHelloTimeout_follows (Follows.rfl' s) p
  | .chainLinkLoss p to' => execChainLinkLoss_follows (Follows.rfl' s) p to'
  | .enum b => execEnum_follows (Follows.rfl' s) b
  | .enumEnd b => execEnumEnd_follows (Follows.rfl' s) b
  | .enumTimeout => execEnumTimeout_follows (Follows.rfl' s)
  | .versionSet b => execVersionSet_follows (Follows.rfl' s) b
  | .chainEnum => execChainEnum_follows (Follows.rfl' s)
  | .chainForce => execChainForce_follows (Follows.rfl' s)
  | .clearAddr => execClearAddr_follows (Follows.rfl' s)
  | .chainEnumWaitTimeout => execChainEnumWaitTimeout_follows (Follows.rfl' s)
  | .sync pos b => execSync_follows (Follows.rfl' s) pos b
  | .syncFu b => execSyncFu_follows (Follows.rfl' s) b
  | .dreq pos b => execDreq_follows (Follows.rfl' s) pos b
  | .dresp b => execDresp_follows (Follows.rfl' s) b
  | .stampSend pos => execStampSend_follows (Follows.rfl' s) pos
  | .txqSend p => execTxqSend_follows (Follows.rfl' s) p
  | .rxqPop => execRxqPop_follows (Follows.rfl' s)
  | .chainAccede modes => execChainAccede_follows (Follows.rfl' s) modes
  | .chainSnap modes => execChainSnap_follows (Follows.rfl' s) modes
  | .chainCancel modes => execChainCancel_follows (Follows.rfl' s) modes
  | .chainRepeat => execChainRepeat_follows (Follows.rfl' s)
  | .accede b => execAccede_follows (Follows.rfl' s) b
  | .snap b => execSnap_follows (Follows.rfl' s) b
  | .chainCancelReceive b => execChainCancelReceive_follows (Follows.rfl' s) b
  | .report b => execReport_follows (Follows.rfl' s) b
  | .cmdTimeout => execCmdTimeout_follows (Follows.rfl' s)
  | .mbox p b => execMbox_follows (Follows.rfl' s) p b
  | .mboxAck p b => execMboxAck_follows (Follows.rfl' s) p b
  | .mapApply => execMapApply_follows (Follows.rfl' s)
  | .initialisingScrubDone => execInitialisingScrubDone_follows (Follows.rfl' s)
  | .hbmRequest cls src tag hint wr off data => execHbmRequest_follows (Follows.rfl' s) cls src tag hint wr off data
  | .hbmRequestComplete k fault => execHbmRequestComplete_follows (Follows.rfl' s) k fault
  | .hbmAgePromote k => execHbmAgePromote_follows (Follows.rfl' s) k
  | .pageTimeout pc bank => execPageTimeout_follows (Follows.rfl' s) pc bank
  | .refreshDue pc bank put => execRefreshDue_follows (Follows.rfl' s) pc bank put
  | .hbmTemperatureRead t0 t1 => execHbmTemperatureRead_follows (Follows.rfl' s) t0 t1
  | .scrubPeriod => execScrubPeriod_follows (Follows.rfl' s)
  | .scrubNow => execScrubNow_follows (Follows.rfl' s)
  | .scrubDone fixed bad => execScrubDone_follows (Follows.rfl' s) fixed bad
  | .rateChange v => execRateChange_follows (Follows.rfl' s) v
  | .rateChanged => execRateChanged_follows (Follows.rfl' s)
  | .trainingPhaseDone pc pass rfm moved => execTrainingPhaseDone_follows (Follows.rfl' s) pc pass rfm moved
  | .matrixTransaction m id qos hint wr addr data => execMatrixTransaction_follows (Follows.rfl' s) m id qos hint wr addr data
  | .matrixResponse k => execMatrixResponse_follows (Follows.rfl' s) k
  | .timeout k => execTimeout_follows (Follows.rfl' s) k
  | .matrixAgePromote k => execMatrixAgePromote_follows (Follows.rfl' s) k
  | .saffronWindow => execSaffronWindow_follows (Follows.rfl' s)
  | .remapWrite v => execRemapWrite_follows (Follows.rfl' s) v
  | .carrelWindowAccess m id qos j off wr data => execCarrelWindowAccess_follows (Follows.rfl' s) m id qos j off wr data
  | .aliasWrite m id qos k off data => execAliasWrite_follows (Follows.rfl' s) m id qos k off data
  | .registerBridgeAccess m id qos off wr data => execRegisterBridgeAccess_follows (Follows.rfl' s) m id qos off wr data
  | .dmaEnable n on => execDmaEnable_follows (Follows.rfl' s) n on
  | .dmaStop n => execDmaStop_follows (Follows.rfl' s) n
  | .dmaResume n => execDmaResume_follows (Follows.rfl' s) n
  | .doorbell n => execDoorbell_follows (Follows.rfl' s) n
  | .dmaCfgWrite n which v => execDmaCfgWrite_follows (Follows.rfl' s) n which v
  | .descriptorFetch n host ok => execDescriptorFetch_follows (Follows.rfl' s) n host ok
  | .dmaBurst cyc => execDmaBurst_follows (Follows.rfl' s) cyc
  | .dmaReadResponse n host ok => execDmaReadResponse_follows (Follows.rfl' s) n host ok
  | .dmaWriteResponse n => execDmaWriteResponse_follows (Follows.rfl' s) n
  | .fenceTimeout n => execFenceTimeout_follows (Follows.rfl' s) n
  | .dmaErr n wr beat => execDmaErr_follows (Follows.rfl' s) n wr beat
  | .leaseRenew m v => execLeaseRenew_follows (Follows.rfl' s) m v
  | .leaseClaim m v => execLeaseClaim_follows (Follows.rfl' s) m v
  | .leaseExpiry => execLeaseExpiry_follows (Follows.rfl' s)
  | .yield m => execYield_follows (Follows.rfl' s) m
  | .curatorHold c => execCuratorHold_follows (Follows.rfl' s) c
  | .curatorRelease c => execCuratorRelease_follows (Follows.rfl' s) c
  | .failoverDone m => execFailoverDone_follows (Follows.rfl' s) m
  | .failoverSlow => execFailoverSlow_follows (Follows.rfl' s)
  | .healthWrite m c v => execHealthWrite_follows (Follows.rfl' s) m c v
  | .healthBad c => execHealthBad_follows (Follows.rfl' s) c
  | .tcmUe c => execTcmUe_follows (Follows.rfl' s) c
  | .ckptWrite m v => execCkptWrite_follows (Follows.rfl' s) m v
  | .bootRomSelftest c pass => execBootRomSelftest_follows (Follows.rfl' s) c pass
  | .post k d m v => execPost_follows (Follows.rfl' s) k d m v
  | .lockRead k d m => execLockRead_follows (Follows.rfl' s) k d m
  | .lockRelease k d m => execLockRelease_follows (Follows.rfl' s) k d m
  | .noticeRead k d => execNoticeRead_follows (Follows.rfl' s) k d
  | .ack k d m v => execAck_follows (Follows.rfl' s) k d m v
  | .mailboxTimeout k d => execMailboxTimeout_follows (Follows.rfl' s) k d
  | .cross k => execCross_follows (Follows.rfl' s) k
  | .add p rd rs1 rs2 => execAdd_follows (Follows.rfl' s) p rd rs1 rs2
  | .sub p rd rs1 rs2 => execSub_follows (Follows.rfl' s) p rd rs1 rs2
  | .and p rd rs1 rs2 => execAnd_follows (Follows.rfl' s) p rd rs1 rs2
  | .or p rd rs1 rs2 => execOr_follows (Follows.rfl' s) p rd rs1 rs2
  | .xor p rd rs1 rs2 => execXor_follows (Follows.rfl' s) p rd rs1 rs2
  | .sll p rd rs1 rs2 => execSll_follows (Follows.rfl' s) p rd rs1 rs2
  | .srl p rd rs1 rs2 => execSrl_follows (Follows.rfl' s) p rd rs1 rs2
  | .sra p rd rs1 rs2 => execSra_follows (Follows.rfl' s) p rd rs1 rs2
  | .slt p rd rs1 rs2 => execSlt_follows (Follows.rfl' s) p rd rs1 rs2
  | .sltu p rd rs1 rs2 => execSltu_follows (Follows.rfl' s) p rd rs1 rs2
  | .mul p rd rs1 rs2 => execMul_follows (Follows.rfl' s) p rd rs1 rs2
  | .mulh p rd rs1 rs2 => execMulh_follows (Follows.rfl' s) p rd rs1 rs2
  | .mulhu p rd rs1 rs2 => execMulhu_follows (Follows.rfl' s) p rd rs1 rs2
  | .div p rd rs1 rs2 => execDiv_follows (Follows.rfl' s) p rd rs1 rs2
  | .divu p rd rs1 rs2 => execDivu_follows (Follows.rfl' s) p rd rs1 rs2
  | .rem p rd rs1 rs2 => execRem_follows (Follows.rfl' s) p rd rs1 rs2
  | .remu p rd rs1 rs2 => execRemu_follows (Follows.rfl' s) p rd rs1 rs2
  | .min p rd rs1 rs2 => execMin_follows (Follows.rfl' s) p rd rs1 rs2
  | .max p rd rs1 rs2 => execMax_follows (Follows.rfl' s) p rd rs1 rs2
  | .adds p rd rs1 rs2 => execAdds_follows (Follows.rfl' s) p rd rs1 rs2
  | .subs p rd rs1 rs2 => execSubs_follows (Follows.rfl' s) p rd rs1 rs2
  | .addi p rd rs1 imm => execAddi_follows (Follows.rfl' s) p rd rs1 imm
  | .andi p rd rs1 imm => execAndi_follows (Follows.rfl' s) p rd rs1 imm
  | .ori p rd rs1 imm => execOri_follows (Follows.rfl' s) p rd rs1 imm
  | .xori p rd rs1 imm => execXori_follows (Follows.rfl' s) p rd rs1 imm
  | .slti p rd rs1 imm => execSlti_follows (Follows.rfl' s) p rd rs1 imm
  | .sltiu p rd rs1 imm => execSltiu_follows (Follows.rfl' s) p rd rs1 imm
  | .lui p rd imm => execLui_follows (Follows.rfl' s) p rd imm
  | .slli p rd rs1 sh => execSlli_follows (Follows.rfl' s) p rd rs1 sh
  | .srli p rd rs1 sh => execSrli_follows (Follows.rfl' s) p rd rs1 sh
  | .srai p rd rs1 sh => execSrai_follows (Follows.rfl' s) p rd rs1 sh
  | .lb p g mode a imm => execLb_follows (Follows.rfl' s) p g mode a imm
  | .lbu p g mode a imm => execLbu_follows (Follows.rfl' s) p g mode a imm
  | .lh p g mode a imm => execLh_follows (Follows.rfl' s) p g mode a imm
  | .lhu p g mode a imm => execLhu_follows (Follows.rfl' s) p g mode a imm
  | .lw p g mode a imm => execLw_follows (Follows.rfl' s) p g mode a imm
  | .ld p g mode a imm => execLd_follows (Follows.rfl' s) p g mode a imm
  | .sb p g mode a imm => execSb_follows (Follows.rfl' s) p g mode a imm
  | .sh p g mode a imm => execSh_follows (Follows.rfl' s) p g mode a imm
  | .sw p g mode a imm => execSw_follows (Follows.rfl' s) p g mode a imm
  | .sd p g mode a imm => execSd_follows (Follows.rfl' s) p g mode a imm
  | .beq p rs1 rs2 disp => execBeq_follows (Follows.rfl' s) p rs1 rs2 disp
  | .bne p rs1 rs2 disp => execBne_follows (Follows.rfl' s) p rs1 rs2 disp
  | .blt p rs1 rs2 disp => execBlt_follows (Follows.rfl' s) p rs1 rs2 disp
  | .bge p rs1 rs2 disp => execBge_follows (Follows.rfl' s) p rs1 rs2 disp
  | .bltu p rs1 rs2 disp => execBltu_follows (Follows.rfl' s) p rs1 rs2 disp
  | .bgeu p rs1 rs2 disp => execBgeu_follows (Follows.rfl' s) p rs1 rs2 disp
  | .j p disp => execJ_follows (Follows.rfl' s) p disp
  | .jal p disp => execJal_follows (Follows.rfl' s) p disp
  | .jr p rs1 => execJr_follows (Follows.rfl' s) p rs1
  | .jalr p rd rs1 => execJalr_follows (Follows.rfl' s) p rd rs1
  | .seta p k rs1 rs2 => execSeta_follows (Follows.rfl' s) p k rs1 rs2
  | .geta p rd k => execGeta_follows (Follows.rfl' s) p rd k
  | .getah p rd k => execGetah_follows (Follows.rfl' s) p rd k
  | .setm p k rs1 => execSetm_follows (Follows.rfl' s) p k rs1
  | .getm p rd k => execGetm_follows (Follows.rfl' s) p rd k
  | .adda p k rs1 => execAdda_follows (Follows.rfl' s) p k rs1
  | .mac p n rs1 rs2 conj neg cplx z => execMac_follows (Follows.rfl' s) p n rs1 rs2 conj neg cplx z
  | .pow p n rs1 cplx => execPow_follows (Follows.rfl' s) p n rs1 cplx
  | .aclr p n => execAclr_follows (Follows.rfl' s) p n
  | .apack p rd n => execApack_follows (Follows.rfl' s) p rd n
  | .amovre p rd n => execAmovre_follows (Follows.rfl' s) p rd n
  | .amovim p rd n => execAmovim_follows (Follows.rfl' s) p rd n
  | .ald p n rs1 rs2 => execAld_follows (Follows.rfl' s) p n rs1 rs2
  | .rdcsr p rd csr => execRdcsr_follows (Follows.rfl' s) p rd csr
  | .wrcsr p rs1 csr => execWrcsr_follows (Follows.rfl' s) p rs1 csr
  | .rdtime p rd => execRdtime_follows (Follows.rfl' s) p rd
  | .rdsi p rd => execRdsi_follows (Follows.rfl' s) p rd
  | .waitsi p rs1 => execWaitsi_follows (Follows.rfl' s) p rs1
  | .waitsiEnd p => execWaitsiEnd_follows (Follows.rfl' s) p
  | .wfe p rs1 => execWfe_follows (Follows.rfl' s) p rs1
  | .wfeEnd e => execWfeEnd_follows (Follows.rfl' s) e
  | .fence p => execFence_follows (Follows.rfl' s) p
  | .trap p code => execTrap_follows (Follows.rfl' s) p code
  | .storeErr p => execStoreErr_follows (Follows.rfl' s) p
  | .eret p => execEret_follows (Follows.rfl' s) p
  | .stop p => execStop_follows (Follows.rfl' s) p
  | .bmov p rd aL aR inward sel => execBmov_follows (Follows.rfl' s) p rd aL aR inward sel
  | .bmovComplete e k => execBmovComplete_follows (Follows.rfl' s) e k
  | .bwait p => execBwait_follows (Follows.rfl' s) p
  | .dMac p d => execDMac_follows (Follows.rfl' s) p d
  | .dMacz p d => execDMacz_follows (Follows.rfl' s) p d
  | .dMacy p d => execDMacy_follows (Follows.rfl' s) p d
  | .dMacyz p d => execDMacyz_follows (Follows.rfl' s) p d
  | .ftap p d => execFtap_follows (Follows.rfl' s) p d
  | .ftapz p d => execFtapz_follows (Follows.rfl' s) p d
  | .dPow p d => execDPow_follows (Follows.rfl' s) p d
  | .dPowz p d => execDPowz_follows (Follows.rfl' s) p d
  | .dMove p d => execDMove_follows (Follows.rfl' s) p d
  | .loop p imm count rc len => execLoop_follows (Follows.rfl' s) p imm count rc len
  | .cloveRun e => execCloveRun_follows (Follows.rfl' s) e
  | .cloveHalt e => execCloveHalt_follows (Follows.rfl' s) e
  | .cloveReset e => execCloveReset_follows (Follows.rfl' s) e
  | .kick e => execKick_follows (Follows.rfl' s) e
  | .cloveOutsideAccess m id qos e loc wr parity data => execCloveOutsideAccess_follows (Follows.rfl' s) m id qos e loc wr parity data
  | .sourceRise k => execSourceRise_follows (Follows.rfl' s) k
  | .sourceFall k => execSourceFall_follows (Follows.rfl' s) k
  | .fastEntry c during => execFastEntry_follows (Follows.rfl' s) c during
  | .normalEntry c => execNormalEntry_follows (Follows.rfl' s) c
  | .normalExit c => execNormalExit_follows (Follows.rfl' s) c
  | .moderationRelease g => execModerationRelease_follows (Follows.rfl' s) g
  | .hostAck v => execHostAck_follows (Follows.rfl' s) v
  | .msixUnmask v => execMsixUnmask_follows (Follows.rfl' s) v
  | .pcieDstateChange d bme mse msix fmask pmeEn => execPcieDstateChange_follows (Follows.rfl' s) d bme mse msix fmask pmeEn
  | .sleep => execSleep_follows (Follows.rfl' s)
  | .wake written => execWake_follows (Follows.rfl' s) written
  | .cold vddIo => execCold_follows (Follows.rfl' s) vddIo
  | .warm => execWarm_follows (Follows.rfl' s)
  | .rstNPulse => execRstNPulse_follows (Follows.rfl' s)
  | .start sel head => execStart_follows (Follows.rfl' s) sel head
  | .startStepDone us ok bad => execStartStepDone_follows (Follows.rfl' s) us ok bad
  | .railTimeout => execRailTimeout_follows (Follows.rfl' s)
  | .startRetry => execStartRetry_follows (Follows.rfl' s)
  | .refWaitTimeout => execRefWaitTimeout_follows (Follows.rfl' s)
  | .hostWaitTimeout => execHostWaitTimeout_follows (Follows.rfl' s)
  | .vddIoLoss => execVddIoLoss_follows (Follows.rfl' s)
  | .pcieReset => execPcieReset_follows (Follows.rfl' s)
  | .testReset => execTestReset_follows (Follows.rfl' s)
  | .slowRound diodes mv iout est avs => execSlowRound_follows (Follows.rfl' s) diodes mv iout est avs
  | .fastRound diodes ps => execFastRound_follows (Follows.rfl' s) diodes ps
  | .pmAlert bad => execPmAlert_follows (Follows.rfl' s) bad
  | .thermtrip d => execThermtrip_follows (Follows.rfl' s) d
  | .generatorDelivery slot b => execGeneratorDelivery_follows (Follows.rfl' s) slot b
  | .snapshotRequest next => execSnapshotRequest_follows (Follows.rfl' s) next
  | .snapshotLatch b => execSnapshotLatch_follows (Follows.rfl' s) b
  | .snapDone => execSnapDone_follows (Follows.rfl' s)
  | .pcieInboundRequest bar2 off wr relaxed tag data => execPcieInboundRequest_follows (Follows.rfl' s) bar2 off wr relaxed tag data
  | .cplTimeout n => execCplTimeout_follows (Follows.rfl' s) n
  | .fwCommit => execFwCommit_follows (Follows.rfl' s)
  | .fwDone => execFwDone_follows (Follows.rfl' s)
  | .fwStore => execFwStore_follows (Follows.rfl' s)
  | .fwStoreComplete readBack => execFwStoreComplete_follows (Follows.rfl' s) readBack
  | .setFirst => execSetFirst_follows (Follows.rfl' s)
  | .bumpRollback => execBumpRollback_follows (Follows.rfl' s)
  | .mgmtFrameReceive f arrival => execMgmtFrameReceive_follows (Follows.rfl' s) f arrival
  | .txDoorbell => execTxDoorbell_follows (Follows.rfl' s)
  | .mgmtFrameSent => execMgmtFrameSent_follows (Follows.rfl' s)
  | .mgmtRateAlternate => execMgmtRateAlternate_follows (Follows.rfl' s)
  | .bypassInstruction tdi => execBypassInstruction_follows (Follows.rfl' s) tdi
  | .idcode tdi => execIdcode_follows (Follows.rfl' s) tdi
  | .samplePreload pins tdi => execSamplePreload_follows (Follows.rfl' s) pins tdi
  | .extest pins tdi => execExtest_follows (Follows.rfl' s) pins tdi
  | .clamp tdi => execClamp_follows (Follows.rfl' s) tdi
  | .highz tdi => execHighz_follows (Follows.rfl' s) tdi
  | .extestPulse pins tdi => execExtestPulse_follows (Follows.rfl' s) pins tdi
  | .extestTrain pins tdi => execExtestTrain_follows (Follows.rfl' s) pins tdi
  | .bootRead tdi => execBootRead_follows (Follows.rfl' s) tdi
  | .bitLock n => execBitLock_follows (Follows.rfl' s) n
  | .illegalInstruction p why addr => execIllegalInstruction_follows (Follows.rfl' s) p why addr
  | .remapEnd => execRemapEnd_follows (Follows.rfl' s)
  | .forwardedMessage p b => execForwardedMessage_follows (Follows.rfl' s) p b
  | .pcieLinkUp speed width => execPcieLinkUp_follows (Follows.rfl' s) speed width
  | .mgmtLink up => execMgmtLink_follows (Follows.rfl' s) up
theorem exec_wf {c : Instr} {s t : State} (hs : s.Wf) (he : exec c s = .next t) : t.Wf :=
  (exec_follows s c t he).1 hs

theorem idleTick_wf {s : State} (hs : s.Wf) : (idleTick s).Wf := (idleTick_follows (Follows.rfl' s)).1 hs

/-- The canonical form speaks of registers and memory alone, so the queue plays no part in it. -/
theorem State.wf_setPending {s : State} (hs : s.Wf) (q : List Instr) : State.Wf { s with pending := q } := hs

/-- Settles O49: a step is a tick or the front command on the state with the queue's rest, and both keep the form. -/
theorem everyStepKeepsTheForm : Obligations.EveryStepKeepsTheForm := by
  intro s t hs hstep
  unfold step at hstep
  split at hstep
  · cases hstep
    exact idleTick_wf hs
  · exact exec_wf (State.wf_setPending hs _) hstep

/-- Settles O50: every command completes, and its next state follows the one it was given. -/
theorem everyCommandCompletesAndKeepsTheQueue : Obligations.EveryCommandCompletesAndKeepsTheQueue := by
  intro c s
  obtain ⟨t, ht⟩ := exec_completes c s
  obtain ⟨-, hqueue, hout, hfresh⟩ := exec_follows s c t ht
  exact ⟨t, ht, hqueue, hout, hfresh⟩

/-! ### Plain register accesses -/

/-- A write to a register without a command of its own changes the bits that its row gives to writes, and no others (R11). -/
theorem State.regWrite_plain {s : State} {m a : Nat} {v : Word} {r : RegRow} (hpage : ¬ (0x1B0000 ≤ canonReg a ∧ canonReg a < 0x1C0000))
    (hrow : regRow (canonReg a) = some r) (hacc : r.acc ≠ .rwa) (hplain : s.writeSpecial m (canonReg a) v = none) :
    s.regWrite m a v = some (s.wr (canonReg a)
      ((((s.rd (canonReg a) &&& ~~~r.store) ||| (v &&& r.store)) &&& ~~~(v &&& r.clr)) ||| (v &&& r.set1))) := by
  simp only [State.regWrite, if_neg hpage, hrow, hplain]

/-- A read of a read-clear register, by whether the Catalogue in force has it (R11, R166, R285). -/
theorem State.regRead_rc {s : State} {m a : Nat} (hpage : ¬ (0x1B0000 ≤ canonReg a ∧ canonReg a < 0x1C0000))
    (hacc : (regRow (canonReg a)).map RegRow.acc = some .rc) :
    s.regRead m a = some (if s.hidden (canonReg a) then (s, 0#32) else (s.clr (canonReg a), s.rd (canonReg a))) := by
  obtain ⟨r, hrow, hrc⟩ := Option.map_eq_some_iff.mp hacc
  unfold State.regRead
  cases hh : s.hidden (canonReg a) <;> simp [hpage, hrow, hrc, hh]

/-- Settles O1: the write by `State.regWrite_plain`, the two reads by `State.regRead_rc`. -/
theorem registerAccessByCode : Obligations.RegisterAccessByCode := by
  refine ⟨fun m a v r s hopen hpage hrow hacc hplain => ?_, fun m a s hopen hpage hacc hshown => ?_,
    fun m a s hopen hpage hacc hhidden => ?_⟩
  · show execRegisterWrite m a v s = _
    simp [execRegisterWrite, hopen, State.regWrite_plain hpage hrow hacc hplain]
  · show execRcRead m a s = _
    simp [execRcRead, hopen, State.regRead_rc hpage hacc, hshown]
  · show execRcRead m a s = _
    simp [execRcRead, hopen, State.regRead_rc hpage hacc, hhidden]

/-! ### Reset -/

/-- Settles O48: the form by `wf_reset`; each reset value is looked up in the closed table `resetRegs`. -/
theorem resetStandsInFormAndHoldsItsValues : Obligations.ResetStandsInFormAndHoldsItsValues :=
  ⟨wf_reset, rfl, rfl, by decide +kernel⟩

end Sys2Proof.Machine

/-! Proofs of the statements of the way from samples to visibilities: egress frames and folios. -/

namespace Sys2Proof.Machine

/-! ### Egress frames -/

/-- A lane that carries a frame gives it as an output, and its characters with one pair after it, and takes what is next (R20, R278). -/
theorem execEgressFrameSent_carrying {n : Fin 192} {f : EgressFrame} {s : State} (htx : (s.lane n.val).tx = some f) :
    execEgressFrameSent n s = .next (
      let bytes := f.bytes (s.fget (F.LANE_STATE_UIP n.val))
      let s1 := ((s.laneMod n.val (fun l => { l with tx := none })).emit (.frame n.val bytes f.errs)).send n.val (frameChars bytes f.errs) false
      let s2 := ((s1.count (R.LANE_TX_FRAMES n.val)).count (sentCounter f.typ)).laneTake n.val
      if (s2.lane n.val).tx.isNone then s2.send n.val pairChars true else s2) := by
  rw [execEgressFrameSent, htx]

/-- A free lane takes the ready VBEAM frame chosen for it (R310). -/
theorem execVbeamFrameStart_free {n : Fin 192} {v : VFrame} {s : State} (hfree : (s.lane n.val).tx.isSome = false)
    (hok : s.egressOk n.val = true) (hv : s.vbeamFor n.val = some v) :
    execVbeamFrameStart n s = .next ((s.startFrame n.val v.frame).beamMod (fun b => { b with vready := dropFirst (· == v) b.vready })) := by
  have hmay : ¬ ((s.lane n.val).tx.isSome || !s.egressOk n.val) = true := by simp [hfree, hok]
  rw [execVbeamFrameStart, if_neg hmay, hv]

/-- A ready VBEAM frame that every lane of its stream would start too late is dropped (R310). -/
theorem execVdrop_late {v : VFrame} {s : State}
    (hlate : s.beam.vready.find? (fun v => (s.laneSet' v.frame.stream 0x40).all (fun n => !s.inLimit n v.deadline)) = some v) :
    execVdrop s = .next (((s.beamMod (fun b => { b with vready := dropFirst (· == v) b.vready })).count R.BEAM_VDROP).raise F.BEAM_EVENT_VDROP) := by
  rw [execVdrop, hlate]

/-- Settles O10: each command, at the case of its meaning that the conditions choose. -/
theorem egressFramesLeaveByTheirStream : Obligations.EgressFramesLeaveByTheirStream :=
  ⟨fun _ _ _ htx => execEgressFrameSent_carrying htx, fun _ _ _ hfree hok hv => execVbeamFrameStart_free hfree hok hv,
    fun _ _ hlate => execVdrop_late hlate⟩

/-! ### Folios -/

/-- What DRAIN_START of integration `i` asks before it looks for a slot (R261). -/
structure DrainReady (s : State) (i : Integ) : Prop where
  oldest : s.accum.integs.find? (fun i => i.e.isSome && i.drain.isNone) = some i
  issued : i.drainIssued = true
  retired : s.array.drains.any (fun d => d.2 == i.id) = false
  spilled : s.spillsLeft i.id = false
  idle : s.fbit F.ACCUM_STATUS_DRAINING = false

theorem DrainReady.not_waiting {s : State} {i : Integ} (h : DrainReady s i) :
    ¬ (!i.drainIssued || s.array.drains.any (fun d => d.2 == i.id) || s.spillsLeft i.id || s.fbit F.ACCUM_STATUS_DRAINING) = true := by
  rw [h.issued, h.retired, h.spilled, h.idle]
  decide

/-- DRAIN_START of a ready integration with staging slot `k` free (R262). -/
theorem execDrainStart_placed {s : State} {i : Integ} {k : Nat} (h : DrainReady s i) (hfree : s.freeStage (s.under i) = some k) :
    execDrainStart s = .next (
      let u := ((s.wr64 (R.ACCUM_STAGE_ADDR_LO k) (R.ACCUM_STAGE_ADDR_HI k) (stageOff (s.under i) k)).accMod (fun a =>
        { a with stageSpan := tset 0 a.stageSpan k (slotUnits (s.under i)) })).integMod i.id (fun j => { j with drain := some (k, s.nowNs) })
      (((u.fput (F.ACCUM_STAGE_STATE_WRITING k) 1).fput F.ACCUM_STATUS_DRAINING 1).fput F.ACCUM_STATUS_DRAIN_BANK i.bank).raise
        F.ACCUM_EVENT_DRAIN_START) := by
  simp only [execDrainStart, h.oldest, if_neg h.not_waiting, hfree]

/-- DRAIN_START of a ready integration with no staging slot free: its folio is lost (R24). -/
theorem execDrainStart_lost {s : State} {i : Integ} (h : DrainReady s i) (hfull : s.freeStage (s.under i) = none) :
    execDrainStart s = .next ((((s.count R.ACCUM_LOST).raise F.ACCUM_EVENT_FOLIO_LOST).accMod (fun a =>
      { a with lostSince := a.lostSince + 1 })).releaseBank i.id) := by
  simp only [execDrainStart, h.oldest, if_neg h.not_waiting, hfull]

/-- The writes by which FOLIO_DONE closes a folio of `len` bytes from SI `si` in slot `k`, on the state `w` in which its bytes and its
errors stand: `st` is the slot's state word, `short` whether the integration was short, `f` the routes that begin. -/
def State.closeFolio (w : State) (k len si st : Nat) (short : Bool) (f : AccumSt → AccumSt) : State :=
  (((((((w.wr64 (R.ACCUM_STAGE_LEN_LO k) (R.ACCUM_STAGE_LEN_HI k) len).wr64 (R.ACCUM_STAGE_SI_LO k) (R.ACCUM_STAGE_SI_HI k) si).wrN
    (R.ACCUM_STAGE_STATE k) st).count R.ACCUM_FOLIOS).raise F.ACCUM_EVENT_FOLIO_DONE).raiseIf short F.ACCUM_EVENT_SHORT).accMod f).fput
    F.ACCUM_STATUS_DRAINING 0

/-- FOLIO_DONE ends with `State.closeFolio`, and then releases the bank, shows the slots and lets free lanes take what waits (R262, R277). -/
theorem execFolioDone_closes {s : State} {i : Integ} {k ns e : Nat} (hdraining : s.accum.integs.find? (fun i => i.drain.isSome) = some i)
    (hdrain : i.drain = some (k, ns)) (he : i.e = some e) :
    ∃ (w : State) (st : Nat) (short : Bool) (f : AccumSt → AccumSt), execFolioDone s =
      .next (((w.closeFolio k (s.folio i e ns).1.length i.a st short f).releaseBank i.id).showStages.kick) := by
  simp only [execFolioDone, hdraining, hdrain, he]
  exact ⟨_, _, _, _, rfl⟩

section CloseFolio
variable (w : State) {k : Nat} (len si st : Nat) (short : Bool) (f : AccumSt → AccumSt)

/-- A register of a staging slot other than its state word holds what the writes of length and start SI left in it. -/
theorem State.closeFolio_rd_slot {a : Nat} (hslot : R.ACCUM_STAGE_STATE 0 ≤ a) (hstate : a ≠ R.ACCUM_STAGE_STATE k) :
    (w.closeFolio k len si st short f).rd a
      = ((w.wr64 (R.ACCUM_STAGE_LEN_LO k) (R.ACCUM_STAGE_LEN_HI k) len).wr64 (R.ACCUM_STAGE_SI_LO k) (R.ACCUM_STAGE_SI_HI k) si).rd a := by
  have hbelow : ∀ {b}, b < R.ACCUM_STAGE_STATE 0 → a ≠ b := fun hb => (hb.trans_le hslot).ne'
  rw [State.closeFolio, State.rd_fput, if_neg (hbelow (by decide)), State.accMod_rd, State.rd_raiseIf_other _ _ _ (hbelow (by decide)),
    State.rd_raise, if_neg (hbelow (by decide)), State.rd_count, if_neg (hbelow (by decide)), State.rd_wrN, if_neg hstate]

theorem State.closeFolio_not_draining : (w.closeFolio k len si st short f).fbit F.ACCUM_STATUS_DRAINING = false := by
  rw [State.fbit, State.closeFolio, State.fget_fput_same _ _ _ (by decide)]
  rfl

theorem State.closeFolio_folioDone : (w.closeFolio k len si st short f).fbit F.ACCUM_EVENT_FOLIO_DONE = true := by
  rw [State.fbit, State.closeFolio, State.fget_fput_other _ _ _ _ (by decide), State.accMod_fget, State.fget_raiseIf_other _ _ _ _ (by decide),
    State.fget_raise_same _ _ (by decide)]
  rfl

theorem State.closeFolio_len : (w.closeFolio k len si st short f).rdN (R.ACCUM_STAGE_LEN_LO k) = len % 2 ^ 32 := by
  rw [State.rdN, State.closeFolio_rd_slot _ _ _ _ _ _ (by unfold R.ACCUM_STAGE_STATE R.ACCUM_STAGE_LEN_LO; omega) (by simp),
    State.rd_wr64, if_neg (by simp), if_neg (by simp), State.rd_wr64, if_neg (by simp), if_pos rfl, BitVec.toNat_ofNat]

theorem State.closeFolio_si : (w.closeFolio k len si st short f).rdN (R.ACCUM_STAGE_SI_LO k) = si % 2 ^ 32 := by
  rw [State.rdN, State.closeFolio_rd_slot _ _ _ _ _ _ (by unfold R.ACCUM_STAGE_STATE R.ACCUM_STAGE_SI_LO; omega) (by simp),
    State.rd_wr64, if_neg (by simp), if_pos rfl, BitVec.toNat_ofNat]

end CloseFolio

/-- FOLIO_EGRESS_DONE of a slot that its egress route holds, none of whose frames is left (R277). -/
theorem execFolioEgressDone_sent {k : Fin 8} {s : State} (hheld : s.accum.holdEgress.contains k.val = true)
    (hsending : s.accum.sending.any (fun x => x.1 == k.val) = false)
    (hlanes : s.lanes.any (fun e => match e.2.tx with | some f => f.typ == 0x50 && f.slot == k.val | none => false) = false) :
    execFolioEgressDone k s = .next (((((s.accMod (fun a => { a with holdEgress := a.holdEgress.filter (fun x => x != k.val) })).fput
      (F.ACCUM_STAGE_STATE_SENDING k.val) 0).fput (F.ACCUM_STAGE_STATE_EGRESS_DONE k.val) 1).raise F.ACCUM_EVENT_EGRESS_DONE).stageCheck k.val) := by
  have hmay : ¬ (!s.accum.holdEgress.contains k.val || (s.accum.sending.any (fun x => x.1 == k.val) || s.lanes.any (fun e =>
      match e.2.tx with | some f => f.typ == 0x50 && f.slot == k.val | none => false))) = true := by
    rw [hheld, hsending, hlanes]
    decide
  exact congrArg Host.Outcome.next (if_neg hmay)

/-- STAGE_RELEASE of a slot whose folio the host holds (R277). -/
theorem execStageRelease_held {k : Fin 8} {s : State} (hheld : s.accum.holdPcie.contains k.val = true) :
    execStageRelease k s = .next ((s.accMod (fun a => { a with holdPcie := a.holdPcie.filter (fun x => x != k.val) })).stageCheck k.val) :=
  congrArg Host.Outcome.next (if_pos hheld)

/-- Settles O16: DRAIN_START by whether a slot is free, FOLIO_DONE by what `State.closeFolio` leaves. -/
theorem foliosDrainAndRelease : Obligations.FoliosDrainAndRelease := by
  refine ⟨fun i k s hold hissued hretired hspilled hidle hfree => ?_, fun i s hold hissued hretired hspilled hidle hfull => ?_,
    fun i k ns e s hdraining hdrain he _ => ?_, fun k s hheld hsending hlanes => ?_, fun k s hheld => ?_⟩
  · exact ⟨_, execDrainStart_placed ⟨hold, hissued, hretired, hspilled, hidle⟩ hfree, _, rfl, rfl⟩
  · exact execDrainStart_lost ⟨hold, hissued, hretired, hspilled, hidle⟩ hfull
  · obtain ⟨w, st, short, f, hdone⟩ := execFolioDone_closes hdraining hdrain he
    exact ⟨_, hdone, _, rfl, State.closeFolio_not_draining .., State.closeFolio_len .., State.closeFolio_si .., State.closeFolio_folioDone ..⟩
  · exact execFolioEgressDone_sent hheld hsending hlanes
  · exact execStageRelease_held hheld

end Sys2Proof.Machine

/-! Proofs of the statements of time and the spectrum index: what the commands of time, chain, control and management port change,
what they leave, and the step that runs them. -/

namespace Sys2Proof.Machine

/-! ### A state within a mask -/

/-- The state that has of `t` the fields that a mask lets change, and of `s` the others. -/
def Mask.overlay (k : Mask) (s t : State) : State where
  regs := bif k.regs then t.regs else s.regs
  mem := bif k.mem then t.mem else s.mem
  carrelEra := bif k.carrelEra then t.carrelEra else s.carrelEra
  poison := bif k.poison then t.poison else s.poison
  oldRegs := bif k.oldRegs then t.oldRegs else s.oldRegs
  hiLatch := bif k.hiLatch then t.hiLatch else s.hiLatch
  accSi := bif k.accSi then t.accSi else s.accSi
  out := bif k.out then t.out else s.out
  fresh := bif k.fresh then t.fresh else s.fresh
  lanes := bif k.lanes then t.lanes else s.lanes
  quireNext := bif k.quireNext then t.quireNext else s.quireNext
  egress := bif k.egress then t.egress else s.egress
  ingest := bif k.ingest then t.ingest else s.ingest
  time := bif k.time then t.time else s.time
  sheds := bif k.sheds then t.sheds else s.sheds
  array := bif k.array then t.array else s.array
  accum := bif k.accum then t.accum else s.accum
  beam := bif k.beam then t.beam else s.beam
  cat := bif k.cat then t.cat else s.cat
  chain := bif k.chain then t.chain else s.chain
  snap := bif k.snap then t.snap else s.snap
  hbm := bif k.hbm then t.hbm else s.hbm
  power := bif k.power then t.power else s.power
  matrix := bif k.matrix then t.matrix else s.matrix
  dma := bif k.dma then t.dma else s.dma
  lastOwner := bif k.lastOwner then t.lastOwner else s.lastOwner
  mace := bif k.mace then t.mace else s.mace
  irq := bif k.irq then t.irq else s.irq
  boot := bif k.boot then t.boot else s.boot
  host := bif k.host then t.host else s.host
  tap := bif k.tap then t.tap else s.tap
  pending := s.pending

theorem Kept.eq_cond {α : Type} {b : Bool} {x y : α} (h : Kept b x y) : x = bif b then x else y := by
  cases b with
  | false => exact h.resolve_left (by decide)
  | true => rfl

/-- A state within a mask of `s` is `s` with the mask's fields put in. -/
theorem Within.eq_overlay {k : Mask} {s t : State} (h : Within k s t) : t = k.overlay s t := by
  rw [Mask.overlay, ← h.regs.eq_cond, ← h.mem.eq_cond, ← h.carrelEra.eq_cond, ← h.poison.eq_cond, ← h.oldRegs.eq_cond,
    ← h.hiLatch.eq_cond, ← h.accSi.eq_cond, ← h.out.eq_cond, ← h.fresh.eq_cond, ← h.lanes.eq_cond, ← h.quireNext.eq_cond,
    ← h.egress.eq_cond, ← h.ingest.eq_cond, ← h.time.eq_cond, ← h.sheds.eq_cond, ← h.array.eq_cond, ← h.accum.eq_cond,
    ← h.beam.eq_cond, ← h.cat.eq_cond, ← h.chain.eq_cond, ← h.snap.eq_cond, ← h.hbm.eq_cond, ← h.power.eq_cond,
    ← h.matrix.eq_cond, ← h.dma.eq_cond, ← h.lastOwner.eq_cond, ← h.mace.eq_cond, ← h.irq.eq_cond, ← h.boot.eq_cond,
    ← h.host.eq_cond, ← h.tap.eq_cond, ← h.pending]

/-- Where the mask leaves memory out, no byte of it changes. -/
theorem Within.memKept {k : Mask} {s t : State} (h : Within k s t) (hmem : k.mem = false) (hera : k.carrelEra = false) : MemKept s t :=
  memKept_of (h.mem.resolve_left (by simp [hmem])) (h.carrelEra.resolve_left (by simp [hera]))

/-! ### The masks of the families -/

/-- A mask that names a field lets it change, which is what the laws of each command ask of the masks below. -/
theorem allowed_true : Allowed true := ⟨rfl⟩

/-- Commands of time sources, device time and its outputs change these fields and no others. -/
theorem exec_within_time {c : Instr} (s : State) (h : family c = .time) :
    WithinO { regs := true, out := true, fresh := true, time := true } s (exec c s) := by
  have := allowed_true
  cases c with
  | timeNowRead => exact execTimeNowRead_within (Within.rfl' s)
  | siNowRead => exact execSiNowRead_within (Within.rfl' s)
  | siExpectRead => exact execSiExpectRead_within (Within.rfl' s)
  | slewEnd => exact execSlewEnd_within (Within.rfl' s)
  | reacquire => exact execReacquire_within (Within.rfl' s)
  | nextSecWrite v => exact execNextSecWrite_within (Within.rfl' s) v
  | ppsEdge n edge => exact execPpsEdge_within (Within.rfl' s) n edge
  | vrefOffset v => exact execVrefOffset_within (Within.rfl' s) v
  | sourceClockLoss n => exact execSourceClockLoss_within (Within.rfl' s) n
  | ppsTimeout n => exact execPpsTimeout_within (Within.rfl' s) n
  | vrefTimeout n => exact execVrefTimeout_within (Within.rfl' s) n
  | qualGain n => exact execQualGain_within (Within.rfl' s) n
  | qualWindowEnd n => exact execQualWindowEnd_within (Within.rfl' s) n
  | revertWait => exact execRevertWait_within (Within.rfl' s)
  | frequencyLockHeld => exact execFrequencyLockHeld_within (Within.rfl' s)
  | acqTimeout => exact execAcqTimeout_within (Within.rfl' s)
  | holdLimit => exact execHoldLimit_within (Within.rfl' s)
  | ppsOutRise => exact execPpsOutRise_within (Within.rfl' s)
  | ppsOutFall => exact execPpsOutFall_within (Within.rfl' s)
  | _ => cases h

/-- Messages and commands of the Stack chain change these fields and no others. -/
theorem exec_within_chain {c : Instr} (s : State) (h : family c = .chain) :
    WithinO { regs := true, out := true, fresh := true, lanes := true, time := true, accum := true, cat := true, chain := true, snap := true }
      s (exec c s) := by
  have := allowed_true
  cases c with
  | chainOffset v => exact execChainOffset_within (Within.rfl' s) v
  | helloSend p => exact execHelloSend_within (Within.rfl' s) p
  | hello p b => exact execHello_within (Within.rfl' s) p b
  | enum b => exact execEnum_within (Within.rfl' s) b
  | enumEnd b => exact execEnumEnd_within (Within.rfl' s) b
  | enumTimeout => exact execEnumTimeout_within (Within.rfl' s)
  | versionSet b => exact execVersionSet_within (Within.rfl' s) b
  | chainEnum => exact execChainEnum_within (Within.rfl' s)
  | chainForce => exact execChainForce_within (Within.rfl' s)
  | clearAddr => exact execClearAddr_within (Within.rfl' s)
  | sync pos b => exact execSync_within (Within.rfl' s) pos b
  | syncFu b => exact execSyncFu_within (Within.rfl' s) b
  | dreq pos b => exact execDreq_within (Within.rfl' s) pos b
  | dresp b => exact execDresp_within (Within.rfl' s) b
  | stampSend pos => exact execStampSend_within (Within.rfl' s) pos
  | txqSend p => exact execTxqSend_within (Within.rfl' s) p
  | rxqPop => exact execRxqPop_within (Within.rfl' s)
  | chainAccede modes => exact execChainAccede_within (Within.rfl' s) modes
  | chainSnap modes => exact execChainSnap_within (Within.rfl' s) modes
  | chainCancel modes => exact execChainCancel_within (Within.rfl' s) modes
  | chainRepeat => exact execChainRepeat_within (Within.rfl' s)
  | accede b => exact execAccede_within (Within.rfl' s) b
  | snap b => exact execSnap_within (Within.rfl' s) b
  | chainCancelReceive b => exact execChainCancelReceive_within (Within.rfl' s) b
  | report b => exact execReport_within (Within.rfl' s) b
  | cmdTimeout => exact execCmdTimeout_within (Within.rfl' s)
  | forwardedMessage p b => exact execForwardedMessage_within (Within.rfl' s) p b
  | _ => cases h

/-- Commands of images, their checks and stores change these fields and no others. -/
theorem exec_within_catalogue {c : Instr} (s : State) (h : family c = .catalogue) :
    WithinO { regs := true, fresh := true, cat := true } s (exec c s) := by
  have := allowed_true
  cases c with
  | rwaWrite r v => exact execRwaWrite_within (Within.rfl' s) r v
  | load => exact execLoad_within (Within.rfl' s)
  | loadComplete ok => exact execLoadComplete_within (Within.rfl' s) ok
  | verify => exact execVerify_within (Within.rfl' s)
  | verifyComplete => exact execVerifyComplete_within (Within.rfl' s)
  | store => exact execStore_within (Within.rfl' s)
  | storeComplete readBack => exact execStoreComplete_within (Within.rfl' s) readBack
  | setBoot => exact execSetBoot_within (Within.rfl' s)
  | noBoot => exact execNoBoot_within (Within.rfl' s)
  | schedule => exact execSchedule_within (Within.rfl' s)
  | cancel => exact execCancel_within (Within.rfl' s)
  | clear => exact execClear_within (Within.rfl' s)
  | _ => cases h

/-- The memory controller's commands change these fields and no others. -/
theorem exec_within_memory {c : Instr} (s : State) (h : family c = .memory) :
    WithinO { regs := true, mem := true, poison := true, out := true, fresh := true, hbm := true } s (exec c s) := by
  have := allowed_true
  cases c with
  | mapApply => exact execMapApply_within (Within.rfl' s)
  | initialisingScrubDone => exact execInitialisingScrubDone_within (Within.rfl' s)
  | hbmRequest cls src tag hint wr off data => exact execHbmRequest_within (Within.rfl' s) cls src tag hint wr off data
  | hbmRequestComplete k fault => exact execHbmRequestComplete_within (Within.rfl' s) k fault
  | hbmAgePromote k => exact execHbmAgePromote_within (Within.rfl' s) k
  | pageTimeout pc bank => exact execPageTimeout_within (Within.rfl' s) pc bank
  | refreshDue pc bank put => exact execRefreshDue_within (Within.rfl' s) pc bank put
  | scrubPeriod => exact execScrubPeriod_within (Within.rfl' s)
  | scrubNow => exact execScrubNow_within (Within.rfl' s)
  | scrubDone fixed bad => exact execScrubDone_within (Within.rfl' s) fixed bad
  | rateChange v => exact execRateChange_within (Within.rfl' s) v
  | rateChanged => exact execRateChanged_within (Within.rfl' s)
  | trainingPhaseDone pc pass rfm moved => exact execTrainingPhaseDone_within (Within.rfl' s) pc pass rfm moved
  | _ => cases h

/-- Rounds of the power manager and temperatures change these fields and no others. -/
theorem exec_within_throttle {c : Instr} (s : State) (h : family c = .throttle) :
    WithinO { regs := true, out := true, fresh := true, sheds := true, cat := true, power := true } s (exec c s) := by
  have := allowed_true
  cases c with
  | hbmTemperatureRead t0 t1 => exact execHbmTemperatureRead_within (Within.rfl' s) t0 t1
  | slowRound diodes mv iout est avs => exact execSlowRound_within (Within.rfl' s) diodes mv iout est avs
  | fastRound diodes ps => exact execFastRound_within (Within.rfl' s) diodes ps
  | pmAlert bad => exact execPmAlert_within (Within.rfl' s) bad
  | _ => cases h

/-- Commands of snapshots change these fields and no others. -/
theorem exec_within_snapshot {c : Instr} (s : State) (h : family c = .snapshot) :
    WithinO { regs := true, mem := true, poison := true, out := true, fresh := true, snap := true } s (exec c s) := by
  have := allowed_true
  cases c with
  | snapshotRequest next => exact execSnapshotRequest_within (Within.rfl' s) next
  | snapshotLatch b => exact execSnapshotLatch_within (Within.rfl' s) b
  | snapDone => exact execSnapDone_within (Within.rfl' s)
  | _ => cases h

/-- Commands of the test access port change these fields and no others. -/
theorem exec_within_test {c : Instr} (s : State) (h : family c = .test) :
    WithinO { out := true, tap := true } s (exec c s) := by
  have := allowed_true
  cases c with
  | testReset => exact execTestReset_within (Within.rfl' s)
  | bypassInstruction tdi => exact execBypassInstruction_within (Within.rfl' s) tdi
  | idcode tdi => exact execIdcode_within (Within.rfl' s) tdi
  | samplePreload pins tdi => exact execSamplePreload_within (Within.rfl' s) pins tdi
  | extest pins tdi => exact execExtest_within (Within.rfl' s) pins tdi
  | clamp tdi => exact execClamp_within (Within.rfl' s) tdi
  | highz tdi => exact execHighz_within (Within.rfl' s) tdi
  | extestPulse pins tdi => exact execExtestPulse_within (Within.rfl' s) pins tdi
  | extestTrain pins tdi => exact execExtestTrain_within (Within.rfl' s) pins tdi
  | bootRead tdi => exact execBootRead_within (Within.rfl' s) tdi
  | _ => cases h

/-- Settles O58: every command of a family stays within the family's mask. -/
theorem timeChainAndControlCommandsKeepTheRest : Obligations.TimeChainAndControlCommandsKeepTheRest := by
  intro c s
  obtain ⟨t, ht⟩ := exec_completes c s
  refine ⟨t, ht, fun hf => ?_, fun hf => ?_, fun hf => ?_, fun hf => ?_, fun hf => ?_, fun hf => ?_, fun hf => ?_⟩
  · have hw := exec_within_time s hf t ht
    exact ⟨hw.eq_overlay, hw.memKept rfl rfl⟩
  · have hw := exec_within_chain s hf t ht
    exact ⟨hw.eq_overlay, hw.memKept rfl rfl⟩
  · have hw := exec_within_catalogue s hf t ht
    exact ⟨hw.eq_overlay, hw.memKept rfl rfl⟩
  · exact (exec_within_memory s hf t ht).eq_overlay
  · have hw := exec_within_throttle s hf t ht
    exact ⟨hw.eq_overlay, hw.memKept rfl rfl⟩
  · exact (exec_within_snapshot s hf t ht).eq_overlay
  · have hw := exec_within_test s hf t ht
    exact ⟨hw.eq_overlay, hw.memKept rfl rfl⟩

/-! ### The step -/

/-- Settles O47: `step` takes the case of the queue that is given. -/
theorem stepRunsTheFrontCommand : Obligations.StepRunsTheFrontCommand := by
  refine ⟨fun c l s => rfl, fun s hempty => ?_⟩
  unfold step
  rw [hempty]

/-! ### Reads of whole values -/

theorem State.rdN_wrN_same (s : State) (a n : Nat) : (s.wrN a n).rdN a = n % 2 ^ 32 := by
  rw [State.rdN, State.rd_wrN, if_pos rfl, BitVec.toNat_ofNat]

theorem State.rdN_wrN_other (s : State) {a b : Nat} (n : Nat) (h : b ≠ a) : (s.wrN a n).rdN b = s.rdN b := by
  rw [State.rdN, State.rd_wrN, if_neg h, State.rdN]

/-- A 64-bit value held in two registers reads back. -/
theorem State.rd64_wr64 (s : State) {lo hi n : Nat} (hdiff : lo ≠ hi) (hn : n < 2 ^ 64) : (s.wr64 lo hi n).rd64 lo hi = n := by
  rw [State.rd64, State.wr64, State.rdN_wrN_other _ _ hdiff, State.rdN_wrN_same, State.rdN_wrN_same]
  omega

theorem State.siExpect_lt (s : State) : s.siExpect < 2 ^ 64 := by
  unfold State.siExpect
  dsimp only
  split
  · decide
  · split
    · decide
    · exact (Nat.min_le_left ..).trans_lt (by decide)

theorem State.timeNow_high_lt (s : State) : s.time.now.toNat / 2 ^ 64 < 2 ^ 32 := by
  have := s.time.now.isLt
  omega

/-- A latched pair reads back whole, its low word goes out, and no register but the pair changes. -/
theorem State.latchPair_reads (s : State) {lo hi n : Nat} (hdiff : lo ≠ hi) (hn : n < 2 ^ 64) :
    let t := (s.wr64 lo hi n).emit (.read lo (n % 2 ^ 32))
    t.rd64 lo hi = n ∧ t.out = s.out ++ [.read lo (n % 2 ^ 32)] ∧ t = { s with regs := t.regs, out := t.out } ∧ RegsKept s t [lo, hi] :=
  ⟨State.rd64_wr64 s hdiff hn, rfl, rfl, ((RegsKept.refl s _).wr64 (by simp) (by simp)).emit⟩

/-- Settles O2: device time word by word, the two indices as latched pairs. -/
theorem timeReadsLatchWholeValue : Obligations.TimeReadsLatchWholeValue := by
  refine ⟨fun s => ⟨_, rfl, ?_, ?_, ?_, rfl, rfl, ?_⟩, fun s => ⟨_, rfl, State.latchPair_reads s (by decide) s.time.siNow.isLt⟩,
    fun s => ⟨_, rfl, State.latchPair_reads s (by decide) s.siExpect_lt⟩⟩
  · rw [State.emit_rdN, State.rdN_wrN_other _ _ (by decide), State.rdN_wrN_other _ _ (by decide), State.rdN_wrN_same]
  · rw [State.emit_rdN, State.rdN_wrN_other _ _ (by decide), State.rdN_wrN_same, Nat.mod_eq_of_lt s.timeNow_high_lt]
  · rw [State.emit_rdN, State.rdN_wrN_same]
  · exact ((((RegsKept.refl s _).wrN (by simp)).wrN (by simp)).wrN (by simp)).emit

/-! ### The steps of the time unit -/

/-- With no slew TIME.INCR is 4.0 ns (R46). -/
theorem State.setIncr_zero (s : State) : s.setIncr 0 = (s.wr R.TIME_INCR_FRAC 0#32).wr R.TIME_INCR_INT 4#32 := by
  have hn : ((2 * (4 * 2 ^ 32 * (1000000000 + 0)) + 1000000000) / 2000000000 : Int).toNat = 4 * 2 ^ 32 := rfl
  have hfrac : BitVec.ofNat 32 (4 * 2 ^ 32) = 0#32 := by decide
  have hint : BitVec.ofNat 32 (4 * 2 ^ 32 / 2 ^ 32) = 4#32 := by decide
  rw [State.setIncr, hn, State.wrN, State.wrN, hfrac, hint]

/-- Ending a slew changes TIME.INCR and the bit SLEWING alone among the registers (R46). -/
theorem State.slewStop_rd (s : State) {b : Nat} (hint : b ≠ R.TIME_INCR_INT) (hfrac : b ≠ R.TIME_INCR_FRAC) (hstate : b ≠ R.TIME_STATE) :
    s.slewStop.rd b = s.rd b := by
  rw [State.slewStop, State.setIncr_zero, State.rd_fput, if_neg hstate, State.rd_wr_other _ _ hint, State.rd_wr_other _ _ hfrac]
  rfl

theorem State.slewStop_not_slewing (s : State) : s.slewStop.fbit F.TIME_STATE_SLEWING = false := by
  rw [State.fbit, State.slewStop, State.fget_fput_same _ _ _ (by decide)]
  rfl

theorem State.slewStop_incrInt (s : State) : s.slewStop.rd R.TIME_INCR_INT = 4#32 := by
  rw [State.slewStop, State.setIncr_zero, State.rd_fput, if_neg (by decide), State.rd_wr_same]

theorem State.slewStop_incrFrac (s : State) : s.slewStop.rd R.TIME_INCR_FRAC = 0#32 := by
  rw [State.slewStop, State.setIncr_zero, State.rd_fput, if_neg (by decide), State.rd_wr_other _ _ (by decide), State.rd_wr_same]

/-- A field of TIME.STATE apart from SLEWING reads the same after a slew has ended. -/
theorem State.slewStop_fget_state (s : State) {g : Field} (hreg : g.reg = R.TIME_STATE)
    (hapart : g.lo + g.width ≤ F.TIME_STATE_SLEWING.lo ∨ F.TIME_STATE_SLEWING.lo + F.TIME_STATE_SLEWING.width ≤ g.lo) :
    s.slewStop.fget g = s.fget g := by
  rw [State.slewStop, State.setIncr_zero, State.fget_fput_other _ _ _ _ (.inr hapart), State.fget_wr_other _ _ _ _ (by rw [hreg]; decide),
    State.fget_wr_other _ _ _ _ (by rw [hreg]; decide)]
  rfl

theorem State.noteQuality_slew (s : State) : s.noteQuality.time.slewLeft = s.time.slewLeft ∧ s.noteQuality.time.slewPpb = s.time.slewPpb := by
  unfold State.noteQuality
  dsimp only
  split <;> exact ⟨rfl, rfl⟩

theorem RegsKept.noteQuality {s t : State} {l : List Nat} (h : RegsKept s t l) (hq : R.TIME_QUALITY ∈ l) : RegsKept s t.noteQuality l :=
  fun a ha => (State.noteQuality_rd t (ne_of_mem_of_not_mem hq ha).symm).trans (h a ha)

theorem RegsKept.timeState {s t : State} {l : List Nat} (h : RegsKept s t l) (st : Nat) (hstate : R.TIME_STATE ∈ l) (hevent : R.TIME_EVENT ∈ l)
    (hq : R.TIME_QUALITY ∈ l) : RegsKept s (t.timeState st) l :=
  fun a ha =>
    have apart {r : Nat} (hr : r ∈ l) : a ≠ r := (ne_of_mem_of_not_mem hr ha).symm
    (State.timeState_rd t st (apart hstate) (apart hevent) (apart hq)).trans (h a ha)

theorem RegsKept.slewStop {s t : State} {l : List Nat} (h : RegsKept s t l) (hint : R.TIME_INCR_INT ∈ l) (hfrac : R.TIME_INCR_FRAC ∈ l)
    (hstate : R.TIME_STATE ∈ l) : RegsKept s t.slewStop l :=
  fun a ha =>
    have apart {r : Nat} (hr : r ∈ l) : a ≠ r := (ne_of_mem_of_not_mem hr ha).symm
    (State.slewStop_rd t (apart hint) (apart hfrac) (apart hstate)).trans (h a ha)

/-! ### Commands of the time unit -/

theorem State.slewDone_over {s : State} (hslewing : s.fbit F.TIME_STATE_SLEWING = true) (hleft : s.time.slewLeft = 0) :
    s.slewDone = s.slewStop.noteQuality := by
  rw [State.slewDone, hslewing, hleft]
  rfl

/-- SLEW_END of a slew with no offset left (R46). -/
theorem execSlewEnd_over {s : State} (hslewing : s.fbit F.TIME_STATE_SLEWING = true) (hleft : s.time.slewLeft = 0) :
    execSlewEnd s = .next s.slewStop.noteQuality := congrArg Host.Outcome.next (State.slewDone_over hslewing hleft)

/-- What REACQUIRE does once it has taken its source: acquisition from its beginning, with the bit clear (R58, R71). -/
def State.acquireAnew (u : State) : State :=
  ((u.acqStart.clr R.TIME_HOLD_SECONDS).timeState 1).showSources.fput F.TIME_CTRL_REACQUIRE 0

theorem execReacquire_acquires (s : State) : ∃ u : State, execReacquire s = .next u.acquireAnew := ⟨_, rfl⟩

/-- HOLD_LIMIT in HOLDOVER with TIME.HOLD_SECONDS at the limit (R58). -/
theorem execHoldLimit_reached {s : State} (hstate : s.fget F.TIME_STATE_STATE = 3) (hlimit : s.holdLimit ≤ s.rdN R.TIME_HOLD_SECONDS) :
    execHoldLimit s = .next ((s.raise F.TIME_EVENT_HOLD_LIMIT).timeState 4) := congrArg Host.Outcome.next (if_pos ⟨hstate, hlimit⟩)

/-- ACQ_TIMEOUT in ACQUIRING with no other usable source (R58). -/
theorem execAcqTimeout_alone {s : State} (hstate : s.fget F.TIME_STATE_STATE = 1) (hnone : s.nextUsable s.activeSrc = none) :
    execAcqTimeout s = .next
      ((((s.raise F.TIME_EVENT_ACQ_TIMEOUT).acqStart).fput F.TIME_STATE_ACTIVE_VALID 0).enterFreeRun).showSources := by
  simp only [execAcqTimeout, if_pos hstate, hnone]

/-- REVERT_WAIT with a better candidate, where selection is revertive (R55). -/
theorem execRevertWait_reverts {c a : Nat} {s : State} (hcandidate : s.candidate = some c) (hactive : s.activeSrc = some a)
    (hrevertive : s.fbit F.TIME_CTRL_REVERTIVE = true) (hlower : s.slotOf c < s.slotOf a) (hawake : s.asleep = false) :
    execRevertWait s = .next (s.reselect true) := by
  rw [execRevertWait, hcandidate, hactive]
  exact congrArg Host.Outcome.next (if_pos ⟨hrevertive, hlower, hawake⟩)

/-- The registers of the sources' status lie apart from those of the time unit's state, events and seconds in holdover. -/
theorem srcStatus_apart {n : Nat} (h : n < 4) : R.TIME_STATE ≠ R.TIME_SRC_STATUS n ∧ R.TIME_EVENT ≠ R.TIME_SRC_STATUS n ∧
    R.TIME_HOLD_SECONDS ≠ R.TIME_SRC_STATUS n := by
  revert n
  decide

section TimeOutcomes
variable (u : State)

theorem State.acquireAnew_state : u.acquireAnew.fget F.TIME_STATE_STATE = 1 := by
  rw [State.acquireAnew, State.fget_fput_other _ _ _ _ (by decide), State.showSources_fget _ _ (fun n hn => (srcStatus_apart hn).1),
    State.timeState_state]

/-- After REACQUIRE the step is neither armed nor taken. -/
theorem State.acquireAnew_acq : u.acquireAnew.time.armed = false ∧ u.acquireAnew.time.stepped = false :=
  State.timeState_acq (u.acqStart.clr R.TIME_HOLD_SECONDS) 1

theorem State.acquireAnew_holdSeconds : u.acquireAnew.rd R.TIME_HOLD_SECONDS = 0#32 := by
  rw [State.acquireAnew, State.rd_fput, if_neg (by decide), State.showSources_rd _ (fun n hn => (srcStatus_apart hn).2.2),
    State.timeState_rd _ _ (by decide) (by decide) (by decide), State.rd_clr, if_pos rfl]

theorem State.freeRun_state : (u.enterFreeRun.showSources).fget F.TIME_STATE_STATE = 0 := by
  rw [State.showSources_fget _ _ (fun n hn => (srcStatus_apart hn).1), State.enterFreeRun, State.timeState_state]

theorem State.freeRun_activeValid (h : u.fbit F.TIME_STATE_ACTIVE_VALID = false) :
    (u.enterFreeRun.showSources).fbit F.TIME_STATE_ACTIVE_VALID = false := by
  rw [State.fbit, State.showSources_fget _ _ (fun n hn => (srcStatus_apart hn).1), State.enterFreeRun, State.timeState_fget _ _ _ rfl,
    State.fget_fput_other _ _ _ _ (by decide), State.slewStop_fget_state _ rfl (by decide)]
  exact h

theorem State.freeRun_acqTimeout (h : u.fbit F.TIME_EVENT_ACQ_TIMEOUT = true) :
    (u.enterFreeRun.showSources).fbit F.TIME_EVENT_ACQ_TIMEOUT = true := by
  rw [State.fbit, State.showSources_fget _ _ (fun n hn => (srcStatus_apart hn).2.1), State.enterFreeRun,
    State.timeState_event _ _ _ rfl (by decide) (by decide) rfl, State.fget_of_rd (State.slewStop_rd _ (by decide) (by decide) (by decide))]
  exact h

end TimeOutcomes

/-- Starting acquisition leaves the events as they were. -/
theorem State.acqStart_fget_event (s : State) {g : Field} (hreg : g.reg = R.TIME_EVENT) : s.acqStart.fget g = s.fget g := by
  refine State.fget_of_rd ?_
  rw [hreg, State.acqStart, State.slewStop_rd _ (by decide) (by decide) (by decide)]
  rfl

/-- Settles O3: each command at the case that its conditions choose, and what a slew's end and a time state's entry leave to read. -/
theorem timeCommandsSteer : Obligations.TimeCommandsSteer := by
  refine ⟨fun v s => rfl, fun s hslewing hleft => ?_, fun s => ?_, fun s hstate hawake => ?_, fun s hstate hlimit => ?_, fun n s => rfl,
    fun s hstate hnone => ?_,
    fun c a s hcandidate hactive hrevertive hlower hawake => execRevertWait_reverts hcandidate hactive hrevertive hlower hawake⟩
  · have := allowed_true
    have hwithin : Within { regs := true, time := true } s s.slewStop.noteQuality :=
      State.noteQuality_within (State.slewStop_within (Within.rfl' s))
    obtain ⟨hslew, hppb⟩ := State.noteQuality_slew s.slewStop
    refine ⟨_, execSlewEnd_over hslewing hleft, hslew, hppb, ?_, ?_, ?_, hwithin.eq_overlay, ?_⟩
    · rw [State.noteQuality_rd _ (by decide), State.slewStop_incrInt]
    · rw [State.noteQuality_rd _ (by decide), State.slewStop_incrFrac]
    · rw [State.fbit, State.fget_of_rd (State.noteQuality_rd _ (by decide))]
      exact s.slewStop_not_slewing
    · exact ((RegsKept.refl s _).slewStop (by simp) (by simp) (by simp)).noteQuality (by simp)
  · obtain ⟨u, hexec⟩ := execReacquire_acquires s
    obtain ⟨harmed, hstepped⟩ := u.acquireAnew_acq
    exact ⟨_, hexec, u.acquireAnew_state, harmed, hstepped, u.acquireAnew_holdSeconds, State.fget_fput_same _ _ _ (by decide)⟩
  · exact congrArg Host.Outcome.next (if_pos ⟨hstate, hawake⟩)
  · refine ⟨_, execHoldLimit_reached hstate hlimit, State.timeState_state _ _, ?_, ?_, ?_⟩
    · rw [State.fbit, State.timeState_event _ _ _ rfl (by decide) (by decide) rfl, State.fget_raise_same _ _ (by decide)]
      rfl
    · refine State.timeState_event_state _ _ ?_
      rw [State.fget_raise_other _ _ _ (by decide), hstate]
      decide
    · exact ((RegsKept.refl s _).raise (by simp)).timeState 4 (by simp) (by simp) (by simp)
  · refine ⟨_, execAcqTimeout_alone hstate hnone, State.freeRun_state _, State.freeRun_activeValid _ ?_, State.freeRun_acqTimeout _ ?_⟩
    · rw [State.fbit, State.fget_fput_same _ _ _ (by decide)]
      rfl
    · rw [State.fbit, State.fget_fput_other _ _ _ _ (by decide), State.acqStart_fget_event _ rfl, State.fget_raise_same _ _ (by decide)]
      rfl

/-! ### Samples, losses and PPS_OUT -/

/-- The edge that PPS_FALL selects gives one sample (R50, R74). -/
theorem execPpsEdge_selected {n : Fin 2} {phase : Fin 32} {fall : Bool} {s : State} (hsel : s.fbit (F.TIME_SRC_CFG_PPS_FALL n.val) = fall) :
    execPpsEdge n ⟨phase, fall⟩ s = .next (
      let edge := s.time.now.toNat + phase.val * 2 ^ 29
      let t := s.offsetSample n.val (nearestDiff (edge / 2 ^ 29) 8000000000 - 8 * s.srcDelay n.val) edge
      if fall then t else t.emit (.pulse (512 + n.val))) := by
  simp only [execPpsEdge, if_pos hsel]

/-- The other edge gives none, but a rising one drives its interrupt source (R72). -/
theorem execPpsEdge_unselected {n : Fin 2} {phase : Fin 32} {fall : Bool} {s : State} (hsel : s.fbit (F.TIME_SRC_CFG_PPS_FALL n.val) = !fall) :
    execPpsEdge n ⟨phase, fall⟩ s = .next (if fall then s else s.emit (.pulse (512 + n.val))) := by
  have hne : s.fbit (F.TIME_SRC_CFG_PPS_FALL n.val) ≠ fall := by simp [hsel]
  simp only [execPpsEdge, if_neg hne]

theorem State.lose_awake {s : State} (n : Nat) (hawake : s.asleep = false) : s.lose n = s.disqualify n true := by
  rw [State.lose, hawake]
  rfl

/-- QUAL_GAIN of a present source that is not qualified (R53). -/
theorem execQualGain_clean {n : Fin 4} {s : State} (hout : s.qualified n.val = false) (hpresent : (tget {} s.time.srcs n.val).present = true)
    (hawake : s.asleep = false) :
    execQualGain n s = .next ((((s.fput (F.TIME_SRC_STATUS_QUALIFIED n.val) 1).fput (F.TIME_SRC_STATUS_LOS n.val) 0).raise
      F.TIME_EVENT_QUAL_GAIN).showChainTime.reselect false) := by
  rw [execQualGain, hout, hpresent, hawake]
  rfl

theorem execPpsOutRise_crossed {s : State} (hdriven : s.ppsDriven = true) (hcrossed : s.ppsCrossed = true) (hlow : s.time.ppsOut = false) :
    execPpsOutRise s = .next ({ s with time := { s.time with
      ppsOut := true, ppsLeft := 250 * max 1 (s.fget F.TIME_OUT_PPS_WIDTH) } }.emit (.pulse 514)) := by
  rw [execPpsOutRise, hdriven, hcrossed, hlow]
  rfl

/-- Settles O4: each command at the case that its conditions choose. -/
theorem timeSourcesSampled : Obligations.TimeSourcesSampled :=
  ⟨fun _ _ _ _ hsel => execPpsEdge_selected hsel, fun _ _ _ _ hsel => execPpsEdge_unselected hsel, fun _ _ => rfl,
    fun _ _ hawake => congrArg Host.Outcome.next (State.lose_awake _ hawake),
    fun _ _ hawake => congrArg Host.Outcome.next (State.lose_awake _ hawake),
    fun _ _ hawake => congrArg Host.Outcome.next (State.lose_awake _ hawake), fun _ _ hout hpresent hawake => execQualGain_clean hout hpresent hawake,
    fun _ hdriven hcrossed hlow => execPpsOutRise_crossed hdriven hcrossed hlow, fun _ hended => congrArg Host.Outcome.next (if_pos hended)⟩

/-! ### Messages of the chain for firmware -/

/-- A message that passes every check on a port that is UP, of the type asked for, is acted on. -/
theorem State.takeMsg_checked {s : State} {p : Nat} {b : List Byte} {m : Msg} (f : State → Msg → State) {typ : Nat} (hup : s.portUp p = true)
    (hcheck : s.msgCheck p b = some m) (htyp : m.typ = typ) : s.takeMsg p typ b f = f s m := by
  rw [State.takeMsg, hup, hcheck]
  exact if_pos htyp

/-- TXQ_SEND of a permitted message into an empty queue: a SYNC or DREQ is held, the others leave (R413). -/
theorem execTxqSend_permitted {p : Fin 2} {b : List Byte} {s : State} (hempty : s.chain.txq = none)
    (hb : b = (List.range 8).flatMap (fun k => leBytes 4 (s.rdN (R.CHAIN_TXQ k))))
    (htyp : [0x10, 0x11, 0x12, 0x13].contains (imgN b 1 1) = true) (hlen : msgLenOk (imgN b 1 1) (imgN b 8 2) = true) :
    execTxqSend p s = .next (if imgN b 1 1 = 0x10 ∨ imgN b 1 1 = 0x12 then
      ((s.fput F.CHAIN_TXQ_CTRL_PORT p.val).chMod (fun c => { c with txq := some (p.val, b) })).fput F.CHAIN_TXQ_CTRL_FULL 1
      else (s.fput F.CHAIN_TXQ_CTRL_PORT p.val).txLeave p.val b) := by
  have hmay : ¬ (s.chain.txq.isSome || !([0x10, 0x11, 0x12, 0x13].contains (imgN b 1 1)) || !msgLenOk (imgN b 1 1) (imgN b 8 2)) = true := by
    rw [hempty, htyp, hlen]
    decide
  simp only [execTxqSend, ← hb, if_neg hmay]

/-- STAMP_SEND of the held message on a port that is UP (R395, R396). -/
theorem execStampSend_held {pos : Fin 4} {p : Nat} {b : List Byte} {s : State} (hheld : s.chain.txq = some (p, b)) (hup : s.portUp p = true)
    (hawake : ¬ (imgN b 1 1 = 0x10 ∧ s.mode = 0)) :
    execStampSend pos s = .next ((s.txLeave p b).stamp (if imgN b 1 1 = 0x10 then 1 else 3) (imgN b 16 2) pos.val) := by
  have hmay : ¬ ((if imgN b 1 1 = 0x10 then 1 else 3) = 1 ∧ s.mode = 0) := by
    simpa using hawake
  simp only [execStampSend, hheld, if_neg hmay, if_pos hup]

/-- Settles O18: the four messages by `State.takeMsg_checked`, the queues by what they hold. -/
theorem chainFirmwareMessagesQueueAndStamp : Obligations.ChainFirmwareMessagesQueueAndStamp :=
  ⟨fun _ _ _ _ hup hcheck htyp => congrArg Host.Outcome.next (State.takeMsg_checked _ hup hcheck htyp),
    fun _ _ _ hup hcheck htyp => congrArg Host.Outcome.next (State.takeMsg_checked _ hup hcheck htyp),
    fun _ _ _ _ hup hcheck htyp => congrArg Host.Outcome.next (State.takeMsg_checked _ hup hcheck htyp),
    fun _ _ _ hup hcheck htyp => congrArg Host.Outcome.next (State.takeMsg_checked _ hup hcheck htyp), fun _ => rfl,
    fun _ _ _ hempty hb htyp hlen => execTxqSend_permitted hempty hb htyp hlen,
    fun _ _ _ _ hheld hup hawake => execStampSend_held hheld hup hawake, fun _ _ => rfl⟩

/-! ### The host link and the management port -/

theorem execPcieLinkUp_untripped {speed width : Fin 3} {s : State} (hok : s.power.tripped = none) :
    execPcieLinkUp speed width s = .next ((((s.fput F.HOSTIF_STATUS_LINK_UP 1).fput F.HOSTIF_STATUS_SPEED (speed.val + 1)).fput
      F.HOSTIF_STATUS_WIDTH ([1, 4, 8].getD width.val 1)).raiseIf (!s.fbit F.HOSTIF_STATUS_LINK_UP) F.HOSTIF_EVENT_LINK) := by
  rw [execPcieLinkUp, hok]
  rfl

theorem execMgmtFrameReceive_badFcs {f : List Byte} {back : Nat} {s : State} (hup : s.mgmtUp = true) :
    execMgmtFrameReceive f ⟨false, back⟩ s = .next (s.count R.MGMT_RX_FCS) := by
  rw [execMgmtFrameReceive, hup]
  rfl

/-- A lawful frame is counted, and dropped or stored by whether the port owns the next buffer (R661, R662). -/
theorem execMgmtFrameReceive_lawful {f : List Byte} {back : Nat} {s : State} (hup : s.mgmtUp = true) (hmin : 60 ≤ f.length)
    (hmax : f.length ≤ 1518) (hpause : (beNat ((f.drop 12).take 2) == 0x8808) = false) (hdest : s.macPass (f.take 6) = true) :
    execMgmtFrameReceive f ⟨true, back⟩ s = .next (
      let a := s.rdN R.MGMT_RX_BASE / 2048 * 2048 + 2048 * (s.rdN R.MGMT_RX_NEXT % 64)
      let s1 := s.count R.MGMT_RX_FRAMES
      if !(ringAt a && bitOf (s.ldNat (a + 2) 1) 7) then (s1.count R.MGMT_RX_DROP).raise F.MGMT_EVENT_RX_DROP
      else ((s1.stBytes a ((leBytes 2 f.length ++ leBytes 1 (b2n (ptpEvent f) + 2 * b2n (vlanTagged f)) ++ [0#8] ++
        (if ptpEvent f then s.stampBytes back else List.replicate 12 0#8)) ++ f)).wrN R.MGMT_RX_NEXT
          ((s.rdN R.MGMT_RX_NEXT + 1) % 64)).raise F.MGMT_EVENT_RX) := by
  have hlawful : ¬ (f.length + 4 < 64 ∨ 1522 < f.length + 4 ∨ (beNat ((f.drop 12).take 2) == 0x8808) = true ∨
      (!s.macPass (f.take 6)) = true) := by
    rw [hpause, hdest]
    simp only [Bool.not_true, Bool.false_eq_true, or_false]
    omega
  have hcarries : ¬ (!s.mgmtUp) = true := by simp [hup]
  simp only [execMgmtFrameReceive, if_neg hcarries, if_neg hlawful]
  rfl

/-- MGMT_FRAME_SENT of a sending port, by whether it owns the next buffer (R662). -/
theorem execMgmtFrameSent_sending {s : State} (hsending : s.host.sending = true) (hup : s.mgmtUp = true) :
    execMgmtFrameSent s = .next (
      let a := s.rdN R.MGMT_TX_BASE / 2048 * 2048 + 2048 * (s.rdN R.MGMT_TX_NEXT % 32)
      let fl := s.ldNat (a + 2) 1
      if !(ringAt a && bitOf fl 7) then { s with host := { s.host with sending := false } }
      else
        let s2 := ((s.emit (.mgmt (s.ldBytes (a + 16) (min 2032 (s.ldNat a 2))))).stNat (a + 2) 1
          (if bitOf fl 2 then setBit (clearBit fl 7) 0 else clearBit fl 7)).doIf (bitOf fl 2) (fun u =>
            (u.stBytes (a + 4) (s.stampBytes (Config.freeNat s.fresh))).tick1)
        ((s2.wrN R.MGMT_TX_NEXT ((s.rdN R.MGMT_TX_NEXT + 1) % 32)).count R.MGMT_TX_FRAMES).raise F.MGMT_EVENT_TX) := by
  have hmay : ¬ (!(s.host.sending && s.mgmtUp)) = true := by simp [hsending, hup]
  exact congrArg Host.Outcome.next (if_neg hmay)

theorem execMgmtRateAlternate_tries {s : State} (hauto : s.fget F.MGMT_CTRL_RATE = 0) (hen : s.fbit F.MGMT_CTRL_EN = true)
    (hdown : s.fbit F.MGMT_STATUS_LINK = false) :
    execMgmtRateAlternate s = .next { s with host := { s.host with tryRate := 3 - s.host.tryRate } } :=
  congrArg Host.Outcome.next (if_pos ⟨hauto, hen, by simp [hdown]⟩)

theorem execMgmtLink_up {s : State} (hdown : s.fbit F.MGMT_STATUS_LINK = false) (hen : s.fbit F.MGMT_CTRL_EN = true) :
    execMgmtLink true s = .next (
      let r := if s.fget F.MGMT_CTRL_RATE = 0 then s.host.tryRate else s.fget F.MGMT_CTRL_RATE
      ((((s.fput F.MGMT_STATUS_LINK 1).fput F.MGMT_STATUS_RATE r).raise F.MGMT_EVENT_LINK).wrN R.TIME_PTP_RXCORR
        (if r = 1 then 41600 else 312000)).wrN R.TIME_PTP_TXCORR (if r = 1 then 25600 else 184000)) := by
  rw [execMgmtLink, hdown, hen]
  rfl

theorem execMgmtLink_down {s : State} (hup : s.fbit F.MGMT_STATUS_LINK = true) :
    execMgmtLink false s = .next (
      let s1 := ((s.fput F.MGMT_STATUS_LINK 0).fput F.MGMT_STATUS_RATE 0).raise F.MGMT_EVENT_LINK
      { s1 with host := { s1.host with tryRate := 1 } }) := by
  rw [execMgmtLink, hup]
  rfl

/-- Settles O31: each command at the case that its conditions choose. -/
theorem managementPortFramesAndLinks : Obligations.ManagementPortFramesAndLinks :=
  ⟨fun _ _ _ hok => execPcieLinkUp_untripped hok, fun _ _ _ hup => execMgmtFrameReceive_badFcs hup,
    fun _ _ _ hup hmin hmax hpause hdest => execMgmtFrameReceive_lawful hup hmin hmax hpause hdest, fun _ => rfl,
    fun _ hsending hup => execMgmtFrameSent_sending hsending hup, fun _ hauto hen hdown => execMgmtRateAlternate_tries hauto hen hdown,
    fun _ hdown hen => execMgmtLink_up hdown hen, fun _ hup => execMgmtLink_down hup⟩

end Sys2Proof.Machine

/-! Proofs of the statements of the ingest lanes: which fields the commands of the signal path may change, what the commands of lanes
and chain ports do in each state, and how channel blocks open, close and are released. -/

namespace Sys2Proof.Machine

/-! ### The masks of the families of the signal path -/

/-- Commands of the lanes and of the chain ports change these fields and no others. -/
theorem exec_within_port {c : Instr} (s : State) (h : family c = .port) :
    WithinO { regs := true, out := true, fresh := true, lanes := true, time := true, chain := true } s (exec c s) := by
  have := allowed_true
  cases c with
  | quirePllLoss q => exact execQuirePllLoss_within (Within.rfl' s) q
  | quirePllLock q => exact execQuirePllLock_within (Within.rfl' s) q
  | detectPulse n => exact execDetectPulse_within (Within.rfl' s) n
  | detectExit n => exact execDetectExit_within (Within.rfl' s) n
  | tsbSwitch n fom => exact execTsbSwitch_within (Within.rfl' s) n fom
  | trainDone n => exact execTrainDone_within (Within.rfl' s) n
  | trainTimeout n => exact execTrainTimeout_within (Within.rfl' s) n
  | lockTimeout n => exact execLockTimeout_within (Within.rfl' s) n
  | exchTimeout n => exact execExchTimeout_within (Within.rfl' s) n
  | trainingSequence n tsb body => exact execTrainingSequence_within (Within.rfl' s) n tsb body
  | capabilitySet n flags body crc errs => exact execCapabilitySet_within (Within.rfl' s) n flags body crc errs
  | characterReceive n g mark => exact execCharacterReceive_within (Within.rfl' s) n g mark
  | signalLoss n => exact execSignalLoss_within (Within.rfl' s) n
  | bitLockLoss n => exact execBitLockLoss_within (Within.rfl' s) n
  | frameReceive n => exact execFrameReceive_within (Within.rfl' s) n
  | runaway n => exact execRunaway_within (Within.rfl' s) n
  | elastic n => exact execElastic_within (Within.rfl' s) n
  | margin n fom => exact execMargin_within (Within.rfl' s) n fom
  | adaptStep n fom ctle t1 t2 t3 t4 t5 => exact execAdaptStep_within (Within.rfl' s) n fom ctle t1 t2 t3 t4 t5
  | laneRetrain n => exact execLaneRetrain_within (Within.rfl' s) n
  | laneTestSet n loop pat chk => exact execLaneTestSet_within (Within.rfl' s) n loop pat chk
  | simplexPhaseEnd n => exact execSimplexPhaseEnd_within (Within.rfl' s) n
  | helloTimeout p => exact execHelloTimeout_within (Within.rfl' s) p
  | chainLinkLoss p to' => exact execChainLinkLoss_within (Within.rfl' s) p to'
  | bitLock n => exact execBitLock_within (Within.rfl' s) n
  | _ => cases h

/-- Commands of samples frames, channel blocks and the generator change these fields and no others. -/
theorem exec_within_ingest {c : Instr} (s : State) (h : family c = .ingest) :
    WithinO { regs := true, mem := true, poison := true, fresh := true, lanes := true, quireNext := true, ingest := true, time := true,
              chain := true } s (exec c s) := by
  have := allowed_true
  cases c with
  | blockDeadline b => exact execBlockDeadline_within (Within.rfl' s) b
  | samplesFrame q => exact execSamplesFrame_within (Within.rfl' s) q
  | skewExpiry slot b => exact execSkewExpiry_within (Within.rfl' s) slot b
  | channelBlockRelease slot b => exact execChannelBlockRelease_within (Within.rfl' s) slot b
  | stagingFree slot b => exact execStagingFree_within (Within.rfl' s) slot b
  | monRestart => exact execMonRestart_within (Within.rfl' s)
  | monitorRestart => exact execMonitorRestart_within (Within.rfl' s)
  | generatorDelivery slot b => exact execGeneratorDelivery_within (Within.rfl' s) slot b
  | _ => cases h

/-- Commands of the correlation array change these fields and no others. -/
theorem exec_within_array {c : Instr} (s : State) (h : family c = .array) :
    WithinO { regs := true, mem := true, fresh := true, ingest := true, array := true, accum := true,
              beam := true } s (exec c s) := by
  have := allowed_true
  cases c with
  | dwellWindowReady m old => exact execDwellWindowReady_within (Within.rfl' s) m old
  | arrayWindowStart => exact execArrayWindowStart_within (Within.rfl' s)
  | roundReadStart => exact execRoundReadStart_within (Within.rfl' s)
  | orderIssue t waited => exact execOrderIssue_within (Within.rfl' s) t waited
  | tileRoundStart t waited => exact execTileRoundStart_within (Within.rfl' s) t waited
  | orderExecute t parity stalled => exact execOrderExecute_within (Within.rfl' s) t parity stalled
  | passEnd t => exact execPassEnd_within (Within.rfl' s) t
  | shadowDrain t stalled => exact execShadowDrain_within (Within.rfl' s) t stalled
  | writebackRetire t stalled => exact execWritebackRetire_within (Within.rfl' s) t stalled
  | fenceRetire t => exact execFenceRetire_within (Within.rfl' s) t
  | drainRetire t => exact execDrainRetire_within (Within.rfl' s) t
  | checkPeriod => exact execCheckPeriod_within (Within.rfl' s)
  | checkNow => exact execCheckNow_within (Within.rfl' s)
  | check t pass => exact execCheck_within (Within.rfl' s) t pass
  | parity p off => exact execParity_within (Within.rfl' s) p off
  | retireReq j bits => exact execRetireReq_within (Within.rfl' s) j bits
  | _ => cases h

/-- Commands of spills, integrations and folios change these fields and no others. -/
theorem exec_within_accum {c : Instr} (s : State) (h : family c = .accum) :
    WithinO { regs := true, mem := true, poison := true, fresh := true, lanes := true, egress := true, array := true, accum := true,
              beam := true, snap := true, hbm := true } s (exec c s) := by
  have := allowed_true
  cases c with
  | spill w waited => exact execSpill_within (Within.rfl' s) w waited
  | spillAck w => exact execSpillAck_within (Within.rfl' s) w
  | integrationBoundary x => exact execIntegrationBoundary_within (Within.rfl' s) x
  | bankTablesRewritten k => exact execBankTablesRewritten_within (Within.rfl' s) k
  | drainStart => exact execDrainStart_within (Within.rfl' s)
  | folioDone => exact execFolioDone_within (Within.rfl' s)
  | folioEgressDone k => exact execFolioEgressDone_within (Within.rfl' s) k
  | stageRelease k => exact execStageRelease_within (Within.rfl' s) k
  | _ => cases h

/-- Commands of beams and of egress frames change these fields and no others. -/
theorem exec_within_beam {c : Instr} (s : State) (h : family c = .beam) :
    WithinO { regs := true, out := true, fresh := true, lanes := true, egress := true, ingest := true, array := true, accum := true,
              beam := true } s (exec c s) := by
  have := allowed_true
  cases c with
  | egressFrameSent n => exact execEgressFrameSent_within (Within.rfl' s) n
  | beamReadout t => exact execBeamReadout_within (Within.rfl' s) t
  | late t slot b => exact execLate_within (Within.rfl' s) t slot b
  | vbeamFrameStart n => exact execVbeamFrameStart_within (Within.rfl' s) n
  | vdrop => exact execVdrop_within (Within.rfl' s)
  | dbeamSend => exact execDbeamSend_within (Within.rfl' s)
  | cand => exact execCand_within (Within.rfl' s)
  | switchRequest p => exact execSwitchRequest_within (Within.rfl' s) p
  | weightSwitch => exact execWeightSwitch_within (Within.rfl' s)
  | wloadSet p bits => exact execWloadSet_within (Within.rfl' s) p bits
  | pendingSwitch => exact execPendingSwitch_within (Within.rfl' s)
  | searchRestart => exact execSearchRestart_within (Within.rfl' s)
  | _ => cases h

/-- Settles O57: every command of a family stays within the family's mask. -/
theorem signalPathCommandsKeepTheRest : Obligations.SignalPathCommandsKeepTheRest := by
  intro c s
  obtain ⟨t, ht⟩ := exec_completes c s
  refine ⟨t, ht, fun hf => ?_, fun hf => ?_, fun hf => ?_, fun hf => ?_, fun hf => ?_⟩
  · have hw := exec_within_port s hf t ht
    exact ⟨hw.eq_overlay, hw.memKept rfl rfl⟩
  · exact (exec_within_ingest s hf t ht).eq_overlay
  · exact (exec_within_array s hf t ht).eq_overlay
  · exact (exec_within_accum s hf t ht).eq_overlay
  · have hw := exec_within_beam s hf t ht
    exact ⟨hw.eq_overlay, hw.memKept rfl rfl⟩

/-! ### Bring-up of lanes and chain ports -/

/-- The lane (0 to 191) or chain port (192, 193) that `n` names stands in bring-up state `k` (R102, R377). -/
structure State.LineAt (s : State) (n : Fin 194) (k : Nat) : Prop where
  lane : n.val < 192 → s.laneState n.val = k
  port : 192 ≤ n.val → s.portState (n.val - 192) = k

/-- The number under which the lane of a chain port is held names that port. -/
theorem portLane_eq {n : Nat} (h : 192 ≤ n) : 192 + (n - 192) = n := Nat.add_sub_cancel' h

theorem State.portOr_eq {n : Fin 194} {f g : Nat → State} {t : State} (hport : 192 ≤ n.val → f (n.val - 192) = t)
    (hlane : n.val < 192 → g n.val = t) : State.portOr n f g = t := by
  unfold State.portOr
  split
  · exact hport ‹_›
  · exact hlane (not_le.mp ‹_›)

/-- Two pairs of actions agree where they agree on the port or lane that `n` names. -/
theorem State.portOr_congr {n : Fin 194} {f f' g g' : Nat → State} (hport : 192 ≤ n.val → f (n.val - 192) = f' (n.val - 192))
    (hlane : n.val < 192 → g n.val = g' n.val) : State.portOr n f g = State.portOr n f' g' :=
  State.portOr_eq (fun hp => (hport hp).trans (if_pos hp).symm) (fun hl => (hlane hl).trans (if_neg (not_le.mpr hl)).symm)

section BringUp
variable {n : Fin 194} {s : State}

theorem execDetectPulse_detect (h : s.LineAt n 1) : execDetectPulse n s = .next (s.emit (.detectPulse n.val)) :=
  congrArg Host.Outcome.next (State.portOr_eq
    (fun hp => (if_pos (h.port hp)).trans (congrArg (fun k => s.emit (.detectPulse k)) (portLane_eq hp))) (fun hl => if_pos (h.lane hl)))

theorem execDetectExit_detect (h : s.LineAt n 1) :
    execDetectExit n s = .next (State.portOr n (fun p => s.portTrain p) (fun k => s.enterTrain k (s.startRate k) false)) :=
  congrArg Host.Outcome.next (State.portOr_congr (fun hp => if_pos (h.port hp)) (fun hl => if_pos (h.lane hl)))

/-- A lane that receives, in TRAIN with its FOM at ADAPT_MIN or above, sends TSB (R102). -/
theorem State.laneTsbSwitch_adapted {k : Nat} {fom : Byte} (hst : s.laneState k = 2) (hrx : s.fbit (F.LANE_CFG_SIMPLEX_TX k) = false)
    (hfom : s.fget (F.LANE_FOM_CFG_ADAPT_MIN k) ≤ fom.toNat) :
    s.laneTsbSwitch k fom = ((s.setFom k fom).laneMod k (fun l => { l with tsb := true })).sendSequence k true :=
  (if_pos ⟨hst, hrx⟩).trans (if_pos hfom)

theorem execTsbSwitch_train {fom : Byte} (h : s.LineAt n 2) (hrx : s.fbit (F.LANE_CFG_SIMPLEX_TX n.val) = false)
    (hfom : s.fget (F.LANE_FOM_CFG_ADAPT_MIN n.val) ≤ fom.toNat) :
    execTsbSwitch n fom s = .next (State.portOr n
      (fun p => (s.laneMod (192 + p) (fun l => { l with tsb := true, fom := fom.toNat })).portSequenceOut p true)
      (fun k => ((s.setFom k fom).laneMod k (fun l => { l with tsb := true })).sendSequence k true)) :=
  congrArg Host.Outcome.next (State.portOr_congr (fun hp => if_pos (h.port hp))
    (fun hl => State.laneTsbSwitch_adapted (h.lane hl) hrx hfom))

theorem execTrainDone_train (h : s.LineAt n 2) (htsb : (s.lane n.val).tsb = true) (hrx : s.fbit (F.LANE_CFG_SIMPLEX_TX n.val) = false) :
    execTrainDone n s = .next (State.portOr n (fun p => s.portLock p false)
      (fun k => (s.enterLock k false false).fput (F.LANE_STATE_BIT_LOCK k) 0)) :=
  congrArg Host.Outcome.next (State.portOr_congr (fun hp => if_pos ⟨h.port hp, by rw [portLane_eq hp, htsb]⟩)
    (fun hl => if_pos ⟨h.lane hl, htsb, hrx⟩))

theorem execTrainTimeout_train (h : s.LineAt n 2) (hrx : s.fbit (F.LANE_CFG_SIMPLEX_TX n.val) = false) :
    execTrainTimeout n s = .next (State.portOr n (fun p => s.portTrain p) (fun k =>
      (s.enterTrain k (s.nextRate k (s.lane k).rate) false).raiseIf (s.nextRate k (s.lane k).rate == s.startRate k)
        (F.LANE_EVENT_TRAIN_FAIL k))) :=
  congrArg Host.Outcome.next (State.portOr_congr (fun hp => if_pos (h.port hp)) (fun hl => if_pos ⟨h.lane hl, hrx⟩))

theorem execLockTimeout_lock (h : s.LineAt n 3) :
    execLockTimeout n s = .next (State.portOr n (fun p => s.portTrain p)
      (fun k => (s.enterTrain k (s.lane k).rate false).raise (F.LANE_EVENT_LOCK_FAIL k))) :=
  congrArg Host.Outcome.next (State.portOr_congr (fun hp => if_pos (h.port hp)) (fun hl => if_pos (h.lane hl)))

theorem execBitLock_lock (h : s.LineAt n 3) :
    execBitLock n s = .next (State.portOr n (fun p => s.laneMod (192 + p) (fun l => { l with bitLock := true }))
      (fun k => s.fput (F.LANE_STATE_BIT_LOCK k) 1)) :=
  congrArg Host.Outcome.next (State.portOr_congr (fun hp => if_pos (h.port hp)) (fun hl => if_pos (h.lane hl)))

/-- LOCK is among the states in which the loss of signal counts (R102, R104). -/
theorem execSignalLoss_lock (h : s.LineAt n 3) (hrx : s.fbit (F.LANE_CFG_SIMPLEX_TX n.val) = false) :
    execSignalLoss n s = .next (State.portOr n (fun p => s.portDetect p) (fun k => s.enterDetect k false)) := by
  refine congrArg Host.Outcome.next (State.portOr_congr (fun hp => if_pos ?_) (fun hl => if_pos ?_))
  · rw [h.port hp]
    decide
  · rw [h.lane hl]
    exact ⟨by decide, by decide, hrx⟩

/-- A receiver in LOCK or later that holds bit lock loses it (R104). -/
theorem execBitLockLoss_locked (hlane : n.val < 192 → 3 ≤ s.laneState n.val ∧ s.laneState n.val ≤ 5 ∧
    s.fbit (F.LANE_STATE_BIT_LOCK n.val) = true) (hport : 192 ≤ n.val → 3 ≤ s.portState (n.val - 192) ∧ (s.lane n.val).bitLock = true) :
    execBitLockLoss n s = .next (State.portOr n (fun p => s.portTrain p) (fun k => s.enterTrain k (s.lane k).rate false)) :=
  congrArg Host.Outcome.next (State.portOr_congr
    (fun hp => if_pos ⟨(hport hp).1, by rw [portLane_eq hp, (hport hp).2]⟩) (fun hl => if_pos (hlane hl)))

end BringUp

/-- Settles O5: each command in the state that the rule names, on a lane and on a chain port. -/
theorem bringUpMovesOn : Obligations.BringUpMovesOn :=
  ⟨fun _ _ hlane hport => execDetectPulse_detect ⟨hlane, hport⟩, fun _ _ hlane hport => execDetectExit_detect ⟨hlane, hport⟩,
    fun _ _ _ hlane hport hrx hfom => execTsbSwitch_train ⟨hlane, hport⟩ hrx hfom,
    fun _ _ hlane hport htsb hrx => execTrainDone_train ⟨hlane, hport⟩ htsb hrx,
    fun _ _ hlane hport hrx => execTrainTimeout_train ⟨hlane, hport⟩ hrx, fun _ _ hlane hport => execLockTimeout_lock ⟨hlane, hport⟩,
    fun _ _ hlane hport => execBitLock_lock ⟨hlane, hport⟩, fun _ _ hlane hport hrx => execSignalLoss_lock ⟨hlane, hport⟩ hrx⟩

/-! ### Reception -/

section Reception
variable {n : Fin 192} {s : State}

/-- CAPABILITY_SET of a lane in EXCHANGE that receives: what follows its invalid characters depends on whether they took the lane
out of EXCHANGE (R94, R101, R104). -/
theorem execCapabilitySet_exchange {flags : Byte} {body : List Byte} {crc : Word} {errs : List (Fin 3)} (hst : s.laneState n.val = 4)
    (hrx : s.fbit (F.LANE_CFG_SIMPLEX_TX n.val) = false) :
    execCapabilitySet n flags body crc errs s = .next (
      let s0 := (s.takeErrs n.val 32 errs).laneMod n.val (fun l => { l with tsaRun := 0, tsbRun := 0 })
      if s0.laneState n.val ≠ 4 then s0
      else if errs.isEmpty && body.length == 24 && crc32c (0xC3#8 :: flags :: body) == crc then s0.takeSet n.val flags body
      else s0.laneMod n.val (fun l => { l with lastSet := [], setRun := 0, ackRun := 0 })) := by
  have htaken : ¬ (s.fbit (F.LANE_CFG_SIMPLEX_TX n.val) || !(s.laneState n.val == 4 || s.laneState n.val == 5 ||
      (s.laneState n.val == 3 && s.fbit (F.LANE_STATE_SYM_LOCK n.val)))) = true := by
    simp [hst, hrx]
  simp only [execCapabilitySet, if_neg htaken]
  simp only [hst, ne_eq, not_true_eq_false, false_or]

theorem execFrameReceive_short {f : RxFrame} (hf : (s.lane n.val).frame = some f) (hst : s.laneState n.val = 5) (hlen : f.len < 4096) :
    execFrameReceive n s = .next (s.laneDeliver n.val f) := by
  simp only [execFrameReceive, hf, hst, ne_eq, not_true_eq_false, if_false, if_pos hlen]

theorem execRunaway_long {f : RxFrame} (hst : s.laneState n.val = 5) (hf : (s.lane n.val).frame = some f) (hlen : 4096 ≤ f.len) :
    execRunaway n s = .next ((s.closeBad n.val).count (R.LANE_RUNAWAY n.val)) := by
  simp only [execRunaway, if_pos hst, State.runaway, hf, if_pos hlen]

theorem execElastic_receiving (hrx : s.fbit (F.LANE_CFG_SIMPLEX_TX n.val) = false) (hst : 2 ≤ s.laneState n.val) :
    execElastic n s = .next (((s.closeBad n.val).count (R.LANE_ELASTIC_COUNT n.val)).raise (F.LANE_EVENT_ELASTIC n.val)) :=
  congrArg Host.Outcome.next (if_neg (by simp [hrx, not_lt.mpr hst]))

theorem execExchTimeout_exchange (hst : s.laneState n.val = 4) (hfree : s.fbit (F.LANE_STATE_HOLDING n.val) = false)
    (hrx : s.fbit (F.LANE_CFG_SIMPLEX_TX n.val) = false) :
    execExchTimeout n s = .next ((s.enterTrain n.val (s.lane n.val).rate false).raise (F.LANE_EVENT_EXCH_FAIL n.val)) :=
  congrArg Host.Outcome.next (if_pos ⟨hst, hfree, hrx⟩)

end Reception

/-- Settles O6: each command in the state that the rule names; sequences and characters go to the port or lane that they name. -/
theorem receptionOnLanes : Obligations.ReceptionOnLanes :=
  ⟨fun _ _ hlane hport => execBitLockLoss_locked hlane hport, fun _ _ _ _ _ => rfl, fun _ _ _ _ => rfl,
    fun _ _ _ _ _ _ hst hrx => execCapabilitySet_exchange hst hrx, fun _ _ _ hf hst hlen => execFrameReceive_short hf hst hlen,
    fun _ _ _ hst hf hlen => execRunaway_long hst hf hlen, fun _ _ hrx hst => execElastic_receiving hrx hst,
    fun _ _ hst hfree hrx => execExchTimeout_exchange hst hfree hrx⟩

/-! ### Control of lanes and the quire PLLs -/

theorem execQuirePllLoss_locked {q : Fin 24} {s : State} (hlock : s.fbit (F.QUIRE_STATUS_PLL_LOCK q.val) = true) :
    execQuirePllLoss q s = .next (((s.fput (F.QUIRE_STATUS_PLL_LOCK q.val) 0).count (R.QUIRE_PLL_LOSS_COUNT q.val)).forEach (List.range 8)
      (fun u k => (u.enterOff (8 * q.val + k) false).raise (F.LANE_EVENT_PLL_LOSS (8 * q.val + k)))) :=
  congrArg Host.Outcome.next (if_pos hlock)

theorem execQuirePllLock_enabled {q : Fin 24} {s : State} (hen : (s.enabledLanes q.val).isEmpty = false) (hawake : s.mode ≠ 0) :
    execQuirePllLock q s = .next ((s.fput (F.QUIRE_STATUS_PLL_LOCK q.val) 1).forEach (s.enabledLanes q.val)
      (fun u n => if u.laneState n = 0 then u.enterDetect n false else u)) :=
  congrArg Host.Outcome.next (if_neg (by simp [hen, hawake]))

section LaneControl
variable {n : Fin 192} {s : State}

theorem execMargin_below {fom : Byte} (hst : s.laneState n.val = 5) (hlow : fom.toNat < s.fget (F.LANE_FOM_CFG_MARGIN n.val))
    (hrx : s.fbit (F.LANE_CFG_SIMPLEX_TX n.val) = false) :
    execMargin n fom s = .next (((s.setFom n.val fom).raiseIf (!(s.lane n.val).marginOff) (F.LANE_EVENT_MARGIN n.val)).laneMod n.val
      (fun l => { l with marginOff := true })) :=
  congrArg Host.Outcome.next (if_pos ⟨hst, hlow, hrx⟩)

/-- The recorded FOM reads back (R106). -/
theorem State.setFom_fom (s : State) (n : Nat) (fom : Byte) : (s.setFom n fom).fget (F.LANE_FOM_FOM n) = fom.toNat := by
  rw [State.setFom, State.laneMod_fget, State.fget_fput_same _ _ _ (by simp), Nat.mod_eq_of_lt fom.isLt]

/-- The adapted values lie in a register apart from that of the FOM. -/
theorem State.fom_fput_adapt (s : State) {n : Nat} {f : Field} (v : Nat) (hreg : f.reg = R.LANE_ADAPT n) :
    (s.fput f v).fget (F.LANE_FOM_FOM n) = s.fget (F.LANE_FOM_FOM n) := by
  refine State.fget_fput_other _ _ _ _ (.inl ?_)
  rw [hreg]
  simp

section AdaptStep
variable {fom : Byte} {ctle : BitVec 4} {t1 t2 t3 t4 t5 : BitVec 5}

/-- FREEZE holds the adapted values of an ACTIVE lane (R107). -/
theorem execAdaptStep_frozen (hst : s.laneState n.val = 5) (hrx : s.fbit (F.LANE_CFG_SIMPLEX_TX n.val) = false)
    (hfreeze : s.fbit (F.LANE_CTRL_FREEZE n.val) = true) :
    execAdaptStep n fom ctle t1 t2 t3 t4 t5 s = .next (s.setFom n.val fom) := by
  simp [execAdaptStep, hst, hrx, hfreeze]

/-- Without FREEZE they move, and the FOM stands as recorded (R106, R107). -/
theorem execAdaptStep_fom (hst : s.laneState n.val = 5) (hrx : s.fbit (F.LANE_CFG_SIMPLEX_TX n.val) = false)
    (hmoves : ¬ s.fbit (F.LANE_CTRL_FREEZE n.val) = true) :
    ∃ t, execAdaptStep n fom ctle t1 t2 t3 t4 t5 s = .next t ∧ t.fget (F.LANE_FOM_FOM n.val) = fom.toNat := by
  have hadapts : 2 ≤ s.laneState n.val ∧ s.laneState n.val ≤ 5 ∧ s.fbit (F.LANE_CFG_SIMPLEX_TX n.val) = false := by
    rw [hst]
    exact ⟨by decide, by decide, hrx⟩
  have hfree : ¬ (s.laneState n.val = 3 ∨ s.laneState n.val = 4 ∨
      (s.laneState n.val = 5 ∧ s.fbit (F.LANE_CTRL_FREEZE n.val) = true)) := by
    simp [hst, hmoves]
  refine ⟨_, congrArg Host.Outcome.next ((if_pos hadapts).trans (if_neg hfree)), ?_⟩
  dsimp only
  iterate 6 rw [State.fom_fput_adapt _ _ rfl]
  exact s.setFom_fom n.val fom

end AdaptStep

section LaneTest
variable {loop : BitVec 2} {pat : BitVec 3} {chk : Bool}

/-- A loop setting where test modes are permitted (R109, R110). -/
theorem execLaneTestSet_loop (hmay : s.mode = 5 ∨ s.fbit (F.LANE_CFG_EN n.val) = false) (hloop : loop.toNat ≠ 0) :
    execLaneTestSet n loop pat chk s = .next (
      let p := if 5 ≤ pat.toNat then 0 else pat.toNat
      let s1 := ((s.fput (F.LANE_CTRL_LOOP n.val) loop.toNat).fput (F.LANE_CTRL_PAT n.val) pat.toNat).fput
        (F.LANE_CTRL_PAT_CHK n.val) (b2n chk)
      let s2 := (((s1.leaveActive n.val false).dropLocks n.val).laneSet n.val 6).laneMod n.val
        (fun l => { l with prbs := 0, txPrbs := Config.freeNat s.fresh % (2 ^ (prbsTaps p).1 - 1) + 1 })
      (if p = 0 ∧ loop.toNat ≠ 2 then s2.send n.val pairChars true else s2).tick1) :=
  congrArg Host.Outcome.next ((if_pos hmay).trans (if_neg (fun h => hloop h.1)))

theorem execLaneTestSet_refused (hmode : s.mode ≠ 5) (hen : s.fbit (F.LANE_CFG_EN n.val) = true) :
    execLaneTestSet n loop pat chk s = .next (s.raise (F.LANE_EVENT_CTRL_REFUSED n.val)) :=
  congrArg Host.Outcome.next (if_neg (by simp [hmode, hen]))

end LaneTest

theorem execSimplexPhaseEnd_train (hsimplex : s.fbit (F.LANE_CFG_SIMPLEX_TX n.val) = true) (hst : s.laneState n.val = 2) :
    execSimplexPhaseEnd n s = .next (if (s.lane n.val).tsb then s.enterExchange n.val
      else (s.laneMod n.val (fun l => { l with tsb := true })).sendSequence n.val true) :=
  congrArg Host.Outcome.next ((if_pos hsimplex).trans (if_pos hst))

end LaneControl

/-- Settles O7: each command at the case that its conditions choose; ADAPT_STEP by FREEZE. -/
theorem laneControlAndPll : Obligations.LaneControlAndPll := by
  refine ⟨fun _ _ hlock => execQuirePllLoss_locked hlock, fun _ _ hen hawake => execQuirePllLock_enabled hen hawake,
    fun _ _ _ hst hlow hrx => execMargin_below hst hlow hrx, fun n fom ctle t1 t2 t3 t4 t5 s hst hrx => ?_, fun _ _ => rfl,
    fun _ _ _ _ _ hmay hloop => execLaneTestSet_loop hmay hloop, fun _ _ _ _ _ hmode hen => execLaneTestSet_refused hmode hen,
    fun _ _ hsimplex hst => execSimplexPhaseEnd_train hsimplex hst⟩
  by_cases hfreeze : s.fbit (F.LANE_CTRL_FREEZE n.val) = true
  · exact ⟨_, execAdaptStep_frozen hst hrx hfreeze, s.setFom_fom n.val fom, fun _ => rfl⟩
  · obtain ⟨t, hexec, hfom⟩ := execAdaptStep_fom hst hrx hfreeze
    exact ⟨t, hexec, hfom, fun h => absurd h hfreeze⟩

/-! ### Channel blocks -/

/-- SAMPLES_FRAME of a quire whose turn is lane `n`, which holds `f` and then `l` (R82). -/
theorem execSamplesFrame_oldest {q : Fin 24} {n : Nat} {f : RxFrame} {l : List RxFrame} {s : State} (hpick : s.quirePick q.val = some n)
    (hrx : (tget {} s.lanes n).rx = f :: l) :
    execSamplesFrame q s = .next ({ s with
      lanes := tmod {} s.lanes n (fun e => { e with rx := l }),
      quireNext := tset 0 s.quireNext q.val ((n + 1) % 8) }.takeFrame n f) := by
  simp only [execSamplesFrame, hpick, hrx]

section ChannelBlocks
variable {slot b : Nat} {c : ChanBlk} {s : State}

theorem execSkewExpiry_open (hblk : s.blkOf slot b = some c) (hopen : c.closed = false) :
    execSkewExpiry slot b s = .next (((s.count R.INGEST_SHORT).raise F.INGEST_EVENT_SHORT).closeBlk c) := by
  rw [execSkewExpiry, hblk]
  exact congrArg Host.Outcome.next (if_neg (by simp [hopen]))

/-- What the deadline of block `b` does to the channel block of `slot`: it leaves a closed one, closes an open one with DEADLINE, and
closes one never opened without room (R141). -/
def State.passDeadline (b : Nat) (u : State) (slot : Nat) : State :=
  if u.isClosed slot b then u
  else match u.blkOf slot b with
    | some c => ((u.count R.INGEST_DEADLINE).raise F.INGEST_EVENT_DEADLINE).closeBlk c
    | none => u.closeEmpty slot b

/-- BLOCK_DEADLINE of a block outside a gap, on every slot of the registers in force at the block. -/
theorem execBlockDeadline_passed (hend : b * 128 < siEnd) (hdue : (s.at (b * 128)).blockDeadline (b * 128) ≤ s.time.now.toNat)
    (hgap : s.inGap (b * 128) = false) (hslots : (s.at (b * 128)).nChan ≠ 0) :
    execBlockDeadline b s = .next (s.forEach (List.range (s.at (b * 128)).nChan) (State.passDeadline b)) := by
  have hpassed : ¬ (siEnd ≤ b * 128 ∨ s.time.now.toNat < (s.at (b * 128)).blockDeadline (b * 128)) := by omega
  have hcloses : ¬ ((s.at (b * 128)).nChan = 0 ∨ s.inGap (b * 128) = true) := by simp [hslots, hgap]
  simp only [execBlockDeadline, if_neg hpassed, if_neg hcloses]
  rw [hgap]
  rfl

theorem execChannelBlockRelease_next (hblk : s.blkOf slot b = some c) (hclosed : c.closed = true) (hheld : c.released = false)
    (hnext : s.nextRel slot b = b) : execChannelBlockRelease slot b s = .next (s.releaseBlk c) := by
  rw [execChannelBlockRelease, hblk]
  exact congrArg Host.Outcome.next (if_pos (by simp [hclosed, hheld, hnext]))

theorem execStagingFree_read (hblk : s.blkOf slot b = some c) (hrel : c.released = true) (hread : s.allRead c = true) :
    execStagingFree slot b s = .next ((s.dropBlk slot b).showStage) := by
  rw [execStagingFree, hblk]
  exact congrArg Host.Outcome.next (if_pos (by simp [hrel, hread]))

theorem execMonitorRestart_reached {x : Nat} (hreq : s.ingest.restartReq = some x) (hreached : x ≤ s.siNow) :
    execMonitorRestart s = .next ((s.fput F.INGEST_CTRL_MON_RESTART 0).ingMod (fun g => { g with restartReq := none })) := by
  simp only [execMonitorRestart, hreq, if_pos hreached]

/-- What GENERATOR_DELIVERY of a slot and a block asks for (R603). -/
structure GeneratorMay (s : State) (slot b : Nat) : Prop where
  generating : (s.at (b * 128)).generating = true
  notClosed : s.isClosed slot b = false
  inSlots : slot < (s.at (b * 128)).nChan
  noGap : s.inGap (b * 128) = false
  notOpen : s.blkOf slot b = none
  inRange : b * 128 < siEnd

theorem execGeneratorDelivery_may (h : GeneratorMay s slot b) :
    execGeneratorDelivery slot b s = .next (
      let c : ChanBlk := { slot := slot, b := b, gen := true, alloc := s.blkBytes b }
      if s.openBytes + s.blkBytes b ≤ 12 * 2 ^ 20 then ((s.addBlk c).fput F.INGEST_STATUS_FULL 0).closeBlk c
      else ((s.count R.INGEST_STAGE_FULL).fput F.INGEST_STATUS_FULL 1).closeEmpty slot b) :=
  congrArg Host.Outcome.next (if_neg (by simp [h.generating, h.notClosed, h.inSlots, h.noGap, h.notOpen, h.inRange]))

end ChannelBlocks

/-- Settles O11: each command at the case that its conditions choose. -/
theorem channelBlocksOpenCloseAndRelease : Obligations.ChannelBlocksOpenCloseAndRelease :=
  ⟨fun _ _ _ _ _ hpick hrx => execSamplesFrame_oldest hpick hrx, fun _ _ _ _ hblk hopen => execSkewExpiry_open hblk hopen,
    fun _ _ hend hdue hgap hslots => execBlockDeadline_passed hend hdue hgap hslots,
    fun _ _ _ _ hblk hclosed hheld hnext => execChannelBlockRelease_next hblk hclosed hheld hnext,
    fun _ _ _ _ hblk hrel hread => execStagingFree_read hblk hrel hread, fun _ => rfl,
    fun _ _ hreq hreached => execMonitorRestart_reached hreq hreached,
    fun _ _ _ hgen hclosed hslot hgap hopen hend => execGeneratorDelivery_may ⟨hgen, hclosed, hslot, hgap, hopen, hend⟩⟩

end Sys2Proof.Machine

/-! Proofs of the statements of the correlation array: how dwell windows become ready and start, and how rounds are read and started. -/

namespace Sys2Proof.Machine

/-! ### Dwell windows -/

/-- Takes away the count of the channel blocks written into window `m` (R165). -/
def State.takeBlockCount (s : State) (m : Nat) (old : Bool) : State :=
  s.ingMod (fun g => if old then { g with eraOld := { g.eraOld with win := terase g.eraOld.win m } }
    else { g with era := { g.era with win := terase g.era.win m } })

/-- Abandons every run not finished and every ready window not started (R23). -/
def State.abandonUnfinished (s : State) : State :=
  (s.forEach s.array.runs (fun u r => if u.runDone r then u else u.abandonRun r)).dropReady

/-- DWELL_WINDOW_READY of a window that has a count, with all of its channel blocks in the count (R165). -/
theorem execDwellWindowReady_written {m : Nat} {old : Bool} {s : State}
    (hcount : 0 < tget 0 (if old then s.ingest.eraOld else s.ingest.era).win m)
    (hall : s.eraBlocks m old ≤ tget 0 (if old then s.ingest.eraOld else s.ingest.era).win m) :
    execDwellWindowReady m old s = .next
      ((s.takeBlockCount m old).abandonUnfinished.arrMod (fun a => { a with ready := a.ready ++ [(m, old)] })).drainIssue :=
  congrArg Host.Outcome.next (if_neg (by omega))

/-- Run `id`, of window `m` over `span`, with the sheds `sh` of the throttle (R192, R633). -/
def State.windowRun (s : State) (id m : Nat) (span : Nat × Nat) (sh : ShedRow) : WinRun :=
  { id := id, m := m, parts := s.partsOf m span.1 span.2, till := span.2, shedC := sh.slots, shedG := sh.groups }

/-- A tile before the first round of run `id`. -/
def TileSt.onRun (q : TileSt) (id : Nat) : TileSt := { q with run := id, round := none, issRound := 0, issIdx := 0 }

/-- Run `r` joins the runs that hold anything, every tile starts on it, and `rest` are the windows still ready (R192). -/
def State.beginRun (s : State) (r : WinRun) (rest : List (Nat × Bool)) : State :=
  let u := s.arrMod (fun a => { a with
    ready := rest, runs := a.runs.filter (fun q => s.runHeld q.id) ++ [r], nextRun := a.nextRun + 1, till := max a.till r.till,
    parity := [], tiles := a.tiles.map (fun e => (e.1, e.2.onRun r.id)) })
  u.forEach u.corrTiles (fun u t => u.tileMod t (fun q => q.onRun r.id))

/-- ARRAY_WINDOW_START of the oldest ready window, with every run finished and no due retirement held. The number of the
run, its span and the slots of its dwells are those before retirement; its parts and sheds those after it (R192, R225, R633). -/
theorem execArrayWindowStart_oldest {m : Nat} {old : Bool} {rest : List (Nat × Bool)} {s : State} (hready : s.array.ready = (m, old) :: rest)
    (hdone : s.array.runs.any (fun r => !s.runDone r) = false) (hdue : s.dueHeld (s.eraSpan m old).1 = false) :
    execArrayWindowStart s = .next (
      let s0 := s.retireDue (s.eraSpan m old).1
      let sh := s0.shedAt (m * s.pv.dwell)
      let r := s0.windowRun s.array.nextRun m (s.eraSpan m old) sh
      let s3 := (s0.beginRun r rest).forEach (sh.slots.filter (fun c => decide (c < s.pv.nChan))) (fun u _ => u.noteShedDwell r)
      (s3.wr64 R.ARRAY_WINDOW_LO R.ARRAY_WINDOW_HI m).showRunning.drainIssue) := by
  have hgo : ¬ (s.array.runs.any (fun r => !s.runDone r) || s.dueHeld (s.eraSpan m old).1) = true := by
    rw [hdone, hdue]
    decide
  rw [execArrayWindowStart, hready]
  exact congrArg Host.Outcome.next (if_neg hgo)

/-! ### Rounds -/

/-- The round whose operands lie in the buffer of round `u`: the last one before it of its parity (R191). -/
def State.roundBefore (s : State) (u : Nat) : Option Nat :=
  (s.allRounds.filter (fun x => decide (x < u) && x % 2 == u % 2)).getLast?

/-- Where pass `k` of round `u` of run `r`, from input `i` on, lies in the corner memory (R191). -/
def State.roundOffset (s : State) (r : WinRun) (u k i : Nat) : Nat :=
  s.pv.cornerOffset (r.m % 2) (u / s.pv.rpd) (u % s.pv.rpd * s.pv.passLen + k) i

/-- Writes the group spans of tile `t` for round `u` of run `r`, as state `s` holds them in the corner memory, into its operand buffer
`u mod 2` (R191). -/
def State.fillBuffer (s : State) (r : WinRun) (u : Nat) (w : State) (t : Nat) : State :=
  (w.tileMod t (fun q => { q with badBuf := q.badBuf.filter (fun x => x != u % 2) })).forEach ((s.spans r t u).zipIdx) (fun w g =>
    w.forEach (List.range s.pv.passLen) (fun w sp =>
      w.stBytes (carrelAddr (s.phys t) + (u % 2) * s.bufBytes + g.2 * (32 * s.pv.passLen * s.pv.sampleBytes) + sp * (32 * s.pv.sampleBytes))
        (s.arcBytes (s.roundOffset r u sp (32 * g.1)) (32 * s.pv.sampleBytes))))

section Rounds
variable {u : Nat} {r : WinRun} {s : State}

/-- ROUND_READ_START of the next live round, its operand buffer free and nothing uncorrectable in what it reads (R191, R193). -/
theorem execRoundReadStart_fills (hrun : s.curRun = some r) (hround : s.nextRound r r.readU = some u)
    (hfree : ∀ x, s.roundBefore u = some x → s.corrTiles.any (fun t => !s.released r t x) = false) (hplan : s.residentPlan = false)
    (hgood : s.arcPoisoned (s.roundOffset r u 0 0) (s.pv.nIn * s.pv.passLen * s.pv.sampleBytes) = false) :
    execRoundReadStart s = .next (
      let s1 := s.runMod r.id (fun q => { q with readU := u + 1 })
      s1.forEach (s1.corrTiles.filter (fun t => !s.isMissing t)) (s.fillBuffer r u)) := by
  have hgo : ¬ (!s.residentPlan && match s.roundBefore u with
      | some x => s.corrTiles.any (fun t => !s.released r t x)
      | none => false) = true := by
    cases hbefore : s.roundBefore u with
    | none => simp
    | some x => simp only [hfree x hbefore, Bool.and_false, Bool.false_eq_true, not_false_eq_true]
  simp only [execRoundReadStart, hrun, hround]
  exact congrArg Host.Outcome.next ((if_neg hgo).trans ((if_neg (ne_true_of_eq_false hgood)).trans (if_neg (ne_true_of_eq_false hplan))))

/-- TILE_ROUND_START of a correlation tile of the run, whose round before is released and whose next round has been read (R193, R194). -/
theorem execTileRoundStart_read {t : Fin 400} {waited : Nat} (hrun : s.curRun = some r)
    (hround : s.nextRound r (match (s.tile t.val).round with | some x => x + 1 | none => 0) = some u) (hon : (s.tile t.val).run = r.id)
    (hcorr : s.corrTiles.contains t.val = true) (hreleased : ∀ x, (s.tile t.val).round = some x → s.released r t.val x = true)
    (hread : u < r.readU) :
    execTileRoundStart t waited s = .next (
      let s1 := (s.countBy R.ARRAY_OPERAND_WAIT (units s.array.waitAcc waited).1).arrMod
        (fun a => { a with waitAcc := (units a.waitAcc waited).2 })
      ((s1.tileMod t.val (fun q => { q with round := some u })).fput F.ARRAY_POS_CHANNEL (u / s.pv.rpd)).fput F.ARRAY_POS_ROUND
        (u % s.pv.rpd)) := by
  have hgo : ¬ ((s.tile t.val).run != r.id || !s.corrTiles.contains t.val || match (s.tile t.val).round with
      | some x => !s.released r t.val x
      | none => false) = true := by
    rw [hon, hcorr]
    cases hq : (s.tile t.val).round with
    | none => simp
    | some x => simp [hreleased x hq]
  simp only [execTileRoundStart, hrun]
  split
  next hnone => exact absurd (hround.symm.trans hnone) (Option.some_ne_none u)
  next v hnext =>
    obtain rfl : u = v := Option.some.inj (hround.symm.trans hnext)
    exact congrArg Host.Outcome.next ((if_neg hgo).trans (if_neg (Nat.not_le.mpr hread)))

end Rounds

/-- Settles O12: each command at the case that its conditions choose. -/
theorem windowsAndRoundsStart : Obligations.WindowsAndRoundsStart :=
  ⟨fun _ _ _ hcount hall => execDwellWindowReady_written hcount hall,
    fun _ _ _ _ hready hdone hdue => execArrayWindowStart_oldest hready hdone hdue,
    fun _ _ _ hrun hround hfree hplan hgood => execRoundReadStart_fills hrun hround hfree hplan hgood,
    fun _ _ _ _ _ hrun hround hon hcorr hreleased hread =>
      execTileRoundStart_read hrun hround hon hcorr hreleased hread⟩

end Sys2Proof.Machine

/-! Proofs of the statements of the correlation array: the sums of its cells, the orders that tiles are given and take, and what retires
them, checks tiles and retires tiles. -/

namespace Sys2Proof.Machine

/-! ### The cells of a tile -/

theorem satSym_of_natAbs_le {lim : Nat} {v : Int} (h : v.natAbs ≤ lim) : satSym lim v = (v, false) := by
  rw [satSym, if_neg (by omega), if_neg (by omega)]

/-- What a spectrum with row operand `e.1` and column operand `e.2` adds to the real part of a cell (R178). -/
def cellRe (e : (Int × Int × Bool) × (Int × Int × Bool)) : Int := e.1.1 * e.2.1 + e.1.2.1 * e.2.2.1

/-- What it adds to the imaginary part (R178). -/
def cellIm (e : (Int × Int × Bool) × (Int × Int × Bool)) : Int := e.1.2.1 * e.2.1 - e.1.1 * e.2.2.1

/-- What it adds to the count: 1 where neither sample is flagged (R255). -/
def cellCount (e : (Int × Int × Bool) × (Int × Int × Bool)) : Nat := b2n (!e.1.2.2 && !e.2.2.2)

/-- An addition that passes the bound in neither part is exact and sets no SAT (R178, R181). -/
theorem cellAdd_exact {c : CellSum} {f : Bool} {e : (Int × Int × Bool) × (Int × Int × Bool)} (hre : (c.re + cellRe e).natAbs ≤ 524287)
    (him : (c.im + cellIm e).natAbs ≤ 524287) :
    cellAdd (c, f) e.1 e.2 = (⟨c.re + cellRe e, c.im + cellIm e, c.n + cellCount e⟩, f) := by
  have hre' : satSym 524287 (c.re + (e.1.1 * e.2.1 + e.1.2.1 * e.2.2.1)) = (c.re + cellRe e, false) := satSym_of_natAbs_le hre
  have him' : satSym 524287 (c.im + (e.1.2.1 * e.2.1 - e.1.1 * e.2.2.1)) = (c.im + cellIm e, false) := satSym_of_natAbs_le him
  simp only [cellAdd, hre', him', Bool.or_false, cellCount]

/-- A pass from cell `c` is exact where each spectrum adds at most `p` to a part and there is room for `p` of every spectrum. -/
theorem foldl_cellAdd_exact {p : Nat} {f : Bool} (l : List ((Int × Int × Bool) × (Int × Int × Bool)))
    (hterm : ∀ e ∈ l, (cellRe e).natAbs ≤ p ∧ (cellIm e).natAbs ≤ p) (c : CellSum) (hre : c.re.natAbs + l.length * p ≤ 524287)
    (him : c.im.natAbs + l.length * p ≤ 524287) :
    l.foldl (fun a e => cellAdd a e.1 e.2) (c, f) =
      (⟨c.re + (l.map cellRe).sum, c.im + (l.map cellIm).sum, c.n + (l.map cellCount).sum⟩, f) := by
  induction l generalizing c with
  | nil => simp
  | cons e l ih =>
    obtain ⟨⟨hreTerm, himTerm⟩, hrest⟩ := List.forall_mem_cons.mp hterm
    rw [List.length_cons, Nat.succ_mul] at hre him
    rw [List.foldl_cons, cellAdd_exact (by omega) (by omega), ih hrest _ (by dsimp only; omega) (by dsimp only; omega)]
    simp only [List.map_cons, List.sum_cons, add_assoc]

/-- A sum of two products of components of magnitude at most `k` is at most `2k²`. -/
theorem natAbs_mul_add_mul_le {a b c d : Int} {k : Nat} (ha : a.natAbs ≤ k) (hb : b.natAbs ≤ k) (hc : c.natAbs ≤ k) (hd : d.natAbs ≤ k) :
    (a * b + c * d).natAbs ≤ 2 * (k * k) := by
  calc (a * b + c * d).natAbs ≤ (a * b).natAbs + (c * d).natAbs := Int.natAbs_add_le _ _
    _ = a.natAbs * b.natAbs + c.natAbs * d.natAbs := by rw [Int.natAbs_mul, Int.natAbs_mul]
    _ ≤ k * k + k * k := Nat.add_le_add (Nat.mul_le_mul ha hb) (Nat.mul_le_mul hc hd)
    _ = 2 * (k * k) := (Nat.two_mul _).symm

section Components
variable {k : Nat} {e : (Int × Int × Bool) × (Int × Int × Bool)}

theorem cellRe_natAbs_le (ha : e.1.1.natAbs ≤ k) (hb : e.1.2.1.natAbs ≤ k) (hc : e.2.1.natAbs ≤ k) (hd : e.2.2.1.natAbs ≤ k) :
    (cellRe e).natAbs ≤ 2 * (k * k) :=
  natAbs_mul_add_mul_le ha hc hb hd

theorem cellIm_natAbs_le (ha : e.1.1.natAbs ≤ k) (hb : e.1.2.1.natAbs ≤ k) (hc : e.2.1.natAbs ≤ k) (hd : e.2.2.1.natAbs ≤ k) :
    (cellIm e).natAbs ≤ 2 * (k * k) := by
  rw [cellIm, sub_eq_add_neg, ← Int.neg_mul]
  exact natAbs_mul_add_mul_le hb hc (by rwa [Int.natAbs_neg]) hd

end Components

/-- A pass of 5,349 spectra of 4-bit samples, or of 16 of 8-bit samples, has room in a cell: 5349 · 2 · 7² and 16 · 2 · 127² are below
the bound of R181. -/
theorem pass_fits {n k : Nat} (h : k = 7 ∧ n ≤ 5349 ∨ k = 127 ∧ n ≤ 16) : n * (2 * (k * k)) ≤ 524287 := by
  rcases h with ⟨rfl, hn⟩ | ⟨rfl, hn⟩ <;> omega

/-- Settles O55: one addition within the bound is exact, and by induction so is a pass whose spectra all fit. -/
theorem cellsOfAPassAddExactly : Obligations.CellsOfAPassAddExactly := by
  refine ⟨fun _ _ x y hre him => cellAdd_exact (e := (x, y)) hre him, fun l k hk hsmall => ?_⟩
  have hterm : ∀ e ∈ l, (cellRe e).natAbs ≤ 2 * (k * k) ∧ (cellIm e).natAbs ≤ 2 * (k * k) := fun e he => by
    obtain ⟨ha, hb, hc, hd⟩ := hsmall e he
    exact ⟨cellRe_natAbs_le ha hb hc hd, cellIm_natAbs_le ha hb hc hd⟩
  have hfits : (0 : Int).natAbs + l.length * (2 * (k * k)) ≤ 524287 := by simpa using pass_fits hk
  have hsums := foldl_cellAdd_exact (f := false) l hterm {} hfits hfits
  simp only [zero_add] at hsums
  exact hsums

/-! ### Orders issued -/

/-- Whether a CHECK of position `t` is due: by CHECK_NOW, or by the period with CHECK_EN (R222, R229). -/
def State.checkWanted (s : State) (t : Nat) : Bool := (s.tile t).nowDue == 1 || (s.tile t).checkDue && s.fbit F.ARRAY_CTRL_CHECK_EN

/-- What the sequencer asks of position `t` before it writes an order there: a physical tile, not MISSING, and room in its queue. -/
structure CanQueue (s : State) (t : Nat) : Prop where
  onTile : (s.physOf t).isNone = false
  present : s.isMissing t = false
  room : (s.tile t).queue.length < 16

theorem CanQueue.not_full {s : State} {t : Nat} (h : CanQueue s t) :
    ¬ ((s.physOf t).isNone = true ∨ s.isMissing t = true ∨ 16 ≤ (s.tile t).queue.length) := by
  simp [h.onTile, h.present, h.room]

section OrderIssue
variable {t : Fin 400} {waited : Bool} {s : State}

/-- A CHECK that is due goes in at an idle queue (R222). -/
theorem execOrderIssue_check (h : CanQueue s t.val) (hidle : (s.tile t.val).queue = []) (hdue : s.checkWanted t.val = true) :
    execOrderIssue t waited s = .next ((s.tileMod t.val (fun q =>
      { q with queue := checkOrder :: q.queue, checkDue := false, nowDue := if q.nowDue = 0 then 0 else 2 })).showQueue t.val) :=
  congrArg Host.Outcome.next ((if_neg h.not_full).trans (if_pos ⟨hdue, .inl (List.isEmpty_iff.mpr hidle)⟩))

/-- With no CHECK due, an order that the sequencer holds goes in (R199, R200). -/
theorem execOrderIssue_held {o : QOrd} {l : List QOrd} (h : CanQueue s t.val) (hdue : s.checkWanted t.val = false)
    (htodo : (s.tile t.val).todo = o :: l) : execOrderIssue t waited s = .next (s.issueHeld t.val o l) := by
  simp only [execOrderIssue, htodo]
  exact congrArg Host.Outcome.next ((if_neg h.not_full).trans (if_neg fun hcheck => ne_true_of_eq_false hdue hcheck.1))

/-- With no CHECK due and nothing held, a correlation tile is given the next PASS of the plan (R195, R197). -/
theorem execOrderIssue_pass {u i e : Nat} {r : WinRun} (h : CanQueue s t.val) (hdue : s.checkWanted t.val = false)
    (htodo : (s.tile t.val).todo = []) (hrole : s.roleOf t.val = 1) (hrun : s.curRun = some r)
    (hpass : s.nextPass r t.val = some (u, i, e)) :
    execOrderIssue t waited s = .next ((s.tileMod t.val (fun q =>
      { q with queue := q.queue ++ [s.passOrder r t.val u e], issRound := u, issIdx := i + 1 })).showQueue t.val) := by
  simp only [execOrderIssue, htodo, hrun, hpass]
  exact congrArg Host.Outcome.next ((if_neg h.not_full).trans
    ((if_neg fun hcheck => ne_true_of_eq_false hdue hcheck.1).trans (if_pos hrole)))

end OrderIssue

/-! ### Orders taken -/

/-- Order `o` is the next that position `t` takes: it heads the queue of a position on a physical tile with no order in progress. -/
structure AtHead (s : State) (t : Nat) (o : QOrd) : Prop where
  onTile : (s.physOf t).isNone = false
  head : ∃ l, (s.tile t).queue = o :: l
  idle : (s.tile t).cur = none

theorem AtHead.not_busy {s : State} {t : Nat} {o : QOrd} (h : AtHead s t o) : ¬ ((s.tile t).cur.isSome || (s.physOf t).isNone) = true := by
  simp [h.idle, h.onTile]

theorem order_sound {o : QOrd} (hlow : 1 ≤ o.op) (hhigh : o.op ≤ 6) : ¬ (false || o.op == 0 || decide (6 < o.op)) = true := by
  simp only [Bool.false_or, Bool.or_eq_true, beq_iff_eq, decide_eq_true_eq]
  omega

section OrderExecute
variable {t : Fin 400} {n : Nat} {o : QOrd} {s : State}

theorem execOrderExecute_error {parity : Bool} (h : AtHead s t.val o) (hbad : (parity || o.op == 0 || decide (6 < o.op)) = true) :
    execOrderExecute t parity n s = .next (s.orderError t.val o) := by
  obtain ⟨l, hqueue⟩ := h.head
  simp only [execOrderExecute, hqueue]
  exact congrArg Host.Outcome.next ((if_neg h.not_busy).trans (if_pos hbad))

/-- A PASS begins with its cells free and its round that of the tile, or in a resident plan, or of an abandoned dwell (R203). -/
theorem execOrderExecute_pass (h : AtHead s t.val o) (hop : o.op = 1) (hcells : (s.tile t.val).cells = none)
    (hround : (!s.dwellAbandoned o && !s.residentPlan && (s.tile t.val).round != some (s.ordRound o)) = false) :
    execOrderExecute t false n s = .next ((s.popOrder t.val).tileMod t.val (fun q => { q with cur := some o })) := by
  obtain ⟨l, hqueue⟩ := h.head
  have hbegins : ¬ ((s.tile t.val).cells.isSome
      || (!s.dwellAbandoned o && !s.residentPlan && (s.tile t.val).round != some (s.ordRound o))) = true := by
    rw [hcells, hround]
    decide
  simp only [execOrderExecute, hqueue]
  exact congrArg Host.Outcome.next ((if_neg h.not_busy).trans ((if_neg (order_sound (by omega) (by omega))).trans
    ((if_pos hop).trans (if_neg hbegins))))

/-- A BPASS runs where it does not start a chain in a sum buffer still to be read out (R295). -/
theorem execOrderExecute_bpass (h : AtHead s t.val o) (hop : o.op = 2)
    (hbuf : (bitOf o.word.toNat 123 && (s.tile t.val).readable.any (fun r => r.2 == (s.tile t.val).buf)) = false) :
    execOrderExecute t false n s = .next (((((s.countWstall (if o.len * (if s.pv.w8 then 4 else 1) < 64 then n else 0)).runBpass
      t.val o).popOrder t.val).bpassDone t.val o).countOrder t.val) := by
  obtain ⟨l, hqueue⟩ := h.head
  simp only [execOrderExecute, hqueue]
  exact congrArg Host.Outcome.next ((if_neg h.not_busy).trans ((if_neg (order_sound (by omega) (by omega))).trans
    ((if_neg (by omega)).trans ((if_pos hop).trans (if_neg (ne_true_of_eq_false hbuf))))))

/-- A SPILL is taken or stalls, a DRAIN leaves the queue, and a FENCE or a CHECK becomes the order in progress (R205 to R208). -/
theorem execOrderExecute_other (h : AtHead s t.val o) (hlow : 3 ≤ o.op) (hhigh : o.op ≤ 6) :
    execOrderExecute t false n s = .next (if o.op = 3 then s.takeSpill t.val n o else if o.op = 4 then s.popOrder t.val
      else (s.popOrder t.val).tileMod t.val (fun q => { q with cur := some o })) := by
  obtain ⟨l, hqueue⟩ := h.head
  simp only [execOrderExecute, hqueue]
  exact congrArg Host.Outcome.next ((if_neg h.not_busy).trans ((if_neg (order_sound (by omega) hhigh)).trans
    ((if_neg (by omega)).trans (if_neg (by omega)))))

end OrderExecute

/-! ### The end of a PASS -/

/-- PASS_END of a PASS in progress: its sums move to the shadow, or wait in the cells while the shadow is full (R181, R182). -/
theorem execPassEnd_pass {t : Fin 400} {o : QOrd} {s : State} (hcur : (s.tile t.val).cur = some o) (hop : o.op = 1) :
    execPassEnd t s = .next (
      let u := (s.tileMod t.val (fun q => { q with cur := none })).doIf (s.passSums t.val o).sat
        (fun u => u.count (R.ARRAY_TILE_SAT (s.phys t.val)))
      if (s.tile t.val).shadow.isSome then u.tileMod t.val (fun q => { q with cells := some (s.passSums t.val o) })
      else u.toShadow t.val (s.passSums t.val o)) := by
  simp only [execPassEnd, hcur]
  exact congrArg Host.Outcome.next (if_neg (not_not_intro hop))

/-- SHADOW_DRAIN of sums written back, of a PASS that is not resident: the shadow empties, and sums that waited move in (R182). -/
theorem execShadowDrain_retired {t : Fin 400} {n : Nat} {x : Sums} {s : State} (hshadow : (s.tile t.val).shadow = some x)
    (hwbs : s.array.wbs.any (fun w => w.tile == t.val) = false) (hcut : bitOf x.ord.word.toNat 120 = false) :
    execShadowDrain t n s = .next (match (s.tile t.val).cells with
      | none => s.tileMod t.val (fun q => { q with shadow := none })
      | some y => ((s.tileMod t.val (fun q => { q with shadow := none })).countBy (R.ARRAY_TILE_SHADOW_STALL (s.phys t.val))
          n).toShadow t.val y) := by
  simp only [execShadowDrain, hshadow]
  exact congrArg Host.Outcome.next (if_neg (by simp [hwbs, hcut]))

/-- Settles O13: each command at the case that its conditions choose. -/
theorem ordersIssueAndExecute : Obligations.OrdersIssueAndExecute :=
  ⟨fun _ _ _ htile hpresent hidle hdue => execOrderIssue_check ⟨htile, hpresent, by simp [hidle]⟩ hidle hdue,
    fun _ _ _ _ _ htile hpresent hroom hdue htodo => execOrderIssue_held ⟨htile, hpresent, hroom⟩ hdue htodo,
    fun _ _ _ _ _ _ _ htile hpresent hroom hdue htodo hrole hrun hpass =>
      execOrderIssue_pass ⟨htile, hpresent, hroom⟩ hdue htodo hrole hrun hpass,
    fun _ _ _ _ _ _ htile hqueue hidle hbad => execOrderExecute_error ⟨htile, ⟨_, hqueue⟩, hidle⟩ hbad,
    fun _ _ _ _ _ htile hqueue hidle hop hcells hround => execOrderExecute_pass ⟨htile, ⟨_, hqueue⟩, hidle⟩ hop hcells hround,
    fun _ _ _ _ _ htile hqueue hidle hop hbuf => execOrderExecute_bpass ⟨htile, ⟨_, hqueue⟩, hidle⟩ hop hbuf,
    fun _ _ _ _ _ htile hqueue hidle hlow hhigh => execOrderExecute_other ⟨htile, ⟨_, hqueue⟩, hidle⟩ hlow hhigh,
    fun _ _ _ hcur hop => execPassEnd_pass hcur hop,
    fun _ _ _ _ hshadow hwbs hcut => execShadowDrain_retired hshadow hwbs hcut⟩

/-! ### Write-backs, FENCE and DRAIN -/

section Retire
variable {t : Fin 400} {n : Nat} {s : State}

/-- WRITEBACK_RETIRE of a write-back that is next in tag order (R210, R211). -/
theorem execWritebackRetire_next {x : Sums} (hwb : s.array.wbs.find? (fun w => w.tile == t.val) = some x)
    (htag : s.nextTag (x.ord.bits 119 111) (x.ord.bits 110 106) x.ord = true) :
    execWritebackRetire t n s = .next
      (((s.arrMod (fun a => { a with wbs := a.wbs.filter (fun w => w.tile != t.val) })).retireWb x).drainIssue) := by
  simp only [execWritebackRetire, hwb]
  exact congrArg Host.Outcome.next (if_pos htag)

/-- WRITEBACK_RETIRE of a write-back that is not: it stalls and is noted as having stalled (R210). -/
theorem execWritebackRetire_stalled {x : Sums} (hwb : s.array.wbs.find? (fun w => w.tile == t.val) = some x)
    (htag : s.nextTag (x.ord.bits 119 111) (x.ord.bits 110 106) x.ord = false) :
    execWritebackRetire t n s = .next ((s.slotStall t.val n (!x.noted)).arrMod (fun a =>
      { a with wbs := a.wbs.map (fun w => if w.tile == t.val then { w with noted := true } else w) })) := by
  simp only [execWritebackRetire, hwb]
  exact congrArg Host.Outcome.next (if_neg (ne_true_of_eq_false htag))

/-- FENCE_RETIRE with nothing left that the FENCE waits for (R206; log 198, 220). -/
theorem execFenceRetire_clear {o : QOrd} (hcur : (s.tile t.val).cur = some o) (hop : o.op = 5)
    (hwbs : s.array.wbs.any (fun w =>
      w.tile == t.val || (w.ord.into t.val (o.bits 110 106) && tagBefore (w.ord.bits 31 16) (o.bits 31 16))) = false)
    (hcells : (s.tile t.val).cells = none)
    (hspills : (bitOf o.word.toNat 123 && (s.path (wingOf t.val)).any (fun x => x.tile == t.val)) = false) :
    execFenceRetire t s = .next ((s.tileMod t.val (fun q => { q with cur := none })).countOrder t.val) := by
  simp only [execFenceRetire, hcur]
  exact congrArg Host.Outcome.next (if_neg (by simp [hop, hwbs, hcells, hspills]))

/-- DRAIN_RETIRE of the oldest DRAIN of a tile that holds nothing of its integration (R207). -/
theorem execDrainRetire_free {d : Nat × Nat} (hdrain : s.array.drains.find? (fun d => d.1 == t.val) = some d)
    (hfree : s.drainHeld t.val d.2 = false) :
    execDrainRetire t s = .next ((s.arrMod (fun a => { a with drains := a.drains.filter (fun x => x != d) })).countOrder t.val) := by
  simp only [execDrainRetire, hdrain]
  exact congrArg Host.Outcome.next (if_neg (ne_true_of_eq_false hfree))

end Retire

/-! ### Checks and parity errors -/

/-- CHECK of a CHECK in progress that passes (R208, R222). -/
theorem execCheck_passed {t : Fin 400} {o : QOrd} {s : State} (hcur : (s.tile t.val).cur = some o) (hop : o.op = 6) :
    execCheck t true s = .next (
      let u := (((((s.tileMod t.val (fun q => { q with cur := none, nowDue := if q.nowDue = 2 then 0 else q.nowDue })).countOrder
        t.val).count R.ARRAY_CHECKS).fput (F.ARRAY_TILE_CHECK_LAST_PASS (s.phys t.val)) 1).fput
          (F.ARRAY_TILE_CHECK_LAST_FAIL (s.phys t.val)) 0)
      (u.fput (F.ARRAY_TILE_CHECK_PASSED (s.phys t.val))
        (satN 16 (u.fget (F.ARRAY_TILE_CHECK_PASSED (s.phys t.val)) + 1))).checkNowDone) := by
  simp only [execCheck, hcur]
  exact congrArg Host.Outcome.next (if_neg (not_not_intro hop))

/-- PARITY of a physical tile that has had one in this window, and holds no correlation tile: no mark of a sum is set, and the tile
becomes retire-pending (R223). -/
theorem execParity_again {p : Fin 400} {off : Fin 0x40000} {s : State} (hagain : s.array.parity.contains p.val = true)
    (hrole : s.roleOf (s.fget (F.ARRAY_PMAP_LOGICAL p.val)) ≠ 1) :
    execParity p off s = .next ((((s.count (R.ARRAY_TILE_PARITY p.val)).doIf
      (decide (s.fget (F.ARRAY_PMAP_LOGICAL p.val) < 400)) (fun u => u.raiseTev (s.fget (F.ARRAY_PMAP_LOGICAL p.val)) 1)).lastErr
        2 p.val).retirePend p.val 2) := by
  simp only [execParity, hagain, if_pos hrole, if_true]
  rfl

/-- Settles O14: each command at the case that its conditions choose; CHECK_NOW and RETIRE_REQ have one case. -/
theorem arrayRetiresChecksAndRetirement : Obligations.ArrayRetiresChecksAndRetirement :=
  ⟨fun _ _ _ _ hwb htag => execWritebackRetire_next hwb htag, fun _ _ _ _ hwb htag => execWritebackRetire_stalled hwb htag,
    fun _ _ _ hcur hop hwbs hcells hspills => execFenceRetire_clear hcur hop hwbs hcells hspills,
    fun _ _ _ hdrain hfree => execDrainRetire_free hdrain hfree, fun _ hen => congrArg Host.Outcome.next (if_pos hen),
    fun _ => rfl, fun _ _ _ hcur hop => execCheck_passed hcur hop,
    fun _ _ _ hagain hrole => execParity_again hagain hrole, fun _ _ _ => rfl⟩

end Sys2Proof.Machine

/-! Proofs of the statements of accumulation: how an integration opens and closes, its bank's tables, and the path that spills take. -/

namespace Sys2Proof.Machine

/-! ### Integrations -/

/-- What INTEGRATION_BOUNDARY at SI `x` asks for: an integration opens at the start of the window there, and the one in progress began
before it (R240). -/
structure BoundaryAt (s : State) (x : Nat) : Prop where
  corr : s.corrRole = true
  dwellPos : 0 < s.dwell
  atWindow : x % s.dwell = 0
  reached : x ≤ s.siNow
  opens : s.opensAt (x / s.dwell) = true
  inProgress : s.accum.integs.any (fun i => i.e.isNone && decide (i.a < x)) = true
  noAccession : s.accDue.any (fun x0 => decide (x0 ≤ x)) = false

theorem execIntegrationBoundary_reached {x : Nat} {s : State} (h : BoundaryAt s x) :
    execIntegrationBoundary x s = .next (s.latchChanged ((s.closeInteg x).openInteg x false) x) :=
  congrArg Host.Outcome.next (if_pos (by
    simp only [h.corr, h.dwellPos, h.atWindow, h.reached, h.opens, h.inProgress, h.noAccession]
    decide))

/-- BANK_TABLES_REWRITTEN of a bank whose integration still waits for its valid counts and mark words (R246). -/
theorem execBankTablesRewritten_due {k : Fin 2} {i : Integ} {s : State}
    (hinteg : s.accum.integs.find? (fun i => i.bank == k.val) = some i) (hdue : i.tables = false) :
    execBankTablesRewritten k s = .next (
      let v := s.under i
      (((s.arcRenew (validOff v k.val 0 0) (List.replicate (4 * v.nIn * v.nChan) 0#8)).arcRenew (markOff v k.val 0 (blkFirst v))
        ((List.replicate (v.nChan * blkCount v) (leBytes 4 0x80)).flatten)).integMod i.id (fun j =>
          { j with tables := true })).showWaiting s.accum.waiting) := by
  rw [execBankTablesRewritten, hinteg]
  exact congrArg Host.Outcome.next (if_neg (ne_true_of_eq_false hdue))

/-! ### Spills -/

section Spills
variable {w : Fin 4} {n : Nat} {x : Sums} {i : Integ} {s : State}

/-- SPILL of the oldest spill of a wing not yet written: its integration decides whether it is written or waits (R247, R248). -/
theorem execSpill_oldest (hspill : (s.path w.val).find? (fun x => !x.written) = some x) (hinteg : s.integOf x.ord = some i) :
    execSpill w n s = .next (
      if !i.tables then ((s.countBankWait n).raise F.ACCUM_EVENT_BANK_WAIT).showWaiting (w.val :: s.accum.waiting)
      else ((s.writeSpill i x).pathMod w.val (fun l => l.map (fun y => if y == x then { y with written := true } else y))).showWaiting
        s.accum.waiting) := by
  simp only [execSpill, hspill, hinteg]

theorem execSpill_written (hspill : (s.path w.val).find? (fun x => !x.written) = some x) (hinteg : s.integOf x.ord = some i)
    (hready : i.tables = true) :
    execSpill w n s = .next (((s.writeSpill i x).pathMod w.val (fun l =>
      l.map (fun y => if y == x then { y with written := true } else y))).showWaiting s.accum.waiting) :=
  (execSpill_oldest hspill hinteg).trans (congrArg Host.Outcome.next (if_neg (by simp [hready])))

theorem execSpill_waits (hspill : (s.path w.val).find? (fun x => !x.written) = some x) (hinteg : s.integOf x.ord = some i)
    (hdue : i.tables = false) :
    execSpill w n s = .next (((s.countBankWait n).raise F.ACCUM_EVENT_BANK_WAIT).showWaiting (w.val :: s.accum.waiting)) :=
  (execSpill_oldest hspill hinteg).trans (congrArg Host.Outcome.next (if_pos (by simp [hdue])))

/-- SPILL_ACK of a written spill at the head of its wing's path (R245). -/
theorem execSpillAck_head {l : List Sums} (hpath : s.path w.val = x :: l) (hwritten : x.written = true) :
    execSpillAck w s = .next (((((s.pathMod w.val (fun _ => l)).ackSpill x).countOrder x.tile).countBy R.ACCUM_SPILLS
      (units s.accum.spillAcc 1).1).accMod (fun a => { a with spillAcc := (units a.spillAcc 1).2 })) := by
  rw [execSpillAck, hpath]
  exact congrArg Host.Outcome.next (if_neg (by simp [hwritten]))

end Spills

/-- Settles O15: each command at the case that its conditions choose; SPILL by whether the tables of its bank are rewritten. -/
theorem integrationsAndSpills : Obligations.IntegrationsAndSpills :=
  ⟨fun _ _ hcorr hdwell hwindow hreached hopens hopen hdue =>
      execIntegrationBoundary_reached ⟨hcorr, hdwell, hwindow, hreached, hopens, hopen, hdue⟩,
    fun _ _ _ hinteg hdue => execBankTablesRewritten_due hinteg hdue,
    fun _ _ _ _ _ hspill hinteg hready => execSpill_written hspill hinteg hready,
    fun _ _ _ _ _ hspill hinteg hdue => execSpill_waits hspill hinteg hdue,
    fun _ _ _ _ hpath hwritten => execSpillAck_head hpath hwritten⟩

end Sys2Proof.Machine

/-! Proofs of the statements of beams and transients: what tiles read out, in time or late, the spans and candidates that are sent, and
the switch of weights. -/

namespace Sys2Proof.Machine

/-! ### Read-out of tiles -/

/-- BEAM_READOUT of a position of set `n` on a physical tile: its oldest finished chain leaves the list and is read out (R306, R309). -/
theorem execBeamReadout_oldest {t : Fin 400} {h : HeldBlk} {buf n : Nat} {rest : List (HeldBlk × Nat)} {s : State}
    (hreadable : (s.tile t.val).readable = (h, buf) :: rest) (hset : s.setOf t.val = some n) (htile : (s.physOf t.val).isNone = false) :
    execBeamReadout t s = .next ((s.tileMod t.val (fun q => { q with readable := rest })).readOut t.val n h buf
      (s.voltIn n h.b && decide (s.vDeadline h < s.nowNs + 3000)) true) := by
  simp only [execBeamReadout, hreadable, hset]
  exact congrArg Host.Outcome.next (if_neg (ne_true_of_eq_false htile))

/-- Position `t` lets go of its work on block `b` of `slot`: its queued BPASSes, its readable sums and its open chains (R309). -/
def State.dropBeamWork (s : State) (t slot b : Nat) : State :=
  s.tileMod t (fun q => { q with
    queue := q.queue.filter (fun o => !(o.op == 2 && o.chan == slot && o.blk == b)),
    readable := q.readable.filter (fun r => !(r.1.slot == slot && r.1.b == b)),
    chain := q.chain.filter (fun x => !(x.1 == slot && x.2.1 == b)) })

/-- Notes that position `t` is done with block `b` of `slot`, as state `s` holds it: with its channel block where one stands, else
with its cancelled work (R308, R309). -/
def State.noteBlockRead (s : State) (t slot b : Nat) (u : State) : State :=
  match s.blkOf slot b with
  | some c => u.putBlk { c with readBy := if c.readBy.contains t then c.readBy else c.readBy ++ [t] }
  | none => u.doIf (s.cancelled t slot b) (fun u => u.beamMod (fun g => { g with lateDone := g.lateDone ++ [(t, slot, b)] }))

/-- LATE of a block with voltage beams that position `t` of set `n` still owes, 3 µs before the deadline (R308, R309). -/
theorem execLate_owed {t : Fin 400} {slot b n : Nat} {h : HeldBlk} {s : State} (hset : s.setOf t.val = some n)
    (howed : s.owed t.val n slot b = some h) (hvolt : s.voltIn n b = true) (hdue : s.vDeadline h ≤ s.nowNs + 3000) :
    execLate t slot b s = .next (((s.noteBlockRead t.val slot b (s.dropBeamWork t.val slot b)).readOut t.val n h 0 true
      (!s.cancelled t.val slot b)).showQueue t.val) := by
  have hgo : ¬ (!s.voltIn n b || decide (s.nowNs + 3000 < s.vDeadline h)) = true := by simp [hvolt, hdue]
  simp only [execLate, hset, howed]
  exact congrArg Host.Outcome.next (if_neg hgo)

/-! ### Spans of detected values -/

/-- The span that was full first (R313). -/
def State.firstFullSpan (s : State) : Option DSpan :=
  (sortBy (fun (x y : DSpan) => decide (x.fullAt < y.fullAt)) (s.beam.spans.filter (fun d => d.fullAt != 0))).head?

/-- Takes span `d` from the spans held (R313). -/
def State.dropSpan (s : State) (d : DSpan) : State := s.beamMod (fun b => { b with spans := dropFirst (· == d) b.spans })

/-- The DBEAM frame of span `d`: every value of its 1,024, 0xFFFF where there is none (R313, R314). -/
def State.dbeamFrame (s : State) (d : DSpan) : EgressFrame where
  typ := 0x41
  stream := (s.at d.lo).fget F.BEAM_ROUTE_DSTREAM
  chan := d.slot
  group := s.quality (· == d.slot) d.lo d.hi % 256 * 256 + d.oct
  si := d.a
  flags := d.flags ||| (b2n (d.lo != (spanBase (s.at d.lo) d.a).1
    || d.hi != (spanBase (s.at d.lo) d.a).1 + (spanBase (s.at d.lo) d.a).2) * 0x8000)
  payload := (List.range 1024).flatMap (fun k => leBytes 2 (tget 0xFFFF d.vals k))

theorem State.dbeamFrame_payload (s : State) (d : DSpan) :
    (s.dbeamFrame d).payload = (List.range 1024).flatMap (fun k => leBytes 2 (tget 0xFFFF d.vals k)) := by
  rw [State.dbeamFrame]

section Spans
variable {d : DSpan} {s : State}

/-- DBEAM_SEND takes the span that was full first, once cancelled work is noted: its frame waits for a lane where a stream is routed. -/
theorem execDbeamSend_full (hfull : s.takeCancelled.firstFullSpan = some d) :
    execDbeamSend s = .next (
      let u := s.takeCancelled
      if (u.at d.lo).fget F.BEAM_ROUTE_DSTREAM = 0 then u.dropSpan d
      else (((u.dropSpan d).noteSat (bitOf d.flags 11)).queueFrame (u.dbeamFrame d)).kick) := by
  rw [State.firstFullSpan] at hfull
  simp only [execDbeamSend, hfull]
  rfl

theorem execDbeamSend_unrouted (hfull : s.takeCancelled.firstFullSpan = some d)
    (hstream : (s.takeCancelled.at d.lo).fget F.BEAM_ROUTE_DSTREAM = 0) :
    execDbeamSend s = .next (s.takeCancelled.dropSpan d) :=
  (execDbeamSend_full hfull).trans (congrArg Host.Outcome.next (if_pos hstream))

theorem execDbeamSend_routed (hfull : s.takeCancelled.firstFullSpan = some d)
    (hstream : (s.takeCancelled.at d.lo).fget F.BEAM_ROUTE_DSTREAM ≠ 0) :
    execDbeamSend s = .next
      (((s.takeCancelled.dropSpan d).noteSat (bitOf d.flags 11)).queueFrame (s.takeCancelled.dbeamFrame d)).kick :=
  (execDbeamSend_full hfull).trans (congrArg Host.Outcome.next (if_neg hstream))

end Spans

/-! ### Candidates -/

/-- The candidate period that begins at `p` is over at `e`: the search runs in it and the band sums below `e` are complete (R316, R320). -/
structure PeriodDone (s : State) (p e : Nat) : Prop where
  opens : p = s.openPeriod
  ends : e = (s.periodEnd p).1
  searching : (s.at p).searching = true
  band : s.bandDone (s.at p) e = true

/-- Drops the events and the marks of generated blocks below SI `e`, and begins the candidate period at `next` (R320, R322). -/
def State.beginPeriod (s : State) (e next : Nat) : State :=
  s.beamMod (fun b => { b with
    events := b.events.filter (fun x => decide (e ≤ x.si)), gens := b.gens.filter (fun x => decide (e ≤ x)), period := next, cut := false })

/-- CAND at the end of a period with no gap at its end and no stream routed: nothing is sent (R320). -/
theorem execCand_unrouted {p e : Nat} {s : State} (hdone : PeriodDone s.takeCancelled p e)
    (hgap : (s.takeCancelled.ingest.gaps ++ s.takeCancelled.cat.acc.toList).find? (fun g => g.1 == e && g.1 != g.2) = none)
    (hstream : (s.takeCancelled.at p).fget F.BEAM_ROUTE_CSTREAM = 0) :
    execCand s = .next ((s.takeCancelled.beginPeriod e e).raiseIf
      (!(s.takeCancelled.beam.events.filter (fun x => decide (x.si < e))).isEmpty) F.BEAM_EVENT_CAND) := by
  obtain ⟨rfl, rfl, hsearching, hband⟩ := hdone
  have hgo : ¬ (!(s.takeCancelled.at s.takeCancelled.openPeriod).searching
      || !s.takeCancelled.bandDone (s.takeCancelled.at s.takeCancelled.openPeriod)
        (s.takeCancelled.periodEnd s.takeCancelled.openPeriod).1) = true := by
    rw [hsearching, hband]
    decide
  simp only [execCand, if_neg hgo, hgap, if_pos hstream]
  rfl

/-! ### The switch of weights -/

/-- The SI that a switch is asked for (R301). -/
def State.switchSi (s : State) : Nat := s.rd64 R.BEAM_SWITCH_SI_LO R.BEAM_SWITCH_SI_HI

section SwitchRequest
variable {p : Fin 2} {s : State}

/-- SWITCH_REQUEST that no rule refuses: neither its SI nor its boundary is refused, no set is pending, and there are beam tiles (R301). -/
theorem execSwitchRequest_accepted (hsi : s.siRefused s.switchSi = false) (hboundary : s.siRefused (s.boundaryAt s.switchSi) = false)
    (hpending : s.rdN R.BEAM_SWITCH_PEND = 0) (hrole : s.beamRole = true) :
    execSwitchRequest p s = .next (((s.fput F.BEAM_SWITCH_CTRL_PAGE p.val).fput F.BEAM_SWITCH_CTRL_REASON 0).beamMod (fun b =>
      { b with switches := b.switches ++ [(s.boundaryAt s.switchSi, p.val)] })) := by
  have htimely : ¬ (s.siRefused s.switchSi || s.siRefused (s.boundaryAt s.switchSi)) = true := by simp [hsi, hboundary]
  exact congrArg Host.Outcome.next ((if_neg htimely).trans ((if_neg (not_not_intro hpending)).trans (if_neg (by simp [hrole]))))

/-- SWITCH_REQUEST for an SI that R33 or R36 refuses has reason 1 (R301; log 45). -/
theorem execSwitchRequest_refused (hsi : s.siRefused s.switchSi = true) :
    execSwitchRequest p s = .next ((s.fput F.BEAM_SWITCH_CTRL_PAGE p.val).refuseSwitch 1) :=
  congrArg Host.Outcome.next (if_pos (Bool.or_eq_true_iff.mpr (.inl hsi)))

end SwitchRequest

/-- The enabled sets whose active page is not `p` (R302). -/
def State.setsToSwitch (s : State) (p : Nat) : List Nat := (List.range 32).filter (fun n => s.setEnabled n && s.pageNow n != some p)

/-- Gives set `n` page `p` from SI `x` where state `s` has it loaded, else leaves the set pending (R302, R303). -/
def State.switchOrPend (s : State) (p x : Nat) (u : State) (n : Nat) : State :=
  if bitOf (s.rdN (R.BEAM_WLOAD p)) n then u.activatePage n p x
  else (u.fput ⟨R.BEAM_SWITCH_PEND, n, 1⟩ 1).beamMod (fun b => { b with late := tmod [] b.late n (fun l => (x, none) :: l) })

/-- WEIGHT_SWITCH of the accepted switch of the lowest SI, which the index has reached and no accession precedes (R302, R303, R305). -/
theorem execWeightSwitch_reached {x p : Nat} {rest : List (Nat × Nat)} {s : State} (hdue : s.dueSwitches = (x, p) :: rest)
    (hreached : x ≤ s.siNow) (hacc : s.accDue.any (fun x0 => decide (x0 ≤ x)) = false) :
    execWeightSwitch s = .next (
      let u := (s.forEach (s.setsToSwitch p) (s.switchOrPend p x)).beamMod (fun b =>
        { b with switches := dropFirst (· == (x, p)) b.switches, pendPage := p })
      ((u.wr64 R.BEAM_DONE_SI_LO R.BEAM_DONE_SI_HI x).raise F.BEAM_EVENT_SWITCH).raiseIf
        ((s.setsToSwitch p).any (fun n => !bitOf (s.rdN (R.BEAM_WLOAD p)) n)) F.BEAM_EVENT_WEIGHT_LATE) := by
  have hgo : ¬ (s.siNow < x ∨ s.accDue.any (fun x0 => decide (x0 ≤ x)) = true) := by simp [hreached, hacc]
  rw [execWeightSwitch, hdue]
  exact congrArg Host.Outcome.next (if_neg hgo)

/-- Settles O17: each command at the case that its conditions choose; WLOAD_SET, PENDING_SWITCH and SEARCH_RESTART have one case. -/
theorem beamWorkIsReadOutAndSwitched : Obligations.BeamWorkIsReadOutAndSwitched := by
  refine ⟨fun _ _ _ _ _ _ hreadable hset htile => execBeamReadout_oldest hreadable hset htile,
    fun _ _ _ _ _ _ hset howed hvolt hdue => execLate_owed hset howed hvolt hdue, ?_, ?_, ?_,
    fun _ _ hsi hboundary hpending hrole => execSwitchRequest_accepted hsi hboundary hpending hrole,
    fun _ _ hsi => execSwitchRequest_refused hsi,
    fun _ _ _ _ hdue hreached hacc => execWeightSwitch_reached hdue hreached hacc,
    fun _ _ _ => rfl, fun _ => rfl, fun _ => rfl⟩
  · rintro d _ s rfl hfull hstream
    exact execDbeamSend_unrouted hfull hstream
  · rintro d _ s rfl hfull hstream
    exact ⟨_, execDbeamSend_routed hfull hstream, s.takeCancelled.dbeamFrame d, rfl, rfl, rfl, rfl, State.dbeamFrame_payload _ _, rfl⟩
  · rintro _ p e s rfl hopens hends hsearching hband hgap hstream
    exact execCand_unrouted ⟨hopens, hends, hsearching, hband⟩ hgap hstream

end Sys2Proof.Machine

/-! Proofs of the statements of the Catalogue and its accession: the shadow image from its load to its verdict, the configuration store,
and an accession from its request to its end. -/

namespace Sys2Proof.Machine

/-! ### The state of the shadow -/

theorem State.setShadow_shadowSt (s : State) (n : Nat) : (s.setShadow n).shadowSt = n % 8 := by
  have hput : (s.fput F.CAT_STATUS_SHADOW n).shadowSt = n % 8 := State.fget_fput_same _ _ _ (by decide)
  rw [State.setShadow, State.doIf]
  split <;> exact hput

/-- EMPTY drops the image and the copy held; no other state does (R352). -/
theorem State.setShadow_empty (s : State) :
    s.setShadow 0 = (s.fput F.CAT_STATUS_SHADOW 0).catMod (fun c => { c with shadow := [], load := none }) := rfl

theorem State.setShadow_held (s : State) {n : Nat} (hn : n ≠ 0) : s.setShadow n = s.fput F.CAT_STATUS_SHADOW n :=
  if_neg (by simpa using hn)

theorem State.shadowSt_raise (s : State) {f : Field} (h : F.CAT_STATUS_SHADOW.reg ≠ f.reg) : (s.raise f).shadowSt = s.shadowSt :=
  State.fget_raise_other _ _ _ (.inl h)

theorem State.fbit_raise_same (s : State) {f : Field} (hlo : f.lo + f.width ≤ 32) (hwidth : f.width = 1) : (s.raise f).fbit f = true := by
  rw [State.fbit, State.fget_raise_same _ _ hlo, hwidth]
  rfl

theorem RegsKept.setShadow {s t : State} {l : List Nat} (h : RegsKept s t l) (n : Nat) (hstatus : R.CAT_STATUS ∈ l) :
    RegsKept s (t.setShadow n) l := by
  rw [State.setShadow, State.doIf]
  split
  · exact (h.fput hstatus).catMod s _
  · exact h.fput hstatus

/-! ### Loads and verdicts -/

section ShadowImage
variable {s : State}

/-- What a LOAD of `s` copies: the source, the address and the length (R353). -/
def State.loadWanted (s : State) : Nat × Nat × Nat :=
  (s.fget F.CAT_CTRL_SRC, s.rd64 R.CAT_LOAD_ADDR_LO R.CAT_LOAD_ADDR_HI,
    if s.fget F.CAT_CTRL_SRC = 0 then s.rdN R.CAT_LOAD_LEN % 2 ^ 24 else leNat (s.storeBytes (catSlotAt (s.fget F.CAT_CTRL_SRC - 1) + 8) 4))

theorem execLoad_accepted (hst : [0, 2, 4].contains s.shadowSt = true) (hsrc : s.fget F.CAT_CTRL_SRC ≠ 3) :
    execLoad s = .next ((s.setShadow 1).catMod (fun c => { c with shadow := [], load := some s.loadWanted })) := by
  have hok : ¬ (!([0, 2, 4].contains s.shadowSt) || s.fget F.CAT_CTRL_SRC == 3) = true := by rw [hst]; simpa using hsrc
  exact congrArg Host.Outcome.next (if_neg hok)

theorem execLoad_refused (hst : [0, 2, 4].contains s.shadowSt = false) : execLoad s = .next (s.refuse 0x31) :=
  congrArg Host.Outcome.next (if_pos (Bool.or_eq_true_iff.mpr (.inl (by rw [hst]; rfl))))

section LoadComplete
variable {off len src : Nat} (hst : s.shadowSt = 1) (hload : s.cat.load = some (src, off, len)) (hslot : src ≠ 0)
  (hlen : ¬ (len = 0 ∨ imgMax < len))
include hst hload hslot hlen

/-- LOAD_COMPLETE of a copy of a store slot without an error (R352, R353). -/
theorem execLoadComplete_slot : execLoadComplete true s = .next (((s.catMod (fun c =>
    { c with shadow := s.storeBytes (catSlotAt (src - 1)) len, load := none, shadowSrc := src })).setShadow 2).raise F.CAT_EVENT_LOADED) := by
  simp [execLoadComplete, hst, hload, hlen, hslot]

/-- LOAD_COMPLETE of a copy of a store slot with an error (R352; log 51). -/
theorem execLoadComplete_slotError : execLoadComplete false s = .next (s.loadFails 0x30) := by
  simp [execLoadComplete, hst, hload, hlen, hslot, State.doIf]

end LoadComplete

theorem State.loadFails_reason (s : State) (code : Nat) : (s.loadFails code).fget F.CAT_STATUS_REASON = code % 2 ^ F.CAT_STATUS_REASON.width := by
  rw [State.loadFails, State.setShadow_empty, State.catMod_fget, State.fget_fput_other _ _ _ _ (by decide), State.fget_fput_same _ _ _ (by decide)]

/-- A verdict, of the image as it stands for CHAIN.ADDR, where every check passes (R348; log 47). -/
theorem State.judgeShadow_passes (hpass : s.verify s.cat.shadow s.chainAddr = none) :
    s.judgeShadow = (((s.showShadowDigest (imgDigest s.cat.shadow)).fput F.CAT_STATUS_REJECT 0).fput F.CAT_STATUS_SHADOW 4).raise
      F.CAT_EVENT_VERIFIED := by
  rw [State.judgeShadow, hpass]
  rfl

/-- The verdict where a check fails (R349). -/
theorem State.judgeShadow_fails {f : Fail} (hfail : s.verify s.cat.shadow s.chainAddr = some f) :
    s.judgeShadow = (s.showShadowDigest (imgDigest s.cat.shadow)).reject f := by
  rw [State.judgeShadow, hfail]

/-! ### Staged writes -/

/-- The image that a staged write of `s` lays from the sections `xs` (R354). -/
def State.stagedImage (s : State) (xs : List SectSrc) : List Byte :=
  layImage (if bitOf (imgN s.cat.shadow 56 4) 1 then imgN s.cat.shadow 56 4 - 2 else imgN s.cat.shadow 56 4) (imgN s.cat.shadow 60 4) xs

theorem State.stageWrite_staged {r v : Nat} {xs : List SectSrc} (hst : [2, 4].contains s.shadowSt = true)
    (hread : imgReadable s.cat.shadow = true) (hxs : stagedSects s.cat.shadow s.chainAddr r v = some xs)
    (hfits : (s.stagedImage xs).length ≤ imgMax) :
    s.stageWrite r v = (s.catMod (fun c => { c with shadow := s.stagedImage xs })).setShadow 2 := by
  have hopen : ¬ (!([2, 4].contains s.shadowSt) || !imgReadable s.cat.shadow) = true := by rw [hst, hread]; decide
  rw [State.stageWrite, hxs]
  exact (if_neg hopen).trans (if_neg hfits.not_gt)

theorem State.stageWrite_refused {r v : Nat} (hst : [2, 4].contains s.shadowSt = false) : s.stageWrite r v = s.refuseWrite :=
  if_pos (Bool.or_eq_true_iff.mpr (.inl (by rw [hst]; rfl)))

theorem execRwaWrite_rwa {r : Nat} (hrwa : isRwa r = true) (v : Word) : execRwaWrite r v s = .next (s.stageWrite r v.toNat) :=
  congrArg Host.Outcome.next (if_pos hrwa)

end ShadowImage

/-- Settles O8: each command at the case that its conditions choose, and what the entered state of the shadow leaves to read. -/
theorem shadowImageLoadsAndIsJudged : Obligations.ShadowImageLoadsAndIsJudged := by
  refine ⟨fun s hst hsrc => ⟨_, execLoad_accepted hst hsrc, s.setShadow_shadowSt 1, rfl, rfl, ?_⟩, fun s hst => execLoad_refused hst,
    fun off len src s hst hload hslot hlen => ⟨_, execLoadComplete_slot hst hload hslot hlen, ?_, rfl, rfl,
      State.fbit_raise_same _ (by decide) rfl⟩,
    fun off len src s hst hload hslot hlen => ⟨_, execLoadComplete_slotError hst hload hslot hlen, State.setShadow_shadowSt _ 0, rfl, rfl,
      s.loadFails_reason 0x30⟩,
    fun s hst => congrArg Host.Outcome.next (if_pos hst), fun s hst => (congrArg Host.Outcome.next (if_pos hst)).trans (congrArg _ ?_),
    fun s hst => ⟨_, congrArg Host.Outcome.next (if_pos hst), s.setShadow_shadowSt 0, rfl, rfl, (RegsKept.refl s _).setShadow 0 (by simp)⟩,
    fun r v s xs hrwa hst hread hxs hfits =>
      ⟨_, (execRwaWrite_rwa hrwa v).trans (congrArg _ (State.stageWrite_staged hst hread hxs hfits)), State.setShadow_shadowSt _ 2, rfl, ?_⟩,
    fun r v s hrwa hst => (execRwaWrite_rwa hrwa v).trans (congrArg _ (State.stageWrite_refused hst))⟩
  · exact ((RegsKept.refl s _).setShadow 1 (by simp)).catMod s _
  · exact (State.shadowSt_raise _ (by decide)).trans (State.setShadow_shadowSt _ 2)
  · cases hverdict : s.verify s.cat.shadow s.chainAddr with
    | none => exact State.judgeShadow_passes hverdict
    | some f => exact State.judgeShadow_fails hverdict
  · exact ((RegsKept.refl s _).catMod s _).setShadow 2 (by simp)

/-! ### The configuration store -/

section Store
variable {s : State}

/-- STORE of a VERIFIED image with the store free (R355). -/
theorem execStore_verified (hst : s.shadowSt = 4) (hfree : s.storeBlocked = false) :
    execStore s = .next (s.startStore (catSlotAt (s.fget F.CAT_CTRL_STORE_SLOT)) 0 s.cat.shadow) := by
  have hopen : ¬ s.storeBlocked = true := by simp [hfree]
  exact congrArg Host.Outcome.next ((if_neg (not_not_intro hst)).trans (if_neg hopen))

theorem State.startStore_busy (s : State) (off kind : Nat) (b : List Byte) : (s.startStore off kind b).fbit F.CAT_STATUS_STORE_BUSY = true :=
  State.fbit_raise_same _ (by decide) rfl

theorem RegsKept.startStore {t : State} {l : List Nat} (h : RegsKept s t l) (off kind : Nat) (b : List Byte) (hstatus : R.CAT_STATUS ∈ l) :
    RegsKept s (t.startStore off kind b) l :=
  RegsKept.raise (t := t.catMod (fun c => { c with storing := some { off := off, bytes := b, kind := kind } })) h hstatus

/-- SET_BOOT and NO_BOOT with the store free are writes of a boot block (R612; log 53). -/
theorem execSetBoot_free (hfree : s.storeBlocked = false) :
    execSetBoot s = .next (s.startBoot 1 (fun b => { b with catSlot := s.fget F.CAT_CTRL_STORE_SLOT + 1 })) :=
  congrArg Host.Outcome.next (if_neg (by simp [hfree]))

theorem execNoBoot_free (hfree : s.storeBlocked = false) : execNoBoot s = .next (s.startBoot 1 (fun b => { b with catSlot := 0 })) :=
  congrArg Host.Outcome.next (if_neg (by simp [hfree]))

/-- STORE_COMPLETE of a write of STORE, SET_BOOT or NO_BOOT, by what the read back finds (R355, R612). -/
theorem execStoreComplete_ends {l : List Byte} {w : StoreWrite} (hstoring : s.cat.storing = some w) (hkind : w.kind < 2) :
    execStoreComplete l s = .next ((s.endStore w l).1.raise
      (if (s.endStore w l).2 then F.CAT_EVENT_STORE_DONE else F.CAT_EVENT_STORE_FAIL)) := by
  rw [execStoreComplete, hstoring]
  exact congrArg Host.Outcome.next (if_neg hkind.not_ge)

/-! ### Requests of an accession -/

theorem execSchedule_unverified (hst : s.shadowSt < 4) : execSchedule s = .next (s.refuse 0x23) :=
  congrArg Host.Outcome.next ((if_neg (by omega)).trans (if_pos hst.ne))

/-- SCHEDULE of a VERIFIED image, by the code of its request (R356, R360). -/
theorem execSchedule_verified (hst : s.shadowSt = 4) :
    execSchedule s = .next (
      let r := s.requestAcc (s.boundaryAt (s.rd64 R.CAT_ACC_SI_LO R.CAT_ACC_SI_HI)) 0
      if r.2 = 0 then r.1 else r.1.refuse r.2) :=
  congrArg Host.Outcome.next ((if_neg (by omega)).trans (if_neg (not_not_intro hst)))

theorem execCancel_early (hst : s.shadowSt = 5) (hearly : s.accReached = false) : execCancel s = .next s.cancelAcc :=
  congrArg Host.Outcome.next ((if_neg (not_not_intro hst)).trans (if_neg (by simp [hearly])))

/-- CANCEL once x is reached takes code 0x31 (R361; log 51). -/
theorem execCancel_late (hst : s.shadowSt = 5) (hlate : s.accReached = true) :
    execCancel s = .next ((s.refuse 0x31).raise F.CAT_EVENT_CANCEL_LATE) :=
  congrArg Host.Outcome.next ((if_neg (not_not_intro hst)).trans (if_pos hlate))

theorem State.cancelAcc_shadowSt (s : State) : s.cancelAcc.shadowSt = 4 := by
  rw [State.cancelAcc, State.shadowSt, State.catMod_fget, State.fget_raise_other _ _ _ (by decide), State.fget_fput_other _ _ _ _ (by decide),
    State.fget_fput_other _ _ _ _ (by decide)]
  exact s.setShadow_shadowSt 4

theorem State.cancelAcc_reason (s : State) : s.cancelAcc.fget F.CAT_STATUS_REASON = 0x28 := by
  rw [State.cancelAcc, State.catMod_fget, State.fget_raise_other _ _ _ (by decide), State.fget_fput_same _ _ _ (by decide)]
  rfl

theorem State.cancelAcc_cancelled (s : State) : s.cancelAcc.fbit F.CAT_EVENT_CANCELLED = true :=
  State.fbit_raise_same _ (by decide) rfl

theorem RegsKept.cancelAcc {t : State} {l : List Nat} (h : RegsKept s t l) (hstatus : R.CAT_STATUS ∈ l) (hevent : R.CAT_EVENT ∈ l) :
    RegsKept s t.cancelAcc l :=
  ((((h.setShadow 4 hstatus).fput hstatus).fput hstatus).raise hevent).catMod s _

end Store

/-- Settles O9: each command at the case that its conditions choose, and what the begun write and the cancelled accession leave to read. -/
theorem catalogueStoreAndSchedule : Obligations.CatalogueStoreAndSchedule :=
  ⟨fun s hst hfree => ⟨_, execStore_verified hst hfree, rfl, s.startStore_busy _ _ _, (RegsKept.refl s _).startStore _ _ _ (by simp)⟩,
    fun _ hfree => execSetBoot_free hfree, fun _ hfree => execNoBoot_free hfree,
    fun _ _ _ hstoring hkind => execStoreComplete_ends hstoring hkind, fun _ hst => execSchedule_unverified hst,
    fun _ hst => execSchedule_verified hst,
    fun s hst hearly => ⟨_, execCancel_early hst hearly, s.cancelAcc_shadowSt, rfl, s.cancelAcc_reason, s.cancelAcc_cancelled,
      (RegsKept.refl s _).cancelAcc (by simp) (by simp)⟩,
    fun _ hst hlate => execCancel_late hst hlate⟩

/-! ### An accession takes effect and ends -/

section Accession
variable {s : State} {x y : Nat}

/-- The code with which a rule refuses the accession at its SI, 0 where none does (R359, R424, R446, R601; log 160). -/
def State.lateRefusal (s : State) : Nat :=
  if s.modeRefused s.shadowView then 0x25
  else if s.placeRefused s.shadowView || (s.fbit F.CAT_STATUS_HEAVY && s.overlapRefused s.shadowView) then 0x26
  else 0

/-- Refuses the accession at its SI: the shadow is VERIFIED again, with no accession (R352). -/
def State.dropAccession (s : State) (code : Nat) : State :=
  (((s.setShadow 4).fput F.CAT_STATUS_HEAVY 0).catMod (fun c => { c with acc := none, next := [] })).refuse code

/-- The accession begins its gap, or takes effect, and HELLO is brought up to date (R362, R363). -/
def State.accede (s : State) (x y : Nat) : State :=
  (if s.fbit F.CAT_STATUS_HEAVY then s.accedeHeavy x y else s.accedeLight x).helloSync

/-- ACCEDED once the index has reached x and no weight switch comes first (R352, R362, R363). -/
theorem execAcceded_due (hacc : s.cat.acc = some (x, y)) (hst : s.shadowSt = 5) (hreached : s.accReached = true)
    (hweights : s.weightsBefore x = false) :
    execAcceded s = .next (if s.lateRefusal ≠ 0 then s.dropAccession s.lateRefusal else s.latchChanged (s.accede x y) x) := by
  have hdue : ¬ (s.shadowSt ≠ 5 ∨ s.accReached = false ∨ s.weightsBefore x = true) := by simp [hst, hreached, hweights]
  rw [execAcceded, hacc]
  exact congrArg Host.Outcome.next (if_neg hdue)

/-- REMAP puts in place the plan, the Clove code, the lanes and the regions of the live Catalogue, and the remap marked done (R364, R366, R572). -/
def State.remapLive (s : State) (x : Nat) : State :=
  ((((s.abandonRetiring x).loadPlan.cloveReload s.cat.retiring s.cat.live s.catAddr s.catAddr).lanesAccede
    { s with regs := s.oldRegs }).showRegions.catMod (fun c => { c with remapped := true })).retireDone

section Gap
variable (hacc : s.cat.acc = some (x, y)) (hst : s.shadowSt = 6)
include hacc hst

/-- REMAP once the retiring copy's work is done, or no time is left for more of it (R364; log 164). -/
theorem execRemap_due (hwaits : s.cat.remapped = false) (hdue : s.retiringDone = true ∨ s.tOf y ≤ s.time.now.toNat + s.remapTime) :
    execRemap s = .next (s.latchChanged (s.remapLive x) x) := by
  have hgap : ¬ (s.shadowSt ≠ 6 ∨ s.cat.remapped = true) := by simp [hst, hwaits]
  have hgo : ¬ (!s.retiringDone && decide (s.time.now.toNat + s.remapTime < s.tOf y)) = true := by
    simp only [Bool.and_eq_true, Bool.not_eq_true', decide_eq_true_eq, not_and_or, Bool.not_eq_false, not_lt]
    exact hdue
  rw [execRemap, hacc]
  exact congrArg Host.Outcome.next ((if_neg hgap).trans (if_neg hgo))

theorem execRemapEnd_released (hdone : s.cat.remapped = true) (hheld : s.cloveHeld = false) : execRemapEnd s = .next (s.cloveLoaded x) := by
  rw [execRemapEnd, hacc]
  exact congrArg Host.Outcome.next (if_pos ⟨hst, hdone, by simp [hheld]⟩)

theorem execResumed_reached (hdone : s.cat.remapped = true) (hreached : y ≤ s.siNow) :
    execResumed s = .next (((((s.openInteg y true).raise F.CAT_EVENT_RESUMED).retireDone.fput F.CAT_STATUS_HEAVY 0).setShadow 0).catMod
      (fun c => { c with acc := none, remapped := false })) := by
  rw [execResumed, hacc]
  exact congrArg Host.Outcome.next (if_pos ⟨hst, hdone, hreached⟩)

end Gap

end Accession

/-- Settles O22: each command at the case that its conditions choose. -/
theorem accessionTakesEffect : Obligations.AccessionTakesEffect :=
  ⟨fun _ _ _ hacc hst hreached hweights => execAcceded_due hacc hst hreached hweights,
    fun _ _ _ hacc hst hwaits hdue => execRemap_due hacc hst hwaits hdue,
    fun _ _ _ hacc hst hdone hheld => execRemapEnd_released hacc hst hdone hheld,
    fun _ _ _ hacc hst hdone hreached => execResumed_reached hacc hst hdone hreached⟩

end Sys2Proof.Machine

/-! Proofs of the statements of the chain's own messages and of a start: how ports, sweeps and addresses answer, the commands that
the head gives and a member takes, and the steps of a start (R376 to R413, R611 to R619). -/
namespace Sys2Proof.Machine

/-! ### Ports and HELLO -/

section Links
variable {p : Fin 2} {b : List Byte} {m : Msg} {s : State}

/-- A port in HELLO or UP sends HELLO (R377). -/
theorem execHelloSend_linked (hlinked : 4 ≤ s.portState p.val) : execHelloSend p s = .next (s.sendHello p.val) :=
  congrArg Host.Outcome.next (if_pos hlinked)

/-- Records a HELLO of port `p`, and the run of identical ones that it ends (R377). -/
def State.recordHello (s : State) (p : Nat) (body : List Byte) : State :=
  s.chMod (fun c => { c with
    peers := tset [] c.peers p body, runs := tset 0 c.runs p (if s.peer p = body then tget 0 s.chain.runs p + 1 else 1) })

theorem State.recordHello_portState (s : State) (p : Nat) (body : List Byte) (q : Nat) :
    (s.recordHello p body).portState q = s.portState q := rfl

/-- HELLO on CHAIN_DN, that port UP already, is recorded and no more: only the neighbour above
acts on the device's address (R377, R384; log 63 on the complement). -/
theorem execHello_down (hup : s.checkAddr.portUp 1 = true) (hcheck : s.checkAddr.msgCheck 1 b = some m) (htyp : m.typ = 0x01)
    (hcpl : imgN m.body 4 2 + imgN m.body 6 2 = 65535) : execHello 1 b s = .next (s.checkAddr.recordHello 1 m.body).helloSync := by
  have hentered {n : Nat} : ¬ ((s.checkAddr.recordHello 1 m.body).portState 1 = 4 ∧ 2 ≤ n) := by
    rw [State.recordHello_portState, eq_of_beq hup]
    simp
  refine congrArg (fun t : State => Host.Outcome.next t.helloSync) ((State.takeMsg_checked _ hup hcheck htyp).trans ?_)
  exact (if_neg (not_not_intro hcpl)).trans ((if_pos one_ne_zero).trans (if_neg hentered))

theorem execHelloTimeout_inHello (hstate : s.portState p.val = 4) : execHelloTimeout p s = .next (s.portTrain p.val) :=
  congrArg Host.Outcome.next (if_pos hstate)

/-- A message for another device, on a port that is UP, at a device whose sweep is done (R382; log 223 on the conflict). -/
theorem execForwardedMessage_passes (hup : s.portUp p.val = true) (hcheck : s.msgCheck p.val b = some m) (hlink : linkType m.typ = false)
    (htyp : m.typ ≠ 2) (hdest : m.dest ≠ 0xFFFF) (haddr : s.hasAddr = true) (hother : m.dest ≠ s.chAddr) (horphan : s.enumState ≠ 2)
    (hswept : s.enumState ≠ 0) (hconflict : (p.val == 0 && s.isHead && s.fbit F.CHAIN_STATUS_HEAD_CONFLICT) = false) :
    execForwardedMessage p b s = .next (s.forward (if m.dest < s.chAddr then 0 else 1) m) := by
  have hstays : ¬ (linkType m.typ || m.typ == 2 || m.dest == 0xFFFF || !s.hasAddr || s.enumState == 0 || m.dest == s.chAddr ||
      (p.val == 0 && s.isHead && s.fbit F.CHAIN_STATUS_HEAD_CONFLICT)) = true := by
    rw [hconflict]
    simp [hlink, htyp, hdest, haddr, hother, hswept]
  have hopen : ¬ (!s.portUp p.val) = true := by simp [hup]
  rw [execForwardedMessage, if_neg hopen, hcheck]
  exact congrArg Host.Outcome.next ((if_neg hstays).trans (if_neg horphan))

end Links

/-! ### Sweeps and addresses -/

section Sweeps
variable {b : List Byte} {m : Msg} {s : State}

/-- ENUM at a member that is UNADDRESSED, with a lawful address that is not beyond the chain's length, is accepted (R384; log 63 on the complement). -/
theorem execEnum_unaddressed (hup : s.checkAddr.portUp 0 = true) (hcheck : s.checkAddr.msgCheck 0 b = some m) (htyp : m.typ = 0x02)
    (hcpl : imgN m.body 0 2 + imgN m.body 2 2 = 65535) (hmember : s.checkAddr.isHead = false) (hfree : s.checkAddr.enumState = 0)
    (hroom : imgN m.body 0 2 < 1024) : execEnum b s = .next (s.checkAddr.enumAccept m (imgN m.body 0 2)).helloSync := by
  refine congrArg (fun t : State => Host.Outcome.next t.helloSync) ((State.takeMsg_checked _ hup hcheck htyp).trans ?_)
  have hunaddressed : (s.checkAddr.enumState == 1 || s.checkAddr.enumState == 2) = false := by rw [hfree]; rfl
  simp [hcpl, hmember, hunaddressed, hroom.not_ge, State.raiseIf]

/-- ENUM_END of a sweep that ended with a cause, neither a loss nor complete, at the head that sweeps (R385). -/
theorem execEnumEnd_sweeping (hup : s.portUp 1 = true) (hcheck : s.msgCheck 1 b = some m) (htyp : m.typ = 0x03) (hhead : s.isHead = true)
    (hloss : imgN m.body 3 1 ≠ 4) (hcause : imgN m.body 3 1 ≠ 0) (hsweep : s.fbit F.CHAIN_STATUS_SWEEP = true) :
    execEnumEnd b s = .next (((s.recordSweep (imgN m.body 0 2) (imgN m.body 3 1) (imgN m.body 4 2 % 1024)).fput
      F.CHAIN_STATUS_SWEEP 0).raise F.CHAIN_EVENT_ENUM_DONE) := by
  refine congrArg Host.Outcome.next ((State.takeMsg_checked _ hup hcheck htyp).trans ?_)
  have hmember : ¬ (!s.isHead) = true := by simp [hhead]
  have hcomplete : ¬ (imgN m.body 3 1 == 0) = true := by simp [hcause]
  exact (if_neg hmember).trans ((if_neg hloss).trans ((if_pos hsweep).trans (if_neg hcomplete)))

theorem execEnumTimeout_sweeping (hsweep : s.fbit F.CHAIN_STATUS_SWEEP = true) :
    execEnumTimeout s = .next (((s.fput F.CHAIN_STATUS_SWEEP 0).fput F.CHAIN_COUNT_CAUSE 0xFF).raise F.CHAIN_EVENT_ENUM_FAIL) :=
  congrArg Host.Outcome.next (if_pos hsweep)

/-- VERSION_SET at an ADDRESSED member (R391; log 64). -/
theorem execVersionSet_addressed (hup : s.portUp 0 = true) (hcheck : s.msgCheck 0 b = some m) (htyp : m.typ = 0x04)
    (haddressed : s.enumState = 1) :
    execVersionSet b s = .next ((s.fput F.CHAIN_VERSION_VERSION (imgN m.body 0 1 % 4)).forward 1 m) :=
  congrArg Host.Outcome.next ((State.takeMsg_checked _ hup hcheck htyp).trans (if_neg (not_not_intro haddressed)))

theorem execClearAddr_member (hmember : s.isHead = false) : execClearAddr s = .next s.dropAddr.helloSync :=
  congrArg Host.Outcome.next (if_neg (by simp [hmember]))

end Sweeps

/-- Settles O19: each command at the case that its conditions choose. -/
theorem chainEnumerationAndLinks : Obligations.ChainEnumerationAndLinks :=
  ⟨fun _ _ hlinked => execHelloSend_linked hlinked, fun _ _ _ hup hcheck htyp hcpl => execHello_down hup hcheck htyp hcpl,
    fun _ _ hstate => execHelloTimeout_inHello hstate, fun _ _ _ hup => congrArg Host.Outcome.next (if_pos hup),
    fun _ _ _ hup hcheck htyp hcpl hmember hfree hroom => execEnum_unaddressed hup hcheck htyp hcpl hmember hfree hroom,
    fun _ _ _ hup hcheck htyp hhead hloss hcause hsweep => execEnumEnd_sweeping hup hcheck htyp hhead hloss hcause hsweep,
    fun _ hsweep => execEnumTimeout_sweeping hsweep,
    fun _ _ _ hup hcheck htyp haddressed => execVersionSet_addressed hup hcheck htyp haddressed,
    fun _ hhead => congrArg Host.Outcome.next (if_pos hhead), fun _ hhead => congrArg Host.Outcome.next (if_pos hhead),
    fun _ hmember => execClearAddr_member hmember,
    fun _ _ _ _ hup hcheck hlink htyp hdest haddr hother horphan hswept hconflict =>
      execForwardedMessage_passes hup hcheck hlink htyp hdest haddr hother horphan hswept hconflict⟩

/-! ### Commands of the chain and their reports -/

section Commands
variable {b : List Byte} {m : Msg} {s : State}

/-- REPORT on the command in progress, from an address of the chain, at the head that collects (R405). -/
theorem execReport_collecting (hup : s.portUp 1 = true) (hcheck : s.msgCheck 1 b = some m) (htyp : m.typ = 0x28) (hhead : s.isHead = true)
    (hbusy : s.fbit F.CHAIN_STATUS_CMD_BUSY = true) (hseq : imgN m.body 20 2 = s.rdN R.CHAIN_CMD_SEQ) (hsrc : m.src ≤ 1023) :
    execReport b s = .next ((s.noteReport m.src (imgN m.body 2 1) (if imgN m.body 1 1 = 0 then 0 else imgN m.body 3 1)).collectCheck) := by
  have hmine : ¬ (!s.isHead || !s.fbit F.CHAIN_STATUS_CMD_BUSY || imgN m.body 20 2 != s.rdN R.CHAIN_CMD_SEQ || decide (1023 < m.src)) = true := by
    simp [hhead, hbusy, hseq, hsrc]
  exact congrArg Host.Outcome.next ((State.takeMsg_checked _ hup hcheck htyp).trans (if_neg hmine))

theorem execCmdTimeout_collecting (hbusy : s.fbit F.CHAIN_STATUS_CMD_BUSY = true) :
    execCmdTimeout s = .next ((s.fput F.CHAIN_STATUS_CMD_BUSY 0).raise F.CHAIN_EVENT_CMD_TIMEOUT) :=
  congrArg Host.Outcome.next (if_pos hbusy)

/-- CHAIN_REPEAT at an idle head: the last command again, with its SEQ and the maps kept (R406; log 66). -/
theorem execChainRepeat_idle {typ seq : Nat} (hhead : s.isHead = true) (hversion : s.chVersion ≠ 0)
    (hidle : s.fbit F.CHAIN_STATUS_CMD_BUSY = false) (hcmd : s.chain.cmd = some (typ, seq, b)) :
    execChainRepeat s = .next (s.broadcastCmd typ seq b).collectCheck := by
  have hmember : ¬ (!s.isHead) = true := by simp [hhead]
  have hbusy : ¬ s.fbit F.CHAIN_STATUS_CMD_BUSY = true := by simp [hidle]
  rw [execChainRepeat, if_neg hmember, if_neg hversion, if_neg hbusy, hcmd]

end Commands

/-- Settles O20: what the member takes and the head hears by `State.takeMsg_checked`, what the head gives by its definition. -/
theorem chainCommandsAndReports : Obligations.ChainCommandsAndReports :=
  ⟨fun _ _ _ hup hcheck htyp => congrArg Host.Outcome.next (State.takeMsg_checked _ hup hcheck htyp),
    fun _ _ _ hup hcheck htyp => congrArg Host.Outcome.next (State.takeMsg_checked _ hup hcheck htyp),
    fun _ _ _ hup hcheck htyp => congrArg Host.Outcome.next (State.takeMsg_checked _ hup hcheck htyp),
    fun _ _ _ hup hcheck htyp hhead hbusy hseq hsrc => execReport_collecting hup hcheck htyp hhead hbusy hseq hsrc,
    fun _ hbusy => execCmdTimeout_collecting hbusy, fun _ _ => rfl, fun _ _ => rfl, fun _ _ => rfl,
    fun _ _ _ _ hhead hversion hidle hcmd => execChainRepeat_idle hhead hversion hidle hcmd⟩

/-! ### The steps of a start -/

section Start
variable {us n : Nat} {ok : Bool} {bad : List (Nat × Bool)} {s : State}

/-- The step that a start is in is the step in progress. -/
theorem State.bootStep_of_inStep (hstep : s.inStep n = true) : s.bootStep = n := by
  rw [State.inStep, Bool.and_eq_true, beq_iff_eq] at hstep
  exact hstep.2

/-- START of a start not begun, nothing tripped: the role and boot block taken, the first rails up, step 1 (R611, R613, R614; log 208). -/
theorem execStart_unbegun {sel : Fin 4} {head : Bool} (hnew : s.boot.begun = false) (hstart : s.inStart = true)
    (hok : s.power.tripped = none) :
    execStart sel head s = .next (((((s.bootMod (fun b => { b with begun := true, sel := sel.val })).chMod (fun c =>
      { c with strap := head })).takeRole.takeBoot).railsUp true).atStep 1) :=
  congrArg Host.Outcome.next (if_neg (by simp [hnew, hstart, hok]))

/-- START_RETRY with the rails off after a first failure: step 1 again, as a retry (R616; log 180). -/
theorem execStartRetry_first (hoff : s.boot.off = true) (hfailed : s.boot.failed ≠ 0) (honce : s.boot.retried = false)
    (hok : s.power.tripped = none) :
    execStartRetry s = .next (((((s.bootMod (fun b => { b with off := false, failed := 0, retried := true, begun := true })).wr
      R.BOOT_STATUS 0#32).takeRole.takeBoot).railsUp true).atStep 1) :=
  congrArg Host.Outcome.next (if_pos (by simp [hoff, hfailed, honce, hok]))

/-- START_STEP_DONE of step 1, by whether every level of the power record came up (R614, R616). -/
theorem execStartStepDone_rails (hstep : s.inStep 1 = true) :
    execStartStepDone us ok bad s = .next (
      let t := s.wrN (R.BOOT_STEP_TIME 1) (satN 28 us)
      if ok then (t.railsUp false).atStep 2 else t.railsFail 0x01) := by
  rw [execStartStepDone, State.bootStep_of_inStep hstep, hstep]
  rfl

theorem execStartStepDone_firmware (hstep : s.inStep 6 = true) :
    execStartStepDone us ok bad s = .next (s.wrN (R.BOOT_STEP_TIME 6) (satN 28 us)).trySource := by
  rw [execStartStepDone, State.bootStep_of_inStep hstep, hstep]
  rfl

theorem execStartStepDone_catalogue (hstep : s.inStep 14 = true) :
    execStartStepDone us ok bad s = .next (((s.wrN (R.BOOT_STEP_TIME 14) (satN 28 us)).verifyBoot ok).atStep 15) := by
  rw [execStartStepDone, State.bootStep_of_inStep hstep, hstep]
  rfl

theorem execStartStepDone_last (hstep : s.inStep 15 = true) :
    execStartStepDone us ok bad s = .next (s.wrN (R.BOOT_STEP_TIME 15) (satN 28 us)).bootEnds := by
  rw [execStartStepDone, State.bootStep_of_inStep hstep, hstep]
  rfl

/-- BOOT_ROM_SELFTEST of Curator A that passes, no Curator active: A takes the lease and B boots (R507, R617). -/
theorem execBootRomSelftest_passA (hstep : s.inStep 4 = true) (hboot : s.role 0 = 1) (hvacant : s.activeCur = none) :
    execBootRomSelftest 0 true s = .next ((s.giveLease 0).enterBoot 1 false) :=
  congrArg Host.Outcome.next (if_neg (by simp [hstep, hboot, hvacant]))

theorem execRailTimeout_inStep1 (hstep : s.inStep 1 = true) : execRailTimeout s = .next (s.railsFail 0x01) :=
  congrArg Host.Outcome.next (if_pos hstep)

/-- REF_WAIT_TIMEOUT in step 11 or 12, with the warning of the step in progress (R615; log 176). -/
theorem execRefWaitTimeout_waiting (hwaits : s.inStep 11 = true ∨ s.inStep 12 = true) :
    execRefWaitTimeout s = .next (if s.inStep 11 then (s.warn 2).enterStep13 else (s.warn 3).enterStep13) := by
  by_cases hlock : s.inStep 11 = true
  · rw [execRefWaitTimeout, if_pos hlock, if_pos hlock]
  · rw [execRefWaitTimeout, if_neg hlock, if_neg hlock, if_pos (hwaits.resolve_left hlock)]

/-- HOST_WAIT_TIMEOUT while the host's image is awaited (R616, R658). -/
theorem execHostWaitTimeout_awaited (hawaited : s.fwState = 1) :
    execHostWaitTimeout s = .next (if s.inStep 6 then (s.fput F.HOSTIF_FW_STATUS_STATE 0).bootFails 0x07
      else s.fput F.HOSTIF_FW_STATUS_STATE 0) :=
  congrArg Host.Outcome.next (if_neg (not_not_intro hawaited))

theorem execChainEnumWaitTimeout_member (hstep : s.inStep 13 = true) (hmember : s.isHead = false) :
    execChainEnumWaitTimeout s = .next s.leaveStep13 :=
  congrArg Host.Outcome.next (if_pos (by simp [hstep, hmember]))

end Start

/-- Settles O23: each command at the case that its conditions choose, START_STEP_DONE at the step in progress. -/
theorem theStartRunsItsSteps : Obligations.TheStartRunsItsSteps :=
  ⟨fun _ _ _ hnew hstart hok => execStart_unbegun hnew hstart hok, fun _ _ _ _ hstep _ => execStartStepDone_rails hstep,
    fun _ _ _ _ hstep _ => execStartStepDone_firmware hstep, fun _ _ _ _ hstep _ => execStartStepDone_catalogue hstep,
    fun _ _ _ _ hstep _ => execStartStepDone_last hstep, fun _ hstep hboot hvacant => execBootRomSelftest_passA hstep hboot hvacant,
    fun _ hstep => execRailTimeout_inStep1 hstep, fun _ hoff hfailed honce hok => execStartRetry_first hoff hfailed honce hok,
    fun _ hwaits => execRefWaitTimeout_waiting hwaits, fun _ hawaited => execHostWaitTimeout_awaited hawaited,
    fun _ hstep hmember => execChainEnumWaitTimeout_member hstep hmember⟩

end Sys2Proof.Machine

/-! Proofs of the statements of the memory controller: requests, their rows and refresh, and the temperature; mapping changes, scrubs,
changes of rate and training (R418, R419, R426 to R429, R432, R435, R437, R440, R441, R444, R445). -/
namespace Sys2Proof.Machine

/-! ### Requests -/

section Requests
variable {s : State} {k : Nat} {r : HReq}

/-- The request that HBM_REQUEST brings: its rank begins at its class, and its place is that of its offset (R416, R428). -/
def State.newRequest (s : State) (cls src tag : Nat) (hint wr : Bool) (off : Nat) (data : List (Option Byte)) : HReq :=
  { cls := cls, rank := cls, src := src, tag := tag, hint := hint, wr := wr, off := off, data := data,
    pc := s.pseudoOf off, bank := s.bankOf off, row := s.rowOf off }

theorem execHbmRequest_admitted {cls : Fin 5} {src tag off : Nat} {hint wr : Bool} {data : List (Option Byte)}
    (hshape : s.reqShape cls.val off data.length = true) (hopen : s.arcRefuse off data.length = 0) :
    execHbmRequest cls src tag hint wr off data s = .next (State.admitWaiting [s.newRequest cls.val src tag hint wr off data] s) := by
  have hlawful : ¬ (!s.reqShape cls.val off data.length) = true := by simp [hshape]
  exact congrArg Host.Outcome.next ((if_neg hlawful).trans (if_neg (not_not_intro hopen)))

/-- HBM_AGE_PROMOTE of a request below the data class that was not promoted before (R428, R429). -/
theorem execHbmAgePromote_first (hplace : s.hbm.reqs[k]? = some r) (hcls : 2 ≤ r.cls) (hfirst : r.promoted = false) :
    execHbmAgePromote k s = .next ((s.hbmMod (fun h => { h with
      reqs := inheritRanks (h.reqs.set k { r with rank := min r.rank 1, promoted := true }) })).count R.HBMC_AGE_PROMOTED) := by
  have hmay : ¬ (r.cls < 2 ∨ r.promoted = true) := not_or.mpr ⟨hcls.not_gt, by simp [hfirst]⟩
  rw [execHbmAgePromote, hplace]
  exact congrArg Host.Outcome.next (if_neg hmay)

/-- A refresh that is not put off, whatever is queued for its bank (R432, R435, R436; log 85, 86). -/
theorem execRefreshDue_now (pc : Fin 64) (bank : Fin 48) :
    execRefreshDue pc bank false s = .next ((s.closeRow pc.val bank.val).hbmMod (fun h => { h with
      postponed := terase h.postponed (bankKey pc.val bank.val),
      acts := tmod 0 h.acts (bankKey pc.val bank.val) (fun n => n - Config.rfmThreshold) })) :=
  congrArg Host.Outcome.next (if_neg (by simp))

/-- A completed request off the queue, its row open (R432). -/
def State.serve (s : State) (k : Nat) (r : HReq) : State := (s.hbmMod (fun h => { h with reqs := h.reqs.eraseIdx k })).openRow r

/-- The read of `r` is answered with its bytes, and whether any was uncorrectable (R433, R439). -/
def State.answerRead (s : State) (r : HReq) : State :=
  (s.noteRead r.cls r.off r.data.length).emit
    (.response r.src r.tag (s.arcPoisoned r.off r.data.length) (s.arcBytes r.off r.data.length))

/-- HBM_REQUEST_COMPLETE, without a fault, of a read that is served next and whose row stays open: that of a request
of another class than data, with its hint (R427, R429, R432; log 203). -/
theorem execHbmRequestComplete_read (hplace : s.hbm.reqs[k]? = some r) (hnext : servedNext s.hbm.reqs k r = true) (hread : r.wr = false)
    (hhint : r.hint = true) (hcls : r.cls ≠ 1) :
    execHbmRequestComplete k 0 s = .next ((((s.serve k r).noteFix 0 r.off).answerRead r).retryWaiting.holdDrained) := by
  have hserved : ¬ (!servedNext s.hbm.reqs k r) = true := by simp [hnext]
  have hstays : (r.cls == 1 || !r.hint) = false := by simp [hhint, hcls]
  have hsound {c : Prop} : ¬ ((0 : Fin 4).val = 3 ∧ c) := by simp
  rw [execHbmRequestComplete, hplace]
  refine congrArg Host.Outcome.next ((if_neg hserved).trans ?_)
  rw [hstays, hread]
  exact congrArg (fun t : State => (t.answerRead r).retryWaiting.holdDrained) (if_neg hsound)

end Requests

/-- Settles O25: each command at the case that its conditions choose; PAGE_TIMEOUT and HBM_TEMPERATURE_READ have one case. -/
theorem controllerServesRequests : Obligations.ControllerServesRequests :=
  ⟨fun _ _ _ _ _ _ _ _ hshape hopen => execHbmRequest_admitted hshape hopen,
    fun _ _ _ hplace hcls hfirst => execHbmAgePromote_first hplace hcls hfirst, fun _ _ _ => rfl,
    fun pc bank _ => execRefreshDue_now pc bank,
    fun _ _ _ hplace hnext hread hhint hcls => execHbmRequestComplete_read hplace hnext hread hhint hcls, fun _ _ _ => rfl⟩

/-! ### Mapping changes -/

section Mapping
variable {s : State}

/-- MAP_APPLY in HOLD, with nothing held and lawful masks (R418, R419). -/
theorem execMapApply_accepted (hidle : s.fbit F.HBMC_CTRL_MAP_APPLY = false) (hmode : s.mode = 1) (hfree : s.hbm.hold = 0)
    (hmasks : masksValid (maskSet (fun k => s.rdN (R.HBMC_MAP_NEW k))) = true) :
    execMapApply s = .next ((s.fput F.HBMC_CTRL_MAP_APPLY 1).beginHold 1) := by
  have hnew : ¬ s.fbit F.HBMC_CTRL_MAP_APPLY = true := by simp [hidle]
  have hlawful : ¬ (s.mode ≠ 1 ∨ (!masksValid (maskSet (fun k => s.rdN (R.HBMC_MAP_NEW k)))) = true) := by simp [hmode, hmasks]
  exact congrArg Host.Outcome.next ((if_neg hnew).trans ((if_neg hlawful).trans (if_pos hfree)))

theorem execMapApply_refused (hidle : s.fbit F.HBMC_CTRL_MAP_APPLY = false) (hmode : s.mode ≠ 1) :
    execMapApply s = .next (s.raise F.HBMC_EVENT_MAP_REFUSED) := by
  have hnew : ¬ s.fbit F.HBMC_CTRL_MAP_APPLY = true := by simp [hidle]
  exact congrArg Host.Outcome.next ((if_neg hnew).trans (if_pos (.inl hmode)))

/-- INITIALISING_SCRUB_DONE that ends a mapping change, with no rate requested meanwhile (R419, R420). -/
theorem execInitialisingScrubDone_mapped (hhold : s.hbm.hold = 2) (hrate : s.hbm.rateReq = none) :
    execInitialisingScrubDone s = .next (((s.zeroArchive.releaseHold.hbmMod (fun h => { h with rateReq := none })).fput
      F.HBMC_CTRL_MAP_APPLY 0).raise F.HBMC_EVENT_MAP_APPLIED) :=
  congrArg Host.Outcome.next ((if_pos hhold).trans (if_neg (by simp [hrate])))

/-- INITIALISING_SCRUB_DONE of the scrub of a cold start (R441). -/
theorem execInitialisingScrubDone_cold (hhold : s.hbm.hold ≠ 2) (hscrub : s.hbm.initScrub = true) :
    execInitialisingScrubDone s = .next ((s.zeroArchive.hbmMod (fun h => { h with initScrub := false })).showHeld) :=
  congrArg Host.Outcome.next ((if_neg hhold).trans (if_pos hscrub))

end Mapping

/-! ### Scrubs, changes of rate and training -/

section Upkeep
variable {s : State}

theorem execScrubPeriod_running (hperiod : s.rdN R.HBMC_SCRUB_PERIOD % 256 ≠ 0) : execScrubPeriod s = .next s.startPatrol :=
  congrArg Host.Outcome.next (if_neg hperiod)

/-- SCRUB_DONE of a patrol that corrected nothing and, no unit being uncorrectable, found nothing (R440). -/
theorem execScrubDone_clean (hpatrol : s.hbm.patrol = true) (hsound : s.poison = []) :
    execScrubDone [] [] s = .next ((((s.hbmMod (fun h => { h with patrol := false })).count R.HBMC_SCRUB_PASSES).raise
      F.HBMC_EVENT_SCRUB_DONE).showHeld) := by
  have hrunning : ¬ (!s.hbm.patrol) = true := by simp [hpatrol]
  rw [execScrubDone, hsound]
  exact congrArg Host.Outcome.next (if_neg hrunning)

/-- RATE_CHANGE in training waits for the end of the step in progress (R444; log 88). -/
theorem execRateChange_training (v : Word) (hfrom : 1 ≤ s.phase) (hto : s.phase ≤ 4) :
    execRateChange v s = .next ((s.fput F.HBMC_RATE_RATE (v.toNat % 4)).hbmMod (fun h => { h with rateReq := some (v.toNat % 4) })) :=
  congrArg Host.Outcome.next (if_pos (.inl ⟨hfrom, hto⟩))

/-- RATE_CHANGED with nothing in flight and no training to run; a mapping change that waited begins to hold (R419, R445; log 207). -/
theorem execRateChanged_relocked (hhold : s.hbm.hold = 3) (hdrained : s.hbm.reqs = []) (hphase : s.phase = 5) :
    execRateChanged s = .next (
      let u := (((s.fput F.HBMC_STATUS_RATE s.rateWanted).showTrain.raise F.HBMC_EVENT_RATE_CHANGED).releaseHold).hbmMod (fun h =>
        { h with rateReq := none })
      if s.fbit F.HBMC_CTRL_MAP_APPLY then u.beginHold 1 else u) :=
  congrArg Host.Outcome.next (if_neg (by simp [hhold, hdrained, hphase]))

/-- VERIFY passes on a pseudo-channel, others still to be verified and no rate requested meanwhile: it is noted alone (R442, R444). -/
theorem execTrainingPhaseDone_verified {pc : Fin 64} {rfm : Bool} {moved : Byte} (hphase : s.phase = 4)
    (hnew : s.hbm.done.contains pc.val = false) (hrate : s.hbm.rateReq = none) (hmore : s.hbm.done.length < 63) :
    execTrainingPhaseDone pc true rfm moved s = .next (s.hbmMod (fun h => { h with done := h.done ++ [pc.val] })) := by
  have hmay : ¬ (4 = 0 ∨ 5 ≤ 4 ∨ s.hbm.done.contains pc.val = true) := by rw [hnew]; decide
  have hleft : ¬ (s.hbm.done ++ [pc.val]).length = 64 := by rw [List.length_append, List.length_singleton]; omega
  rw [execTrainingPhaseDone, hphase, hrate]
  exact congrArg Host.Outcome.next ((if_neg hmay).trans (if_neg hleft))

end Upkeep

/-- Settles O26: each command at the case that its conditions choose; SCRUB_NOW has one case. -/
theorem controllerMapsScrubsAndTrains : Obligations.ControllerMapsScrubsAndTrains :=
  ⟨fun _ hidle hmode hfree hmasks => execMapApply_accepted hidle hmode hfree hmasks,
    fun _ hidle hmode => execMapApply_refused hidle hmode, fun _ hhold hrate => execInitialisingScrubDone_mapped hhold hrate,
    fun _ hhold hscrub => execInitialisingScrubDone_cold hhold hscrub, fun _ hperiod => execScrubPeriod_running hperiod, fun _ => rfl,
    fun _ hpatrol hsound => execScrubDone_clean hpatrol hsound, fun v _ hfrom hto => execRateChange_training v hfrom hto,
    fun _ hhold hdrained hphase => execRateChanged_relocked hhold hdrained hphase,
    fun _ _ _ _ hphase hnew hrate hmore => execTrainingPhaseDone_verified hphase hnew hrate hmore⟩

end Sys2Proof.Machine

/-! Proofs of the statements of Mace and the Clove engines: the registers of a processor, what each instruction does and leaves, the
moves and the three-bus instructions, and the states of the engines (R540 to R575). -/
namespace Sys2Proof.Machine

/-! ### Registers of a processor -/

section Registers
variable (s : State) (p q : Proc)

/-- A table read after a write of one of its keys. -/
theorem tget_tset {α : Type} [DecidableEq α] (d : α) (t : Tab α) (k j : Nat) (v : α) :
    tget d (tset d t k v) j = if j = k then v else tget d t j := by
  split
  case isTrue h => rw [h, tget_tset_same]
  case isFalse h => exact tget_tset_other d t v h

/-- What is read of a processor after another, or itself, has changed. -/
theorem State.read_mpMod {α : Type} (g : MaceSt → α) (f : MaceSt → MaceSt) :
    g ((s.mpMod (ix p) f).mp (ix q)) = if q = p then g (f (s.mp (ix q))) else g (s.mp (ix q)) := by
  rw [mp_mpMod]
  by_cases h : q = p
  · rw [if_pos h, if_pos ((ix_inj q p).mpr h), h]
  · rw [if_neg h, if_neg (mt (ix_inj q p).mp h)]

/-- What is read of the bank in use after a change of the bank that a processor uses. -/
theorem State.read_modCur {α : Type} (g : Bank → α) (f : Bank → Bank) :
    g ((s.mpMod (ix p) (fun x => x.modCur f)).mp (ix q)).cur = if q = p then g (f (s.mp (ix q)).cur) else g (s.mp (ix q)).cur :=
  (s.read_mpMod p q (fun x => g x.cur) _).trans (by rw [cur_modCur])

/-- A change that keeps what is read of a processor's bank is not seen there. -/
theorem State.read_modCur_kept {α : Type} {g : Bank → α} {f : Bank → Bank} (h : ∀ b, g (f b) = g b) :
    g ((s.mpMod (ix p) (fun x => x.modCur f)).mp (ix q)).cur = g (s.mp (ix q)).cur := by
  rw [State.read_modCur s p q g f, h, ite_self]

/-- A general register read after a write of one; g0 takes no value (R540). -/
theorem State.getG_setG (n j : Fin 32) (v : Word) : (s.setG p n v).getG q j = if q = p ∧ j = n ∧ n ≠ 0 then v else s.getG q j := by
  by_cases hn : n = 0
  · rw [State.setG, if_pos hn, if_neg (fun h => h.2.2 hn)]
  · rw [State.setG, if_neg hn, State.getG, State.read_modCur s p q (fun b => tget 0#32 b.g j.val) _, tget_tset, State.getG]
    by_cases hj : j = n
    · subst hj
      simp [hn]
    · simp [hj, mt Fin.val_inj.mp hj]

theorem State.getG_zero : s.getG p 0 = 0#32 := if_pos rfl

theorem State.getA_setA (i k : Nat) (x : BitVec 40) : (s.setA p i x).getA q k = if q = p ∧ k = i then x else s.getA q k := by
  rw [State.getA, State.setA, State.read_modCur s p q (fun b => tget 0#40 b.a k) _, tget_tset, ite_and, State.getA]

theorem State.getM_setM (i k : Nat) (m : Word) : (s.setM p i m).getM q k = if q = p ∧ k = i then m else s.getM q k := by
  rw [State.getM, State.setM, State.read_modCur s p q (fun b => tget 0#32 b.m k) _, tget_tset, ite_and, State.getM]

theorem State.getAcc_setAcc (c d : Fin 4) (e : Int × Int) : (s.setAcc p c e).getAcc q d = if q = p ∧ d = c then e else s.getAcc q d := by
  rw [State.getAcc, State.setAcc, State.read_mpMod s p q (fun x => tget (0, 0) x.acc d.val) _, tget_tset, ite_and, State.getAcc]
  simp only [Fin.val_inj]

theorem State.getG_setA (i : Nat) (x : BitVec 40) (j : Fin 32) : (s.setA p i x).getG q j = s.getG q j := by
  rw [State.getG, State.setA, State.read_modCur_kept s p q (g := fun b => tget 0#32 b.g j.val)
    (f := fun b => { b with a := tset 0#40 b.a i x }) (fun _ => rfl), State.getG]

theorem State.getA_setM (i k : Nat) (m : Word) : (s.setM p i m).getA q k = s.getA q k :=
  State.read_modCur_kept s p q (g := fun b => tget 0#40 b.a k) (fun _ => rfl)

theorem State.getG_setAcc (c : Fin 4) (e : Int × Int) (j : Fin 32) : (s.setAcc p c e).getG q j = s.getG q j := by
  rw [State.getG, State.setAcc, State.read_mpMod s p q (fun x => tget 0#32 x.cur.g j.val) _, State.getG]
  exact congrArg _ (ite_self _)

end Registers

/-- Settles O54: reads after writes of each kind of register, by the lemma of each. -/
theorem registersOfMaceReadBack : Obligations.RegistersOfMaceReadBack :=
  fun s p q _ _ _ _ _ _ _ _ _ _ => ⟨s.getG_setG p q _ _ _, s.getG_zero p, s.getA_setA p q _ _ _, s.getG_setA p q _ _ _,
    s.getM_setM p q _ _ _, s.getA_setM p q _ _ _, s.getAcc_setAcc p q _ _ _, s.getG_setAcc p q _ _ _⟩

/-! ### Register pairs -/

theorem pairOk_iff (g : Fin 32) : pairOk g = true ↔ g.val % 2 = 0 ∧ g ≠ 0 := by
  rw [pairOk, Bool.and_eq_true, beq_iff_eq, bne_iff_ne, ne_eq, ne_eq, Fin.ext_iff, Fin.val_zero]

/-- The two registers of a pair differ, and neither is g0. -/
theorem pair_distinct : ∀ g : Fin 32, pairOk g = true → g ≠ 0 ∧ g + 1 ≠ 0 ∧ g ≠ g + 1 := by
  decide

/-- A pair reads back what it was given (R541). -/
theorem State.getPair_setPair (s : State) (p : Proc) {g : Fin 32} {v : Nat} (hg : pairOk g = true) (hv : v < 2 ^ 64) :
    (s.setPair p g v).getPair p g = v := by
  obtain ⟨hlo, hhi, hne⟩ := pair_distinct g hg
  rw [State.getPair, State.setPair, State.getG_setG, if_neg (fun h => hne h.2.1), State.getG_setG, if_pos ⟨rfl, rfl, hlo⟩,
    State.getG_setG, if_pos ⟨rfl, rfl, hhi⟩, BitVec.toNat_ofNat, BitVec.toNat_ofNat]
  omega

/-! ### One instruction -/

section Instruction
variable {s : State} {p : Proc}

/-- A processor that is ready does what its instruction does. -/
theorem next_instr {f : State → State} {t : State} (h : s.ready p = true) (ht : f s = t) :
    (Host.Outcome.next (s.instr p f) : Host.Outcome State Fault Refusal) = .next t :=
  congrArg _ ((State.instr_ready h f).trans ht)

/-- An instruction that writes `rd` with a value and goes on (R545). -/
theorem next_setOn {rd : Fin 32} {v w : Word} (h : s.ready p = true) (hv : v = w) :
    (Host.Outcome.next (s.setOn p rd v) : Host.Outcome State Fault Refusal) = .next ((s.setG p rd w).advance p) :=
  next_instr h (congrArg (fun x => (s.setG p rd x).advance p) hv)

/-- A branch goes to its target where its condition holds (R542, R545). -/
theorem next_branchOp {f : Word → Word → Bool} {a b : Fin 32} {d : BitVec 16} {c : Prop} [Decidable c] (h : s.ready p = true)
    (hc : f (s.getG p a) (s.getG p b) = true ↔ c) :
    (Host.Outcome.next (s.branchOp p f a b d) : Host.Outcome State Fault Refusal) =
      .next (if c then s.jump p ((s.mp (ix p)).pc + 4#32 + (d.signExtend 32 <<< 2)) else s.advance p) :=
  next_instr h (if_congr hc rfl rfl)

end Instruction

/-! ### Arithmetic -/

section Comparisons
variable (a b : Word)

theorem ofBool_slt : ofBool (a.slt b) = if a.toInt < b.toInt then 1#32 else 0#32 := if_congr BitVec.slt_iff_toInt_lt rfl rfl

theorem ofBool_ult : ofBool (a.ult b) = if a.toNat < b.toNat then 1#32 else 0#32 := if_congr BitVec.ult_iff_toNat_lt rfl rfl

theorem not_slt_iff : (!a.slt b) = true ↔ b.toInt ≤ a.toInt := by
  rw [Bool.not_eq_true', ← Bool.not_eq_true, BitVec.slt_iff_toInt_lt, not_lt]

theorem not_ult_iff : (!a.ult b) = true ↔ b.toNat ≤ a.toNat := by
  rw [Bool.not_eq_true', ← Bool.not_eq_true, BitVec.ult_iff_toNat_lt, not_lt]

end Comparisons

/-- Settles O38: each instruction writes `rd` by `next_setOn`; the comparisons by what `slt` and `ult` say. -/
theorem registerArithmeticOfMace : Obligations.RegisterArithmeticOfMace :=
  ⟨fun _ _ _ _ _ h => next_setOn h rfl, fun _ _ _ _ _ h => next_setOn h rfl, fun _ _ _ _ _ h => next_setOn h rfl,
    fun _ _ _ _ _ h => next_setOn h rfl, fun _ _ _ _ _ h => next_setOn h rfl, fun _ _ _ _ _ h => next_setOn h rfl,
    fun _ _ _ _ _ h => next_setOn h rfl, fun _ _ _ _ _ h => next_setOn h rfl,
    fun _ _ _ _ _ h => next_setOn h (ofBool_slt _ _), fun _ _ _ _ _ h => next_setOn h (ofBool_ult _ _),
    fun _ _ _ _ _ h => next_setOn h rfl, fun _ _ _ _ _ h => next_setOn h rfl, fun _ _ _ _ _ h => next_setOn h rfl,
    fun _ _ _ _ _ h => next_setOn h rfl, fun _ _ _ _ _ h => next_setOn h rfl, fun _ _ _ _ _ h => next_setOn h rfl,
    fun _ _ _ _ _ h => next_setOn h rfl, fun _ _ _ _ _ h => next_setOn h (if_congr BitVec.slt_iff_toInt_lt rfl rfl),
    fun _ _ _ _ _ h => next_setOn h (if_congr BitVec.slt_iff_toInt_lt rfl rfl), fun _ _ _ _ _ h => next_setOn h rfl,
    fun _ _ _ _ _ h => next_setOn h rfl⟩

/-- Settles O39: the arithmetic writes `rd` by `next_setOn`, the address operations by `next_instr`. -/
theorem immediateArithmeticAndAddressesOfMace : Obligations.ImmediateArithmeticAndAddressesOfMace :=
  ⟨fun _ _ _ _ _ h => next_setOn h rfl, fun _ _ _ _ _ h => next_setOn h rfl, fun _ _ _ _ _ h => next_setOn h rfl,
    fun _ _ _ _ _ h => next_setOn h rfl, fun _ _ _ _ _ h => next_setOn h (ofBool_slt _ _),
    fun _ _ _ _ _ h => next_setOn h (ofBool_ult _ _), fun _ _ _ _ h => next_setOn h rfl, fun _ _ _ _ _ h => next_setOn h rfl,
    fun _ _ _ _ _ h => next_setOn h rfl, fun _ _ _ _ _ h => next_setOn h rfl, fun _ _ _ _ _ h => next_instr h rfl,
    fun _ _ _ _ h => next_instr h rfl, fun _ _ _ _ h => next_instr h rfl, fun _ _ _ _ h => next_instr h rfl,
    fun _ _ _ _ h => next_instr h rfl, fun _ _ _ _ h => next_instr h rfl⟩

/-- Settles O41: each branch by its condition, each jump by its target. -/
theorem branchesAndJumpsOfMace : Obligations.BranchesAndJumpsOfMace :=
  ⟨fun _ _ _ _ _ h => next_branchOp h beq_iff_eq, fun _ _ _ _ _ h => next_branchOp h bne_iff_ne,
    fun _ _ _ _ _ h => next_branchOp h BitVec.slt_iff_toInt_lt, fun _ _ _ _ _ h => next_branchOp h (not_slt_iff _ _),
    fun _ _ _ _ _ h => next_branchOp h BitVec.ult_iff_toNat_lt, fun _ _ _ _ _ h => next_branchOp h (not_ult_iff _ _),
    fun _ _ _ h => next_instr h rfl, fun _ _ _ h => next_instr h rfl, fun _ _ _ h => next_instr h rfl,
    fun _ _ _ _ h => next_instr h rfl⟩

/-! ### Loads and stores -/

section LoadsAndStores
variable {s : State} {p : Proc} {n : Nat} {ext : Nat → Nat} {g : Fin 32} {md : Fin 4} {a : Fin 8} {i : BitVec 16}

/-- An access of eight bytes at a register that names no pair is ILLEGAL (R541). -/
theorem next_loadOp_oddPair (h : s.ready p = true) (hpair : pairOk g = false) :
    (Host.Outcome.next (s.loadOp p 8 ext g md a i) : Host.Outcome State Fault Refusal) = .next (s.illegal p) :=
  next_instr h (if_pos ⟨rfl, by rw [hpair]; rfl⟩)

theorem next_storeOp_oddPair (h : s.ready p = true) (hpair : pairOk g = false) :
    (Host.Outcome.next (s.storeOp p 8 g md a i) : Host.Outcome State Fault Refusal) = .next (s.illegal p) :=
  next_instr h (if_pos ⟨rfl, by rw [hpair]; rfl⟩)

/-- An access whose mode gives no address is ILLEGAL (R543). -/
theorem next_loadOp_noAddress (h : s.ready p = true) (hform : s.mForm p md a i = none) :
    (Host.Outcome.next (s.loadOp p n ext g md a i) : Host.Outcome State Fault Refusal) = .next (s.illegal p) :=
  next_instr h (by rw [hform, ite_self])

theorem next_storeOp_noAddress (h : s.ready p = true) (hform : s.mForm p md a i = none) :
    (Host.Outcome.next (s.storeOp p n g md a i) : Host.Outcome State Fault Refusal) = .next (s.illegal p) :=
  next_instr h (by rw [hform, ite_self])

section Addressed
variable {x y : BitVec 40} (hform : s.mForm p md a i = some (x, y))
include hform

/-- A load of up to four bytes that is answered writes the extended value and the address register (R543, R544). -/
theorem next_loadOp_word {u : State} {bs : List Byte} (h : s.ready p = true) (hn : n ≠ 8) (hload : s.load p x.toNat n = (u, .ok bs)) :
    (Host.Outcome.next (s.loadOp p n ext g md a i) : Host.Outcome State Fault Refusal) =
      .next (((u.setA p a.val y).setG p g (BitVec.ofNat 32 (ext (leNat bs)))).advance p) :=
  next_instr h (by simp only [hn, false_and, if_false, hform, hload])

theorem next_loadOp_pair {u : State} {bs : List Byte} (h : s.ready p = true) (hpair : pairOk g = true)
    (hload : s.load p x.toNat 8 = (u, .ok bs)) :
    (Host.Outcome.next (s.loadOp p 8 ext g md a i) : Host.Outcome State Fault Refusal) =
      .next (((u.setA p a.val y).setPair p g (ext (leNat bs))).advance p) :=
  next_instr h (by simp only [hpair, Bool.not_true, Bool.false_eq_true, and_false, if_false, if_true, hform, hload])

/-- A store of up to four bytes that is no exception (R543, R544). -/
theorem next_storeOp_word (h : s.ready p = true) (hn : n ≠ 8) (hplace : storeFault p x.toNat n = none) :
    (Host.Outcome.next (s.storeOp p n g md a i) : Host.Outcome State Fault Refusal) =
      .next (((s.setA p a.val y).advance p).store p x.toNat (leBytes n (s.getG p g).toNat)) :=
  next_instr h (by simp only [hn, false_and, if_false, hform, hplace])

theorem next_storeOp_pair (h : s.ready p = true) (hpair : pairOk g = true) (hplace : storeFault p x.toNat 8 = none) :
    (Host.Outcome.next (s.storeOp p 8 g md a i) : Host.Outcome State Fault Refusal) =
      .next (((s.setA p a.val y).advance p).store p x.toNat (leBytes 8 (s.getPair p g))) :=
  next_instr h (by simp only [hpair, Bool.not_true, Bool.false_eq_true, and_false, if_false, if_true, hform, hplace])

end Addressed

end LoadsAndStores

/-- Settles O40: each load and store by its width, those of eight bytes by the pair. -/
theorem loadsAndStoresOfMace : Obligations.LoadsAndStoresOfMace :=
  ⟨fun _ _ _ _ _ _ _ _ _ _ h hform hload => next_loadOp_word hform h (by decide) hload,
    fun _ _ _ _ _ _ _ _ _ _ h hform hload => next_loadOp_word hform h (by decide) hload,
    fun _ _ _ _ _ _ _ _ _ _ h hform hload => next_loadOp_word hform h (by decide) hload,
    fun _ _ _ _ _ _ _ _ _ _ h hform hload => next_loadOp_word hform h (by decide) hload,
    fun _ _ _ _ _ _ _ _ _ _ h hform hload => next_loadOp_word hform h (by decide) hload,
    fun _ _ _ _ _ _ _ _ _ _ h hpair hform hload => next_loadOp_pair hform h hpair hload,
    fun _ _ _ _ _ _ _ _ h hform hplace => next_storeOp_word hform h (by decide) hplace,
    fun _ _ _ _ _ _ _ _ h hform hplace => next_storeOp_word hform h (by decide) hplace,
    fun _ _ _ _ _ _ _ _ h hform hplace => next_storeOp_word hform h (by decide) hplace,
    fun _ _ _ _ _ _ _ _ h hpair hform hplace => next_storeOp_pair hform h hpair hplace⟩

/-- Settles O52: the four modes by the definition of the form, each access by `next_loadOp_noAddress` or `next_storeOp_noAddress`. -/
theorem addressesOfLoadsAndStores : Obligations.AddressesOfLoadsAndStores :=
  ⟨fun _ _ _ _ => ⟨rfl, rfl, rfl, rfl⟩, fun _ _ _ _ _ _ h hform => next_loadOp_noAddress h hform,
    fun _ _ _ _ _ _ h hform => next_loadOp_noAddress h hform, fun _ _ _ _ _ _ h hform => next_loadOp_noAddress h hform,
    fun _ _ _ _ _ _ h hform => next_loadOp_noAddress h hform, fun _ _ _ _ _ _ h hform => next_loadOp_noAddress h hform,
    fun _ _ _ _ _ _ h hform => next_loadOp_noAddress h hform, fun _ _ _ _ _ _ h hform => next_storeOp_noAddress h hform,
    fun _ _ _ _ _ _ h hform => next_storeOp_noAddress h hform, fun _ _ _ _ _ _ h hform => next_storeOp_noAddress h hform,
    fun _ _ _ _ _ _ h hform => next_storeOp_noAddress h hform⟩

/-- Settles O53: pairs read back by `State.getPair_setPair`; each instruction that names no pair is ILLEGAL. -/
theorem registerPairsAreEven : Obligations.RegisterPairsAreEven :=
  ⟨pairOk_iff, fun _ _ _ => rfl, fun s p _ _ hg hv => s.getPair_setPair p hg hv,
    fun _ _ _ _ _ _ h hpair => next_loadOp_oddPair h hpair, fun _ _ _ _ _ _ h hpair => next_storeOp_oddPair h hpair,
    fun _ _ _ h hpair => next_instr h (if_neg (ne_true_of_eq_false hpair)),
    fun _ _ _ h hpair => next_instr h (if_neg (ne_true_of_eq_false hpair)),
    fun _ _ _ h hpair => next_instr h (if_pos (by rw [hpair]; rfl))⟩

end Sys2Proof.Machine

/-! Proofs of the statements of Mace and the Clove engines, continued: accumulators, control registers and waits, exceptions, moves, the
three-bus instructions and the states of the engines (R547 to R575). -/
namespace Sys2Proof.Machine

/-! ### Accumulator instructions -/

/-- Settles O42: each instruction is ready and does what its definition says, MAC by the product of two complex or two real operands. -/
theorem accumulatorInstructionsOfMace : Obligations.AccumulatorInstructionsOfMace :=
  ⟨fun _ _ _ _ _ _ _ _ h => next_instr h rfl, fun _ _ _ _ _ _ _ _ h => next_instr h rfl, fun _ _ _ _ h => next_instr h rfl,
    fun _ _ _ _ h => next_instr h rfl, fun _ _ _ h => next_instr h rfl, fun _ _ _ _ _ h => next_instr h rfl,
    fun _ _ _ _ h => next_instr h rfl, fun _ _ _ _ h => next_instr h rfl, fun _ _ _ _ h => next_instr h rfl⟩

/-! ### Control registers, time and waits -/

section Waits
variable {s : State} {p : Proc} {rd : Fin 32}

/-- RDCSR of a register that the processor has, CYCLE_LO apart (R558). -/
theorem execRdcsr_held {c : BitVec 12} {v : Word} (h : s.ready p = true) (hc : c ≠ 8#12) (hv : s.csrRead p c.toNat = some v) :
    execRdcsr p rd c s = .next ((s.setG p rd v).advance p) :=
  next_instr h ((if_neg hc).trans (by rw [hv]))

theorem execWrcsr_held {a : Fin 32} {c : BitVec 12} {t : State} (h : s.ready p = true) (ht : s.csrWrite p c.toNat (s.getG p a) = some t) :
    execWrcsr p a c s = .next (t.advance p) :=
  next_instr h (by rw [ht])

/-- WAITSI of a pair goes on at once where its time has come (R556). -/
theorem execWaitsi_pair (h : s.ready p = true) (hpair : pairOk rd = true) :
    execWaitsi p rd s = .next (if s.getPair p rd ≤ s.siNow then s.advance p else s.waitFor p (.si (s.getPair p rd))) :=
  next_instr h (if_neg (by rw [hpair]; decide))

theorem execWaitsiEnd_reached {n : Nat} (hwait : (s.mp (ix p)).wait = .si n) (hn : n ≤ s.siNow) (hawake : s.awake p = true) :
    execWaitsiEnd p s = .next ((s.advance p).showWait p) := by
  rw [execWaitsiEnd, hwait]
  exact congrArg Host.Outcome.next (if_pos (by simp [hn, hawake]))

theorem execWfeEnd_flag {e : Fin 16} {m : Nat} (hwait : (s.mp (2 + e.val)).wait = .flags m)
    (hflag : s.flagsOf e.val &&& BitVec.ofNat 32 m ≠ 0#32) (hawake : s.awake (.clove e) = true) :
    execWfeEnd e s = .next ((s.advance (.clove e)).showClove e.val) := by
  rw [execWfeEnd, hwait]
  exact congrArg Host.Outcome.next (if_pos ⟨hflag, hawake⟩)

end Waits

/-- Settles O43: each instruction at the case that its conditions choose. -/
theorem timeWaitsAndCsrsOfMace : Obligations.TimeWaitsAndCsrsOfMace :=
  ⟨fun _ _ _ _ _ h hc hv => execRdcsr_held h hc hv, fun _ _ _ h => next_instr h rfl, fun _ _ _ _ _ h ht => execWrcsr_held h ht,
    fun _ _ _ h => next_instr h rfl, fun _ _ _ h hpair => next_instr h (if_pos hpair),
    fun _ _ _ h hpair => next_instr h (if_pos hpair), fun _ _ _ h hpair => execWaitsi_pair h hpair,
    fun _ _ _ hwait hn hawake => execWaitsiEnd_reached hwait hn hawake, fun _ _ _ h => next_instr h rfl,
    fun _ _ _ hwait hflag hawake => execWfeEnd_flag hwait hflag hawake, fun _ _ h => next_instr h rfl⟩

/-! ### Exceptions and returns -/

section Exceptions
variable {s : State} {c : Fin 2}

/-- A Curator outside an exception saves what R561 names and goes on at the entry of the cause. -/
theorem State.take_cur (cause addr : Nat) (hexc : (s.mp c.val).cur.ecause.getLsbD 31 = false) :
    s.take (.cur c) cause addr = s.mpMod c.val (fun p =>
      { p.modCur (fun b => { b with epc := p.pc, ecause := BitVec.ofNat 32 (2 ^ 31 + cause), eaddr := BitVec.ofNat 40 addr }) with
        pc := (p.ebase &&& 0xFFFFFF00#32) + BitVec.ofNat 32 (16 * cause), wait := .run }) :=
  State.mpMod_congr (if_neg (ne_true_of_eq_false hexc))

theorem execStoreErr_awake {p : Proc} {a : Nat} (herr : (s.mp (ix p)).storeErr = some a) (hawake : s.awake p = true) :
    execStoreErr p s = .next (((s.mpMod (ix p) (fun x => { x with storeErr := none })).take p 5 a).showWait p) := by
  rw [execStoreErr, herr]
  exact congrArg Host.Outcome.next (if_neg (by rw [hawake]; decide))

/-- ERET in a fast handler outside an exception returns from the handler (R587). -/
theorem execEret_handler (h : s.ready (.cur c) = true) (hexc : (s.mp c.val).cur.ecause.getLsbD 31 = false)
    (hfast : (s.mp c.val).inFast = true) : execEret (.cur c) s = .next (s.returnHandler c.val) :=
  next_instr h ((if_neg (ne_true_of_eq_false hexc)).trans (if_pos (by rw [hfast]; rfl)))

end Exceptions

/-- Settles O44: exceptions of a Curator by `State.take_cur`, the returns and STOP at the case that their conditions choose. -/
theorem exceptionsAndReturnsOfMace : Obligations.ExceptionsAndReturnsOfMace :=
  ⟨fun _ k _ h hexc => next_instr h (State.take_cur causeTrap k.toNat hexc), fun _ _ _ h => next_instr h rfl,
    fun _ _ s h hexc => next_instr h (State.take_cur causeFetch (s.mp _).pc.toNat hexc), fun _ _ _ h => next_instr h rfl,
    fun _ _ _ h => next_instr h rfl, fun _ _ _ herr hawake => execStoreErr_awake herr hawake,
    fun _ _ h hexc => next_instr h (if_pos hexc), fun _ _ h hexc hfast => execEret_handler h hexc hfast,
    fun _ _ h => next_instr h rfl⟩

/-! ### Moves -/

section Moves
variable {e : Fin 16} {rd : Fin 32} {l m : Fin 8} {inw : Bool} {k : Fin 4} {s : State} (h : s.ready (.clove e) = true)
  (hlocal : (s.getA (.clove e) l.val).toNat % 4 = 0) (hmatrix : (s.getA (.clove e) m.val).toNat % 4 = 0)
include h hlocal hmatrix

/-- A lawful BMOV starts its move, or waits for room (R566). -/
theorem execBmov_lawful (hpos : 0 < (s.getG (.clove e) rd).toNat) (hmax : (s.getG (.clove e) rd).toNat ≤ 4096)
    (hwhole : (s.getG (.clove e) rd).toNat % 4 = 0) (hspace : (s.getA (.clove e) l.val).toNat < 0x80000)
    (hbus : [1, 2, 3].contains (localMem (s.getA (.clove e) l.val).toNat) = true)
    (hone : localMem ((s.getA (.clove e) l.val).toNat + (s.getG (.clove e) rd).toNat - 1) = localMem (s.getA (.clove e) l.val).toNat) :
    execBmov (.clove e) rd l m inw k s = .next (
      let mv : Move := ⟨(s.getA (.clove e) l.val).toNat, (s.getA (.clove e) m.val).toNat, (s.getG (.clove e) rd).toNat, inw,
        s.qosB (.clove e) k, 8, l.val, m.val⟩
      if (s.mp (2 + e.val)).moves.length < 4 then s.startMove e mv
      else (s.mpMod (2 + e.val) (fun x => { x with waiting := some mv })).waitFor (.clove e) .room) :=
  have haligned : ¬ ((s.getG (.clove e) rd).toNat % 4 ≠ 0 ∨ (s.getA (.clove e) l.val).toNat % 4 ≠ 0) := by omega
  have hplace : ¬ (0x80000 ≤ (s.getA (.clove e) l.val).toNat ∨ !([1, 2, 3].contains (localMem (s.getA (.clove e) l.val).toNat)) ∨
      localMem ((s.getA (.clove e) l.val).toNat + (s.getG (.clove e) rd).toNat - 1) ≠ localMem (s.getA (.clove e) l.val).toNat) := by
    rw [hbus, hone]
    simpa using hspace
  next_instr h ((if_neg hmax.not_gt).trans ((if_neg haligned).trans ((if_neg (not_not.mpr hmatrix)).trans
    ((if_neg hpos.ne').trans (if_neg hplace)))))

theorem execBmov_empty (hzero : (s.getG (.clove e) rd).toNat = 0) :
    execBmov (.clove e) rd l m inw k s = .next (s.advance (.clove e)) :=
  next_instr h ((if_neg (by omega)).trans ((if_neg (by omega)).trans ((if_neg (not_not.mpr hmatrix)).trans (if_pos hzero))))

end Moves

/-- The end of a move that succeeds, with no other waiting: the engine's waits are looked at again (R566). -/
theorem execBmovComplete_ok {e : Fin 16} {k : Fin 4} {mv : Move} {s u : State} (hmove : (s.mp (2 + e.val)).moves[k.val]? = some mv)
    (hreset : s.cloveResetting e.val = false) (hrun : s.runMove e.val mv false = (u, none)) (hstays : u.cloveResetting e.val = false)
    (hon : u.cloveState e.val = 1) (hwaiting : (u.mp (2 + e.val)).waiting = none) :
    execBmovComplete e k s = .next (((u.mpMod (2 + e.val) (fun x =>
      { x with moves := x.moves.eraseIdx k.val })).wakeFence (.clove e)).showClove e.val) := by
  have hnone : ((u.mpMod (2 + e.val) (fun x => { x with moves := x.moves.eraseIdx k.val })).mp (2 + e.val)).waiting = none := by
    rw [mp_mpMod, if_pos rfl]
    exact hwaiting
  rw [execBmovComplete, hmove]
  dsimp only
  rw [hreset, hrun]
  refine congrArg Host.Outcome.next ((if_neg (ne_true_of_eq_false hstays)).trans ((if_neg (not_not.mpr hon)).trans ?_))
  rw [hnone]

/-- Settles O45: BMOV by the checks that it passes, its end by `execBmovComplete_ok`, BWAIT by its definition. -/
theorem movesOfTheClovesStartAndEnd : Obligations.MovesOfTheClovesStartAndEnd :=
  ⟨fun _ _ _ _ _ _ _ h hpos hmax hwhole hlocal hmatrix hspace hbus hone =>
      execBmov_lawful h hlocal hmatrix hpos hmax hwhole hspace hbus hone,
    fun _ _ _ _ _ _ _ h hzero hlocal hmatrix => execBmov_empty h hlocal hmatrix hzero,
    fun _ _ _ _ _ hmove hreset hrun ⟨hstays, hon, hwaiting⟩ => execBmovComplete_ok hmove hreset hrun hstays hon hwaiting,
    fun _ _ h => next_instr h rfl⟩

/-! ### Three-bus instructions and LOOP -/

theorem firstFault_eq_none : ∀ {l : List (Option (Nat × Nat))}, (∀ f ∈ l, f = none) → firstFault l = none
  | [], _ => rfl
  | none :: l, h => firstFault_eq_none (l := l) (fun f hf => h f (List.mem_cons_of_mem _ hf))
  | some x :: _, h => absurd (h (some x) List.mem_cons_self) (Option.some_ne_none x)

section ThreeBus
variable {s : State} {e : Fin 16} {d : DBits} {op : DOp} {f : State → Opnd → Opnd → State}

/-- The Y move of a three-bus instruction that began in `s`: none without YEN, to Y from g, or from Y to g (R551). -/
def State.moveY (t s : State) (e : Fin 16) (d : DBits) : State :=
  let y := (s.getA (.clove e) (dYa d)).toNat
  if d.yen = false then t
  else if d.ydir then t.stNat (cloveAt e.val y) 4 (s.getG (.clove e) d.g).toNat
  else t.setG (.clove e) d.g (BitVec.ofNat 32 (s.ldNat (cloveAt e.val y) 4))

/-- What an instruction that has no operand at Y does where no access is a fault (R551, R552). -/
def State.busDone (s : State) (e : Fin 16) (d : DBits) (op : DOp) (f : State → Opnd → Opnd → State) : State :=
  let x := (s.getA (.clove e) (dXa d)).toNat
  let c := (s.getA (.clove e) (dCa d)).toNat
  let n := elemSize d.xcplx
  let u := f s (s.elemAt e.val x d.xcplx) (s.elemAt e.val c d.ocplx)
  let v := u.doIf op.tap (fun t => t.stBytes (cloveAt e.val (x + n)) (s.ldBytes (cloveAt e.val x) n))
  let w := (v.moveY s e d).postMod (.clove e) (dXa d) (dXm d)
  let z := w.doIf d.yen (fun t => t.postMod (.clove e) (dYa d) (dYm d))
  (z.doIf (op.useC || op.move) (fun t => t.postMod (.clove e) (dCa d) (dCm d))).advance (.clove e)

/-- A three-bus instruction without an operand at Y and without a fault (R553). -/
theorem next_threeBus (h : s.ready (.clove e) = true) (huse : op.useY = false)
    (hx : op.move = false → busFault 1 (s.getA (.clove e) (dXa d)).toNat (elemSize d.xcplx) = none)
    (htap : op.tap = true →
      busFault 1 (((s.getA (.clove e) (dXa d)).toNat + elemSize d.xcplx) % 2 ^ 40) (elemSize d.xcplx) = none)
    (hc : op.useC = true → busFault 3 (s.getA (.clove e) (dCa d)).toNat (elemSize d.ocplx) = none)
    (hy : d.yen = true → busFault 2 (s.getA (.clove e) (dYa d)).toNat 4 = none) :
    (Host.Outcome.next (s.threeBus (.clove e) d op f) : Host.Outcome State Fault Refusal) = .next (s.busDone e d op f) := by
  have hmay : ¬ (d.yen && op.useY) = true := by rw [huse, Bool.and_false]; decide
  have hsound : firstFault
      [if op.move then none else busFault 1 (s.getA (.clove e) (dXa d)).toNat (elemSize d.xcplx),
       if op.tap then busFault 1 (((s.getA (.clove e) (dXa d)).toNat + elemSize d.xcplx) % 2 ^ 40) (elemSize d.xcplx) else none,
       if op.useY then busFault 2 (s.getA (.clove e) (dYa d)).toNat (elemSize d.ocplx) else none,
       if op.useC then busFault 3 (s.getA (.clove e) (dCa d)).toNat (elemSize d.ocplx) else none,
       if d.yen then busFault 2 (s.getA (.clove e) (dYa d)).toNat 4 else none] = none := by
    refine firstFault_eq_none (List.forall_mem_cons.mpr ⟨?_, ?_⟩)
    · cases hmove : op.move
      · exact hx hmove
      · rfl
    · simpa [huse, ite_eq_right_iff.mpr hc, ite_eq_right_iff.mpr hy] using htap
  refine next_instr h ((if_neg hmay).trans ?_)
  dsimp only
  rw [hsound, huse]
  unfold State.busDone State.moveY
  cases d.yen <;> rfl

/-- D_MACY and D_MACYZ: the second operand at Y, without a fault (R551, R553). -/
theorem next_threeBus_Y {f : State → Opnd → Opnd → State} (h : s.ready (.clove e) = true)
    (hx : busFault 1 (s.getA (.clove e) (dXa d)).toNat (elemSize d.xcplx) = none) (hyen : d.yen = false)
    (hy : busFault 2 (s.getA (.clove e) (dYa d)).toNat (elemSize d.ocplx) = none) :
    (Host.Outcome.next (s.threeBus (.clove e) d ⟨true, false, false, false⟩ f) : Host.Outcome State Fault Refusal) =
      .next ((((f s (s.elemAt e.val (s.getA (.clove e) (dXa d)).toNat d.xcplx)
        (s.elemAt e.val (s.getA (.clove e) (dYa d)).toNat d.ocplx)).postMod (.clove e) (dXa d) (dXm d)).postMod (.clove e)
          (dYa d) (dYm d)).advance (.clove e)) := by
  refine next_instr h ((if_neg (by rw [hyen]; decide)).trans ?_)
  dsimp only
  rw [hyen]
  simp only [firstFault, hx, hy, if_true, if_false, Bool.false_eq_true]
  rfl

end ThreeBus

section Loop
variable {s : State} {e : Fin 16} {n : BitVec 13} {r : Fin 32} {len : BitVec 12} (h : s.ready (.clove e) = true) (hlen : len ≠ 0#12)
  (hroom : (s.mp (2 + e.val)).loops.length < 2)
include h hlen hroom

theorem execLoop_immediate (hn : n.toNat ≠ 0) :
    execLoop (.clove e) true n r len s = .next (s.mpMod (2 + e.val) (fun x =>
      { x with loops := ⟨s.nextPc (.clove e), s.nextPc (.clove e) + 4 * len.toNat, n.toNat⟩ :: x.loops, pc := x.pc + 4#32 })) :=
  have hlawful : ¬ (len = 0#12 ∨ (true = true ∧ n.toNat = 0) ∨ 2 ≤ (s.mp (2 + e.val)).loops.length) :=
    not_or.mpr ⟨hlen, not_or.mpr ⟨fun hz => hn hz.2, hroom.not_ge⟩⟩
  next_instr h ((if_neg hlawful).trans (if_neg hn))

theorem execLoop_register :
    execLoop (.clove e) false n r len s = .next (if (s.getG (.clove e) r).toNat = 0 then
        s.seqTo (.clove e) (s.nextPc (.clove e) + 4 * len.toNat)
      else s.mpMod (2 + e.val) (fun x =>
        { x with loops := ⟨s.nextPc (.clove e), s.nextPc (.clove e) + 4 * len.toNat, (s.getG (.clove e) r).toNat⟩ :: x.loops,
                 pc := x.pc + 4#32 })) :=
  have hlawful : ¬ (len = 0#12 ∨ (false = true ∧ (s.getG (.clove e) r).toNat = 0) ∨ 2 ≤ (s.mp (2 + e.val)).loops.length) :=
    not_or.mpr ⟨hlen, not_or.mpr ⟨fun hz => Bool.false_ne_true hz.1, hroom.not_ge⟩⟩
  next_instr h (if_neg hlawful)

end Loop

/-- Settles O46: the instructions without an operand at Y by `next_threeBus`, the others by `next_threeBus_Y`. -/
theorem threeBusInstructionsOfTheCloves : Obligations.ThreeBusInstructionsOfTheCloves :=
  ⟨fun _ _ _ h hx hc hy => next_threeBus h rfl (fun _ => hx) nofun (fun _ => hc) hy,
    fun _ _ _ h hx hc hy => next_threeBus h rfl (fun _ => hx) nofun (fun _ => hc) hy,
    fun _ _ _ h hx hyen hy => next_threeBus_Y h hx hyen hy, fun _ _ _ h hx hyen hy => next_threeBus_Y h hx hyen hy,
    fun _ _ _ h hx htap hc hy => next_threeBus h rfl (fun _ => hx) (fun _ => htap) (fun _ => hc) hy,
    fun _ _ _ h hx htap hc hy => next_threeBus h rfl (fun _ => hx) (fun _ => htap) (fun _ => hc) hy,
    fun _ _ _ h hx hy => next_threeBus h rfl (fun _ => hx) nofun nofun hy,
    fun _ _ _ h hx hy => next_threeBus h rfl (fun _ => hx) nofun nofun hy, fun _ _ _ h hy => next_threeBus h rfl nofun nofun nofun hy,
    fun _ _ _ _ _ h hlen hn hroom => execLoop_immediate h hlen hroom hn,
    fun _ _ _ _ _ h hlen hroom => execLoop_register h hlen hroom⟩

/-! ### States of the engines -/

section Engines
variable {e : Fin 16} {s : State}

theorem execCloveRun_off (hloading : s.fbit (F.CLOVE_STATUS_LOADING e.val) = false) (hreset : s.cloveResetting e.val = false)
    (hoff : s.cloveState e.val = 0) : execCloveRun e s = .next (s.cloveStart e.val s.siNow) := by
  rw [execCloveRun, hloading, hreset, hoff]
  rfl

theorem execCloveRun_halted (hloading : s.fbit (F.CLOVE_STATUS_LOADING e.val) = false) (hreset : s.cloveResetting e.val = false)
    (hhalted : s.cloveState e.val = 2) : execCloveRun e s = .next ((s.fput (F.CLOVE_STATUS_STATE e.val) 1).showClove e.val) := by
  rw [execCloveRun, hloading, hreset, hhalted]
  rfl

theorem execCloveHalt_running (hon : s.cloveState e.val = 1) (hreset : s.cloveResetting e.val = false) :
    execCloveHalt e s = .next (s.cloveStop e.val 2) :=
  congrArg Host.Outcome.next (if_pos ⟨hon, by rw [hreset]; rfl⟩)

theorem execCloveReset_idle (hmoves : (s.mp (2 + e.val)).moves = []) : execCloveReset e s = .next (s.cloveOff e.val) :=
  congrArg Host.Outcome.next (if_pos (by rw [hmoves]; rfl))

theorem execCloveReset_moving {x : Move} {l : List Move} (hmoves : (s.mp (2 + e.val)).moves = x :: l) :
    execCloveReset e s = .next ((s.mpMod (2 + e.val) (fun p => { p with wait := .run, waiting := none })).raise
      (F.CLOVE_CTRL_RESET e.val)) :=
  congrArg Host.Outcome.next (if_neg (by rw [hmoves]; exact Bool.false_ne_true))

end Engines

/-- Settles O29: each command at the state of the engine that its conditions choose. -/
theorem clovesStartHaltResetAndKick : Obligations.ClovesStartHaltResetAndKick :=
  ⟨fun _ _ hloading hreset hoff => execCloveRun_off hloading hreset hoff,
    fun _ _ hloading hreset hhalted => execCloveRun_halted hloading hreset hhalted,
    fun _ _ hon hreset => execCloveHalt_running hon hreset, fun _ _ hmoves => execCloveReset_idle hmoves,
    fun _ _ _ _ hmoves => execCloveReset_moving hmoves, fun _ _ hon => congrArg Host.Outcome.next (if_neg hon)⟩

end Sys2Proof.Machine

/-! Proofs of the statements of Mace, continued: what the accumulators hold and record, and what the instructions leave as it was (R540,
R545, R547, R548, R561, R569). -/
namespace Sys2Proof.Machine

/-! ### Additions to an accumulator -/

/-- A symmetric saturation is a clamp, and says whether it changed the value. -/
theorem satSym_clamp (lim : Nat) (v : Int) : satSym lim v = (max (-(lim : Int)) (min v lim), decide (lim < v.natAbs)) := by
  rw [satSym]
  split
  · rw [decide_eq_true (by omega), max_eq_right (by omega), min_eq_right (by omega)]
  · split
    · rw [decide_eq_true (by omega), max_eq_left (by omega)]
    · rw [decide_eq_false (by omega), min_eq_left (by omega), max_eq_right (by omega)]

theorem accAdd_clamp (a d : Int) :
    accAdd a d = (max (-(2 ^ 39 - 1)) (min (a + d) (2 ^ 39 - 1)), decide (2 ^ 39 - 1 < (a + d).natAbs)) :=
  satSym_clamp (2 ^ 39 - 1) (a + d)

/-- DSPSTAT takes the bit exactly where the condition holds (R548, R549). -/
theorem State.dspFlag_dspstat (s : State) (p : Proc) (k : Nat) (c : Bool) :
    ((s.dspFlag p k c).mp (ix p)).dspstat = if c then insertBits (s.mp (ix p)).dspstat k 1 1 else (s.mp (ix p)).dspstat := by
  rw [State.dspFlag]
  split
  · rw [mp_mpMod, if_pos rfl]
  · rfl

theorem State.setAcc_dspstat (s : State) (p : Proc) (n : Fin 4) (v : Int × Int) :
    ((s.setAcc p n v).mp (ix p)).dspstat = (s.mp (ix p)).dspstat := by
  rw [State.setAcc, mp_mpMod, if_pos rfl]

/-- An accumulation records a saturation of either part in ASAT (R548). -/
theorem State.accumulate_dspstat (s : State) (p : Proc) (n : Fin 4) (x : Int × Option Int) (neg : Bool) :
    ((s.accumulate p n x neg false).mp (ix p)).dspstat =
      if decide (2 ^ 39 - 1 < ((s.getAcc p n).1 + (if neg then -x.1 else x.1)).natAbs)
          || x.2.any (fun i => decide (2 ^ 39 - 1 < ((s.getAcc p n).2 + (if neg then -i else i)).natAbs))
      then insertBits (s.mp (ix p)).dspstat 0 1 1 else (s.mp (ix p)).dspstat := by
  obtain ⟨re, _ | im⟩ := x <;> rw [State.accumulate, State.dspFlag_dspstat, State.setAcc_dspstat] <;> simp [accAdd_clamp]

/-! ### Products -/

theorem natAbs_toSigned_le (n : Nat) : (toSigned 16 n).natAbs ≤ 2 ^ 15 := by
  rw [toSigned]
  split <;> omega

theorem natAbs_cre_le (w : Word) : (cre w).natAbs ≤ 2 ^ 15 := natAbs_toSigned_le _

theorem natAbs_cim_le (w : Word) : (cim w).natAbs ≤ 2 ^ 15 := natAbs_toSigned_le _

/-- Whether every value of an operand is at most 2^15 in magnitude. -/
def Opnd.Small : Opnd → Prop
  | .cplx re im => re.natAbs ≤ 2 ^ 15 ∧ im.natAbs ≤ 2 ^ 15
  | .real v => v.natAbs ≤ 2 ^ 15

theorem opnd_small (c : Bool) (w : Word) : (opnd c w).Small := by
  cases c
  · exact natAbs_cim_le w
  · exact ⟨natAbs_cre_le w, natAbs_cim_le w⟩

theorem natAbs_mul_le {a b : Int} (ha : a.natAbs ≤ 2 ^ 15) (hb : b.natAbs ≤ 2 ^ 15) : (a * b).natAbs ≤ 2 ^ 31 := by
  rw [Int.natAbs_mul]
  exact (Nat.mul_le_mul ha hb).trans (by decide)

theorem natAbs_add_mul_le {a b c d : Int} (ha : a.natAbs ≤ 2 ^ 15) (hb : b.natAbs ≤ 2 ^ 15) (hc : c.natAbs ≤ 2 ^ 15)
    (hd : d.natAbs ≤ 2 ^ 15) : (a * b + c * d).natAbs ≤ 2 ^ 31 :=
  natAbs_mul_add_mul_le ha hb hc hd

theorem natAbs_sub_mul_le {a b c d : Int} (ha : a.natAbs ≤ 2 ^ 15) (hb : b.natAbs ≤ 2 ^ 15) (hc : c.natAbs ≤ 2 ^ 15)
    (hd : d.natAbs ≤ 2 ^ 15) : (a * b - c * d).natAbs ≤ 2 ^ 31 := by
  rw [sub_eq_add_neg, ← neg_mul]
  exact natAbs_add_mul_le ha hb ((Int.natAbs_neg c).trans_le hc) hd

/-- No part of a product of words is more than 2^31 in magnitude (R547). -/
theorem product_le {x y : Opnd} (conj : Bool) (hx : x.Small) (hy : y.Small) :
    (product x y conj).1.natAbs ≤ 2 ^ 31 ∧ ∀ i, (product x y conj).2 = some i → i.natAbs ≤ 2 ^ 31 := by
  match x, y, conj, hx, hy with
  | .cplx _ _, .cplx _ _, true, ⟨hxr, hxi⟩, ⟨hyr, hyi⟩ =>
    exact ⟨natAbs_add_mul_le hxr hyr hxi hyi, fun _ hi => Option.some.inj hi ▸ natAbs_sub_mul_le hxi hyr hxr hyi⟩
  | .cplx _ _, .cplx _ _, false, ⟨hxr, hxi⟩, ⟨hyr, hyi⟩ =>
    exact ⟨natAbs_sub_mul_le hxr hyr hxi hyi, fun _ hi => Option.some.inj hi ▸ natAbs_add_mul_le hxr hyi hxi hyr⟩
  | .cplx _ _, .real _, _, ⟨hxr, hxi⟩, hy =>
    exact ⟨natAbs_mul_le hxr hy, fun _ hi => Option.some.inj hi ▸ natAbs_mul_le hxi hy⟩
  | .real _, .cplx _ _, true, hx, ⟨hyr, hyi⟩ =>
    exact ⟨natAbs_mul_le hx hyr, fun _ hi => Option.some.inj hi ▸ (Int.natAbs_neg _).trans_le (natAbs_mul_le hx hyi)⟩
  | .real _, .cplx _ _, false, hx, ⟨hyr, hyi⟩ =>
    exact ⟨natAbs_mul_le hx hyr, fun _ hi => Option.some.inj hi ▸ natAbs_mul_le hx hyi⟩
  | .real _, .real _, _, hx, hy => exact ⟨natAbs_mul_le hx hy, nofun⟩

theorem accAdd_of_natAbs_le {a d : Int} (h : (a + d).natAbs ≤ 2 ^ 39 - 1) : accAdd a d = (a + d, false) := satSym_of_natAbs_le h

/-- Products that together stay below the limit add up exactly from what an accumulator holds (R548). -/
theorem foldl_accAdd (l : List Int) (a : Int) (hl : ∀ i ∈ l, i.natAbs ≤ 2 ^ 31) (ha : a.natAbs + l.length * 2 ^ 31 ≤ 2 ^ 39 - 1) :
    l.foldl (fun a i => ((accAdd a.1 i).1, a.2 || (accAdd a.1 i).2)) (a, false) = (a + l.sum, false) := by
  induction l generalizing a with
  | nil => rw [List.sum_nil, add_zero, List.foldl_nil]
  | cons i l ih =>
    have hi : i.natAbs ≤ 2 ^ 31 := hl i List.mem_cons_self
    rw [List.length_cons] at ha
    rw [List.foldl_cons, accAdd_of_natAbs_le (by dsimp only; omega)]
    exact (ih (a + i) (fun j hj => hl j (List.mem_cons_of_mem _ hj)) (by omega)).trans (by rw [List.sum_cons, add_assoc])

/-- Settles O56: additions by `accAdd_clamp`, ASAT by `State.accumulate_dspstat`, products by `product_le`, sums by `foldl_accAdd`. -/
theorem accumulatorsOfMaceSaturateAndRecordIt : Obligations.AccumulatorsOfMaceSaturateAndRecordIt :=
  ⟨accAdd_clamp, State.accumulate_dspstat, fun u v c d cj => product_le cj (opnd_small c u) (opnd_small d v), fun l hlen hl =>
    (foldl_accAdd l 0 hl (by rw [Int.natAbs_zero]; omega)).trans (by rw [zero_add])⟩

/-! ### One processor alone -/

/-- Whether an outcome is a state that differs from `s` at processor `p` alone, and for a Curator in no register of the device. -/
def OnlyO (p : Proc) (s : State) (o : Host.Outcome State Fault Refusal) : Prop := ∀ t, o = .next t → Only p s t

section OneProcessor
variable {p : Proc} {s : State}

theorem Only.ite {t u : State} {c : Prop} [Decidable c] (ht : Only p s t) (hu : Only p s u) : Only p s (if c then t else u) := by
  split
  · exact ht
  · exact hu

theorem Only.next {t : State} (h : Only p s t) : OnlyO p s (.next t) := fun _ ht => Host.Outcome.next.inj ht ▸ h

theorem onlyO_instr {f : State → State} (hf : Only p s (f s)) : OnlyO p s (.next (s.instr p f)) := (Only.instr p s hf).next

theorem onlyO_setOn {rd : Fin 32} {v : Word} : OnlyO p s (.next (s.setOn p rd v)) := onlyO_instr ((Only.refl p s).setG rd v).advance

theorem onlyO_branchOp {f : Word → Word → Bool} {a b : Fin 32} {d : BitVec 16} : OnlyO p s (.next (s.branchOp p f a b d)) :=
  onlyO_instr (((Only.refl p s).jump _).ite (Only.refl p s).advance)

theorem Only.accumulate {t : State} (h : Only p s t) (n : Fin 4) (x : Int × Option Int) (neg z : Bool) :
    Only p s (t.accumulate p n x neg z) :=
  (h.setAcc n _).dspFlag 0 _

theorem Only.addPower {t : State} (h : Only p s t) (n : Fin 4) (d : Int) (z : Bool) : Only p s (t.addPower p n d z) :=
  (h.setAcc n _).dspFlag 0 _

theorem Only.moveAcc {t : State} (h : Only p s t) (rd : Fin 32) (v : Word × Bool) : Only p s (t.moveAcc p rd v) :=
  ((h.setG rd v.1).dspFlag 1 v.2).advance

theorem onlyO_rdcsr {rd : Fin 32} {c : BitVec 12} : OnlyO p s (execRdcsr p rd c s) := by
  refine onlyO_instr ((((Only.refl p s).tick1.tick1.mpMod _).setG rd _).advance.ite ?_)
  split
  · exact ((Only.refl p s).setG rd _).advance
  · exact (Only.refl p s).illegal

theorem onlyO_wrcsr {a : Fin 32} {c : BitVec 12} : OnlyO p s (execWrcsr p a c s) := by
  refine onlyO_instr ?_
  split
  case h_1 t ht => exact ((Only.refl p s).csrWrite _ _ ht).advance
  case h_2 => exact (Only.refl p s).illegal

theorem onlyO_pair {rd : Fin 32} {v : State → Nat} :
    OnlyO p s (.next (s.instr p (fun u => if pairOk rd then (u.setPair p rd (v u)).advance p else u.illegal p))) :=
  onlyO_instr (((Only.refl p s).setPair rd _).advance.ite (Only.refl p s).illegal)

theorem onlyO_stop : OnlyO p s (execStop p s) := by
  refine onlyO_instr ?_
  cases p with
  | cur c => exact (Only.refl _ s).illegal
  | clove e => exact (Only.refl _ s).advance.cloveStop 2

theorem onlyO_loop {imm : Bool} {n : BitVec 13} {r : Fin 32} {len : BitVec 12} : OnlyO p s (execLoop p imm n r len s) := by
  refine onlyO_instr ?_
  cases p with
  | cur c => exact (Only.refl _ s).illegal
  | clove e => exact (Only.refl _ s).illegal.ite (((Only.refl _ s).seqTo _).ite ((Only.refl _ s).mpMod _))

/-- Arithmetic, branches, accumulators, registers, LOOP, STOP and TRAP stay with their processor. -/
theorem exec_only {c : Instr} (h : aluProc c = some p) : OnlyO p s (exec c s) := by
  cases c with
  | add q | sub q | and q | or q | xor q | sll q | srl q | sra q | slt q | sltu q | mul q | mulh q | mulhu q | div q | divu q | rem q
  | remu q | min q | max q | adds q | subs q | addi q | andi q | ori q | xori q | slti q | sltiu q | lui q | slli q | srli q | srai q =>
    cases h
    exact onlyO_setOn
  | beq q | bne q | blt q | bge q | bltu q | bgeu q =>
    cases h
    exact onlyO_branchOp
  | j q | jr q =>
    cases h
    exact onlyO_instr ((Only.refl _ s).jump _)
  | jal q | jalr q =>
    cases h
    exact onlyO_instr (((Only.refl _ s).setG _ _).jump _)
  | seta q | adda q =>
    cases h
    exact onlyO_instr ((Only.refl _ s).setA _ _).advance
  | geta q | getah q | getm q =>
    cases h
    exact onlyO_instr ((Only.refl _ s).setG _ _).advance
  | setm q =>
    cases h
    exact onlyO_instr ((Only.refl _ s).setM _ _).advance
  | mac q =>
    cases h
    exact onlyO_instr ((Only.refl _ s).accumulate _ _ _ _).advance
  | pow q =>
    cases h
    exact onlyO_instr ((Only.refl _ s).addPower _ _ _).advance
  | aclr q | ald q =>
    cases h
    exact onlyO_instr ((Only.refl _ s).setAcc _ _).advance
  | apack q | amovre q | amovim q =>
    cases h
    exact onlyO_instr ((Only.refl _ s).moveAcc _ _)
  | rdcsr q =>
    cases h
    exact onlyO_rdcsr
  | wrcsr q =>
    cases h
    exact onlyO_wrcsr
  | rdtime q | rdsi q =>
    cases h
    exact onlyO_pair
  | trap q =>
    cases h
    exact onlyO_instr ((Only.refl _ s).take _ _)
  | stop q =>
    cases h
    exact onlyO_stop
  | loop q =>
    cases h
    exact onlyO_loop
  | _ => cases h

end OneProcessor

/-! ### What the families leave as it was -/

/-- Arithmetic, branches, accumulators, registers, LOOP, STOP and TRAP change these fields and no others. -/
theorem exec_within_maceAlu {c : Instr} (s : State) (h : family c = .maceAlu) :
    WithinO { regs := true, fresh := true, mace := true } s (exec c s) := by
  have := allowed_true
  cases c with
  | add p rd rs1 rs2 => exact execAdd_within (Within.rfl' s) p rd rs1 rs2
  | sub p rd rs1 rs2 => exact execSub_within (Within.rfl' s) p rd rs1 rs2
  | and p rd rs1 rs2 => exact execAnd_within (Within.rfl' s) p rd rs1 rs2
  | or p rd rs1 rs2 => exact execOr_within (Within.rfl' s) p rd rs1 rs2
  | xor p rd rs1 rs2 => exact execXor_within (Within.rfl' s) p rd rs1 rs2
  | sll p rd rs1 rs2 => exact execSll_within (Within.rfl' s) p rd rs1 rs2
  | srl p rd rs1 rs2 => exact execSrl_within (Within.rfl' s) p rd rs1 rs2
  | sra p rd rs1 rs2 => exact execSra_within (Within.rfl' s) p rd rs1 rs2
  | slt p rd rs1 rs2 => exact execSlt_within (Within.rfl' s) p rd rs1 rs2
  | sltu p rd rs1 rs2 => exact execSltu_within (Within.rfl' s) p rd rs1 rs2
  | mul p rd rs1 rs2 => exact execMul_within (Within.rfl' s) p rd rs1 rs2
  | mulh p rd rs1 rs2 => exact execMulh_within (Within.rfl' s) p rd rs1 rs2
  | mulhu p rd rs1 rs2 => exact execMulhu_within (Within.rfl' s) p rd rs1 rs2
  | div p rd rs1 rs2 => exact execDiv_within (Within.rfl' s) p rd rs1 rs2
  | divu p rd rs1 rs2 => exact execDivu_within (Within.rfl' s) p rd rs1 rs2
  | rem p rd rs1 rs2 => exact execRem_within (Within.rfl' s) p rd rs1 rs2
  | remu p rd rs1 rs2 => exact execRemu_within (Within.rfl' s) p rd rs1 rs2
  | min p rd rs1 rs2 => exact execMin_within (Within.rfl' s) p rd rs1 rs2
  | max p rd rs1 rs2 => exact execMax_within (Within.rfl' s) p rd rs1 rs2
  | adds p rd rs1 rs2 => exact execAdds_within (Within.rfl' s) p rd rs1 rs2
  | subs p rd rs1 rs2 => exact execSubs_within (Within.rfl' s) p rd rs1 rs2
  | addi p rd rs1 imm => exact execAddi_within (Within.rfl' s) p rd rs1 imm
  | andi p rd rs1 imm => exact execAndi_within (Within.rfl' s) p rd rs1 imm
  | ori p rd rs1 imm => exact execOri_within (Within.rfl' s) p rd rs1 imm
  | xori p rd rs1 imm => exact execXori_within (Within.rfl' s) p rd rs1 imm
  | slti p rd rs1 imm => exact execSlti_within (Within.rfl' s) p rd rs1 imm
  | sltiu p rd rs1 imm => exact execSltiu_within (Within.rfl' s) p rd rs1 imm
  | lui p rd imm => exact execLui_within (Within.rfl' s) p rd imm
  | slli p rd rs1 sh => exact execSlli_within (Within.rfl' s) p rd rs1 sh
  | srli p rd rs1 sh => exact execSrli_within (Within.rfl' s) p rd rs1 sh
  | srai p rd rs1 sh => exact execSrai_within (Within.rfl' s) p rd rs1 sh
  | beq p rs1 rs2 disp => exact execBeq_within (Within.rfl' s) p rs1 rs2 disp
  | bne p rs1 rs2 disp => exact execBne_within (Within.rfl' s) p rs1 rs2 disp
  | blt p rs1 rs2 disp => exact execBlt_within (Within.rfl' s) p rs1 rs2 disp
  | bge p rs1 rs2 disp => exact execBge_within (Within.rfl' s) p rs1 rs2 disp
  | bltu p rs1 rs2 disp => exact execBltu_within (Within.rfl' s) p rs1 rs2 disp
  | bgeu p rs1 rs2 disp => exact execBgeu_within (Within.rfl' s) p rs1 rs2 disp
  | j p disp => exact execJ_within (Within.rfl' s) p disp
  | jal p disp => exact execJal_within (Within.rfl' s) p disp
  | jr p rs1 => exact execJr_within (Within.rfl' s) p rs1
  | jalr p rd rs1 => exact execJalr_within (Within.rfl' s) p rd rs1
  | seta p k rs1 rs2 => exact execSeta_within (Within.rfl' s) p k rs1 rs2
  | geta p rd k => exact execGeta_within (Within.rfl' s) p rd k
  | getah p rd k => exact execGetah_within (Within.rfl' s) p rd k
  | setm p k rs1 => exact execSetm_within (Within.rfl' s) p k rs1
  | getm p rd k => exact execGetm_within (Within.rfl' s) p rd k
  | adda p k rs1 => exact execAdda_within (Within.rfl' s) p k rs1
  | mac p n rs1 rs2 conj neg cplx z => exact execMac_within (Within.rfl' s) p n rs1 rs2 conj neg cplx z
  | pow p n rs1 cplx => exact execPow_within (Within.rfl' s) p n rs1 cplx
  | aclr p n => exact execAclr_within (Within.rfl' s) p n
  | apack p rd n => exact execApack_within (Within.rfl' s) p rd n
  | amovre p rd n => exact execAmovre_within (Within.rfl' s) p rd n
  | amovim p rd n => exact execAmovim_within (Within.rfl' s) p rd n
  | ald p n rs1 rs2 => exact execAld_within (Within.rfl' s) p n rs1 rs2
  | rdcsr p rd csr => exact execRdcsr_within (Within.rfl' s) p rd csr
  | wrcsr p rs1 csr => exact execWrcsr_within (Within.rfl' s) p rs1 csr
  | rdtime p rd => exact execRdtime_within (Within.rfl' s) p rd
  | rdsi p rd => exact execRdsi_within (Within.rfl' s) p rd
  | trap p code => exact execTrap_within (Within.rfl' s) p code
  | stop p => exact execStop_within (Within.rfl' s) p
  | loop p imm count rc len => exact execLoop_within (Within.rfl' s) p imm count rc len
  | _ => cases h

/-- Waits, moves, exceptions and returns change these fields and no others. -/
theorem exec_within_maceWait {c : Instr} (s : State) (h : family c = .maceWait) :
    WithinO { regs := true, out := true, fresh := true, mace := true, irq := true, host := true } s (exec c s) := by
  have := allowed_true
  cases c with
  | waitsi p rs1 => exact execWaitsi_within (Within.rfl' s) p rs1
  | waitsiEnd p => exact execWaitsiEnd_within (Within.rfl' s) p
  | wfe p rs1 => exact execWfe_within (Within.rfl' s) p rs1
  | wfeEnd e => exact execWfeEnd_within (Within.rfl' s) e
  | fence p => exact execFence_within (Within.rfl' s) p
  | storeErr p => exact execStoreErr_within (Within.rfl' s) p
  | eret p => exact execEret_within (Within.rfl' s) p
  | bmov p rd aL aR inward sel => exact execBmov_within (Within.rfl' s) p rd aL aR inward sel
  | bwait p => exact execBwait_within (Within.rfl' s) p
  | illegalInstruction p why addr => exact execIllegalInstruction_within (Within.rfl' s) p why addr
  | _ => cases h

/-- Three-bus instructions change these fields and no others. -/
theorem exec_within_maceDsp {c : Instr} (s : State) (h : family c = .maceDsp) :
    WithinO { regs := true, mem := true, fresh := true, mace := true } s (exec c s) := by
  have := allowed_true
  cases c with
  | dMac p d => exact execDMac_within (Within.rfl' s) p d
  | dMacz p d => exact execDMacz_within (Within.rfl' s) p d
  | dMacy p d => exact execDMacy_within (Within.rfl' s) p d
  | dMacyz p d => exact execDMacyz_within (Within.rfl' s) p d
  | ftap p d => exact execFtap_within (Within.rfl' s) p d
  | ftapz p d => exact execFtapz_within (Within.rfl' s) p d
  | dPow p d => exact execDPow_within (Within.rfl' s) p d
  | dPowz p d => exact execDPowz_within (Within.rfl' s) p d
  | dMove p d => exact execDMove_within (Within.rfl' s) p d
  | _ => cases h

/-- Commands of CLOVE[e].CTRL change these fields and no others. -/
theorem exec_within_clove {c : Instr} (s : State) (h : family c = .clove) :
    WithinO { regs := true, mace := true } s (exec c s) := by
  have := allowed_true
  cases c with
  | cloveRun e => exact execCloveRun_within (Within.rfl' s) e
  | cloveHalt e => exact execCloveHalt_within (Within.rfl' s) e
  | cloveReset e => exact execCloveReset_within (Within.rfl' s) e
  | kick e => exact execKick_within (Within.rfl' s) e
  | _ => cases h

/-- Settles O60: every command of a family stays within the family's mask, and an instruction of `aluProc` with its processor. -/
theorem maceInstructionsKeepTheRest : Obligations.MaceInstructionsKeepTheRest := by
  intro c s
  obtain ⟨t, ht⟩ := exec_completes c s
  refine ⟨t, ht, fun hf => ?_, fun hf => ?_, fun hf => ?_, fun hf => ?_, fun p hp => exec_only hp t ht⟩
  · have hw := exec_within_maceAlu s hf t ht
    exact ⟨hw.eq_overlay, hw.memKept rfl rfl⟩
  · have hw := exec_within_maceWait s hf t ht
    exact ⟨hw.eq_overlay, hw.memKept rfl rfl⟩
  · exact (exec_within_maceDsp s hf t ht).eq_overlay
  · have hw := exec_within_clove s hf t ht
    exact ⟨hw.eq_overlay, hw.memKept rfl rfl⟩

end Sys2Proof.Machine

/-! Proofs of the statements of the matrix, the DMA, the mailboxes, the lease, the interrupts and the host: what their commands leave as
it was (R451, R476, R508, R579, R658, R661). -/
namespace Sys2Proof.Machine

/-- Transactions presented, promotion, budget windows and the remap change these fields and no others. -/
theorem exec_within_matrix {c : Instr} (s : State) (h : family c = .matrix) :
    WithinO { regs := true, out := true, matrix := true } s (exec c s) := by
  have := allowed_true
  cases c with
  | matrixTransaction m id qos hint wr addr data => exact execMatrixTransaction_within (Within.rfl' s) m id qos hint wr addr data
  | matrixAgePromote k => exact execMatrixAgePromote_within (Within.rfl' s) k
  | saffronWindow => exact execSaffronWindow_within (Within.rfl' s)
  | remapWrite v => exact execRemapWrite_within (Within.rfl' s) v
  | _ => cases h

/-- Resumptions, doorbells and settings of DMA channels change these fields and no others. -/
theorem exec_within_dma {c : Instr} (s : State) (h : family c = .dma) :
    WithinO { regs := true, dma := true } s (exec c s) := by
  have := allowed_true
  cases c with
  | dmaResume n => exact execDmaResume_within (Within.rfl' s) n
  | doorbell n => exact execDoorbell_within (Within.rfl' s) n
  | dmaCfgWrite n which v => exact execDmaCfgWrite_within (Within.rfl' s) n which v
  | _ => cases h

/-- Commands of mailboxes and locks change these fields and no others. -/
theorem exec_within_mailbox {c : Instr} (s : State) (h : family c = .mailbox) :
    WithinO { regs := true, mem := true, out := true, fresh := true, lanes := true } s (exec c s) := by
  have := allowed_true
  cases c with
  | mbox p b => exact execMbox_within (Within.rfl' s) p b
  | mboxAck p b => exact execMboxAck_within (Within.rfl' s) p b
  | post k d m v => exact execPost_within (Within.rfl' s) k d m v
  | lockRead k d m => exact execLockRead_within (Within.rfl' s) k d m
  | lockRelease k d m => exact execLockRelease_within (Within.rfl' s) k d m
  | noticeRead k d => exact execNoticeRead_within (Within.rfl' s) k d
  | ack k d m v => exact execAck_within (Within.rfl' s) k d m v
  | mailboxTimeout k d => exact execMailboxTimeout_within (Within.rfl' s) k d
  | cross k => exact execCross_within (Within.rfl' s) k
  | _ => cases h

/-- Commands of the lease and the health of the Curators change these fields and no others. -/
theorem exec_within_lease {c : Instr} (s : State) (h : family c = .lease) :
    WithinO { regs := true, out := true, time := true, lastOwner := true, mace := true, irq := true, host := true } s (exec c s) := by
  have := allowed_true
  cases c with
  | leaseRenew m v => exact execLeaseRenew_within (Within.rfl' s) m v
  | leaseClaim m v => exact execLeaseClaim_within (Within.rfl' s) m v
  | leaseExpiry => exact execLeaseExpiry_within (Within.rfl' s)
  | yield m => exact execYield_within (Within.rfl' s) m
  | curatorHold c => exact execCuratorHold_within (Within.rfl' s) c
  | curatorRelease c => exact execCuratorRelease_within (Within.rfl' s) c
  | failoverDone m => exact execFailoverDone_within (Within.rfl' s) m
  | failoverSlow => exact execFailoverSlow_within (Within.rfl' s)
  | healthWrite m c v => exact execHealthWrite_within (Within.rfl' s) m c v
  | healthBad c => exact execHealthBad_within (Within.rfl' s) c
  | tcmUe c => exact execTcmUe_within (Within.rfl' s) c
  | ckptWrite m v => exact execCkptWrite_within (Within.rfl' s) m v
  | _ => cases h

/-- Commands of interrupts and host vectors change these fields and no others. -/
theorem exec_within_interrupt {c : Instr} (s : State) (h : family c = .interrupt) :
    WithinO { regs := true, mem := true, out := true, mace := true, irq := true, host := true } s (exec c s) := by
  have := allowed_true
  cases c with
  | sourceRise k => exact execSourceRise_within (Within.rfl' s) k
  | sourceFall k => exact execSourceFall_within (Within.rfl' s) k
  | fastEntry c during => exact execFastEntry_within (Within.rfl' s) c during
  | normalEntry c => exact execNormalEntry_within (Within.rfl' s) c
  | normalExit c => exact execNormalExit_within (Within.rfl' s) c
  | moderationRelease g => exact execModerationRelease_within (Within.rfl' s) g
  | hostAck v => exact execHostAck_within (Within.rfl' s) v
  | msixUnmask v => exact execMsixUnmask_within (Within.rfl' s) v
  | pcieDstateChange d bme mse msix fmask pmeEn => exact execPcieDstateChange_within (Within.rfl' s) d bme mse msix fmask pmeEn
  | _ => cases h

/-- Commands of the host links and firmware change these fields and no others. -/
theorem exec_within_host {c : Instr} (s : State) (h : family c = .host) :
    WithinO { regs := true, mem := true, out := true, fresh := true, cat := true, boot := true, host := true } s (exec c s) := by
  have := allowed_true
  cases c with
  | fwCommit => exact execFwCommit_within (Within.rfl' s)
  | fwDone => exact execFwDone_within (Within.rfl' s)
  | fwStore => exact execFwStore_within (Within.rfl' s)
  | fwStoreComplete readBack => exact execFwStoreComplete_within (Within.rfl' s) readBack
  | setFirst => exact execSetFirst_within (Within.rfl' s)
  | bumpRollback => exact execBumpRollback_within (Within.rfl' s)
  | mgmtFrameReceive f arrival => exact execMgmtFrameReceive_within (Within.rfl' s) f arrival
  | txDoorbell => exact execTxDoorbell_within (Within.rfl' s)
  | mgmtFrameSent => exact execMgmtFrameSent_within (Within.rfl' s)
  | mgmtRateAlternate => exact execMgmtRateAlternate_within (Within.rfl' s)
  | pcieLinkUp speed width => exact execPcieLinkUp_within (Within.rfl' s) speed width
  | mgmtLink up => exact execMgmtLink_within (Within.rfl' s) up
  | _ => cases h

/-- Settles O59: every command of a family stays within the family's mask. -/
theorem matrixHostAndCuratorCommandsKeepTheRest : Obligations.MatrixHostAndCuratorCommandsKeepTheRest := by
  intro c s
  obtain ⟨t, ht⟩ := exec_completes c s
  refine ⟨t, ht, fun hf => ?_, fun hf => ?_, fun hf => ?_, fun hf => ?_, fun hf => ?_, fun hf => ?_⟩
  · have hw := exec_within_matrix s hf t ht
    exact ⟨hw.eq_overlay, hw.memKept rfl rfl⟩
  · have hw := exec_within_dma s hf t ht
    exact ⟨hw.eq_overlay, hw.memKept rfl rfl⟩
  · exact (exec_within_mailbox s hf t ht).eq_overlay
  · have hw := exec_within_lease s hf t ht
    exact ⟨hw.eq_overlay, hw.memKept rfl rfl⟩
  · exact (exec_within_interrupt s hf t ht).eq_overlay
  · exact (exec_within_host s hf t ht).eq_overlay

end Sys2Proof.Machine

/-! Proofs of the statements of the matrix: the default target and the log of errors, transactions from their presentation to their answer,
the accesses of single targets, and the requests of the host (R451 to R474, R564, R565, R645, R649). -/
namespace Sys2Proof.Machine

/-! ### The default target -/

section DefaultTarget
variable (s : State) (b : By) (wr : Bool) (addr : Nat)

/-- What an access to the default target counts and raises (R469, R470). -/
def State.noteDecode (s : State) (m : Nat) : State :=
  ((s.count (R.MATRIX_MASTER_ERRS m)).count R.MATRIX_DECODE_ERRS).raise F.MATRIX_EVENT_DECODE_ERR

/-- MATRIX.ERR_INFO of an access to the default target (R474). -/
def decodeInfo (b : By) (wr : Bool) : Nat := 2 ^ 31 + 1 * 2 ^ 28 + b2n wr * 2 ^ 27 + qosClass b.qos * 2 ^ 24 + b.id % 256 * 2 ^ 8 + b.m

/-- An error of kind 1 is counted and raised, and held where ERR_INFO held none. -/
theorem State.busErr_decode :
    s.busErr b wr addr 1 = if s.fbit F.MATRIX_ERR_INFO_VALID then s.noteDecode b.m
      else ((s.noteDecode b.m).wr64 R.MATRIX_ERR_ADDR_LO R.MATRIX_ERR_ADDR_HI addr).wrN R.MATRIX_ERR_INFO (decodeInfo b wr) := by
  simp only [State.busErr, State.noteDecode, decodeInfo, State.doIf, one_ne_zero, if_false, beq_self_eq_true, if_true]

/-- No register but those that hold the error reads otherwise than after the counting. -/
theorem State.busErr_decode_rd {a : Nat} (hlo : a ≠ R.MATRIX_ERR_ADDR_LO) (hhi : a ≠ R.MATRIX_ERR_ADDR_HI)
    (hinfo : a ≠ R.MATRIX_ERR_INFO) :
    (s.busErr b wr addr 1).rd a = (s.noteDecode b.m).rd a := by
  rw [State.busErr_decode]
  split
  · rfl
  · rw [State.rd_wrN, if_neg hinfo, State.rd_wr64, if_neg hhi, if_neg hlo]

theorem State.busErr_decode_event : (s.busErr b wr addr 1).fbit F.MATRIX_EVENT_DECODE_ERR = true := by
  rw [State.fbit, State.fget_of_rd (State.busErr_decode_rd s b wr addr (by decide) (by decide) (by decide))]
  exact State.fbit_raise_same _ (by decide) rfl

/-- The counter of a master lies above those of the matrix (R473). -/
theorem decodeErrs_ne_masterErrs (m : Nat) : R.MATRIX_DECODE_ERRS ≠ R.MATRIX_MASTER_ERRS m := by
  unfold R.MATRIX_DECODE_ERRS R.MATRIX_MASTER_ERRS
  omega

theorem State.busErr_decode_count :
    (s.busErr b wr addr 1).rdN R.MATRIX_DECODE_ERRS = min (s.rdN R.MATRIX_DECODE_ERRS + 1) (2 ^ 32 - 1) := by
  have hmaster : (s.count (R.MATRIX_MASTER_ERRS b.m)).rdN R.MATRIX_DECODE_ERRS = s.rdN R.MATRIX_DECODE_ERRS :=
    State.rdN_wrN_other _ _ (decodeErrs_ne_masterErrs b.m)
  rw [State.rdN, State.busErr_decode_rd s b wr addr (by decide) (by decide) (by decide), State.noteDecode, State.rd_raise,
    if_neg (by decide), State.rd_count, if_pos rfl, hmaster, BitVec.toNat_ofNat, satN]
  omega

/-- The first error is held whole: valid, its kind and its address (R470, R474). -/
theorem State.busErr_decode_held (hfirst : s.fbit F.MATRIX_ERR_INFO_VALID = false) (hm : b.m < 20) (haddr : addr < 2 ^ 40) :
    (s.busErr b wr addr 1).fbit F.MATRIX_ERR_INFO_VALID = true ∧ (s.busErr b wr addr 1).fget F.MATRIX_ERR_INFO_KIND = 1 ∧
      (s.busErr b wr addr 1).rd64 R.MATRIX_ERR_ADDR_LO R.MATRIX_ERR_ADDR_HI = addr := by
  have hclass : qosClass b.qos ≤ 3 := by unfold qosClass; split_ifs <;> decide
  have hwr : b2n wr ≤ 1 := by cases wr <;> decide
  have hinfo : decodeInfo b wr < 2 ^ 32 ∧ decodeInfo b wr / 2 ^ 28 = 9 := by unfold decodeInfo; omega
  rw [State.busErr_decode, if_neg (ne_true_of_eq_false hfirst)]
  refine ⟨?_, ?_, ?_⟩
  · rw [State.fbit, State.fget, State.rd_wrN, if_pos rfl, extractBits, BitVec.toNat_ofNat, Nat.mod_eq_of_lt hinfo.1, beq_iff_eq]
    show decodeInfo b wr / 2 ^ 31 % 2 = 1
    omega
  · rw [State.fget, State.rd_wrN, if_pos rfl, extractBits, BitVec.toNat_ofNat, Nat.mod_eq_of_lt hinfo.1, hinfo.2]
    rfl
  · rw [State.rd64, State.rdN_wrN_other _ _ (by decide), State.rdN_wrN_other _ _ (by decide)]
    exact State.rd64_wr64 _ (by decide) (by omega)

end DefaultTarget

/-- Settles O51: the access by the case of its target, the counters and ERR_INFO by the lemmas of `State.busErr_decode`. -/
theorem defaultTargetAnswersWithAnError : Obligations.DefaultTargetAnswersWithAnError := fun s rb b addr tgt n bs w htarget =>
  ⟨by rw [State.busRead, htarget], by rw [State.busWrite, htarget],
    have := allowed_true
    (State.busErr_within (K := { regs := true }) (Within.rfl' s) b w addr 1).memKept rfl rfl,
    s.busErr_decode_event b w addr, s.busErr_decode_count b w addr, s.busErr_decode_held b w addr⟩

/-! ### Transactions -/

section Transactions
variable {s : State} {t : Txn} {k : Nat}

/-- A transaction of no byte, of more than 4096, or across 4096 bytes (R451). -/
theorem State.present_unlawful (h : t.size = 0 ∨ 4096 < t.size ∨ 4096 < t.addr % 4096 + t.size) :
    s.present t = (s.busErr ⟨t.m, t.id, s.capQos t.m t.qos⟩ t.wr t.addr 1).answer t false true
      (List.replicate (if t.wr then 0 else t.size) 0#8) :=
  if_pos h

/-- A lawful transaction that is not of the Saffron class is placed as its capped QoS value lets it (R461, R466). -/
theorem State.present_lawful (hsome : 0 < t.size) (hpage : t.addr % 4096 + t.size ≤ 4096) (hqos : s.capQos t.m t.qos < 15) :
    s.present t = (
      let r := s.place s.matrix.txns { t with qos := s.capQos t.m t.qos, tgt := (s.window0 t.m t.addr).getD t.addr }
      r.1.matMod (fun x => { x with txns := x.txns ++ [r.2] })) := by
  have hlawful : ¬ (t.size = 0 ∨ 4096 < t.size ∨ 4096 < t.addr % 4096 + t.size) := by omega
  have hshort : (decide (s.capQos t.m t.qos = 15) && decide (64 < t.size)) = false := by
    rw [decide_eq_false hqos.ne, Bool.false_and]
  rw [State.present]
  refine (if_neg hlawful).trans ?_
  dsimp only
  rw [hshort]
  rfl

theorem execMatrixResponse_answered (hplace : s.matrix.txns[k]? = some t) (hmay : s.mayAnswer k t = true) (hlate : t.late = false) :
    execMatrixResponse k s = .next (
      let u := s.matMod (fun y => { y with txns := y.txns.eraseIdx k, last := tset 0 y.last t.port (t.m + 1) })
      let r := u.carryOut t
      ((r.1.answer t r.2.2 (u.urAt t.tgt t.size t.wr) r.2.1).release).wakeMaster t.m) := by
  rw [execMatrixResponse, hplace]
  exact congrArg Host.Outcome.next ((if_neg (by rw [hmay]; decide)).trans (if_neg (ne_true_of_eq_false hlate)))

theorem execMatrixResponse_late (hplace : s.matrix.txns[k]? = some t) (hmay : s.mayAnswer k t = true) (hlate : t.late = true) :
    execMatrixResponse k s = .next (
      let u := s.matMod (fun y => { y with txns := y.txns.eraseIdx k, last := tset 0 y.last t.port (t.m + 1) })
      (((u.carryOut t).1.count R.MATRIX_LATE_RESP).raise F.MATRIX_EVENT_LATE_RESP)) := by
  rw [execMatrixResponse, hplace]
  exact congrArg Host.Outcome.next ((if_neg (by rw [hmay]; decide)).trans (if_pos hlate))

theorem execTimeout_accepted (hplace : s.matrix.txns[k]? = some t) (hlate : t.late = false) (hhold : t.hold = 0)
    (hon : s.rdN R.MATRIX_TIMEOUT % 2 ^ 24 ≠ 0) (hport : t.port ≠ 3) :
    execTimeout k s = .next (
      let u := ((s.busErr ⟨t.m, t.id, t.qos⟩ t.wr t.addr 2).count R.MATRIX_TIMEOUTS).matMod (fun y =>
        { y with txns := y.txns.set k { t with late := true } })
      ((u.answer t false false (List.replicate (if t.wr then 0 else t.size) 0#8)).release).wakeMaster t.m) := by
  have hdue : ¬ (t.late || t.hold != 0 || s.rdN R.MATRIX_TIMEOUT % 2 ^ 24 == 0 || (t.port == 3 && s.fbit F.HBMC_STATUS_HELD)) = true := by
    simpa [hlate, hhold, hport] using hon
  rw [execTimeout, hplace]
  exact congrArg Host.Outcome.next (if_neg hdue)

theorem execMatrixAgePromote_accepted (hplace : s.matrix.txns[k]? = some t) (hlate : t.late = false) (hhold : t.hold = 0)
    (hnew : t.promoted = false) (hqos : t.qos ≠ 15) :
    execMatrixAgePromote k s = .next ((s.matMod (fun y =>
      { y with txns := y.txns.set k { t with promoted := true } })).count R.MATRIX_AGE_PROMOTED) := by
  have hmay : ¬ (t.late || t.hold != 0 || t.promoted || t.qos == 15) = true := by
    rw [hlate, hhold, hnew, beq_false_of_ne hqos]
    decide
  rw [execMatrixAgePromote, hplace]
  exact congrArg Host.Outcome.next (if_neg hmay)

end Transactions

/-- Settles O36: each command at the case that its conditions choose; SAFFRON_WINDOW and REMAP_WRITE have one case. -/
theorem transactionsArePresentedAndAnswered : Obligations.TransactionsArePresentedAndAnswered :=
  ⟨fun _ _ _ _ _ _ _ _ h => congrArg Host.Outcome.next (State.present_unlawful h),
    fun _ _ _ _ _ _ _ _ hsome hpage hqos => congrArg Host.Outcome.next (State.present_lawful hsome hpage hqos),
    fun _ _ _ hplace hmay hlate => execMatrixResponse_answered hplace hmay hlate,
    fun _ _ _ hplace hmay hlate => execMatrixResponse_late hplace hmay hlate,
    fun _ _ _ hplace hlate hhold hon hport => execTimeout_accepted hplace hlate hhold hon hport,
    fun _ _ _ hplace hlate hhold hnew hqos => execMatrixAgePromote_accepted hplace hlate hhold hnew hqos, fun _ => rfl, fun _ _ => rfl⟩

/-! ### Accesses of single targets and requests of the host -/

/-- A read of a local store that finds a parity error outside SLEEP (R565). -/
theorem execCloveOutsideAccess_parity {m : Fin 20} {id : Fin 32} {qos : BitVec 4} {e : Fin 16} {l : Fin 0x60000}
    {data : List (Option Byte)} {s : State} (hawake : s.mode ≠ 0) (hm : m.val < 20) :
    execCloveOutsideAccess m id qos e l false true data s = .next (
      ((s.busErr ⟨m.val, id.val, qos.toNat⟩ false (0x2800000 + 0x80000 * e.val + l.val) 0).count (R.CLOVE_PARITY e.val)).emit
        (.response m.val id.val true (List.replicate data.length 0#8))) :=
  congrArg Host.Outcome.next ((if_pos (by simpa using hawake)).trans (if_neg hm.ne))

section HostRequests
variable {wr : Bool} {off : BitVec 36} {tag : BitVec 10} {data : List (Option Byte)} {s : State}
  (hup : s.fbit F.HOSTIF_STATUS_LINK_UP = true) (hon : s.boot.off = false) (hwarm : s.host.cold = false) (hdata : data.isEmpty = false)
include hup hon hwarm hdata

/-- With the link up a request of some bytes is taken. -/
theorem inbound_taken : ¬ (!s.fbit F.HOSTIF_STATUS_LINK_UP || s.boot.off || s.host.cold || data.isEmpty) = true := by
  rw [hup, hon, hwarm, hdata]
  decide

theorem execPcieInboundRequest_outsideD0 {b2 rx : Bool} (hd : s.fget F.HOSTIF_STATUS_DSTATE ≠ 0) :
    execPcieInboundRequest b2 off wr rx tag data s = .next (
      if wr then s.emit (.aer 1) else s.emit (.completion tag.toNat 1 [])) :=
  congrArg Host.Outcome.next ((if_neg (inbound_taken hup hon hwarm hdata)).trans (if_pos (.inl hd)))

/-- A request of BAR2 without relaxed order, with the memory space enabled (R645). -/
theorem execPcieInboundRequest_bar2 (hd : s.fget F.HOSTIF_STATUS_DSTATE = 0) (hmse : s.fbit F.HOSTIF_STATUS_MSE = true) :
    execPcieInboundRequest true off wr false tag data s = .next (s.present
      { m := 20, id := 0, qos := 0, hint := s.fbit (F.MATRIX_MASTER_CFG_KEEP_OPEN 20), wr := wr, addr := archiveBase + off.toNat,
        tgt := archiveBase + off.toNat, data := data, pcie := some tag.toNat }) :=
  have hopen : ¬ (s.fget F.HOSTIF_STATUS_DSTATE ≠ 0 ∨ (!s.fbit F.HOSTIF_STATUS_MSE) = true ∨ ((!true) = true ∧ 2 ^ 24 ≤ off.toNat)) := by
    simp [hd, hmse]
  congrArg Host.Outcome.next ((if_neg (inbound_taken hup hon hwarm hdata)).trans (if_neg hopen))

end HostRequests

/-- Settles O37: the accesses by their definitions, the parity error and the requests at the case that their conditions choose. -/
theorem accessesReachTheirWindows : Obligations.AccessesReachTheirWindows :=
  ⟨fun _ _ _ _ _ _ _ _ => rfl, fun _ _ _ _ _ _ _ => rfl, fun _ _ _ _ _ _ _ => rfl, fun _ _ _ _ _ _ _ _ => rfl,
    fun _ _ _ _ _ _ _ hawake hm => execCloveOutsideAccess_parity hawake hm,
    fun _ _ _ _ _ _ _ hup hon hwarm hdata hd => execPcieInboundRequest_outsideD0 hup hon hwarm hdata hd,
    fun _ _ _ _ _ hup hon hwarm hdata hd hmse => execPcieInboundRequest_bar2 hup hon hwarm hdata hd hmse⟩

end Sys2Proof.Machine

/-! Proofs of the statements of the DMA: the states of its channels, the fetch of a descriptor, bursts, responses and errors (R477 to R502,
R647). -/
namespace Sys2Proof.Machine

/-! ### States of the channels -/

section Channels
variable {n : Fin 32} {s : State}

theorem execDmaEnable_ringOk (hoff : s.chState n.val = 0) (hring : s.ringOk n.val = true) :
    execDmaEnable n true s = .next ((s.fput (F.DMA_CH_CTRL_ENABLE n.val) 1).setCh n.val 1) :=
  congrArg Host.Outcome.next ((if_neg (not_not.mpr hoff)).trans (if_pos hring))

theorem execDmaEnable_ringBad (hoff : s.chState n.val = 0) (hring : s.ringOk n.val = false) :
    execDmaEnable n true s = .next ((s.fput (F.DMA_CH_CTRL_ENABLE n.val) 1).raise (F.DMA_CH_EVENT_RING_BAD n.val)) :=
  congrArg Host.Outcome.next ((if_neg (not_not.mpr hoff)).trans (if_neg (ne_true_of_eq_false hring)))

theorem execDmaEnable_off (hhalted : s.chState n.val = 7) :
    execDmaEnable n false s = .next ((s.fput (F.DMA_CH_CTRL_ENABLE n.val) 0).setCh n.val 0) :=
  congrArg Host.Outcome.next ((if_neg Bool.false_ne_true).trans ((if_neg (by rw [hhalted]; decide)).trans (if_pos hhalted)))

/-- STOP of a channel that is OFF or HALTED is taken back at once (R498). -/
theorem State.dmaStop_idle (h : s.chState n.val = 0 ∨ s.chState n.val = 7) : s.dmaStop n.val = s.fput (F.DMA_CH_CTRL_STOP n.val) 0 := by
  rw [State.dmaStop]
  obtain h | h := h <;> rw [h] <;> rfl

/-- STOP of a channel in WAIT or RUN takes it through STOPPING (R498). -/
theorem State.dmaStop_busy (h : s.chState n.val = 2 ∨ s.chState n.val = 3) :
    s.dmaStop n.val = ((s.fput (F.DMA_CH_CTRL_STOP n.val) 1).setCh n.val 6).settle n.val := by
  rw [State.dmaStop]
  obtain h | h := h <;> rw [h] <;> rfl

theorem execDmaResume_ringOk (hhalted : s.chState n.val = 7) (hring : s.ringOk n.val = true) :
    execDmaResume n s = .next (s.setCh n.val 1) :=
  congrArg Host.Outcome.next ((if_neg (not_not.mpr hhalted)).trans (if_pos hring))

/-- The settings of a channel in OFF or HALTED are taken (R499). -/
theorem not_refused_of_idle (h : s.chState n.val = 0 ∨ s.chState n.val = 7) : ¬ (s.chState n.val ≠ 0 ∧ s.chState n.val ≠ 7) := by
  omega

end Channels

/-- Settles O34: each command at the state of its channel. -/
theorem dmaChannelsEnableStopResumeAndAreSet : Obligations.DmaChannelsEnableStopResumeAndAreSet :=
  ⟨fun _ _ hoff hring => execDmaEnable_ringOk hoff hring, fun _ _ hoff hring => execDmaEnable_ringBad hoff hring,
    fun _ _ hhalted => execDmaEnable_off hhalted, fun _ _ hidle => congrArg Host.Outcome.next (State.dmaStop_idle hidle),
    fun _ _ hbusy => congrArg Host.Outcome.next (State.dmaStop_busy hbusy),
    fun _ _ hhalted hring => execDmaResume_ringOk hhalted hring, fun _ _ hwait => congrArg Host.Outcome.next (if_pos hwait),
    fun _ _ _ hidle => congrArg Host.Outcome.next (if_neg (not_refused_of_idle hidle)),
    fun _ _ _ hidle => congrArg Host.Outcome.next (if_neg (not_refused_of_idle hidle)),
    fun _ _ _ hidle => congrArg Host.Outcome.next (if_neg (not_refused_of_idle hidle)),
    fun _ _ _ _ hoff hhalted => congrArg Host.Outcome.next (if_pos ⟨hoff, hhalted⟩)⟩

/-! ### Descriptors -/

section Descriptors
variable {n : Fin 32} {host : List Byte} {s : State}

/-- A descriptor of 32 bytes with its complement right, fetched from the host window (R483, R487). -/
theorem execDescriptorFetch_host (hfetch : s.chState n.val = 1)
    (hwin : hostWin ≤ (s.ring n.val).1 + 32 * (s.rdN (R.DMA_CH_HEAD n.val) % (s.ring n.val).2)) (hopen : s.hostOpen = true)
    (hlen : host.length = 32) (hown : imgN host 0 1 + imgN host 1 1 = 255) :
    execDescriptorFetch n host true s = .next (
      let a := (s.ring n.val).1 + 32 * (s.rdN (R.DMA_CH_HEAD n.val) % (s.ring n.val).2)
      let u := s.emit (.hostRead (s.hostAddr a) 32)
      let d := dmaDesc a host
      if bitOf (imgN host 0 1) 7 = false then u.setCh n.val 2
      else
        let v := u.chMod' n.val (fun c =>
          { desc := some d, tokens := c.tokens, wtokens := c.wtokens, orphans := c.orphans, bytes := c.bytes,
            err := if u.dmaCheck d = 0 then none else some (u.dmaCheck d, false, 0) })
        if u.dmaCheck d = 0 then v.setCh n.val 3 else ((v.raise (F.DMA_CH_EVENT_ERR n.val)).setCh n.val 5).settle n.val) := by
  have hbytes : (host ++ List.replicate 32 0#8).take 32 = host := List.take_left' hlen
  refine congrArg Host.Outcome.next ((if_neg (not_not.mpr hfetch)).trans ?_)
  rw [if_pos hwin, hbytes, hopen]
  exact (if_neg Bool.false_ne_true).trans ((if_neg (not_not.mpr hown)).trans (if_congr (Bool.not_eq_true' _).to_iff rfl rfl))

theorem execDmaBurst_idle {cyc : Nat} (hpick : (s.accrue cyc).pump.dmaPick = none) :
    execDmaBurst cyc s = .next (s.accrue cyc).pump := by
  simp only [execDmaBurst, hpick]

/-- A burst of the channel that the read engine serves notes its read and pays its tokens (R477, R478, R490). -/
theorem execDmaBurst_served {cyc m o k b slots : Nat} {d : DmaDesc} (hpick : (s.accrue cyc).pump.dmaPick = some m)
    (hread : (s.accrue cyc).pump.nextRead m = some (o, k, b, slots)) (hdesc : ((s.accrue cyc).pump.ch m).desc = some d) :
    execDmaBurst cyc s = .next (
      let u := (s.accrue cyc).pump.chMod' m (fun c =>
        { c with rd := o + k, reads := c.reads ++ [(o, k)], slots := c.slots ++ [(o + k, slots)], tokens := c.tokens - 256 * b })
      ((u.dmaMod (fun x => { x with last := m })).showBuf).doIf (decide (hostWin ≤ d.srcAt o)) (fun w =>
        w.emit (.hostRead (w.hostAddr (readSpan (d.srcAt o) k).1) ((readSpan (d.srcAt o) k).2 - (readSpan (d.srcAt o) k).1)))) := by
  simp only [execDmaBurst, hpick, hread, hdesc]

/-- The completion of a host read puts its bytes into the buffer (R486, R647). -/
theorem execDmaReadResponse_host {o len : Nat} {rest : List (Nat × Nat)} {d : DmaDesc} (hreads : (s.ch n.val).reads = (o, len) :: rest)
    (hdesc : (s.ch n.val).desc = some d) (hwin : hostWin ≤ d.srcAt o) (hopen : s.hostOpen = true) :
    execDmaReadResponse n host true s = .next (((s.chMod' n.val (fun x => { x with reads := rest, buf := x.buf ++
      ((((host ++ List.replicate 512 0#8).drop (d.srcAt o - (readSpan (d.srcAt o) len).1)).take len).map some) })).pump).settle n.val) := by
  rw [execDmaReadResponse, hopen, State.dmaReadBack, hreads, hdesc]
  dsimp only
  rw [if_pos hwin]
  rfl

/-- The response to the oldest write, with none of an earlier descriptor before it (R484, R494). -/
theorem State.dmaWritten_oldest {a : Nat} {bs : List (Option Byte)} {rest : List (Nat × List (Option Byte))} {forced : Option Nat}
    (horphans : (s.ch n.val).orphans = []) (hwrites : (s.ch n.val).writes = (a, bs) :: rest) :
    s.dmaWritten n.val forced = (
      let r := s.dmaWrite n.val a bs forced
      ((((r.1.chMod' n.val (fun x => { x with writes := rest })).forEach r.2 (fun u e => u.dmaFail n.val 8 e.1 e.2)).pump).fenceCheck
        n.val).settle n.val) := by
  simp only [State.dmaWritten, horphans, hwrites]

end Descriptors

/-- Settles O35: each command at the case that its conditions choose, both answers to a write by `State.dmaWritten_oldest`. -/
theorem dmaDescriptorsAreFetchedAndServed : Obligations.DmaDescriptorsAreFetchedAndServed :=
  ⟨fun _ _ _ hfetch hwin hopen hlen hown => execDescriptorFetch_host hfetch hwin hopen hlen hown,
    fun _ _ hpick => (execDmaBurst_idle hpick :),
    fun _ _ _ _ _ _ _ _ hpick hread hdesc => (execDmaBurst_served hpick hread hdesc :),
    fun _ _ _ _ _ _ _ hreads hdesc hwin hopen => (execDmaReadResponse_host hreads hdesc hwin hopen :),
    fun _ _ _ _ _ horphans hwrites => congrArg Host.Outcome.next (State.dmaWritten_oldest horphans hwrites),
    fun _ _ hfence => congrArg Host.Outcome.next (if_neg (not_not.mpr hfence)),
    fun _ _ _ _ _ _ horphans hwrites => congrArg Host.Outcome.next (State.dmaWritten_oldest horphans hwrites),
    fun _ _ hreading => congrArg Host.Outcome.next (if_neg (by rw [hreading]; decide))⟩

end Sys2Proof.Machine

/-! Proofs of the statements of the mailboxes and of the Curators: posts, acknowledgements, locks and timeouts, the lease and the health
words (R506 to R529). -/
namespace Sys2Proof.Machine

/-! ### Mailboxes -/

section Mailboxes
variable {k : Fin 48} {d : Fin 2} {m : Fin 32} {v : Word} {s : State}

theorem execPost_accepted (h : s.postRefusal k.val d.val m.val v = 0) :
    execPost k d m v s = .next (
      let u := ((s.mbUnstage k.val d.val).mbUnlock k.val d.val m.val).mbPresent k.val d.val
        (s.rdN (R.MBOX_D_POST_LO k.val d.val) + v.toNat % 256 * 2 ^ 32) (v.toNat / 2 ^ 16) 0 (senderOf m.val)
      if isRemote k.val && d.val == 1 then u.mbOutbound k.val (v.toNat / 2 ^ 16) else u) :=
  congrArg Host.Outcome.next (if_neg (not_not.mpr h))

/-- An acknowledgement by a receiver of a held notice, whose code its complement and a VOID notice allow (R523). -/
theorem execAck_accepted (hrecv : (s.mbReceivers k.val d.val).contains m.val = true)
    (hcompl : v.toNat % 65536 + v.toNat / 65536 = 65535) (hheld : s.mbState k.val d.val ≠ 0)
    (hvoid : (bitOf (s.mbGetFlags k.val d.val) 1 && v.toNat % 65536 != 0xFF00) = false) :
    execAck k d m v s = .next (
      let u := s.mbComplete k.val d.val (v.toNat % 65536)
      if isRemote k.val && d.val == 0 then
        u.sendLink (remotePort k.val) 0x31 (leBytes 2 ((k.val - 36) % 4) ++ leBytes 2 (v.toNat % 65536))
      else u) :=
  congrArg Host.Outcome.next ((if_neg (by rw [hrecv]; decide)).trans ((if_neg (not_not.mpr hcompl)).trans ((if_neg hheld).trans
    (if_neg (ne_true_of_eq_false hvoid)))))

/-- A sender of a direction of two or more that finds the lock free becomes its owner (R528). -/
theorem execLockRead_free (hmany : 2 ≤ (s.mbSenders k.val d.val).length) (hsender : (s.mbSenders k.val d.val).contains m.val = true)
    (hfree : s.fget (F.MBOX_D_STATE_LOCK_OWNER k.val d.val) = 0) :
    execLockRead k d m s = .next ((s.emit (.read (R.MBOX_D_LOCK k.val d.val) (s.lockValue k.val d.val m.val))).fput
      (F.MBOX_D_STATE_LOCK_OWNER k.val d.val) (m.val + 1)) :=
  congrArg Host.Outcome.next (if_pos (by rw [decide_eq_true hmany, hsender, hfree]; decide))

theorem execMailboxTimeout_held (hawake : s.mode ≠ 0) (hheld : s.mbState k.val d.val ≠ 0)
    (hon : s.fget (F.MBOX_CFG_ACK_TIMEOUT k.val) ≠ 0) :
    execMailboxTimeout k d s = .next ((((s.mbFree k.val d.val false).wrN (R.MBOX_D_ACK_STATUS k.val d.val) 0x8000FFFE).mbEvent k.val
      d.val 2).count R.MBOX_TIMEOUTS) :=
  congrArg Host.Outcome.next (if_neg (not_or.mpr ⟨hawake, not_or.mpr ⟨hheld, hon⟩⟩))

end Mailboxes

section Remote
variable {b : List Byte} {m : Msg} {s : State}

/-- A MBOX of the port CHAIN_UP for a free direction (R524). -/
theorem execMbox_free (hup : s.portUp 0 = true) (hcheck : s.msgCheck 0 b = some m) (htyp : m.typ = 0x30)
    (hfree : s.mbState (36 + imgN m.body 0 1 % 4) 0 = 0) :
    execMbox 0 b s = .next ((s.stBytes (rxBuf (imgN m.body 0 1 % 4)) (m.body.drop 4)).mbPresent (36 + imgN m.body 0 1 % 4) 0
      (rxBuf (imgN m.body 0 1 % 4)) (m.body.drop 4).length 8 (0x5000 + s.peerAddr 0)) := by
  have hplace : 36 + imgN m.body 0 1 % 4 - 36 = imgN m.body 0 1 % 4 := Nat.add_sub_cancel_left ..
  refine congrArg Host.Outcome.next ((State.takeMsg_checked _ hup hcheck htyp).trans ((if_neg (not_not.mpr hfree)).trans ?_))
  show State.mbPresent (State.stBytes s (rxBuf (36 + imgN m.body 0 1 % 4 - 36)) _) _ 0 (rxBuf (36 + imgN m.body 0 1 % 4 - 36)) _ 8 _ = _
  rw [hplace]
  rfl

/-- A MBOX_ACK of the port CHAIN_DN for a held notice (R523, R524). -/
theorem execMboxAck_held (hup : s.portUp 1 = true) (hcheck : s.msgCheck 1 b = some m) (htyp : m.typ = 0x31)
    (hheld : s.mbState (40 + imgN m.body 0 1 % 4) 1 ≠ 0) :
    execMboxAck 1 b s = .next (s.mbComplete (40 + imgN m.body 0 1 % 4) 1 (imgN m.body 2 2)) :=
  congrArg Host.Outcome.next ((State.takeMsg_checked _ hup hcheck htyp).trans (if_neg hheld))

end Remote

/-- Settles O21: each command at the case that its conditions choose; LOCK_RELEASE and NOTICE_READ by their definitions. -/
theorem mailboxesPostReadAndAcknowledge : Obligations.MailboxesPostReadAndAcknowledge :=
  ⟨fun _ _ _ _ _ h => execPost_accepted h,
    fun _ _ _ _ _ hrecv hcompl hheld hvoid => execAck_accepted hrecv hcompl hheld hvoid,
    fun _ _ _ _ hmany hsender hfree => execLockRead_free hmany hsender hfree, fun _ _ _ _ => rfl, fun _ _ _ => rfl,
    fun _ _ _ hawake hheld hon => execMailboxTimeout_held hawake hheld hon,
    fun _ _ hheld => congrArg Host.Outcome.next (if_neg (by rw [hheld]; decide)),
    fun _ _ _ hup hcheck htyp hfree => execMbox_free hup hcheck htyp hfree,
    fun _ _ _ hup hcheck htyp hheld => execMboxAck_held hup hcheck htyp hheld⟩

/-! ### The lease and the health words -/

section Lease
variable {m : Fin 32} {c : Fin 2} {v : Word} {s : State}

theorem execLeaseClaim_qualified (hfree : s.activeCur = none) (hcur : m.val < 2) (hqual : s.curQualified m.val = true)
    (hword : v.toNat = leaseWord (m.val + 1)) : execLeaseClaim m v s = .next ((s.giveLease m.val).raise F.CORE_EVENT_TAKEOVER) :=
  congrArg Host.Outcome.next (if_pos ⟨by rw [hfree]; rfl, hcur, hqual, hword⟩)

theorem execLeaseExpiry_over {a : Nat} (hactive : s.activeCur = some a) (hawake : s.mode ≠ 0) (hover : s.leaseOver = true) :
    execLeaseExpiry s = .next (s.leaveLease a) := by
  rw [execLeaseExpiry, hactive]
  exact congrArg Host.Outcome.next (if_pos (by simpa [hover] using hawake))

theorem execYield_passed (hactive : s.activeCur = some m.val) (hqual : s.curQualified (1 - m.val) = true) :
    execYield m s = .next (((s.giveLease (1 - m.val)).completeKeys (s.activeKeys m.val)).enterBoot m.val true).noteTransfer :=
  congrArg Host.Outcome.next ((if_neg (not_not.mpr hactive)).trans (if_pos hqual))

theorem execYield_refused (hactive : s.activeCur = some m.val) (hqual : s.curQualified (1 - m.val) = false) :
    execYield m s = .next (s.raise F.CORE_EVENT_YIELD_REFUSED) :=
  congrArg Host.Outcome.next ((if_neg (not_not.mpr hactive)).trans (if_neg (ne_true_of_eq_false hqual)))

/-- A Curator in BOOT that writes its health word goes on to role 2 (R506, R516). -/
theorem execHealthWrite_boot (hown : m.val = c.val) (hboot : s.role c.val = 1) :
    execHealthWrite m c v s = .next (((({ s with time := { s.time with ageTicks := tset 0 s.time.ageTicks c.val 0 } }.wr
      (R.CORE_HEALTH c.val) (v &&& 0xFFFF1FFF#32)).clr (R.CORE_HEALTH_AGE c.val)).showGood c.val).setRole c.val 2) :=
  congrArg Host.Outcome.next ((if_neg (not_not.mpr hown)).trans (if_pos hboot))

end Lease

/-- Settles O28: each command at the case that its conditions choose. -/
theorem leaseAndHealthOfTheCurators : Obligations.LeaseAndHealthOfTheCurators :=
  ⟨fun _ _ hactive => congrArg Host.Outcome.next (if_pos ⟨hactive, rfl⟩),
    fun _ _ _ hfree hcur hqual hword => execLeaseClaim_qualified hfree hcur hqual hword,
    fun _ _ hactive hawake hover => execLeaseExpiry_over hactive hawake hover,
    fun _ _ hactive hqual => execYield_passed hactive hqual, fun _ _ hactive hqual => execYield_refused hactive hqual,
    fun _ _ hactive => congrArg Host.Outcome.next (if_pos hactive), fun _ _ hheld => congrArg Host.Outcome.next (if_pos hheld),
    fun _ _ hactive hon => congrArg Host.Outcome.next (if_pos ⟨hactive, hon⟩),
    fun _ hon => congrArg Host.Outcome.next (if_pos hon), fun _ _ _ _ hown hboot => execHealthWrite_boot hown hboot,
    fun _ _ hold => congrArg Host.Outcome.next (if_pos hold),
    fun _ _ hother => congrArg Host.Outcome.next (if_neg (fun h => hother h.1)),
    fun _ _ _ hactive => congrArg Host.Outcome.next (if_pos hactive)⟩

end Sys2Proof.Machine

/-! Proofs of the statements of the interrupts and of the power states: sources, entries and exits, the host vectors, SLEEP and WAKE, the
resets, the THERMTRIP latch and the rounds of the power manager (R579 to R638). -/
namespace Sys2Proof.Machine

/-! ### Interrupts -/

section Interrupts
variable {k : Fin 656} {c : Fin 2} {e : Nat × Nat} {s : State}

theorem execSourceRise_low (hlow : s.irq.level.contains k.val = false) (hinput : s.sourceInput k.val ≠ some false) :
    execSourceRise k s = .next (
      let u := s.irqMod (fun i => { i with level := i.level ++ [k.val] })
      u.forEach (u.irqTargets k.val) (fun u t => u.irqPend k.val t)) :=
  congrArg Host.Outcome.next (if_neg (by rw [hlow, beq_false_of_ne hinput]; decide))

/-- The fall of an edge source changes its level alone (R579). -/
theorem execSourceFall_edge (hhigh : s.irq.level.contains k.val = true) (hinput : s.sourceInput k.val ≠ some true)
    (hedge : s.irqEdge k.val = true) :
    execSourceFall k s = .next (s.irqMod (fun i => { i with level := i.level.filter (fun x => x != k.val) })) :=
  congrArg Host.Outcome.next ((if_neg (by rw [hhigh, beq_false_of_ne hinput]; decide)).trans (if_pos hedge))

theorem execFastEntry_winner (hwinner : s.winner c.val true = some e) (hmay : s.mayFast c.val = true) :
    execFastEntry c false s = .next ((s.setExit c.val false).enterFast c.val e) := by
  rw [execFastEntry, hwinner]
  exact congrArg Host.Outcome.next (if_neg (by rw [hmay]; decide))

theorem execNormalEntry_winner (hwinner : s.winner c.val false = some e) (hmay : s.mayNormal c.val = true)
    (hexit : s.exiting c.val = false) (hfast : s.winner c.val true = none) :
    execNormalEntry c s = .next ((s.doIf (!s.fbit (F.IRQ_CUR_STATUS_FRAME c.val)) (fun u => u.pushFrame c.val)).enterNormal c.val e) := by
  rw [execNormalEntry, hwinner]
  exact congrArg Host.Outcome.next (if_neg (by rw [hmay, hexit, hfast]; simp))

theorem execNormalExit_running (hexit : s.exiting c.val = true) (hruns : s.curRuns c.val = true) :
    execNormalExit c s = .next ((s.popFrame c.val).setExit c.val false) :=
  congrArg Host.Outcome.next (if_pos (by rw [hexit, hruns]; rfl))

end Interrupts

/-- Settles O27: each command at the case that its conditions choose; the commands of the host by their definitions. -/
theorem interruptsRiseFallAndAreDelivered : Obligations.InterruptsRiseFallAndAreDelivered :=
  ⟨fun _ _ hlow hinput => execSourceRise_low hlow hinput, fun _ _ hhigh hinput hedge => execSourceFall_edge hhigh hinput hedge,
    fun _ _ _ hwinner hmay => execFastEntry_winner hwinner hmay,
    fun _ _ _ hwinner hmay hexit hfast => execNormalEntry_winner hwinner hmay hexit hfast,
    fun _ _ hexit hruns => execNormalExit_running hexit hruns, fun _ _ hawake => congrArg Host.Outcome.next (if_neg hawake),
    fun _ _ => rfl, fun _ => rfl, fun _ _ => rfl, fun _ _ _ _ _ _ => rfl⟩

/-! ### SLEEP and WAKE -/

section Sleep
variable {s : State}

theorem execSleep_accepted (hcode : s.sleepRefusal = 0) :
    execSleep s = .next (
      let s2 := (s.doIf (s.shadowSt == 5) State.cancelAcc).forEach (List.range 32) (fun u n =>
        let v := u.dmaStop n
        if v.chState n = 6 ∨ v.chState n = 5 then v.setCh n 0 else v)
      let s3 := (s2.forEach ((List.range 192).filter (fun n => s2.laneState n != 0)) (fun u n => u.enterOff n false)).timeSleep
      ((((((s3.hbmMod (fun h => { h with rows := [] })).carrelLose (s3.fresh + 1)).tick1.fput F.POWER_STATUS_MODE 0).commandCore
        680).count R.POWER_SLEEPS).showIdle 0).showIdle 1) :=
  congrArg Host.Outcome.next (if_neg (not_not.mpr hcode))

theorem execWake_asleep {w : Bool} (hasleep : s.mode = 0) (hcause : (w || s.wakeSource) = true) :
    execWake w s = .next (
      let s0 := s.fput F.POWER_STATUS_MODE 1
      let s1 := (s0.commandCore s0.coreTrim).doIf (!s.reusable s.rateWanted) (fun u => u.enterPhase 3)
      let s2 := (((s1.unhold s1.irq.held).countBy R.IRQ_BYPASS s1.irq.held.length).showIdle 0).showIdle 1
      let s3 := s2.forEach (List.range 24) (fun u q =>
        if u.fbit (F.QUIRE_STATUS_PLL_LOCK q) then
          u.forEach (u.enabledLanes q) (fun v n => if v.laneState n = 0 then v.enterDetect n false else v)
        else u)
      let s4 := s3.doIf s3.activeCur.isSome State.loadLease
      ((s4.chMod (fun c => { c with resume := !s4.isHead && s4.hasAddr })).raise F.POWER_EVENT_WOKE).reselect false) :=
  congrArg Host.Outcome.next (if_neg (by rw [hcause]; simp [hasleep]))

end Sleep

/-! ### Resets and the THERMTRIP latch -/

section Resets
variable {s : State} (hlatch : s.power.tripped = none)
include hlatch

theorem not_tripped : ¬ s.power.tripped.isSome = true := by
  rw [hlatch]
  exact Bool.false_ne_true

theorem execCold_unlatched {v : Bool} (hpower : s.boot.off = false ∨ v = true) : execCold v s = .next (s.restart true) :=
  have hmay : ¬ (s.power.tripped.isSome || (s.boot.off && !v)) = true := by
    obtain hon | hv := hpower
    · simp [hlatch, hon]
    · simp [hlatch, hv]
  congrArg Host.Outcome.next (if_neg hmay)

theorem execWarm_unlatched (hon : s.boot.off = false) : execWarm s = .next (s.restart false) :=
  congrArg Host.Outcome.next (if_neg (by simp [hlatch, hon]))

/-- THERMTRIP of a cause that holds: a diode that has not failed, a model point at 118 °C, or CATTRIP (R637, R638). -/
theorem execThermtrip_holds {d : Fin 18} (hdiode : d.val < 16 → s.fbit (F.POWER_DIODE_FAILED d.val) = false)
    (hmodel : d.val = 16 → (List.range 64).any (fun i => decide (118 ≤ s.power.base + tget 0 s.power.rise i)) = true) :
    execThermtrip d s = .next { s.railsDown.unpowered.wr R.BOOT_STATUS (s.rd R.BOOT_STATUS) with
      power := { s.railsDown.unpowered.power with tripped := some (if d.val < 16 then 1 else if d.val = 16 then 2 else 3) }
      tap := s.tap } := by
  have hhit : (if d.val < 16 then !s.fbit (F.POWER_DIODE_FAILED d.val)
      else if d.val = 16 then (List.range 64).any (fun i => decide (118 ≤ s.power.base + tget 0 s.power.rise i)) else true) = true := by
    split
    case isTrue h => rw [hdiode h]; rfl
    case isFalse =>
      split
      case isTrue h => exact hmodel h
      case isFalse => rfl
  have hacts : ¬ (s.power.tripped.isSome || !(if d.val < 16 then !s.fbit (F.POWER_DIODE_FAILED d.val)
      else if d.val = 16 then (List.range 64).any (fun i => decide (118 ≤ s.power.base + tget 0 s.power.rise i)) else true)) = true := by
    rw [hhit, hlatch]
    decide
  exact congrArg Host.Outcome.next (if_neg hacts)

end Resets

theorem execWarm_latched {c : Nat} {s : State} (hlatch : s.power.tripped = some c) : execWarm s = .next s :=
  congrArg Host.Outcome.next (if_pos (by rw [hlatch]; rfl))

/-- Settles O24: each command at the case that its conditions choose; the others have one case. -/
theorem powerStatesAndResets : Obligations.PowerStatesAndResets :=
  ⟨fun _ hcode => congrArg Host.Outcome.next (if_pos hcode), fun _ hcode => execSleep_accepted hcode,
    fun _ _ hasleep hcause => execWake_asleep hasleep hcause, fun _ _ hlatch hpower => execCold_unlatched hlatch hpower,
    fun _ hlatch hon => execWarm_unlatched hlatch hon, fun _ hlatch => congrArg Host.Outcome.next (if_neg (not_tripped hlatch)),
    fun _ _ hlatch => execWarm_latched hlatch, fun _ => rfl, fun _ _ hlatch hdiode hmodel => execThermtrip_holds hlatch hdiode hmodel,
    fun _ hlatch => congrArg Host.Outcome.next (if_neg (not_tripped hlatch)), fun _ => rfl,
    fun _ _ _ hfast hawake => congrArg Host.Outcome.next (if_pos (by simpa [hfast] using hawake)), fun _ _ _ _ _ _ => rfl,
    fun _ _ => rfl⟩

end Sys2Proof.Machine

/-! Proofs of the statements of firmware, the test access port and snapshots (R616, R639, R651 to R660, R687). -/
namespace Sys2Proof.Machine

/-! ### Firmware commands -/

section Firmware
variable {s : State}

theorem execFwDone_awaited (hload : s.fwState = 1) :
    execFwDone s = .next (
      let code := fwCheck (s.rdN R.HOSTIF_FW_ROLLBACK) s.sramImage
      if code ≠ 0 then s.fwResult code else ((s.fput F.HOSTIF_FW_STATUS_STATE 0).fwResult 0).fwTake 2 (fwVersion s.sramImage)) :=
  congrArg Host.Outcome.next (if_neg (not_not.mpr hload))

theorem execFwStore_blocked (hstate : s.fwWrong = false) (hbusy : s.storeBlocked = true) :
    execFwStore s = .next (s.noteProg.fwResult 8) :=
  congrArg Host.Outcome.next ((if_neg (ne_true_of_eq_false hstate)).trans (if_pos hbusy))

/-- The end of a write of firmware or of the boot block (R660). -/
theorem execFwStoreComplete_firmware {w : StoreWrite} {b : List Byte} (hwrite : s.cat.storing = some w) (hkind : 2 ≤ w.kind) :
    execFwStoreComplete b s = .next (
      let r := s.endStore w b
      let s1 := r.1.fput F.HOSTIF_FW_STATUS_STATE 0
      if r.2 then s1.fwResult 0
      else ((s1.tick1.fput F.HOSTIF_FW_STATUS_STATE 3).fput F.HOSTIF_FW_STATUS_RESULT (Config.freeNat s1.fresh)).raise
        F.HOSTIF_EVENT_FW_FAIL) := by
  rw [execFwStoreComplete, hwrite]
  exact congrArg Host.Outcome.next (if_neg hkind.not_gt)

theorem execSetFirst_accepted (hstate : s.fwWrong = false) (hbusy : s.storeBlocked = false) :
    execSetFirst s = .next (
      (s.startBoot 3 (fun b => { b with fwFirst := s.fget F.HOSTIF_FW_CTRL_SLOT })).fput F.HOSTIF_FW_STATUS_STATE 2) :=
  congrArg Host.Outcome.next ((if_neg (ne_true_of_eq_false hstate)).trans (if_neg (ne_true_of_eq_false hbusy)))

theorem execBumpRollback_accepted (hstate : s.fwWrong = false) (hbusy : s.storeBlocked = false) :
    execBumpRollback s = .next (
      let n := max s.host.fuses (min 64 (s.rdN R.HOSTIF_FW_VERSION))
      ({ s with host := { s.host with fuses := n } }.wrN R.HOSTIF_FW_ROLLBACK n).fwResult 0) :=
  congrArg Host.Outcome.next ((if_neg (ne_true_of_eq_false hstate)).trans (if_neg (ne_true_of_eq_false hbusy)))

end Firmware

/-- Settles O30: each command at the case that its conditions choose. -/
theorem firmwareCommandsOfTheHost : Obligations.FirmwareCommandsOfTheHost :=
  ⟨fun _ hload => congrArg Host.Outcome.next (if_pos hload), fun _ hload => congrArg Host.Outcome.next (if_neg (not_not.mpr hload)),
    fun _ hload => execFwDone_awaited hload, fun _ hstate => congrArg Host.Outcome.next (if_pos hstate),
    fun _ hstate hbusy => execFwStore_blocked hstate hbusy, fun _ _ _ hwrite hkind => execFwStoreComplete_firmware hwrite hkind,
    fun _ hstate hbusy => execSetFirst_accepted hstate hbusy, fun _ hstate => congrArg Host.Outcome.next (if_pos hstate),
    fun _ hstate hbusy => execBumpRollback_accepted hstate hbusy⟩

/-! ### The test access port -/

/-- Settles O32: each instruction is what its definition says; none has a condition. -/
theorem testPortScansItsRegisters : Obligations.TestPortScansItsRegisters :=
  ⟨fun _ _ => rfl, fun _ _ => rfl, fun _ _ _ => rfl, fun _ _ _ => rfl, fun _ _ => rfl, fun _ _ => rfl, fun _ _ _ => rfl,
    fun _ _ _ => rfl, fun _ _ => rfl⟩

/-! ### Snapshots -/

section Snapshots
variable {s : State}

/-- Storing the way of choosing leaves the request in progress as it was (R653). -/
theorem State.pending_fput_next (n : Nat) : (s.fput F.SNAP_CTRL_NEXT n).fbit F.SNAP_STATUS_PENDING = s.fbit F.SNAP_STATUS_PENDING := by
  rw [State.fbit, State.fget_fput_other _ _ _ _ (by decide), State.fbit]

/-- With a snapshot pending a request is refused with code 0x22 (R653). -/
theorem State.snapRequest_pending {req : Nat} {chain : Bool} (hpending : s.fbit F.SNAP_STATUS_PENDING = true) :
    (s.snapRequest req chain).1 = (s.fput F.SNAP_STATUS_REASON 0x22).raise F.HOSTIF_EVENT_SNAP_REFUSED := by
  simp [State.snapRequest, hpending]

/-- A request for a later SI whose boundary comes before the end of SIs is scheduled there (R653). -/
theorem State.snapRequest_scheduled {req : Nat} {chain : Bool} (hnone : s.fbit F.SNAP_STATUS_PENDING = false) (hlater : s.siNow < req)
    (hend : s.boundaryAt req ≤ siEnd) :
    (s.snapRequest req chain).1 = { ((s.fput F.SNAP_STATUS_PENDING 1).fput F.SNAP_STATUS_CHAIN (b2n chain)).wr64 R.SNAP_RESOLVED_SI_LO
      R.SNAP_RESOLVED_SI_HI (s.boundaryAt req) with snap := {} } := by
  have hcode : (if s.fbit F.SNAP_STATUS_PENDING then 0x22 else if req ≤ s.siNow then 0x20 else if siEnd < s.boundaryAt req then 0x21
      else 0) = 0 :=
    (if_neg (ne_true_of_eq_false hnone)).trans ((if_neg hlater.not_ge).trans (if_neg hend.not_gt))
  rw [State.snapRequest, hcode]
  rfl

theorem execSnapshotLatch_reached {b : Fin 21} (hpending : s.fbit F.SNAP_STATUS_PENDING = true)
    (hnew : s.snap.blocks.contains b.val = false)
    (hreached : s.blockReached b.val (s.rd64 R.SNAP_RESOLVED_SI_LO R.SNAP_RESOLVED_SI_HI) = true) :
    execSnapshotLatch b s = .next (
      let r := s.latchBlock b.val
      let u : State := { r.1 with snap := { s.snap with
        blocks := s.snap.blocks ++ [b.val], words := r.2.foldl (fun t e => tset 0#32 t e.1 e.2) s.snap.words } }
      u.doIf (b.val == 2) (fun w => w.emit (.pulse 515))) :=
  congrArg Host.Outcome.next (if_neg (by rw [hpending, hnew, hreached]; decide))

theorem execSnapDone_early (h : (s.fbit F.SNAP_STATUS_PENDING && (List.range 21).all (fun b => s.snap.blocks.contains b)) = false) :
    execSnapDone s = .next s :=
  congrArg Host.Outcome.next (if_pos (by rw [← Bool.not_and, h]; rfl))

/-- The whole set comes into force in the other image (R654). -/
theorem execSnapDone_whole (hpending : s.fbit F.SNAP_STATUS_PENDING = true)
    (hall : (List.range 21).all (fun b => s.snap.blocks.contains b) = true) :
    execSnapDone s = .next (
      let k := 1 - s.fget F.SNAP_STATUS_IMAGE
      let s2 := (s.writeImage k s.snap.words).forEach [R.TIME_SNAP_NS_LO, R.TIME_SNAP_NS_HI, R.TIME_SNAP_FRAC] (fun u a =>
        u.wr a (tget 0#32 s.snap.words a))
      let s3 := s2.wr64 R.SNAP_DONE_SI_LO R.SNAP_DONE_SI_HI (s.rd64 R.SNAP_RESOLVED_SI_LO R.SNAP_RESOLVED_SI_HI)
      let s4 := (s3.fput F.SNAP_STATUS_IMAGE k).fput F.SNAP_STATUS_SEQ (s.fget F.SNAP_STATUS_SEQ + 1)
      { ((s4.fput F.SNAP_STATUS_PENDING 0).fput F.SNAP_STATUS_COMPLETE 1).raise F.HOSTIF_EVENT_SNAP_DONE with snap := {} }) :=
  congrArg Host.Outcome.next (if_neg (by rw [hpending, hall]; decide))

end Snapshots

/-- Settles O33: requests by the lemmas of `State.snapRequest`, latches and the end at the case that their conditions choose. -/
theorem snapshotsAreRequestedLatchedAndDone : Obligations.SnapshotsAreRequestedLatchedAndDone :=
  ⟨fun n _ hpending => congrArg Host.Outcome.next (State.snapRequest_pending ((State.pending_fput_next (b2n n)).trans hpending)),
    fun _ hnone hlater hend => congrArg Host.Outcome.next
      (State.snapRequest_scheduled ((State.pending_fput_next 1).trans hnone) hlater hend),
    fun _ _ hpending hnew hreached => execSnapshotLatch_reached hpending hnew hreached, fun _ h => execSnapDone_early h,
    fun _ hpending hall => execSnapDone_whole hpending hall⟩

end Sys2Proof.Machine
